-- ==== Sys2Proof/Word.lean ====
section
/-! DEFINITION. Words of the KF-320: bytes, quadwords and 256-bit record data, and the sparse table of plain data. -/

namespace Sys2Proof

/-- One byte. -/
abbrev Byte := BitVec 8

/-- One quadword (R382). -/
abbrev Word64 := BitVec 64

/-- The data of one record, up to four quadwords (R389, Table 13.6). -/
abbrev Rec := BitVec 256

/-- A time, in units of 2^-10 ns (R7). -/
abbrev Time := Nat

/-- A sparse table: keys strictly rising, and no entry equal to the default. -/
abbrev Tbl (α : Type) := List (Nat × α)

end Sys2Proof
end

