-- ==== Sys2Proof/Syntax.lean ====
section
/-! DEFINITION. The commands of the part, one constructor per row of spec/opcode_table.json, and the operands they carry.
Every command carries `dt`, the time that has passed since the command before it (units of 2^-10 ns, R7). -/

namespace Sys2Proof

/-- Completion status (Unsupported Request, Completer Abort, Request Retry Status as the rules name them). -/
inductive CplStatus where
  | sc | ur | crs | ca
deriving DecidableEq, Repr

/-- Messages that Table 7.7 tells apart. -/
inductive MsgKind where
  | assertIntx (pin : Nat) | deassertIntx (pin : Nat)
  | pmPme | pmeTurnOff | pmeToAck
  | errCor | errNonFatal | errFatal
  | ltr | obff
  | vdmById | vdmOther
  | unlock
  | ptmRequest | ptmResponse | ptmResponseD (time delay : Nat)
  | setSlotPowerLimit (value scale : Nat)
deriving DecidableEq, Repr

/-- TLP kinds the chapters tell apart. -/
inductive TlpKind where
  | memRead | memReadLocked | memWrite | atomic
  | cfgRead | cfgWrite | ioRead | ioWrite
  | completion (st : CplStatus)
  | message (m : MsgKind)
deriving DecidableEq, Repr

/-- One TLP as the ingress parses it. `len` is the number of bytes it reads or writes from its first enabled to its last
enabled byte (R265), `payload` its payload length, `frameBytes` the whole frame of R34, `targetId` the ID by which a
completion, configuration request or routed message is routed. -/
structure Tlp where
  kind       : TlpKind
  tc         : Nat := 0
  addr       : Nat := 0
  len        : Nat := 0
  payload    : Nat := 0
  frameBytes : Nat := 16
  rid        : Nat := 0
  tag        : Nat := 0
  targetId   : Nat := 0
  byteCount  : Nat := 0
  opSize     : Nat := 0
  ide        : Bool := false
  pasid      : Bool := false
  translated : Bool := false
  poisoned   : Bool := false
  relaxed    : Bool := false
  idBased    : Bool := false
  /-- The ECRC: 0 for none, 1 for one that passes its check, 2 for one that fails it. -/
  ecrc       : Nat := 0
  data       : List Byte := []
deriving DecidableEq, Repr

/-- The mover's work tag (Table 9.9). -/
structure WorkTag where
  engine : Nat
  func   : Nat
  ctx    : Nat
  gen    : Nat
  column : Nat
  shard  : Nat
  frame  : Nat
  ctxSeq : Nat
deriving DecidableEq, Repr

/-- One record of a NOTICE cell (Table 6.6); cause 0 is a departure. -/
structure Notice where
  tag   : WorkTag
  cause : Nat
deriving DecidableEq, Repr

/-- One record of an ACK cell (Table 7.4). -/
structure AckRec where
  srcPort : Nat
  dstDev  : Nat
  dstPort : Nat
  svc     : Nat
  seq     : Nat
  nak     : Bool
  cause   : Nat
  farTime : Nat
deriving DecidableEq, Repr

/-- Header fields of a spoke cell that Table 6.3 gives, beside its type and payload length. -/
structure CellHdr where
  type       : Nat
  pos        : Nat
  svc        : Nat
  rcv        : Bool
  colour     : Nat
  mark       : Bool
  dstDev     : Nat
  dstPort    : Nat
  srcDev     : Nat
  srcPort    : Nat
  subscriber : Nat
  hops       : Nat
  streamSeq  : Nat
  len        : Nat
deriving DecidableEq, Repr

/-- What a cell's payload carries: the first cell of a frame stands for the TLP whose bytes the frame's cells carry (R174). -/
inductive CellBody where
  | tlp (t : Tlp) (work : Option WorkTag)
  | more
  | notices (ns : List Notice)
  | acks (as : List AckRec)
  | mgmt (code : Nat) (payload : List Nat)
deriving DecidableEq, Repr

/-- A code-group of a spoke lane as it arrives at the balls, bit a first (R164). -/
abbrev CodeGroup := BitVec 10

/-- A beat: the code-groups of the lanes in use, in ascending lane order (R165). -/
abbrev Beat := List CodeGroup

/-- One spoke cell: header, payload and the trailer of Table 6.5. -/
structure Cell where
  hdr      : CellHdr
  body     : CellBody
  lseq     : Nat
  ackSeq   : Nat
  ackV     : Bool
  ageStamp : Nat
  /-- The payload's bytes. -/
  data     : List Byte := []
deriving DecidableEq, Repr

/-- How the DMA fetch of a command's payload ended. -/
inductive DmaResult where
  | ok | denied | timedOut | lostWord
deriving DecidableEq, Repr

/-- What an MCTP message carries about itself (R372): whether its packet error code is right, the target address it was sent to (none: the one
at which the endpoint answers now), its message type and IANA number. -/
structure Mctp where
  pecOk   : Bool := true
  addr    : Option Nat := none
  msgType : Nat := 0x7F
  iana    : Nat := 61207
deriving DecidableEq, Repr

/-- A command as it stands in a mailbox: header and payload (Table 13.1). -/
structure Req where
  mb   : Nat
  hdr0 : Word64
  hdr1 : Word64 := 0
  pay  : List Word64 := []
  dma  : DmaResult := .ok
  mctp : Mctp := {}
  /-- The device whose mailbox issued a peg that is carried here (R398); none for a command of this device's mailboxes. -/
  carried : Option Nat := none
deriving DecidableEq, Repr

/-- A write of one configuration register that the rules give a behaviour (Table 5.1, R139, R142, R150, R153, R241, R249, R315, R316).
Bits stand where the standard has them: `slotControl` and `slotStatus` 1 Power Fault, 3 Presence Detect, 4 Command Completed, 5 Hot-Plug
Interrupt Enable, 8 (status) and 12 (enable) Data Link Layer State; `errReporting` 0 correctable, 1 non-fatal, 2 fatal; `acs` 0 source
validation, 1 translation blocking, 2 request redirect, 3 completion redirect, 4 upstream forwarding, 5 egress control, 6 direct
translated. -/
inductive CfgWrite where
  | busNumbers (sec sub : Nat)
  | memRange (base limit : Nat)
  | prefRange (base limit : Nat)
  | ioRange (base limit : Nat)
  | memSpaceEnable (on : Bool)
  | maxPayload (bytes : Nat)
  | maxReadReq (bytes : Nat)
  | dpc (enable : Bool) (completionUr : Bool)
  | atomicEgressBlocking (on : Bool)
  | poisonEgressBlocking (on : Bool)
  | dpcInterrupt (on : Bool)
  | dpcSoftwareTrigger
  | corrInternalMask (on : Bool)
  | bar (vf : Bool) (base : Nat)
  | ioSpaceEnable (on : Bool)
  | interruptDisable (on : Bool)
  | slotControl (enables : Nat)
  | slotStatus (ones : Nat)
  | errReporting (enables : Nat)
  | aerStatus (cor unc : Nat)
  | aerMasks (cor unc severity : Nat)
  | acs (control vector : Nat)
  | ecrcCheck (on : Bool)
  | ariForwarding (on : Bool)
  | ptmEnable (on : Bool)
  | other (reg : Nat) (value : Nat)
deriving DecidableEq, Repr

/-- A configuration register, or a group of its fields, that is read. -/
inductive CfgReg where
  /-- Vendor, device, revision, class code, header type, subsystem vendor, subsystem (Table 5.5). -/
  | identity
  /-- Memory Space Enable, I/O Space Enable, Interrupt Disable. -/
  | command
  | interruptPin
  | busNumbers
  | memRange
  | prefRange
  | ioRange
  /-- Max_Payload_Size, Max_Read_Request_Size, error reporting enables. -/
  | deviceControl
  /-- Slot Implemented, then the fields of Table 5.7 in its order, an entry with two values as two. -/
  | slotCapabilities
  /-- Interrupt enables, Power Controller Control. -/
  | slotControl
  /-- Power Fault Detected, Presence Detect Changed, Command Completed, Presence Detect State, Data Link Layer State Changed. -/
  | slotStatus
  /-- Data Link Layer Link Active, width, rate code. -/
  | linkStatus
  /-- Enable, completion control, interrupt enable, trigger status, trigger reason. -/
  | dpc
  /-- Correctable status and mask, uncorrectable status, mask and severity. -/
  | aer
  | acs
  /-- AtomicOp Egress Blocking, Poisoned TLP Egress Blocking, ECRC Check Enable, ARI Forwarding Enable, PTM Enable. -/
  | controls
  /-- VF Enable, NumVFs, InitialVFs, TotalVFs, First VF Offset, VF Stride, VF Device ID (R143). -/
  | sriov
  | bar (vf : Bool)
  /-- MSI-X table size, MSI-X Enable. -/
  | msix
  /-- The lane, counted from the port's lowest: margining on, voltage, steps, samples, errors (Table 5.1). -/
  | margin (lane : Nat)
  | other (reg : Nat)
deriving DecidableEq, Repr

/-- What a configuration request does. -/
inductive CfgAccess where
  | read (r : CfgReg)
  | write (w : CfgWrite)
deriving DecidableEq, Repr

/-- The readings of the comparators and the ramp monitor over `ticks` equal 1 µs ticks of a slot channel (R334):
sense voltage in µV, V_in and V_out in mV. -/
structure SlotSample where
  ticks : Nat
  senseUv : Nat
  vin : Nat
  vout : Nat
deriving DecidableEq, Repr

/-- One TRAIN message (Table 6.9). -/
structure Train where
  serial : Nat
  mask   : Nat
  flags  : Nat
  devnum : Nat
  eqLane : Nat := 0
  eqReq  : Nat := 0
  preset : Nat := 0
deriving DecidableEq, Repr

/-- Equalisation coefficients of one lane (Table 4.10). -/
structure Coef where
  dfe : List Int := List.replicate 12 0
  ctle : Nat := 0
  gain : Nat := 0
  pre2 : Int := 0
  pre1 : Int := 0
  main : Int := 64
  post1 : Int := 0
  post2 : Int := 0
deriving DecidableEq, Repr

/-- What the lanes have found when a bring-up step ends (Table 6.8): the lanes that aligned, those of inverted polarity and whether
the lane order is reversed (step 2); the requests that cold equalisation has made of the partner's transmitters (lane, request, preset), what cold equalisation has settled for each lane, and whether a warm verification was clean
(step 4); the credit loop (step 5); and the junction temperature. -/
structure StepResult where
  aligned  : Nat := 255
  inverted : Nat := 0
  reversed : Bool := false
  found    : List Coef := []
  clean    : Bool := true
  asks     : List (Nat × Nat × Nat) := []
  loopNs   : Nat := 0
  temp     : Int := 0
deriving DecidableEq, Repr

/-- What the training of a PCIe link has found: the lanes of inverted polarity and reversed lane order (R117), and what a completed
equalisation has settled for each lane of the link, from the port's lowest (R129). -/
structure LinkResult where
  inverted : Nat := 0
  reversed : Bool := false
  eq       : List Coef := []
deriving DecidableEq, Repr

/-- A step of lane margining: off, or an offset to one side by `steps`, in time or in voltage, with the samples taken and their errors
(Table 5.1). -/
structure MarginStep where
  start   : Bool := false
  voltage : Bool := false
  steps   : Int := 0
  samples : Nat := 0
  errors  : Nat := 0
deriving DecidableEq, Repr

/-- One bridge range as RANGE_SYNC carries it (Table 7.9). -/
structure RangeMsg where
  part : Nat
  dev  : Nat
  port : Nat
  sec  : Nat
  sub  : Nat
  memBase : Nat
  memLimit : Nat
  prefBase : Nat
  prefLimit : Nat
deriving DecidableEq, Repr

/-- A debug token body and whether its signature verifies under the key its SIGNER names (R448, R449). -/
structure Token where
  magic  : Nat
  id     : Nat
  serial : Nat
  signer : Nat
  grants : Nat
  life   : Nat
  nonce  : Nat
  sig    : Nat
deriving DecidableEq, Repr

/-- A 64-byte error record (Table 10.7). -/
structure ErrRec where
  time   : Nat := 0
  seq    : Nat := 0
  cause  : Nat := 0
  cls    : Nat := 0
  fl     : Nat := 3
  srcDev : Nat := 0
  srcPort : Nat := 0
  srcPart : Option Nat := none
  srcFunc : Option Nat := none
  reqId  : Nat := 0
  dstDev : Nat := 0
  dstPort : Nat := 0
  dstPart : Option Nat := none
  dstFunc : Option Nat := none
  tag    : Nat := 0
  address : Nat := 0
  epoch  : Nat := 0
  count  : Nat := 1
  detailA : Nat := 0
  detailB : Nat := 0
deriving DecidableEq, Repr

/-- An entry of a configuration: the record of device `dev` named by REC and two indexes, and its data (R389, R410). -/
structure CfgEntry where
  dev  : Nat
  typ  : Nat
  a    : Nat
  b    : Nat
  data : Rec
deriving DecidableEq, Repr

/-- Memories of Tables 1.4 and 10.3, in the order of Table 10.3. -/
inductive Bank where
  | output (station : Nat) (fid : Nat)
  | ingressStaging (fid : Nat)
  | queueState (station : Nat)
  | moverStaging (func ctx column : Nat)
  | counterBank (id : Nat)
  | tables
  | tagTable (entry : Nat)
  | writeTracker (trk : Nat)
  | scratchpad (record ringPart ringSlot : Nat)
  | coefStore (spoke : Nat)
  | pcieRetry (port : Nat)
  | spokeReplay (spoke : Nat)
deriving DecidableEq, Repr

/-- A debug access through a debug read side port or to memory behind a port (R32, R262, R263, R451). -/
inductive DebugTarget where
  | memory (port : Nat) (table : Nat) (addr len : Nat) (write : Bool)
  | sidePort (bank : Bank)
deriving DecidableEq, Repr

/-- The commands: every row of the table of operations and events, in its order. -/
inductive Instr where
  -- resets, power and boot
  | powerOn (dt : Time)
  | coreRailDip (dt : Time)
  | coreRailReturn (dt : Time)
  | resetNAssert (dt : Time)
  | resetNRelease (dt : Time)
  | i3cTargetReset (dt : Time)
  | fatalAutoReset (dt : Time)
  | perstinAssert (dt : Time) (i : Nat)
  | perstinRelease (dt : Time) (i : Nat)
  | partitionResetNotice (dt : Time) (p : Nat) (held : Bool)
  | partitionReady (dt : Time) (p : Nat)
  | hotResetReceived (dt : Time) (port : Nat)
  | upstreamDlDown (dt : Time) (port : Nat)
  | secondaryBusResetDownstream (dt : Time) (port : Nat)
  | secondaryBusResetUpstream (dt : Time) (port : Nat)
  | flr (dt : Time) (func : Nat)
  | flrComplete (dt : Time) (func : Nat)
  | vfEnableClear (dt : Time) (p : Nat)
  | watchdogExpiry (dt : Time)
  | firmwareRestartRequest (dt : Time)
  | mcRestartDone (dt : Time)
  | slotResetNAssert (dt : Time)
  | vpwrLoss (dt : Time)
  | vpwrRecovery (dt : Time)
  | slotInterfaceRestored (dt : Time)
  -- references and fatal errors
  | referenceLost (dt : Time) (ref : Bool)
  | referenceRelock (dt : Time)
  | referenceUsable (dt : Time) (ref : Bool)
  | holdoverTimeout (dt : Time)
  | d2dUncorrectable (dt : Time)
  | rootPllUnlock (dt : Time)
  -- hub and schedulers
  | pcieTlpReceived (dt : Time) (port : Nat) (t : Tlp)
  | frameStage (dt : Time) (fid : Nat)
  | stagingLifetimeExpiry (dt : Time) (fid : Nat)
  | egressAdmission (dt : Time) (fid : Nat)
  | xoffReachIngress (dt : Time) (att port svc : Nat)
  | frameReassembled (dt : Time) (fid : Nat)
  | echoReceived (dt : Time) (att sub : Nat)
  | shaperRecoveryStep (dt : Time) (att sub : Nat)
  | egressSelect (dt : Time) (station : Nat) (noCredit : List (Nat × Nat))
  | frameDepart (dt : Time) (fid : Nat)
  | noticeBatchTimer (dt : Time) (lane port : Nat)
  | lifetimeSweep (dt : Time)
  | wheelSlotRelease (dt : Time) (inst : Nat)
  | wheelRevolution (dt : Time) (inst : Nat)
  | jobBind (dt : Time) (func ctx : Nat)
  | moverReadGrant (dt : Time) (engine : Nat)
  -- lanes
  | truingUpdate (dt : Time) (lane : Nat) (err : Int) (dec : List Int)
  | lossOfSignal (dt : Time) (lane : Nat)
  | eyeMeasurement (dt : Time) (lane : Nat) (eyes : List (Nat × Nat))
  | laneMargining (dt : Time) (lane : Nat) (m : MarginStep)
  | coefStoreCopy (dt : Time) (spoke : Nat) (temp : Int)
  -- PCIe links and functions
  | dlUp (dt : Time) (port width rate : Nat) (r : LinkResult)
  | downstreamDlDown (dt : Time) (port : Nat)
  | linkRecoveryExit (dt : Time) (port rate : Nat) (eq : List Coef)
  | pcieCorrectableError (dt : Time) (port error : Nat)
  | pcieUncorrectableError (dt : Time) (port error : Nat)
  | dpcStatusClear (dt : Time) (port : Nat)
  | intxMessageReceived (dt : Time) (port pin : Nat) (assert : Bool)
  | intStatusWrite (dt : Time) (p : Nat) (v : BitVec 32)
  | intMaskWrite (dt : Time) (p : Nat) (v : BitVec 32)
  | msixEnableWrite (dt : Time) (p : Nat) (on : Bool)
  | interruptDisableWrite (dt : Time) (p : Nat) (on : Bool)
  | configRequest (dt : Time) (port rid tag bus dev fn : Nat) (x : CfgAccess)
  | powerControllerControlWrite (dt : Time) (port : Nat) (off : Bool)
  | d3hotEntry (dt : Time) (p : Nat)
  | pmeTurnOff (dt : Time) (port : Nat)
  | pmeToAck (dt : Time) (port : Nat)
  -- spokes
  | spokeCellSend (dt : Time) (spoke beats : Nat)
  | spokeCellReceive (dt : Time) (spoke : Nat) (beats : List Beat) (body : CellBody)
  | creditBeatReceived (dt : Time) (spoke : Nat) (b : Beat)
  | creditRefresh (dt : Time) (spoke : Nat)
  | preemptReceived (dt : Time) (spoke : Nat) (part : List Beat) (b : Beat)
  | resumeReceived (dt : Time) (spoke : Nat) (b : Beat)
  | retryReqReceived (dt : Time) (spoke : Nat) (b : Beat)
  | retryReqRepeat (dt : Time) (spoke : Nat)
  | ackBeatReceived (dt : Time) (spoke : Nat) (b : Beat)
  | ackBeatTimer (dt : Time) (spoke : Nat)
  | replayTimeout (dt : Time) (spoke : Nat)
  | retireRequestReceived (dt : Time) (spoke : Nat) (b : Beat)
  | retireConfirmReceived (dt : Time) (spoke : Nat) (b : Beat)
  | trainReceived (dt : Time) (spoke : Nat) (bs : List Beat)
  | idleBeatReceived (dt : Time) (spoke : Nat) (b : Beat)
  | bringupStepDone (dt : Time) (spoke : Nat) (r : StepResult)
  | bringupRetry (dt : Time) (spoke : Nat)
  | cadenceLoss (dt : Time) (spoke : Nat)
  | cadenceAppear (dt : Time) (spoke : Nat)
  | timeReqTimer (dt : Time)
  | timeReqReceived (dt : Time) (spoke : Nat) (bs : List Beat)
  | timeRespReceived (dt : Time) (spoke : Nat) (bs : List Beat)
  | timeLockLossTimeout (dt : Time)
  | plumbTimer (dt : Time)
  | plumbReceived (dt : Time) (spoke : Nat) (bs : List Beat)
  | plumbTimeout (dt : Time) (spoke : Nat)
  | bucketMoveComplete (dt : Time) (dest bucket : Nat)
  | bucketMoveBack (dt : Time) (dest bucket : Nat)
  | noticeReceived (dt : Time) (lane : Nat) (ns : List Notice)
  | ackCellReceived (dt : Time) (recs : List AckRec)
  | mgmtUnknownCode (dt : Time) (spoke code : Nat)
  -- bridge
  | bridgedCompletion (dt : Time) (spoke : Option Nat) (sub colour : Nat) (t : Tlp)
  | readTimeout (dt : Time) (entry : Nat)
  | tagQuarantineEnd (dt : Time) (entry : Nat)
  | trackerNoAnswer (dt : Time) (trk : Nat)
  | trackerQuarantineEnd (dt : Time) (trk : Nat)
  | ackBatch (dt : Time) (dev : Nat)
  | episodeClose (dt : Time) (cause srcPart dstDev dstPort : Nat)
  | drainDone (dt : Time)
  | mrdlkArrival (dt : Time) (port : Nat) (t : Tlp)
  | lockReq (dt : Time) (stamp ownerDev ingressPort targetPort : Nat)
  | lockGrant (dt : Time) (ownerDev ingressPort targetDev targetPort : Nat)
  | lockYield (dt : Time) (ownerDev ingressPort : Nat)
  | lockReleaseMessage (dt : Time) (ownerDev ingressPort targetPort : Nat)
  | rangeSync (dt : Time) (m : RangeMsg)
  | errRecord (dt : Time) (p : Nat) (r : ErrRec)
  -- mover
  | sqDoorbell (dt : Time) (func : Nat) (v : Word64)
  | cqDoorbell (dt : Time) (func : Nat) (v : Word64)
  | ringEnable (dt : Time) (func : Nat) (sqLog2 cqLog2 : Nat)
  | ringDisable (dt : Time) (func : Nat)
  | descriptorFetch (dt : Time) (func : Nat)
  | descriptorFetchComplete (dt : Time) (func ctx : Nat) (st : CplStatus) (desc : List Word64)
  | shardTableReadComplete (dt : Time) (func ctx : Nat) (st : CplStatus) (table : List Byte)
  | columnReserve (dt : Time) (func ctx : Nat)
  | moverReadCompletion (dt : Time) (func tag : Nat) (st : CplStatus) (poisoned : Bool) (data : List Byte)
  | moverReadTimeout (dt : Time) (func tag : Nat)
  | noticeTimeout (dt : Time) (func ctx column : Nat)
  | completionEntryWrite (dt : Time) (func ctx : Nat)
  | engineResidueFault (dt : Time) (engine func ctx column : Nat)
  | engineDrainDone (dt : Time) (engine : Nat)
  | engineSelfTestDone (dt : Time) (engine : Nat) (pass : Bool)
  | engineDrainTimeout (dt : Time) (engine : Nat)
  -- memory errors
  | memSingleBitRead (dt : Time) (bank word : Nat) (cleanReread : Bool)
  | memUncorrectableRead (dt : Time) (bank : Bank)
  | tableRewriteDone (dt : Time) (verified : Bool)
  | nfGapExpiry (dt : Time) (p : Nat)
  -- slot power
  | slotFastTrip (dt : Time) (ch : Nat) (ticks : List SlotSample)
  | slotFaultTimerExpiry (dt : Time) (ch : Nat) (ticks : List SlotSample)
  | slotEnergyExceeded (dt : Time) (ch : Nat) (ticks : List SlotSample)
  | slotRampDone (dt : Time) (ch : Nat) (ticks : List SlotSample)
  | slotPowerGoodQualify (dt : Time) (ch : Nat) (ticks : List SlotSample)
  | pgLost (dt : Time) (ch : Nat)
  | slotPerstRelease (dt : Time) (ch : Nat)
  | retryWaitEnd (dt : Time) (ch : Nat)
  | dischargeEnd (dt : Time) (ch vout : Nat)
  | gateStuck (dt : Time) (ch : Nat)
  | fetLeak (dt : Time) (ch : Nat)
  | retryCountClear (dt : Time) (ch : Nat)
  | presenceChange (dt : Time) (ch : Nat) (present : Bool)
  | inrushGrant (dt : Time)
  | spinHoldExpiry (dt : Time) (ch : Nat)
  | feedReverseTurnoff (dt : Time) (feed : Bool)
  | feedForwardResume (dt : Time) (feed : Bool)
  | feedLost (dt : Time) (feed : Bool)
  | feedRestored (dt : Time) (feed : Bool)
  -- mailboxes and out-of-band
  | mbDoorbellSubmit (dt : Time) (mb : Nat)
  | mbDoorbellAcknowledge (dt : Time) (mb : Nat)
  | mailboxAccept (dt : Time)
  | mailboxWindowWrite (dt : Time) (mb offset : Nat) (v : Word64) (collides dmaBuffer : Bool)
  | errHeadWrite (dt : Time) (p v : Nat)
  | oobMctpMessage (dt : Time) (r : Req)
  | mctpControlMessage (dt : Time) (cmd arg : Nat)
  | i3cDynamicAddress (dt : Time) (addr : Nat)
  | alertResponseAddress (dt : Time)
  | ibiRepeat (dt : Time)
  | debugMailboxFrame (dt : Time) (r : Req)
  | arbiterGrant (dt : Time) (inst : Nat)
  | lockWaitExpiry (dt : Time) (mb : Nat)
  | tandemLinkLossTimeout (dt : Time)
  -- Emmel commands
  | cfgStageOpen (dt : Time) (r : Req)
  | cfgStageImageChunk (dt : Time) (r : Req)
  | cfgStageImageEnd (dt : Time) (r : Req)
  | cfgStageFromSlot (dt : Time) (r : Req)
  | cfgPrepare (dt : Time) (r : Req)
  | cfgCommit (dt : Time) (r : Req)
  | cfgAbort (dt : Time) (r : Req)
  | lockAcquire (dt : Time) (r : Req)
  | lockRelease (dt : Time) (r : Req)
  | lockRevoke (dt : Time) (r : Req)
  | portSet (dt : Time) (r : Req)
  | partSet (dt : Time) (r : Req)
  | windowSet (dt : Time) (r : Req)
  | actWrite (dt : Time) (r : Req)
  | actPeg (dt : Time) (r : Req)
  | actPegOutcome (dt : Time) (mb status pegged owner : Nat)
  | actPegRemoteTimeout (dt : Time) (mb : Nat)
  | queueSet (dt : Time) (r : Req)
  | shaperSet (dt : Time) (r : Req)
  | redProfileSet (dt : Time) (r : Req)
  | moverVfSet (dt : Time) (r : Req)
  | slotPowerOn (dt : Time) (r : Req)
  | slotPowerOff (dt : Time) (r : Req)
  | clearLatch (dt : Time) (r : Req)
  | clearUnusable (dt : Time) (r : Req)
  | slotLimits (dt : Time) (r : Req)
  | snapshot (dt : Time) (r : Req)
  | bwWindow (dt : Time) (r : Req)
  | errRead (dt : Time) (r : Req)
  | errReadAck (dt : Time) (r : Req)
  | fenceClear (dt : Time) (r : Req)
  | loopbackStart (dt : Time) (r : Req)
  | loopbackStop (dt : Time) (r : Req)
  | loopbackStatus (dt : Time) (r : Req)
  | fwUpdateWrite (dt : Time) (r : Req)
  | fwUpdateVerify (dt : Time) (r : Req)
  | fwActivateAtReset (dt : Time) (r : Req)
  | fwActivateRestart (dt : Time) (r : Req)
  | fwUpdateDiscard (dt : Time) (r : Req)
  | attest (dt : Time) (r : Req)
  | tandemStatus (dt : Time) (r : Req)
  | identify (dt : Time) (r : Req)
  | caps (dt : Time) (r : Req)
  | cfgRead (dt : Time) (r : Req)
  | cfgStatus (dt : Time) (r : Req)
  | cfgSlotRead (dt : Time) (r : Req)
  | lockPrioSet (dt : Time) (r : Req)
  | lockStatus (dt : Time) (r : Req)
  | laneStatus (dt : Time) (r : Req)
  | spokeStatus (dt : Time) (r : Req)
  | coefExport (dt : Time) (r : Req)
  | coefImport (dt : Time) (r : Req)
  | laneReadmit (dt : Time) (r : Req)
  | portStatus (dt : Time) (r : Req)
  | partStatus (dt : Time) (r : Req)
  | actRead (dt : Time) (r : Req)
  | markerSet (dt : Time) (r : Req)
  | queueStatus (dt : Time) (r : Req)
  | shaperStatus (dt : Time) (r : Req)
  | engineTest (dt : Time) (r : Req)
  | moverStatus (dt : Time) (r : Req)
  | slotStatus (dt : Time) (r : Req)
  | counterRead (dt : Time) (r : Req)
  | errControl (dt : Time) (r : Req)
  | partitionContain (dt : Time) (r : Req)
  | healthRead (dt : Time) (r : Req)
  | reshimRun (dt : Time) (r : Req)
  | reshimPolicy (dt : Time) (r : Req)
  | wearRead (dt : Time) (r : Req)
  | powerCap (dt : Time) (r : Req)
  | planerSet (dt : Time) (r : Req)
  | testStatus (dt : Time) (r : Req)
  | debugTokenNonce (dt : Time) (r : Req)
  | debugTokenSubmit (dt : Time) (r : Req) (tok : Token)
  | debugTokenRevoke (dt : Time) (r : Req)
  | fuseRead (dt : Time) (r : Req)
  | routeSet (dt : Time) (r : Req)
  | timeStatus (dt : Time) (r : Req)
  | tandemSet (dt : Time) (r : Req)
  | registerWrite (dt : Time) (p : Nat) (func : Option Nat) (offset width : Nat) (v : Word64)
  -- domain commit
  | cmtImage (dt : Time) (src epoch offset : Nat) (entries : List CfgEntry)
  | cmtPrepare (dt : Time) (src epoch base : Nat) (corrective : Bool) (length : Nat) (digest : BitVec 256)
  | cmtVote (dt : Time) (epoch dev status : Nat)
  | cmtCommit (dt : Time) (src epoch pfx swapTime : Nat)
  | cmtArmed (dt : Time) (epoch dev status : Nat) (late : Bool) (swapTime : Nat)
  | cmtAbort (dt : Time) (src epoch : Nat)
  | cmtDone (dt : Time) (epoch dev : Nat) (isSealed : Bool) (slot drainTime : Nat)
  | cmtCommitRepeat (dt : Time)
  | prepareTimeout (dt : Time)
  | preparedHoldExpiry (dt : Time)
  | commitSwap (dt : Time)
  | configImageWrite (dt : Time)
  | sealWrite (dt : Time)
  | commitWaitTimeout (dt : Time)
  -- tandem
  | heartbeatSend (dt : Time)
  | tdmHeartbeat (dt : Time) (dev role : Nat) (master : Bool) (version epoch pfx : Nat)
  | heartbeatTimeout (dt : Time)
  | masterClaimTimeout (dt : Time)
  | tdmHandover (dt : Time) (th : Nat)
  | handoverTime (dt : Time)
  | masterYieldRelease (dt : Time)
  | tdmMailbox (dt : Time) (seq offset : Nat) (last : Bool) (part : List Word64)
  | tdmResponse (dt : Time) (seq offset : Nat) (last : Bool) (part : List Word64)
  -- firmware and security
  | fwConfirmation (dt : Time)
  | fwConfirmTimeout (dt : Time)
  | getVersion (dt : Time) (transport : Nat)
  | getCapabilities (dt : Time) (transport : Nat)
  | negotiateAlgorithms (dt : Time) (transport : Nat) (offersSha3 offersMldsa : Bool)
  | getDigests (dt : Time) (transport : Nat)
  | getCertificate (dt : Time) (transport slot offset length : Nat)
  | challenge (dt : Time) (transport slot : Nat) (nonce : BitVec 256)
  | getMeasurements (dt : Time) (transport index : Nat) (signed : Bool) (nonce : BitVec 256)
  | debugTokenExpiry (dt : Time)
  | debugAccess (dt : Time) (tgt : DebugTarget)
  | provisioning (dt : Time) (keyHash : BitVec 256) (reqSigned debugOff malweodOff : Bool) (ownerKey : Nat) (sig : Nat)
  -- endurance
  | reshimInterval (dt : Time) (slow : Nat)
  | reshimStep (dt : Time) (port : Nat)
  | reshimComplete (dt : Time)
  | wearCharge (dt : Time) (temps : List Int)
  | wearStoreWrite (dt : Time)
  | planerRegionStart (dt : Time)
  | planerRegionDone (dt : Time) (transient : Nat) (lasting : List Nat)
  | currentGuardEngage (dt : Time)
  | currentGuardRelease (dt : Time)
  | powerCapWindow (dt : Time) (avgMw : Nat)
  | governorTick (dt : Time) (tj : Int)
  | thermalTrip (dt : Time)
  -- counters and loop-backs
  | snapshotTime (dt : Time)
  | snapshotCopyDone (dt : Time)
  | snapReq (dt : Time) (dev t : Nat)
  | snapDone (dt : Time) (dev : Nat) (copied : Option Nat)
  | snapshotFabricTimeout (dt : Time)
  | bwWindowStart (dt : Time) (unit : Nat)
  | bwWindowEnd (dt : Time) (unit : Nat)
  | loopbackLockTimeout (dt : Time) (target : Nat)
  | loopbackDurationEnd (dt : Time) (depth target : Nat) (units errors : Nat)
  -- test access port
  | bypass (dt : Time)
  | idcode (dt : Time)
  | samplePreload (dt : Time) (preload : List Bool)
  | extest (dt : Time)
  | clamp (dt : Time)
  | highz (dt : Time)
  | extestPulse (dt : Time)
  | extestTrain (dt : Time)
  | scanEntry (dt : Time)
  | memoryBist (dt : Time) (pass : Bool) (single : Nat)
  -- supplies, and rows the table adds at its end
  | vddSetpointStep (dt : Time) (ack fault : Bool) (statusWord : BitVec 16)
  | vrAlert (dt : Time) (statusWord : BitVec 16)
  | bootComplete (dt : Time)
  | slotResetNRelease (dt : Time)
  | startupFetShortCheck (dt : Time) (ch vout : Nat)
  | slotCommandAccepted (dt : Time) (ch : Nat)
  | adcSample (dt : Time) (ch : Nat) (sense vout : Nat)
  | rcRegisterRead (dt : Time) (p : Nat) (func : Option Nat) (offset width : Nat)
  | fwUpdateDone (dt : Time)
  | mailboxDmaTimeout (dt : Time) (mb : Nat)
  | coefficientsDerived (dt : Time) (func ctx : Nat)
  | linkRecoveryEntry (dt : Time) (port : Nat)
  | lossOfSignalEnd (dt : Time) (lane : Nat)
  | d3hotExit (dt : Time) (p : Nat)
  | vfEnableSet (dt : Time) (p num : Nat)
deriving DecidableEq, Repr

end Sys2Proof
end

