-- ==== Sys2Proof/Machine/Bits.lean ====
section
/-! DEFINITION. Bit fields, serial-number arithmetic and other small arithmetic on numbers. -/

namespace Sys2Proof.Machine

/-- Bits [hi:lo] of a number. -/
def bits (x hi lo : Nat) : Nat := x / 2 ^ lo % 2 ^ (hi + 1 - lo)

/-- Bit i of a number. -/
def bit (x i : Nat) : Bool := x / 2 ^ i % 2 == 1

/-- Bits [hi:lo] of a quadword. -/
def qf (w : Word64) (hi lo : Nat) : Nat := bits w.toNat hi lo

/-- Bits [hi:lo] of record data. -/
def rf (r : Rec) (hi lo : Nat) : Nat := bits r.toNat hi lo

/-- One bit of record data. -/
def rb (r : Rec) (i : Nat) : Bool := bit r.toNat i

/-- A number's value as two's complement of width w. -/
def signed (w x : Nat) : Int := if x < 2 ^ (w - 1) then (x : Int) else (x : Int) - 2 ^ w

/-- Fields as (hi, lo, value) put together. -/
def pack : List (Nat × Nat × Nat) → Nat
  | [] => 0
  | (hi, lo, v) :: r => v % 2 ^ (hi + 1 - lo) * 2 ^ lo + pack r

/-- A quadword from its fields. -/
def quad (fs : List (Nat × Nat × Nat)) : Word64 := BitVec.ofNat 64 (pack fs)

/-- The mask of fields (hi, lo). -/
def maskOf (fs : List (Nat × Nat)) : Nat := pack (fs.map fun f => (f.1, f.2, 2 ^ (f.1 + 1 - f.2) - 1))

/-- 0 or 1. -/
def b2n (b : Bool) : Nat := if b then 1 else 0

/-- Set bit i of a number. -/
def setBit (x i : Nat) : Nat := if bit x i then x else x + 2 ^ i

/-- Clear bit i of a number. -/
def clrBit (x i : Nat) : Nat := if bit x i then x - 2 ^ i else x

/-- Set or clear bit i. -/
def putBit (x i : Nat) (b : Bool) : Nat := if b then setBit x i else clrBit x i

/-- The indexes below n whose bit is set. -/
def onesBelow (x n : Nat) : List Nat := (List.range n).filter (bit x)

/-- How many of the low n bits are set. -/
def popcount (x n : Nat) : Nat := (onesBelow x n).length

/-- a is newer than b in serial-number arithmetic of 32 bits (R413, R418). -/
def serialNewer (a b : Nat) : Bool :=
  let d := (a + 2 ^ 32 - b % 2 ^ 32) % 2 ^ 32
  1 ≤ d && d ≤ 2 ^ 31 - 1

/-- Distance from b to a modulo m. -/
def modDist (m a b : Nat) : Nat := (a + m - b % m) % m

/-- Ceiling of a division. -/
def ceilDiv (a b : Nat) : Nat := (a + b - 1) / b

/-- Saturating 32-bit count. -/
def sat32 (n : Nat) : Nat := min n (2 ^ 32 - 1)

/-- The `i`-th byte, little-endian, of a quadword. -/
def byteOf (w : Nat) (i : Nat) : Byte := BitVec.ofNat 8 (w / 256 ^ i)

/-- A number's n little-endian bytes. -/
def leBytes (n x : Nat) : List Byte := (List.range n).map (byteOf x)

/-- The n bytes of a number, the most significant first (R172). -/
def beNat (n v : Nat) : List Nat := (List.range n).map fun i => v / 256 ^ (n - 1 - i) % 256

/-- The number that little-endian bytes spell. -/
def ofLeBytes : List Byte → Nat
  | [] => 0
  | b :: r => b.toNat + 256 * ofLeBytes r

/-- A list cut into pieces of n, fuel bounding the pieces. -/
def chunks {α : Type} (n : Nat) : Nat → List α → List (List α)
  | 0, _ => []
  | _ + 1, [] => []
  | k + 1, l => l.take n :: chunks n k (l.drop n)

/-- Quadwords of a byte string, the last one filled with zeros. -/
def bytesToQuads (bs : List Byte) : List Word64 :=
  (chunks 8 (bs.length / 8 + 1) bs).map fun c => BitVec.ofNat 64 (ofLeBytes c)

/-- The units of time (R7): one is 2^-10 ns. -/
def ns : Nat := 1024
def us : Nat := 1024 * 1000
def ms : Nat := 1024 * 1000000
def oneSec : Nat := 1024 * 1000000000

end Sys2Proof.Machine
end

