-- ==== Sys2Proof/Machine/Coding.lean ====
section
/-! DEFINITION. CRC-32C (R176), CRC-64 and the field GF(2^8) (chapter 9). -/

namespace Sys2Proof.Machine

/-- One bit of a reflected CRC whose reversed polynomial is `poly`. -/
def crcBit {w : Nat} (poly : BitVec w) (c : BitVec w) : BitVec w :=
  if c.getLsbD 0 then (c >>> 1) ^^^ poly else c >>> 1

/-- One byte of a reflected CRC. -/
def crcByte {w : Nat} (poly : BitVec w) (c : BitVec w) (b : Byte) : BitVec w :=
  (List.range 8).foldl (fun c _ => crcBit poly c) (c ^^^ b.setWidth w)

/-- The reversed Castagnoli polynomial 0x1EDC_6F41. -/
def castagnoli : BitVec 32 := 0x82F63B78

/-- The running CRC-32C register over more bytes, before the final XOR. -/
def crc32cMore (c : BitVec 32) (bs : List Byte) : BitVec 32 := bs.foldl (crcByte castagnoli) c

/-- CRC-32C: reflected, initial value and final XOR all ones (R176). -/
def crc32c (bs : List Byte) : BitVec 32 := ~~~ crc32cMore (BitVec.allOnes 32) bs

/-- Multiplication by x in GF(2^8) with polynomial 0x11D. -/
def gfDouble (a : Byte) : Byte := if a.getLsbD 7 then (a <<< 1) ^^^ 0x1D else a <<< 1

/-- Multiplication in GF(2^8), shift and add over the bits of the second factor. -/
def gfMul (a b : Byte) : Byte :=
  ((List.range 8).foldl (fun (p : Byte × Byte) i =>
    (if b.getLsbD i then p.1 ^^^ p.2 else p.1, gfDouble p.2)) ((0 : Byte), a)).1

/-- A power in GF(2^8). -/
def gfPow (a : Byte) : Nat → Byte
  | 0 => 1
  | n + 1 => gfMul a (gfPow a n)

/-- The inverse in GF(2^8): a^254. -/
def gfInv (a : Byte) : Byte := gfPow a 254

/-- CRC-64 of R293: polynomial 0x42F0_E1EB_A9EA_3693, most significant bit first, continuing from a register. -/
def crc64More (c : Word64) (bs : List Byte) : Word64 :=
  bs.foldl (fun c b => (List.range 8).foldl (fun (c : Word64) _ =>
    if c.getLsbD 63 then (c <<< 1) ^^^ 0x42F0E1EBA9EA3693 else c <<< 1) (c ^^^ ((b.setWidth 64 : Word64) <<< (56 : Nat)))) c

/-- CRC-32C continued from an earlier result (R293). -/
def crc32cOn (seed : BitVec 32) (bs : List Byte) : BitVec 32 := ~~~ crc32cMore (~~~ seed) bs

/-- One output block from input blocks (R289). -/
def combine (coef : List Byte) (blocks : List (List Byte)) (w : Nat) : List Byte :=
  (List.range w).map fun x => (List.zipWith (fun c b => gfMul c (b.getD x 0)) coef blocks).foldl (· ^^^ ·) 0

/-- C[j][i] of the built-in generator (R290). -/
def cauchy (j i : Nat) : Byte := gfInv (BitVec.ofNat 8 j ^^^ BitVec.ofNat 8 (4 + i))

/-- Row s of the generator: an identity row for a data shard, a row of C for a parity shard. -/
def genRow (k s : Nat) : List Byte :=
  (List.range k).map fun i => if s < k then (if i = s then 1 else 0) else cauchy (s - k) i

/-- Gauss-Jordan elimination over GF(2^8) of rows of 2k bytes, one column after another. -/
def gaussStep (col : Nat) (rows : List (List Byte)) : List (List Byte) :=
  match (List.range rows.length).find? fun r => decide (col ≤ r) && (rows.getD r []).getD col 0 != 0 with
  | none => rows
  | some r =>
    let piv := rows.getD r []
    let scaled := piv.map (gfMul (gfInv (piv.getD col 0)))
    let swapped := (rows.set r (rows.getD col [])).set col scaled
    (List.range swapped.length).map fun i =>
      let row := swapped.getD i []
      if i = col then row else List.zipWith (fun a b => a ^^^ gfMul (row.getD col 0) b) row scaled

/-- The inverse of a k x k matrix (R291). -/
def gfInvert (k : Nat) (m : List (List Byte)) : List (List Byte) :=
  let aug := (List.range k).map fun r => m.getD r [] ++ (List.range k).map fun i => if i = r then (1 : Byte) else 0
  ((List.range k).foldl (fun a c => gaussStep c a) aug).map (·.drop k)

/-- A row vector times a matrix. -/
def rowTimes (v : List Byte) (m : List (List Byte)) (k : Nat) : List Byte :=
  (List.range k).map fun j => (List.zipWith (fun a row => gfMul a (row.getD j 0)) v m).foldl (· ^^^ ·) 0

end Sys2Proof.Machine
end

