-- ==== Sys2Proof/Config.lean ====
section
/-! DEFINITION. What an implementation fixes and the spec leaves open: free values, and the results of the signature
algorithm that FIPS 204 defines outside the spec. Nothing here has a body, so no proof can rest on a value. -/

namespace Sys2Proof

/-- A fresh free value for each count of draws (the RED draw of R59, nonces of R448 and R446, SPDM nonces). Assumption 4. -/
opaque Config.freeValue : Nat → Nat

/-- Whether the ML-DSA-44 signature `sig` over `digest` verifies under the key named by `key`
(0: Malweod firmware key, 1: Malweod debug authority, 2: Malweod provisioning authority; from 3 on the owner key whose
hash is `key - 3`). FIPS 204 is outside the spec. Assumption 5. -/
opaque Config.mldsaVerify : Nat → BitVec 256 → Nat → Bool

/-- The ML-DSA-44 signature of the identity key that the seed gives, over a digest (R441, R445). Assumption 5. -/
opaque Config.mldsaSign : BitVec 256 → BitVec 256 → Nat

/-- The bytes of SPDM certificate slot 0 (R442), written once at provisioning. Assumption 5. -/
opaque Config.certChain : List Byte

/-- `Config.monitor k` stands for a quantity the part holds but the manual does not lay out: the measured power, the
latest monitor readings and the like that HEALTH_READ returns (R475). Assumption 4. -/
opaque Config.monitor : Nat → Nat

/-- Malweod's JEP106 manufacturer code, which IDCODE holds and the manual does not state (R519). Assumption 4. -/
opaque Config.jep106 : Nat

/-- The bytes of a TLP on a link, which the PCI Express Base Specification lays out and the manual does not (R174). Assumption 4. -/
opaque Config.tlpBytes : Tlp → List Byte

/-- The reset value of a configuration register that the manual does not state (R142), by its number. Assumption 4. -/
opaque Config.cfgReset : Nat → Nat

/-- Where in its triangle the spread of the core root stands at power-on (R465), in units of 2^-10 ns. Assumption 4. -/
opaque Config.spreadPhase : Nat

end Sys2Proof
end

