-- ==== Sys2Proof/Machine/State.lean ====
section
/-! DEFINITION. The state of the part as plain data, its reset, and the reasons a step can stop. -/

namespace Sys2Proof.Machine

/-- A command never ends in a fault: the part has no stop that a command causes. The one constructor is kept for the
host's type; nothing raises it (safe). -/
inductive Fault where
  /-- Raised by nothing. -/
  | unused
deriving DecidableEq, Repr

/-- Why a command has no meaning in the state. -/
inductive Refusal where
  /-- Raised by the arm of a command without a meaning yet; safe. -/
  | notModelled (mnemonic : String)
deriving DecidableEq, Repr

/-- What the part sends to the outside, in the order of sending (assumption 3). -/
inductive Out where
  | tlp (port : Nat) (t : Tlp)
  | completion (port rid tag : Nat) (st : CplStatus) (bytes : Nat)
  | message (port : Nat) (m : MsgKind)
  | hotReset (port : Nat)
  | toEndpoint (part : Nat) (t : Tlp)
  | msix (part : Nat) (func : Nat) (vector : Nat)
  | cell (spoke : Nat) (c : Cell)
  | beat (spoke kind a b : Nat)
  | codes (spoke : Nat) (beats : List Beat)
  | train (spoke : Nat) (t : Train)
  | timeReq (spoke t1 seq : Nat)
  | timeResp (spoke t2 t3mt2 seq master hops : Nat) (locked : Bool)
  | plumb (spoke epoch prefix8 : Nat)
  | mgmt (dev code : Nat) (payload : List Nat)
  | farCpl (dev sub svc rid tag : Nat) (st : CplStatus) (values : List Nat)
  | ackCell (dev part : Nat) (recs : List AckRec)
  | noticeCell (dev sub : Nat) (ns : List Notice)
  | errRec (dev part : Nat) (r : ErrRec)
  | cmtImage (dev epoch offset : Nat) (entries : List CfgEntry)
  | cmtPrepare (dev epoch base : Nat) (corrective : Bool) (length : Nat) (digest : BitVec 256)
  | echo (att sub : Nat)
  | xoff (port svc : Nat) (on : Bool)
  | slotGate (ch : Nat) (on : Bool)
  | slotRequest (ch : Nat) (on : Bool)
  | discharge (ch : Nat)
  | feedGate (feed : Bool) (on : Bool)
  | alertPin (low : Bool)
  | ibi (data : Nat)
  | smbusAddress (addr : Nat)
  | mctpResponse (seq status : Nat) (executed : Bool) (pay : List Word64)
  | mctpControl (cmd arg : Nat)
  | spdm (transport code : Nat) (body : List Nat) (sig : Nat)
  | debugResponse (denied : Bool) (data : List Nat)
  | flash (op slot : Nat)
  | pmbus (cmd value : Nat)
  | thermTrip (low : Bool)
  | tap (what : Nat) (bits : List Bool)
  | cadTx (station h : Nat) (on spread : Bool) (slew : Nat)
  | actPeg (dev mb : Nat) (q : Word64)
  | actPegOutcome (dev mb status : Nat) (pay : List Word64)
  | regRead (part : Nat) (func : Option Nat) (offset value : Nat)
  | cfgData (port rid tag : Nat) (values : List Nat)
  | pcieCredit (port stream dataUnits : Nat)
  | portReset (dev port : Nat)
  | contain (dev part : Nat)
  | slotPerst (ch : Nat) (asserted : Bool)
  | slotPg (ch : Nat) (good : Bool)
  | slotRamp (ch slope : Nat)
deriving DecidableEq, Repr

/-- Where a frame stands: waiting at its link with its lookup done, staged, in a bank with cells arriving, queued, sending. -/
inductive Place where
  | waiting | staged | bank | queued | sending
deriving DecidableEq, Repr

/-- Bank regions of R47. -/
inductive Region where
  | none | minimum | reserve | shared | headroom
deriving DecidableEq, Repr

/-- Where a frame ends that goes to no port: the functions of a partition (R45), the bridge of the port it entered at, or, for a TLP that
waits for its turn at its link (R41), where its lookup then says. -/
inductive Ends where
  | functions (part : Nat)
  | bridge
  | turn
deriving DecidableEq, Repr

/-- A configuration request that waits for its turn (R41). -/
structure CfgAsk where
  port : Nat
  rid : Nat
  tag : Nat
  bus : Nat
  dev : Nat
  fn : Nat
  access : CfgAccess
deriving DecidableEq, Repr

/-- A frame and its descriptor (R34, R35). -/
structure Frame where
  fid : Nat
  tlp : Tlp
  issued : Nat
  issuedRid : Nat
  issuedTag : Nat
  rcv : Bool
  svc : Nat
  sub : Nat
  colour : Nat
  mark : Bool
  srcDev : Nat
  srcPort : Nat
  dstDev : Nat
  dstPort : Nat
  outPort : Nat
  func : Option Nat
  att : Nat
  origin : Option Nat
  user : Bool
  vf : Option Nat
  window : Option Nat
  stamp : Nat
  hops : Nat
  seq : Nat
  work : Option WorkTag
  tagEntry : Option Nat
  tracker : Option Nat
  epochStaged : Nat
  epochGuard : Nat
  place : Place
  region : Region
  rxSpoke : Option Nat
  /-- It holds room in the receive buffer of the link that brought it: slots of a spoke, credits of a PCIe link (R26, R181, R194). -/
  slots : Bool := true
  /-- It goes to no port. -/
  ends : Option Ends := none
  /-- The target ID as issued, for a second lookup (R221). -/
  issuedTarget : Nat := 0
  /-- Its target does not come from a lookup of its own, so that an epoch change repeats none (R221). -/
  fixed : Bool := false
  /-- A test frame of a loop-back at depth 4 (R515). -/
  test : Bool := false
  /-- The tick in which a frame being sent was selected, and whether by the guarantee pass (R101). -/
  picked : Option (Nat × Bool) := none
  /-- The configuration request that a frame waiting for its turn stands for (R41). -/
  ask : Option CfgAsk := none
deriving DecidableEq, Repr

/-- A departure batch (R66). -/
structure Batch where
  first : Time
  ns : List Notice
  dev : Nat
deriving DecidableEq, Repr

/-- A two-rate marker's buckets, in the units of a shaper's credit, and when they were last filled (R42). -/
structure Marker where
  tc : Nat
  tp : Nat
  last : Time
deriving DecidableEq, Repr

structure Hub where
  frames : List Frame := []
  nextFid : Nat := 0
  avg : Tbl (Nat × Time) := []
  xoff : Tbl Time := []
  bankXoff : List Nat := []
  /-- When each bank's xoff last changed (R55). -/
  bankXoffAt : Tbl Time := []
  /-- The xoffs that have reached an attachment, with the CLK_CORE tick at which they did (R55, R72). -/
  xoffSeen : Tbl Nat := []
  /-- The pairs whose own xoff has cleared, and when (R55, R72). -/
  cleared : Tbl Time := []
  /-- The tick in which cells were last released, and the frames that released them in it (R50, R72). -/
  tick : Nat := 0
  gone : List Frame := []
  headroomPeak : Tbl Nat := []
  withdrawn : Tbl Nat := []
  markers : Tbl Marker := []
  batches : Tbl Batch := []
  streamSent : List (List Nat × Nat) := []
  streamSeen : List (List Nat × Nat) := []
  stalled : Bool := false
  /-- The tick in which the stall began (R328). -/
  stalledTick : Nat := 0
  /-- When the mover attachment's path from the hub is free again (R19, R45). -/
  moverFree : Time := 0
deriving DecidableEq, Repr

/-- A shaper's credit in units of 1/(256 x 32,000) byte, in which a rate of 1 Mb/s earns one unit in one unit of time
(R77), when it was last brought up to date, whether it is open, and when it opened. -/
structure Shaper where
  credit : Int := 0
  last : Time := 0
  isOpen : Bool := true
  openedAt : Time := 0
  /-- The tick in which a wheel or a commit opened it: it counts as open from the next one (R101). -/
  opensIn : Option Nat := none
deriving DecidableEq, Repr

/-- A wheel entry keeps its shaper and its full E in fine slots (R79). -/
structure WheelEntry where
  slot : Nat
  key : Nat
  due : Nat
deriving DecidableEq, Repr

/-- The current rate of an ingress shaper and its two timers (R93). -/
structure IngRate where
  cur : Nat
  lastDecrease : Option Time
  timer : Time
deriving DecidableEq, Repr

structure Sched where
  shapers : Tbl Shaper := []
  fine : Tbl (List WheelEntry) := []
  coarse : Tbl (List WheelEntry) := []
  cur : Tbl IngRate := []
  deficits : Tbl Int := []
  pointers : Tbl Nat := []
  backlogSince : Tbl Time := []
  /-- How far the service of a backlogged guarantee lies behind its rate over the worst interval, and when that was found (R89). -/
  behind : Tbl (Nat × Time) := []
  /-- When the scheduler was last reset: a shaper not named above has had credit 0 since then (Table 3.12). -/
  resetAt : Time := 0
deriving DecidableEq, Repr

structure Lane where
  coef : Coef := {}
  los : Bool := false
  /-- Inverted polarity as training detected it (R117, R118). -/
  rxInv : Bool := false
  /-- When the taps were last updated (R112). -/
  truedAt : Option Time := none
  eyeH : Nat := 0
  eyeW : Nat := 0
  eyeId : Nat := 0
  eyeValid : Bool := false
  eyeAt : Option Time := none
  margining : Bool := false
  /-- The step of lane margining last taken (Table 5.1). -/
  margin : MarginStep := {}
  shimH : Nat := 0
deriving DecidableEq, Repr

/-- A coefficient store entry (Tables 4.9 and 4.10). -/
structure StoreEntry where
  sn : Nat := 0
  temp : Int := 0
  mask : Nat := 0
  lanes : List Coef := []
deriving DecidableEq, Repr

structure Lanes where
  lane : Tbl Lane := []
  store : Tbl StoreEntry := []
  /-- The CAD_TX outputs that run, 40 added where the station's clock is spread, and 80 times the edge rate (R121, R123). -/
  cadTx : List Nat := []
  /-- The station records by which the CAD_TX outputs run; a device reset leaves them (R124). -/
  cadRec : Tbl Rec := []
deriving DecidableEq, Repr

/-- A PCIe port and its bridge function: link, containment, bridge registers, INTx wires, slot registers. -/
structure Port where
  up : Bool := false
  recovery : Bool := false
  width : Nat := 0
  rate : Nat := 0
  /-- Training has reversed the lane order (R117). -/
  reversed : Bool := false
  dpcEnable : Bool := false
  dpcUr : Bool := false
  dpcTriggered : Bool := false
  dpcReason : Nat := 0
  dpcInt : Bool := false
  contained : Bool := false
  mps : Nat := 128
  mrrs : Nat := 512
  sec : Nat := 0
  subBus : Nat := 0
  memBase : Nat := 0
  memLimit : Nat := 0
  prefBase : Nat := 0
  prefLimit : Nat := 0
  ioBase : Nat := 0
  ioLimit : Nat := 0
  ioEnable : Bool := false
  memEnable : Bool := false
  atomicBlock : Bool := false
  poisonBlock : Bool := false
  /-- Interrupt Disable of the bridge. -/
  intOff : Bool := false
  /-- Enables of the hot-plug interrupt, as Slot Control has them (R150). -/
  slotInt : Nat := 0
  /-- Error reporting enables of Device Control. -/
  errEn : Nat := 0
  /-- ACS Control and the egress control vector (Table 5.1, R141). -/
  acs : Nat := 0
  acsVec : Nat := 0
  ecrcCheck : Bool := false
  ari : Bool := false
  ptm : Bool := false
  regs : Tbl Nat := []
deriving DecidableEq, Repr

/-- INTx wires, held messages, slot registers and equalisation memory of a port. -/
structure PortAux where
  /-- INTA to INTD from below, and in bit 4 the interrupt that the bridge raises itself (R150). -/
  wires : Nat := 0
  collapsed : Nat := 0
  heldMsgs : List MsgKind := []
  powerOff : Bool := true
  cmdDone : Bool := false
  powerFault : Bool := false
  presence : Bool := false
  presenceChanged : Bool := false
  dllChanged : Bool := false
  /-- The equalisation results of the last completed procedure, per rate (R129). -/
  eqSaved : Tbl (List Coef) := []
  /-- AER: status and mask of correctable errors; status, mask and severity of uncorrectable ones (Table 5.1, assumption 130). -/
  aerCor : Nat := 0
  corMask : Nat := 0xE000
  aerUnc : Nat := 0
  uncMask : Nat := 0x440_0000
  uncSev : Nat := 0x46_2030
  /-- The host's time and the moment it held, at an upstream port; when a request for it was sent (Table 5.1, PTM). -/
  ptmTime : Option (Nat × Time) := none
  ptmAsked : Option Time := none
deriving DecidableEq, Repr

/-- Advanced error reporting of a function of a partition: status and mask of correctable errors; status, mask and severity of uncorrectable
ones; and the error reporting enables of Device Control (Table 5.1, assumption 130). -/
structure FnAer where
  cor : Nat := 0
  corMask : Nat := 0xE000
  unc : Nat := 0
  uncMask : Nat := 0x440_0000
  uncSev : Nat := 0x46_2030
  errEn : Nat := 0
deriving DecidableEq, Repr

/-- A partition's functions, interrupt block, error ring and reset progress. -/
structure Part where
  inReset : Bool := false
  perst : Bool := false
  ready : Bool := false
  readyAt : Option Time := none
  f1D3 : Bool := false
  intDisable : Bool := false
  msixEnable : Bool := false
  level : Bool := false
  vfEnable : Bool := false
  numVfs : Nat := 0
  /-- By function: 0, 1, and from 2 on a VF. -/
  aer : Tbl FnAer := []
  contained : Bool := false
  /-- Downstream ports whose PME_TO_Ack is awaited: virtual switch, and the port, 128 x (device + 1) added when remote. -/
  pmeWait : List (Nat × Nat) := []
  /-- Memory Space Enable of functions 0 and 1. -/
  memEn : Nat := 0
  mps0 : Nat := 128
  mrrs0 : Nat := 512
  /-- Other configuration registers of the functions: 65536 x function + register. -/
  regs : Tbl Nat := []
  intStatus : BitVec 32 := 0
  intMask : BitVec 32 := 0
  vectors : Tbl Nat := []
  bars : Tbl Nat := []
  mps1 : Nat := 128
  mrrs1 : Nat := 512
  msix : Tbl Nat := []
  pba : Nat := 0
  errHead : Nat := 0
  errTail : Nat := 0
  errLost : Nat := 0
  ring : Tbl ErrRec := []
  nfLast : Option Time := none
  nfHeld : Bool := false
  lastSnap : Option Time := none
  /-- Bit 0 of STRICT_HOLD as last evaluated (R455). -/
  holds : Bool := false
deriving DecidableEq, Repr

structure Pcie where
  port : Tbl Port := []
  aux : Tbl PortAux := []
  part : Tbl Part := []
  perstin : List Nat := []
  remWires : Tbl Nat := []
deriving DecidableEq, Repr

/-- A cell being sent: the bytes of it already sent, and whether it is sent again from the replay buffer. -/
structure Going where
  cell : Cell
  sent : Nat
  again : Bool
deriving DecidableEq, Repr

/-- Transmit side of a spoke. `rd` is the running disparity of each lane (R164); `cur` is the cell being sent and `pre` the cell that
interrupts it (R183); `resend` holds what is still to be sent again, oldest first (R188). `openCells` holds the first cells of frames acknowledged in part; `base` the
first limit of each pool, `lastSent` the pool's count after the last cell of each destination, bucket and pool (R208); `lastExp` is the EXP_SEQ of
the last RETRY_REQ (R191). -/
structure SpokeTx where
  nextSeq : Nat := 0
  unsent : List Cell := []
  replay : List Cell := []
  openCells : List Cell := []
  sent : Tbl Nat := []
  limit : Tbl Nat := []
  base : Tbl Nat := []
  lastSent : Tbl Nat := []
  /-- Limits that a CREDIT has replaced, and the beat in which it did: a check in that beat uses the old one (R211). -/
  was : Tbl (Nat × Nat) := []
  fires : Nat := 0
  progress : Time := 0
  idleCount : Nat := 0
  lastExp : Nat := 0
  rd : Nat := 0
  sinceIdle : Nat := 0
  cur : Option Going := none
  pre : Option Going := none
  resend : List Cell := []
deriving DecidableEq, Repr

/-- The bytes read of a cell and the lanes with violations in its beats. -/
structure PartCell where
  bytes : List Nat := []
  bad : Nat := 0
deriving DecidableEq, Repr

/-- Receive side of a spoke. `fails` holds the failing lanes of each failed reception of `expSeq`; `lastRetry` is set while
everything but the expected cell is discarded (R187); `size` is the credit record in use (R180). `attempts` counts the failed receptions
of `expSeq`; `part` holds what has been read of the cell being received, and `held` the part of an interrupted cell with the
interrupting service (R184); `switch` is the lane to retire and the beats before the lane change (R191). -/
structure SpokeRx where
  expSeq : Nat := 0
  accepted : Bool := false
  fails : List Nat := []
  retired : Bool := false
  attempts : Nat := 0
  rd : Nat := 0
  part : PartCell := {}
  held : Option (Nat × PartCell) := none
  switch : Option (Nat × Nat) := none
  cells : List Cell := []
  size : Tbl Nat := []
  freed : Tbl Nat := []
  owedAck : Option Time := none
  lastRetry : Option Time := none
  lastError : Time := 0
  /-- When a reception of `expSeq` was last counted as failed (R187). -/
  failedAt : Time := 0
  idle : Nat := 0
deriving DecidableEq, Repr

/-- A spoke. `laneMask` is the set of usable lanes, `active` the lanes of the present link, `localDone` and `peerFlags` what
each end has finished of the bring-up (Table 6.9). -/
structure Spoke where
  state : Nat := 0
  peerSn : Nat := 0
  peerDev : Nat := 0
  laneMask : Nat := 255
  active : Nat := 255
  lastWarm : Bool := false
  loopNs : Nat := 0
  pathDelay : Nat := 0
  tx : SpokeTx := {}
  rx : SpokeRx := {}
  localDone : Bool := false
  peerKnown : Bool := false
  peerFlags : Nat := 0
  peerMask : Nat := 255
  localWarm : Bool := false
  idFailRec : Bool := false
  nextTry : Option Time := none
  upAt : Time := 0
  exchangeSpoiled : Bool := false
  remoteLoop : Bool := false
  readmit : Nat := 0
  cadence : Bool := false
  /-- The spoke is wired with reversed lane order (R118). -/
  rxReversed : Bool := false
  /-- The junction temperature when the last step of bring-up ended (R127). -/
  temp : Int := 0
  /-- When the coefficient store entry was last written (R126). -/
  copiedAt : Option Time := none
deriving DecidableEq, Repr

/-- What a spoke's TIME and PLUMB exchanges last showed. -/
structure SpokeTime where
  seq : Nat := 0
  t1 : Option Nat := none
  locked : Bool := false
  hops : Nat := 0
  master : Nat := 0
  masterAt : Time := 0
  inPlumb : Bool := false
  mismatches : Nat := 0
  plumbAt : Time := 0
  peerEpoch : Nat := 0
  peerPrefix : Nat := 0
deriving DecidableEq, Repr

/-- One bucket of a destination's map: the entry's spoke port, and the move in progress (R206 to R208). -/
structure Bucket where
  spoke : Option Nat
  movingSince : Option Time := none
  backSince : Option Time := none
  readyAt : Option Time := none
  /-- The tick in which its move was last over: frames follow the new map from the next (R211). -/
  movedIn : Option Nat := none
deriving DecidableEq, Repr

structure Spokes where
  spoke : Tbl Spoke := []
  time : Tbl SpokeTime := []
  buckets : Tbl Bucket := []
  /-- Cells of this device that wait for their bucket, by destination and bucket. -/
  ctl : List (Nat × Cell) := []
deriving DecidableEq, Repr

/-- A tag table entry (R224). -/
structure TagEntry where
  origRid : Nat
  origTag : Nat
  origPort : Nat
  srcPart : Nat
  func : Option Nat
  asPart : Nat
  asRid : Nat
  wireTag : Nat
  remaining : Nat
  issued : Time
  issuedFt : Nat
  timeout : Time
  dstDev : Nat
  dstPort : Nat
  window : Option Nat
  live : Bool
  freeAt : Time
  address : Nat
  /-- A locked read (Table 7.10). -/
  locked : Bool := false
deriving DecidableEq, Repr

/-- A write tracker (R229). -/
structure Tracker where
  addr : Nat
  srcPart : Nat
  rid : Nat
  srcPort : Nat
  dstDev : Nat
  dstPort : Nat
  svc : Nat
  seq : Nat
  issued : Time
  /-- Fabric time of issue (R229). -/
  issuedFt : Nat := 0
  live : Bool
  freeAt : Time
  /-- Quarantined by a partition reset: late answers are counted and leave no record (Table 7.10). -/
  silent : Bool
deriving DecidableEq, Repr

/-- An episode of R236 or R324: cause 0 stands for the write-failure family. -/
structure Episode where
  cause : Nat
  part : Nat
  dev : Nat
  port : Nat
  count : Nat
  last : Time
  rec0 : ErrRec
  toRing : Bool
deriving DecidableEq, Repr

/-- A locked sequence (R244 to R248) of an ingress port of this device or, as a requester, of another. -/
structure LockSeq where
  dev : Nat
  port : Nat
  stamp : Nat
  part : Nat
  targetDev : Nat
  targetPort : Nat
  heldIngress : Bool
  heldTarget : Bool
  locked : Bool
  tlp : Tlp
  /-- The frame of its first MRdLk, and that of its Unlock once it has come. -/
  fid : Nat := 0
  unlock : Option Nat := none
deriving DecidableEq, Repr

/-- A port semaphore: owner and waiters as (stamp, ingress device, ingress port). -/
structure Sem where
  owner : Option (Nat × Nat × Nat) := none
  waiters : List (Nat × Nat × Nat) := []
  /-- Set once the owner is known to be LOCKED: a local sequence that holds all it needs, a remote one whose MRdLk has come. -/
  locked : Bool := false
deriving DecidableEq, Repr

structure AckBatch where
  first : Time
  recs : List AckRec
deriving DecidableEq, Repr

structure Bridge where
  tags : Tbl TagEntry := []
  freedTags : List (Nat × Nat × Nat) := []
  trackers : Tbl Tracker := []
  /-- Acknowledgements to be sent: 64 x source device + source partition (R231, R232). -/
  acks : Tbl AckBatch := []
  episodes : List Episode := []
  fences : List (Nat × Nat × Nat) := []
  sems : Tbl Sem := []
  seqs : List LockSeq := []
  ranges : List RangeMsg := []
  pegs : Tbl Nat := []
  /-- Owner pegs of BOOT_PEG are due at the next commit: the first after power-on or device reset (Table 8.2). -/
  pegsDue : Bool := true
deriving DecidableEq, Repr

/-- A mover function's ring registers, resources and reset progress (Tables 9.3 to 9.6, 9.12). -/
structure Func where
  sqBase : Word64 := 0
  cqBase : Word64 := 0
  ringEn : Bool := false
  sqLog2 : Nat := 0
  cqLog2 : Nat := 0
  state : Nat := 0
  sqHead : Nat := 0
  sqTail : Nat := 0
  cqTail : Nat := 0
  cqHead : Nat := 0
  cqPhase : Bool := true
  ringErr : Nat := 0
  msix : Tbl Nat := []
  pba : Nat := 0
  /-- The job class of each pending message (R278). -/
  pbaCls : Tbl Nat := []
  ctxSeq : Tbl Nat := []
  tagsBusy : List Nat := []
  tagsQuar : List (Nat × Time) := []
  staging : Nat := 0
  zeroised : Bool := true
  resetAt : Option Time := none
  dying : Bool := false
deriving DecidableEq, Repr

/-- An outstanding source read: its read tag, where its data goes in the column (block x 4,096 + offset), its address, and
when it was issued. -/
structure ReadReq where
  tag : Nat
  key : Nat
  addr : Nat
  at' : Time
  len : Nat := 0
deriving DecidableEq, Repr

/-- One live column of a job (R294 to R299): its issue generation, its staging, the reads still to be granted (key, address,
length) and under way, the data read, and the frames of the present issue with their notices (shard, frame, cause). -/
structure Column where
  idx : Nat
  gen : Nat := 0
  issues : Nat := 0
  need : Nat := 0
  reserved : Bool := false
  toRead : List (Nat × Nat × Nat) := []
  reading : List ReadReq := []
  blocks : Tbl (List Byte) := []
  issued : Bool := false
  frames : List (Nat × Nat × Nat) := []
  notices : List (Nat × Nat × Nat) := []
  handedAt : Time := 0
  /-- 1 while its data is read again after an uncorrectable error in staging, 2 after that (R303). -/
  reread : Nat := 0
  residue : Nat := 0
  forced : Bool := false
deriving DecidableEq, Repr

inductive JobPhase where
  | fetching | tableWait | tableRead | ready | bound | ending
deriving DecidableEq, Repr

/-- A job of a mover function: its context, ring slot, the read tag of its descriptor or table read, and its progress. -/
structure Job where
  func : Nat
  ctx : Nat
  ctxSeq : Nat
  order : Nat
  slot : Nat
  phase : JobPhase := .fetching
  /-- The read tags of its descriptor's fetch or its shard table's read, and when they were issued. -/
  tags : List Nat := []
  tagAt : Time := 0
  /-- The CLK_HALF cycle in which it was bound (R96). -/
  boundAt : Nat := 0
  desc : List Word64 := []
  table : List Byte := []
  engine : Option Nat := none
  coefReady : Bool := false
  nextCol : Nat := 0
  doneCols : Nat := 0
  cols : List Column := []
  error : Option (Nat × Nat) := none
  reissues : Nat := 0
  crc32 : Nat := 0
  crc64 : Nat := 0
  mismatch : Nat := 0
  mismatchAt : Option Nat := none
  anyRead : Bool := false
  loop : Bool := false
deriving DecidableEq, Repr

structure Engine where
  inService : Bool := true
  drainMb : Option Nat := none
  drainUntil : Time := 0
  testing : Bool := false
  /-- When the bytes granted so far have had their time at the engine's rate (R97). -/
  grantedTo : Time := 0
deriving DecidableEq, Repr

structure Mover where
  func : Tbl Func := []
  jobs : List Job := []
  engine : Tbl Engine := []
  nextOrder : Nat := 0
  /-- Jobs (function, context) that have ended, in that order, whose completion entries are still to be written (R282). -/
  ended : List (Nat × Nat) := []
deriving DecidableEq, Repr

structure Errs where
  log : List ErrRec := []
  /-- Which records of the log went to which partition's ring: RECORD_SEQ and partition (R321, R403). -/
  copies : List (Nat × Nat) := []
  seq : Nat := 0
  alertSeq : List Nat := []
  alertAck : Nat := 0
  alertNoRec : Bool := false
  memLast : Tbl Time := []
  memCount : Tbl Nat := []
  planerRows : List (Nat × Nat) := []
  badRows : List (Nat × Nat) := []
  c4 : Bool := false
  c4At : Time := 0
  outOfPlumb : Bool := false
  behind : List Nat := []
deriving DecidableEq, Repr

/-- A slot channel (Tables 11.2 to 11.7, R334). -/
structure Chan where
  state : Nat := 0
  limits : Option Rec := none
  fast : Bool := false
  timer : Option Nat := none
  under : Nat := 0
  energy : Nat := 0
  q : Nat := 0
  onAt : Time := 0
  gateAt : Time := 0
  vmax : Nat := 0
  lowFails : Nat := 0
  pgSeen : Bool := false
  lastFault : Nat := 0
  trigger : Nat := 0
  retries : Nat := 0
  /-- Retries since the first fault after the channel was last ON, or requested on (R347). -/
  tries : Nat := 0
  waitUntil : Time := 0
  offAt : Time := 0
  checkDue : Bool := false
  checked : Bool := false
  present : Bool := false
  absentSince : Option Time := none
  perst : Bool := true
  /-- It has reported a fault code while the interface to the core die was down (R156). -/
  unshown : Bool := false
deriving DecidableEq, Repr

/-- Measurements, commands and budget of a slot channel. -/
structure ChanAux where
  iPeak : Nat := 0
  voutMin : Nat := 4095
  /-- VOUT_MIN has been read, and so cleared to 0, since the last sample in ON: the next such sample starts it again (Table 0.4). -/
  minRead : Bool := false
  iNow : Nat := 0
  voutNow : Nat := 0
  commandedOn : Bool := false
  stamp : Nat := 0
  granted : Bool := false
  /-- When the channel first entered ON under its grant (R349). -/
  onSince : Option Time := none
  /-- Slot requests on their way to the slot die: action of Table 13.8 and the mailbox, none for a host's slot register. -/
  requests : List (Nat × Option Nat) := []
  startCheck : Bool := true
  refused : Nat := 0
deriving DecidableEq, Repr

structure Feed where
  fstate : Nat := 0
  vMin : Nat := 4095
  /-- V_MIN has been read since the last sample. -/
  minRead : Bool := false
  iPeak : Nat := 0
  vNow : Nat := 0
  iNow : Nat := 0
  /-- Lost until it has been above its threshold (Table 11.8). -/
  lost : Bool := true
  reversed : Bool := false
  lastRev : Option Time := none
deriving DecidableEq, Repr

structure SlotDie where
  chan : Tbl Chan := []
  aux : Tbl ChanAux := []
  feedA : Feed := {}
  feedB : Feed := {}
  inReset : Bool := false
  vpwrLost : Bool := false
  /-- SLOT_RESET_N is low. -/
  pinLow : Bool := false
  startedAt : Time := 0
  recordsLoaded : Bool := false
  /-- A slot die reset has happened since the records were last loaded: ON is issued again (Table 11.9). -/
  reissue : Bool := false
  /-- The records the slot die runs by: key 64 x (REC - 0x48) + channel (R330). -/
  recs : Tbl Rec := []
  held : List (Nat × ErrRec) := []
  tripFlag : Bool := false
deriving DecidableEq, Repr

/-- A mailbox (Tables 12.6 and 12.7). -/
structure Mailbox where
  state : Nat := 0
  executed : Bool := false
  lostWrite : Bool := false
  restarted : Bool := false
  status : Nat := 0
  seq : Nat := 0
  respLen : Nat := 0
  lost : Nat := 0
  ignored : Nat := 0
  window : Tbl Word64 := []
  /-- The DMA buffer of a partition mailbox, the message buffer of mailboxes 64 and 65 (Table 12.2). -/
  buf : Tbl Word64 := []
  /-- A response that a restart of the MC has left open (R370). -/
  owed : Bool := false
  submittedAt : Option Time := none
  dirty : Bool := false
  dirtyLate : Bool := false
  waiting : Nat := 0
  took : Bool := false
  current : Option Req := none
deriving DecidableEq, Repr

/-- A lock: owner, the fabric time of its grant, and waiters as (mailbox, stamp, wait limit time). -/
structure Lock where
  owner : Option Nat := none
  waiters : List (Nat × Nat × Time) := []
  granted : Nat := 0
deriving DecidableEq, Repr

/-- Out-of-band endpoint. -/
structure Oob where
  dynAddr : Option Nat := none
  eid : Nat := 0
  mtu : Nat := 64
  lastIbi : Time := 0
  alertLow : Bool := false
deriving DecidableEq, Repr

structure Mgmt where
  mailbox : Tbl Mailbox := []
  lock : Tbl Lock := []
  prio : Tbl Nat := []
  /-- Writes of LOCK_PRIO that act from the next cycle: mailbox, priority, CLK_HALF cycle of the write (R377). -/
  prioNext : List (Nat × Nat × Nat) := []
  oob : Oob := {}
  serving : Bool := false
  restartAt : Option Time := none
  restartCause : Nat := 0
  tdmIn : List Word64 := []
  tdmResp : List Word64 := []
  pegWait : List (Nat × Time) := []
deriving DecidableEq, Repr

/-- A staging set (R393, R419). -/
structure StagingSet where
  base : Nat
  entries : List CfgEntry
  changed : List (Nat × Nat × Nat × Nat)
  prepared : Bool
  committed : Bool
  conflicted : Bool
  image : Tbl Word64
  signed : Bool
  sig : Nat
  imageSeq : Nat
deriving DecidableEq, Repr

/-- A member's prepared configuration, and its arming (R421, R422). -/
structure Prepared where
  coord : Nat
  epoch : Nat
  base : Nat
  entries : List CfgEntry
  digest : BitVec 256
  voted : Bool
  heldUntil : Time
  armed : Option Nat
  late : Bool
  sig : Nat
  signed : Bool
deriving DecidableEq, Repr

/-- The coordinator's view of its prepare and commit. -/
structure Coord where
  epoch : Nat
  corrective : Bool
  lock : Nat
  mb : Nat
  members : List Nat
  votes : Tbl Nat
  deadline : Time
  committing : Bool
  wait : Nat
  swapAt : Nat
  pfx : Nat
  armed : List Nat
  done : Tbl Nat
  sealedBy : List Nat
  tSwap : Nat
  commitMb : Option Nat
  /-- Every vote has been counted, or their time is over. -/
  decided : Bool := false
deriving DecidableEq, Repr

/-- A configuration slot in flash (Table 14.1). -/
structure CfgSlot where
  magic : Bool := false
  header : Bool := false
  seq : Nat := 0
  epoch : Nat := 0
  signed : Bool := false
  sig : Nat := 0
  digest : BitVec 256 := 0
  body : List CfgEntry := []
  sealWord : Option Nat := none
deriving DecidableEq, Repr

/-- A firmware slot in flash (Tables 14.1 and 15.2). -/
structure FwSlot where
  magic : Bool := false
  seq : Nat := 0
  sealWord : Option Nat := none
  sig : Nat := 0
  digest : BitVec 256 := 0
  version : Nat := 0
  svn : Nat := 0
  proto : Nat := 0
  manifestOk : Bool := false
  sigOk : Bool := false
  confirmed : Bool := false
  body : Tbl Word64 := []
deriving DecidableEq, Repr

/-- A drain: frames staged before an epoch leave the hub. It holds back the commits that change windows, or access tables and default
maps, and is reported to the commit's coordinator (R223, R274). -/
structure Drain where
  epoch : Nat
  windows : Bool
  access : Bool
  coord : Nat
  /-- The frames that had entered staging when it began. -/
  frames : List Nat := []
deriving DecidableEq, Repr


/-- SHA3-256 of the empty canonical configuration (R411); its first byte is the lowest. -/
def emptyDigest : BitVec 256 := 0x4a43f8804b0ad882fa493be44dff80f562d661a05647c15166d71ebff8c6ffa7

structure Conf where
  entries : List CfgEntry := []
  epoch : Nat := 0
  digest : BitVec 256 := emptyDigest
  /-- M_CFG (R444). -/
  mCfg : BitVec 256 := 0
  signed : Bool := false
  sig : Nat := 0
  sets : Tbl StagingSet := []
  prepared : Option Prepared := none
  incoming : List CfgEntry := []
  /-- Coordinator and epoch of the image under way. -/
  incomingOf : Nat × Nat := (0, 0)
  coord : Option Coord := none
  /-- Commits this device coordinated and has swapped, whose members still report. -/
  swapped : List Coord := []
  /-- The coordinator of the configuration in force, when it was swapped, and whether late (R422). -/
  doneTo : Option Nat := none
  lastSwap : Nat := 0
  lastLate : Bool := false
  /-- The drains that run, oldest first (R223, R274). -/
  drain : List Drain := []
  drainedAt : Nat := 0
  /-- The tick of the last swap and the records before it, which a selection of that tick still uses (R100). -/
  before : Option (Nat × List CfgEntry) := none
  cfgA : CfgSlot := {}
  cfgB : CfgSlot := {}
  write : Option (Nat × Nat) := none
  sealing : Bool := false
deriving DecidableEq, Repr

structure Firmware where
  slotA : FwSlot := {}
  slotB : FwSlot := {}
  running : Nat := 0
  verified : Bool := false
  pending : Bool := false
  busy : Option Nat := none
  /-- PHASE of the FW_UPDATE that flash works on. -/
  phase : Nat := 0
  firstStart : Option Time := none
  restarts : Nat := 0
  fallback : Bool := false
deriving DecidableEq, Repr

/-- Fuses (Table 15.1), keys, measurements and debug state. -/
structure Security where
  idSeed : BitVec 256 := 0
  ownerHash : BitVec 256 := 0
  svnFuses : BitVec 64 := 0
  ownerSet : Bool := false
  reqSigned : Bool := false
  debugOff : Bool := false
  malweodOff : Bool := false
  seedLocked : Bool := false
  keyLoaded : Bool := false
  mFw : BitVec 256 := 0
  mFuse : BitVec 256 := 0
  ownerKey : Nat := 0
  serial : Nat := 0
  nonce : Option (Nat × Time) := none
  token : Option (Nat × Nat × Nat × Time) := none
  provToken : Bool := false
  spdm : Tbl Nat := []
  scan : Bool := false
deriving DecidableEq, Repr

/-- Fabric time and mastership (R199 to R202, R428, R543). -/
structure FabTime where
  count : Nat := 0
  holdBack : Nat := 0
  ppm : Int := 0
  acc : Int := 0
  locked : Bool := false
  good : Nat := 0
  lastValid : Time := 0
  upstream : Option Nat := none
  hops : Nat := 0
  master : Bool := true
  masterDev : Nat := 0
  yielded : Option Nat := none
deriving DecidableEq, Repr

/-- The tandem (R427 to R430). -/
structure Tandem where
  configuredRole : Nat := 2
  role : Nat := 2
  partner : Nat := 0
  spokes : List Nat := []
  lastBeat : Time := 0
  heard : Bool := false
  partnerMaster : Bool := false
  partnerVersion : Nat := 0
  partnerEpoch : Nat := 0
  partnerNamesUs : Bool := false
  tHandover : Nat := 0
  handoverAt : Option Nat := none
  tLink : Nat := 0
  firstSpokeUp : Option Time := none
  linkDownAt : Option Time := none
  versionBad : Bool := false
  returning : Bool := false
deriving DecidableEq, Repr

/-- The strap pins as the board ties them (Table 20.6): levels that no command changes. -/
structure Straps where
  devnum : Nat := 0
  addrsel : Nat := 0
  refsel : Bool := false
  coreSsc : Nat := 0
  ioSlew : Nat := 0
deriving DecidableEq, Repr

/-- Clocks, references, rails, boot and straps (R457 to R472, R527 to R532). -/
structure Chip where
  straps : Straps := {}
  upTime : Time := 0
  refSel : Bool := false
  /-- REF_A_OK and REF_B_OK negated: a reference is not usable until REFERENCE_USABLE has come (Table 16.1, R458). -/
  refALost : Bool := true
  refBLost : Bool := true
  holdover : Bool := false
  holdoverAt : Time := 0
  coreSlow : Bool := false
  switchCount : Nat := 0
  railsOut : Bool := false
  railAt : Time := 0
  tripped : Bool := false
  trippedAt : Time := 0
  resetPin : Bool := false
  resetUntil : Option Time := none
  booting : Bool := true
  bootAt : Time := 0
  romRecovery : Bool := false
  /-- The straps as last sampled (R532). -/
  devnum : Nat := 0
  addrsel : Nat := 0
  refselStrap : Bool := false
  coreSsc : Nat := 0
  ioSlew : Nat := 0
  orderingXt : Bool := false
  coldBoot : Bool := true
deriving DecidableEq, Repr

/-- Wear ledger of one die (Table 17.3). -/
structure Wear where
  charge : Nat := 0
  powered : Nat := 0
  hot : Nat := 0
  tMax : Int := -128
  trips : Nat := 0
deriving DecidableEq, Repr

/-- The shim overlay: effective DFE limits per station, presets per lane, rates per port (R482). -/
structure Overlay where
  limits : Tbl (Nat × Nat × Nat) := []
  presets : Tbl Nat := []
  rates : Tbl Nat := []
deriving DecidableEq, Repr

/-- What the newest copy of the wear store holds (R477). -/
structure WearStore where
  wear : Tbl Wear := []
  vddOfs : Nat := 0
  allowStep : Bool := true
  intervalD : Nat := 91
  noticeS : Nat := 300
  roSlow : Nat := 0
  retiredLanes : Nat := 0
  overlay : Overlay := {}
  planerEn : Bool := true
  paceMs : Nat := 200
  /-- Powered seconds of the core die at the last run. -/
  lastRun : Nat := 0
deriving DecidableEq, Repr

/-- Ageing, power and the planer (chapter 17, R529). -/
structure Aging where
  wear : Tbl Wear := []
  storeCopy : Nat := 0
  store : WearStore := {}
  vddOfs : Nat := 0
  allowStep : Bool := true
  intervalD : Nat := 91
  noticeS : Nat := 300
  roSlow : Nat := 0
  retiredLanes : Nat := 0
  running : Bool := false
  runAt : Time := 0
  actions : Nat := 0
  overlay : Overlay := {}
  notices : Tbl Time := []
  planerEn : Bool := true
  paceMs : Nat := 200
  region : Nat := 0
  passes : Nat := 0
  inRegion : Bool := false
  lastStart : Option Time := none
  spares : Tbl Nat := []
  lastRun : Nat := 0
  /-- Spokes that a run has still to retrain, and those it has drained for it (R483). -/
  retrain : List Nat := []
deriving DecidableEq, Repr

structure Power where
  capW : Nat := 0
  winMs : Nat := 100
  capStage : Nat := 0
  capMissed : Nat := 0
  stage : Nat := 0
  stageAt : Time := 0
  guard : Bool := false
  vddStep : Nat := 0
  vddTarget : Nat := 0
  vddStopped : Bool := false
  statusWord : BitVec 16 := 0
  tj : Int := 0
deriving DecidableEq, Repr

/-- A bandwidth window unit (R508, R509). -/
structure BwUnit where
  mb : Nat
  port : Nat
  dir : Nat
  subLog2 : Nat
  winUs : Nat
  start : Nat
  started : Bool
  outBytes : Tbl Nat
  inBytes : Tbl Nat
deriving DecidableEq, Repr

/-- A loop-back run (R512 to R518). -/
structure LoopRun where
  depth : Nat
  target : Nat
  pattern : Nat
  started : Time
  duration : Nat
  units : Nat
  errors : Nat
  state : Nat
  mb : Option Nat
  /-- Depth 5: test cells sent, and the count of the next one to come back (R516). -/
  sent : Nat := 0
  next : Nat := 0
deriving DecidableEq, Repr

/-- Counters, snapshots, bandwidth windows, loop-backs and the test access port. -/
structure Count where
  live : Tbl Nat := []
  /-- What is discarded and counted where Table 18.1 has no counter: by port, from 128 on by spoke, from 168 on by
  destination device. -/
  lost : Tbl Nat := []
  rem : Tbl Nat := []
  invalid : List Nat := []
  bases : Tbl Nat := []
  snap : Tbl Nat := []
  snapInvalid : List Nat := []
  snapId : Nat := 0
  viewState : Nat := 0
  tSnap : Nat := 0
  tCopied : Nat := 0
  pending : Option Nat := none
  copying : Bool := false
  snapMb : Option Nat := none
  snapWait : List Nat := []
  snapFabric : Bool := false
  snapLatest : Nat := 0
  snapReply : Option Nat := none
  /-- T of the snapshot asked for, and whether a device of the domain took none (R503). -/
  snapAt : Nat := 0
  snapStale : Bool := false
  bw : Tbl BwUnit := []
  loops : List LoopRun := []
  tapInstr : Nat := 2
  boundary : List Bool := []
  testDate : Nat := 0
  screen : Nat := 1
  bscanPass : Bool := false
  scanPass : Bool := false
  bistPass : Bool := false
  bistSingle : Nat := 0
deriving DecidableEq, Repr

/-- The whole state: every piece of state the spec gives the part, the queue of waiting commands, what has been sent, and
the count of free values drawn. -/
structure State where
  chip : Chip := {}
  ft : FabTime := {}
  conf : Conf := {}
  fw : Firmware := {}
  hub : Hub := {}
  sched : Sched := {}
  lanes : Lanes := {}
  pcie : Pcie := {}
  spokes : Spokes := {}
  bridge : Bridge := {}
  mover : Mover := {}
  errs : Errs := {}
  slot : SlotDie := {}
  mgmt : Mgmt := {}
  sec : Security := {}
  tandem : Tandem := {}
  aging : Aging := {}
  power : Power := {}
  count : Count := {}
  out : List Out := []
  freeCtr : Nat := 0
  pending : List Instr := []
deriving DecidableEq, Repr

/-- The firmware slot the part is shipped with (assumption 6): a valid, sealed image of security version 0 and version 0. -/
def shippedFirmware : FwSlot :=
  { magic := true, seq := 1, sealWord := some 1, manifestOk := true, sigOk := true, confirmed := true }

/-- The machine right after the power-on release (R467, R470): nothing configured, every station off, memories
initialised, boot not yet complete, the slot die running with every channel OFF. -/
def State.reset : State :=
  { fw := { slotA := shippedFirmware } }

end Sys2Proof.Machine
end

