-- ==== Sys2Proof/Machine/Tables.lean ====
section
/-! DEFINITION. Operations on sparse tables: keys strictly rising, entries equal to the default left out. -/

namespace Sys2Proof.Machine

/-- The entry of a key. -/
def tfind {α : Type} : Tbl α → Nat → Option α
  | [], _ => none
  | (k, v) :: r, i => if i = k then some v else tfind r i

/-- The entry of a key, or the default. -/
def tget {α : Type} (d : α) (t : Tbl α) (i : Nat) : α := (tfind t i).getD d

/-- The table with one entry put in, keys kept strictly rising. -/
def tput {α : Type} : Tbl α → Nat → α → Tbl α
  | [], i, v => [(i, v)]
  | (k, w) :: r, i, v => if i < k then (i, v) :: (k, w) :: r else if i = k then (i, v) :: r else (k, w) :: tput r i v

/-- The table without a key. -/
def tdel {α : Type} (t : Tbl α) (i : Nat) : Tbl α := t.filter fun e => e.1 != i

/-- The table with a value put in; the default is left out. -/
def tset {α : Type} [DecidableEq α] (d : α) (t : Tbl α) (i : Nat) (v : α) : Tbl α :=
  if v = d then tdel t i else tput t i v

/-- A value changed by a function. -/
def tmod {α : Type} [DecidableEq α] (d : α) (t : Tbl α) (i : Nat) (f : α → α) : Tbl α := tset d t i (f (tget d t i))

/-- An entry that is present changed by a function. -/
def tupd {α : Type} (t : Tbl α) (i : Nat) (f : α → α) : Tbl α :=
  match tfind t i with
  | some v => tput t i (f v)
  | none => t

/-- The keys of a table. -/
def tkeys {α : Type} (t : Tbl α) : List Nat := t.map (·.1)

/-- Only the entries that satisfy a condition. -/
def tkeep {α : Type} (t : Tbl α) (p : Nat → α → Bool) : Tbl α := t.filter fun e => p e.1 e.2

/-- The smallest key from `lo` on, below `hi`, that the table does not hold. -/
def tfree {α : Type} (t : Tbl α) (lo hi : Nat) : Option Nat :=
  (List.range' lo (min (hi - lo) (t.length + 1))).find? fun i => (tfind t i).isNone

/-- Keys strictly rising from above a bound. -/
def rising {α : Type} : Tbl α → Bool
  | [] => true
  | [_] => true
  | (k, _) :: (k', v') :: r => decide (k < k') && rising ((k', v') :: r)

/-- The canonical form of a table with a default. -/
def tcanon {α : Type} [DecidableEq α] (d : α) (t : Tbl α) : Bool := rising t && t.all fun e => decide (e.2 ≠ d)

end Sys2Proof.Machine
end

