-- ==== Sys2Proof/Machine/Records.lean ====
section
/-! DEFINITION. The record types of Table 13.6: fields, reset values, own-range checks (R390), canonical order (R410) and
lookups in the configuration in force. -/

namespace Sys2Proof.Machine

/-- What Table 13.6 and a record's field map give for one record type: the command's opcode, the size in quadwords, the
bound of each index, whether a partition lock may cover it, the writable fields and the reserved fields. -/
structure RecSpec where
  opcode : Nat
  words : Nat
  maxA : Nat
  maxB : Nat
  partLock : Bool
  rw : List (Nat × Nat)
  reserved : List (Nat × Nat)

/-- Table 13.6 with the field maps of Tables 2.2 to 11.3. An unknown REC has none. The ACT's first index holds device
and port (R391). -/
def recSpec : Nat → Option RecSpec
  | 0x01 => some ⟨0x0301, 1, 20, 1, false, [(63, 31)], [(30, 0)]⟩
  | 0x02 => some ⟨0x0301, 1, 20, 1, false, [(31, 11)], [(63, 32), (10, 0)]⟩
  | 0x03 => some ⟨0x0301, 1, 320, 1, false, [(15, 13), (3, 0)], [(63, 16), (12, 4)]⟩
  | 0x04 => some ⟨0x0301, 1, 128, 1, false, [(63, 4)], [(3, 0)]⟩
  | 0x05 => some ⟨0x0301, 1, 128, 1, false, [(23, 0)], [(63, 24)]⟩
  | 0x06 => some ⟨0x0301, 1, 40, 1, false, [(63, 40)], [(39, 0)]⟩
  | 0x07 => some ⟨0x0301, 1, 40, 8, false, [(31, 0)], [(63, 32)]⟩
  | 0x10 => some ⟨0x0401, 1, 64, 1, false, [(31, 15)], [(63, 32), (14, 0)]⟩
  | 0x11 => some ⟨0x0401, 1, 64, 31, false, [(31, 11)], [(63, 32), (10, 0)]⟩
  | 0x12 => some ⟨0x0401, 1, 64, 1, false, [(63, 49), (47, 24)], [(48, 48), (23, 0)]⟩
  | 0x13 => some ⟨0x0401, 1, 64, 1, true, [(31, 28)], [(63, 32), (27, 0)]⟩
  | 0x18 => some ⟨0x0402, 4, 1024, 1, false, [(255, 233), (191, 140), (127, 76), (63, 32)],
      [(232, 192), (139, 128), (75, 64), (31, 0)]⟩
  | 0x20 => some ⟨0x0501, 2, 8192, 128, true, [(127, 126), (123, 97), (63, 15)], [(96, 64), (14, 0)]⟩
  | 0x28 => some ⟨0x0601, 1, 128, 576, false, [(31, 24), (13, 0)], [(63, 32), (23, 14)]⟩
  | 0x29 => some ⟨0x0601, 1, 20, 72, false, [(15, 0)], [(63, 32), (30, 16)]⟩
  | 0x2A => some ⟨0x0601, 1, 20, 1, false, [(31, 16)], []⟩
  | 0x30 => some ⟨0x0602, 2, 128, 576, false, [(127, 80), (63, 32)], [(79, 64), (31, 0)]⟩
  | 0x31 => some ⟨0x0602, 1, 128, 72, false, [(63, 44), (15, 0)], [(43, 16)]⟩
  | 0x32 => some ⟨0x0602, 1, 128, 8, false, [(63, 44), (31, 24), (17, 0)], [(43, 32), (23, 18)]⟩
  | 0x33 => some ⟨0x0602, 1, 128, 1, false, [(63, 38), (15, 0)], [(37, 16)]⟩
  | 0x34 => some ⟨0x0602, 2, 21, 72, false, [(127, 60), (15, 0)], [(59, 48), (27, 16)]⟩
  | 0x38 => some ⟨0x0603, 1, 16, 1, false, [(3, 0)], [(63, 4)]⟩
  | 0x39 => some ⟨0x0603, 1, 16, 3, false, [(63, 56), (31, 0)], [(55, 32)]⟩
  | 0x3C => some ⟨0x0604, 2, 21, 72, false, [(127, 88), (31, 0)], [(87, 32)]⟩
  | 0x40 => some ⟨0x0701, 1, 512, 1, false, [(31, 22)], [(63, 32), (21, 0)]⟩
  | 0x41 => some ⟨0x0701, 1, 512, 1, true, [(63, 44), (15, 0)], [(22, 16)]⟩
  | 0x42 => some ⟨0x0701, 1, 4, 1, false, [(31, 0)], [(63, 32)]⟩
  | 0x43 => some ⟨0x0701, 1, 1, 1, false, [(11, 0)], [(63, 12)]⟩
  | 0x48 => some ⟨0x0802, 1, 64, 1, false, [(63, 2)], [(1, 0)]⟩
  | 0x49 => some ⟨0x0802, 1, 1, 1, false, [(63, 25)], [(24, 0)]⟩
  | 0x4A => some ⟨0x0802, 1, 64, 1, false, [(15, 4)], [(63, 16), (3, 0)]⟩
  | 0x50 => some ⟨0x0E02, 1, 64, 1, false, [(63, 33)], [(32, 0)]⟩
  | 0x58 => some ⟨0x0A03, 1, 1, 1, false, [(31, 30), (23, 16)], [(63, 32), (29, 24), (15, 0)]⟩
  | _ => none

/-- The record numbers of Table 13.6. -/
def recNumbers : List Nat :=
  [0x01, 0x02, 0x03, 0x04, 0x05, 0x06, 0x07, 0x10, 0x11, 0x12, 0x13, 0x18, 0x20, 0x28, 0x29, 0x2A, 0x30, 0x31, 0x32,
   0x33, 0x34, 0x38, 0x39, 0x3C, 0x40, 0x41, 0x42, 0x43, 0x48, 0x49, 0x4A, 0x50, 0x58]

/-- The Reset column of a record's writable fields; RO and RC fields are 0 here (R410). -/
def recReset (typ a : Nat) : Rec :=
  BitVec.ofNat 256 <| pack <| match typ with
  | 0x01 => [(59, 52, 1), (48, 47, 1), (46, 45, 1)]
  | 0x02 => [(31, 25, 127), (24, 20, 31), (19, 16, 15), (15, 11, 16)]
  | 0x03 => [(3, 0, 5)]
  | 0x04 => [(47, 45, 5), (42, 42, 1)]
  | 0x05 => [(23, 21, 7), (20, 18, 6), (17, 15, 5), (14, 12, 4), (11, 9, 3), (8, 6, 2), (5, 3, 1)]
  | 0x06 => [(48, 48, 1), (47, 45, 6), (44, 44, 1), (43, 40, 4)]
  | 0x07 => [(31, 24, 12), (23, 16, 4), (15, 8, 12), (7, 0, 4)]
  | 0x10 => [(23, 19, 31), (17, 15, a % 8)]
  | 0x12 => [(55, 52, 7), (50, 50, 1)]
  | 0x13 => [(31, 31, 1), (30, 30, 1)]
  | 0x20 => [(122, 117, 15)]
  | 0x28 => [(27, 24, 6)]
  | 0x2A => [(31, 16, 1024)]
  | 0x30 => [(87, 80, 1), (63, 48, 68), (47, 32, 68)]
  | 0x31 => [(15, 0, 68)]
  | 0x32 => [(31, 24, 1), (15, 0, 68)]
  | 0x33 => [(15, 0, 68)]
  | 0x34 => [(107, 88, 1000), (87, 72, 1000), (71, 68, 3), (67, 64, 3), (60, 60, 1), (15, 0, 68)]
  | 0x38 => [(3, 0, 9)]
  | 0x39 => [(31, 16, 0xFFFF), (15, 0, 0xFFFF)]
  | 0x40 => [(24, 22, a % 8)]
  | 0x41 => [(15, 0, 64)]
  | 0x42 => [(31, 24, 1), (23, 16, 1), (15, 8, 1), (7, 0, 1)]
  | 0x43 => [(11, 9, 1), (8, 6, 1), (5, 3, 1), (2, 0, 1)]
  | 0x48 => [(62, 62, 1), (61, 54, 100), (53, 46, 40), (45, 38, 20), (37, 30, 12), (29, 22, 50), (21, 13, 50),
      (12, 9, 3), (8, 2, 108)]
  | 0x49 => [(63, 48, 200), (47, 41, 10), (40, 33, 108), (32, 25, 5)]
  | 0x58 => [(30, 30, 1), (23, 16, 10)]
  | _ => []

/-- A number lies in a range, both ends included (R6). -/
def within (lo hi x : Nat) : Bool := decide (lo ≤ x) && decide (x ≤ hi)

/-- A PCIe station's START mask is valid (R105). -/
def validStart (mask : Nat) : Bool :=
  bit mask 0 && (onesBelow mask 8).all fun g =>
    let w := (((List.range 9).filter fun h => decide (g < h) && (h == 8 || bit mask h)).headD 8) - g
    [1, 2, 4, 8].contains w && g % w == 0

/-- The width in granules of the port that starts at granule g under a START mask (R105). -/
def granuleWidth (mask g : Nat) : Nat :=
  (((List.range 9).filter fun h => decide (g < h) && (h == 8 || bit mask h)).headD 8) - g

/-- A field's own range and a record's own rules (R390): R43, R59, R76, R95, R105, R114, R180 (fields), R209, R214, R216
(its own record), R260 (its own record), R319, R332 and the INVALID codes of the field maps. -/
def recOk (typ : Nat) (r : Rec) : Bool :=
  match typ with
  | 0x01 => rf r 63 62 != 3 && (rf r 63 62 != 1 || validStart (rf r 59 52))
  | 0x02 => within 10 20 (rf r 15 11)
  | 0x03 => within 0 10 (rf r 3 0)
  | 0x04 => within 0 5 (rf r 47 45) && rf r 44 43 != 3 && within 0 19 (rf r 55 51) &&
      (!rb r 63 || ((rf r 47 45 != 5 || rb r 42) &&
        (if rb r 62 then rf r 41 37 == 0 && !rb r 34 else within 1 31 (rf r 41 37))))
  | 0x06 => within 2 8 (rf r 43 40)
  | 0x07 => within 5 255 (rf r 31 24) && within 1 255 (rf r 23 16) && within 5 255 (rf r 15 8) && within 5 255 (rf r 7 0)
  | 0x10 => within 0 15 (rf r 23 19) || rf r 23 19 == 31
  | 0x11 => !rb r 31 || within 1 31 (rf r 17 13)
  | 0x12 => within 0 10 (rf r 55 52)
  | 0x18 => !rb r 255 || (within 12 52 (rf r 242 237) && rf r 254 249 != rf r 248 243 &&
      rf r 191 140 * 4096 % 2 ^ rf r 242 237 == 0 && rf r 127 76 * 4096 % 2 ^ rf r 242 237 == 0)
  | 0x20 => within 15 52 (rf r 122 117) && rf r 63 15 * 32768 % 2 ^ rf r 122 117 == 0 && rf r 104 103 != 3
  | 0x28 => within 0 9 (rf r 27 24) && within 0 8192 (rf r 13 0)
  | 0x29 => within 0 49152 (rf r 15 0)
  | 0x2A => within 0 8192 (rf r 31 16)
  | 0x30 => within 0 1000000 (rf r 127 108) && within 0 1000000 (rf r 107 88) &&
      (rf r 127 108 == 0 || decide (rf r 107 88 ≤ rf r 127 108))
  | 0x31 => within 0 1000000 (rf r 63 44)
  | 0x32 => within 0 1000000 (rf r 63 44) && within 1 255 (rf r 31 24)
  | 0x33 => within 0 1000000 (rf r 63 44)
  | 0x34 => within 0 1000000 (rf r 127 108) && within 0 1000000 (rf r 107 88) && within 1 65535 (rf r 87 72) &&
      within 0 10 (rf r 71 68) && within 0 10 (rf r 67 64) && (rf r 127 108 == 0 || within 1 (rf r 127 108) (rf r 107 88))
  | 0x38 => within 1 15 (rf r 3 0)
  | 0x39 => decide (rf r 15 0 ≤ rf r 31 16)
  | 0x3C => within 0 1000000 (rf r 127 108) && (rf r 107 88 == 0 || (decide (rf r 107 88 ≤ rf r 127 108) &&
      within 68 65535 (rf r 15 0) && within 68 65535 (rf r 31 16)))
  | 0x41 => within 0 1000000 (rf r 63 44)
  | 0x42 => within 1 255 (rf r 31 24) && within 1 255 (rf r 23 16) && within 1 255 (rf r 15 8) && within 1 255 (rf r 7 0)
  | 0x48 => within 20 250 (rf r 61 54) && within 20 250 (rf r 53 46) && within 5 100 (rf r 45 38) &&
      within 1 255 (rf r 37 30) && within 1 200 (rf r 29 22) && within 1 500 (rf r 21 13) &&
      (within 0 7 (rf r 12 9) || rf r 12 9 == 15) && within 50 120 (rf r 8 2) && decide (rf r 53 46 ≤ rf r 61 54)
  | 0x49 => within 1 100 (rf r 47 41) && within 90 120 (rf r 40 33) && within 1 50 (rf r 32 25)
  | 0x58 => within 1 255 (rf r 23 16)
  | _ => true

/-- The key of an entry as one list, compared in canonical order: device, REC, first index, second index (R410). -/
def entryBefore (x y : CfgEntry) : Bool :=
  decide (x.dev < y.dev) || (x.dev == y.dev && (decide (x.typ < y.typ) || (x.typ == y.typ &&
    (decide (x.a < y.a) || (x.a == y.a && decide (x.b < y.b))))))

/-- Two entries name the same record. -/
def sameKey (x y : CfgEntry) : Bool := x.dev == y.dev && x.typ == y.typ && x.a == y.a && x.b == y.b

/-- The record's data under a configuration; a record that is not listed holds its Reset value. -/
def cfgLookup : List CfgEntry → Nat → Nat → Nat → Nat → Rec
  | [], _, typ, a, _ => recReset typ a
  | e :: r, dev, typ, a, b =>
    if e.dev = dev ∧ e.typ = typ ∧ e.a = a ∧ e.b = b then e.data else cfgLookup r dev typ a b

/-- Put an entry in, keeping canonical order. -/
def cfgInsert : List CfgEntry → CfgEntry → List CfgEntry
  | [], x => [x]
  | e :: r, x => if entryBefore x e then x :: e :: r else if sameKey x e then x :: r else e :: cfgInsert r x

/-- Take an entry out. -/
def cfgErase (es : List CfgEntry) (x : CfgEntry) : List CfgEntry := es.filter fun e => !sameKey e x

/-- Set a record; a record at its Reset value is not listed (R410). -/
def cfgPut (es : List CfgEntry) (x : CfgEntry) : List CfgEntry :=
  if x.data = recReset x.typ x.a then cfgErase es x else cfgInsert es x

/-- Canonical form of a configuration: strictly ascending, and no entry equal to its Reset value (R410). -/
def cfgAscending : List CfgEntry → Bool
  | [] => true
  | [_] => true
  | e :: f :: r => entryBefore e f && cfgAscending (f :: r)

def cfgCanon (es : List CfgEntry) : Bool := cfgAscending es && es.all fun e => decide (e.data ≠ recReset e.typ e.a)

/-- An entry's bytes: the header of R410 and the quadwords of its data, little-endian. -/
def entryBytes (e : CfgEntry) : List Byte :=
  let w := match recSpec e.typ with
    | some s => s.words
    | none => 4
  leBytes 8 (pack [(63, 56, e.typ), (55, 40, e.a), (39, 24, e.b), (23, 16, w), (13, 8, e.dev)]) ++
    leBytes (8 * w) e.data.toNat

/-- The canonical configuration as bytes (R410). -/
def cfgBytes (es : List CfgEntry) : List Byte := es.flatMap entryBytes

/-- Its length in bytes. -/
def cfgLength (es : List CfgEntry) : Nat :=
  (es.map fun e => 8 + 8 * (match recSpec e.typ with
    | some s => s.words
    | none => 4)).sum

/-- A record as it stands in the log (Table 10.7). -/
def recordQuads (e : ErrRec) : List Word64 :=
  let opt (v : Option Nat) := (b2n v.isSome, v.getD 0)
  [BitVec.ofNat 64 e.time,
   quad [(63, 32, e.seq), (31, 16, e.cause), (15, 13, e.cls), (12, 11, e.fl)],
   quad [(63, 58, e.srcDev), (57, 51, e.srcPort), (50, 50, (opt e.srcPart).1), (49, 44, (opt e.srcPart).2),
     (43, 43, (opt e.srcFunc).1), (42, 33, (opt e.srcFunc).2), (15, 0, e.reqId)],
   quad [(63, 58, e.dstDev), (57, 51, e.dstPort), (50, 50, (opt e.dstPart).1), (49, 44, (opt e.dstPart).2),
     (43, 43, (opt e.dstFunc).1), (42, 33, (opt e.dstFunc).2), (13, 0, e.tag)],
   BitVec.ofNat 64 e.address, quad [(63, 32, e.epoch), (31, 0, e.count)], BitVec.ofNat 64 e.detailA, BitVec.ofNat 64 e.detailB]

/-- This device's DEVNUM, the straps sampled at the end of a device reset (R532). -/
def State.dev (s : State) : Nat := s.chip.devnum

/-- A record of this device under the configuration in force. -/
def State.cfg (s : State) (typ a b : Nat) : Rec := cfgLookup s.conf.entries s.dev typ a b

/-- The entries of this device with one REC. -/
def State.mine (s : State) (typ : Nat) : List CfgEntry := s.conf.entries.filter fun e => e.dev == s.dev && e.typ == typ

/-! Named fields of the records that many steps read. -/

def stationMode (s : State) (st : Nat) : Nat := rf (s.cfg 0x01 st 0) 63 62
def portRec (s : State) (p : Nat) : Rec := s.cfg 0x04 p 0
def portEn (s : State) (p : Nat) : Bool := rb (portRec s p) 63
def portUp (s : State) (p : Nat) : Bool := rb (portRec s p) 62
def portPart (s : State) (p : Nat) : Nat := rf (portRec s p) 61 56
def portVsw (s : State) (p : Nat) : Nat := rf (portRec s p) 36 35
def portDevNum (s : State) (p : Nat) : Nat := rf (portRec s p) 41 37
def portHp (s : State) (p : Nat) : Bool := rb (portRec s p) 34
def portSlot (s : State) (p : Nat) : Nat := rf (portRec s p) 33 28
def partRec (s : State) (p : Nat) : Rec := s.cfg 0x10 p 0
def partEn (s : State) (p : Nat) : Bool := rb (partRec s p) 31
def partStrict (s : State) (p : Nat) : Bool := partEn s p && rb (partRec s p) 30
def partHome (s : State) (p : Nat) : Nat := rf (partRec s p) 29 24
def partPerst (s : State) (p : Nat) : Nat := rf (partRec s p) 23 19
def vfEn (s : State) (v : Nat) : Bool := rb (s.cfg 0x40 v 0) 31
def vfPart (s : State) (v : Nat) : Nat := rf (s.cfg 0x40 v 0) 30 25
def spokeRec (s : State) (k : Nat) : Rec := s.cfg 0x06 k 0
/-- A spoke exists while its station is in spoke mode and enables it (R107). -/
def spokeEn (s : State) (k : Nat) : Bool :=
  decide (k < 40) && stationMode s (k / 2) == 2 && bit (rf (s.cfg 0x01 (k / 2) 0) 61 60) (k % 2)
def spokePort (s : State) (k : Nat) : Nat := rf (spokeRec s k) 63 57
/-- The spoke whose record names a logical port, when one does. -/
def portSpoke (s : State) (p : Nat) : Option Nat := (List.range 40).find? fun k => spokeEn s k && spokePort s k == p
/-- The station that holds a logical port (a PCIe port or a spoke). -/
def portStation (s : State) (p : Nat) : Nat :=
  match portSpoke s p with
  | some k => k / 2
  | none => rf (portRec s p) 55 51
/-- The logical ports of a station in ascending order. -/
def stationPorts (s : State) (st : Nat) : List Nat :=
  (List.range 128).filter fun p => portStation s p == st && (portEn s p || (portSpoke s p).isSome)
/-- The enabled PCIe ports of a partition on this device. -/
def partPorts (s : State) (p : Nat) : List Nat := (List.range 128).filter fun q => portEn s q && portPart s q == p
/-- The primary upstream port of a partition on this device (R138). -/
def primaryUp (s : State) (p : Nat) : Option Nat := (partPorts s p).find? fun q => portUp s q && portVsw s q == 0
/-- The upstream port of a virtual switch on this device. -/
def vswUp (s : State) (p v : Nat) : Option Nat := (partPorts s p).find? fun q => portUp s q && portVsw s q == v
/-- The downstream ports of a virtual switch on this device. -/
def vswDown (s : State) (p v : Nat) : List Nat := (partPorts s p).filter fun q => !portUp s q && portVsw s q == v
/-- The VFs assigned to a partition. -/
def partVfs (s : State) (p : Nat) : List Nat := (List.range 512).filter fun v => vfEn s v && vfPart s v == p
/-- The partition of a mover function: a VF, or function 1 of a partition; from 1,024 on, of the management controller's requests. -/
def funcPart (s : State) (f : Nat) : Nat := if f < 512 then vfPart s f else (f - 512) % 512
/-- The port of this device that names a slot channel, when one does. -/
def slotPort (s : State) (ch : Nat) : Option Nat :=
  (List.range 128).find? fun p => portEn s p && portHp s p && portSlot s p == ch

/-- A subscriber is a partition in strict isolation mode (Table 2.5, STRICT). -/
def subStrict (s : State) (sub : Nat) : Bool := decide (sub < 64) && partStrict s sub

/-- Service of a TLP's traffic class at a PCIe port (R38). -/
def svcOf (s : State) (p tc : Nat) : Nat := rf (s.cfg 0x05 p 0) (3 * (tc % 8) + 2) (3 * (tc % 8))

end Sys2Proof.Machine
end

