-- ==== Sys2Proof/WellFormed.lean ====
section
/-! DEFINITION. The operands of a command name objects the part has (Tables 0.5, 12.3, 1.4 and 3.1). -/

namespace Sys2Proof

/-- A logical port P0 to P127. -/
def okPort (n : Nat) : Bool := decide (n < 128)
/-- A lane L0 to L319. -/
def okLane (n : Nat) : Bool := decide (n < 320)
/-- A spoke 2s + h. -/
def okSpoke (n : Nat) : Bool := decide (n < 40)
def okSpokeOpt : Option Nat → Bool
  | none => true
  | some n => okSpoke n
/-- A mover function: VF 0 to 511, or 512 + p for function 1 of partition p. -/
def okFunc (n : Nat) : Bool := decide (n < 576)
def okFuncOpt : Option Nat → Bool
  | none => true
  | some n => okFunc n
/-- A function that takes a function-level reset: a mover function, or 1024 + p for function 0 of partition p. -/
def okFlr (n : Nat) : Bool := decide (n < 576) || (decide (1024 ≤ n) && decide (n < 1088))
/-- A slot channel 0 to 63. -/
def okChan (n : Nat) : Bool := decide (n < 64)
/-- A channel or, from 64, a feed of the slot die's converter (R352). -/
def okAdc (n : Nat) : Bool := decide (n < 66)
/-- A partition PT0 to PT63. -/
def okPart (n : Nat) : Bool := decide (n < 64)
/-- The source partition of an episode; 64 stands for a debug access, which has none (R324). -/
def okEpisodePart (n : Nat) : Bool := decide (n ≤ 64)
/-- A device number 0 to 63. -/
def okDev (n : Nat) : Bool := decide (n < 64)
/-- A mailbox of Table 12.3. -/
def okMb (n : Nat) : Bool := decide (n < 67)
def okReq (r : Req) : Bool := okMb r.mb
/-- A service 0 to 7 (also a mover lane, a spoke's lane). -/
def okSvc (n : Nat) : Bool := decide (n < 8)
/-- A subscriber 0 to 71. -/
def okSub (n : Nat) : Bool := decide (n < 72)
/-- An ingress attachment: a station, or 20 for the mover. -/
def okAtt (n : Nat) : Bool := decide (n < 21)
def okEngine (n : Nat) : Bool := decide (n < 4)
def okStation (n : Nat) : Bool := decide (n < 20)
def okPerstin (n : Nat) : Bool := decide (n < 16)
def okBucket (n : Nat) : Bool := decide (n < 16)
/-- A tag table entry. -/
def okTag (n : Nat) : Bool := decide (n < 65536)
/-- A write tracker. -/
def okTracker (n : Nat) : Bool := decide (n < 32768)
/-- A bandwidth window unit. -/
def okUnit (n : Nat) : Bool := decide (n < 8)
/-- An INTx pin, or a credit pool. -/
def okPin (n : Nat) : Bool := decide (n < 4)
/-- A pair of timing wheels: 20 egress schedulers, 21 ingress instances, one mover instance (Table 3.1). -/
def okWheel (n : Nat) : Bool := decide (n < 42)
/-- An arbiter instance: 0 the device lock, 1 + p partition lock p, 65 + n the semaphore of port n, 193 the inrush queue
(Table 12.12). -/
def okArbiter (n : Nat) : Bool := decide (n < 194)
/-- A memory of Table 1.4. -/
def okMemory (n : Nat) : Bool := decide (n < 9)
/-- A memory of Table 10.3 and the index it is read at. -/
def okBank : Bank → Bool
  | .output st _ => okStation st
  | .ingressStaging _ => true
  | .queueState st => okStation st
  | .moverStaging f _ _ => okFunc f
  | .counterBank _ => true
  | .tables => true
  | .tagTable e => okTag e
  | .writeTracker t => okTracker t
  | .scratchpad _ p _ => okPart p
  | .coefStore k => okSpoke k
  | .pcieRetry p => okPort p
  | .spokeReplay k => okSpoke k
def okDebug : DebugTarget → Bool
  | .memory p t _ _ _ => okPort p && decide (t < 2)
  | .sidePort b => okBank b

/-- Every operand of a command lies in its range. -/
def Instr.wf : Instr → Bool
  | .powerOn _ => true
  | .coreRailDip _ => true
  | .coreRailReturn _ => true
  | .resetNAssert _ => true
  | .resetNRelease _ => true
  | .i3cTargetReset _ => true
  | .fatalAutoReset _ => true
  | .perstinAssert _ i => okPerstin i
  | .perstinRelease _ i => okPerstin i
  | .partitionResetNotice _ p _ => okPart p
  | .partitionReady _ p => okPart p
  | .hotResetReceived _ port => okPort port
  | .upstreamDlDown _ port => okPort port
  | .secondaryBusResetDownstream _ port => okPort port
  | .secondaryBusResetUpstream _ port => okPort port
  | .flr _ func => okFlr func
  | .flrComplete _ func => okFlr func
  | .vfEnableClear _ p => okPart p
  | .watchdogExpiry _ => true
  | .firmwareRestartRequest _ => true
  | .mcRestartDone _ => true
  | .slotResetNAssert _ => true
  | .vpwrLoss _ => true
  | .vpwrRecovery _ => true
  | .slotInterfaceRestored _ => true
  | .referenceLost _ _ => true
  | .referenceRelock _ => true
  | .referenceUsable _ _ => true
  | .holdoverTimeout _ => true
  | .d2dUncorrectable _ => true
  | .rootPllUnlock _ => true
  | .pcieTlpReceived _ port _ => okPort port
  | .frameStage _ _ => true
  | .stagingLifetimeExpiry _ _ => true
  | .egressAdmission _ _ => true
  | .xoffReachIngress _ att port svc => okAtt att && okPort port && okSvc svc
  | .frameReassembled _ _ => true
  | .echoReceived _ att sub => okAtt att && okSub sub
  | .shaperRecoveryStep _ att sub => okAtt att && okSub sub
  | .egressSelect _ station _ => okStation station
  | .frameDepart _ _ => true
  | .noticeBatchTimer _ lane port => okSvc lane && okPort port
  | .lifetimeSweep _ => true
  | .wheelSlotRelease _ inst => okWheel inst
  | .wheelRevolution _ inst => okWheel inst
  | .jobBind _ func _ => okFunc func
  | .moverReadGrant _ engine => okEngine engine
  | .truingUpdate _ lane _ _ => okLane lane
  | .lossOfSignal _ lane => okLane lane
  | .eyeMeasurement _ lane _ => okLane lane
  | .laneMargining _ lane _ => okLane lane
  | .coefStoreCopy _ spoke _ => okSpoke spoke
  | .dlUp _ port _ _ _ => okPort port
  | .downstreamDlDown _ port => okPort port
  | .linkRecoveryExit _ port _ _ => okPort port
  | .pcieCorrectableError _ port _ => okPort port
  | .pcieUncorrectableError _ port _ => okPort port
  | .dpcStatusClear _ port => okPort port
  | .intxMessageReceived _ port pin _ => okPort port && okPin pin
  | .intStatusWrite _ p _ => okPart p
  | .intMaskWrite _ p _ => okPart p
  | .msixEnableWrite _ p _ => okPart p
  | .interruptDisableWrite _ p _ => okPart p
  | .configRequest _ port _ _ _ _ _ _ => okPort port
  | .powerControllerControlWrite _ port _ => okPort port
  | .d3hotEntry _ p => okPart p
  | .pmeTurnOff _ port => okPort port
  | .pmeToAck _ port => okPort port
  | .spokeCellSend _ spoke _ => okSpoke spoke
  | .spokeCellReceive _ spoke _ _ => okSpoke spoke
  | .creditBeatReceived _ spoke _ => okSpoke spoke
  | .creditRefresh _ spoke => okSpoke spoke
  | .preemptReceived _ spoke _ _ => okSpoke spoke
  | .resumeReceived _ spoke _ => okSpoke spoke
  | .retryReqReceived _ spoke _ => okSpoke spoke
  | .retryReqRepeat _ spoke => okSpoke spoke
  | .ackBeatReceived _ spoke _ => okSpoke spoke
  | .ackBeatTimer _ spoke => okSpoke spoke
  | .replayTimeout _ spoke => okSpoke spoke
  | .retireRequestReceived _ spoke _ => okSpoke spoke
  | .retireConfirmReceived _ spoke _ => okSpoke spoke
  | .trainReceived _ spoke _ => okSpoke spoke
  | .idleBeatReceived _ spoke _ => okSpoke spoke
  | .bringupStepDone _ spoke _ => okSpoke spoke
  | .bringupRetry _ spoke => okSpoke spoke
  | .cadenceLoss _ spoke => okSpoke spoke
  | .cadenceAppear _ spoke => okSpoke spoke
  | .timeReqTimer _ => true
  | .timeReqReceived _ spoke _ => okSpoke spoke
  | .timeRespReceived _ spoke _ => okSpoke spoke
  | .timeLockLossTimeout _ => true
  | .plumbTimer _ => true
  | .plumbReceived _ spoke _ => okSpoke spoke
  | .plumbTimeout _ spoke => okSpoke spoke
  | .bucketMoveComplete _ dest bucket => okDev dest && okBucket bucket
  | .bucketMoveBack _ dest bucket => okDev dest && okBucket bucket
  | .noticeReceived _ lane _ => okSvc lane
  | .ackCellReceived _ _ => true
  | .mgmtUnknownCode _ spoke _ => okSpoke spoke
  | .bridgedCompletion _ spoke sub _ _ => okSpokeOpt spoke && okSub sub
  | .readTimeout _ entry => okTag entry
  | .tagQuarantineEnd _ entry => okTag entry
  | .trackerNoAnswer _ trk => okTracker trk
  | .trackerQuarantineEnd _ trk => okTracker trk
  | .ackBatch _ dev => okDev dev
  | .episodeClose _ _ srcPart dstDev dstPort => okEpisodePart srcPart && okDev dstDev && okPort dstPort
  | .drainDone _ => true
  | .mrdlkArrival _ port _ => okPort port
  | .lockReq _ _ ownerDev ingressPort targetPort => okDev ownerDev && okPort ingressPort && okPort targetPort
  | .lockGrant _ ownerDev ingressPort targetDev targetPort => okDev ownerDev && okPort ingressPort && okDev targetDev && okPort targetPort
  | .lockYield _ ownerDev ingressPort => okDev ownerDev && okPort ingressPort
  | .lockReleaseMessage _ ownerDev ingressPort targetPort => okDev ownerDev && okPort ingressPort && okPort targetPort
  | .rangeSync _ m => okPart m.part && okDev m.dev && okPort m.port
  | .errRecord _ p _ => okPart p
  | .sqDoorbell _ func _ => okFunc func
  | .cqDoorbell _ func _ => okFunc func
  | .ringEnable _ func _ _ => okFunc func
  | .ringDisable _ func => okFunc func
  | .descriptorFetch _ func => okFunc func
  | .descriptorFetchComplete _ func _ _ _ => okFunc func
  | .shardTableReadComplete _ func _ _ _ => okFunc func
  | .columnReserve _ func _ => okFunc func
  | .moverReadCompletion _ func _ _ _ _ => okFunc func
  | .moverReadTimeout _ func _ => okFunc func
  | .noticeTimeout _ func _ _ => okFunc func
  | .completionEntryWrite _ func _ => okFunc func
  | .engineResidueFault _ engine func _ _ => okEngine engine && okFunc func
  | .engineDrainDone _ engine => okEngine engine
  | .engineSelfTestDone _ engine _ => okEngine engine
  | .engineDrainTimeout _ engine => okEngine engine
  | .memSingleBitRead _ bank _ _ => okMemory bank
  | .memUncorrectableRead _ bank => okBank bank
  | .tableRewriteDone _ _ => true
  | .nfGapExpiry _ p => okPart p
  | .slotFastTrip _ ch _ => okChan ch
  | .slotFaultTimerExpiry _ ch _ => okChan ch
  | .slotEnergyExceeded _ ch _ => okChan ch
  | .slotRampDone _ ch _ => okChan ch
  | .slotPowerGoodQualify _ ch _ => okChan ch
  | .pgLost _ ch => okChan ch
  | .slotPerstRelease _ ch => okChan ch
  | .retryWaitEnd _ ch => okChan ch
  | .dischargeEnd _ ch _ => okChan ch
  | .gateStuck _ ch => okChan ch
  | .fetLeak _ ch => okChan ch
  | .retryCountClear _ ch => okChan ch
  | .presenceChange _ ch _ => okChan ch
  | .inrushGrant _ => true
  | .spinHoldExpiry _ ch => okChan ch
  | .feedReverseTurnoff _ _ => true
  | .feedForwardResume _ _ => true
  | .feedLost _ _ => true
  | .feedRestored _ _ => true
  | .mbDoorbellSubmit _ mb => okMb mb
  | .mbDoorbellAcknowledge _ mb => okMb mb
  | .mailboxAccept _ => true
  | .mailboxWindowWrite _ mb _ _ _ _ => okMb mb
  | .errHeadWrite _ p _ => okPart p
  | .oobMctpMessage _ r => okReq r
  | .mctpControlMessage _ _ _ => true
  | .i3cDynamicAddress _ _ => true
  | .alertResponseAddress _ => true
  | .ibiRepeat _ => true
  | .debugMailboxFrame _ r => okReq r
  | .arbiterGrant _ inst => okArbiter inst
  | .lockWaitExpiry _ mb => okMb mb
  | .tandemLinkLossTimeout _ => true
  | .cfgStageOpen _ r => okReq r
  | .cfgStageImageChunk _ r => okReq r
  | .cfgStageImageEnd _ r => okReq r
  | .cfgStageFromSlot _ r => okReq r
  | .cfgPrepare _ r => okReq r
  | .cfgCommit _ r => okReq r
  | .cfgAbort _ r => okReq r
  | .lockAcquire _ r => okReq r
  | .lockRelease _ r => okReq r
  | .lockRevoke _ r => okReq r
  | .portSet _ r => okReq r
  | .partSet _ r => okReq r
  | .windowSet _ r => okReq r
  | .actWrite _ r => okReq r
  | .actPeg _ r => okReq r
  | .actPegOutcome _ mb _ _ _ => okMb mb
  | .actPegRemoteTimeout _ mb => okMb mb
  | .queueSet _ r => okReq r
  | .shaperSet _ r => okReq r
  | .redProfileSet _ r => okReq r
  | .moverVfSet _ r => okReq r
  | .slotPowerOn _ r => okReq r
  | .slotPowerOff _ r => okReq r
  | .clearLatch _ r => okReq r
  | .clearUnusable _ r => okReq r
  | .slotLimits _ r => okReq r
  | .snapshot _ r => okReq r
  | .bwWindow _ r => okReq r
  | .errRead _ r => okReq r
  | .errReadAck _ r => okReq r
  | .fenceClear _ r => okReq r
  | .loopbackStart _ r => okReq r
  | .loopbackStop _ r => okReq r
  | .loopbackStatus _ r => okReq r
  | .fwUpdateWrite _ r => okReq r
  | .fwUpdateVerify _ r => okReq r
  | .fwActivateAtReset _ r => okReq r
  | .fwActivateRestart _ r => okReq r
  | .fwUpdateDiscard _ r => okReq r
  | .attest _ r => okReq r
  | .tandemStatus _ r => okReq r
  | .identify _ r => okReq r
  | .caps _ r => okReq r
  | .cfgRead _ r => okReq r
  | .cfgStatus _ r => okReq r
  | .cfgSlotRead _ r => okReq r
  | .lockPrioSet _ r => okReq r
  | .lockStatus _ r => okReq r
  | .laneStatus _ r => okReq r
  | .spokeStatus _ r => okReq r
  | .coefExport _ r => okReq r
  | .coefImport _ r => okReq r
  | .laneReadmit _ r => okReq r
  | .portStatus _ r => okReq r
  | .partStatus _ r => okReq r
  | .actRead _ r => okReq r
  | .markerSet _ r => okReq r
  | .queueStatus _ r => okReq r
  | .shaperStatus _ r => okReq r
  | .engineTest _ r => okReq r
  | .moverStatus _ r => okReq r
  | .slotStatus _ r => okReq r
  | .counterRead _ r => okReq r
  | .errControl _ r => okReq r
  | .partitionContain _ r => okReq r
  | .healthRead _ r => okReq r
  | .reshimRun _ r => okReq r
  | .reshimPolicy _ r => okReq r
  | .wearRead _ r => okReq r
  | .powerCap _ r => okReq r
  | .planerSet _ r => okReq r
  | .testStatus _ r => okReq r
  | .debugTokenNonce _ r => okReq r
  | .debugTokenSubmit _ r _ => okReq r
  | .debugTokenRevoke _ r => okReq r
  | .fuseRead _ r => okReq r
  | .routeSet _ r => okReq r
  | .timeStatus _ r => okReq r
  | .tandemSet _ r => okReq r
  | .registerWrite _ p func _ _ _ => okPart p && okFuncOpt func
  | .cmtImage _ src _ _ _ => okDev src
  | .cmtPrepare _ src _ _ _ _ _ => okDev src
  | .cmtVote _ _ dev _ => okDev dev
  | .cmtCommit _ src _ _ _ => okDev src
  | .cmtArmed _ _ dev _ _ _ => okDev dev
  | .cmtAbort _ src _ => okDev src
  | .cmtDone _ _ dev _ _ _ => okDev dev
  | .cmtCommitRepeat _ => true
  | .prepareTimeout _ => true
  | .preparedHoldExpiry _ => true
  | .commitSwap _ => true
  | .configImageWrite _ => true
  | .sealWrite _ => true
  | .commitWaitTimeout _ => true
  | .heartbeatSend _ => true
  | .tdmHeartbeat _ dev _ _ _ _ _ => okDev dev
  | .heartbeatTimeout _ => true
  | .masterClaimTimeout _ => true
  | .tdmHandover _ _ => true
  | .handoverTime _ => true
  | .masterYieldRelease _ => true
  | .tdmMailbox _ _ _ _ _ => true
  | .tdmResponse _ _ _ _ _ => true
  | .fwConfirmation _ => true
  | .fwConfirmTimeout _ => true
  | .getVersion _ _ => true
  | .getCapabilities _ _ => true
  | .negotiateAlgorithms _ _ _ _ => true
  | .getDigests _ _ => true
  | .getCertificate _ _ _ _ _ => true
  | .challenge _ _ _ _ => true
  | .getMeasurements _ _ _ _ _ => true
  | .debugTokenExpiry _ => true
  | .debugAccess _ tgt => okDebug tgt
  | .provisioning _ _ _ _ _ _ _ => true
  | .reshimInterval _ _ => true
  | .reshimStep _ port => okPort port
  | .reshimComplete _ => true
  | .wearCharge _ _ => true
  | .wearStoreWrite _ => true
  | .planerRegionStart _ => true
  | .planerRegionDone _ _ _ => true
  | .currentGuardEngage _ => true
  | .currentGuardRelease _ => true
  | .powerCapWindow _ _ => true
  | .governorTick _ _ => true
  | .thermalTrip _ => true
  | .snapshotTime _ => true
  | .snapshotCopyDone _ => true
  | .snapReq _ dev _ => okDev dev
  | .snapDone _ dev _ => okDev dev
  | .snapshotFabricTimeout _ => true
  | .bwWindowStart _ unit => okUnit unit
  | .bwWindowEnd _ unit => okUnit unit
  | .loopbackLockTimeout _ _ => true
  | .loopbackDurationEnd _ _ _ _ _ => true
  | .bypass _ => true
  | .idcode _ => true
  | .samplePreload _ _ => true
  | .extest _ => true
  | .clamp _ => true
  | .highz _ => true
  | .extestPulse _ => true
  | .extestTrain _ => true
  | .scanEntry _ => true
  | .memoryBist _ _ _ => true
  | .vddSetpointStep _ _ _ _ => true
  | .vrAlert _ _ => true
  | .bootComplete _ => true
  | .slotResetNRelease _ => true
  | .startupFetShortCheck _ ch _ => okChan ch
  | .slotCommandAccepted _ ch => okChan ch
  | .adcSample _ ch _ _ => okAdc ch
  | .rcRegisterRead _ p func _ _ => okPart p && okFuncOpt func
  | .fwUpdateDone _ => true
  | .mailboxDmaTimeout _ mb => okMb mb
  | .coefficientsDerived _ func _ => okFunc func
  | .linkRecoveryEntry _ port => okPort port
  | .lossOfSignalEnd _ lane => okLane lane
  | .d3hotExit _ p => okPart p
  | .vfEnableSet _ p _ => okPart p

/-- The time that has passed since the command before. -/
def Instr.dt : Instr → Nat
  | .powerOn dt .. => dt
  | .coreRailDip dt .. => dt
  | .coreRailReturn dt .. => dt
  | .resetNAssert dt .. => dt
  | .resetNRelease dt .. => dt
  | .i3cTargetReset dt .. => dt
  | .fatalAutoReset dt .. => dt
  | .perstinAssert dt .. => dt
  | .perstinRelease dt .. => dt
  | .partitionResetNotice dt .. => dt
  | .partitionReady dt .. => dt
  | .hotResetReceived dt .. => dt
  | .upstreamDlDown dt .. => dt
  | .secondaryBusResetDownstream dt .. => dt
  | .secondaryBusResetUpstream dt .. => dt
  | .flr dt .. => dt
  | .flrComplete dt .. => dt
  | .vfEnableClear dt .. => dt
  | .watchdogExpiry dt .. => dt
  | .firmwareRestartRequest dt .. => dt
  | .mcRestartDone dt .. => dt
  | .slotResetNAssert dt .. => dt
  | .vpwrLoss dt .. => dt
  | .vpwrRecovery dt .. => dt
  | .slotInterfaceRestored dt .. => dt
  | .referenceLost dt .. => dt
  | .referenceRelock dt .. => dt
  | .referenceUsable dt .. => dt
  | .holdoverTimeout dt .. => dt
  | .d2dUncorrectable dt .. => dt
  | .rootPllUnlock dt .. => dt
  | .pcieTlpReceived dt .. => dt
  | .frameStage dt .. => dt
  | .stagingLifetimeExpiry dt .. => dt
  | .egressAdmission dt .. => dt
  | .xoffReachIngress dt .. => dt
  | .frameReassembled dt .. => dt
  | .echoReceived dt .. => dt
  | .shaperRecoveryStep dt .. => dt
  | .egressSelect dt .. => dt
  | .frameDepart dt .. => dt
  | .noticeBatchTimer dt .. => dt
  | .lifetimeSweep dt .. => dt
  | .wheelSlotRelease dt .. => dt
  | .wheelRevolution dt .. => dt
  | .jobBind dt .. => dt
  | .moverReadGrant dt .. => dt
  | .truingUpdate dt .. => dt
  | .lossOfSignal dt .. => dt
  | .eyeMeasurement dt .. => dt
  | .laneMargining dt .. => dt
  | .coefStoreCopy dt .. => dt
  | .dlUp dt .. => dt
  | .downstreamDlDown dt .. => dt
  | .linkRecoveryExit dt .. => dt
  | .pcieCorrectableError dt .. => dt
  | .pcieUncorrectableError dt .. => dt
  | .dpcStatusClear dt .. => dt
  | .intxMessageReceived dt .. => dt
  | .intStatusWrite dt .. => dt
  | .intMaskWrite dt .. => dt
  | .msixEnableWrite dt .. => dt
  | .interruptDisableWrite dt .. => dt
  | .configRequest dt .. => dt
  | .powerControllerControlWrite dt .. => dt
  | .d3hotEntry dt .. => dt
  | .pmeTurnOff dt .. => dt
  | .pmeToAck dt .. => dt
  | .spokeCellSend dt .. => dt
  | .spokeCellReceive dt .. => dt
  | .creditBeatReceived dt .. => dt
  | .creditRefresh dt .. => dt
  | .preemptReceived dt .. => dt
  | .resumeReceived dt .. => dt
  | .retryReqReceived dt .. => dt
  | .retryReqRepeat dt .. => dt
  | .ackBeatReceived dt .. => dt
  | .ackBeatTimer dt .. => dt
  | .replayTimeout dt .. => dt
  | .retireRequestReceived dt .. => dt
  | .retireConfirmReceived dt .. => dt
  | .trainReceived dt .. => dt
  | .idleBeatReceived dt .. => dt
  | .bringupStepDone dt .. => dt
  | .bringupRetry dt .. => dt
  | .cadenceLoss dt .. => dt
  | .cadenceAppear dt .. => dt
  | .timeReqTimer dt .. => dt
  | .timeReqReceived dt .. => dt
  | .timeRespReceived dt .. => dt
  | .timeLockLossTimeout dt .. => dt
  | .plumbTimer dt .. => dt
  | .plumbReceived dt .. => dt
  | .plumbTimeout dt .. => dt
  | .bucketMoveComplete dt .. => dt
  | .bucketMoveBack dt .. => dt
  | .noticeReceived dt .. => dt
  | .ackCellReceived dt .. => dt
  | .mgmtUnknownCode dt .. => dt
  | .bridgedCompletion dt .. => dt
  | .readTimeout dt .. => dt
  | .tagQuarantineEnd dt .. => dt
  | .trackerNoAnswer dt .. => dt
  | .trackerQuarantineEnd dt .. => dt
  | .ackBatch dt .. => dt
  | .episodeClose dt .. => dt
  | .drainDone dt .. => dt
  | .mrdlkArrival dt .. => dt
  | .lockReq dt .. => dt
  | .lockGrant dt .. => dt
  | .lockYield dt .. => dt
  | .lockReleaseMessage dt .. => dt
  | .rangeSync dt .. => dt
  | .errRecord dt .. => dt
  | .sqDoorbell dt .. => dt
  | .cqDoorbell dt .. => dt
  | .ringEnable dt .. => dt
  | .ringDisable dt .. => dt
  | .descriptorFetch dt .. => dt
  | .descriptorFetchComplete dt .. => dt
  | .shardTableReadComplete dt .. => dt
  | .columnReserve dt .. => dt
  | .moverReadCompletion dt .. => dt
  | .moverReadTimeout dt .. => dt
  | .noticeTimeout dt .. => dt
  | .completionEntryWrite dt .. => dt
  | .engineResidueFault dt .. => dt
  | .engineDrainDone dt .. => dt
  | .engineSelfTestDone dt .. => dt
  | .engineDrainTimeout dt .. => dt
  | .memSingleBitRead dt .. => dt
  | .memUncorrectableRead dt .. => dt
  | .tableRewriteDone dt .. => dt
  | .nfGapExpiry dt .. => dt
  | .slotFastTrip dt .. => dt
  | .slotFaultTimerExpiry dt .. => dt
  | .slotEnergyExceeded dt .. => dt
  | .slotRampDone dt .. => dt
  | .slotPowerGoodQualify dt .. => dt
  | .pgLost dt .. => dt
  | .slotPerstRelease dt .. => dt
  | .retryWaitEnd dt .. => dt
  | .dischargeEnd dt .. => dt
  | .gateStuck dt .. => dt
  | .fetLeak dt .. => dt
  | .retryCountClear dt .. => dt
  | .presenceChange dt .. => dt
  | .inrushGrant dt .. => dt
  | .spinHoldExpiry dt .. => dt
  | .feedReverseTurnoff dt .. => dt
  | .feedForwardResume dt .. => dt
  | .feedLost dt .. => dt
  | .feedRestored dt .. => dt
  | .mbDoorbellSubmit dt .. => dt
  | .mbDoorbellAcknowledge dt .. => dt
  | .mailboxAccept dt .. => dt
  | .mailboxWindowWrite dt .. => dt
  | .errHeadWrite dt .. => dt
  | .oobMctpMessage dt .. => dt
  | .mctpControlMessage dt .. => dt
  | .i3cDynamicAddress dt .. => dt
  | .alertResponseAddress dt .. => dt
  | .ibiRepeat dt .. => dt
  | .debugMailboxFrame dt .. => dt
  | .arbiterGrant dt .. => dt
  | .lockWaitExpiry dt .. => dt
  | .tandemLinkLossTimeout dt .. => dt
  | .cfgStageOpen dt .. => dt
  | .cfgStageImageChunk dt .. => dt
  | .cfgStageImageEnd dt .. => dt
  | .cfgStageFromSlot dt .. => dt
  | .cfgPrepare dt .. => dt
  | .cfgCommit dt .. => dt
  | .cfgAbort dt .. => dt
  | .lockAcquire dt .. => dt
  | .lockRelease dt .. => dt
  | .lockRevoke dt .. => dt
  | .portSet dt .. => dt
  | .partSet dt .. => dt
  | .windowSet dt .. => dt
  | .actWrite dt .. => dt
  | .actPeg dt .. => dt
  | .actPegOutcome dt .. => dt
  | .actPegRemoteTimeout dt .. => dt
  | .queueSet dt .. => dt
  | .shaperSet dt .. => dt
  | .redProfileSet dt .. => dt
  | .moverVfSet dt .. => dt
  | .slotPowerOn dt .. => dt
  | .slotPowerOff dt .. => dt
  | .clearLatch dt .. => dt
  | .clearUnusable dt .. => dt
  | .slotLimits dt .. => dt
  | .snapshot dt .. => dt
  | .bwWindow dt .. => dt
  | .errRead dt .. => dt
  | .errReadAck dt .. => dt
  | .fenceClear dt .. => dt
  | .loopbackStart dt .. => dt
  | .loopbackStop dt .. => dt
  | .loopbackStatus dt .. => dt
  | .fwUpdateWrite dt .. => dt
  | .fwUpdateVerify dt .. => dt
  | .fwActivateAtReset dt .. => dt
  | .fwActivateRestart dt .. => dt
  | .fwUpdateDiscard dt .. => dt
  | .attest dt .. => dt
  | .tandemStatus dt .. => dt
  | .identify dt .. => dt
  | .caps dt .. => dt
  | .cfgRead dt .. => dt
  | .cfgStatus dt .. => dt
  | .cfgSlotRead dt .. => dt
  | .lockPrioSet dt .. => dt
  | .lockStatus dt .. => dt
  | .laneStatus dt .. => dt
  | .spokeStatus dt .. => dt
  | .coefExport dt .. => dt
  | .coefImport dt .. => dt
  | .laneReadmit dt .. => dt
  | .portStatus dt .. => dt
  | .partStatus dt .. => dt
  | .actRead dt .. => dt
  | .markerSet dt .. => dt
  | .queueStatus dt .. => dt
  | .shaperStatus dt .. => dt
  | .engineTest dt .. => dt
  | .moverStatus dt .. => dt
  | .slotStatus dt .. => dt
  | .counterRead dt .. => dt
  | .errControl dt .. => dt
  | .partitionContain dt .. => dt
  | .healthRead dt .. => dt
  | .reshimRun dt .. => dt
  | .reshimPolicy dt .. => dt
  | .wearRead dt .. => dt
  | .powerCap dt .. => dt
  | .planerSet dt .. => dt
  | .testStatus dt .. => dt
  | .debugTokenNonce dt .. => dt
  | .debugTokenSubmit dt .. => dt
  | .debugTokenRevoke dt .. => dt
  | .fuseRead dt .. => dt
  | .routeSet dt .. => dt
  | .timeStatus dt .. => dt
  | .tandemSet dt .. => dt
  | .registerWrite dt .. => dt
  | .cmtImage dt .. => dt
  | .cmtPrepare dt .. => dt
  | .cmtVote dt .. => dt
  | .cmtCommit dt .. => dt
  | .cmtArmed dt .. => dt
  | .cmtAbort dt .. => dt
  | .cmtDone dt .. => dt
  | .cmtCommitRepeat dt .. => dt
  | .prepareTimeout dt .. => dt
  | .preparedHoldExpiry dt .. => dt
  | .commitSwap dt .. => dt
  | .configImageWrite dt .. => dt
  | .sealWrite dt .. => dt
  | .commitWaitTimeout dt .. => dt
  | .heartbeatSend dt .. => dt
  | .tdmHeartbeat dt .. => dt
  | .heartbeatTimeout dt .. => dt
  | .masterClaimTimeout dt .. => dt
  | .tdmHandover dt .. => dt
  | .handoverTime dt .. => dt
  | .masterYieldRelease dt .. => dt
  | .tdmMailbox dt .. => dt
  | .tdmResponse dt .. => dt
  | .fwConfirmation dt .. => dt
  | .fwConfirmTimeout dt .. => dt
  | .getVersion dt .. => dt
  | .getCapabilities dt .. => dt
  | .negotiateAlgorithms dt .. => dt
  | .getDigests dt .. => dt
  | .getCertificate dt .. => dt
  | .challenge dt .. => dt
  | .getMeasurements dt .. => dt
  | .debugTokenExpiry dt .. => dt
  | .debugAccess dt .. => dt
  | .provisioning dt .. => dt
  | .reshimInterval dt .. => dt
  | .reshimStep dt .. => dt
  | .reshimComplete dt .. => dt
  | .wearCharge dt .. => dt
  | .wearStoreWrite dt .. => dt
  | .planerRegionStart dt .. => dt
  | .planerRegionDone dt .. => dt
  | .currentGuardEngage dt .. => dt
  | .currentGuardRelease dt .. => dt
  | .powerCapWindow dt .. => dt
  | .governorTick dt .. => dt
  | .thermalTrip dt .. => dt
  | .snapshotTime dt .. => dt
  | .snapshotCopyDone dt .. => dt
  | .snapReq dt .. => dt
  | .snapDone dt .. => dt
  | .snapshotFabricTimeout dt .. => dt
  | .bwWindowStart dt .. => dt
  | .bwWindowEnd dt .. => dt
  | .loopbackLockTimeout dt .. => dt
  | .loopbackDurationEnd dt .. => dt
  | .bypass dt .. => dt
  | .idcode dt .. => dt
  | .samplePreload dt .. => dt
  | .extest dt .. => dt
  | .clamp dt .. => dt
  | .highz dt .. => dt
  | .extestPulse dt .. => dt
  | .extestTrain dt .. => dt
  | .scanEntry dt .. => dt
  | .memoryBist dt .. => dt
  | .vddSetpointStep dt .. => dt
  | .vrAlert dt .. => dt
  | .bootComplete dt .. => dt
  | .slotResetNRelease dt .. => dt
  | .startupFetShortCheck dt .. => dt
  | .slotCommandAccepted dt .. => dt
  | .adcSample dt .. => dt
  | .rcRegisterRead dt .. => dt
  | .fwUpdateDone dt .. => dt
  | .mailboxDmaTimeout dt .. => dt
  | .coefficientsDerived dt .. => dt
  | .linkRecoveryEntry dt .. => dt
  | .lossOfSignalEnd dt .. => dt
  | .d3hotExit dt .. => dt
  | .vfEnableSet dt .. => dt

end Sys2Proof
end

