-- ==== Sys2Proof/Machine/Base.lean ====
section
/-! DEFINITION. What every operation rests on: the passing of time, sending, counting, free values, and access to the blocks' tables. -/

namespace Sys2Proof.Machine

/-- Fabric time after `dt`: the count runs at the steered rate (R201), and while it is held for a backward step it does
not move. -/
def FabTime.pass (f : FabTime) (dt : Time) : FabTime :=
  let raw : Int := (dt : Int) * (1000000 + f.ppm) + f.acc
  let n := (raw / 1000000).toNat
  { f with
    acc := raw % 1000000
    count := (f.count + (n - f.holdBack)) % 2 ^ 64
    holdBack := f.holdBack - n }

/-- Time passes: every command carries the time since the command before it (assumption 1). -/
def advance (dt : Time) (s : State) : State :=
  { s with chip.upTime := s.chip.upTime + dt, ft := s.ft.pass dt }

/-- The shape of every meaning: time passes, then the command takes effect on everything but the queue. A command whose operands
name an object the part does not have (Table 0.5) reaches nothing: only its time passes (assumption 103). -/
def run (dt : Time) (ok : Bool) (f : State → State) (s : State) : Host.Outcome State Fault Refusal :=
  .next { (if ok then f (advance dt s) else advance dt s) with pending := s.pending }

/-- The local clock that measures durations, in units of 2^-10 ns. -/
def State.now (s : State) : Time := s.chip.upTime

/-- A duration of `d` has passed since `t`. -/
def State.since (s : State) (t d : Time) : Bool := decide (t + d ≤ s.now)

/-- The CLK_CORE tick of a moment: 1.5 GHz, or 1.25 GHz while the governor has lowered it. -/
def tickAt (s : State) (t : Time) : Nat := if s.chip.coreSlow then t * 5 / 4096 else t * 3 / 2048

/-- The CLK_CORE tick of this moment. -/
def coreTick (s : State) : Nat := tickAt s s.now

/-- The CLK_HALF cycle (750 MHz) of this moment. -/
def halfTick (s : State) : Nat := s.now * 3 / 4096

/-- The length of some CLK_CORE cycles. -/
def coreCycles (s : State) (n : Nat) : Time := if s.chip.coreSlow then ceilDiv (4096 * n) 5 else ceilDiv (2048 * n) 3

/-- Something is sent (assumption 3). -/
def emit (o : Out) (s : State) : State := { s with out := s.out ++ [o] }

/-- Do a thing for each element of a list, in order. -/
def forAll {α : Type} (l : List α) (f : α → State → State) (s : State) : State := l.foldl (fun s x => f x s) s

/-- Do a thing under a condition. -/
def onlyIf (b : Bool) (f : State → State) (s : State) : State := if b then f s else s

/-- Draw a fresh free value (assumption 4). -/
def drawn (s : State) : Nat := Config.freeValue s.freeCtr
def drew (s : State) : State := { s with freeCtr := s.freeCtr + 1 }
/-- The PEG of an access control entry at another device, the i-th that a command reads: a free value of 0 to 2 (Table 8.2). -/
def farPeg (s : State) (i : Nat) : Nat := Config.freeValue (s.freeCtr + i) % 3

/-! Counters (R496 to R499). -/

/-- Add to an event counter. -/
def countBy (id n : Nat) (s : State) : State :=
  { s with count.live := tset 0 s.count.live id ((tget 0 s.count.live id + n) % 2 ^ 64) }

def count1 (id : Nat) (s : State) : State := countBy id 1 s

/-- Add to a counter in units of u, the remainder carried (R497). -/
def countUnits (u id n : Nat) (s : State) : State :=
  let t := tget 0 s.count.rem id + n
  countBy id (t / u) { s with count.rem := tset 0 s.count.rem id (t % u) }

/-- A byte counter counts units of 8 bytes. -/
def countBytes (id n : Nat) (s : State) : State := countUnits 8 id n s

/-- A time counter counts nanoseconds. -/
def countTime (id : Nat) (d : Time) (s : State) : State := countUnits 1024 id d s

/-- Identifiers of Table 18.1. -/
def cId (group per element pos : Nat) : Nat := group * 2 ^ 24 + element * per + pos
def cQueue (port q pos : Nat) : Nat := cId 0x01 4 (port * 576 + q) pos
def cPair (port svc pos : Nat) : Nat := cId 0x02 16 (port * 8 + svc) pos
def cPort (port pos : Nat) : Nat := cId 0x03 48 port pos
def cSub (att sub pos : Nat) : Nat := cId 0x04 4 (att * 72 + sub) pos
def cAct (port table entry : Nat) : Nat := cId 0x05 1 ((port * 2 + table) * 65 + entry) 0
def cPart (part pos : Nat) : Nat := cId 0x06 48 part pos
def cFunc (func pos : Nat) : Nat := cId 0x07 16 func pos
def cEng (eng pos : Nat) : Nat := cId 0x08 32 eng pos
def cSpoke (spoke pos : Nat) : Nat := cId 0x09 32 spoke pos
def cLane (lane pos : Nat) : Nat := cId 0x0A 4 lane pos
def cChan (ch pos : Nat) : Nat := cId 0x0B 16 ch pos
def cDev (pos : Nat) : Nat := cId 0x0C 1 0 pos

/-! Access to the blocks' tables. -/

def State.port (s : State) (p : Nat) : Port := tget {} s.pcie.port p
def State.aux (s : State) (p : Nat) : PortAux := tget {} s.pcie.aux p
def State.part (s : State) (p : Nat) : Part := tget {} s.pcie.part p
def modPort (p : Nat) (f : Port → Port) (s : State) : State := { s with pcie.port := tmod {} s.pcie.port p f }
def modAux (p : Nat) (f : PortAux → PortAux) (s : State) : State := { s with pcie.aux := tmod {} s.pcie.aux p f }
def modPart (p : Nat) (f : Part → Part) (s : State) : State := { s with pcie.part := tmod {} s.pcie.part p f }
def State.spoke (s : State) (k : Nat) : Spoke := tget {} s.spokes.spoke k
def modSpoke (k : Nat) (f : Spoke → Spoke) (s : State) : State := { s with spokes.spoke := tmod {} s.spokes.spoke k f }
def State.stime (s : State) (k : Nat) : SpokeTime := tget {} s.spokes.time k
def modStime (k : Nat) (f : SpokeTime → SpokeTime) (s : State) : State := { s with spokes.time := tmod {} s.spokes.time k f }
def State.func (s : State) (f : Nat) : Func := tget {} s.mover.func f
def modFunc (n : Nat) (f : Func → Func) (s : State) : State := { s with mover.func := tmod {} s.mover.func n f }
def State.engine (s : State) (e : Nat) : Engine := tget {} s.mover.engine e
def modEngine (n : Nat) (f : Engine → Engine) (s : State) : State := { s with mover.engine := tmod {} s.mover.engine n f }
def State.chan (s : State) (c : Nat) : Chan := tget {} s.slot.chan c
def modChan (n : Nat) (f : Chan → Chan) (s : State) : State := { s with slot.chan := tmod {} s.slot.chan n f }
def State.chanAux (s : State) (c : Nat) : ChanAux := tget {} s.slot.aux c
def modChanAux (n : Nat) (f : ChanAux → ChanAux) (s : State) : State := { s with slot.aux := tmod {} s.slot.aux n f }
def State.mb (s : State) (m : Nat) : Mailbox := tget {} s.mgmt.mailbox m
def modMb (n : Nat) (f : Mailbox → Mailbox) (s : State) : State := { s with mgmt.mailbox := tmod {} s.mgmt.mailbox n f }
def State.lane (s : State) (l : Nat) : Lane := tget {} s.lanes.lane l
def modLane (n : Nat) (f : Lane → Lane) (s : State) : State := { s with lanes.lane := tmod {} s.lanes.lane n f }

end Sys2Proof.Machine
end

