-- ==== Sys2Proof/Machine/Operands.lean ====
section
/-! DEFINITION. The operand forms of a TLP: crossing windows, routes, requester identity and the decision of one access. -/

namespace Sys2Proof.Machine

/-- The entries of the configuration in force of one device and REC. -/
def devEntries (s : State) (dev typ : Nat) : List CfgEntry := s.conf.entries.filter fun e => e.dev == dev && e.typ == typ

/-- A port record of any device of the domain: every device holds the whole canonical configuration (R411). -/
def portRecOf (s : State) (dev p : Nat) : Rec := cfgLookup s.conf.entries dev 0x04 p 0

/-- The upstream port of a partition's virtual switch, on any device (R138). -/
def upstreamPort (s : State) (part vsw : Nat) : Option (Nat × Nat) :=
  let d := partHome s part
  ((devEntries s d 0x04).find? fun e => rb e.data 63 && rb e.data 62 && rf e.data 61 56 == part && rf e.data 36 35 == vsw).map
    fun e => (d, e.a)

/-- Where a TLP goes: a port of a device, the functions of its partition's management endpoint, or nowhere. -/
inductive Target where
  | port (dev port : Nat)
  | endpoint
  | none
deriving DecidableEq, Repr

/-- The first enabled window, lowest index first, whose source region holds the request's first byte (R215, R217). -/
def windowMatch (s : State) (part addr : Nat) : Option Nat :=
  (s.mine 0x18).findSome? fun e =>
    let base := rf e.data 191 140 * 4096
    if rb e.data 255 && rf e.data 254 249 == part && decide (base ≤ addr) && decide (addr < base + 2 ^ rf e.data 242 237)
    then some e.a else Option.none

/-- The proxy requester ID of a partition for this device (R218). -/
def proxyId (s : State) (part : Nat) : Nat := rf (s.cfg 0x12 part 0) 63 56 * 256 + s.dev

/-- B, the secondary bus of a partition's primary upstream port: this device's own, or as RANGE_SYNC told it (R257). -/
def rootBus (s : State) (part : Nat) : Option Nat :=
  match primaryUp s part with
  | some u => some (s.port u).sec
  | Option.none =>
    match upstreamPort s part 0 with
    | some (d, u) => (s.bridge.ranges.find? fun m => m.part == part && m.dev == d && m.port == u).map (·.sec)
    | Option.none => Option.none

/-- The VFs that the configuration assigns to a partition on its HOME_DEV, in ascending order (R143). -/
def assignedVfs (s : State) (part : Nat) : List Nat :=
  ((devEntries s (partHome s part) 0x40).filter fun e => rb e.data 31 && rf e.data 30 25 == part).map (·.a)

/-- A requester ID on bus B to B + ceil(A / 256) (Table 8.1). -/
def isMoverRid (s : State) (part rid : Nat) : Bool :=
  match rootBus s part with
  | some b => decide (b ≤ rid / 256) && decide (rid / 256 ≤ b + ceilDiv (assignedVfs s part).length 256)
  | Option.none => false

/-- The VF of a requester ID: partition-relative VF n has requester ID B x 256 + 255 + n (R143, R257). -/
def vfOfRid (s : State) (part rid : Nat) : Option Nat :=
  match rootBus s part with
  | some b => if b * 256 + 256 ≤ rid then (assignedVfs s part)[rid - (b * 256 + 256)]? else Option.none
  | Option.none => Option.none

/-- The requester ID of a mover function (R143); the management controller, numbered from 1,024, issues as function 0. -/
def funcRid (s : State) (f : Nat) : Nat :=
  let p := funcPart s f
  let b := (rootBus s p).getD 0
  if f < 512 then b * 256 + 256 + (assignedVfs s p).findIdx (· == f) else if f < 1024 then b * 256 + 1 else b * 256

/-- The mover function of a number, when it is one. -/
def moverFunc (f : Nat) : Option Nat := if f < 1024 then some f else none

/-- Requests to the BARs of function 0 (16 MiB), function 1 and the VFs (64 KiB each) of a partition whose functions this
device holds (R142, R256), while Memory Space Enable lets functions 0 and 1 claim them. Key 0 holds BAR0 of function 0, key 1 BAR0 of function 1, key 2 the VF BAR0. -/
def hitsBar (s : State) (part addr : Nat) : Bool :=
  let q := s.part part
  let inBar (k size : Nat) : Bool :=
    let b := tget 0 q.bars k
    b != 0 && decide (b ≤ addr) && decide (addr < b + size)
  partHome s part == s.dev && ((bit q.memEn 0 && inBar 0 (2 ^ 24)) || (bit q.memEn 1 && inBar 1 (2 ^ 16)) || (q.vfEnable && inBar 2 (q.numVfs * 2 ^ 16)))

/-- A bridge's memory ranges hold an address; while Memory Space Enable is 0 they are empty (R249). -/
def bridgeHolds (p : Port) (addr : Nat) : Bool :=
  p.memEnable && ((decide (p.memBase ≤ addr) && decide (addr ≤ p.memLimit)) ||
    (decide (p.prefBase ≤ addr) && decide (addr ≤ p.prefLimit)))

def rangeHolds (m : RangeMsg) (addr : Nat) : Bool :=
  (decide (m.memBase ≤ addr) && decide (addr ≤ m.memLimit)) || (decide (m.prefBase ≤ addr) && decide (addr ≤ m.prefLimit))

/-- Where requests that match no bridge go: up the virtual switch of the port they entered at, unless they came down from
it; a mover's or a window's requests go to the primary upstream port. -/
def upRoute (s : State) (part : Nat) (entered : Option Nat) : Target :=
  let vsw := match entered with
    | some p => if portPart s p = part then portVsw s p else 0
    | Option.none => 0
  let fromUp := match entered with
    | some p => portUp s p && portPart s p == part
    | Option.none => false
  if fromUp then .none else
    match upstreamPort s part vsw with
    | some (d, u) => .port d u
    | Option.none => .none

/-- The remote bridges of a partition: those its range messages name that are downstream ports. -/
def remoteBridges (s : State) (part : Nat) : List RangeMsg :=
  s.bridge.ranges.filter fun m => m.part == part && m.dev != s.dev && !rb (portRecOf s m.dev m.port) 62

/-- Address routing in a partition's domain (R139 to R141, R249). -/
def routeMem (s : State) (part : Nat) (entered : Option Nat) (addr : Nat) : Target :=
  if hitsBar s part addr then .endpoint else
  match (partPorts s part).find? fun q => !portUp s q && entered != some q && bridgeHolds (s.port q) addr with
  | some q => .port s.dev q
  | Option.none =>
    match (remoteBridges s part).find? fun m => rangeHolds m addr with
    | some m => .port m.dev m.port
    | Option.none => upRoute s part entered

/-- Routing by ID (completions, configuration requests, messages routed by ID) in a partition's domain. -/
def routeId (s : State) (part : Nat) (entered : Option Nat) (id : Nat) : Target :=
  let bus := id / 256
  let own := partHome s part == s.dev
  if own && (isMoverRid s part id && (rootBus s part != some bus || id / 8 % 32 == 0)) then .endpoint else
  match (partPorts s part).find? fun q => !portUp s q && decide ((s.port q).sec ≤ bus) && decide (bus ≤ (s.port q).subBus) &&
      (s.port q).sec != 0 with
  | some q => .port s.dev q
  | Option.none =>
    match (remoteBridges s part).find? fun m => m.sec != 0 && decide (m.sec ≤ bus) && decide (bus ≤ m.sub) with
    | some m => .port m.dev m.port
    | Option.none => upRoute s part entered

/-- I/O routing within the ingress device by the I/O windows of its own bridges, each while its I/O Space Enable is 1 (R213). -/
def routeIo (s : State) (part : Nat) (entered : Option Nat) (addr : Nat) : Target :=
  match (partPorts s part).find? fun q => !portUp s q && entered != some q && (s.port q).ioEnable &&
      decide ((s.port q).ioBase ≤ addr) && decide (addr ≤ (s.port q).ioLimit) with
  | some q => .port s.dev q
  | Option.none => .none

/-- The request kinds that the tables check (R255). -/
def checked : TlpKind → Bool
  | .memRead | .memReadLocked | .memWrite | .atomic => true
  | _ => false

/-- Ordering stream of a TLP: 0 posted, 1 non-posted, 2 completion. -/
def streamOf : TlpKind → Nat
  | .memWrite | .message _ => 0
  | .memRead | .memReadLocked | .atomic | .cfgRead | .cfgWrite | .ioRead | .ioWrite => 1
  | .completion _ => 2

def isNp (k : TlpKind) : Bool := streamOf k == 1

/-- A request as the tables see it (Tables 8.1 and 8.4): read and write permission needed, class, source partition, VF,
debug, whether its target is its own, and the partition whose default map applies. -/
structure Access where
  needR : Bool
  needW : Bool
  user : Bool
  srcPart : Option Nat
  vf : Option Nat
  debug : Bool
  own : Bool

/-- Permissions a request kind needs (Table 8.4). -/
def needsR : TlpKind → Bool
  | .memRead | .memReadLocked | .atomic => true
  | _ => false
def needsW : TlpKind → Bool
  | .memWrite | .atomic => true
  | _ => false

/-- The live peg of an entry (Table 8.2): 0 none, 1 host, 2 owner. -/
def pegKey (port table i : Nat) : Nat := (port * 2 + table) * 64 + i
def pegOf (s : State) (port table i : Nat) : Nat := tget 0 s.bridge.pegs (pegKey port table i)

/-- An access control entry of a port of this device. -/
def actEntry (s : State) (port table i : Nat) : Rec := s.cfg 0x20 (s.dev * 128 + port) (table * 64 + i)

/-- An enabled entry covers a byte in an enabled sub-region (R259). -/
def covers (r : Rec) (lo : Nat) : Bool :=
  let base := rf r 63 15 * 32768
  let size := rf r 122 117
  rb r 127 && decide (base ≤ lo) && decide (lo < base + 2 ^ size) && !bit (rf r 116 109) ((lo - base) / 2 ^ (size - 3))

/-- A requester is in scope of an entry (R259). The VF group counts the VFs assigned to the table's partition. -/
def inScope (s : State) (port : Nat) (r : Rec) (a : Access) : Bool :=
  match rf r 104 103 with
  | 0 => true
  | 1 => a.srcPart == some (rf r 102 97)
  | 2 =>
    match a.vf with
    | some v => v / 8 == rf r 102 97 && (assignedVfs s (portPart s port)).contains v
    | Option.none => false
  | _ => false

/-- All permission bits that a request needs are set for its class. -/
def permits (r : Rec) (a : Access) : Bool :=
  if a.user then (!a.needR || rb r 106) && (!a.needW || rb r 105) else (!a.needR || rb r 108) && (!a.needW || rb r 107)

/-- The default map of a partition (Table 8.3); a requester without a partition has none and is denied (assumption 15). -/
def defaultMap (s : State) (a : Access) : Bool :=
  match a.srcPart with
  | Option.none => false
  | some p =>
    let r := s.cfg 0x13 p 0
    let rOk := if a.own then rb r 31 else rb r 29
    let wOk := if a.own then rb r 30 else rb r 28
    (!a.needR || rOk) && (!a.needW || wOk)

/-- Decide one byte of a request against one table (R262, R263): allowed or not, and the entry that decided (64: none). -/
def decideAt (s : State) (port table lo : Nat) (a : Access) : Bool × Nat :=
  let hit := (s.mine 0x20).findSome? fun e =>
    let i := e.b % 64
    if e.a == s.dev * 128 + port && e.b / 64 == table && covers e.data lo then
      if a.debug && pegOf s port table i != 0 then some (false, i)
      else if inScope s port e.data a then some (permits e.data a, i) else Option.none
    else Option.none
  match hit with
  | some x => x
  | Option.none => if a.user then (false, 64) else (defaultMap s a, 64)

/-- The addresses inside a request, after its first byte, at which a region or sub-region of an enabled entry begins
(R265). -/
def partStarts (s : State) (port table lo len : Nat) : List Nat :=
  lo :: ((s.mine 0x20).filter fun e => e.a == s.dev * 128 + port && e.b / 64 == table && rb e.data 127).flatMap fun e =>
    ((List.range 8).map fun k => rf e.data 63 15 * 32768 + k * 2 ^ (rf e.data 122 117 - 3)).filter fun x =>
      decide (lo < x) && decide (x < lo + len)

/-- The guard decision of a whole request: every part must pass (R265). A denial names the entry that decided. -/
def guardDecide (s : State) (port lo len : Nat) (a : Access) : Option Nat :=
  (partStarts s port 1 lo len).findSome? fun x =>
    match decideAt s port 1 x a with
    | (true, _) => Option.none
    | (false, i) => some i

/-- A port of any device is an upstream port of its partition. -/
def isUpstreamAt (s : State) (dev port : Nat) : Bool := rb (portRecOf s dev port) 62

end Sys2Proof.Machine
end

