-- ==== Sys2Proof/Machine/Ops.lean ====
section
/-! DEFINITION. The shared operations: routes, messages, interrupts, alerts and error records. -/

namespace Sys2Proof.Machine

/-! Loop-back runs (R512 to R518). -/

/-- A loop-back runs at a depth on a target. -/
def loopRuns (s : State) (depth target : Nat) : Bool :=
  s.count.loops.any fun l => l.depth == depth && l.target == target && l.state == 1
/-- Change the run that is under way. -/
def modLoop (depth target : Nat) (f : LoopRun → LoopRun) (s : State) : State :=
  { s with count.loops := s.count.loops.map fun l => if l.depth == depth && l.target == target && l.state == 1 then f l else l }
/-- Units checked and errors found. -/
def countLoop (depth target units errors : Nat) (s : State) : State :=
  modLoop depth target (fun l => { l with units := l.units + units, errors := l.errors + errors }) s

/-- A spoke whose link is one of a remote loop: at this end, or at the partner's request (R516). -/
def loopLink (s : State) (k : Nat) : Bool := (s.spoke k).remoteLoop || loopRuns s 5 k

/-- Spokes that are up (STATE 6 of Table 6.13) and in service. -/
def spokeUp (s : State) (k : Nat) : Bool := spokeEn s k && (s.spoke k).state == 6 && !loopLink s k
def upSpokes (s : State) : List Nat := (List.range 40).filter (spokeUp s)
/-- The enabled partitions. -/
def parts (s : State) : List Nat := (List.range 64).filter (partEn s)
/-- The enabled partitions whose functions this device holds. -/
def homeParts (s : State) : List Nat := (parts s).filter fun p => partHome s p == s.dev

/-! Routes between devices (R205 to R208). -/

def routeRec (s : State) (dev : Nat) : Rec := s.cfg 0x50 dev 0
def routeEn (s : State) (dev : Nat) : Bool := rb (routeRec s dev) 63
/-- The logical ports of a route record's entries 0 to N_SPOKES. -/
def routePorts (r : Rec) : List Nat :=
  ([rf r 60 54, rf r 53 47, rf r 46 40, rf r 39 33]).take (rf r 62 61 + 1)
/-- The spokes of a route. -/
def routeSpokes (s : State) (dev : Nat) : List Nat := (routePorts (routeRec s dev)).filterMap (portSpoke s)

/-- The bucket of a flow (R206). -/
def bucketOf (srcDev srcPort dstDev dstPort svc : Nat) : Nat :=
  (crc32c ([srcDev, srcPort, dstDev, dstPort, svc].map (BitVec.ofNat 8))).toNat % 16

/-- The entry's spoke that R206 maps a bucket to. -/
def homeSpoke (s : State) (dev b : Nat) : Option Nat :=
  let ps := routePorts (routeRec s dev)
  (ps[b % ps.length]?).bind (portSpoke s)

/-- A bucket's present state. -/
def State.bucket (s : State) (dev b : Nat) : Bucket :=
  (tfind s.spokes.buckets (dev * 16 + b)).getD { spoke := homeSpoke s dev b }

/-- A bucket's frames are held while it moves, and while it waits to move back (R207, R208). -/
def bucketHeld (k : Bucket) : Bool := k.movingSince.isSome || k.backSince.isSome

/-- No spoke of a route is up: frames for the destination are lost (R207). -/
def routeDead (s : State) (dev : Nat) : Bool := !((routeSpokes s dev).any (spokeUp s))

/-! Cells the device builds for another device (R177, R206, R231, R242). -/

/-- The widths in bytes of a management message's fields (Tables 7.9 and 14.3, R503); those of 0x0203 and 0x0204 are followed by
quadwords. -/
def mgmtWidths (code : Nat) : List Nat :=
  match code with
  | 0x0103 => [4, 1, 1]
  | 0x0104 => [4, 8, 8]
  | 0x0105 => [4, 1, 1, 1, 8]
  | 0x0106 => [4]
  | 0x0107 => [4, 1, 1, 1, 8]
  | 0x0201 => [1, 1, 1, 2, 4, 8]
  | 0x0202 => [8]
  | 0x0203 | 0x0204 => [2, 4, 1]
  | 0x0301 => [1, 1, 1, 1, 1, 8, 8, 8, 8]
  | 0x0310 => [8, 1, 1, 1]
  | 0x0311 | 0x0313 => [1, 1, 1]
  | 0x0312 => [1, 1]
  | 0x0501 => [8]
  | 0x0502 => [1, 8]
  | _ => []

/-- A number's n bytes as a payload carries them, the most significant first (R172). -/
def payBytes (n v : Nat) : List Byte := (beNat n v).map (BitVec.ofNat 8)

/-- The bytes of a management message: its code, its fields, and the quadwords that follow them. -/
def mgmtBytes (code : Nat) (pay : List Nat) : List Byte :=
  let ws := mgmtWidths code
  payBytes 4 code ++ (List.zipWith payBytes ws pay).flatten ++ (pay.drop ws.length).flatMap fun q => leBytes 8 q

/-- A work tag (Table 9.9). -/
def tagWord (w : WorkTag) : Nat :=
  pack [(63, 62, w.engine), (61, 52, w.func), (51, 47, w.ctx), (46, 44, w.gen), (43, 16, w.column), (15, 11, w.shard),
    (10, 6, w.frame), (5, 0, w.ctxSeq)]

/-- A NOTICE record (Table 6.6). -/
def noticeBytes (n : Notice) : List Byte := payBytes 8 (tagWord n.tag) ++ payBytes 8 (pack [(63, 60, n.cause)])

/-- An ACK record (Table 7.4). -/
def ackBytes (a : AckRec) : List Byte :=
  payBytes 8 (pack [(63, 57, a.srcPort), (56, 50, a.dstPort), (49, 47, a.svc), (46, 40, a.seq), (39, 39, b2n a.nak), (38, 35, a.cause)]) ++
    payBytes 8 a.farTime

/-- The bytes of a TLP's frame: its length is the manual's, its bytes are the standard's. -/
def tlpBytes (t : Tlp) : List Byte := (List.range t.frameBytes).map fun i => (Config.tlpBytes t).getD i 0

/-- A message to another device as a cell's device, type, service, subscriber, body and payload. -/
def messageOf (s : State) : Out → Option (Nat × Nat × Nat × Nat × CellBody × List Byte)
  | .mgmt d code pay => some (d, 7, 7, 0, .mgmt code pay, mgmtBytes code pay)
  | .errRec d p r => some (d, 7, 7, 0, .mgmt 0x0401 [p, r.seq],
      payBytes 4 0x0401 ++ (recordQuads r).flatMap fun q => payBytes 8 q.toNat)
  | .cmtImage d e o es => some (d, 7, 7, 0, .mgmt 0x0101 [e, o], payBytes 4 0x0101 ++ payBytes 4 e ++ payBytes 4 o ++ cfgBytes es)
  | .cmtPrepare d e b corrective len digest => some (d, 7, 7, 0, .mgmt 0x0102 [e, b],
      payBytes 4 0x0102 ++ payBytes 4 e ++ payBytes 4 b ++ payBytes 1 (b2n corrective) ++ payBytes 1 s.dev ++ payBytes 8 len ++
        payBytes 32 digest.toNat)
  | .noticeCell d sub ns => some (d, 6, 7, sub, .notices ns, ns.flatMap noticeBytes)
  | .ackCell d p as => some (d, 5, 7, p, .acks as, as.flatMap ackBytes)
  | .farCpl d sub svc rid tag st vs =>
    let data := vs.flatMap (payBytes 4)
    let t : Tlp := {
      kind := .completion st, targetId := rid, tag := tag, payload := data.length, byteCount := data.length
      frameBytes := 16 + data.length, data := data }
    some (d, 3, svc, sub, .tlp t none, tlpBytes t)
  | _ => none

/-- A payload cut into cells of 256 bytes (R174). -/
def cutCells (h : CellHdr) (body : CellBody) (stamp : Nat) (bs : List Byte) : List Cell :=
  let n := max 1 (ceilDiv bs.length 256)
  (List.range n).map fun i =>
    { hdr := { h with
        pos := if n == 1 then 0 else if i == 0 then 1 else if i + 1 == n then 3 else 2
        len := if i + 1 == n then bs.length - 256 * i else 256 }
      body := if i == 0 then body else .more, lseq := 0, ackSeq := 0, ackV := false, ageStamp := stamp / 2 ^ 22 % 512
      data := (bs.drop (256 * i)).take 256 }

/-- The cells of a message, stamped with the moment its first cell is handed over (R67, R177). -/
def messageCells (s : State) (d type svc sub seq : Nat) (body : CellBody) (bs : List Byte) : List Cell :=
  cutCells {
      type := type, pos := 0, svc := svc, rcv := false, colour := 0, mark := false, dstDev := d, dstPort := 0
      srcDev := s.dev, srcPort := 0, subscriber := sub, hops := 0, streamSeq := seq, len := 0 } body s.ft.count bs

/-- Something is discarded and counted where Table 18.1 has no counter for it (R205, R207, R239): by port, from 128 on by spoke, and
from 168 on by destination device (assumption 123). -/
def countLost (i : Nat) (s : State) : State := { s with count.lost := tmod 0 s.count.lost i (· + 1) }

/-- Cells for another device leave through their bucket's spoke; while the bucket is held they wait. Without an enabled route, or without
any spoke of it up, they are discarded and counted (R205 to R207). -/
def routeCells (d srcDev srcPort dstPort svc : Nat) (cs : List Cell) (s : State) : State :=
  if !routeEn s d || routeDead s d then countLost (168 + d) s
  else
    let b := bucketOf srcDev srcPort d dstPort svc
    let k := s.bucket d b
    if bucketHeld k then { s with spokes.ctl := s.spokes.ctl ++ cs.map fun c => (d * 16 + b, c) }
    else match k.spoke with
      | some k => modSpoke k (fun x => { x with tx := { x.tx with unsent := x.tx.unsent ++ cs } }) s
      | none => s

/-- The counts of flows (R179). -/
def flowCount (l : List (List Nat × Nat)) (k : List Nat) : Option Nat := (l.find? fun x => x.1 == k).map (·.2)
def setFlow (l : List (List Nat × Nat)) (k : List Nat) (n : Nat) : List (List Nat × Nat) :=
  if l.any fun x => x.1 == k then l.map fun x => if x.1 == k then (k, n) else x else l ++ [(k, n)]

/-- Send a message: to a block of this device, or in cells to another device. A completion is a frame of its flow and is counted in it
(R179). -/
def post (o : Out) (s : State) : State :=
  let s1 := emit o s
  match messageOf s o with
  | some (d, type, svc, sub, body, bs) =>
    if d = s.dev then s1
    else
      let k := [s.dev, 0, d, 0, svc]
      let n := if type = 3 then (flowCount s.hub.streamSent k).getD 0 else 0
      let s2 : State := if type = 3 then { s1 with hub.streamSent := setFlow s1.hub.streamSent k (n + 1) } else s1
      routeCells d s.dev 0 0 svc (messageCells s d type svc sub (n % 128) body bs) s2
  | none => s1

/-! Messages and INTx (R146 to R152). -/

/-- A message leaves an upstream port; while the link is in Recovery it is held and leaves in order (Table 5.6). A link that
is down carries none. -/
def sendMsg (p : Nat) (m : MsgKind) (s : State) : State :=
  if (s.port p).recovery then modAux p (fun a => { a with heldMsgs := a.heldMsgs ++ [m] }) s
  else if (s.port p).up then emit (.message p m) s
  else s

/-- A bridge drives a pin: from below, or INTA for an interrupt of its own (R150, assumption 131). -/
def pinOn (wires p : Nat) : Bool := bit wires p || (p == 0 && bit wires 4)

/-- The pins (0 to 3) that the downstream bridge at device d drives on the collapsed wires (R150). -/
def mappedWires (wires d : Nat) : Nat :=
  pack (((List.range 4).filter fun x => (List.range 4).any fun p => pinOn wires p && (p + d) % 4 == x).map fun x => (x, x, 1))

/-- The wires that all sources of an upstream port assert (R150): function 0's INTA at the primary port, the local and
the remote downstream bridges of its virtual switch. -/
def collapsedWires (s : State) (u : Nat) : Nat :=
  let p := portPart s u
  let v := portVsw s u
  let own := if v = 0 ∧ (s.part p).level then 1 else 0
  let local' := (vswDown s p v).map fun q => mappedWires (s.aux q).wires (portDevNum s q)
  let remote := (List.range 31).map fun i =>
    let e := s.cfg 0x11 p i
    if rb e 31 && rf e 12 11 == v then mappedWires (tget 0 s.pcie.remWires (p * 31 + i)) (rf e 17 13) else 0
  pack ((List.range 4).map fun x => (x, x, b2n ((own :: local' ++ remote).any fun w => bit w x)))

/-- Bring the collapsed wires of an upstream port up to date, sending a message for each that changes (R150). -/
def collapse (u : Nat) (s : State) : State :=
  let new := collapsedWires s u
  let old := (s.aux u).collapsed
  forAll (List.range 4) (fun x s =>
    if bit new x && !bit old x then sendMsg u (.assertIntx x) s
    else if bit old x && !bit new x then sendMsg u (.deassertIntx x) s
    else s) (modAux u (fun a => { a with collapsed := new }) s)

/-- The interrupt level of function 0 (R146). -/
def intLevel (q : Part) : Bool := decide (q.intStatus &&& q.intMask ≠ 0) && !q.intDisable && !q.msixEnable

/-- Bring L up to date; a change of L goes into the collapsing of the primary upstream port (R146, R148). -/
def updateLevel (p : Nat) (s : State) : State :=
  let l := intLevel (s.part p)
  if l = (s.part p).level then s
  else
    let s := modPart p (fun q => { q with level := l }) s
    match primaryUp s p with
    | some u => collapse u s
    | none => s

/-- An MSI-X table's vector is masked; the standard's reset masks it. Keys: 2 x vector holds the address, the next key the
data in [31:0] and the vector control in [63:32]. -/
def msixData (t : Tbl Nat) (v : Nat) : Nat := (tfind t (2 * v + 1)).getD (2 ^ 32)
def msixMasked (t : Tbl Nat) (v : Nat) : Bool := bit (msixData t v) 32

/-! Alerts and error records (R320 to R325, R373). -/

/-- The record that alerts named by R325 carry; an alert holds OOB_ALERT_N low, and in I3C mode sends an In-Band
Interrupt with data byte 0x01. -/
def raiseAlert (seq : Option Nat) (s : State) : State :=
  let s1 : State := match seq with
    | some n => { s with errs.alertSeq := s.errs.alertSeq ++ [n] }
    | none => { s with errs.alertNoRec := true }
  let s2 := if s1.mgmt.oob.alertLow then s1 else emit (.alertPin true) { s1 with mgmt.oob.alertLow := true }
  match s2.mgmt.oob.dynAddr with
  | some _ => emit (.ibi 1) { s2 with mgmt.oob.lastIbi := s2.now }
  | none => s2

/-- A record raises the out-of-band alert (R325). -/
def alertsFor (r : ErrRec) : Bool :=
  decide (2 ≤ r.cls) || [0x0201, 0x0202, 0x0203, 0x0204, 0x0801, 0x0802, 0x0B01, 0x0B05, 0x0B06, 0x0B07, 0x0B08].contains r.cause

/-- The least gap between ERR_NONFATAL messages (Table 10.6, NF_GAP, in µs). -/
def nfGap (s : State) : Time := rf (s.cfg 0x58 0 0) 23 16 * us

/-- A message from function 0 of a partition through its primary upstream port. -/
def func0Msg (p : Nat) (m : MsgKind) (s : State) : State :=
  match primaryUp s p with
  | some u => sendMsg u m s
  | none => s

/-- The bits of Corrected and of Uncorrectable Internal Error in their status registers. -/
def corrBit : Nat := 14
def uncorrBit : Nat := 22

/-- AER of a function of a partition. -/
def fnAer (q : Part) (fn : Nat) : FnAer := tget {} q.aer fn
def modAer (fn : Nat) (f : FnAer → FnAer) (q : Part) : Part := { q with aer := tmod {} q.aer fn f }

/-- An error message of function 0 whose reporting its Device Control enables: 0 correctable, 1 non-fatal (R2, assumption 130). -/
def func0Err (p b : Nat) (m : MsgKind) (s : State) : State :=
  if bit (fnAer (s.part p) 0).errEn b then func0Msg p m s else s

/-- ERR_NONFATAL of function 0; messages held back by NF_GAP merge into one at the end of the gap (R325). -/
def sendNonFatal (p : Nat) (s : State) : State :=
  let q := s.part p
  let free := match q.nfLast with
    | none => true
    | some t => s.since t (nfGap s)
  if free then func0Err p 1 .errNonFatal (modPart p (fun q => { q with nfLast := some s.now, nfHeld := false }) s)
  else modPart p (fun q => { q with nfHeld := true }) s

/-- A record signals in its partition (R325). A LAST record (FL 1) of class C1 signals nothing. -/
def signalRecord (p : Nat) (r : ErrRec) (s : State) : State :=
  match r.cls with
  | 0 =>
    let s1 := modPart p (modAer 0 fun a => { a with cor := setBit a.cor corrBit }) s
    if bit (fnAer (s.part p) 0).corMask corrBit then s1 else func0Err p 0 .errCor s1
  | 1 => if r.fl = 1 then s else sendNonFatal p (modPart p (modAer 0 fun a => { a with unc := setBit a.unc uncorrBit }) s)
  | 2 =>
    if r.cause = 0x0602 then sendNonFatal p (modPart p (modAer 0 fun a => { a with unc := setBit a.unc uncorrBit }) s) else s
  | _ => s

/-- The newest n elements of a list that grows at its end. -/
def newest {α : Type} (n : Nat) (l : List α) : List α := l.drop (l.length - n)

/-- A record enters the device log with a number of its own; the log keeps the newest 4,096 (R323). -/
def enterLog (r : ErrRec) (s : State) : State :=
  { s with
    errs.seq := (s.errs.seq + 1) % 2 ^ 32
    errs.log := newest 4096 (s.errs.log ++ [{ r with seq := s.errs.seq, epoch := s.conf.epoch, time := s.ft.count }])
    errs.copies := s.errs.copies.filter fun c => modDist (2 ^ 32) s.errs.seq c.1 < 4096 }

/-- Write a record into the device log, with the alert that it raises (R325). -/
def logOnly (r : ErrRec) (s : State) : State :=
  let s1 := enterLog r s
  if alertsFor r then raiseAlert (some s.errs.seq) s1 else s1

/-! Records and the causes they raise. What sets a cause is a parameter here: a cause's MSI-X message that is itself denied by the reach
table fails as a write whose record sets its cause without a message (R253, R267). -/

/-- Write a record into a partition's ring (R322). -/
def ringWriteBy (raise : Nat → Nat → State → State) (p : Nat) (r : ErrRec) (s : State) : State :=
  let q := s.part p
  if (q.errTail + 1) % 256 = q.errHead then
    raise p 2 (modPart p (fun q => { q with errLost := sat32 (q.errLost + 1) }) s)
  else
    raise p 1 (modPart p (fun q => { q with ring := tput q.ring q.errTail r, errTail := (q.errTail + 1) % 256 }) s)

/-- A record's copy goes to a partition's ring, on this device or, when its HOME_DEV is another, in a MGMT cell with code
0x0401 (R321). After a C4 error no ring is written (R328). -/
def ringCopyBy (raise : Nat → Nat → State → State) (p : Nat) (r : ErrRec) (s : State) : State :=
  if s.errs.c4 then s
  else if partHome s p = s.dev then signalRecord p r (ringWriteBy raise p r s) else post (.errRec (partHome s p) p r) s

/-- Write a record to the device log and copies to the rings of partitions (R321). -/
def recordBy (raise : Nat → Nat → State → State) (ps : List Nat) (r : ErrRec) (s : State) : State :=
  let full := { r with seq := s.errs.seq, epoch := s.conf.epoch, time := s.ft.count }
  let s1 := logOnly r s
  forAll ps (fun p => ringCopyBy raise p full) { s1 with errs.copies := s1.errs.copies ++ ps.map fun p => (full.seq, p) }

/-- The episode of a key, where cause 0 stands for every write failure (R236, R324). -/
def findEpisode (s : State) (cause part dev port : Nat) : Option Episode :=
  s.bridge.episodes.find? fun e => e.cause == cause && e.part == part && e.dev == dev && e.port == port

/-- Add one to an open episode and remember when. -/
def extendEpisode (cause part dev port : Nat) (s : State) : State :=
  { s with bridge.episodes := s.bridge.episodes.map fun e =>
      if e.cause == cause && e.part == part && e.dev == dev && e.port == port
      then { e with count := e.count + 1, last := s.now } else e }

/-- The partition's policy for write failures is CONTINUE (Table 7.2, WFAIL_CONT). -/
def continues (s : State) (p : Nat) : Bool := rb (s.cfg 0x12 p 0) 51

/-- A key is fenced (R237). -/
def fenced (s : State) (part dev port : Nat) : Bool := s.bridge.fences.contains (part, dev, port)

/-- Processing of a failed write (R236); the cause is a code of Table 7.5. -/
def writeFailureBy (raise : Nat → Nat → State → State) (cause : Nat) (r : ErrRec) (part : Nat) (s : State) : State :=
  let s := count1 (cPart part (3 + (cause - 1))) s
  let r := { r with cause := 0x0400 + cause, cls := 1 }
  match findEpisode s 0 part r.dstDev r.dstPort with
  | some _ => extendEpisode 0 part r.dstDev r.dstPort s
  | none =>
    let s1 := recordBy raise [part] { r with fl := 2, count := 1 } s
    let s2 : State := if continues s part || fenced s part r.dstDev r.dstPort then s1
      else { s1 with bridge.fences := s1.bridge.fences ++ [(part, r.dstDev, r.dstPort)] }
    if s2.bridge.episodes.length < 1024 then
      { s2 with bridge.episodes := s2.bridge.episodes ++ [⟨0, part, r.dstDev, r.dstPort, 1, s.now, r, true⟩] }
    else recordBy raise [part] { r with fl := 1, count := 1 } s2

/-- A cause's status bit sets, masked or not; whether it went from 0 to 1 under its mask with MSI-X enabled, which sends its vector's message
(R365). -/
def setCause (p i : Nat) (s : State) : State := modPart p (fun q => { q with intStatus := q.intStatus ||| BitVec.twoPow 32 i }) s
def causeSends (s : State) (p i : Nat) : Bool :=
  let q := s.part p
  !q.intStatus.getLsbD i && q.intMask.getLsbD i && q.msixEnable

/-- The reach check of an MSI-X message of function 0: the management endpoint's write at the partition's primary upstream port, privileged
as its root complex is (R253, assumption 150). -/
def msixReach (s : State) (p addr : Nat) : Bool × Nat :=
  match primaryUp s p with
  | some u => decideAt s u 0 addr
      { needR := false, needW := true, user := false, srcPart := some p, vf := none, debug := false
        own := match routeMem s p none addr with
          | .port d q => rf (portRecOf s d q) 61 56 == p
          | _ => true }
  | none => (true, 64)

/-- A reach denial is counted at the entry that decided it, or at its port (Table 8.5). -/
def countDeny (port : Option Nat) (entry : Nat) (s : State) : State := match port with
  | some p => if entry = 64 then count1 (cPort p 27) s else count1 (cAct p 0 entry) s
  | none => s

/-- The MSI-X message of a vector of function 0, or its pending bit while the vector is masked (R148, R365); what a denial does beyond its
count is a parameter. -/
def sendVectorBy (denied : Nat → Nat → State → State) (p v : Nat) (s : State) : State :=
  let addr := tget 0 (s.part p).msix (2 * v)
  if msixMasked (s.part p).msix v then modPart p (fun q => { q with pba := setBit q.pba v }) s
  else match msixReach s p addr with
    | (true, _) => emit (.msix p 0 v) s
    | (false, i) => denied p addr (countDeny (primaryUp s p) i s)

/-- The MSI-X message of a cause. -/
def sendMsixBy (denied : Nat → Nat → State → State) (p i : Nat) (s : State) : State :=
  sendVectorBy denied p (tget i (s.part p).vectors i) s

/-- A cause that a record sets whose own message failed. -/
def raiseQuiet (p i : Nat) (s : State) : State :=
  updateLevel p (onlyIf (causeSends s p i) (sendMsixBy (fun _ _ s => s) p i) (setCause p i s))

/-- An MSI-X message of function 0 that the reach table denies fails as any posted write (R267). -/
def msixDenied (p addr : Nat) (s : State) : State :=
  let (d, q) := match routeMem s p none addr with
    | .port d q => (d, q)
    | _ => (s.dev, 0)
  writeFailureBy raiseQuiet 0xA
    { srcDev := s.dev, srcPart := some p, reqId := (rootBus s p).getD 0 * 256, dstDev := d, dstPort := q, address := addr } p s

def sendCauseMsix (p i : Nat) (s : State) : State := sendMsixBy msixDenied p i s
def sendVector (p v : Nat) (s : State) : State := sendVectorBy msixDenied p v s

/-- A cause sets its bit, and sends its message (R365). -/
def raiseCause (p i : Nat) (s : State) : State :=
  updateLevel p (onlyIf (causeSends s p i) (sendCauseMsix p i) (setCause p i s))

/-- A cause sets in every partition whose function 0 this device holds. -/
def raiseCauseAll (i : Nat) (s : State) : State := forAll (homeParts s) (fun p => raiseCause p i) s

def ringWrite (p : Nat) (r : ErrRec) (s : State) : State := ringWriteBy raiseCause p r s
def ringCopy (p : Nat) (r : ErrRec) (s : State) : State := ringCopyBy raiseCause p r s
def record (ps : List Nat) (r : ErrRec) (s : State) : State := recordBy raiseCause ps r s
def writeFailure (cause : Nat) (r : ErrRec) (part : Nat) (s : State) : State := writeFailureBy raiseCause cause r part s

/-- Signals of R325 are sent on behalf of the record written just now; the device's own identity as source. -/
def devRec (s : State) (cause cls a b : Nat) : ErrRec :=
  { cause := cause, cls := cls, srcDev := s.dev, detailA := a, detailB := b }

/-- A device-wide record: to the device log only (R321). -/
def deviceRecord (cause cls a b : Nat) (s : State) : State := record [] (devRec s cause cls a b) s

/-- A corrected memory word that reads clean again (R312): counted per bank; at most one MEM_TRANSIENT record per bank and
second, with the corrections since the one before (Table 10.6). -/
def memTransient (bank offset : Nat) (s : State) : State :=
  let n := tget 0 s.errs.memCount bank + 1
  let s1 := count1 (cDev bank) s
  let due := rb (s.cfg 0x58 0 0) 30 && match tfind s.errs.memLast bank with
    | some t => s.since t oneSec
    | none => true
  if due then
    logOnly { devRec s 0x0701 0 0 0 with address := offset, count := n }
      { s1 with errs.memCount := tset 0 s1.errs.memCount bank 0, errs.memLast := tput s1.errs.memLast bank s.now }
  else { s1 with errs.memCount := tset 0 s1.errs.memCount bank n }

/-- Close an episode: the LAST record with the total count (R238, R324). -/
def closeEpisode (e : Episode) (s : State) : State :=
  record (if e.toRing then [e.part] else []) { e.rec0 with fl := 1, count := sat32 e.count } s

/-- A C1 record other than WRITE_FAILED, coalesced into episodes (R324); some go to the device log only (R321). -/
def episodeRecord (toRing : Bool) (part : Nat) (r : ErrRec) (s : State) : State :=
  let ps := if toRing then [part] else []
  match findEpisode s r.cause part r.dstDev r.dstPort with
  | some _ => extendEpisode r.cause part r.dstDev r.dstPort s
  | none =>
    if s.bridge.episodes.length < 1024 then
      let s1 := record ps { r with fl := 2, count := 1 } s
      { s1 with bridge.episodes := s1.bridge.episodes ++ [⟨r.cause, part, r.dstDev, r.dstPort, 1, s.now, r, toRing⟩] }
    else record ps { r with fl := 3, count := 1 } s

/-- A write discarded under a fence is counted into its episode, or into the overflow counter (R237). -/
def fencedDiscard (part dev port : Nat) (s : State) : State :=
  let s := count1 (cPart part 13) s
  match findEpisode s 0 part dev port with
  | some _ => extendEpisode 0 part dev port s
  | none => count1 (cPart part 14) s

/-- End fences that satisfy a condition; each one's episode closes (R238, R399). -/
def endFences (p : Nat × Nat × Nat → Bool) (s : State) : State :=
  let gone := s.bridge.fences.filter p
  forAll gone (fun k s =>
      match findEpisode s 0 k.1 k.2.1 k.2.2 with
      | some e =>
        closeEpisode e { s with bridge.episodes := s.bridge.episodes.filter fun x =>
          !(x.cause == 0 && x.part == k.1 && x.dev == k.2.1 && x.port == k.2.2) }
      | none => s)
    { s with bridge.fences := s.bridge.fences.filter fun k => !p k }

/-- A completion goes to a requester at a port of this device. -/
def sendCpl (port rid tag : Nat) (st : CplStatus) (s : State) : State := emit (.completion port rid tag st 0) s

end Sys2Proof.Machine
end

