-- ==== Sys2Proof/Machine/Line.lean ====
section
/-! DEFINITION. The line of a spoke: 8b/10b code-groups with running disparity, beats, control beats, and cells as bytes (R164 to R172,
R176, Tables 6.1 to 6.6 and 6.9). -/

namespace Sys2Proof.Machine

/-! The code table (R164, IEEE 802.3 Clause 36). -/

/-- A D- or a K-character by its octet value. -/
inductive Sym where
  | d (octet : Nat)
  | k (octet : Nat)
deriving DecidableEq, Repr

/-- abcdei of D.0 to D.31 at negative running disparity. -/
def sixBits : List Nat :=
  [0b100111, 0b011101, 0b101101, 0b110001, 0b110101, 0b101001, 0b011001, 0b111000,
   0b111001, 0b100101, 0b010101, 0b110100, 0b001101, 0b101100, 0b011100, 0b010111,
   0b011011, 0b100011, 0b010011, 0b110010, 0b001011, 0b101010, 0b011010, 0b111010,
   0b110011, 0b100110, 0b010110, 0b110110, 0b001110, 0b101110, 0b011110, 0b101011]

/-- fghj of .0 to .7 at negative running disparity. -/
def fourBits : List Nat := [0b1011, 0b1001, 0b0101, 0b1100, 0b1101, 0b1010, 0b0110, 0b1110]

/-- The K-characters of Table 6.1 with their code-groups at negative running disparity. -/
def kGroups : List (Nat × Nat) :=
  [(0x1C, 0b0011110100), (0x3C, 0b0011111001), (0x5C, 0b0011110101), (0x7C, 0b0011110011), (0x9C, 0b0011110010),
   (0xBC, 0b0011111010), (0xDC, 0b0011110110), (0xFC, 0b0011111000), (0xF7, 0b1110101000), (0xFB, 0b1101101000),
   (0xFD, 0b1011101000), (0xFE, 0b0111101000)]

/-- Running disparity after a sub-block of w bits; true is positive. -/
def blockRd (w v : Nat) (plus : Bool) : Bool :=
  let ones := popcount v w
  if w < 2 * ones then true
  else if 2 * ones < w then false
  else if v = 2 ^ (w / 2) - 1 then true
  else if v = (2 ^ (w / 2) - 1) * 2 ^ (w / 2) then false
  else plus

/-- Running disparity after a code-group. -/
def groupRd (g : Nat) (plus : Bool) : Bool := blockRd 4 (g % 16) (blockRd 6 (g / 16) plus)

/-- abcdei of D.x: an unbalanced sub-block, and that of D.7, is complemented at positive running disparity. -/
def sixOf (plus : Bool) (x : Nat) : Nat :=
  let v := sixBits.getD x 0
  if plus && (x == 7 || popcount v 6 != 3) then 63 - v else v

/-- fghj of D.x.y: likewise, with the alternate .7 where the primary one would make a run of five. -/
def fourOf (plus : Bool) (x y : Nat) : Nat :=
  let v := if y = 7 ∧ (if plus then x ∈ [11, 13, 14] else x ∈ [17, 18, 20]) then 0b0111 else fourBits.getD y 0
  if plus && (y == 3 || popcount v 4 != 2) then 15 - v else v

/-- The code-group of a character at a running disparity. -/
def groupOf (plus : Bool) : Sym → Nat
  | .d b => sixOf plus (b % 32) * 16 + fourOf (blockRd 6 (sixOf plus (b % 32)) plus) (b % 32) (b / 32)
  | .k b =>
    let g := ((kGroups.find? fun e => e.1 == b).map (·.2)).getD 0
    if plus then 1023 - g else g

/-- The character of a code-group in the column of one running disparity. -/
def symAt (plus : Bool) (g : Nat) : Option Sym :=
  match kGroups.find? fun e => groupOf plus (.k e.1) == g with
  | some e => some (.k e.1)
  | none =>
    match (List.range 32).find? fun x => sixOf plus x == g / 16 with
    | none => none
    | some x => ((List.range 8).find? fun y => fourOf (blockRd 6 (g / 16) plus) x y == g % 16).map fun y => .d (32 * y + x)

/-! Beats (R165, R166). -/

/-- What a receiver has read so far: the characters in byte order, the lanes with a code violation and with a disparity violation, and
the running disparity of each lane. -/
structure Seen where
  syms : List (Option Sym) := []
  code : Nat := 0
  disp : Nat := 0
  rd : Nat := 0
deriving DecidableEq, Repr

/-- Read one code-group of a lane: one of the other column is a disparity violation, one of neither a code violation; so is none. -/
def readGroup (x : Seen) (lane : Nat) (g : Option Nat) : Seen :=
  match g with
  | none => { x with syms := x.syms ++ [none], code := setBit x.code lane }
  | some g =>
    let plus := bit x.rd lane
    let rd := putBit x.rd lane (groupRd g plus)
    match symAt plus g, symAt (!plus) g with
    | some y, _ => { x with syms := x.syms ++ [some y], rd := rd }
    | none, some y => { x with syms := x.syms ++ [some y], disp := setBit x.disp lane, rd := rd }
    | none, none => { x with syms := x.syms ++ [none], code := setBit x.code lane, rd := rd }

/-- Read a beat: byte i comes on the i-th active lane (R165). -/
def readBeat (lanes : List Nat) (x : Seen) (b : List Nat) : Seen :=
  (List.range lanes.length).foldl (fun x i => readGroup x (lanes.getD i 0) b[i]?) x

/-- Read beats one after another. -/
def readBeats (lanes : List Nat) (rd : Nat) (bs : List (List Nat)) : Seen := bs.foldl (readBeat lanes) { rd := rd }

/-- The code-groups of one beat's characters, and the running disparities after it. -/
def codeBeat (lanes : List Nat) (rd : Nat) (ys : List Sym) : List Nat × Nat :=
  (List.zip lanes ys).foldl (fun (a : List Nat × Nat) e =>
    let g := groupOf (bit a.2 e.1) e.2
    (a.1 ++ [g], putBit a.2 e.1 (groupRd g (bit a.2 e.1)))) ([], rd)

/-- Beats one after another. -/
def codeBeats (lanes : List Nat) (rd : Nat) (rows : List (List Sym)) : List (List Nat) × Nat :=
  rows.foldl (fun (a : List (List Nat) × Nat) ys =>
    let r := codeBeat lanes a.2 ys
    (a.1 ++ [r.1], r.2)) ([], rd)

/-! Control beats (R167 to R169). -/

/-- The octet of each kind of control beat, in the order of Table 6.1; IDLE is kind 0. -/
def kindOctets : List Nat := [0xBC, 0x1C, 0x5C, 0x7C, 0x9C, 0xDC, 0xF7, 0xFB, 0xFD, 0xFE]

/-- The number that bytes spell, the most significant first. -/
def ofBe (bs : List Nat) : Nat := bs.foldl (fun a b => 256 * a + b) 0

/-- One bit of CRC-8 with polynomial 0x07. -/
def crc8Bit (c : Byte) : Byte := if c.getLsbD 7 then (c <<< 1) ^^^ 0x07 else c <<< 1

/-- CRC-8: polynomial 0x07, initial value 0 (R167). -/
def crc8 (bs : List Nat) : Nat :=
  (bs.foldl (fun (c : Byte) b => (List.range 8).foldl (fun c _ => crc8Bit c) (c ^^^ BitVec.ofNat 8 b)) 0).toNat

/-- A control beat on n lanes: the K-character, D[39:0], CRC-8 and, on eight lanes, the copy of byte 0 (R167). -/
def controlBeat (n octet d : Nat) : List Sym :=
  let bs := octet :: beNat 5 d
  ([Sym.k octet] ++ (beNat 5 d).map Sym.d ++ [Sym.d (crc8 bs), Sym.k octet]).take n

/-- D[39:0] of the beats that one number or two describe (Table 6.2): CREDIT by its pool of 32 and limit, PREEMPT and RESUME by a
service, RETRY_REQ by EXP_SEQ and ATTEMPT, ACK by ACK_SEQ, RETIRE by 2 x lane + phase and the copy. -/
def beatData (kind a b : Nat) : Nat :=
  match kind with
  | 1 => pack [(39, 35, a), (31, 16, b)]
  | 2 | 3 => pack [(39, 37, a)]
  | 4 => pack [(39, 29, a), (28, 26, b)]
  | 5 => pack [(39, 29, a)]
  | 7 => pack [(39, 36, a), (35, 34, b)]
  | _ => 0

/-- The parts of a TIME, PLUMB or TRAIN message; TIME names its KIND above the part (Table 6.2). -/
def partData (kind : Nat) (vs : List Nat) : List Nat :=
  (List.range vs.length).map fun i => pack [(39, 36, kind), (35, 32, i), (31, 0, vs.getD i 0)]

/-- VALUE of a TIME REQ (Table 6.10). -/
def timeReqValues (t1 seq : Nat) : List Nat := [t1 / 2 ^ 32, t1 % 2 ^ 32, pack [(31, 24, seq)]]
/-- VALUE of a TIME RESP (Table 6.10). -/
def timeRespValues (t2 t3mt2 seq master hops : Nat) (locked : Bool) : List Nat :=
  [t2 / 2 ^ 32, t2 % 2 ^ 32, t3mt2, pack [(31, 24, seq), (23, 18, master), (17, 12, hops), (11, 11, b2n locked)]]
/-- VALUE of a TRAIN message (Table 6.9). -/
def trainValues (t : Train) : List Nat :=
  [t.serial / 2 ^ 16, pack [(31, 16, t.serial), (15, 8, t.mask), (7, 0, t.flags)],
   pack [(31, 26, t.devnum), (25, 23, t.eqLane), (22, 19, t.eqReq), (18, 15, t.preset)]]
/-- A TRAIN message from its VALUE fields. -/
def trainOf (v : List Nat) : Train :=
  let v0 := v.getD 0 0
  let v1 := v.getD 1 0
  let v2 := v.getD 2 0
  { serial := v0 * 2 ^ 16 + bits v1 31 16, mask := bits v1 15 8, flags := bits v1 7 0, devnum := bits v2 31 26
    eqLane := bits v2 25 23, eqReq := bits v2 22 19, preset := bits v2 18 15 }
/-- VALUE of a PLUMB message: the epoch and the digest's first 8 bytes (R203). -/
def plumbValues (epoch pfx : Nat) : List Nat := [epoch, pfx / 2 ^ 32, pfx % 2 ^ 32]

/-- A control beat as received: the octet of byte 0, D[39:0], and that neither its layout, its CRC-8 nor any code-group of it is wrong
(R167, R171). -/
structure CtlBeat where
  octet : Nat
  d : Nat
  good : Bool
deriving DecidableEq, Repr

/-- The octet of a character; none spells 0. -/
def octetOf : Option Sym → Nat
  | some (.d b) | some (.k b) => b
  | none => 0

/-- The characters are a control beat's with the K-character and the copy in their places. -/
def ctlShape (n : Nat) (ys : List (Option Sym)) : Bool :=
  match ys.head? with
  | some (some (.k o)) =>
    ((List.range' 1 6).all fun i => match ys.getD i none with
      | some (.d _) => true
      | _ => false) && (n != 8 || ys.getD 7 none == some (.k o))
  | _ => false

/-- The K-characters that stand where Table 6.1 allows none are code violations on their lanes, and so is the reserved K28.7 (R166). -/
def misplaced (lanes : List Nat) (ys : List (Option Sym)) : Nat :=
  let lead := match ys.head? with
    | some (some (.k o)) => some o
    | _ => none
  (List.range lanes.length).foldl (fun m i => match ys.getD i none with
    | some (.k o) =>
      if o != 0xFC && (i == 0 || (i == 7 && lead == some o)) then m else setBit m (lanes.getD i 0)
    | _ => m) 0

/-- Characters whose position in an IDLE beat they do not fit: K28.1 at position c mod N, K28.5 elsewhere (R168). -/
def idleWrong (lanes : List Nat) (c : Nat) (ys : List (Option Sym)) : Nat :=
  (List.range lanes.length).foldl (fun m i =>
    if ys.getD i none == some (.k (if i = c % max 1 lanes.length then 0x3C else 0xBC)) then m else setBit m (lanes.getD i 0)) 0

/-- The control beat that characters spell. -/
def ctlOf (lanes : List Nat) (x : Seen) : CtlBeat :=
  let os := x.syms.map octetOf
  { octet := os.getD 0 0, d := ofBe ((os.drop 1).take 5)
    good := ctlShape lanes.length x.syms && x.code ||| x.disp ||| misplaced lanes x.syms == 0 && crc8 (os.take 6) == os.getD 6 0 }

/-! Cells as bytes (R172, R174, R176). -/

/-- A cell header (Table 6.3). -/
def headerWord (h : CellHdr) : Nat :=
  pack [(63, 60, h.type), (59, 58, h.pos), (57, 55, h.svc), (54, 54, b2n h.rcv), (53, 52, h.colour), (51, 51, b2n h.mark),
    (50, 45, h.dstDev), (44, 38, h.dstPort), (37, 32, h.srcDev), (31, 25, h.srcPort), (24, 18, h.subscriber), (17, 16, h.hops),
    (15, 9, h.streamSeq), (8, 0, h.len)]

/-- The header that 64 bits spell. -/
def headerOf (w : Nat) : CellHdr :=
  { type := bits w 63 60, pos := bits w 59 58, svc := bits w 57 55, rcv := bit w 54, colour := bits w 53 52, mark := bit w 51
    dstDev := bits w 50 45, dstPort := bits w 44 38, srcDev := bits w 37 32, srcPort := bits w 31 25, subscriber := bits w 24 18
    hops := bits w 17 16, streamSeq := bits w 15 9, len := bits w 8 0 }

/-- Bits [63:32] of a trailer (Table 6.5). -/
def trailerHalf (c : Cell) : Nat :=
  pack [(31, 21, c.lseq), (20, 10, c.ackSeq), (9, 9, b2n c.ackV), (8, 0, c.ageStamp)]

/-- The bytes of a cell that its CRC covers: header, payload and trailer bits [63:32] (Table 6.5). -/
def crcBytes (c : Cell) : List Nat := beNat 8 (headerWord c.hdr) ++ c.data.map (·.toNat) ++ beNat 4 (trailerHalf c)

/-- A cell's CRC (R176). -/
def cellCrc (bs : List Nat) : Nat := (crc32c (bs.map (BitVec.ofNat 8))).toNat

/-- A cell as bytes, in the order they are sent. -/
def cellBytes (c : Cell) : List Nat := crcBytes c ++ beNat 4 (cellCrc (crcBytes c))

/-- Bytes cut into beats of n, the last one filled with 0x00 (R172). -/
def dataBeats (n : Nat) (bs : List Nat) : List (List Sym) :=
  (chunks n bs.length bs).map fun c => (c ++ List.replicate (n - c.length) 0).map Sym.d

/-- The cell that received bytes spell, with what its payload says, and whether its length and its CRC are right. -/
def cellOf (n : Nat) (bs : List Nat) (body : CellBody) : Cell × Bool :=
  let h := headerOf (ofBe (bs.take 8))
  let t := ofBe ((bs.drop (8 + h.len)).take 4)
  ({ hdr := h, body := body, lseq := bits t 31 21, ackSeq := bits t 20 10, ackV := bit t 9, ageStamp := bits t 8 0
     data := ((bs.drop 8).take h.len).map (BitVec.ofNat 8) },
   decide (16 + h.len ≤ bs.length) && decide (bs.length < 16 + h.len + max 1 n) &&
     cellCrc (bs.take (12 + h.len)) == ofBe ((bs.drop (12 + h.len)).take 4))

/-! What the device sends on a spoke. -/

/-- The lanes of a spoke that are in use, in ascending order (R165). -/
def activeLanes (x : Spoke) : List Nat := onesBelow x.active 8
/-- The device lane behind spoke lane i (R107). -/
def spokeLane (k i : Nat) : Nat := 8 * k + i
/-- The transmitted polarity of a lane is inverted (Table 4.7). -/
def txInverts (s : State) (l : Nat) : Bool := rb (s.cfg 0x03 l 0) 13
/-- The received polarity of a lane is inverted: as forced by its override record, else as detected (R119). -/
def rxInverts (s : State) (l : Nat) : Bool := let r := s.cfg 0x03 l 0; if rb r 15 then rb r 14 else (s.lane l).rxInv

/-- The code-groups of a beat as they leave the balls, each a bit pattern with its lane's polarity applied. -/
def polar (inv : Nat → Bool) (lanes b : List Nat) : List Nat := List.zipWith (fun l g => if inv l then 1023 - g else g) lanes b

/-- Hand beats to the transmitter. -/
def putBeats (k : Nat) (rows : List (List Sym)) (s : State) : State :=
  let x := s.spoke k
  let lanes := activeLanes x
  let r := codeBeats lanes x.tx.rd rows
  let wire := r.1.map fun b => (polar (fun l => txInverts s (spokeLane k l)) lanes b).map (BitVec.ofNat 10)
  emit (.codes k wire) (modSpoke k (fun x => { x with tx := { x.tx with rd := r.2, sinceIdle := x.tx.sinceIdle + rows.length } }) s)

/-- An IDLE beat: K28.1 at position c mod N, K28.5 elsewhere (R168). -/
def idleBeat (n c : Nat) : List Sym := (List.range n).map fun i => .k (if i = c % max 1 n then 0x3C else 0xBC)

def sendIdle (k : Nat) (s : State) : State :=
  let x := s.spoke k
  modSpoke k (fun x => { x with tx := { x.tx with idleCount := x.tx.idleCount + 1, sinceIdle := 0 } })
    (putBeats k [idleBeat (activeLanes x).length x.tx.idleCount] s)

/-- Send beats; while the spoke is up at least one in every 4,096 is an IDLE beat (R168). -/
def sendRows (k : Nat) (rows : List (List Sym)) (s : State) : State :=
  let x := s.spoke k
  putBeats k rows (onlyIf (x.state == 6 && decide (4096 ≤ x.tx.sinceIdle + rows.length)) (sendIdle k) s)

/-- A control beat of a spoke; the kinds are numbered in the order of Table 6.1. -/
def sendBeat (k kind a b : Nat) (s : State) : State :=
  sendRows k [controlBeat (activeLanes (s.spoke k)).length (kindOctets.getD kind 0) (beatData kind a b)] (emit (.beat k kind a b) s)

/-- Four copies of RETIRE, one message of consecutive beats: lane, phase and copy (R169, Table 6.1). -/
def sendRetire (k lane phase : Nat) (s : State) : State :=
  let row (c : Nat) := controlBeat (activeLanes (s.spoke k)).length (kindOctets.getD 7 0) (beatData 7 (lane * 2 + phase) c)
  sendRows k ((List.range 4).map row) (forAll (List.range 4) (fun c => emit (.beat k 7 (lane * 2 + phase) c)) s)

/-- A control message of consecutive beats (R169). -/
def sendParts (k kind sub : Nat) (vs : List Nat) (s : State) : State :=
  sendRows k ((partData sub vs).map (controlBeat (activeLanes (s.spoke k)).length (kindOctets.getD kind 0))) s

/-! What arrives on a spoke. -/

/-- Beats as the receiver takes them: each group is inverted by the lane of this end that brought it, then a spoke wired with reversed lane
order is put right (R118, R119). -/
def arrived (s : State) (k : Nat) (bs : List Beat) : List (List Nat) :=
  let x := s.spoke k
  let lanes := if x.rxReversed then ((activeLanes x).map (7 - ·)).reverse else activeLanes x
  bs.map fun b =>
    let g := polar (fun l => rxInverts s (spokeLane k l)) lanes ((b.map (·.toNat)).take lanes.length)
    if x.rxReversed then g.reverse else g

/-- The characters of arriving beats. -/
def seenBeats (s : State) (k : Nat) (bs : List Beat) : Seen :=
  readBeats (activeLanes (s.spoke k)) (s.spoke k).rx.rd (arrived s k bs)

/-- Code violations (position 0) and disparity violations (position 1) are counted per lane, and hold back the copy of the lanes'
coefficients (R126, R189). -/
def countViolations (k code disp : Nat) (s : State) : State :=
  if (code ||| disp) % 256 = 0 then s
  else forAll (onesBelow code 8) (fun l s => count1 (cLane (spokeLane k l) 0) s)
    (forAll (onesBelow disp 8) (fun l s => count1 (cLane (spokeLane k l) 1) s)
      (modSpoke k (fun x => { x with rx := { x.rx with lastError := s.now } }) s))

/-- Beats have been read: the running disparities and the violations, with further code violations `more`. -/
def tookBeats (k more : Nat) (x : Seen) (s : State) : State :=
  countViolations k (x.code ||| more) x.disp (modSpoke k (fun q => { q with rx := { q.rx with rd := x.rd } }) s)

/-- A control beat that arrives. -/
def ctlBeat (s : State) (k : Nat) (b : Beat) : CtlBeat := ctlOf (activeLanes (s.spoke k)) (seenBeats s k [b])

/-- The line effects of a control beat. -/
def tookCtl (k : Nat) (b : Beat) (s : State) : State :=
  let x := seenBeats s k [b]
  tookBeats k (misplaced (activeLanes (s.spoke k)) x.syms) x s

/-- The control beats of a message, each read after the one before it. -/
def ctlBeats (s : State) (k : Nat) : List Beat → List CtlBeat
  | [] => []
  | b :: r => ctlBeat s k b :: ctlBeats (tookCtl k b s) k r

/-- The line effects of several control beats. -/
def tookCtls (k : Nat) (bs : List Beat) (s : State) : State := bs.foldl (fun s b => tookCtl k b s) s

/-- The VALUE fields of a message of n parts and one sub-kind, when it is complete and good (R169). -/
def partsOf (kind sub n : Nat) (cs : List CtlBeat) : Option (List Nat) :=
  if cs.length = n ∧ (List.range n).all fun i => match cs[i]? with
      | some c => c.good && c.octet == kindOctets.getD kind 0 && bits c.d 35 32 == i && (kind != 6 || bits c.d 39 36 == sub)
      | none => false
  then some (cs.map fun c => bits c.d 31 0) else none

end Sys2Proof.Machine
end

