-- ==== Sys2Proof/Machine/Shapers.lean ====
section
/-! DEFINITION. Shapers, timing wheels and deficit round robin (chapter 3). -/

namespace Sys2Proof.Machine

/-- A shaper's name: its kind and index. Kinds: 0 queue maximum and 1 queue guarantee (port x 576 + queue), 2 subscriber cap
(port x 72 + subscriber), 3 service cap (port x 8 + service), 4 port cap, 5 ingress shaper (attachment x 72 + subscriber),
6 VF cap. -/
def shKey (kind idx : Nat) : Nat := kind * 2 ^ 24 + idx
def shKind (k : Nat) : Nat := k / 2 ^ 24
def shIdx (k : Nat) : Nat := k % 2 ^ 24

/-- Credit units per byte: 256 x 32,000, so that 1 Mb/s earns one unit in 2^-10 ns (R74, R77). -/
def creditUnit : Nat := 8192000

/-- Check rate of one PCIe lane at a configured rate code (Table 3.2). -/
def laneCheckRate : Nat → Nat
  | 0 => 2000
  | 1 => 4000
  | 2 => 7876
  | 3 => 15753
  | 4 => 31507
  | _ => 59000

/-- The configured width of a PCIe port in lanes (R105). -/
def portWidth (s : State) (p : Nat) : Nat :=
  2 * granuleWidth (rf (s.cfg 0x01 (rf (portRec s p) 55 51) 0) 59 52) (rf (portRec s p) 50 48)

/-- A port's check rate from Table 3.2: PCIe at the configured width and rate, a spoke at its number of active lanes. -/
def linkCheckRate (s : State) (p : Nat) : Nat :=
  match portSpoke s p with
  | some k => if popcount (s.spoke k).active 8 = 7 then 358400 else 409600
  | none => portWidth s p * laneCheckRate (rf (portRec s p) 47 45)

/-- The ceiling of an ingress shaper (R93). -/
def ingressCeiling (s : State) (att sub : Nat) : Nat :=
  let rate := rf (s.cfg 0x34 att sub) 127 108
  if rate != 0 then rate
  else if att = 20 then 1000000
  else match stationMode s att with
    | 1 => (((List.range 128).filter fun p => portEn s p && portPart s p == sub && rf (portRec s p) 55 51 == att).map
        fun p => portWidth s p * laneCheckRate (rf (portRec s p) 47 45)).sum
    | 2 => (((List.range 2).filter fun h => spokeEn s (2 * att + h)).map fun _ => 409600).sum
    | _ => 0

/-- CUR_RATE of an ingress shaper: its ceiling until a decrease (Table 3.7). -/
def curRate (s : State) (att sub : Nat) : Nat :=
  match tfind s.sched.cur (att * 72 + sub) with
  | some c => c.cur
  | none => ingressCeiling s att sub

/-- The share of a strict VF (R99). -/
def shareRate (s : State) (vf : Nat) : Nat :=
  if partStrict s (vfPart s vf) then
    let n := ((List.range 512).filter (vfEn s)).length
    min 1000000 (2304000 / max n 1)
  else 0

/-- The governor's stage 1 or a power cap holds the mover's limits at half their values (R491, R492). -/
def moverHalved (s : State) : Bool := decide (1 ≤ max s.power.stage s.power.capStage)

/-- The cap of a VF (R97, R99); 0 means uncapped. -/
def vfCap (s : State) (vf : Nat) : Nat :=
  let m := rf (s.cfg 0x41 vf 0) 63 44
  let sh := shareRate s vf
  let cap := if sh = 0 then m else if m = 0 then sh else min m sh
  if moverHalved s && cap != 0 then max 1 (cap / 2) else cap

/-- The rate of a shaper in Mb/s under the records in force. A strict queue's maximum is its guarantee (R90). -/
def shRate (s : State) (k : Nat) : Nat :=
  let i := shIdx k
  match shKind k with
  | 0 =>
    let r := s.cfg 0x30 (i / 576) (i % 576)
    if subStrict s (i % 576 / 8) then rf r 107 88 else rf r 127 108
  | 1 => rf (s.cfg 0x30 (i / 576) (i % 576)) 107 88
  | 2 => rf (s.cfg 0x31 (i / 72) (i % 72)) 63 44
  | 3 => rf (s.cfg 0x32 (i / 8) (i % 8)) 63 44
  | 4 => rf (s.cfg 0x33 i 0) 63 44
  | 5 => curRate s (i / 72) (i % 72)
  | _ => if i < 512 then vfCap s i else 0

/-- The burst of a shaper in credit units. -/
def shBurst (s : State) (k : Nat) : Nat :=
  let i := shIdx k
  64 * creditUnit * match shKind k with
  | 0 => rf (s.cfg 0x30 (i / 576) (i % 576)) 63 48
  | 1 => rf (s.cfg 0x30 (i / 576) (i % 576)) 47 32
  | 2 => rf (s.cfg 0x31 (i / 72) (i % 72)) 15 0
  | 3 => rf (s.cfg 0x32 (i / 8) (i % 8)) 15 0
  | 4 => rf (s.cfg 0x33 i 0) 15 0
  | 5 => rf (s.cfg 0x34 (i / 72) (i % 72)) 15 0
  | _ => rf (s.cfg 0x41 i 0) 15 0

/-! The time base of the wheels (R78, R465): the core root's VCO, down-spread by a triangle at 31.5 kHz. -/

/-- The greatest slowing of a CORE_SSC code, in parts per million (R465). -/
def spreadPpm : Nat → Nat
  | 1 => 1000
  | 2 => 2500
  | 3 => 5000
  | _ => 0

/-- One period of the triangle is 2,048,000,000 / 63 units of time; positions in it are counted in 63rds of a unit. -/
def spreadPeriod : Nat := 2048000000

/-- The time that a triangle from 0 up to the greatest slowing and back loses from its start to a position, in 63rds of a unit x 10^6. -/
def spreadPart (ppm x : Nat) : Nat :=
  let half := spreadPeriod / 2
  if x ≤ half then ppm * x * x / spreadPeriod
  else ppm * half - ppm * (spreadPeriod - x) * (spreadPeriod - x) / spreadPeriod

/-- The time lost from the start of a triangle to moment t. -/
def spreadLoss (ppm t : Nat) : Nat :=
  let x := 63 * t
  x / spreadPeriod * (ppm * (spreadPeriod / 2)) + spreadPart ppm (x % spreadPeriod)

/-- The clock of the wheels and shapers: the local clock, slower by the core root's spread. -/
def State.vco (s : State) : Time :=
  let ppm := spreadPpm s.chip.coreSsc
  if ppm = 0 then s.now
  else s.now - (spreadLoss ppm (s.now + Config.spreadPhase) - spreadLoss ppm Config.spreadPhase) / 63000000

/-- A shaper; one that nothing has passed since the last reset has had credit 0 since then (Table 3.12). -/
def State.sh (s : State) (k : Nat) : Shaper := (tfind s.sched.shapers k).getD { last := s.sched.resetAt }
def putSh (k : Nat) (v : Shaper) (s : State) : State := { s with sched.shapers := tput s.sched.shapers k v }

/-- A shaper's credit now: grown at its rate, never beyond its burst (R74, R75). -/
def creditNow (s : State) (k : Nat) : Int :=
  let c := (s.sh k).credit + (shRate s k * (s.vco - (s.sh k).last) : Nat)
  min c (shBurst s k)

/-- A maximum shaper whose rate is 0 is always open (R83); an ingress shaper at rate 0 carries nothing (R93). One that opens in this tick
counts as open from the next (R101). -/
def shOpen (s : State) (k : Nat) : Bool :=
  if shRate s k = 0 then shKind k != 5 && shKind k != 1 else (s.sh k).isOpen && (s.sh k).opensIn != some (coreTick s)

/-- The fine slot that a moment lies in: 32 cycles of 6 GHz, 16/3 ns (R78). -/
def fineSlot (t : Time) : Nat := 3 * t / 16384

/-- The fine slot of now. -/
def slotNow (s : State) : Nat := fineSlot s.vco

/-- The first fine-slot boundary not before the moment at which a shaper's credit returns to 0, that moment taken exactly (R74, R77). -/
def eligibleSlot (s : State) (k : Nat) (c : Int) : Nat :=
  let rate := max (shRate s k) 1
  ceilDiv (3 * (s.vco * rate + (-c).toNat)) (16384 * rate)

/-- The pair of wheels that holds a shaper (R73). -/
def wheelOf (s : State) (k : Nat) : Nat :=
  let i := shIdx k
  match shKind k with
  | 0 | 1 => portStation s (i / 576)
  | 2 => portStation s (i / 72)
  | 3 => portStation s (i / 8)
  | 4 => portStation s i
  | 5 => 20 + i / 72
  | _ => 41

/-- A shaper opens. -/
def openSh (k : Nat) (s : State) : State :=
  let h := s.sh k
  if h.isOpen then s else putSh k { h with isOpen := true, openedAt := s.now, opensIn := some (coreTick s) } s

/-- Credit as a shaper keeps it: to 1/256 byte (R77). -/
def kept (c : Int) : Int := c / 32000 * 32000

/-- Insert a shaper with its E into the wheels of its instance (R79, R80). -/
def wheelInsert (inst k E : Nat) (s : State) : State :=
  let n := slotNow s
  if E ≤ n then openSh k s
  else
    let rev := E / 4096
    let cur := n / 4096
    if rev ≤ cur + 1 then
      { s with sched.fine := tput s.sched.fine inst (tget [] s.sched.fine inst ++ [⟨E % 4096, k, E⟩]) }
    else
      let slot := if rev ≤ cur + 4097 then rev % 4096 else (cur + 4097) % 4096
      { s with sched.coarse := tput s.sched.coarse inst (tget [] s.sched.coarse inst ++ [⟨slot, k, E⟩]) }

/-- Take a shaper's entries out of the wheels. -/
def wheelRemove (k : Nat) (s : State) : State :=
  let drop (t : Tbl (List WheelEntry)) : Tbl (List WheelEntry) :=
    (t.map fun e => (e.1, e.2.filter fun w => w.key != k)).filter fun e => !e.2.isEmpty
  { s with sched.fine := drop s.sched.fine, sched.coarse := drop s.sched.coarse }

/-- A unit of length L bytes passes a shaper: its credit falls by L, and below 0 it closes and waits for its E (R74). L is negative
for a frame shorter than a negative LEN_ADJ (R86). -/
def chargeSh (k : Nat) (L : Int) (s : State) : State :=
  if shRate s k = 0 then s
  else
    let c := kept (min (creditNow s k - L * creditUnit) (shBurst s k))
    let h := s.sh k
    if c < 0 then
      wheelInsert (wheelOf s k) k (eligibleSlot s k c)
        (putSh k { h with credit := c, last := s.vco, isOpen := false } (wheelRemove k s))
    else putSh k { h with credit := c, last := s.vco } s

/-- What a unit has taken from a shaper is given back, which is then open as before (R101). -/
def refundSh (k : Nat) (L : Int) (s : State) : State :=
  if shRate s k = 0 then s
  else
    let c := kept (min (creditNow s k + L * creditUnit) (shBurst s k))
    putSh k { s.sh k with credit := c, last := s.vco, isOpen := true } (wheelRemove k s)

/-- A shaper at credit 0, as after a reset (Table 3.12): open, and opened by the reset when it was closed (R84). -/
def resetSh (k : Nat) (s : State) : State :=
  let h := s.sh k
  putSh k { last := s.vco, openedAt := if h.isOpen then h.openedAt else s.now } (wheelRemove k s)

/-- A shaper that a commit creates or enables: credit 0, open from now on (R75, R84). -/
def newSh (k : Nat) (s : State) : State := putSh k { last := s.vco, openedAt := s.now } (wheelRemove k s)

/-- Forget shapers that satisfy a condition: their credit is 0. -/
def resetShapers (p : Nat → Bool) (s : State) : State := forAll ((tkeys s.sched.shapers).filter p) resetSh s

/-- At a commit a changed shaper keeps its credit, clipped to the new burst, and computes E again with the new rate (R100);
the credit is the one earned under the old records. -/
def rebaseSh (k : Nat) (old : Int) (s : State) : State :=
  let c := kept (min old (shBurst s k : Int))
  let h := s.sh k
  if shRate s k = 0 then putSh k { last := s.vco, opensIn := if h.isOpen then none else some (coreTick s) } (wheelRemove k s)
  else if c < 0 then
    wheelInsert (wheelOf s k) k (eligibleSlot s k c)
      (putSh k { h with credit := c, last := s.vco, isOpen := false } (wheelRemove k s))
  else openSh k (putSh k { h with credit := c, last := s.vco } (wheelRemove k s))

/-- The nodes of a deficit round robin in the order in which the pointer reaches them; the pointer is one more than the node last
served, 0 before the first. -/
def drrOrder (nodes : List Nat) (ptr : Nat) : List Nat := (nodes.filter fun n => decide (ptr ≤ n)) ++ nodes.filter fun n => decide (n < ptr)

/-! Deficits are bytes; a charged length, and so a deduction, may be negative (R86). -/

/-- Rounds of deficit round robin: a node that the pointer reaches grows by its quantum, and is served once its deficit covers its next
length (R85). -/
def drrRounds (quantum : Nat → Nat) (len : Nat → Int) : Nat → List Nat → Tbl Int → Option (Nat × Tbl Int)
  | 0, _, _ => none
  | _ + 1, [], _ => none
  | fuel + 1, n :: r, d =>
    let g := tget 0 d n + quantum n
    if len n ≤ g then some (n, tset 0 d n (g - len n)) else drrRounds quantum len fuel (r ++ [n]) (tset 0 d n g)

/-- Deficit round robin over the nodes that hold something eligible, in ascending order (R85): the node at the pointer is served while its
deficit covers its next length. Answers the node, which the pointer then stands at, and the deficits. -/
def drr (nodes : List Nat) (quantum : Nat → Nat) (len : Nat → Int) (ptr : Nat) (d : Tbl Int) : Option (Nat × Tbl Int) :=
  match nodes.find? fun n => n + 1 == ptr && decide (len n ≤ tget 0 d n) with
  | some n => some (n, tset 0 d n (tget 0 d n - len n))
  | none => drrRounds quantum len 2000 (drrOrder nodes ptr) d

/-- A node without anything eligible has its deficit set to 0 (R85). -/
def clearIdle (mine live : Nat → Bool) (d : Tbl Int) : Tbl Int := tkeep d fun k _ => !mine k || live k

/-- Keys of round pointers: a service of a port, a band of a port; below 20, a station. -/
def ptrSvc (port svc : Nat) : Nat := 1000 + port * 8 + svc
def ptrBand (port band : Nat) : Nat := 100 + port * 4 + band
/-- Keys of deficits: queues of a port, then services of a port. -/
def defQueue (port q : Nat) : Nat := port * 576 + q
def defSvc (port svc : Nat) : Nat := 2 ^ 20 + port * 8 + svc

/-- The first 32 entries that are due leave the fine wheel and open their shapers (R79, R81); of more than 32, those inserted first go
first (DESIGN CHOICE, assumption 149). -/
def releaseDue (inst : Nat) (s : State) : State :=
  let n := slotNow s
  let ws := tget [] s.sched.fine inst
  let due := (ws.filter fun w => decide (w.due ≤ n)).take 32
  forAll due (fun w s => openSh w.key s)
    { s with sched.fine := tset [] s.sched.fine inst (ws.filter fun w => !due.contains w) }

/-- The start of fine slot: entries whose E has come are released, up to 32; the others stay (R79, R81). -/
def execWheelSlotRelease (dt : Time) (inst : Nat) (s : State) : Host.Outcome State Fault Refusal :=
  run dt (okWheel inst) (releaseDue inst) s

/-- The start of revolution v: every entry of coarse slot v + 1 is removed and inserted again (R79). -/
def moveCoarse (inst : Nat) (s : State) : State :=
  let slot := (slotNow s / 4096 + 1) % 4096
  let ws := tget [] s.sched.coarse inst
  forAll (ws.filter fun w => w.slot == slot) (fun w => wheelInsert inst w.key w.due)
    { s with sched.coarse := tset [] s.sched.coarse inst (ws.filter fun w => w.slot != slot) }

def execWheelRevolution (dt : Time) (inst : Nat) (s : State) : Host.Outcome State Fault Refusal :=
  run dt (okWheel inst) (moveCoarse inst) s

/-- The configured parameters of an ingress shaper (Table 3.7). -/
def ingFloor (s : State) (att sub : Nat) : Nat := rf (s.cfg 0x34 att sub) 107 88
def ingStep (s : State) (att sub : Nat) : Nat := rf (s.cfg 0x34 att sub) 87 72
def ingPeriod (s : State) (att sub : Nat) : Time := 2 ^ rf (s.cfg 0x34 att sub) 71 68 * us
def ingHold (s : State) (att sub : Nat) : Time := 2 ^ rf (s.cfg 0x34 att sub) 67 64 * us
def ingMd (s : State) (att sub : Nat) : Nat := rf (s.cfg 0x34 att sub) 63 61
def ingEcho (s : State) (att sub : Nat) : Bool := rb (s.cfg 0x34 att sub) 60

/-- Set CUR_RATE: the credit earned so far stands, and the next eligible time is computed with the new rate. -/
def setCurRate (att sub : Nat) (v : IngRate) (s : State) : State :=
  let k := shKey 5 (att * 72 + sub)
  let c := creditNow s k
  rebaseSh k c { s with sched.cur := tput s.sched.cur (att * 72 + sub) v }

/-- A recovery step after a period without an echo (R93). -/
def recoveryStep (att sub : Nat) (s : State) : State :=
  match tfind s.sched.cur (att * 72 + sub) with
  | none => s
  | some c =>
    if ingEcho s att sub && s.since c.timer (ingPeriod s att sub) then
      setCurRate att sub { c with
        cur := min (ingressCeiling s att sub) (c.cur + ingStep s att sub), timer := c.timer + ingPeriod s att sub } s
    else s

/-- A congestion echo at an ingress shaper (R93): it is counted; outside the hold it decreases CUR_RATE; every echo restarts
the recovery timer. With ECHO_EN 0 it is only counted. A recovery step that is due comes first (R101). -/
def echoAt (att sub : Nat) (s : State) : State :=
  let s := recoveryStep att sub (count1 (cSub att sub 3) s)
  let ceil := ingressCeiling s att sub
  if !ingEcho s att sub || ceil = 0 then s
  else
    let old := (tfind s.sched.cur (att * 72 + sub)).getD ⟨ceil, none, s.now⟩
    let held := match old.lastDecrease with
      | some t => !s.since t (ingHold s att sub)
      | none => false
    if held then { s with sched.cur := tput s.sched.cur (att * 72 + sub) { old with timer := s.now } }
    else setCurRate att sub
      ⟨max (ingFloor s att sub) (old.cur * (8 + ingMd s att sub) / 16), some s.now, s.now⟩ s

def execEchoReceived (dt : Time) (att sub : Nat) (s : State) : Host.Outcome State Fault Refusal :=
  run dt (okAtt att && okSub sub) (echoAt att sub) s

def execShaperRecoveryStep (dt : Time) (att sub : Nat) (s : State) : Host.Outcome State Fault Refusal :=
  run dt (okAtt att && okSub sub) (recoveryStep att sub) s

end Sys2Proof.Machine
end

