-- ==== Sys2Proof/Machine/Frames.lean ====
section
/-! DEFINITION. Frames of the hub: bank occupancy, xoff, notices, acknowledgements, trackers, tags, and every way in which a
frame ends without leaving (chapters 2, 7 and 10). -/

namespace Sys2Proof.Machine

/-- Cells of a frame (R34). -/
def fcells (f : Frame) : Nat := ceilDiv f.tlp.frameBytes 64

/-- Queue number at the destination port (R36). -/
def qOf (f : Frame) : Nat := f.sub * 8 + f.svc

def findFrame (s : State) (fid : Nat) : Option Frame := s.hub.frames.find? fun f => f.fid == fid
def modFrame (fid : Nat) (g : Frame → Frame) (s : State) : State :=
  { s with hub.frames := s.hub.frames.map fun f => if f.fid == fid then g f else f }
def dropFrame (fid : Nat) (s : State) : State := { s with hub.frames := s.hub.frames.filter fun f => f.fid != fid }

/-- A frame occupies its bank from admission until its last byte has left. -/
def inBank (f : Frame) : Bool :=
  match f.place with
  | .bank | .queued | .sending => true
  | _ => false

/-- The frames in the bank of a station. -/
def bankFrames (s : State) (st : Nat) : List Frame := s.hub.frames.filter fun f => inBank f && portStation s f.outPort == st

def cellsOf (fs : List Frame) : Nat := (fs.map fcells).sum

/-- The size of the shared region, from the minimums of the ports of the station (R47), less the rows withdrawn by the planer (R487). -/
def sharedSize (s : State) (st : Nat) : Nat :=
  let qmin := ((s.mine 0x28).filter fun e => (stationPorts s st).contains e.a).map fun e => rf e.data 13 0
  let res := ((s.mine 0x29).filter fun e => e.a == st).map fun e => rf e.data 15 0
  49152 - 4096 - qmin.sum - res.sum - tget 0 s.hub.withdrawn st

/-- Cells of a bank charged to one region. -/
def regionUsed (s : State) (st : Nat) (r : Region) : Nat := cellsOf ((bankFrames s st).filter fun f => f.region == r)

/-- The frames that have released cells in this tick: an admission of the same tick still sees their cells (R50, R72). -/
def goneNow (s : State) : List Frame := if s.hub.tick == coreTick s then s.hub.gone else []

def noteGone (f : Frame) (s : State) : State := { s with hub.tick := coreTick s, hub.gone := goneNow s ++ [f] }

/-- The frames whose cells an admission at a bank sees in use. -/
def seenFrames (s : State) (st : Nat) : List Frame :=
  bankFrames s st ++ (goneNow s).filter fun f => portStation s f.outPort == st

/-- A pair's xoff is asserted, by the pair itself or by its bank (R53, R54). -/
def pairXoff (s : State) (port svc : Nat) : Bool :=
  (tfind s.hub.xoff (port * 8 + svc)).isSome || s.hub.bankXoff.contains (portStation s port)

/-- A pair's xoff clears once no frame of the pair is charged to headroom, XON_GAP shared cells are free, and bank xoff is
not asserted (R56). -/
def xonReady (s : State) (port svc : Nat) : Bool :=
  let st := portStation s port
  !(s.hub.frames.any fun f => inBank f && f.outPort == port && f.svc == svc && f.region == .headroom) &&
    decide (regionUsed s st .shared + rf (s.cfg 0x2A st 0) 31 16 ≤ sharedSize s st) && !s.hub.bankXoff.contains st

def clearXoff (key : Nat) (s : State) : State :=
  match tfind s.hub.xoff key with
  | none => s
  | some t => emit (.xoff (key / 8) (key % 8) false)
      (countTime (cPair (key / 8) (key % 8) 12) (s.now - t) { s with
        hub.xoff := tdel s.hub.xoff key, hub.cleared := tput s.hub.cleared key s.now })

/-- A pair's xoff, of its own or of its bank, last changed at this moment (R55). -/
def xoffChanged (s : State) (port svc : Nat) : Time :=
  let bank := tget 0 s.hub.bankXoffAt (portStation s port)
  match tfind s.hub.xoff (port * 8 + svc) with
  | some t => if s.hub.bankXoff.contains (portStation s port) then min t bank else t
  | none => if s.hub.bankXoff.contains (portStation s port) then bank else max bank (tget 0 s.hub.cleared (port * 8 + svc))

/-- The last change of a pair's xoff has reached every attachment, 24 CLK_CORE cycles after it (R55). -/
def xoffSpread (s : State) (port svc : Nat) : Bool := s.since (xoffChanged s port svc) (coreCycles s 25)

/-- After cells have been released: bank xoff clears once headroom is empty, then each pair that may clears (R54, R56). -/
def settleXoff (st : Nat) (s : State) : State :=
  let s1 : State :=
    if s.hub.bankXoff.contains st && regionUsed s st .headroom == 0 then
      let s' : State := { s with
        hub.bankXoff := s.hub.bankXoff.filter (· != st), hub.bankXoffAt := tput s.hub.bankXoffAt st s.now }
      forAll ((stationPorts s st).flatMap fun p => (List.range 8).map fun v => (p, v))
        (fun pv s => if (tfind s.hub.xoff (pv.1 * 8 + pv.2)).isSome then s else emit (.xoff pv.1 pv.2 false) s) s'
    else s
  forAll ((tkeys s1.hub.xoff).filter fun k => portStation s1 (k / 8) == st)
    (fun k s => if xonReady s (k / 8) (k % 8) then clearXoff k s else s) s1

/-- A queue is empty: the moment it became so is kept for the decay of its average (R58). -/
def noteEmpty (port q : Nat) (s : State) : State :=
  if s.hub.frames.any fun f => inBank f && f.outPort == port && qOf f == q then s
  else match tfind s.hub.avg (port * 576 + q) with
    | some a => { s with hub.avg := tput s.hub.avg (port * 576 + q) (a.1, s.now) }
    | none => s

/-- The deficits of a port with those set to 0 whose queue, or whose service, is not among the queues that have something eligible (R85). -/
def portDeficits (port : Nat) (live : List Nat) (d : Tbl Int) : Tbl Int :=
  let d1 := clearIdle (fun k => decide (2 ^ 20 ≤ k) && decide (k < 2 ^ 21) && (k - 2 ^ 20) / 8 == port)
    (fun k => live.any fun q => q % 8 == (k - 2 ^ 20) % 8) d
  clearIdle (fun k => k / 576 == port && decide (k < 2 ^ 20)) (fun k => live.contains (k % 576)) d1

/-- Queues and services of a port that hold nothing have deficit 0 (R85). -/
def dropEmptyDeficits (port : Nat) (s : State) : State :=
  let live := (s.hub.frames.filter fun f => f.place == .queued && f.outPort == port).map qOf
  { s with sched.deficits := portDeficits port live s.sched.deficits }

/-- A frame leaves the hub: its cells return to the region they were charged to (R48). -/
def takeOut (f : Frame) (s : State) : State :=
  let s1 := dropFrame f.fid s
  if inBank f then settleXoff (portStation s f.outPort) (noteEmpty f.outPort (qOf f) (dropEmptyDeficits f.outPort s1)) else s1

/-- A frame leaves the hub, and admissions of the same tick do not see its cells free yet (R72). -/
def removeFrame (f : Frame) (s : State) : State := takeOut f (if inBank f then noteGone f s else s)

/-! Room in the receive buffers (R26, R181). -/

/-- Slots of a spoke's receive buffer are freed when a frame's cells go into staging; the pool's limit rises (R181). -/
def creditPool : TlpKind → Nat
  | .memWrite | .message _ => 0
  | .completion _ => 2
  | _ => 1

/-- A spoke frame's cells: the work tag adds 8 bytes to a recoverable frame (R174). -/
def spokeCells (f : Frame) : Nat := ceilDiv (f.tlp.frameBytes + if f.rcv then 8 else 0) 256

/-- Free slots of a spoke's pool: the credit limit rises, and a CREDIT beat carries it (R181). -/
def freeSlots (k svc pool n : Nat) (s : State) : State :=
  let key := svc * 4 + pool
  let s1 := modSpoke k (fun x => { x with rx := { x.rx with freed := tset 0 x.rx.freed key ((tget 0 x.rx.freed key + n) % 65536) } }) s
  sendBeat k 1 key ((tget 0 (s1.spoke k).rx.size key + tget 0 (s1.spoke k).rx.freed key) % 65536) s1

/-- A frame leaves the receive buffer of its link, staged or discarded: its slots of a spoke, while the link that brought it lasts (R181,
R194), or its PCIe credits, which are not returned before (R26): one header, and data in units of 16 bytes. -/
def freeFrame (f : Frame) (s : State) : State :=
  if !f.slots then s
  else match f.rxSpoke with
    | some k => freeSlots k f.svc (creditPool f.tlp.kind) (spokeCells f) s
    | none => if f.att = 20 then s else emit (.pcieCredit f.srcPort (streamOf f.tlp.kind) (ceilDiv f.tlp.payload 16)) s

/-! Notices (R65, R66). -/

/-- A notice to the engine that issued a frame, under the frame's mover lane: here or at its own device (Table 6.6). -/
def sendNotices (dev sub : Nat) (ns : List Notice) (s : State) : State := post (.noticeCell dev sub ns) s

/-- A drop notice is sent at once (R66); the drop is counted per queue and pair. -/
def dropNotice (f : Frame) (cause : Nat) (s : State) : State :=
  match f.work with
  | none => s
  | some w =>
    let s1 := count1 (cQueue f.outPort (qOf f) 3) s
    let s2 := if cause ≤ 7 then count1 (cPair f.outPort f.svc (3 + cause)) s1
      else if cause = 9 then count1 (cPort f.outPort 28) s1 else s1
    sendNotices f.srcDev f.sub [⟨w, cause⟩] s2

/-! Write acknowledgements (R231, R232). -/

/-- The record that names a bridged write by its flow and count (Table 7.4). -/
def ackRecOf (s : State) (f : Frame) (nak : Bool) (cause : Nat) : AckRec :=
  { srcPort := f.srcPort, dstDev := f.dstDev, dstPort := f.dstPort, svc := f.svc, seq := f.seq, nak := nak
    cause := cause, farTime := s.ft.count }


/-! Tag table entries and write trackers (R224 to R234). -/

def quarantine : Time := 2 * ms

/-- Free an entry; its wire tag becomes the one freed last (R225). -/
def freeTag (i : Nat) (s : State) : State :=
  match tfind s.bridge.tags i with
  | none => s
  | some e => { s with
      bridge.tags := tdel s.bridge.tags i
      bridge.freedTags := (s.bridge.freedTags.filter (· != (e.asPart, e.asRid, e.wireTag))) ++ [(e.asPart, e.asRid, e.wireTag)] }

/-- Place an entry in QUARANTINE for 2 ms. -/
def quarTag (i : Nat) (s : State) : State :=
  { s with bridge.tags := tupd s.bridge.tags i fun e => { e with live := false, freeAt := s.now + quarantine } }

/-- A completion of the remaining bytes toward an entry's original requester: a port, or the mover function. -/
def answerEntry (e : TagEntry) (st : CplStatus) (s : State) : State :=
  match e.func with
  | some f => emit (.toEndpoint e.srcPart
      { kind := .completion st, targetId := e.origRid, rid := funcRid s f, tag := e.origTag, byteCount := e.remaining }) s
  | none => emit (.completion e.origPort e.origRid e.origTag st e.remaining) s

/-- A record for a tag table entry. -/
def tagRec (s : State) (e : TagEntry) (cause a b : Nat) : ErrRec :=
  { cause := cause, cls := 1, srcDev := s.dev, srcPort := e.origPort, srcPart := some e.srcPart, srcFunc := e.func.bind moverFunc
    reqId := e.origRid, dstDev := e.dstDev, dstPort := e.dstPort, tag := e.origTag, address := e.address
    detailA := a, detailB := b }

/-- An entry ends as at timeout (R228, R234): Completer Abort for the remaining bytes, a READ_TIMEOUT record, quarantine. -/
def timeoutTag (i detailB : Nat) (s : State) : State :=
  match tfind s.bridge.tags i with
  | none => s
  | some e =>
    if e.live then
      quarTag i (episodeRecord true e.srcPart (tagRec s e 0x0411 (e.timeout / 1024) detailB)
        (answerEntry e .ca (count1 (cPart e.srcPart 2) s)))
    else s

/-- A completion with a status other than success reaches a bridged request of this device: delivered, entry freed (R227). -/
def endTag (i : Nat) (st : CplStatus) (s : State) : State :=
  match tfind s.bridge.tags i with
  | none => s
  | some e => if e.live then freeTag i (answerEntry e st s) else s

/-- The record of a failed write (R236). -/
def trackerRec (t : Tracker) (s : State) : ErrRec :=
  { srcDev := s.dev, srcPort := t.srcPort, srcPart := some t.srcPart, reqId := t.rid, dstDev := t.dstDev
    dstPort := t.dstPort, address := t.addr }

/-- A tracker's write fails with a cause; the tracker is freed, or stays in QUARANTINE for 2 ms (R233). -/
def failTracker (i cause : Nat) (quar : Bool) (s : State) : State :=
  match tfind s.bridge.trackers i with
  | none => s
  | some t =>
    if t.live then
      let s1 : State := if quar
        then { s with bridge.trackers := tput s.bridge.trackers i { t with live := false, freeAt := s.now + quarantine } }
        else { s with bridge.trackers := tdel s.bridge.trackers i }
      writeFailure cause (trackerRec t s) t.srcPart s1
    else s

/-! Frames that end in the hub (R69, R71, R315). -/

/-- Why the hub discards a lossless frame (R315). -/
inductive Why where
  | lifetime | hop | memory | guard | size | blocked
  | port | linkDown | partition | fatal
deriving DecidableEq, Repr

/-- The write failure code of Table 7.5, which names none for a write that poison blocking stops: SIZE (DESIGN CHOICE, assumption 164). -/
def Why.writeCause : Why → Nat
  | .guard => 0x1
  | .port | .linkDown | .fatal => 0x2
  | .partition => 0x3
  | .lifetime | .hop => 0x4
  | .memory => 0x5
  | .size | .blocked => 0x6

/-- The record cause a discard writes for a non-posted request, a completion or a message (R315). -/
def Why.recCause : Why → Option Nat
  | .lifetime => some 0x0301
  | .hop => some 0x0302
  | .memory => some 0x0703
  | .guard => some 0x0502
  | _ => none

/-- The completion status a discarded non-posted request receives (R315, Table 7.8, Table 8.5). -/
def npStatus (s : State) (f : Frame) : Why → CplStatus
  | .linkDown | .blocked | .size => .ur
  | .port => if (s.port f.outPort).dpcTriggered && (s.port f.outPort).dpcUr then .ur else .ca
  | _ => .ca

/-- The partition of a mover function of any device of the domain: every device holds the whole configuration (R411). -/
def funcPartAt (s : State) (dev f : Nat) : Nat :=
  if f < 512 then rf (cfgLookup s.conf.entries dev 0x40 f 0) 30 25 else f - 512

/-- The source partition of a frame (Table 2.1): its subscriber, or the partition of the mover function that issued it, which a frame from
another device names in its work tag; one without a work tag is its target port's (assumption 151). -/
def srcPartOf (s : State) (f : Frame) : Nat :=
  if f.sub < 64 then f.sub else match f.func, f.work with
    | some g, _ => funcPart s g
    | none, some w => funcPartAt s f.srcDev w.func
    | none, none => portPart s f.dstPort

/-- An acknowledgement joins the batch of its source device and source partition, which an ACK cell names; the sixteenth sends it (R231,
R232). -/
def pushAck (f : Frame) (r : AckRec) (s : State) : State :=
  let p := srcPartOf s f
  let k := f.srcDev * 64 + p
  let b := (tfind s.bridge.acks k).getD ⟨s.now, []⟩
  let rs := b.recs ++ [r]
  if 16 ≤ rs.length then post (.ackCell f.srcDev p rs) { s with bridge.acks := tdel s.bridge.acks k }
  else { s with bridge.acks := tput s.bridge.acks k ⟨b.first, rs⟩ }

/-- A NAK goes at once. -/
def sendNak (f : Frame) (cause : Nat) (s : State) : State :=
  post (.ackCell f.srcDev (srcPartOf s f) [ackRecOf s f true cause]) s

/-- A record about a frame. -/
def frameRec (s : State) (f : Frame) (cause : Nat) : ErrRec :=
  { cause := cause, cls := 1, srcDev := f.srcDev, srcPort := f.srcPort, srcPart := some (srcPartOf s f), srcFunc := f.func.bind moverFunc
    reqId := f.issuedRid, dstDev := f.dstDev, dstPort := f.dstPort, tag := f.issuedTag, address := f.issued }

/-- A discarded non-posted request receives a completion: through its tag table entry when it is bridged. -/
def answerNp (f : Frame) (st : CplStatus) (s : State) : State :=
  match f.tagEntry with
  | some i => endTag i st s
  | none =>
    if f.srcDev = s.dev then
      match f.func with
      | some g => emit (.toEndpoint (funcPart s g)
          { kind := .completion st, targetId := f.issuedRid, rid := 0, tag := f.issuedTag, byteCount := f.tlp.len }) s
      | none => sendCpl f.srcPort f.issuedRid f.issuedTag st s
    else post (.farCpl f.srcDev (rf (portRecOf s f.dstDev f.dstPort) 61 56) f.svc f.tlp.rid f.tlp.tag st []) s

/-- A lossless posted write fails: through its tracker here, by a NAK to its source device, or directly (R231, R235, R315). -/
def failWrite (f : Frame) (cause : Nat) (s : State) : State :=
  match f.tracker with
  | some i => failTracker i cause false s
  | none => if f.srcDev = s.dev then writeFailure cause (frameRec s f 0) (srcPartOf s f) s else sendNak f cause s

/-- The cells of a test frame: 16 bytes of header and 4,096 of counting data (R515). -/
def testCells : Nat := 65

/-- The test generator of a port issues a frame for its queue 575, while its loop-back runs (R515). -/
def issueTest (port : Nat) (s : State) : State :=
  if loopRuns s 4 port then
    { s with
      hub.frames := s.hub.frames ++ [{
        fid := s.hub.nextFid, tlp := { kind := .memWrite, len := 4096, payload := 4096, frameBytes := 4112 }
        issued := 0, issuedRid := 0, issuedTag := 0, rcv := false, svc := 7, sub := 71, colour := 0, mark := false
        srcDev := s.dev, srcPort := port, dstDev := s.dev, dstPort := port, outPort := port, func := none
        att := portStation s port, origin := some port, user := false, vf := none, window := none, stamp := s.ft.count
        hops := 0, seq := 0, work := none, tagEntry := none, tracker := none, epochStaged := s.conf.epoch
        epochGuard := s.conf.epoch, place := .staged, region := .none, rxSpoke := none, slots := false, test := true }]
      hub.nextFid := s.hub.nextFid + 1 }
  else s

/-- The outcome of discarding a frame of the hub (R69, R71, R315): a notice for a recoverable frame, otherwise by stream. Each
cell of a test frame that does not return is an error (R515). -/
def discardOutcome (f : Frame) (w : Why) (s : State) : State :=
  if f.test then issueTest f.outPort (countLoop 4 f.outPort 0 testCells s)
  else if f.rcv then
    dropNotice f (match w with
      | .lifetime | .hop => 0x4
      | .memory => 0x5
      | .guard => 0x7
      | .size => 0x9
      | _ => 0x6) s
  else
    let aged := match w with
      | .lifetime | .hop => true
      | _ => false
    let s := if aged then count1 (cPair f.outPort f.svc 15) s else s
    match f.tlp.kind with
    | .memWrite => failWrite f w.writeCause s
    | .completion _ | .message _ =>
      let s := onlyIf (!aged) (countLost f.outPort) s
      match w.recCause with
      | some c => episodeRecord false (srcPartOf s f) (frameRec s f c) s
      | none => s
    | _ =>
      let s1 := answerNp f (npStatus s f w) s
      match w.recCause with
      | some c => episodeRecord (within 0x0301 0x0502 c) (srcPartOf s f) (frameRec s f c) s1
      | none => s1

/-- Discard one frame with its outcome. -/
def discard (f : Frame) (w : Why) (s : State) : State := discardOutcome f w (removeFrame f s)

/-! What a selection charges (R86), and a flush of the same tick gives back (R101). -/

/-- LEN_ADJ of a port (Table 3.6). -/
def lenAdj (s : State) (port : Nat) : Int := signed 6 (rf (s.cfg 0x33 port 0) 43 38)

/-- The charged length of a frame (R86). -/
def chargedLen (s : State) (f : Frame) : Int := (f.tlp.frameBytes : Int) + lenAdj s f.outPort

/-- The shapers that a selected frame passes: the maximum shapers on its path, and its guarantee when the guarantee pass chose it (R86). -/
def pathShapers (f : Frame) (byGuarantee : Bool) : List Nat :=
  let q := qOf f
  [shKey 0 (f.outPort * 576 + q), shKey 2 (f.outPort * 72 + q / 8), shKey 3 (f.outPort * 8 + q % 8), shKey 4 f.outPort] ++
    if byGuarantee then [shKey 1 (f.outPort * 576 + q)] else []

/-- Charge a selected frame. -/
def chargePath (f : Frame) (byGuarantee : Bool) (s : State) : State :=
  forAll (pathShapers f byGuarantee) (fun k => chargeSh k (chargedLen s f)) s

/-- A frame flushed in the tick of its selection has not been charged (R101). -/
def unselect (f : Frame) (s : State) : State :=
  match f.picked with
  | some (t, g) =>
    if f.place != .sending || t != coreTick s then s
    else
      let L := chargedLen s f
      let s1 := forAll (pathShapers f g) (fun k => refundSh k L) s
      if g then s1
      else
        let d := tmod 0 s1.sched.deficits (defQueue f.outPort (qOf f)) (· + L)
        { s1 with sched.deficits := tmod 0 d (defSvc f.outPort f.svc) (· + L) }
  | none => s

/-- Discard every frame that satisfies a condition; the removal precedes the outcomes. -/
def flushWhere (p : Frame → Bool) (w : Why) (s : State) : State :=
  forAll (s.hub.frames.filter p) (fun f s => discard f w (unselect f s)) s

/-- A frame still holds its place in the hub: staging, a bank or a queue (R71). -/
def inHub (f : Frame) : Bool := f.place != .waiting

/-- The queue averages of a port go to 0 (Table 2.11). -/
def clearAverages (p : Nat) (s : State) : State :=
  { s with hub.avg := tkeep s.hub.avg fun k _ => k / 576 != p }

/-- Frames queued at a port and frames for it in staging (Table 2.11). A frame on its way to another device is for the spoke
port it leaves through. -/
def framesFor (p : Nat) (f : Frame) : Bool := inHub f && f.outPort == p

/-- The age of a frame (R67). -/
def age (s : State) (f : Frame) : Time := s.ft.count - f.stamp

end Sys2Proof.Machine
end

