-- ==== Sys2Proof/Machine/Ingress.lean ====
section
/-! DEFINITION. Ingress: the lookup and reach check of a TLP, its colour, and the frame it becomes (R39 to R43, R212 to R220,
R239 to R241, R252 to R257). -/

namespace Sys2Proof.Machine

/-- Where a request enters: a PCIe port of this device, or a mover function of its partition. The management controller's requests for
partition p enter as the mover's do, under number 1,024 + p (R253, assumption 161). -/
inductive Entry where
  | pcie (port : Nat)
  | mover (func : Nat)
deriving DecidableEq, Repr

def Entry.part (s : State) : Entry → Nat
  | .pcie p => portPart s p
  | .mover f => funcPart s f

def Entry.port : Entry → Option Nat
  | .pcie p => some p
  | .mover _ => none

/-- The number under which the management controller issues requests for a partition. -/
def mcFunc (p : Nat) : Nat := 1024 + p

/-- The management controller's own requests. -/
def Entry.byMc : Entry → Bool
  | .pcie _ => false
  | .mover f => decide (1024 ≤ f)

/-- The port whose reach table decides (R253): the entry port, or the partition's primary upstream port. -/
def reachPort (s : State) : Entry → Option Nat
  | .pcie p => some p
  | .mover f => primaryUp s (funcPart s f)

/-- What the lookup and the reach check make of a TLP. -/
inductive Verdict where
  /-- To a port: the TLP as it travels on, its window. -/
  | go (dev port : Nat) (t : Tlp) (win : Option Nat)
  /-- To a partition's own functions: the TLP as it is delivered. -/
  | endpoint (part : Nat) (t : Tlp)
  /-- The table entry that denied (64: no match), where the request was going. -/
  | denied (entry : Nat) (dev port : Nat)
  /-- No enabled route record for the device. -/
  | noRoute (dev : Nat)
  /-- A size or form error, or no target (Table 7.8, R213). -/
  | form (dev port : Nat)
  /-- A message that may not cross, or a completion without a target: discarded and counted. -/
  | lost
  /-- A completion whose requester ID is a proxy ID of this device (R219). -/
  | matchTag
  /-- A completion whose proxy ID names no device. -/
  | late
deriving DecidableEq, Repr

/-- The bytes a request touches from its first to its last enabled byte (R265); for an AtomicOp its operand. -/
def spanOf (t : Tlp) : Nat := match t.kind with
  | .atomic => t.opSize
  | _ => t.len

/-- The form checks of a request that matches window w with record r (Table 7.8, R134). -/
def windowForm (s : State) (part : Nat) (r : Rec) (t : Tlp) (entered : Option Nat) : Bool :=
  let base := rf r 191 140 * 4096
  let inside := decide (t.addr + max (spanOf t) 1 ≤ base + 2 ^ rf r 242 237)
  let atomOk := match t.kind with
    | .atomic => (t.opSize == 4 && rb r 233) || (t.opSize == 8 && rb r 234) || (t.opSize == 16 && rb r 235)
    | _ => true
  let lockOk := match t.kind with
    | .memReadLocked => rb (s.cfg 0x12 part 0) 50 && rb (s.cfg 0x12 (rf r 248 243) 0) 50 &&
        (match entered with
          | some p => portUp s p
          | none => false)
    | _ => true
  inside && atomOk && lockOk && !t.ide && !t.pasid && !t.translated

/-- A locked read that passes no window must enter at an upstream port, and needs LOCK_EN to leave its device (Table 7.8). -/
def lockForm (s : State) (part : Nat) (t : Tlp) (entered : Option Nat) (dev : Nat) : Bool :=
  match t.kind, entered with
  | .memReadLocked, some p => portUp s p && (dev == s.dev || rb (s.cfg 0x12 part 0) 50)
  | .memReadLocked, none => false
  | _, _ => true

/-- The reach check of a request by its first byte, as issued (R253, R264). A mover function's request is its own partition's and VF's,
through a window too (R257, assumption 138). -/
def reachCheck (s : State) (e : Entry) (t : Tlp) (own : Bool) : Bool × Nat :=
  match reachPort s e with
  | none => (false, 64)
  | some p =>
    let user := match e with
      | .pcie q => !portUp s q
      | .mover _ => !e.byMc
    let vf := match e with
      | .mover f => if f < 512 then some f else none
      | .pcie _ => none
    decideAt s p 0 t.addr
      { needR := needsR t.kind, needW := needsW t.kind, user := user, srcPart := some (e.part s), vf := vf
        debug := false, own := own }

/-- The target of a routed request becomes a verdict; another device needs an enabled route record (R205). -/
def toPort (s : State) (dev port : Nat) (t : Tlp) (w : Option Nat) : Verdict :=
  if dev != s.dev && !routeEn s dev then .noRoute dev else .go dev port t w

/-! Access control services of the downstream port a TLP enters at (Table 5.1, R141). -/

/-- The egress control vector of a port blocks a peer, by its device number. -/
def egressBlocked (s : State) (p d q : Nat) : Bool := bit (s.port p).acsVec (rf (portRecOf s d q) 41 37)

/-- Requests that peers may exchange. -/
def peerRequest (k : TlpKind) : Bool := checked k || k == .ioRead || k == .ioWrite

/-- Where a TLP goes once request and completion redirect have acted: a peer's target, or up. -/
def acsTarget (s : State) (e : Entry) (t : Tlp) (x : Target) : Target :=
  match e, x with
  | .pcie p, .port d q =>
    let c := (s.port p).acs
    let up := upRoute s (portPart s p) (some p)
    if portUp s p || isUpstreamAt s d q then x
    else if streamOf t.kind == 2 then (if bit c 3 && !t.relaxed then up else x)
    else if peerRequest t.kind && bit c 2 && !(bit c 6 && t.translated) && (!bit c 5 || egressBlocked s p d q) then up
    else x
  | _, _ => x

/-- Egress control without redirect blocks a peer's request that passes no window. -/
def egressDenied (s : State) (p : Nat) (t : Tlp) : Bool :=
  let c := (s.port p).acs
  bit c 5 && !bit c 2 && peerRequest t.kind && !(bit c 6 && t.translated) && (windowMatch s (portPart s p) t.addr).isNone &&
    match routeMem s (portPart s p) (some p) t.addr with
    | .port d q => !isUpstreamAt s d q && egressBlocked s p d q
    | _ => false

/-- An ACS violation at a downstream port: a requester outside its buses, a translated request while these are blocked, or a peer that
egress control blocks. -/
def acsViolates (s : State) (p : Nat) (t : Tlp) : Bool :=
  let q := s.port p
  !portUp s p && streamOf t.kind != 2 &&
    ((bit q.acs 0 && !within q.sec q.subBus (t.rid / 256)) || (bit q.acs 1 && checked t.kind && t.translated) || egressDenied s p t)

/-- A request from below to the range of the bridge it entered at, without upstream forwarding. -/
def turnsBack (s : State) (e : Entry) (t : Tlp) : Bool :=
  match e with
  | .pcie p => !portUp s p && !bit (s.port p).acs 4 && bridgeHolds (s.port p) t.addr
  | .mover _ => false

/-- Lookup and reach check of a memory request (R215 to R218, R253, R256); the management controller's match no window (R215). One that
routes nowhere fails with FORM at port 0 of this device (R235, assumption 137). -/
def lookupMem (s : State) (e : Entry) (t : Tlp) : Verdict :=
  let part := e.part s
  match if e.byMc then none else windowMatch s part t.addr with
  | some w =>
    let r := s.cfg 0x18 w 0
    let q := rf r 248 243
    let a' := rf r 127 76 * 4096 + (t.addr - rf r 191 140 * 4096)
    let t' := { t with addr := a', rid := proxyId s q }
    let dst := routeMem s q none a'
    let (d, p) := match dst with
      | .port d p => (d, p)
      | _ => (s.dev, 0)
    match reachCheck s e t false with
    | (false, i) => .denied i d p
    | (true, _) =>
      if !windowForm s part r t e.port then .form d p
      else match dst with
        | .port d p => toPort s d p t' (some w)
        | .endpoint => .denied 64 d p
        | .none => .form d p
  | none =>
    let up := match e with
      | .pcie p => portUp s p
      | .mover _ => false
    if turnsBack s e t then .form s.dev 0
    else match acsTarget s e t (routeMem s part e.port t.addr) with
    | .endpoint => if up then .endpoint part t else .denied 64 s.dev 0
    | .none => .form s.dev 0
    | .port d p =>
      match reachCheck s e t (rf (portRecOf s d p) 61 56 == part && rb (portRecOf s d p) 63) with
      | (false, i) => .denied i d p
      | (true, _) => if lockForm s part t e.port d then toPort s d p t none else .form d p

/-- Where a message goes (Table 7.7): to the root, down by ID, or it stays local. Vendor-defined messages by ID pass a
window that allows their target ID (R240); one of a selective IDE stream passes none: it fails with a deferred notice (R134). -/
def lookupMsg (s : State) (e : Entry) (t : Tlp) (m : MsgKind) : Verdict :=
  let part := e.part s
  let goTo (q : Nat) (x : Target) (t : Tlp) (w : Option Nat) : Verdict := match x with
    | .port d p => toPort s d p t w
    | .endpoint => .endpoint q t
    | .none => .lost
  match m with
  | .ptmRequest | .ptmResponse | .ptmResponseD _ _ | .setSlotPowerLimit _ _ => .lost
  | .vdmById =>
    let win := (s.mine 0x18).find? fun w => rb w.data 255 && rb w.data 236 && rf w.data 254 249 == part &&
      rf w.data 63 48 == t.targetId
    match win with
    | some w =>
      let q := rf w.data 248 243
      let t' := { t with targetId := rf w.data 47 32, rid := proxyId s q }
      if t.ide then .form s.dev 0 else goTo q (routeId s q none t'.targetId) t' (some w.a)
    | none => goTo part (routeId s part e.port t.targetId) t none
  | _ => goTo part (upRoute s part e.port) t none

/-- Lookup of a completion (R219): a proxy requester ID names its device, any other routes in the partition. -/
def lookupCpl (s : State) (e : Entry) (t : Tlp) : Verdict :=
  let part := e.part s
  let proxy := rf (s.cfg 0x12 part 0) 63 56
  if proxy != 0 && t.targetId / 256 == proxy then
    let d := t.targetId % 256
    if 64 ≤ d then .late else if d = s.dev then .matchTag else if routeEn s d then .go d 0 t none else .lost
  else match acsTarget s e t (routeId s part e.port t.targetId) with
    | .endpoint => .endpoint part t
    | .none => .lost
    | .port d p => if d != s.dev && !routeEn s d then .lost else .go d p t none

/-- Below a bridge here, only device 0 of its secondary bus exists while ARI Forwarding is off (Table 5.1). -/
def ariBlocked (s : State) (d p : Nat) (t : Tlp) : Bool :=
  d == s.dev && !(s.port p).ari && t.targetId / 256 == (s.port p).sec && t.targetId / 8 % 32 != 0

/-- Steps 2 and 3 of R39. -/
def lookup (s : State) (e : Entry) (t : Tlp) : Verdict :=
  match t.kind with
  | .memRead | .memReadLocked | .memWrite | .atomic => lookupMem s e t
  | .completion _ => lookupCpl s e t
  | .message m => lookupMsg s e t m
  | .ioRead | .ioWrite =>
    match acsTarget s e t (routeIo s (e.part s) e.port t.addr) with
    | .port d p => if d = s.dev then .go d p t none else .form s.dev 0
    | _ => .form s.dev 0
  | .cfgRead | .cfgWrite =>
    let fromHost := match e with
      | .pcie p => portUp s p
      | .mover _ => false
    if !fromHost then .form s.dev 0 else
    match routeId s (e.part s) e.port t.targetId with
    | .port d p => if ariBlocked s d p t then .form d p else toPort s d p t none
    | .endpoint => .endpoint (e.part s) t
    | .none => .form s.dev 0

/-- Bytes of a marker bucket's fill (R42). -/
def markerBucket (s : State) (rate burst last cur : Nat) : Nat := min (64 * creditUnit * burst) (cur + rate * (s.now - last))

/-- The two-rate three-colour marker of RFC 2698 (R42): colour-aware with a pre-colour, colour-blind without; a new marker's
buckets are full. Colours: 0 green, 1 yellow, 2 red. -/
def colourOf (att sub B : Nat) (pre : Option Nat) (s : State) : Nat × State :=
  let r := s.cfg 0x3C att sub
  let cir := rf r 107 88
  if cir = 0 then (pre.getD 0, s)
  else
    let k := att * 72 + sub
    let m := (tfind s.hub.markers k).getD ⟨64 * creditUnit * rf r 15 0, 64 * creditUnit * rf r 31 16, s.now⟩
    let tc := markerBucket s cir (rf r 15 0) m.last m.tc
    let tp := markerBucket s (rf r 127 108) (rf r 31 16) m.last m.tp
    let b := B * creditUnit
    let c := if pre == some 2 || decide (tp < b) then 2 else if pre == some 1 || decide (tc < b) then 1 else 0
    let m' : Marker := match c with
      | 2 => ⟨tc, tp, s.now⟩
      | 1 => ⟨tc, tp - b, s.now⟩
      | _ => ⟨tc - b, tp - b, s.now⟩
    (c, { s with hub.markers := tput s.hub.markers k m' })

/-- DST_PORT in a frame's cells: 0 for a completion (Table 6.3). -/
def cellPort (f : Frame) : Nat := if streamOf f.tlp.kind == 2 then 0 else f.dstPort

/-- The bucket through which a frame leaves for another device (R206). -/
def frameBucket (f : Frame) : Nat := bucketOf f.srcDev f.srcPort f.dstDev (cellPort f) f.svc

/-- The egress port of a frame here: its destination port, or that of its bucket's spoke (R206). -/
def frameOut (s : State) (f : Frame) : Nat :=
  if f.dstDev = s.dev then f.dstPort
  else match (s.bucket f.dstDev (frameBucket f)).spoke with
    | some k => spokePort s k
    | none => 0

/-- A frame waits at its link. -/
def addWaiting (f : Frame) (s : State) : State :=
  { s with hub.frames := s.hub.frames ++ [{ f with fid := s.hub.nextFid }], hub.nextFid := s.hub.nextFid + 1 }

/-- A frame that waits at its link with its lookup done: steps 1 to 4 of R39. A frame from a spoke is metered with its header's colour
(R42). -/
def newFrame (f : Frame) (s : State) : State :=
  let (c, s1) := colourOf f.att f.sub f.tlp.frameBytes (if f.rxSpoke.isSome then some f.colour else none) s
  let s2 := countBytes (cSub f.att f.sub (min c 2)) f.tlp.frameBytes s1
  addWaiting { f with colour := c, epochStaged := s2.conf.epoch, outPort := frameOut s2 f } s2

/-- The frame a TLP becomes where it first enters the fabric. -/
def freshFrame (s : State) (t : Tlp) (orig : Tlp) (att sub svc srcPort : Nat) (dev port : Nat) (win : Option Nat) : Frame :=
  { fid := 0, tlp := t, issued := orig.addr, issuedRid := orig.rid, issuedTag := orig.tag, rcv := false, svc := svc
    sub := sub, colour := 0, mark := false, srcDev := s.dev, srcPort := srcPort, dstDev := dev, dstPort := port, outPort := 0
    func := none, att := att, origin := some srcPort, user := false, vf := none, window := win, stamp := 0, hops := 0, seq := 0
    work := none, tagEntry := none, tracker := none, epochStaged := 0, epochGuard := 0, place := .waiting, region := .none
    rxSpoke := none, issuedTarget := orig.targetId }

/-- The record of a request that is refused at ingress. -/
def ingressRec (s : State) (e : Entry) (t : Tlp) (cause dev port : Nat) : ErrRec :=
  { cause := cause, cls := 1, srcDev := s.dev, srcPort := e.port.getD 0, srcPart := some (e.part s)
    srcFunc := match e with
      | .mover f => moverFunc f
      | .pcie _ => none
    reqId := t.rid, dstDev := dev, dstPort := port, tag := t.tag, address := t.addr }

/-- A completion for a request refused at ingress: to the requester at its port, or to the mover function. -/
def refuseNp (e : Entry) (t : Tlp) (st : CplStatus) (s : State) : State :=
  match e with
  | .pcie p => sendCpl p t.rid t.tag st s
  | .mover f => emit (.toEndpoint (funcPart s f) { kind := .completion st, targetId := t.rid, tag := t.tag, byteCount := t.len }) s

/-- A reach denial is counted at the port whose table decided it. -/
def countDenial (e : Entry) (entry : Nat) (s : State) : State := countDeny (reachPort s e) entry s

/-- A reach denial (Table 8.5): counted, recorded, answered; a posted write fails with REACH_DENIED (R267). -/
def reachDenied (e : Entry) (t : Tlp) (entry dev port : Nat) (s : State) : State :=
  let s1 := countDenial e entry s
  if isNp t.kind then
    refuseNp e t .ca (episodeRecord true (e.part s) (ingressRec s e t 0x0501 dev port) s1)
  else match t.kind with
    | .memWrite => writeFailure 0xA (ingressRec s e t 0 dev port) (e.part s) s1
    | _ => s1

/-- A form error (Table 7.8): Unsupported Request, or the write fails with FORM. -/
def formError (e : Entry) (t : Tlp) (dev port : Nat) (s : State) : State :=
  if isNp t.kind then refuseNp e t .ur s
  else match t.kind with
    | .memWrite | .message .vdmById => writeFailure 0x7 (ingressRec s e t 0 dev port) (e.part s) s
    | _ => s

/-- A read lost for want of any spoke of its route (R207, R234): Completer Abort and a READ_TIMEOUT record. -/
def lostRead (e : Entry) (t : Tlp) (dev port : Nat) (s : State) : State :=
  let tmo := 64 * us * 2 ^ rf (s.cfg 0x12 (e.part s) 0) 55 52
  let r := { ingressRec s e t 0x0411 dev port with detailA := tmo / 1024, detailB := 0x9 }
  refuseNp e t .ca (episodeRecord true (e.part s) r s)

/-- No spoke of the route is up (R207). -/
def pathLost (e : Entry) (t : Tlp) (dev port : Nat) (s : State) : State :=
  if isNp t.kind then lostRead e t dev port s
  else match t.kind with
    | .memWrite => writeFailure 0x9 (ingressRec s e t 0 dev port) (e.part s) s
    | _ => countLost (e.port.getD 0) s

/-- A local target port that takes no frame: contained, or its link down (R163, R317). -/
def portClosed (s : State) (p : Nat) : Option Why :=
  let q := s.port p
  if (portSpoke s p).isSome then none
  else if q.contained || q.dpcTriggered then some .port
  else if !portUp s p && !q.up then some (if q.dpcEnable then .port else .linkDown)
  else if (s.part (portPart s p)).inReset then some .partition
  else none

/-- The log entry and counting of a completion that matches no LIVE entry (R227); its age when a quarantined entry has its
key. -/
def lateCompletion (sub rid tag : Nat) (issued : Option Nat) (s : State) : State :=
  let a := match issued with
    | some t => (s.ft.count - t) / 1024
    | none => 0
  episodeRecord true sub
    { cause := 0x0412, cls := 1, srcDev := s.dev, srcPart := some sub, reqId := rid, tag := tag, detailA := a }
    (count1 (cPart sub 0) s)

/-- A completion is matched by subscriber, requester ID and tag (R227, R228). Matched, it is delivered toward the original
requester with its own ID and tag; the entry is freed with the last byte or on another status than success. -/
def matchCompletion (f : Frame) (s : State) : State :=
  let key (e : TagEntry) : Bool := e.asPart == f.sub && e.asRid == f.tlp.targetId && e.wireTag == f.tlp.tag
  match s.bridge.tags.find? fun x => x.2.live && key x.2 with
  | none =>
    let old := (s.bridge.tags.find? fun x => !x.2.live && key x.2).map fun x => x.2.issuedFt
    lateCompletion f.sub f.tlp.targetId f.tlp.tag old s
  | some (i, e) =>
    let t := { f.tlp with targetId := e.origRid, tag := e.origTag }
    if e.func.isNone && decide ((s.port e.origPort).mps < f.tlp.payload) then
      -- longer than the requester's port carries (Table 7.8): Completer Abort for the rest, quarantine as at timeout
      quarTag i (answerEntry e .ca (episodeRecord true e.srcPart
        { tagRec s e 0x0414 f.tlp.payload (s.port e.origPort).mps with srcPart := some e.srcPart }
        (count1 (cPort e.origPort 29) s)))
    else
    let sc := match f.tlp.kind with
      | .completion .sc => true
      | _ => false
    let s1 := if !sc || e.remaining ≤ f.tlp.payload then freeTag i s
      else { s with bridge.tags := tput s.bridge.tags i { e with remaining := e.remaining - f.tlp.payload } }
    newFrame { f with
      tlp := t, dstDev := s.dev, dstPort := e.origPort, tagEntry := some i, issuedRid := e.origRid, issuedTag := e.origTag
      ends := e.func.map fun _ => .functions e.srcPart } s1

/-- The answer to a request of a device in C4, and to a TLP while a port is closed to traffic (R319). -/
def c4Answer (p : Nat) (t : Tlp) (s : State) : State :=
  if isNp t.kind && portUp s p then sendCpl p t.rid t.tag .ur s else s

/-- A verdict takes effect: the frame that a TLP becomes, or its refusal. The management endpoint's functions complete no AtomicOps and no
locked reads (Table 5.1). A fence comes before the loss of a route (assumption 120). -/
def applyVerdict (e : Entry) (t : Tlp) (mk : Tlp → Nat → Nat → Option Nat → Frame) (v : Verdict) (s : State) : State :=
  match v with
  | .endpoint p t' => match t.kind with
    | .atomic | .memReadLocked => refuseNp e t .ur s
    | _ => newFrame { mk t' s.dev 0 none with ends := some (.functions p) } s
  | .denied i d p => reachDenied e t i d p s
  | .noRoute d => reachDenied e t 64 d 0 s
  | .form d p => formError e t d p s
  | .lost => countLost (e.port.getD 0) s
  | .late => lateCompletion (e.part s) t.targetId t.tag none s
  | .matchTag => matchCompletion (mk t s.dev 0 none) s
  | .go d p t' w =>
    let f := mk t' d p w
    let write := match t.kind with
      | .memWrite => !f.rcv
      | _ => false
    if write && fenced s (e.part s) d p then fencedDiscard (e.part s) d p s
    else if d ≠ s.dev ∧ routeDead s d then
      if f.rcv then dropNotice f 0x8 s else pathLost e t d p s
    else if d = s.dev then
      match portClosed s p with
      | some why => discardOutcome { f with outPort := p } why s
      | none => newFrame f s
    else newFrame f s

/-- The window that matches a TLP of a PCIe port, whatever becomes of it (Table 18.1). -/
def windowHit (s : State) (p : Nat) (t : Tlp) : Bool :=
  let part := portPart s p
  match t.kind with
  | .message .vdmById => (s.mine 0x18).any fun w => rb w.data 255 && rb w.data 236 && rf w.data 254 249 == part &&
      rf w.data 63 48 == t.targetId
  | k => checked k && (windowMatch s part t.addr).isSome

/-- A TLP enters at a PCIe port: steps 1 to 4 of R39. -/
def admitTlp (p : Nat) (t : Tlp) (s : State) : State :=
  let s := onlyIf (windowHit s p t) (count1 (cPort p 24)) s
  applyVerdict (.pcie p) t
    (fun t' d q w => freshFrame s t' t (portStation s p) (portPart s p) (svcOf s p t.tc) p d q w) (lookup s (.pcie p) t) s

/-- Something of a TLP waits in the receive buffer, from frame number n on. -/
def holdsRoom (s : State) (n : Nat) : Bool := s.hub.frames.any fun f => decide (n ≤ f.fid) && f.place == .waiting && f.slots

/-- The credits of a TLP return at once when nothing of it waits in the receive buffer, from frame number n on (R26). -/
def creditBack (p : Nat) (t : Tlp) (n : Nat) (s : State) : State :=
  if holdsRoom s n then s else emit (.pcieCredit p (streamOf t.kind) (ceilDiv t.payload 16)) s

/-- A frame of a stream of a PCIe port waits at its link: later TLPs of the stream wait behind it (R41). -/
def streamWaits (s : State) (p stream : Nat) : Bool :=
  s.hub.frames.any fun f => f.place == .waiting && f.rxSpoke.isNone && f.func.isNone && f.srcDev == s.dev && f.srcPort == p &&
    streamOf f.tlp.kind == stream

/-- A TLP waits at its link for its turn (R41). -/
def awaitTurn (p : Nat) (t : Tlp) (s : State) : State :=
  addWaiting { freshFrame s t t (portStation s p) (portPart s p) (svcOf s p t.tc) p s.dev p none with ends := some .turn } s

/-- What a TLP does at a port takes effect at once, unless it leaves nothing waiting and must not overtake an earlier TLP of its stream
(R41), or the tables stand still (R313): it then waits for its turn. -/
def inTurn (p : Nat) (t : Tlp) (act : State → State) (s : State) : State :=
  let s' := act s
  if s.hub.stalled || streamWaits s p (streamOf t.kind) && !holdsRoom s' s.hub.nextFid then awaitTurn p t s
  else creditBack p t s.hub.nextFid s'

/-- A TLP is taken from its link: refused at once, or waiting there. -/
def received (p : Nat) (t : Tlp) (s : State) : State := inTurn p t (admitTlp p t) s

/-- The lane and the service of a mover function's frames (R278). -/
def funcLane (s : State) (f : Nat) : Nat :=
  if f < 512 then rf (s.cfg 0x40 f 0) 24 22 else rf (s.cfg 0x10 (f - 512) 0) 17 15
def classSvc (s : State) (cls : Nat) : Nat := rf (s.cfg 0x43 0 0) (3 * (cls % 4) + 2) (3 * (cls % 4))

/-- A mover function issues a frame (R278, R297): lossless without a work tag, recoverable with one. -/
def issueMover (f : Nat) (t : Tlp) (cls : Nat) (work : Option WorkTag) (s : State) : State :=
  let t := { t with rid := funcRid s f }
  applyVerdict (.mover f) t
    (fun t' d q w => { freshFrame s t' t 20 (64 + funcLane s f) (classSvc s cls) 0 d q w with
      func := some f, work := work, rcv := work.isSome, vf := if f < 512 then some f else none, origin := none })
    (lookup s (.mover f) t) s

/-- The management controller issues a lossless request for a partition (R253, R257): with the identity of function 0, in the subscriber of
the partition and the service of its primary upstream port. -/
def issueMc (p : Nat) (t : Tlp) (s : State) : State :=
  let u := (primaryUp s p).getD 0
  let t := { t with rid := funcRid s (mcFunc p) }
  applyVerdict (.mover (mcFunc p)) t
    (fun t' d q w => { freshFrame s t' t 20 p (svcOf s u 0) u d q w with func := some (mcFunc p), slots := false, origin := none })
    (lookup s (.mover (mcFunc p)) t) s

/-- A request of the management controller is refused where it enters. -/
def mcRefused (s : State) (p : Nat) (t : Tlp) : Bool :=
  match lookup s (.mover (mcFunc p)) { t with rid := funcRid s (mcFunc p) } with
  | .go .. => false
  | _ => true

/-! INTx virtual wires (R140, R150). -/

/-- A message of this device's port for a port of another device, tunnelled in the partition as its bridge sends it; without an enabled
route it is discarded and counted (R205, R207). -/
def tunnel (p dev port : Nat) (m : MsgKind) (s : State) : State :=
  let t : Tlp := { kind := .message m }
  if routeEn s dev then
    newFrame { freshFrame s t t (portStation s p) (portPart s p) (svcOf s p 0) p dev port none with slots := false, fixed := true } s
  else countLost p s

/-- An INTx virtual wire of a downstream bridge, or its own interrupt (4), is asserted or deasserted: the wires of its upstream port
collapse again, on this device or, for a bridge of a partition at home elsewhere, by a tunnelled message to that device when its pin
changes. -/
def wireMessage (p wire : Nat) (on : Bool) (s : State) : State :=
  if !portEn s p || portUp s p then s
  else
    let part := portPart s p
    let pin := wire % 4
    let s1 := modAux p (fun a => { a with wires := putBit a.wires wire on }) s
    let level := pinOn (s1.aux p).wires pin
    match upstreamPort s part (portVsw s p) with
    | some (d, u) =>
      if d = s.dev then collapse u s1
      else if level == pinOn (s.aux p).wires pin then s1
      else tunnel p d u (if level then .assertIntx pin else .deassertIntx pin) s1
    | none => s1

/-- A downstream bridge has an interrupt of its own: DPC, or an enabled hot-plug event (Table 5.1, R150). -/
def bridgeInt (s : State) (p : Nat) : Bool :=
  let q := s.port p
  let a := s.aux p
  !q.intOff && ((q.dpcTriggered && q.dpcInt) || (portHp s p && bit q.slotInt 5 &&
    ((a.powerFault && bit q.slotInt 1) || (a.presenceChanged && bit q.slotInt 3) || (a.cmdDone && bit q.slotInt 4) ||
      (a.dllChanged && bit q.slotInt 12))))

/-- Bring the interrupt of a bridge up to date. -/
def settleInt (p : Nat) (s : State) : State :=
  if bridgeInt s p == bit (s.aux p).wires 4 then s else wireMessage p 4 (bridgeInt s p) s

/-- The hot-plug events that a port's status shows. -/
def slotEvents (a : PortAux) : Nat := b2n a.cmdDone + b2n a.powerFault + b2n a.presenceChanged + b2n a.dllChanged

/-- Slot and link status of a port changes, and its interrupt with it; a hot-plug port counts its new events (Table 18.1). -/
def noteStatus (p : Nat) (f : PortAux → PortAux) (s : State) : State :=
  let s1 := modAux p f s
  settleInt p (onlyIf (portHp s p) (countBy (cPort p 21) (slotEvents (s1.aux p) - slotEvents (s.aux p))) s1)

/-! Error messages of a port's bridge, and PTM (Table 5.1). -/

/-- A message of a port's bridge to the root of its partition. -/
def bridgeSends (p : Nat) (m : MsgKind) (s : State) : State :=
  if portUp s p then sendMsg p m s
  else match upstreamPort s (portPart s p) (portVsw s p) with
    | some (d, u) => if d = s.dev then sendMsg u m s else tunnel p d u m s
    | none => s

/-- A PTM request from below: answered with the host's time when the upstream port here has obtained it, otherwise without, and the
upstream port asks its host (assumption 132). -/
def ptmAnswer (p : Nat) (s : State) : State :=
  if portUp s p || !(s.port p).ptm then countLost p s
  else match upstreamPort s (portPart s p) (portVsw s p) with
    | some (d, u) =>
      if d != s.dev then emit (.message p .ptmResponse) s
      else match (s.aux u).ptmTime with
        | some (t, at') => emit (.message p (.ptmResponseD (t + (s.now - at') / 1024) 0)) s
        | none =>
          let s1 := emit (.message p .ptmResponse) s
          if (s.aux u).ptmAsked.isSome || !(s.port u).up || !(s.port u).ptm then s1
          else sendMsg u .ptmRequest (modAux u (fun a => { a with ptmAsked := some s.now }) s1)
    | none => s

/-- The host's answer at an upstream port: its time, half the link's round trip later. -/
def ptmLearn (u : Nat) (answer : Option (Nat × Nat)) (s : State) : State :=
  match (s.aux u).ptmAsked, portUp s u with
  | some t1, true => modAux u (fun a => { a with
      ptmAsked := none
      ptmTime := match answer with
        | some (t, d) => some (t + d + ((s.now - t1) / 1024 - d) / 2, s.now)
        | none => a.ptmTime }) s
  | _, _ => countLost u s

/-- A tunnelled INTx message reaches the partition's home device: the wire of the remote bridge that sent it. -/
def remoteWire (f : Frame) (pin : Nat) (on : Bool) (s : State) : State :=
  let part := portPart s f.dstPort
  match (List.range 31).find? fun i =>
      let e := s.cfg 0x11 part i
      rb e 31 && rf e 30 25 == f.srcDev && rf e 24 18 == f.srcPort with
  | some i => collapse f.dstPort { s with
      pcie.remWires := tmod 0 s.pcie.remWires (part * 31 + i) fun w => putBit w pin on }
  | none => s

/-! PME_Turn_Off and PME_TO_Ack (Table 5.1, L2/L3 Ready). -/

/-- A downstream port of an upstream port's virtual switch has acknowledged; the last one sends PME_TO_Ack to the host. -/
def ackTurnOff (u key : Nat) (s : State) : State :=
  let part := portPart s u
  let v := portVsw s u
  let w := (s.part part).pmeWait
  if w.contains (v, key) then
    let w' := w.filter (· != (v, key))
    let s1 := modPart part (fun q => { q with pmeWait := w' }) s
    if w'.any fun x => x.1 == v then s1 else sendMsg u .pmeToAck s1
  else s

/-- PME_TO_Ack arrives at a downstream port. -/
def pmeAck (p : Nat) (s : State) : State :=
  if !portEn s p || portUp s p then s
  else match upstreamPort s (portPart s p) (portVsw s p) with
    | some (d, u) => if d = s.dev then ackTurnOff u p s else tunnel p d u .pmeToAck s
    | none => s

/-- PME_Turn_Off arrives at an upstream port: it goes to every downstream link that is up and to every remote bridge of the
virtual switch; with none to wait for, the acknowledgement leaves at once. -/
def pmeOff (u : Nat) (s : State) : State :=
  if !portEn s u || !portUp s u then s
  else
    let part := portPart s u
    let v := portVsw s u
    let here := (vswDown s part v).filter fun q => (s.port q).up
    let away := ((List.range 31).map fun i => s.cfg 0x11 part i).filter fun e => rb e 31 && rf e 12 11 == v
    let keys := here.map (fun q => (v, q)) ++ away.map fun e => (v, 128 * (rf e 30 25 + 1) + rf e 24 18)
    let s1 := modPart part (fun q => { q with pmeWait := q.pmeWait.filter (fun x => x.1 != v) ++ keys }) s
    if keys.isEmpty then sendMsg u .pmeToAck s1
    else forAll away (fun e => tunnel u (rf e 30 25) (rf e 24 18) .pmeTurnOff) (forAll here (fun q => sendMsg q .pmeTurnOff) s1)

/-- Every wire that a bridge contributes is deasserted (R151). -/
def dropWires (p : Nat) (s : State) : State :=
  forAll (onesBelow (s.aux p).wires 5) (fun x => wireMessage p x false) s

end Sys2Proof.Machine
end

