-- ==== Sys2Proof/Machine/Locks.lean ====
section
/-! DEFINITION. Locked sequences and port semaphores (R244 to R249). -/

namespace Sys2Proof.Machine

/-- A request of a semaphore: stamp, ingress device, ingress port. -/
abbrev LockReq := Nat × Nat × Nat

/-- a is older than b: smaller stamp, then lower device, then lower port (R247). -/
def older (a b : LockReq) : Bool :=
  decide (a.1 < b.1) || (a.1 == b.1 && (decide (a.2.1 < b.2.1) || (a.2.1 == b.2.1 && decide (a.2.2 < b.2.2))))

/-- Put a request into a queue ordered oldest first. -/
def enqueueLock : List LockReq → LockReq → List LockReq
  | [], q => [q]
  | w :: r, q => if older q w then q :: w :: r else w :: enqueueLock r q

def State.sem (s : State) (p : Nat) : Sem := tget {} s.bridge.sems p
def putSem (p : Nat) (m : Sem) (s : State) : State := { s with bridge.sems := tset {} s.bridge.sems p m }

/-- A sequence of an ingress port of this device. -/
def seqAt (s : State) (port : Nat) (q : LockSeq) : Bool := q.dev == s.dev && q.port == port
/-- The locked sequence of an ingress port of this device: the oldest, behind which later ones may wait (R244). -/
def findSeq (s : State) (port : Nat) : Option LockSeq := s.bridge.seqs.find? (seqAt s port)
/-- The newest one: an MRdLk belongs to it until its Unlock has come. -/
def lastSeq (s : State) (port : Nat) : Option LockSeq := (s.bridge.seqs.filter (seqAt s port)).getLast?

/-- Change a sequence, which its stamp and port name. -/
def modSeq (q : LockSeq) (f : LockSeq → LockSeq) (s : State) : State :=
  { s with bridge.seqs := s.bridge.seqs.map fun x => if x.dev == q.dev && x.port == q.port && x.stamp == q.stamp then f x else x }

/-- A sequence that holds both semaphores is LOCKED; that of a target port here is marked so, and holds others back (R245 to R247). -/
def lockIfHeld (q : LockSeq) (s : State) : State :=
  if q.heldIngress && q.heldTarget then
    let s1 := modSeq q (fun q => { q with locked := true }) s
    if q.targetDev = s.dev then putSem q.targetPort { s1.sem q.targetPort with locked := true } s1 else s1
  else s

/-- A grant reaches the owner's ingress device: on_grant of R247. It is the oldest sequence's that lacks the semaphore. -/
def granted (port targetDev targetPort : Nat) (s : State) : State :=
  let ingress := targetDev == s.dev && targetPort == port
  match s.bridge.seqs.find? fun q => seqAt s port q &&
      if ingress then !q.heldIngress else !q.heldTarget && q.targetDev == targetDev && q.targetPort == targetPort with
  | none => s
  | some q =>
    let q' := if ingress then { q with heldIngress := true } else { q with heldTarget := true }
    lockIfHeld q' (modSeq q (fun _ => q') s)

/-- Grant the semaphore of a port of this device to a request. -/
def grantSem (p : Nat) (r : LockReq) (s : State) : State :=
  let s1 := count1 (cPort p 22) (putSem p { s.sem p with owner := some r, locked := false } s)
  if r.2.1 = s.dev then granted r.2.2 s.dev p s1 else post (.mgmt r.2.1 0x0311 [r.2.1, r.2.2, p]) s1

/-- A semaphore is free: it goes to its oldest waiter (R247). -/
def passSem (p : Nat) (s : State) : State :=
  match (s.sem p).waiters with
  | [] => putSem p {} s
  | w :: r => grantSem p w (putSem p { owner := none, waiters := r, locked := false } s)

/-- A sequence of an ingress port releases a semaphore that it owns, or takes back its request for it. -/
def releaseSem (p dev port : Nat) (s : State) : State :=
  let m := s.sem p
  let own (o : LockReq) : Bool := o.2.1 == dev && o.2.2 == port
  if m.owner.any own then passSem p s else putSem p { m with waiters := m.waiters.filter fun w => !own w } s

/-- One request is taken back: the semaphore is released when it is the owner's (R248). -/
def dropReq (p : Nat) (r : LockReq) (s : State) : State :=
  let m := s.sem p
  if m.owner = some r then passSem p s else putSem p { m with waiters := m.waiters.filter (· != r) } s

/-- Release what a device owns or asks for at the semaphores here (R248). -/
def releaseDevice (dev : Nat) (s : State) : State :=
  forAll s.bridge.sems (fun e s =>
    forAll ((e.2.waiters ++ e.2.owner.toList).filter fun o => o.2.1 == dev) (fun o s => releaseSem e.1 o.2.1 o.2.2 s) s) s

/-- Join a semaphore: granted when free, otherwise queued. -/
def joinSem (p : Nat) (r : LockReq) (s : State) : State :=
  let m := s.sem p
  match m.owner with
  | none => grantSem p r s
  | some _ => putSem p { m with waiters := enqueueLock m.waiters r } s

/-- Ask for the target's semaphore: here, or with LOCK_REQ at the target's device (R245). -/
def askTarget (q : LockSeq) (ask : Nat → LockReq → State → State) (s : State) : State :=
  if q.targetDev = s.dev then ask q.targetPort (q.stamp, q.dev, q.port) s
  else post (.mgmt q.targetDev 0x0310 [q.stamp, q.dev, q.port, q.targetPort]) s

/-- Release the target's semaphore: here, or with LOCK_RELEASE (R248). -/
def releaseTarget (q : LockSeq) (s : State) : State :=
  if q.targetDev = s.dev then dropReq q.targetPort (q.stamp, q.dev, q.port) s
  else post (.mgmt q.targetDev 0x0313 [q.dev, q.port, q.targetPort]) s

/-- on_yield of R247: ignored when LOCKED; otherwise everything held is released and requested again with the original stamp. -/
def yieldWith (ask : Nat → LockReq → State → State) (port : Nat) (s : State) : State :=
  match findSeq s port with
  | none => s
  | some q =>
    if q.locked then s
    else
      let me := (q.stamp, q.dev, port)
      let s := count1 (cPort port 23) (count1 (cPart q.part 17) s)
      let s1 := onlyIf q.heldIngress (dropReq port me) s
      let s2 := onlyIf q.heldTarget (releaseTarget q) s1
      let s3 := modSeq q (fun q => { q with heldIngress := false, heldTarget := false }) s2
      let s4 := onlyIf q.heldIngress (ask port me) s3
      onlyIf q.heldTarget (askTarget q ask) s4

/-- on_request of R247: a request older than the owner sends LOCK_YIELD to the owner's ingress device. Each yield passes a semaphore to an
older sequence, so that the depth of yields is bounded by the ports. -/
def requestWithin : Nat → Nat → LockReq → State → State
  | 0, p, r, s => joinSem p r s
  | n + 1, p, r, s =>
    let s1 := joinSem p r s
    match (s.sem p).owner with
    | none => s1
    | some o =>
      if older r o then
        if o.2.1 = s.dev then yieldWith (requestWithin n) o.2.2 s1
        else post (.mgmt o.2.1 0x0312 [o.2.1, o.2.2]) (count1 (cPart (portPart s p) 16) s1)
      else s1

def requestSem (p : Nat) (r : LockReq) (s : State) : State := requestWithin 128 p r s

def yieldSeq (port : Nat) (s : State) : State := yieldWith requestSem port s

/-- A sequence begins with the MRdLk of frame fid: it requests the semaphores of its ingress and its target port with its stamp (R245). -/
def beginSeq (p targetDev targetPort fid : Nat) (t : Tlp) (s : State) : State :=
  let sq : LockSeq := { dev := s.dev, port := p, stamp := s.ft.count, part := portPart s p, targetDev := targetDev, targetPort := targetPort
                        heldIngress := false, heldTarget := false, locked := false, tlp := t, fid := fid }
  askTarget sq requestSem (requestSem p (sq.stamp, sq.dev, p) { s with bridge.seqs := s.bridge.seqs ++ [sq] })

/-- A frame is an MRdLk of an ingress port that still waits at its link (R245). -/
def waitsLocked (s : State) (port : Nat) (f : Frame) : Bool :=
  f.place == .waiting && f.rxSpoke.isNone && f.func.isNone && f.srcDev == s.dev && f.srcPort == port && match f.tlp.kind with
    | .memReadLocked => true
    | _ => false

/-- The sequence that a locked read of a port of this device belongs to: the newest whose first MRdLk is not behind it. -/
def seqOf (s : State) (port fid : Nat) : Option LockSeq :=
  (s.bridge.seqs.filter fun q => seqAt s port q && decide (q.fid ≤ fid)).getLast?

/-- Both semaphores of a sequence are released (R248). -/
def freeSeq (q : LockSeq) (s : State) : State :=
  releaseTarget q (dropReq q.port (q.stamp, q.dev, q.port)
    { s with bridge.seqs := s.bridge.seqs.filter fun x => !(x.dev == q.dev && x.port == q.port && x.stamp == q.stamp) })

/-- The MRdLks of a sequence that ends before it was LOCKED end with Completer Abort at their link (assumption 121). -/
def abortWaiting (q : LockSeq) (s : State) : State :=
  forAll (s.hub.frames.filter fun f => waitsLocked s q.port f && (seqOf s q.port f.fid).any fun x => x.stamp == q.stamp)
    (fun f s => answerNp f .ca (freeFrame f (dropFrame f.fid s))) s

/-- A sequence ends otherwise than by its Unlock. -/
def endSeq (q : LockSeq) (s : State) : State := freeSeq q (abortWaiting q s)

/-- An MRdLk is admitted (R244, R245): it is looked up as any request; the first of a sequence, or the first after an Unlock, is stamped and
requests the semaphores of its ingress and its target port. The MRdLk waits until its sequence is LOCKED. -/
def admitMrdlk (p : Nat) (t : Tlp) (s : State) : State :=
  let t := { t with kind := .memReadLocked }
  let s1 := admitTlp p t s
  match lookup s (.pcie p) t, s1.hub.frames.find? fun f => decide (s.hub.nextFid ≤ f.fid) && f.srcPort == p && f.ends.isNone with
  | .go d q _ _, some f => if (lastSeq s p).any fun q => q.unlock.isNone then s1 else beginSeq p d q f.fid t s1
  | _, _ => s1

/-- An MRdLk arrives, and is admitted in its turn. -/
def mrdlk (p : Nat) (t : Tlp) (s : State) : State :=
  let t := { t with kind := .memReadLocked }
  inTurn p t (admitMrdlk p t) s

/-- The Unlock of a sequence goes to the sequence's target; without a sequence that lacks its Unlock it is discarded. -/
def unlockArrives (p : Nat) (t : Tlp) (s : State) : State :=
  match (lastSeq s p).filter fun q => q.unlock.isNone with
  | some q => modSeq q (fun x => { x with unlock := some s.hub.nextFid }) (newFrame
      { freshFrame s t t (portStation s p) (portPart s p) (svcOf s p t.tc) p q.targetDev q.targetPort none with fixed := true } s)
  | none => countLost p s

/-- The Unlock has been handed to the target port's link layer: both semaphores are released, LOCK_RELEASE going to the
other device (R248). -/
def unlockHandedOff (f : Frame) (s : State) : State :=
  if f.srcDev = s.dev then
    match s.bridge.seqs.find? fun q => seqAt s f.srcPort q && q.unlock == some f.fid with
    | some q => freeSeq q s
    | none => s
  else post (.mgmt f.srcDev 0x0313 [f.srcDev, f.srcPort, f.dstPort]) (releaseSem f.dstPort f.srcDev f.srcPort s)

/-- The semaphore of a frame's target port is held by a LOCKED sequence other than the frame's own (R246). -/
def lockHeldAgainst (s : State) (f : Frame) : Bool :=
  let m := s.sem f.dstPort
  f.dstDev == s.dev && f.ends.isNone && m.locked && streamOf f.tlp.kind != 2 &&
    match m.owner with
    | some o => !(o.2.1 == f.srcDev && o.2.2 == f.srcPort && decide (f.sub < 64))
    | none => false

/-- A locked read waits until its sequence is LOCKED (R245); without a sequence it never leaves. -/
def lockReady (s : State) (f : Frame) : Bool :=
  match f.tlp.kind with
  | .memReadLocked => f.rxSpoke.isSome || (seqOf s f.srcPort f.fid).any fun q => q.locked
  | _ => true

/-- The sequences and requests that satisfy a condition end: this device's own are released at both ends, and requests of
others are taken out of its semaphores (R248). -/
def endSeqsWhere (p : LockSeq → Bool) (s : State) : State := forAll (s.bridge.seqs.filter p) endSeq s

/-- The outstanding locked reads of an owner's port end with Completer Abort when the target takes its semaphore back (Table 7.10). -/
def endLockedReads (port dstDev dstPort : Nat) (s : State) : State :=
  forAll (s.bridge.tags.filter fun e => e.2.live && e.2.locked && e.2.origPort == port && e.2.dstDev == dstDev && e.2.dstPort == dstPort)
    (fun e s => quarTag e.1 (answerEntry e.2 .ca s)) s

/-- Every sequence that has a port as its ingress or target ends, whether it owns the port's semaphore or waits for it; those of other
devices receive LOCK_RELEASE (R248, Table 7.10). -/
def releasePortSem (p : Nat) (s : State) : State :=
  let s1 := endSeqsWhere (fun q => q.port == p || (q.targetDev == s.dev && q.targetPort == p)) s
  let away := ((s1.sem p).owner.toList ++ (s1.sem p).waiters).filter fun o => o.2.1 != s.dev
  forAll away (fun o s => post (.mgmt o.2.1 0x0313 [o.2.1, o.2.2, p]) s) (putSem p {} s1)

/-- LOCK_REQ from another device for the semaphore of a port here (Table 7.9). -/
def execLockReq (dt : Time) (stamp ownerDev ingressPort targetPort : Nat) (s : State) : Host.Outcome State Fault Refusal :=
  run dt (okDev ownerDev && okPort ingressPort && okPort targetPort)
    (requestSem targetPort (stamp, ownerDev, ingressPort)) s

/-- LOCK_GRANT reaches the owner's ingress device; a grant for another device's sequence is not this device's. -/
def execLockGrant (dt : Time) (ownerDev ingressPort targetDev targetPort : Nat) (s : State) :
    Host.Outcome State Fault Refusal :=
  run dt (okDev ownerDev && okPort ingressPort && okDev targetDev && okPort targetPort)
    (fun s => if ownerDev = s.dev then granted ingressPort targetDev targetPort s else s) s

def execLockYield (dt : Time) (ownerDev ingressPort : Nat) (s : State) : Host.Outcome State Fault Refusal :=
  run dt (okDev ownerDev && okPort ingressPort) (fun s => if ownerDev = s.dev then yieldSeq ingressPort s else s) s

/-- LOCK_RELEASE reaches the owner's device: its oldest sequence with that target is over. After its Unlock nothing else ends with it; when
the target's device takes the semaphore back, its locked reads end with Completer Abort (R248, Table 7.10). -/
def releasedAfar (ingressPort targetPort : Nat) (s : State) : State :=
  match s.bridge.seqs.find? fun q => seqAt s ingressPort q && q.targetPort == targetPort && q.targetDev != s.dev with
  | none => releaseSem ingressPort s.dev ingressPort s
  | some q =>
    let gone (s : State) : State := dropReq ingressPort (q.stamp, q.dev, q.port)
      { s with bridge.seqs := s.bridge.seqs.filter fun x => !(x.dev == q.dev && x.port == q.port && x.stamp == q.stamp) }
    if q.unlock.isSome then gone s else gone (abortWaiting q (endLockedReads q.port q.targetDev q.targetPort s))

/-- LOCK_RELEASE: at the owner's device the sequence is over and its ingress semaphore is released; at the target's device
the target port's semaphore is released (R248). -/
def execLockReleaseMessage (dt : Time) (ownerDev ingressPort targetPort : Nat) (s : State) :
    Host.Outcome State Fault Refusal :=
  run dt (okDev ownerDev && okPort ingressPort && okPort targetPort)
    (fun s => if ownerDev = s.dev then releasedAfar ingressPort targetPort s else releaseSem targetPort ownerDev ingressPort s) s

end Sys2Proof.Machine
end

