-- ==== Sys2Proof/Machine/Hub.lean ====
section
/-! DEFINITION. The hub and the egress scheduler: staging, admission, xoff, reassembly, selection, departure, lifetime
(chapters 2, 3, 7 and 8). -/

namespace Sys2Proof.Machine

/-- A flow (R179). -/
def flowOf (f : Frame) : List Nat :=
  [f.srcDev, f.srcPort, f.dstDev, cellPort f, f.svc]

/-- A bandwidth window unit that measures a port counts exact frame bytes in the sub-window of this moment (R508). -/
def bwAdd (port : Nat) (egress : Bool) (bytes : Nat) (s : State) : State :=
  { s with count.bw := s.count.bw.map fun u =>
      let b := u.2
      let wants := b.dir == 2 || (if egress then b.dir == 0 else b.dir == 1)
      let off := s.ft.count - b.start
      if b.port == port && b.started && wants && decide (b.start ≤ s.ft.count) && decide (off < b.winUs * us) then
        let i := off * 2 ^ b.subLog2 / (b.winUs * us)
        (u.1, if egress then { b with outBytes := tset 0 b.outBytes i (tget 0 b.outBytes i + bytes) }
              else { b with inBytes := tset 0 b.inBytes i (tget 0 b.inBytes i + bytes) })
      else u }

/-- A message of the host for every link below: to each downstream port of the virtual switch whose link is up, and to each remote bridge
behind an enabled route (Table 7.7). -/
def castDown (u : Nat) (t : Tlp) (s : State) : State :=
  let part := portPart s u
  let v := portVsw s u
  let here := ((vswDown s part v).filter fun q => (s.port q).up).map fun q => (s.dev, q)
  let away := (((List.range 31).map fun i => s.cfg 0x11 part i).filter fun e => rb e 31 && rf e 12 11 == v && routeEn s (rf e 30 25)).map
    fun e => (rf e 30 25, rf e 24 18)
  forAll ((here ++ away).zipIdx) (fun x s => applyVerdict (.pcie u) t
    (fun t' d q w => { freshFrame s t' t (portStation s u) part (svcOf s u t.tc) u d q w with fixed := true, slots := x.2 == 0 })
    (.go x.1.1 x.1.2 t none) s) s

/-- The messages that the bridge of the port takes itself (Table 5.1, R140, R150). -/
def bridgeTakes : TlpKind → Bool
  | .message .pmeTurnOff | .message .pmeToAck | .message (.assertIntx _) | .message (.deassertIntx _) => true
  | .message .ptmRequest | .message .ptmResponse | .message (.ptmResponseD _ _) => true
  | _ => false

/-- What such a message does at a port. -/
def bridgeAct (p : Nat) (k : TlpKind) (s : State) : State :=
  match k with
  | .message .pmeTurnOff => pmeOff p s
  | .message .pmeToAck => pmeAck p s
  | .message (.assertIntx x) => wireMessage p (x % 4) true s
  | .message (.deassertIntx x) => wireMessage p (x % 4) false s
  | .message .ptmRequest => ptmAnswer p s
  | .message .ptmResponse => ptmLearn p none s
  | .message (.ptmResponseD t d) => ptmLearn p (some (t, d)) s
  | _ => s

/-- What a frame that has come over a spoke does at a bridge of this device (R140, R150). -/
def remoteAct (f : Frame) (s : State) : State :=
  match f.tlp.kind with
  | .message .pmeToAck => ackTurnOff f.dstPort (128 * (f.srcDev + 1) + f.srcPort) s
  | .message .pmeTurnOff => pmeAck f.dstPort s
  | .message (.assertIntx x) => remoteWire f (x % 4) true s
  | .message (.deassertIntx x) => remoteWire f (x % 4) false s
  | .cfgRead | .cfgWrite => emit (.toEndpoint (portPart s f.dstPort) f.tlp) s
  | _ => s

/-- A frame that has come over a spoke for a bridge of this device itself. -/
def forBridge (s : State) (f : Frame) : Bool :=
  match f.tlp.kind with
  | .message .pmeToAck | .message (.assertIntx _) | .message (.deassertIntx _) => true
  | .message .pmeTurnOff => !(s.port f.dstPort).up
  | .cfgRead | .cfgWrite => !within (s.port f.dstPort).sec (s.port f.dstPort).subBus (f.tlp.targetId / 256)
  | _ => false

/-- What a TLP does at a port once its turn has come. -/
def actTlp (p : Nat) (t : Tlp) (s : State) : State :=
  match t.kind with
  | .memReadLocked => admitMrdlk p t s
  | .message .unlock => unlockArrives p t s
  | .message .obff | .message .vdmOther => if portUp s p then castDown p t s else admitTlp p t s
  | k => if bridgeTakes k then bridgeAct p k s else admitTlp p t s

/-- A TLP is taken from its link: it takes effect at once, or waits there for its turn (R41). -/
def takeTlp (p : Nat) (t : Tlp) (s : State) : State := inTurn p t (actTlp p t) s

/-- A TLP is received at a PCIe port (R39). A poisoned one is forwarded and counted (R316). In C4 nothing is admitted and
non-posted requests at upstream ports receive Unsupported Request (R319). -/
def tlpReceived (p : Nat) (t : Tlp) (s : State) : State :=
  if !portEn s p || (portSpoke s p).isSome then s
  else if s.errs.c4 then c4Answer p t s
  else
    takeTlp p t (if t.poisoned then
        record [portPart s p] { devRec s 0x0105 0 0 0 with srcPort := p, reqId := t.rid, tag := t.tag, address := t.addr } s
      else s)

/-! Staging (R40, R41, R221, R224 to R230). -/

/-- Two waiting frames come from one link and one ordering stream (R41); on a spoke, one service and credit pool (R92); at the mover
attachment, one lane, one class and one ordering stream. -/
def sameStream (f g : Frame) : Bool :=
  f.att == g.att && streamOf f.tlp.kind == streamOf g.tlp.kind && match f.rxSpoke, g.rxSpoke with
    | some k, some l => k == l && f.svc == g.svc
    | none, none => if f.att == 20 then f.sub == g.sub && f.rcv == g.rcv else f.srcPort == g.srcPort
    | _, _ => false

/-- The waiting frames before a frame. -/
def before (s : State) (f : Frame) : List Frame :=
  (s.hub.frames.takeWhile fun g => g.fid != f.fid).filter fun g => g.place == .waiting

/-- A frame is bridged (R212). -/
def bridged (s : State) (f : Frame) : Bool := f.dstDev != s.dev || f.window.isSome

/-- The partition a request travels as: the window's target, or its own (R225). -/
def asPart (s : State) (f : Frame) : Nat :=
  match f.window with
  | some w => rf (s.cfg 0x18 w 0) 248 243
  | none => srcPartOf s f

/-- The wire tag for a request (R225): of the tags no entry holds for the same partition and requester ID, one never used,
else the one freed longest ago. -/
def wireTag (s : State) (part rid : Nat) : Option Nat :=
  let n := if rb (s.cfg 0x12 part 0) 49 then 16384 else 1024
  let used := (s.bridge.tags.filter fun e => e.2.asPart == part && e.2.asRid == rid).map fun e => e.2.wireTag
  let freed := (s.bridge.freedTags.filter fun e => e.1 == part && e.2.1 == rid).map fun e => e.2.2
  match (List.range n).find? fun t => !used.contains t && !freed.contains t with
  | some t => some t
  | none => freed.find? fun t => decide (t < n) && !used.contains t

/-- The tag under which a request travels: one of a selective IDE stream keeps its own, since no field of it changes (R134). -/
def travelTag (s : State) (f : Frame) : Option Nat :=
  let part := asPart s f
  if !f.tlp.ide then wireTag s part f.tlp.rid
  else if s.bridge.tags.any fun e => e.2.asPart == part && e.2.asRid == f.tlp.rid && e.2.wireTag == f.tlp.tag then none
  else some f.tlp.tag

/-- How many entries and trackers a source partition holds, and its quotas (Table 7.2). -/
def tagQuotaFull (s : State) (part : Nat) : Bool :=
  let q := 16 * rf (s.cfg 0x12 part 0) 47 36
  q != 0 && decide (q ≤ (s.bridge.tags.filter fun e => e.2.srcPart == part).length)
def trkQuotaFull (s : State) (part : Nat) : Bool :=
  let q := 8 * rf (s.cfg 0x12 part 0) 35 24
  q != 0 && decide (q ≤ (s.bridge.trackers.filter fun e => e.2.srcPart == part).length)

/-- The frame is a lossless posted memory write whose destination port is on another device (R229). -/
def needsTracker (s : State) (f : Frame) : Bool :=
  f.rxSpoke.isNone && !f.rcv && f.dstDev != s.dev && match f.tlp.kind with
    | .memWrite => true
    | _ => false

/-- The frame is a bridged non-posted request at its ingress device (R224). -/
def needsTag (s : State) (f : Frame) : Bool := f.rxSpoke.isNone && isNp f.tlp.kind && bridged s f

/-- With one more frame, the flow's count would reach 128 counts past its oldest tracker: no frame of the flow starts (R230). -/
def flowFull (s : State) (f : Frame) : Bool :=
  let k := flowOf f
  let n := (flowCount s.hub.streamSent k).getD 0
  f.rxSpoke.isNone && s.bridge.trackers.any fun e =>
    k == [s.dev, e.2.srcPort, e.2.dstDev, e.2.dstPort, e.2.svc] && decide (e.2.seq + 128 ≤ n + 1)

/-- A frame waits for its flow's oldest tracker, a write for a tracker (R230). -/
def trackerWait (s : State) (f : Frame) : Bool :=
  flowFull s f || needsTracker s f && (trkQuotaFull s (srcPartOf s f) || (tfree s.bridge.trackers 0 32768).isNone)

/-- A request waits for an entry or a wire tag (R226). -/
def tagWait (s : State) (f : Frame) : Bool :=
  needsTag s f && (tagQuotaFull s (srcPartOf s f) || (tfree s.bridge.tags 0 65536).isNone ||
    (travelTag s f).isNone)

/-- A frame holds room in staging until the crossbar has taken all its cells, which is when its last cell has been written (R40). -/
def inStaging (f : Frame) : Bool := match f.place with
  | .staged | .bank => true
  | _ => false

/-- Cells of a station's staging area in use (R40). -/
def stagedCells (s : State) (att : Nat) : Nat := cellsOf (s.hub.frames.filter fun f => f.att == att && inStaging f)

/-- An xoff that reached the frame's attachment before this tick holds the frame, until its clearing has reached it; one that arrives in the
same tick does not hold it (R55, R72). A frame that goes to no port waits for no bank (R45). -/
def xoffHolds (s : State) (f : Frame) : Bool :=
  let seen := match tfind s.hub.xoffSeen (f.att * 1024 + f.outPort * 8 + f.svc) with
    | some t => t != coreTick s
    | none => false
  !f.rcv && f.ends.isNone && if pairXoff s f.outPort f.svc then seen || xoffSpread s f.outPort f.svc
    else seen && !xoffSpread s f.outPort f.svc

/-- The reason for which a waiting frame may not be staged yet, with the counter that counts such waits. -/
inductive Hold where
  | ready | order | xoff | room | shaper | tag | tracker | quota | other
deriving DecidableEq, Repr

/-- A frame that acts at its link when its turn comes and never enters staging. -/
def actsAtLink (f : Frame) : Bool := f.ends == some .bridge || f.ends == some .turn

/-- A frame goes to the functions of a partition, over the mover attachment's path (R45). -/
def toFunctions (f : Frame) : Bool := match f.ends with
  | some (.functions _) => true
  | _ => false

/-- What holds a frame at the head of its stream, its shaper apart. -/
def headHold (s : State) (f : Frame) : Hold :=
  if actsAtLink f then .ready
  else if f.att != 20 && decide (1024 < stagedCells s f.att + fcells f) then .room
  else if xoffHolds s f then .xoff
  else if toFunctions f && decide (s.now < s.hub.moverFree) then .other
  else if f.dstDev != s.dev && bucketHeld (s.bucket f.dstDev (frameBucket f)) then .other
  else if f.dstDev != s.dev && (s.bucket f.dstDev (frameBucket f)).movedIn == some (coreTick s) then .other
  else if lockHeldAgainst s f || !lockReady s f then .other
  else if needsTag s f && tagQuotaFull s (srcPartOf s f) || needsTracker s f && trkQuotaFull s (srcPartOf s f) then .quota
  else if tagWait s f then .tag
  else if trackerWait s f then .tracker
  else if isNp f.tlp.kind && f.rxSpoke.isNone && (before s f).any fun g =>
      g.srcPort == f.srcPort && g.att == f.att && g.dstDev == f.dstDev && needsTracker s g then .other
  else .ready

/-- A frame of the mover that has reached its lane's shaper holds back every later frame of the lane (R92). -/
def atLaneShaper (s : State) (f g : Frame) : Bool :=
  f.att == 20 && g.att == 20 && f.sub == g.sub && !((before s g).any (sameStream g)) && headHold s g == .ready

def holdOf (s : State) (f : Frame) : Hold :=
  if s.errs.c4 || s.hub.stalled then .other
  else if (before s f).any fun g => sameStream f g || atLaneShaper s f g then .order
  else match headHold s f with
    | .ready => if !actsAtLink f && !shOpen s (shKey 5 (f.att * 72 + f.sub)) then .shaper else .ready
    | h => h

/-- Count a wait (Table 18.1): at the port where the frame entered, which a frame of the mover has not. -/
def countHold (f : Frame) (h : Hold) (s : State) : State :=
  let here (pos : Nat) : State := onlyIf (f.att != 20) (count1 (cPort f.srcPort pos)) s
  match h with
  | .xoff => here 13
  | .tag => here 25
  | .tracker => here 26
  | .quota => count1 (cPart (srcPartOf s f) 15) s
  | _ => s

/-- The bridged read timeout of a partition (Table 7.2), and the mover's T_MR (R296). -/
def readTimeoutOf (s : State) (p : Nat) : Time := 64 * us * 2 ^ rf (s.cfg 0x12 p 0) 55 52
def moverTimeout (s : State) (p : Nat) : Time := min (readTimeoutOf s p) (50 * ms)

/-- Allocate the tag table entry of a bridged non-posted request (R224, R225). -/
def takeTag (f : Frame) (s : State) : Frame × State :=
  let part := asPart s f
  match tfree s.bridge.tags 0 65536, travelTag s f with
  | some i, some w =>
    let bytes := match f.tlp.kind with
      | .atomic => f.tlp.opSize
      | .memRead | .memReadLocked => f.tlp.len
      | .cfgRead | .ioRead => 4
      | _ => 0
    let e : TagEntry := {
      origRid := f.issuedRid, origTag := f.issuedTag, origPort := f.srcPort, srcPart := srcPartOf s f, func := f.func
      asPart := part, asRid := f.tlp.rid, wireTag := w, remaining := bytes, issued := s.now, issuedFt := s.ft.count
      timeout := match f.func.bind moverFunc with
        | some _ => moverTimeout s (srcPartOf s f)
        | none => readTimeoutOf s (srcPartOf s f)
      dstDev := f.dstDev, dstPort := f.dstPort
      window := f.window, live := true, freeAt := 0, address := f.issued
      locked := match f.tlp.kind with
        | .memReadLocked => true
        | _ => false }
    ({ f with tagEntry := some i, tlp := { f.tlp with tag := w } },
      { s with
        bridge.tags := tput s.bridge.tags i e
        bridge.freedTags := s.bridge.freedTags.filter (· != (part, f.tlp.rid, w)) })
  | _, _ => (f, s)

/-- Take the write tracker of a write to another device (R229). -/
def takeTracker (f : Frame) (s : State) : Frame × State :=
  match tfree s.bridge.trackers 0 32768 with
  | some i =>
    let t : Tracker := {
      addr := f.issued, srcPart := srcPartOf s f, rid := f.issuedRid, srcPort := f.srcPort, dstDev := f.dstDev
      dstPort := f.dstPort, svc := f.svc, seq := f.seq, issued := s.now, issuedFt := s.ft.count, live := true, freeAt := 0, silent := false }
    ({ f with tracker := some i }, { s with bridge.trackers := tput s.bridge.trackers i t })
  | none => (f, s)

/-- A frame for a partition's functions leaves staging over the mover attachment's path, without a bank, at 4 cells a cycle; a recoverable
write departs here (R19, R45, R65). -/
def deliver (part : Nat) (f : Frame) (s : State) : State :=
  let s0 : State := { s with hub.moverFree := s.now + coreCycles s (ceilDiv (fcells f) 4) }
  let s1 := emit (.toEndpoint part f.tlp) (dropFrame f.fid s0)
  match f.work with
  | some w => sendNotices s.dev f.sub [⟨w, 0⟩] s1
  | none => s1

/-- A frame enters staging: the last steps of R39, with its stamp, count, tag or tracker, and its shaper charged (R67, R92,
R179). It moves behind the frames staged before it. -/
def stage (f : Frame) (s : State) : State :=
  let here := f.rxSpoke.isNone
  let k := flowOf f
  let n := (flowCount s.hub.streamSent k).getD 0
  let s1 : State := if here then { s with hub.streamSent := setFlow s.hub.streamSent k (n + 1) } else s
  let f1 := if here then { f with seq := n, stamp := s.ft.count } else f
  let (f2, s2) := if needsTag s f then takeTag f1 s1 else (f1, s1)
  let (f3, s3) := if needsTracker s f then takeTracker f2 s2 else (f2, s2)
  let f4 := { f3 with place := .staged, epochStaged := s.conf.epoch }
  let s4 := chargeSh (shKey 5 (f.att * 72 + f.sub)) f.tlp.frameBytes s3
  let s5 : State := { s4 with hub.frames := (s4.hub.frames.filter fun g => g.fid != f.fid) ++ [f4] }
  let s6 := match f.ends with
    | some (.functions p) => deliver p f4 s5
    | _ => s5
  let s7 := freeFrame f s6
  if f.rxSpoke.isSome || f.att = 20 then s7
  else
    let st := streamOf f.tlp.kind
    bwAdd f.srcPort false f.tlp.frameBytes
      (countBytes (cPort f.srcPort (2 * st + 1)) f.tlp.frameBytes (count1 (cPort f.srcPort (2 * st)) s7))

/-- A frame from a spoke for a bridge here acts when its turn comes (R41). -/
def bridgeTurn (f : Frame) (s : State) : State := remoteAct f (freeFrame f (dropFrame f.fid s))

/-- The turn of a waiting TLP has come: what it does takes effect now, and what then waits takes its place in the receive buffer (R41). -/
def takeTurn (act : Frame → State → State) (f : Frame) (s : State) : State :=
  let ahead := (s.hub.frames.takeWhile fun g => g.fid != f.fid).map (·.fid)
  let n := s.hub.nextFid
  let s1 := creditBack f.srcPort f.tlp n (act f (dropFrame f.fid s))
  let old := s1.hub.frames.filter fun g => decide (g.fid < n)
  { s1 with hub.frames := (old.filter fun g => ahead.contains g.fid) ++ (s1.hub.frames.filter fun g => decide (n ≤ g.fid)) ++
      old.filter fun g => !ahead.contains g.fid }

/-- The TLP as it was issued, for a second lookup (R221). -/
def issuedTlp (f : Frame) : Tlp :=
  { f.tlp with addr := f.issued, rid := f.issuedRid, tag := f.issuedTag, targetId := f.issuedTarget }

/-- A recoverable write refused at its second lookup: recorded as at the first, and its engine learns by a drop notice that ends the job
WRITE_DENIED (Table 2.10, R253). -/
def refuseRcv (e : Entry) (f : Frame) (v : Verdict) (s : State) : State :=
  let denied (i d p : Nat) : State :=
    episodeRecord true (e.part s) (ingressRec s e (issuedTlp f) 0x0501 d p) (countDenial e i s)
  dropNotice f 0x7 <| match v with
    | .denied i d p => denied i d p
    | .noRoute d => denied 64 d 0
    | _ => s

/-- An MRdLk whose target has changed asks for the semaphore of its new target, and gives back that of the old one; its sequence is not
LOCKED until it holds the new one (R245). -/
def retargetSeq (f : Frame) (dev port : Nat) (s : State) : State :=
  match f.tlp.kind, seqOf s f.srcPort f.fid with
  | .memReadLocked, some q =>
    if q.targetDev == dev && q.targetPort == port then s
    else
      let q' := { q with targetDev := dev, targetPort := port, heldTarget := false, locked := false }
      askTarget q' requestSem (modSeq q (fun _ => q') (releaseTarget q s))
  | _, _ => s

/-- The target of a frame that no lookup of its own gave still stands: an enabled port of the partition, for a remote bridge its entry
(R140), for an Unlock its sequence. -/
def targetStands (s : State) (f : Frame) : Bool :=
  let r := portRecOf s f.dstDev f.dstPort
  let part := portPart s f.srcPort
  let entry := (List.range 31).any fun i =>
    let e := s.cfg 0x11 part i
    rb e 31 && rf e 30 25 == f.dstDev && rf e 24 18 == f.dstPort
  rb r 63 && rf r 61 56 == part && match f.tlp.kind with
    | .cfgRead | .cfgWrite => entry
    | .message .unlock => s.bridge.seqs.any fun q => seqAt s f.srcPort q && q.unlock == some f.fid
    | _ => true

/-- Lookup again under a new epoch (R221): the frame keeps its place; a refusal ends it. A frame whose target no lookup of its own gave
keeps it while it stands; one whose tag table entry stands keeps its own. -/
def relookup (f : Frame) (s : State) : State :=
  let e : Entry := match f.func with
    | some g => .mover g
    | none => .pcie f.srcPort
  let put (g : Frame) (s : State) : State := modFrame f.fid (fun _ => { g with epochStaged := s.conf.epoch }) s
  let refuse (v : Verdict) (s : State) : State :=
    let s1 := freeFrame f (dropFrame f.fid s)
    if f.rcv then refuseRcv e f v s1 else applyVerdict e (issuedTlp f) (fun _ _ _ _ => { f with slots := false }) v s1
  if f.rxSpoke.isSome || f.tagEntry.isSome || actsAtLink f then put f s
  else if f.fixed then
    if targetStands s f then put f s else refuse (if isNp f.tlp.kind then .form s.dev 0 else .lost) s
  else match lookup s e (issuedTlp f) with
    | .go d p t w => retargetSeq f d p (put { f with tlp := t, dstDev := d, dstPort := p, window := w, ends := none } s)
    | .endpoint p t => match t.kind with
      | .atomic | .memReadLocked => refuse (.endpoint p t) s
      | _ => put { f with tlp := t, dstDev := s.dev, dstPort := 0, window := none, ends := some (.functions p) } s
    | v => refuse v s

/-- A frame for another device leaves by the spoke that its bucket has now (R206 to R208). -/
def reroute (s : State) (f : Frame) : Frame := { f with outPort := frameOut s f }

/-- A lossless posted write of this device whose key has been fenced since its lookup (R237). -/
def fencedNow (s : State) (f : Frame) : Bool :=
  f.rxSpoke.isNone && !actsAtLink f && !f.rcv && fenced s (srcPartOf s f) f.dstDev f.dstPort && match f.tlp.kind with
    | .memWrite => true
    | _ => false

/-- A frame is lost at its link because no spoke of its route is up (R207): at the device where it enters the fabric, as R234 and Table 7.5
say; at a device that forwards it, with a notice for a recoverable frame and counted otherwise. -/
def loseWaiting (f : Frame) (s : State) : State :=
  if f.rcv then dropNotice f 0x8 s
  else match f.rxSpoke, f.func with
    | some k, _ => countLost (128 + k) s
    | none, some g => pathLost (.mover g) (issuedTlp f) f.dstDev f.dstPort s
    | none, none => pathLost (.pcie f.srcPort) (issuedTlp f) f.dstDev f.dstPort s

/-- No spoke of a waiting frame's route is up, and its bucket does not move: while it moves, the frame is held, and lost only then (R207,
assumption 152). -/
def pathDead (s : State) (f : Frame) : Bool :=
  f.dstDev != s.dev && routeDead s f.dstDev && !bucketHeld (s.bucket f.dstDev (frameBucket f))

/-- A frame whose destination has no enabled route record is discarded as a reach denial (R22, R205, Table 8.5): counted at the port it came
by, recorded, and answered as its kind asks; its failure key names port 0 (R267). -/
def denyRoute (f : Frame) (s : State) : State :=
  let port := match f.rxSpoke with
    | some k => spokePort s k
    | none => f.srcPort
  let s1 := countDeny (some port) 64 s
  let r := { frameRec s f 0x0501 with dstPort := 0 }
  if f.rcv then dropNotice f 0x7 (episodeRecord true (srcPartOf s f) r s1)
  else match f.tlp.kind with
    | .memWrite => failWrite { f with dstPort := if f.srcDev = s.dev then 0 else f.dstPort } 0xA s1
    | .completion _ | .message _ => s1
    | _ => answerNp f .ca (episodeRecord true (srcPartOf s f) r s1)

/-- A waiting frame's way to another device has been closed by a commit (R205). -/
def routeGone (s : State) (f : Frame) : Bool := f.dstDev != s.dev && !routeEn s f.dstDev

/-- A frame waits at its link: looked up again under a new epoch, discarded under a fence (R237), denied without an enabled route (R205), lost
when no spoke of its route is up (R207), staged when nothing holds it. The fence comes before the route (assumption 120). What a TLP that
waits for its turn does then is a parameter. -/
def frameStage (turn : Frame → State → State) (fid : Nat) (s : State) : State :=
  match findFrame s fid with
  | none => s
  | some f0 =>
    if f0.place != .waiting then s
    else
      let s1 := if f0.epochStaged != s.conf.epoch then relookup f0 s else s
      match findFrame s1 fid with
      | none => s1
      | some g =>
        let f := reroute s1 g
        let gone := freeFrame f (dropFrame fid s1)
        if fencedNow s1 f then fencedDiscard (srcPartOf s1 f) f.dstDev f.dstPort gone
        else if routeGone s1 f then denyRoute f gone
        else if pathDead s1 f then loseWaiting f gone
        else match holdOf s1 f with
          | .ready => if f.ends == some .bridge then bridgeTurn f s1 else if f.ends == some .turn then takeTurn turn f s1 else stage f s1
          | h => countHold f h s1

/-- Ingress staging discards a frame whose age has reached 1 ms (R68). -/
def execStagingLifetimeExpiry (dt : Time) (fid : Nat) (s : State) : Host.Outcome State Fault Refusal :=
  run dt true (fun s => match findFrame s fid with
    | some f => if f.place == .staged && decide (ms ≤ age s f) then discard f .lifetime s else s
    | none => s) s

/-! Admission (R46 to R64). -/

/-- The average occupancy's unit: 2^-32 cell (the manual gives no precision; assumption 12). -/
def avgUnit : Nat := 2 ^ 32

/-- One update of the average (R58). -/
def ewma (n avg occ : Nat) : Nat := avg + occ * avgUnit / 2 ^ n - avg / 2 ^ n

/-- Decay as k updates at occupancy 0. -/
def decay (n : Nat) : Nat → Nat → Nat
  | 0, a => a
  | k + 1, a => decay n k (a - a / 2 ^ n)

/-- Idleness in steps of 64 CLK_CORE cycles: 1.5 GHz, or 1.25 GHz while the governor has lowered it. -/
def idleSteps (s : State) (d : Time) : Nat := if s.chip.coreSlow then d * 5 / (4 * 64 * 1024) else d * 3 / (2 * 64 * 1024)

/-- The average of a queue after the update for a frame decided now (R58). -/
def updatedAvg (s : State) (port q : Nat) : Nat :=
  let n := rf (s.cfg 0x38 (rf (s.cfg 0x28 port q) 31 28) 0) 3 0
  let occ := cellsOf (s.hub.frames.filter fun f => inBank f && f.outPort == port && qOf f == q)
  let a := (tfind s.hub.avg (port * 576 + q)).getD (0, s.now)
  let a0 := if occ = 0 then
      let k := idleSteps s (s.now - a.2)
      if 64 * 2 ^ n ≤ k then 0 else decay n k a.1
    else a.1
  ewma n a0 occ

/-- The RED thresholds of a frame's colour (Table 2.9). -/
def redColour (s : State) (port q colour : Nat) : Rec := s.cfg 0x39 (rf (s.cfg 0x28 port q) 31 28) (min colour 2)

/-- A hit with the probability of R59, drawn with a free value. -/
def redHit (s : State) (port q colour avg : Nat) : Bool :=
  let r := redColour s port q colour
  let lo := rf r 15 0 * avgUnit
  let hi := rf r 31 16 * avgUnit
  if avg < lo then false
  else if hi ≤ avg then true
  else
    let den := 256 * (hi - lo)
    decide (drawn s % den < rf r 63 56 * (avg - lo))

/-- A frame that push-out may evict (R62). -/
def evictable (st : Nat) (s : State) (f : Frame) : Bool :=
  f.rcv && f.region == .shared && f.place == .queued && portStation s f.outPort == st

/-- Frames from the tail of one queue until the need is covered. -/
def takeUntil : Nat → List Frame → List Frame
  | 0, _ => []
  | _ + 1, [] => []
  | need + 1, f :: r => f :: takeUntil (need + 1 - fcells f) r

/-- Order of queues within a service: more shared cells, then lower port, then lower queue (R63). -/
def queueBefore (x y : Nat × Nat × Nat) : Bool :=
  decide (y.1 < x.1) || (x.1 == y.1 && (decide (x.2.1 < y.2.1) || (x.2.1 == y.2.1 && decide (x.2.2 < y.2.2))))

def insertQueue : List (Nat × Nat × Nat) → Nat × Nat × Nat → List (Nat × Nat × Nat)
  | [], q => [q]
  | x :: r, q => if queueBefore q x then q :: x :: r else x :: insertQueue r q

/-- The evictable frames of services below c in the order of R63. -/
def victims (s : State) (st c : Nat) : List Frame :=
  (List.range c).flatMap fun v =>
    let fs := (bankFrames s st).filter fun f => f.svc == v
    let qs := (fs.map fun f => (f.outPort, qOf f)).eraseDups
    let ranked := qs.foldl (fun l pq => insertQueue l
      (cellsOf (fs.filter fun f => f.outPort == pq.1 && qOf f == pq.2 && f.region == .shared), pq.1, pq.2)) []
    ranked.flatMap fun x => (fs.filter fun f => f.outPort == x.2.1 && qOf f == x.2.2 && evictable st s f).reverse

/-- The victim set of push-out, empty when all evictable frames together cannot cover the need (R63). -/
def pushoutVictims (s : State) (st c need : Nat) : List Frame :=
  let v := victims s st c
  if cellsOf v < need then [] else takeUntil need v

/-- Charge a frame to a region. -/
def charge (f : Frame) (r : Region) (s : State) : State :=
  modFrame f.fid (fun g => { g with place := .bank, region := r, mark := f.mark }) s

/-- Assert a pair's xoff (R53); the occupancy of headroom is noted, and at 2,048 cells the bank's xoff is asserted (R54). An xoff that
cleared in this same tick has stayed (R56, R72): it is not counted again. -/
def assertXoff (port svc : Nat) (s : State) : State :=
  let st := portStation s port
  let key := port * 8 + svc
  let s1 := if (tfind s.hub.xoff key).isSome then s
    else
      let again := (tfind s.hub.cleared key).any fun t => tickAt s t == coreTick s
      let stale := !pairXoff s port svc && xoffSpread s port svc
      let s' := onlyIf (!again) (count1 (cPair port svc 13)) { s with
        hub.xoff := tput s.hub.xoff key s.now
        hub.xoffSeen := if stale then tkeep s.hub.xoffSeen fun k _ => k % 1024 != key else s.hub.xoffSeen }
      if s.hub.bankXoff.contains st then s' else emit (.xoff port svc true) s'
  let h := regionUsed s1 st .headroom
  let s2 : State := { s1 with hub.headroomPeak := tset 0 s1.hub.headroomPeak st (max h (tget 0 s1.hub.headroomPeak st)) }
  if 2048 ≤ h ∧ ¬ s2.hub.bankXoff.contains st then
    forAll ((stationPorts s2 st).flatMap fun p => (List.range 8).map fun v => (p, v))
      (fun pv s => if (tfind s.hub.xoff (pv.1 * 8 + pv.2)).isSome then s else emit (.xoff pv.1 pv.2 true) s)
      { s2 with hub.bankXoff := s2.hub.bankXoff ++ [st], hub.bankXoffAt := tput s2.hub.bankXoffAt st s2.now }
  else s2

/-- A recoverable frame is dropped at admission with its cause. -/
def dropAt (f : Frame) (cause : Nat) (s : State) : State := dropNotice f cause (dropFrame f.fid s)

/-- Charging in the shared region, by push-out, in headroom or not at all (R50, R51, R53). When the shared region has shrunk below its
occupancy, the shortfall covers that too. -/
def admitShared (f : Frame) (st q : Nat) (s : State) : State :=
  let n := fcells f
  let S := sharedSize s st
  let U := cellsOf ((seenFrames s st).filter fun g => g.region == .shared)
  let qsh := cellsOf ((seenFrames s st).filter fun g => g.outPort == f.outPort && qOf g == q && g.region == .shared)
  let overflow (s : State) : State :=
    if f.rcv then dropAt f 0x2 s
    else assertXoff f.outPort f.svc (charge f .headroom (count1 (cPair f.outPort f.svc 3) s))
  if subStrict s f.sub then overflow s
  else if U + n ≤ S then
    if (qsh + n) * 64 ≤ 2 ^ rf (s.cfg 0x28 f.outPort q) 27 24 * (S - U) then
      charge f .shared (count1 (cPair f.outPort f.svc 2) s)
    else overflow s
  else
    match pushoutVictims s st f.svc (U + n - S) with
    | [] => overflow s
    | v =>
      let s1 := forAll v (fun g s => dropNotice g 0x3 (count1 (cPair f.outPort f.svc 11) (takeOut g s))) s
      charge f .shared (count1 (cPair f.outPort f.svc 2) s1)

/-- The admission of a frame (R50): the average is brought up to date, RED is drawn, and the frame is charged to the
minimum, the reserve, the shared region or headroom, or dropped. A lossless hit marks the frame and sends an echo (R61). -/
def admission (f : Frame) (s : State) : State :=
  let q := qOf f
  let st := portStation s f.outPort
  let avg := updatedAvg s f.outPort q
  let hit := redHit s f.outPort q f.colour avg
  let s0 := drew { s with hub.avg := tput s.hub.avg (f.outPort * 576 + q) (avg, s.now) }
  if f.rcv && hit then dropAt f 0x1 s0
  else
    let f := if hit then { f with mark := true } else f
    let s1 := if hit then emit (.echo f.att f.sub) (count1 (cQueue f.outPort q 2) s0) else s0
    let n := fcells f
    let minUsed := cellsOf ((seenFrames s1 st).filter fun g => g.outPort == f.outPort && qOf g == q && g.region == .minimum)
    let resUsed := cellsOf ((seenFrames s1 st).filter fun g => g.sub == f.sub && g.region == .reserve)
    if minUsed + n ≤ rf (s1.cfg 0x28 f.outPort q) 13 0 then charge f .minimum (count1 (cPair f.outPort f.svc 0) s1)
    else if resUsed + n ≤ rf (s1.cfg 0x29 st f.sub) 15 0 then charge f .reserve (count1 (cPair f.outPort f.svc 1) s1)
    else admitShared f st q s1

/-! The order in which first cells reach a bank (R19, R40, R44, R52). -/

/-- Cells that an attachment can send toward the hub in one CLK_CORE cycle (R19). -/
def attachmentRate (att : Nat) : Nat := if att = 20 then 8 else 2

/-- The attachments in round-robin order; the pointer advances each tick (R52; for the service of R44, assumption 122). -/
def attachmentOrder (s : State) : List Nat := (List.range 21).map fun i => (coreTick s + i) % 21

/-- A frame holds cells for a bank: staged for it, or with cells on their way. -/
def forBank (s : State) (st : Nat) (f : Frame) : Bool := inStaging f && portStation s f.outPort == st

/-- The frame that an attachment sends to a bank: the one whose cells are on their way, else the first staged, unless an xoff holds it
(R40, R44, R55). -/
def sending (s : State) (st att : Nat) : Option Frame :=
  let fs := s.hub.frames.filter fun f => f.att == att && forBank s st f
  match fs.find? fun f => f.place == .bank with
  | some f => some f
  | none => fs.head?.filter fun f => !xoffHolds s f

/-- Frames in turn, until they have taken the cells that a bank accepts in one cycle; `used` are the cells that each attachment has sent
in it. Answers the frames that send, and what is then used. -/
def takeTurns (used : Tbl Nat) : Nat → List Frame → List Frame × Tbl Nat
  | _, [] => ([], used)
  | room, f :: r =>
    let n := min room (min (attachmentRate f.att - tget 0 used f.att) (fcells f))
    if n = 0 then takeTurns used room r
    else
      let x := takeTurns (tput used f.att (tget 0 used f.att + n)) (room - n) r
      (f :: x.1, x.2)

/-- What a bank takes in this tick: at most 4 cells, attachments that hold lossless cells for the bank first (R44). -/
def serveBank (s : State) (used : Tbl Nat) (st : Nat) : List Frame × Tbl Nat :=
  let lossless (att : Nat) : Bool := s.hub.frames.any fun f => f.att == att && forBank s st f && !f.rcv
  let order := attachmentOrder s
  takeTurns used 4 ((order.filter lossless ++ order.filter fun a => !lossless a).filterMap (sending s st))

/-- The banks in the order in which they take from the attachments in this tick; it advances each tick (assumption 122). -/
def bankOrder (s : State) : List Nat := (List.range 20).map fun i => (coreTick s + i) % 20

/-- The frames that a bank serves in this tick, after the banks before it have taken their part of each attachment's cells (R19, R44). -/
def servedNow (s : State) (st : Nat) : List Frame :=
  let used := ((bankOrder s).takeWhile fun b => b != st).foldl (fun u b => (serveBank s u b).2) []
  (serveBank s used st).1

/-- Of frames whose first cells reach a bank in one tick, the one admitted first: the highest service, then the attachments' order (R52). -/
def admitFirst (s : State) (fs : List Frame) : Option Frame :=
  ((attachmentOrder s).filterMap fun a => fs.find? fun f => f.att == a).foldl (fun best f => match best with
    | none => some f
    | some b => if b.svc < f.svc then some f else some b) none

/-- The first cell of a staged frame reaches its bank when the bank serves its attachment, and it is admitted in its turn (R40, R44, R52);
otherwise it waits in staging. -/
def egressAdmission (fid : Nat) (s : State) : State :=
  match findFrame s fid with
  | none => s
  | some f =>
    let first := admitFirst s ((servedNow s (portStation s f.outPort)).filter fun g => g.place == .staged)
    if s.errs.c4 || first.map (·.fid) != some fid then s else admission f s

def execEgressAdmission (dt : Time) (fid : Nat) (s : State) : Host.Outcome State Fault Refusal :=
  run dt true (egressAdmission fid) s

/-- An xoff or its clearing reaches an attachment (R55). -/
def execXoffReachIngress (dt : Time) (att port svc : Nat) (s : State) : Host.Outcome State Fault Refusal :=
  run dt (okAtt att && okPort port && okSvc svc) (fun s =>
    let k := att * 1024 + port * 8 + svc
    let seen := s.hub.xoffSeen
    { s with hub.xoffSeen := if !pairXoff s port svc then tdel seen k else if (tfind seen k).isSome then seen
             else tput seen k (coreTick s) }) s

/-! Reassembly (R46, R241, R254, R265). -/

/-- The guard check of a frame at its target port: the entry that denies it (R254, R257, R265). What has come by another way than the
partition's root complex to the BARs of its functions is denied without an entry (R256). -/
def guardFrame (s : State) (f : Frame) : Option Nat :=
  let q := portPart s f.dstPort
  let fromMover := decide (64 ≤ f.sub)
  let known := fromMover && isMoverRid s q f.tlp.rid
  let a : Access := {
    needR := needsR f.tlp.kind, needW := needsW f.tlp.kind
    user := fromMover || f.sub != q || !isUpstreamAt s f.srcDev f.srcPort
    srcPart := if fromMover then (if known then some q else none) else some f.sub
    vf := if known then vfOfRid s q f.tlp.rid else none
    debug := false
    own := if fromMover then known else f.sub == q }
  if !checked f.tlp.kind then none
  else if portUp s f.dstPort && hitsBar s q f.tlp.addr then some 64
  else guardDecide s f.dstPort f.tlp.addr (spanOf f.tlp) a

/-- The frame leaves the fabric at a PCIe port of this device. -/
def leavesHere (s : State) (f : Frame) : Bool := f.dstDev == s.dev && (portSpoke s f.outPort).isNone

/-- A guard denial (Table 8.5): counted by entry, recorded for a mover write too, and the frame discarded. -/
def guardDenied (f : Frame) (i : Nat) (s : State) : State :=
  let s1 := count1 (cAct f.dstPort 1 i) s
  let s2 := if f.rcv then episodeRecord true (srcPartOf s f) (frameRec s f 0x0502) s1 else s1
  discard f .guard s2

/-- A completion longer than the Max_Payload_Size of the port it would leave through (Table 7.8). -/
def cplTooLong (f : Frame) (s : State) : State :=
  let p := portPart s f.dstPort
  episodeRecord true p { frameRec s f 0x0414 with
      srcPart := some p, detailA := f.tlp.payload, detailB := (s.port f.dstPort).mps }
    (count1 (cPort f.dstPort 29) (removeFrame f s))

/-- The bit of a TLP blocked as poisoned in the uncorrectable status register. -/
def poisonBlockedBit : Nat := 26

/-- What stops a frame at its target egress: a closed port, its size, blocking, or the guard table. What a port does about a poisoned TLP that
it blocks is a parameter (R316). -/
def reassembled (signal : Nat → Nat → State → State) (f : Frame) (s : State) : State :=
  let queue (s : State) : State :=
    let was := s.hub.frames.any fun g => g.place == .queued && g.outPort == f.outPort && qOf g == qOf f
    let k := f.outPort * 576 + qOf f
    let s1 : State := if was then s
      else { s with sched.backlogSince := tput s.sched.backlogSince k s.now, sched.behind := tput s.sched.behind k (0, s.now) }
    { s1 with hub.frames := (s1.hub.frames.filter fun g => g.fid != f.fid) ++ [{ f with
        place := .queued, epochGuard := s.conf.epoch }] }
  if !leavesHere s f || f.test then queue s
  else
    let port := s.port f.dstPort
    match portClosed s f.dstPort with
    | some why => discard f why s
    | none =>
      let tooLong := decide (port.mps < f.tlp.payload)
      let poison := !portUp s f.dstPort && port.poisonBlock && f.tlp.poisoned
      let blocked (s : State) : State := signal f.dstPort poisonBlockedBit (discard f .blocked s)
      match f.tlp.kind with
      | .completion _ => if tooLong then cplTooLong f s else if poison then blocked s else queue s
      | _ =>
        let blockedAtomic := port.atomicBlock && (match f.tlp.kind with
          | .atomic => true
          | _ => false)
        if tooLong then discard f .size s
        else if poison then blocked s
        else if blockedAtomic then discard f .blocked s
        else match guardFrame s f with
          | some i => guardDenied f i s
          | none => queue s

/-! Egress scheduling (R70, R82 to R90). -/

/-- Credit available for a service and pool of a spoke: the last limit less what has been sent, in serial-number arithmetic,
less the cells that wait to be sent (R182). -/
def cellPool : Nat → Nat
  | 0x1 | 0x4 => 0
  | 0x2 => 1
  | 0x3 => 2
  | _ => 3

/-- The beat of a spoke at this moment: 6.4 GHz, as 8 lanes carry 409,600 Mb/s (Table 3.2; DEDUCED, assumption 154). -/
def beatTick (s : State) : Nat := s.now / 160

/-- A spoke with the credit limits that a check of this moment uses: one that has been raised in the same beat is still the old one (R211). -/
def limitsNow (s : State) (x : Spoke) : Spoke :=
  { x with tx := { x.tx with limit := x.tx.was.foldl (fun l e => if e.2.2 = beatTick s then tset 0 l e.1 e.2.1 else l) x.tx.limit } }

def spokeCredit (s : State) (k svc pool : Nat) : Nat :=
  let x := limitsNow s (s.spoke k)
  let key := svc * 4 + pool
  let d := modDist 65536 (tget 0 x.tx.limit key) (tget 0 x.tx.sent key)
  let room := if d < 32768 then d else 0
  room - (x.tx.unsent.filter fun c => c.hdr.svc == svc && cellPool c.hdr.type == pool).length

/-- A later frame may pass an earlier one under the PCIe ordering rules (R70): ID-based ordering lets any frame pass a posted
request of another ID, relaxed ordering a posted request, a non-posted request with data or a completion; completions of one request stay in
order. -/
def mayPass (later earlier : Frame) : Bool :=
  let ido := later.tlp.idBased && later.tlp.rid != earlier.tlp.rid
  let ro := later.tlp.relaxed && match later.tlp.kind with
    | .memRead | .memReadLocked | .cfgRead | .ioRead => false
    | _ => true
  match streamOf later.tlp.kind, streamOf earlier.tlp.kind with
  | _, 0 => ido || ro
  | 2, 2 => later.tlp.targetId != earlier.tlp.targetId || later.tlp.tag != earlier.tlp.tag
  | _, _ => true

/-- A frame's stream has link credit: a PCIe link's stalls are given with the step, a spoke's are its credit pools. -/
def hasCredit (s : State) (noCredit : List (Nat × Nat)) (f : Frame) : Bool :=
  f.test || match portSpoke s f.outPort with
  | some k => decide (spokeCells f ≤ spokeCredit s k f.svc (creditPool f.tlp.kind))
  | none => !noCredit.contains (f.outPort, streamOf f.tlp.kind)

/-- The frame of a queue that R70 allows now: the head, or the oldest later one that may pass all before it. -/
def nextOf (s : State) (noCredit : List (Nat × Nat)) : List Frame → List Frame → Option Frame
  | _, [] => none
  | passed, f :: r =>
    if hasCredit s noCredit f && passed.all (mayPass f) then some f else nextOf s noCredit (f :: passed) r

def queueFrames (s : State) (port q : Nat) : List Frame :=
  s.hub.frames.filter fun f => f.place == .queued && f.outPort == port && qOf f == q

/-- The candidate frame of a queue, with the semaphore of a LOCKED sequence respected (R246). -/
def candidate (s : State) (noCredit : List (Nat × Nat)) (port q : Nat) : Option Frame :=
  nextOf s noCredit [] ((queueFrames s port q).filter fun f => !lockHeldAgainst s f)

/-- Every maximum shaper on a queue's path is open (R83). -/
def pathOpen (s : State) (port q : Nat) : Bool :=
  shOpen s (shKey 0 (port * 576 + q)) && shOpen s (shKey 2 (port * 72 + q / 8)) &&
    shOpen s (shKey 3 (port * 8 + q % 8)) && shOpen s (shKey 4 port)

/-- The queues of a port that are eligible under R83. -/
def eligibleQueues (s : State) (noCredit : List (Nat × Nat)) (port : Nat) : List Nat :=
  (((s.hub.frames.filter fun f => f.place == .queued && f.outPort == port).map qOf).eraseDups).filter fun q =>
    (candidate s noCredit port q).isSome && pathOpen s port q

/-- The opening time of a queue (R84). -/
def openingTime (s : State) (port q : Nat) : Time :=
  max (s.sh (shKey 1 (port * 576 + q))).openedAt (tget 0 s.sched.backlogSince (port * 576 + q))

/-- The guarantee pass: the open guarantee with the earliest opening time, then the lower queue (R84). -/
def guaranteePass (s : State) (port : Nat) (qs : List Nat) : Option Nat :=
  (qs.filter fun q => shRate s (shKey 1 (port * 576 + q)) != 0 && shOpen s (shKey 1 (port * 576 + q))).foldl
    (fun best q => match best with
      | none => some q
      | some b =>
        if decide (openingTime s port q < openingTime s port b) ||
            (openingTime s port q == openingTime s port b && decide (q < b)) then some q else some b) none

/-- The excess weight of a queue; a strict queue's is 0 (R90). -/
def queueWeight (s : State) (port q : Nat) : Nat :=
  if subStrict s (q / 8) then 0 else rf (s.cfg 0x30 port q) 87 80

/-- The queue of a service that deficit round robin takes (R85, step 3), of the queues named. -/
def chooseQueue (s : State) (noCredit : List (Nat × Nat)) (port svc : Nat) (qs : List Nat) (d : Tbl Int) : Option (Nat × Tbl Int) :=
  let nodes := ((List.range 72).filter fun u => qs.contains (u * 8 + svc)).map fun u => defQueue port (u * 8 + svc)
  drr nodes (fun n => queueWeight s port (n % 576) * 512)
    (fun n => ((candidate s noCredit port (n % 576)).map (chargedLen s)).getD 0) (tget 0 s.sched.pointers (ptrSvc port svc)) d

/-- The excess pass (R85): the highest PRIO band, then the service, then the queue. -/
def excessPass (s : State) (noCredit : List (Nat × Nat)) (port : Nat) (qs : List Nat) :
    Option (Nat × Tbl Int × Tbl Nat) :=
  let qs := qs.filter fun q => queueWeight s port q != 0
  let svcs := (List.range 8).filter fun v => qs.any fun q => q % 8 == v
  let d := portDeficits port qs s.sched.deficits
  let prio (v : Nat) := rf (s.cfg 0x32 port v) 17 16
  let band := (svcs.map prio).foldl max 0
  let picks := (svcs.filter fun v => prio v == band).filterMap fun v => (chooseQueue s noCredit port v qs d).map fun x => (v, x.1 % 576)
  let len (n : Nat) := ((picks.find? fun x => x.1 == (n - 2 ^ 20) % 8).bind fun x =>
    (candidate s noCredit port x.2).map (chargedLen s)).getD 0
  match drr (picks.map fun x => defSvc port x.1) (fun n => max 1 (rf (s.cfg 0x32 port ((n - 2 ^ 20) % 8)) 31 24) * 512) len
      (tget 0 s.sched.pointers (ptrBand port band)) d with
  | none => none
  | some (n, d1) =>
    let v := (n - 2 ^ 20) % 8
    (chooseQueue s noCredit port v qs d1).map fun x =>
      (x.1 % 576, x.2, tset 0 (tset 0 s.sched.pointers (ptrBand port band) (n + 1)) (ptrSvc port v) (x.1 + 1))

/-- The link layer of a port can accept a new frame: its link is up, and no frame is being handed to it. A step names ports
that cannot (stream 3). -/
def canAccept (s : State) (noCredit : List (Nat × Nat)) (p : Nat) : Bool :=
  !noCredit.contains (p, 3) && !(s.hub.frames.any fun f => f.place == .sending && f.outPort == p) &&
    (loopRuns s 4 p || match portSpoke s p with
      | some k => spokeUp s k
      | none => (s.port p).up && !(s.port p).recovery)

/-- The link of a port runs below its configured width or rate: a PCIe link that trained lower, a spoke with a retired lane (R89). -/
def linkShort (s : State) (p : Nat) : Bool := match portSpoke s p with
  | some k => popcount (s.spoke k).active 8 != 8
  | none => decide ((s.port p).width < portWidth s p) || decide ((s.port p).rate < rf (portRec s p) 47 45)

/-- How far a queue's service lies behind its guaranteed rate, over the interval of its backlog that is worst: it grows at the rate and
falls with what is served, and never below 0, which is an interval that starts now. In credit units. -/
def behindNow (s : State) (k : Nat) : Nat :=
  let b := tget (0, s.now) s.sched.behind k
  b.1 + shRate s (shKey 1 k) * (s.now - b.2)

/-- A selection later than g x t - 2 L_max bytes of charged length is counted at a port whose link runs below its configuration (R89). -/
def countShort (f : Frame) (s : State) : State :=
  let k := f.outPort * 576 + qOf f
  let b := behindNow s k
  let lmax : Int := 4352 + lenAdj s f.outPort
  let late := shRate s (shKey 1 k) != 0 && linkShort s f.outPort && decide (2 * lmax * creditUnit < b)
  let s1 := onlyIf late (count1 (cPort f.outPort 12)) s
  { s1 with sched.behind := tput s1.sched.behind k (((b : Int) - chargedLen s f * creditUnit).toNat, s.now) }

/-- Queues and services of a port without anything eligible have deficit 0 (R85). -/
def dropIdle (noCredit : List (Nat × Nat)) (port : Nat) (s : State) : State :=
  { s with sched.deficits := portDeficits port (eligibleQueues s noCredit port) s.sched.deficits }

/-- A selected frame is transmitted unless its age has reached 1 ms (R68), its target closed, or a check under the epoch
now in force denies it (R273); a bridged write from another device is acknowledged (R231). -/
def transmit (f : Frame) (byGuarantee : Bool) (d : Tbl Int) (p : Tbl Nat) (s : State) : State :=
  if ms ≤ age s f then discard f .lifetime s
  else if leavesHere s f && !f.test && f.epochGuard != s.conf.epoch && (guardFrame s f).isSome then
    guardDenied f ((guardFrame s f).getD 64) s
  else
    let s1 := chargePath f byGuarantee s
    let s2 : State := if byGuarantee then s1 else { s1 with sched.deficits := d, sched.pointers := p }
    let s3 := countShort f s2
    let s4 := dropIdle [] f.outPort (modFrame f.fid (fun g => { g with place := .sending, picked := some (coreTick s, byGuarantee) }) s3)
    let far := leavesHere s f && f.srcDev != s.dev && !f.rcv && (match f.tlp.kind with
      | .memWrite => true
      | _ => false)
    if far then pushAck f (ackRecOf s4 f false 0) s4 else s4

/-- One selection at a port (R84 to R87). -/
def selectAt (noCredit : List (Nat × Nat)) (p : Nat) (s : State) : State :=
  let qs := eligibleQueues s noCredit p
  match guaranteePass s p qs with
  | some q => match candidate s noCredit p q with
    | some f => transmit f true [] [] s
    | none => s
  | none => match excessPass s noCredit p qs with
    | some (q, d, ptr) => match candidate s noCredit p q with
      | some f => transmit f false d ptr s
      | none => s
    | none => s

/-- A port holds a queue that qualifies for either pass. -/
def qualifies (s : State) (noCredit : List (Nat × Nat)) (p : Nat) : Bool :=
  let qs := eligibleQueues s noCredit p
  canAccept s noCredit p && ((guaranteePass s p qs).isSome || (excessPass s noCredit p qs).isSome)

/-- One selection of an egress scheduler: round robin over the station's ports that can accept a frame and hold a queue that
qualifies (R82). One that ends in a discard has moved this pointer alone (R85, assumption 136). -/
def selectOne (st : Nat) (noCredit : List (Nat × Nat)) (s : State) : State :=
  let ps := stationPorts s st
  let s := forAll ps (dropIdle noCredit) s
  let from' := tget 0 s.sched.pointers st
  let order := (ps.filter fun p => decide (from' ≤ p)) ++ ps.filter fun p => decide (p < from')
  match order.find? (qualifies s noCredit) with
  | none => s
  | some p => selectAt noCredit p { s with sched.pointers := tset 0 s.sched.pointers st (p + 1) }

/-- The records of chapter 3 that a selection reads: those of queues, subscribers, services and ports (Table 13.4). -/
def schedType (ty : Nat) : Bool := within 0x30 0x33 ty

/-- A selection made in the tick of a commit uses the records of the tick's start; the shapers that it charges then go by the new ones
(R100). -/
def underOld (old : List CfgEntry) (f : State → State) (s : State) : State :=
  let now := s.conf.entries
  let s1 := f { s with conf.entries := now.filter (fun e => !schedType e.typ) ++ old.filter fun e => schedType e.typ }
  let picked := s1.hub.frames.filter fun g => g.place == .sending && (findFrame s g.fid).any fun h => h.place == .queued
  forAll (picked.flatMap fun g => pathShapers g ((g.picked.map (·.2)).getD false)) (fun k s => rebaseSh k (s.sh k).credit s)
    { s1 with conf.entries := now }

def egressSelect (st : Nat) (noCredit : List (Nat × Nat)) (s : State) : State :=
  if s.errs.c4 then s
  else match s.conf.before with
    | some (t, old) => if t = coreTick s then underOld old (selectOne st noCredit) s else selectOne st noCredit s
    | none => selectOne st noCredit s

def execEgressSelect (dt : Time) (station : Nat) (noCredit : List (Nat × Nat)) (s : State) :
    Host.Outcome State Fault Refusal := run dt (okStation station) (egressSelect station noCredit) s

/-! Departure (R65, R66). -/

/-- A departure joins the batch of its mover lane, egress port and issuing device; the sixty-fourth sends it (R66). -/
def batchDeparture (f : Frame) (w : WorkTag) (s : State) : State :=
  let k := (f.srcDev * 8 + (f.sub - 64)) * 128 + f.outPort
  let b := (tfind s.hub.batches k).getD ⟨s.now, [], f.srcDev⟩
  let ns := b.ns ++ [⟨w, 0⟩]
  if 64 ≤ ns.length then sendNotices f.srcDev f.sub ns { s with hub.batches := tdel s.hub.batches k }
  else { s with hub.batches := tput s.hub.batches k ⟨b.first, ns, f.srcDev⟩ }

/-- The cell type of a frame (Table 6.4). -/
def cellType : TlpKind → Nat
  | .memWrite => 0x1
  | .completion _ => 0x3
  | .message _ => 0x4
  | _ => 0x2

/-- The cells of a frame (R174, Table 6.3): a recoverable frame's payload starts with its work tag, and the first cell stands for the
TLP. Sequence and acknowledgement are filled in as each is sent. -/
def cellsFor (f : Frame) : List Cell :=
  cutCells {
      type := cellType f.tlp.kind, pos := 0, svc := f.svc, rcv := f.rcv, colour := f.colour, mark := f.mark, dstDev := f.dstDev
      dstPort := cellPort f
      srcDev := f.srcDev, srcPort := f.srcPort, subscriber := f.sub, hops := f.hops, streamSeq := f.seq % 128, len := 0 }
    (.tlp f.tlp f.work) f.stamp
    ((match f.work with
      | some w => if f.rcv then payBytes 8 (tagWord w) else []
      | none => if f.rcv then payBytes 8 0 else []) ++ tlpBytes f.tlp)

/-- The last byte of a frame reaches its port's link layer (R65): its cells are released, xoff may clear, and what leaves
the fabric here departs. On a spoke port the cells pass to the spoke. A test frame returns to the port's ingress, where it is
checked and discarded, and the generator issues the next (R515). -/
def frameDepart (fid : Nat) (s : State) : State :=
  match findFrame s fid with
  | none => s
  | some f =>
    if f.place != .sending then s
    else
      let st := streamOf f.tlp.kind
      let s1 := removeFrame f s
      let s2 := countBytes (cQueue f.outPort (qOf f) 1) f.tlp.frameBytes (count1 (cQueue f.outPort (qOf f) 0) s1)
      if f.test then issueTest f.outPort (countLoop 4 f.outPort testCells 0 s2) else
      let s3 := countBytes (cPort f.outPort (6 + 2 * st + 1)) f.tlp.frameBytes (count1 (cPort f.outPort (6 + 2 * st)) s2)
      let s4 := bwAdd f.outPort true f.tlp.frameBytes s3
      match portSpoke s f.outPort with
      | some k => modSpoke k (fun x => { x with tx := { x.tx with unsent := x.tx.unsent ++ cellsFor f } }) s4
      | none =>
        let s5 := emit (.tlp f.outPort f.tlp) s4
        match f.work, f.tlp.kind with
        | some w, _ => batchDeparture f w s5
        | none, .message .unlock => unlockHandedOff f s5
        | none, _ => s5

def execFrameDepart (dt : Time) (fid : Nat) (s : State) : Host.Outcome State Fault Refusal := run dt true (frameDepart fid) s

/-- 2 µs after the first unreported departure a batch is sent (R66). -/
def execNoticeBatchTimer (dt : Time) (lane port : Nat) (s : State) : Host.Outcome State Fault Refusal :=
  run dt (okSvc lane && okPort port) (fun s =>
    forAll (s.hub.batches.filter fun e => e.1 % 128 == port && e.1 / 128 % 8 == lane && s.since e.2.first (2 * us))
      (fun e s => sendNotices e.2.dev (64 + lane) e.2.ns { s with hub.batches := tdel s.hub.batches e.1 }) s) s

/-- The sweep discards every queued frame aged 992 µs or more (R68). -/
def execLifetimeSweep (dt : Time) (s : State) : Host.Outcome State Fault Refusal :=
  run dt true (fun s => flushWhere (fun f => f.place == .queued && decide (992 * us ≤ age s f)) .lifetime s) s

end Sys2Proof.Machine
end

