-- ==== Sys2Proof/Machine/Bridge.lean ====
section
/-! DEFINITION. The crossing bridge's answers, timeouts, episodes and messages (chapter 7). -/

namespace Sys2Proof.Machine

/-- The frame a completion is matched as (R227): its subscriber is the completer's partition. -/
def cplFrame (s : State) (spoke : Option Nat) (sub svc : Nat) (t : Tlp) : Frame :=
  { freshFrame s t t ((spoke.map (· / 2)).getD 20) sub svc 0 s.dev 0 none with rxSpoke := spoke, origin := none }

/-- The service in which a matched completion goes on to its requester: its traffic class at the requester's port (R38). -/
def cplSvc (s : State) (sub : Nat) (t : Tlp) : Nat :=
  match s.bridge.tags.find? fun x => x.2.live && x.2.asPart == sub && x.2.asRid == t.targetId && x.2.wireTag == t.tag with
  | some (_, e) => svcOf s e.origPort t.tc
  | none => 0

/-- BRIDGED_COMPLETION (R227). A TLP that is no completion is not this event. -/
def execBridgedCompletion (dt : Time) (spoke : Option Nat) (sub colour : Nat) (t : Tlp) (s : State) :
    Host.Outcome State Fault Refusal :=
  run dt (okSpokeOpt spoke && okSub sub) (fun s =>
    if streamOf t.kind = 2 then matchCompletion { cplFrame s spoke sub (cplSvc s sub t) t with colour := min colour 2, slots := false } s
    else s) s

/-- TAG_QUARANTINE_END (R228). -/
def execTagQuarantineEnd (dt : Time) (entry : Nat) (s : State) : Host.Outcome State Fault Refusal :=
  run dt (okTag entry) (fun s => match tfind s.bridge.tags entry with
    | some e => if !e.live && decide (e.freeAt ≤ s.now) then freeTag entry s else s
    | none => s) s

/-- TRACKER_NO_ANSWER (R233). -/
def execTrackerNoAnswer (dt : Time) (trk : Nat) (s : State) : Host.Outcome State Fault Refusal :=
  run dt (okTracker trk) (fun s => match tfind s.bridge.trackers trk with
    | some t => if s.since t.issued (8 * ms) then failTracker trk 8 true s else s
    | none => s) s

/-- TRACKER_QUARANTINE_END (R233). -/
def execTrackerQuarantineEnd (dt : Time) (trk : Nat) (s : State) : Host.Outcome State Fault Refusal :=
  run dt (okTracker trk) (fun s => match tfind s.bridge.trackers trk with
    | some t => if !t.live && decide (t.freeAt ≤ s.now) then { s with bridge.trackers := tdel s.bridge.trackers trk } else s
    | none => s) s

/-- ACK_BATCH: 1 µs after the first unsent acknowledgement for a source device and partition (R231, R232). -/
def execAckBatch (dt : Time) (dev : Nat) (s : State) : Host.Outcome State Fault Refusal :=
  run dt (okDev dev) (fun s =>
    forAll (s.bridge.acks.filter fun e => e.1 / 64 == dev && s.since e.2.first us)
      (fun e s => post (.ackCell dev (e.1 % 64) e.2.recs) { s with bridge.acks := tdel s.bridge.acks e.1 }) s) s

/-- An ACK record names a tracker by flow and count (R231). -/
def answers (r : AckRec) (t : Tracker) : Bool :=
  t.srcPort == r.srcPort && t.dstDev == r.dstDev && t.dstPort == r.dstPort && t.svc == r.svc && t.seq % 128 == r.seq % 128

/-- An answer for no LIVE tracker is discarded, counted and logged (R233); one for a write of a partition that was reset
leaves no record (Table 7.11). -/
def lateAnswer (r : AckRec) (t : Option Tracker) (s : State) : State :=
  let part := match t with
    | some t => t.srcPart
    | none => portPart s r.srcPort
  let s1 := count1 (cPart part 1) s
  match t with
  | some t => if t.silent then s1 else episodeRecord true part { trackerRec t s with cause := 0x0413, cls := 1 } s1
  | none => episodeRecord true part { cause := 0x0413, cls := 1, srcDev := s.dev, srcPort := r.srcPort, srcPart := some part,
                                       dstDev := r.dstDev, dstPort := r.dstPort } s1

/-- One answer (R233). -/
def resolveAnswer (r : AckRec) (s : State) : State :=
  match s.bridge.trackers.find? fun x => x.2.live && answers r x.2 with
  | some (i, _) => if r.nak then failTracker i r.cause false s else { s with bridge.trackers := tdel s.bridge.trackers i }
  | none => lateAnswer r ((s.bridge.trackers.find? fun x => answers r x.2).map (·.2)) s

/-- ACK_CELL_RECEIVED (R233, R242). -/
def execAckCellReceived (dt : Time) (recs : List AckRec) (s : State) : Host.Outcome State Fault Refusal :=
  run dt true (forAll recs resolveAnswer) s

/-- An episode may close by time: no fence holds it open (R238). -/
def closable (s : State) (e : Episode) : Bool :=
  s.since e.last ms && !(e.cause == 0 && fenced s e.part e.dev e.port)

/-- EPISODE_CLOSE (R238, R324). Cause 0 names the write failures of a key. -/
def execEpisodeClose (dt : Time) (cause srcPart dstDev dstPort : Nat) (s : State) : Host.Outcome State Fault Refusal :=
  run dt (okEpisodePart srcPart && okDev dstDev && okPort dstPort) (fun s => match findEpisode s cause srcPart dstDev dstPort with
    | some e =>
      if closable s e then
        closeEpisode e { s with bridge.episodes := s.bridge.episodes.filter fun x =>
          !(x.cause == cause && x.part == srcPart && x.dev == dstDev && x.port == dstPort) }
      else s
    | none => s) s

/-- The ranges of a bridge on another device, newest message kept (R249). -/
def takeRange (m : RangeMsg) (s : State) : State :=
  { s with bridge.ranges := (s.bridge.ranges.filter fun x => !(x.part == m.part && x.dev == m.dev && x.port == m.port)) ++ [m] }

/-- RANGE_SYNC (R249). -/
def execRangeSync (dt : Time) (m : RangeMsg) (s : State) : Host.Outcome State Fault Refusal :=
  run dt (okPart m.part && okDev m.dev && okPort m.port) (takeRange m) s

end Sys2Proof.Machine
end

