-- ==== Sys2Proof/Machine/Sha3.lean ====
section
/-! DEFINITION. SHA3-256 (FIPS 202, named by R3), the digest of configurations, images and measurements. -/

namespace Sys2Proof.Machine

/-! The state is a list of 25 lanes, lane (x, y) at place x + 5 y. -/

/-- The lane at column x, row y, both taken modulo 5. -/
def laneAt (a : List Word64) (x y : Nat) : Word64 := a.getD (x % 5 + 5 * (y % 5)) 0

/-- The exclusive or of a list of lanes. -/
def xorAll (l : List Word64) : Word64 := l.foldl (· ^^^ ·) 0

/-- Theta: every lane takes the parities of the column before it and of the column after it, the latter turned by one. -/
def theta (a : List Word64) : List Word64 :=
  let parity (x : Nat) : Word64 := xorAll ((List.range 5).map (laneAt a x))
  (List.range 25).map fun i => laneAt a i (i / 5) ^^^ parity (i + 4) ^^^ (parity (i + 1)).rotateLeft 1

/-- Rho and pi in one walk of 24 places from column 1, row 0: the lane of step t turns by the (t + 1)-th triangular number and
moves to column y, row 2 x + 3 y, the place of the next step. Lane (0, 0) stays. -/
def rhoPi (a : List Word64) : Nat → Nat → Nat → Nat → List Word64 → List Word64
  | 0, _, _, _, acc => acc
  | n + 1, t, x, y, acc =>
    let row := (2 * x + 3 * y) % 5
    rhoPi a n (t + 1) y row (acc.set (y + 5 * row) ((laneAt a x y).rotateLeft ((t + 1) * (t + 2) / 2 % 64)))

/-- Chi: a lane changes where the next lane of its row is 0 and the one after it is 1. -/
def chi (a : List Word64) : List Word64 :=
  (List.range 25).map fun i => laneAt a i (i / 5) ^^^ (laneAt a (i + 2) (i / 5) &&& ~~~ laneAt a (i + 1) (i / 5))

/-- One step of the register that makes the round constants: x^8 + x^6 + x^5 + x^4 + 1. -/
def lfsrStep (r : Nat) : Nat := if r < 128 then 2 * r else (2 * r) ^^^ 0x171

/-- The bits of one round's constant, at places 2^j - 1 for j = 0 to 6, from register value r. -/
def iotaBits : Nat → Nat → Nat → Word64
  | 0, _, _ => 0
  | n + 1, j, r => (if r % 2 = 1 then BitVec.ofNat 64 (2 ^ (2 ^ j - 1)) else 0) ^^^ iotaBits n (j + 1) (lfsrStep r)

/-- n rounds, the register of the round constants at r before the first; each round uses 7 of its bits (iota). -/
def keccakRounds : Nat → Nat → List Word64 → List Word64
  | 0, _, a => a
  | n + 1, r, a =>
    let b := theta a
    let c := chi (rhoPi b 24 0 1 0 b)
    keccakRounds n ((List.range 7).foldl (fun r _ => lfsrStep r) r) (c.set 0 (laneAt c 0 0 ^^^ iotaBits 7 0 r))

/-- Keccak-f[1600]: 24 rounds. -/
def keccakF (a : List Word64) : List Word64 := keccakRounds 24 1 a

/-- The message with SHA-3's suffix and padding, to a multiple of 136 bytes. -/
def sha3Pad (m : List Byte) : List Byte :=
  let n := 136 - m.length % 136
  if n = 1 then m ++ [0x86] else m ++ [0x06] ++ List.replicate (n - 2) 0 ++ [0x80]

/-- SHA3-256 of a byte string; byte 0 of the digest is the lowest. -/
def sha3 (m : List Byte) : BitVec 256 :=
  let p := sha3Pad m
  let final := (chunks 136 (p.length / 136) p).foldl (fun a blk =>
    let w := bytesToQuads blk
    keccakF ((List.range 25).map fun i => a.getD i 0 ^^^ w.getD i 0)) (List.replicate 25 (0 : Word64))
  BitVec.ofNat 256 (ofLeBytes ((final.take 4).flatMap fun q => leBytes 8 q.toNat))

/-- The first 8 bytes of a digest, as PLUMB messages and DIGEST_PFX carry them. -/
def digestPfx (d : BitVec 256) : Nat := d.toNat % 2 ^ 64

end Sys2Proof.Machine
end

