-- ==== Sys2Proof/Machine/Spokes.lean ====
section
/-! DEFINITION. Spokes: cells, credits, replay, lane retirement, going down, buckets (R164 to R194, R205 to R208). -/

namespace Sys2Proof.Machine

/-- Lanes in use (R165). -/
def laneCount (x : Spoke) : Nat := popcount x.active 8
/-- Beats of a cell (R172). -/
def cellBeats (x : Spoke) (c : Cell) : Nat := ceilDiv (16 + c.hdr.len) (laneCount x)
/-- Pool key of a cell: service and credit pool. -/
def poolKey (c : Cell) : Nat := c.hdr.svc * 4 + cellPool c.hdr.type

/-- The first spoke counters of Table 18.1, in their order. -/
def ckCellsTx := 0
def ckCellsRx := 1
def ckBeatsTx := 2
def ckBeatsRx := 3
def ckTransient := 4
def ckRetry := 5
def ckBadBeat := 6
def ckHopLimit := 7
def ckBucketMoves := 8
def ckUnknownMgmt := 9
def ckStall := 10
def ckPathLost := 14
def ckFailedTry := 15

/-! Fabric-wide facts that many steps of a spoke need: plumb (R204, R423) and lagging epochs (R425). -/

/-- The device is out of plumb while any spoke that is up is (R423); a spoke that is down is not (R204; DEDUCED, assumption 166). -/
def outOfPlumb (s : State) : Bool := (upSpokes s).any fun k => !(s.stime k).inPlumb

/-- Bring the device's plumb state up to date. -/
def settlePlumb (s : State) : State := { s with errs.outOfPlumb := outOfPlumb s }

/-- A spoke goes out of plumb or returns: the PLUMB cause sets in every partition (Table 12.9), and going out writes a record (Table 10.4). -/
def setPlumb (k : Nat) (on : Bool) (s : State) : State :=
  if (s.stime k).inPlumb = on then s
  else
    let s1 := settlePlumb (raiseCauseAll 6 (modStime k (fun x => { x with inPlumb := on }) s))
    if on then s1 else record [] { devRec s1 0x0204 0 0 0 with srcPort := spokePort s1 k } s1

/-- A newer epoch is seen: one EPOCH_BEHIND record for each (R425). -/
def sawEpoch (n : Nat) (s : State) : State :=
  if serialNewer n s.conf.epoch && !s.errs.behind.contains n then
    deviceRecord 0x0902 0 s.conf.epoch n { s with errs.behind := s.errs.behind ++ [n] }
  else s

/-! Buckets (R206 to R208). -/

/-- Destinations with an enabled route that names a spoke. -/
def destsOf (s : State) (k : Nat) : List Nat :=
  (((s.mine 0x50).filter fun e => rb e.data 63 && (routePorts e.data).contains (spokePort s k)).map (·.a))

def putBucket (d b : Nat) (x : Bucket) (s : State) : State :=
  { s with spokes.buckets :=
      if x = { spoke := homeSpoke s d b } then tdel s.spokes.buckets (d * 16 + b) else tput s.spokes.buckets (d * 16 + b) x }

/-- Give buckets of a destination to the spokes that are up, round robin in bucket order (R207). -/
def reassign (d : Nat) (hold : Bool) (s : State) : List Nat → Nat → State
  | [], _ => s
  | b :: r, i =>
    let ups := (routeSpokes s d).filter (spokeUp s)
    let x := s.bucket d b
    let to' := match ups[i % ups.length]? with
      | some k => some k
      | none => x.spoke
    reassign d hold (putBucket d b { spoke := to', movingSince := if hold then some s.now else x.movingSince } s) r (i + 1)

/-- Cells that waited for a bucket leave for its spoke; without an enabled route, or a spoke that is up, they are discarded and counted
(R205, R207). -/
def releaseCtl (d b : Nat) (s : State) : State :=
  let mine := s.spokes.ctl.filter fun e => e.1 == d * 16 + b
  let s1 : State := { s with spokes.ctl := s.spokes.ctl.filter fun e => e.1 != d * 16 + b }
  let out := ((s1.bucket d b).spoke).filter fun k => routeEn s1 d && spokeUp s1 k
  match out with
  | some k => modSpoke k (fun x => { x with tx := { x.tx with unsent := x.tx.unsent ++ mine.map (·.2) } }) s1
  | none => forAll mine (fun _ => countLost (168 + d)) s1

/-- The buckets of a spoke that goes down move (R207); those that waited to move back to it stay where they are (R208). -/
def moveBuckets (k : Nat) (s : State) : State :=
  forAll (destsOf s k) (fun d s =>
    let mine := (List.range 16).filter fun b => (s.bucket d b).spoke == some k
    let stay := (List.range 16).filter fun b =>
      homeSpoke s d b == some k && (s.bucket d b).backSince.isSome && (s.bucket d b).spoke != some k
    let s1 := forAll stay (fun b s => releaseCtl d b (putBucket d b { s.bucket d b with backSince := none, readyAt := none } s)) s
    countBy (cSpoke k ckBucketMoves) mine.length (reassign d true s1 mine 0)) s

/-- The cells being sent. -/
def goingCells (x : Spoke) : List Cell := (x.tx.cur.toList ++ x.tx.pre.toList).filterMap fun g => if g.again then none else some g.cell

/-- Everything of a bucket on its present spoke has been sent and acknowledged, and the partner has freed its slots (R208). -/
def bucketClear (s : State) (d b : Nat) : Bool :=
  match (s.bucket d b).spoke with
  | none => true
  | some k =>
    let x := s.spoke k
    let ofBucket (c : Cell) : Bool :=
      c.hdr.dstDev == d && bucketOf c.hdr.srcDev c.hdr.srcPort d c.hdr.dstPort c.hdr.svc == b
    !((goingCells x ++ x.tx.unsent ++ x.tx.replay).any ofBucket) &&
      !(s.hub.frames.any fun f => f.place != .waiting && f.outPort == spokePort s k && f.dstDev == d && frameBucket f == b) &&
      x.tx.lastSent.all fun e => e.1 / 32 != d * 16 + b ||
        decide (modDist 65536 (tget 0 x.tx.limit (e.1 % 32)) (tget 0 x.tx.base (e.1 % 32) + e.2) < 32768)

/-- Note the moment at which a bucket that waits to move back becomes clear. -/
def noteBuckets (s : State) : State :=
  forAll ((s.spokes.buckets.filter fun e => e.2.backSince.isSome && e.2.readyAt.isNone && bucketClear s (e.1 / 16) (e.1 % 16)))
    (fun e s => { s with spokes.buckets := tput s.spokes.buckets e.1 { e.2 with readyAt := some s.now } }) s

/-- A bucket begins to wait for its move back to its entry's spoke. -/
def startBack (d b : Nat) (s : State) : State :=
  noteBuckets (putBucket d b { s.bucket d b with movingSince := none, backSince := some s.now, readyAt := none } s)

/-- A spoke has come up: its own buckets begin to move back, and buckets without any spoke take it (R207, R208). -/
def homeBuckets (k : Nat) (s : State) : State :=
  forAll (destsOf s k) (fun d s => forAll (List.range 16) (fun b s =>
    let x := s.bucket d b
    if x.spoke == some k then s
    else if x.movingSince.isSome then
      match x.spoke with
      | some j => if spokeUp s j then s else putBucket d b { x with spoke := some k } s
      | none => putBucket d b { x with spoke := some k } s
    else if homeSpoke s d b == some k then startBack d b s
    else match x.spoke with
      | some j => if spokeUp s j then s else putBucket d b { spoke := some k } s
      | none => putBucket d b { spoke := some k } s) s) s

/-- After a commit of a destination's route record: each bucket maps to its entry's spoke, or is reassigned at once when that
spoke is not up; cells that waited for their bucket leave by the new map (R206). -/
def remapRoute (d : Nat) (s : State) : State :=
  let s1 : State := { s with spokes.buckets := tkeep s.spokes.buckets fun i _ => i / 16 != d }
  let s2 := if routeEn s1 d then
      reassign d false s1 ((List.range 16).filter fun b => match homeSpoke s1 d b with
        | some k => !spokeUp s1 k
        | none => true) 0
    else s1
  forAll (List.range 16) (releaseCtl d) s2

/-! Sending cells (R182 to R185). -/

/-- The cells of the frame that begins at the head of a list, within its pool and service. -/
def frameLen : List Cell → Nat
  | [] => 0
  | c :: r => if c.hdr.pos == 0 || c.hdr.pos == 3 then 1 else 1 + frameLen r

/-- Slots of a pool the partner still grants (R182). -/
def slotsLeft (x : Spoke) (key : Nat) : Nat :=
  let d := modDist 65536 (tget 0 x.tx.limit key) (tget 0 x.tx.sent key)
  if d < 32768 then d else 0

/-- A cell may start: it is the oldest of its pool, with credit for its frame. -/
def maySend (x : Spoke) (before : List Cell) (c : Cell) (after : List Cell) : Bool :=
  !before.any (fun e => poolKey e == poolKey c) &&
    decide ((if c.hdr.pos == 0 || c.hdr.pos == 1 then frameLen ((c :: after).filter fun e => poolKey e == poolKey c) else 1)
      ≤ slotsLeft x (poolKey c))

/-- The index of the first cell that may start and satisfies a condition. -/
def pickCell (x : Spoke) (p : Cell → Bool) : List Cell → List Cell → Nat → Option (Nat × Cell)
  | _, [], _ => none
  | before, c :: r, i => if p c && maySend x before c r then some (i, c) else pickCell x p (before ++ [c]) r (i + 1)

/-- The replay buffer has room for another cell beside those being sent (R185). -/
def replayRoom (x : Spoke) : Bool :=
  let cs := x.tx.replay ++ goingCells x
  decide ((cs.map fun c => 16 + c.hdr.len).sum + 272 ≤ 65536) && decide (cs.length < 1024)

/-- A cell with its link sequence, kept when it is sent again, and the acknowledgement of this moment (R185, R186). -/
def sealCell (x : Spoke) (g : Going) : Cell :=
  { g.cell with
    lseq := if g.again then g.cell.lseq else x.tx.nextSeq
    ackSeq := (x.rx.expSeq + 2047) % 2048, ackV := x.rx.accepted }

/-- A cell has been sent to its end: a new one takes its sequence and enters the replay buffer, unless a remote loop has disabled replay
(R185, R516); its trailer has acknowledged (R186). -/
def cellSent (k : Nat) (c : Cell) (again : Bool) (s : State) : State :=
  let x := s.spoke k
  let key := poolKey c
  let n := (tget 0 x.tx.sent key + 1) % 65536
  let bkt := (c.hdr.dstDev * 16 + bucketOf c.hdr.srcDev c.hdr.srcPort c.hdr.dstDev c.hdr.dstPort c.hdr.svc) * 32 + key
  let tx := if again then x.tx else { x.tx with
    nextSeq := (x.tx.nextSeq + 1) % 2048, replay := if loopLink s k then x.tx.replay else x.tx.replay ++ [c]
    sent := tset 0 x.tx.sent key n, lastSent := tput x.tx.lastSent bkt n
    progress := if x.tx.replay.isEmpty then s.now else x.tx.progress }
  emit (.cell k c) (count1 (cSpoke k ckCellsTx) (modSpoke k (fun x => { x with tx := tx, rx := { x.rx with owedAck := none } }) s))

/-- Send up to n beats of a cell (R172). Its trailer is fixed when its first byte goes out. Answers the cell as far as it has been sent,
none when it has been sent to its end, and the beats left. -/
def sendPiece (k n : Nat) (g : Going) (s : State) : Option Going × Nat × State :=
  let x := s.spoke k
  let w := max 1 (laneCount x)
  let c := if g.sent ≤ 8 + g.cell.hdr.len then sealCell x g else g.cell
  let piece := ((cellBytes c).drop g.sent).take (n * w)
  let m := ceilDiv piece.length w
  let s1 := countBy (cSpoke k ckBeatsTx) m (sendRows k (dataBeats w piece) s)
  if 16 + c.hdr.len ≤ g.sent + piece.length then (none, n - m, cellSent k c g.again s1)
  else (some { g with cell := c, sent := g.sent + piece.length }, 0, s1)

/-- Go on with the cell being sent. -/
def sendCur (k n : Nat) (g : Going) (s : State) : State :=
  let r := sendPiece k n g s
  modSpoke k (fun x => { x with tx := { x.tx with cur := r.1 } }) r.2.2

/-- Go on with the cell that interrupts another; at its end RESUME names the service of the interrupted cell, which goes on (R183). -/
def sendPre (k n : Nat) (g : Going) (s : State) : State :=
  let r := sendPiece k n g s
  let s1 := modSpoke k (fun x => { x with tx := { x.tx with pre := r.1 } }) r.2.2
  match r.1, (s.spoke k).tx.cur with
  | none, some a =>
    let s2 := sendBeat k 3 a.cell.hdr.svc 0 s1
    if r.2.1 = 0 then s2 else sendCur k r.2.1 a s2
  | _, _ => s1

/-- A cell that may interrupt the cell being sent (R183): a higher service that the record lets preempt, while 8 beats remain of a cell
that is not being replayed. -/
def preemptor (s : State) (k : Nat) (g : Going) : Option (Nat × Cell) :=
  let r := spokeRec s k
  let x := limitsNow s (s.spoke k)
  if rb r 48 && !g.again && replayRoom x && decide (8 ≤ ceilDiv (16 + g.cell.hdr.len - g.sent) (laneCount x)) then
    pickCell x (fun b => decide (rf r 47 45 ≤ b.hdr.svc) && decide (g.cell.hdr.svc < b.hdr.svc)) [] x.tx.unsent 0
  else none

/-- The test cell of a spoke loop-back with a count: a 256-byte payload of counting data (R516). -/
def testCell (n : Nat) : Cell :=
  { hdr := { type := 1, pos := 0, svc := 0, rcv := false, colour := 0, mark := false, dstDev := 0, dstPort := 0, srcDev := 0
             srcPort := 0, subscriber := 0, hops := 0, streamSeq := n % 128, len := 256 }
    body := .more, lseq := 0, ackSeq := 0, ackV := false, ageStamp := 0
    data := (List.range 256).map fun i => BitVec.ofNat 8 (n + i) }

/-- The generator of a spoke loop-back hands over its next test cell (R516). -/
def nextTest (k : Nat) (s : State) : State :=
  match s.count.loops.find? fun l => l.depth == 5 && l.target == k && l.state == 1 with
  | some l =>
    if (s.spoke k).state = 6 ∧ (s.spoke k).tx.unsent.isEmpty ∧ (s.spoke k).tx.cur.isNone then
      modLoop 5 k (fun l => { l with sent := l.sent + 1 })
        (modSpoke k (fun x => { x with tx := { x.tx with unsent := [testCell l.sent] } }) s)
    else s
  | none => s

/-- Take the i-th cell that waits. -/
def takeUnsent (k i : Nat) (s : State) : State :=
  modSpoke k (fun x => { x with tx := { x.tx with unsent := x.tx.unsent.eraseIdx i } }) s

/-- SPOKE_CELL_SEND: the sender works for n beats. A cell under way goes on, or is interrupted by a cell that may preempt it; else the
next cell to be replayed starts, or the oldest new cell that may (R182 to R185, R188). While a lane change is due nothing is sent: a replay
waits for it (R211). -/
def sendCellOn (k n : Nat) (s : State) : State :=
  let x := limitsNow s (s.spoke k)
  if x.state ≠ 6 ∨ s.errs.c4 ∨ n = 0 ∨ x.rx.switch.isSome then s
  else match x.tx.pre, x.tx.cur, x.tx.resend with
    | some b, _, _ => sendPre k n b s
    | none, some a, _ => match preemptor s k a with
      | some (i, b) => sendPre k n ⟨b, 0, false⟩ (sendBeat k 2 b.hdr.svc 0 (takeUnsent k i s))
      | none => sendCur k n a s
    | none, none, c :: r => sendCur k n ⟨c, 0, true⟩ (modSpoke k (fun x => { x with tx := { x.tx with resend := r } }) s)
    | none, none, [] =>
      if !replayRoom x then s
      else match pickCell x (fun _ => true) [] x.tx.unsent 0 with
        | some (i, a) => sendCur k n ⟨a, 0, false⟩ (takeUnsent k i s)
        | none => match x.tx.unsent with
          | c :: _ => count1 (cSpoke k (ckStall + cellPool c.hdr.type)) s
          | [] => s

def execSpokeCellSend (dt : Time) (spoke beats : Nat) (s : State) : Host.Outcome State Fault Refusal :=
  run dt (okSpoke spoke) (fun s => sendCellOn spoke beats (nextTest spoke s)) s

/-! Acknowledgements and replay (R186, R188). -/

/-- Cells of one frame carry the same header but for position and length. -/
def sameFrame (a b : Cell) : Bool := { a.hdr with pos := 0, len := 0 } == { b.hdr with pos := 0, len := 0 }

/-- An acknowledgement covers the cells up to a sequence. -/
def ackCells (k seq : Nat) (s : State) : State :=
  let tx := (s.spoke k).tx
  if tx.replay.any fun c => c.lseq == seq then
    let keep := (tx.replay.dropWhile fun c => c.lseq != seq).drop 1
    let gone := tx.replay.take (tx.replay.length - keep.length)
    let open' := (tx.openCells ++ gone.filter fun c => c.hdr.pos == 1).filter fun c =>
      !(gone.any fun e => e.hdr.pos == 3 && sameFrame e c)
    noteBuckets (modSpoke k (fun x => { x with tx := { x.tx with
      replay := keep, openCells := open', fires := 0, progress := s.now
      resend := x.tx.resend.filter fun c => keep.any fun e => e.lseq == c.lseq } }) s)
  else s

/-- Resend every buffered cell from a sequence onward (R188): cells not yet sent in full are abandoned and wait again, and the buffered
ones from that sequence on are sent next, oldest first. A replay holds back the copy of the lanes' coefficients (R126). -/
def beginReplay (k seq : Nat) (s : State) : State :=
  count1 (cPort (spokePort s k) 17) (modSpoke k (fun x => { x with
    tx := { x.tx with
      unsent := goingCells x ++ x.tx.unsent, cur := none, pre := none
      resend := x.tx.replay.filter fun c => decide (modDist 2048 c.lseq seq < 1024) }
    rx := { x.rx with lastError := s.now } }) s)

/-! Going down (R193, R194). -/

/-- A frame lost with a spoke: a PATH_LOST notice, or its tracker or tag here ends (R194, R234). -/
def loseFrame (k : Nat) (f : Frame) (s : State) : State :=
  if f.rcv then dropNotice f 0x8 (count1 (cSpoke k ckPathLost) s)
  else match f.tracker, f.tagEntry with
    | some i, _ => failTracker i 0x9 false s
    | none, some i => if isNp f.tlp.kind then timeoutTag i 0x9 s else s
    | none, none => s

/-- A cell lost with a spoke stands for its frame when it is the frame's first. -/
def loseCell (k : Nat) (c : Cell) (s : State) : State :=
  match c.body with
  | .tlp t work =>
    if c.hdr.rcv then match work with
      | some w => sendNotices c.hdr.srcDev c.hdr.subscriber [⟨w, 0x8⟩] (count1 (cSpoke k ckPathLost) s)
      | none => s
    else if c.hdr.srcDev != s.dev then s
    else if c.hdr.type == 1 then
      match s.bridge.trackers.find? fun x => x.2.live && x.2.srcPort == c.hdr.srcPort && x.2.dstDev == c.hdr.dstDev &&
          x.2.dstPort == c.hdr.dstPort && x.2.svc == c.hdr.svc && x.2.seq % 128 == c.hdr.streamSeq with
      | some (i, _) => failTracker i 0x9 false s
      | none => s
    else if c.hdr.type == 2 then
      match s.bridge.tags.find? fun x => x.2.live && x.2.asRid == t.rid && x.2.wireTag == t.tag && x.2.dstDev == c.hdr.dstDev &&
          x.2.origPort == c.hdr.srcPort && x.2.dstPort == c.hdr.dstPort && (decide (64 ≤ c.hdr.subscriber) || x.2.srcPart == c.hdr.subscriber) with
      | some (i, _) => timeoutTag i 0x9 s
      | none => s
    else s
  | _ => s

/-- The partner is gone: what the link held is cleared, each lane's running disparity with it; the next bring-up starts (R164, R194, R195).
`next` is the state it leaves; a bring-up takes in the lanes that are to be re-admitted (R192). -/
def clearLink (next : Nat) (x : Spoke) : Spoke :=
  let m := if next = 0 then x.laneMask else x.laneMask ||| x.readmit
  { x with state := next, tx := {}, rx := {}, localDone := false, peerKnown := false, peerFlags := 0, localWarm := false
           exchangeSpoiled := true, remoteLoop := false, idFailRec := if x.state = 6 then false else x.idFailRec
           laneMask := m, active := m, readmit := if next = 0 then x.readmit else 0 }

/-- The flags of this end's TRAIN message (Table 6.9): warm intent, the steps it has finished, and the request for a remote loop
(R516). -/
def trainFlags (s : State) (k : Nat) : Nat :=
  let x := s.spoke k
  b2n x.localWarm + 2 * b2n (decide (3 ≤ x.state) || x.state == 2 && x.localDone) + 4 * b2n (decide (5 ≤ x.state) || x.state == 4 && x.localDone) +
    8 * b2n (x.state == 5 && x.localDone) + 16 * b2n (loopRuns s 5 k)

/-- The TRAIN message this end sends (Table 6.9). -/
def ownTrain (s : State) (k : Nat) : Train :=
  { serial := s.sec.serial, mask := (s.spoke k).laneMask, flags := trainFlags s k, devnum := s.dev }

/-- A spoke without a link sends TRAIN beats on its usable lanes (R195): whenever its message changes, and from then on without end. -/
def sendTrain (k : Nat) (s : State) : State :=
  if spokeEn s k then sendParts k 9 0 (trainValues (ownTrain s k)) (emit (.train k (ownTrain s k)) s) else s

/-- A request of cold equalisation to the partner's transmitter: lane, request and preset (Table 6.8 step 4, Table 6.9). -/
def sendAsk (k : Nat) (ask : Nat × Nat × Nat) (s : State) : State :=
  let t : Train := { ownTrain s k with eqLane := ask.1, eqReq := ask.2.1, preset := ask.2.2 }
  if spokeEn s k then sendParts k 9 0 (trainValues t) (emit (.train k t) s) else s

/-- The tandem link is up while one of its spokes is (R427). -/
def tandemLinkUp (s : State) : Bool := s.tandem.spokes.any fun k => spokeUp s k && rb (spokeRec s k) 49

/-- The tandem link has come up or gone down since it was `was` (R378, R427). -/
def noteTandem (was : Bool) (s : State) : State :=
  if tandemLinkUp s = was then s
  else { s with tandem.tLink := s.ft.count, tandem.linkDownAt := if was then some s.now else none }

/-- The eye records of lanes whose link goes down are no longer valid (Table 4.6). -/
def clearEyes (ls : List Nat) (s : State) : State :=
  forAll ls (fun l s => modLane l (fun x => { x with eyeValid := false, margining := false }) s) s

/-- The time upstream: among up spokes whose responder is locked, the lowest hop count, then the lower port (R200). -/
def chooseUpstream (s : State) : Option Nat :=
  ((upSpokes s).filter fun k => (s.stime k).locked).foldl (fun best k => match best with
    | none => some k
    | some b =>
      if (s.stime k).hops < (s.stime b).hops ∨
        ((s.stime k).hops = (s.stime b).hops ∧ spokePort s k < spokePort s b) then some k else some b) none

/-- Choose the time upstream: the own hop count follows it, and the run of good exchanges starts again on another one (R200, R202). The
master has none. -/
def setUpstream (s : State) : State :=
  if s.ft.master then { s with ft.upstream := none }
  else match chooseUpstream s with
    | none => { s with ft := { s.ft with upstream := none, good := 0 } }
    | some k => { s with ft := { s.ft with
        upstream := some k, hops := (s.stime k).hops + 1, masterDev := (s.stime k).master
        good := if s.ft.upstream = some k then s.ft.good else 0 } }

/-- A spoke that is up loses its link (R194): lost frames and cells, moving buckets, plumb and time. -/
def dropLink (k next : Nat) (s : State) : State :=
  let tx := (s.spoke k).tx
  let lostCells := tx.openCells ++ tx.replay ++ goingCells (s.spoke k) ++ tx.unsent
  let p := spokePort s k
  let lost := s.hub.frames.filter (framesFor p)
  let wasTandem := tandemLinkUp s
  let gone (f : Frame) : Frame := if f.rxSpoke == some k then { f with slots := false } else f
  let s1 := modSpoke k (clearLink next) { s with hub.frames := s.hub.frames.map gone }
  let s2 := moveBuckets k (forAll lost removeFrame s1)
  let s3 := forAll lost (loseFrame k) (forAll lostCells (loseCell k) s2)
  let s4 := modStime k (fun x => { x with inPlumb := false, locked := false, t1 := none, mismatches := 0 }) s3
  let s6 := clearAverages p (noteTandem wasTandem (setUpstream s4))
  sendTrain k (count1 (cPort p 15) (settlePlumb (clearEyes (List.range' (8 * k) 8) s6)))

/-- A spoke goes down: the SPOKE_DOWN record with its case of R193, then R194, then bring-up restarts. -/
def spokeDown (k case' : Nat) (s : State) : State :=
  if (s.spoke k).state = 6 then
    dropLink k 1 (record [] { devRec s 0x0202 2 case' 0 with srcPort := spokePort s k } s)
  else s

/-! Reception (R173 to R175, R178, R184 to R187, R189 to R191). -/

/-- Retire a lane at this end (R191, R192): both of its pairs are powered down, and from here on the spoke runs without it. The number of
failed receptions of the expected sequence goes on; their attribution to a lane starts again (assumption 124). -/
def retireLane (k lane : Nat) (s : State) : State :=
  let s1 := modSpoke k (fun x => { x with
    laneMask := clrBit x.laneMask lane, active := clrBit x.active lane, exchangeSpoiled := true
    rx := { x.rx with fails := [], retired := x.rx.retired || decide (0 < x.rx.attempts), switch := none } }) s
  record [] { devRec s1 0x0201 0 lane 0 with srcPort := spokePort s1 k } (clearEyes [spokeLane k lane] s1)

/-- The culprit lane of five failed receptions (R190). -/
def culprit (fails : List Nat) : Option Nat :=
  let hits (l : Nat) := (fails.filter fun m => bit m l).length
  (List.range 8).find? fun l => decide (4 ≤ hits l) && (List.range 8).all fun j => j == l || decide (hits j ≤ 1)

/-- RETRY_REQ with the expected sequence and the number of its failed receptions (R187). -/
def sendRetry (k : Nat) (s : State) : State :=
  let x := s.spoke k
  sendBeat k 4 x.rx.expSeq (min 5 x.rx.attempts)
    (count1 (cSpoke k ckRetry) (modSpoke k (fun x => { x with rx := { x.rx with lastRetry := some s.now } }) s))

/-- One failed reception of the expected sequence: a held part goes with it (R184), and RETRY_REQ is sent; the fifth retires its culprit
lane or takes the spoke down (R187, R190, R191). -/
def failedReception (k lanes : Nat) (s : State) : State :=
  let s1 := sendRetry k (modSpoke k (fun x => { x with
    rx := { x.rx with fails := x.rx.fails ++ [lanes], attempts := x.rx.attempts + 1, held := none, part := {}, failedAt := s.now } }) s)
  let x := s1.spoke k
  if x.rx.fails.length < 5 then s1
  else if laneCount x = 8 then
    match culprit x.rx.fails with
    | some l => retireLane k l (sendRetire k l 0 s1)
    | none => spokeDown k 1 s1
  else spokeDown k 1 s1

/-- The latest fabric time, not after now, whose bits [30:22] equal the stamp and whose lower bits are 0 (R67). -/
def stampOf (s : State) (age : Nat) : Nat :=
  let t := s.ft.count / 2 ^ 22
  let back := (t + 512 - age % 512) % 512
  (t - back) * 2 ^ 22

/-- The frame that a spoke's cells make up (R175). -/
def frameOf (s : State) (k : Nat) (c : Cell) (t : Tlp) (work : Option WorkTag) : Frame :=
  { fid := 0, tlp := t, issued := t.addr, issuedRid := t.rid, issuedTag := t.tag, rcv := c.hdr.rcv, svc := c.hdr.svc
    sub := c.hdr.subscriber, colour := c.hdr.colour, mark := c.hdr.mark, srcDev := c.hdr.srcDev, srcPort := c.hdr.srcPort
    dstDev := c.hdr.dstDev, dstPort := c.hdr.dstPort, outPort := 0, func := none, att := k / 2, origin := none
    user := false, vf := none, window := none, stamp := stampOf s c.ageStamp, hops := c.hdr.hops + 1
    seq := c.hdr.streamSeq, work := work, tagEntry := none, tracker := none, epochStaged := 0, epochGuard := 0
    place := .waiting, region := .none, rxSpoke := some k, issuedTarget := t.targetId }

/-- The destination compares an arriving frame's count with the last of its flow (R179). -/
def checkStream (f : Frame) (s : State) : State :=
  let k := flowOf f
  let s1 := match flowCount s.hub.streamSeen k with
    | some n => if f.seq == (n + 1) % 128 || f.seq == n then s else count1 (cPair f.dstPort f.svc 14) s
    | none => s
  { s1 with hub.streamSeen := setFlow s1.hub.streamSeen k f.seq }

/-- A locked read of another device's sequence has come: its semaphore's owner is LOCKED (R245, R246). -/
def noteLocked (f : Frame) (s : State) : State :=
  match f.tlp.kind, (s.sem f.dstPort).owner with
  | .memReadLocked, some o =>
    if o.2.1 = f.srcDev ∧ o.2.2 = f.srcPort then putSem f.dstPort { s.sem f.dstPort with locked := true } s else s
  | _, _ => s

/-- A frame from a spoke for this device (R140, R227). -/
def admitHere (f : Frame) (s : State) : State :=
  match f.tlp.kind with
  | .completion _ =>
    let s1 := matchCompletion f s
    if s1.hub.nextFid = s.hub.nextFid then freeFrame f s1 else s1
  | _ =>
    if forBridge s f then newFrame { f with ends := some .bridge, fixed := true } s else newFrame f (noteLocked f s)

/-- The admission of a frame from a spoke (R68, R175, R178, R179, R205, R207). -/
def admitSpoke (k : Nat) (f : Frame) (s : State) : State :=
  let f := { f with outPort := frameOut s f }
  let s := if f.dstDev = s.dev then checkStream f s else s
  if s.errs.c4 then freeFrame f s
  else if ms ≤ age s f then discardOutcome f .lifetime (freeFrame f s)
  else if f.dstDev = s.dev then admitHere f s
  else if !routeEn s f.dstDev then denyRoute f (freeFrame f s)
  else if f.hops = 4 then discardOutcome f .hop (count1 (cSpoke k ckHopLimit) (freeFrame f s))
  else if routeDead s f.dstDev then loseWaiting f (freeFrame f s)
  else newFrame f s

/-- A frame of the acknowledgement channel, once complete: taken by the bridge, the mover or the management core here, or passed on in pool A of
the next spoke; one aged 1 ms is discarded (R68, R178, R242). -/
def passCtl (k : Nat) (cs : List Cell) (s : State) : State :=
  match cs with
  | [] => s
  | c :: _ =>
    let s1 := freeSlots k c.hdr.svc 3 cs.length s
    if ms ≤ s.ft.count - stampOf s c.ageStamp then countLost (128 + k) s1
    else if c.hdr.dstDev = s.dev ∨ s.errs.c4 then s1
    else if routeEn s c.hdr.dstDev ∧ c.hdr.hops = 3 then count1 (cSpoke k ckHopLimit) s1
    else routeCells c.hdr.dstDev c.hdr.srcDev c.hdr.srcPort c.hdr.dstPort c.hdr.svc
      (cs.map fun c => { c with hdr := { c.hdr with hops := c.hdr.hops + 1 } }) s1

/-- An accepted cell joins its frame; with the last one the frame goes to the hub (R175). -/
def takeCell (k : Nat) (c : Cell) (s : State) : State :=
  let all := (s.spoke k).rx.cells ++ [c]
  let mine := all.filter (sameFrame c)
  if c.hdr.pos == 0 || c.hdr.pos == 3 then
    let s1 := modSpoke k (fun x => { x with rx := { x.rx with cells := all.filter fun e => !sameFrame c e } }) s
    if 5 ≤ c.hdr.type then passCtl k mine s1
    else match (mine.headD c).body with
      | .tlp t work => admitSpoke k (frameOf s k (mine.headD c) t work) s1
      | _ => s1
  else modSpoke k (fun x => { x with rx := { x.rx with cells := all } }) s

/-- A cell fails its checks (R173). -/
def cellFails (c : Cell) (crcOk : Bool) (bad : Nat) : Bool :=
  !crcOk || bad % 256 != 0 || c.hdr.len == 0 || decide (256 < c.hdr.len) || c.hdr.colour == 3 ||
    c.hdr.type == 0 || decide (7 < c.hdr.type)

/-- A cell received in a remote loop: at the partner of the run it goes back unchanged, at the run's own end it is checked
against the count; one that fails is discarded (R516). -/
def loopCell (k : Nat) (c : Cell) (crcOk : Bool) (bad : Nat) (s : State) : State :=
  let fails := cellFails c crcOk bad
  match s.count.loops.find? fun l => l.depth == 5 && l.target == k && l.state == 1 with
  | some l =>
    if fails then modLoop 5 k (fun l => { l with units := l.units + 1, errors := l.errors + 1, next := l.next + 1 }) s
    else
      let good := c.hdr == (testCell l.next).hdr && c.data == (testCell l.next).data
      let n := l.next + modDist 128 (c.hdr.streamSeq % 128) (l.next % 128) + 1
      freeSlots k c.hdr.svc (cellPool c.hdr.type) 1 (count1 (cSpoke k ckCellsRx)
        (modLoop 5 k (fun l => { l with units := l.units + 1, errors := l.errors + b2n (!good), next := n }) s))
  | none =>
    if fails then s
    else freeSlots k c.hdr.svc (cellPool c.hdr.type) 1 (count1 (cSpoke k ckCellsRx)
      (modSpoke k (fun x => { x with tx := { x.tx with unsent := x.tx.unsent ++ [c] } }) s))

/-- The lanes that brought a cell's LSEQ, in the first two bytes of its trailer (Table 6.5). -/
def seqLanes (x : Spoke) (c : Cell) : List Nat :=
  let ls := activeLanes x
  [ls.getD ((8 + c.hdr.len) % max 1 ls.length) 0, ls.getD ((9 + c.hdr.len) % max 1 ls.length) 0]

/-- A cell that fails while the expected one is awaited is a further failed reception of that one when its LSEQ says so; one whose LSEQ cannot
be trusted, because its lanes show violations, counts so once in 1 µs, the time after which RETRY_REQ starts the replay again (R187, R190,
assumption 153). -/
def failsAgain (s : State) (k : Nat) (c : Cell) (bad : Nat) : Bool :=
  let x := s.spoke k
  c.lseq == x.rx.expSeq || ((seqLanes x c).any fun l => bit bad l) && s.since x.rx.failedAt us

/-- A cell with the outcome of its checks (R186, R187, R189). A cell before the expected one is a duplicate and is discarded by its
sequence (Table 6.15). -/
def receiveCell (k : Nat) (c : Cell) (crcOk : Bool) (bad : Nat) (s : State) : State :=
  let x := s.spoke k
  if x.state ≠ 6 then s
  else if loopLink s k then loopCell k c crcOk bad s
  else
    let waiting := x.rx.lastRetry.isSome
    if cellFails c crcOk bad then
      if waiting && !failsAgain s k c bad then s else failedReception k (bad % 256) s
    else if c.lseq != x.rx.expSeq then
      if waiting || decide (modDist 2048 x.rx.expSeq c.lseq ≤ 1024) then s else failedReception k 0 s
    else
      let s1 := if decide (0 < x.rx.attempts) && !x.rx.retired then count1 (cSpoke k ckTransient) s else s
      let s2 := modSpoke k (fun x => { x with rx := { x.rx with
        expSeq := (x.rx.expSeq + 1) % 2048, accepted := true, fails := [], attempts := 0, retired := false, lastRetry := none
        lastError := if x.rx.attempts = 0 then x.rx.lastError else s.now
        owedAck := if x.rx.owedAck.isSome then x.rx.owedAck else some s.now } }) s1
      let s3 := if c.ackV then ackCells k c.ackSeq s2 else s2
      takeCell k c (count1 (cSpoke k ckCellsRx) s3)

/-- The end that took a RETIRE request changes lanes after copy 3: it confirms on 7 lanes and replays from the last EXP_SEQ (R191). -/
def changeLanes (k lane : Nat) (s : State) : State :=
  beginReplay k (s.spoke k).tx.lastExp (sendRetire k lane 1 (retireLane k lane s))

/-- The copies of RETIRE are over when anything else arrives. -/
def settleSwitch (k : Nat) (s : State) : State :=
  match (s.spoke k).rx.switch with
  | some (l, _) => changeLanes k l s
  | none => s

/-! Control beats (R167 to R171). -/

/-- A control beat of one kind takes effect on a link in use; a bad one is discarded and counted (R171). -/
def onBeat (k lowest kind : Nat) (b : Beat) (f : Nat → State → State) (s : State) : State :=
  let s := settleSwitch k s
  if (s.spoke k).state < 2 then s
  else
    let c := ctlBeat s k b
    let s1 := tookCtl k b s
    if !c.good then count1 (cSpoke k ckBadBeat) s1
    else if (s.spoke k).state < lowest ∨ c.octet ≠ kindOctets.getD kind 0 then s1
    else f c.d s1

/-- A control message: the beats of it that are bad are counted, and an incomplete message is ignored (R169, R171). -/
def onParts (k lowest kind sub n : Nat) (bs : List Beat) (f : List Nat → State → State) (s : State) : State :=
  let s := settleSwitch k s
  if (s.spoke k).state < 2 then s
  else
    let cs := ctlBeats s k bs
    let s1 := countBy (cSpoke k ckBadBeat) (cs.filter fun c => !c.good).length (tookCtls k bs s)
    match partsOf kind sub n cs with
    | some vs => if (s.spoke k).state < lowest then s1 else f vs s1
    | none => s1

/-- CREDIT (R181, R182): a pool's limit. The first limit of a pool is its size at the partner. What has been sent below the limit needs no
later one (R208). -/
def takeCredit (k d : Nat) (s : State) : State :=
  let key := bits d 39 35
  let limit := bits d 31 16
  noteBuckets (modSpoke k (fun x =>
    let base := if (tfind x.tx.base key).isSome then x.tx.base else tput x.tx.base key limit
    { x with tx := { x.tx with
      limit := tset 0 x.tx.limit key limit
      was := tput x.tx.was key (tget 0 (limitsNow s x).tx.limit key, beatTick s)
      base := base
      lastSent := tkeep x.tx.lastSent fun i n => i % 32 != key || decide (32768 ≤ modDist 65536 limit (tget 0 base key + n)) } }) s)

def execCreditBeatReceived (dt : Time) (spoke : Nat) (b : Beat) (s : State) : Host.Outcome State Fault Refusal :=
  run dt (okSpoke spoke) (onBeat spoke 5 1 b (takeCredit spoke)) s

/-- CREDIT beats for all 32 pools (R181). -/
def refreshCredit (k : Nat) (s : State) : State :=
  forAll (List.range 32) (fun key s =>
    sendBeat k 1 key ((tget 0 (s.spoke k).rx.size key + tget 0 (s.spoke k).rx.freed key) % 65536) s) s

def execCreditRefresh (dt : Time) (spoke : Nat) (s : State) : Host.Outcome State Fault Refusal :=
  run dt (okSpoke spoke) (fun s => if 5 ≤ (s.spoke spoke).state then refreshCredit spoke s else s) s

/-- RESUME: the held part goes on (R184). -/
def takeResume (k : Nat) (_d : Nat) (s : State) : State :=
  match (s.spoke k).rx.held with
  | some h => modSpoke k (fun x => { x with rx := { x.rx with part := h.2, held := none } }) s
  | none => s

def execResumeReceived (dt : Time) (spoke : Nat) (b : Beat) (s : State) : Host.Outcome State Fault Refusal :=
  run dt (okSpoke spoke) (onBeat spoke 6 3 b (takeResume spoke)) s

/-- RETRY_REQ: replay from the sequence it names (R188). -/
def takeRetry (k d : Nat) (s : State) : State :=
  beginReplay k (bits d 39 29) (modSpoke k (fun x => { x with tx := { x.tx with lastExp := bits d 39 29 } }) s)

def execRetryReqReceived (dt : Time) (spoke : Nat) (b : Beat) (s : State) : Host.Outcome State Fault Refusal :=
  run dt (okSpoke spoke) (onBeat spoke 6 4 b (takeRetry spoke)) s

/-- While the expected cell has not arrived, RETRY_REQ is repeated every 1 µs (R187). -/
def execRetryReqRepeat (dt : Time) (spoke : Nat) (s : State) : Host.Outcome State Fault Refusal :=
  run dt (okSpoke spoke) (fun s => match (s.spoke spoke).rx.lastRetry with
    | some t => if (s.spoke spoke).state = 6 ∧ s.since t us then sendRetry spoke s else s
    | none => s) s

/-- ACK: cumulative (R186). -/
def execAckBeatReceived (dt : Time) (spoke : Nat) (b : Beat) (s : State) : Host.Outcome State Fault Refusal :=
  run dt (okSpoke spoke) (onBeat spoke 6 5 b fun d => ackCells spoke (bits d 39 29)) s

/-- Without a trailer for 128 ns after accepting a cell, an ACK beat is sent (R186). -/
def execAckBeatTimer (dt : Time) (spoke : Nat) (s : State) : Host.Outcome State Fault Refusal :=
  run dt (okSpoke spoke) (fun s => match (s.spoke spoke).rx.owedAck with
    | some t =>
      if s.since t (128 * ns) then
        sendBeat spoke 5 (((s.spoke spoke).rx.expSeq + 2047) % 2048) 0
          (modSpoke spoke (fun x => { x with rx := { x.rx with owedAck := none } }) s)
      else s
    | none => s) s

/-- The replay timer (R188, Table 6.12): the eighth firing in a row takes the spoke down. -/
def replayExpired (k : Nat) (s : State) : State :=
  let x := s.spoke k
  if x.state = 6 && !x.tx.replay.isEmpty && s.since x.tx.progress (2 ^ rf (spokeRec s k) 43 40 * 256 * ns) then
    if 8 ≤ x.tx.fires + 1 then spokeDown k 2 s
    else
      let s1 := modSpoke k (fun x => { x with tx := { x.tx with fires := x.tx.fires + 1, progress := s.now } }) s
      match x.tx.replay with
      | c :: _ => beginReplay k c.lseq s1
      | [] => s1
  else s

def execReplayTimeout (dt : Time) (spoke : Nat) (s : State) : Host.Outcome State Fault Refusal :=
  run dt (okSpoke spoke) (replayExpired spoke) s

/-- A good RETIRE request has come, or another beat while its copies still pass: this end changes lanes after copy 3, which it counts from
the copy it received. A second lane takes the spoke down (R191, R193). -/
def retireCopy (k : Nat) (c : CtlBeat) (s : State) : State :=
  let x := s.spoke k
  let lane := bits c.d 39 37
  match x.rx.switch with
  | some (l, n) =>
    if n ≤ 1 then changeLanes k l s else modSpoke k (fun x => { x with rx := { x.rx with switch := some (l, n - 1) } }) s
  | none =>
    if !c.good || c.octet != kindOctets.getD 7 0 || bit c.d 36 || !bit x.active lane then s
    else if laneCount x ≠ 8 then spokeDown k 1 s
    else if bits c.d 35 34 = 3 then changeLanes k lane s
    else modSpoke k (fun x => { x with rx := { x.rx with switch := some (lane, 3 - bits c.d 35 34) } }) s

/-- A RETIRE request: the beat, and what its copy decides (R171, R191). -/
def takeRetire (k : Nat) (b : Beat) (s : State) : State :=
  if (s.spoke k).state ≠ 6 then s
  else
    let c := ctlBeat s k b
    retireCopy k c (onlyIf (!c.good) (count1 (cSpoke k ckBadBeat)) (tookCtl k b s))

def execRetireRequestReceived (dt : Time) (spoke : Nat) (b : Beat) (s : State) : Host.Outcome State Fault Refusal :=
  run dt (okSpoke spoke) (takeRetire spoke b) s

/-- A RETIRE confirm: the partner has switched; this end needs nothing of it (R191). A TIME exchange it overlaps is ignored. -/
def execRetireConfirmReceived (dt : Time) (spoke : Nat) (b : Beat) (s : State) : Host.Outcome State Fault Refusal :=
  run dt (okSpoke spoke) (onBeat spoke 6 7 b fun d =>
    onlyIf (bit d 36) (modSpoke spoke fun x => { x with exchangeSpoiled := true })) s

/-- An IDLE beat is checked for lane order and deskew: each character out of its expected position is a code violation on its lane
(R168); one that holds a violation is counted as discarded (R171). -/
def takeIdle (k : Nat) (b : Beat) (s : State) : State :=
  let s := settleSwitch k s
  let x := s.spoke k
  if x.state < 2 then s
  else
    let y := seenBeats s k [b]
    let wrong := idleWrong (activeLanes x) x.rx.idle y.syms
    onlyIf (y.code ||| y.disp ||| wrong != 0) (count1 (cSpoke k ckBadBeat))
      (modSpoke k (fun x => { x with rx := { x.rx with idle := x.rx.idle + 1 } }) (tookBeats k wrong y s))

def execIdleBeatReceived (dt : Time) (spoke : Nat) (b : Beat) (s : State) : Host.Outcome State Fault Refusal :=
  run dt (okSpoke spoke) (takeIdle spoke b) s

/-! Data beats (R166, R170, R172 to R174, R184). -/

/-- A beat is a control beat: its byte 0 is a K-character (R166). -/
def leadsK (ys : List (Option Sym)) : Bool :=
  match ys.head? with
  | some (some (.k _)) => true
  | _ => false

/-- The lanes on which a data beat carries a K-character. -/
def dataWrong (lanes : List Nat) (ys : List (Option Sym)) : Nat :=
  (List.range lanes.length).foldl (fun m i => match ys.getD i none with
    | some (.k _) => setBit m (lanes.getD i 0)
    | _ => m) 0

/-- A data beat adds its bytes to the cell being received, with the lanes on which it holds a violation. -/
def takeData (k : Nat) (b : Beat) (s : State) : State :=
  let s := settleSwitch k s
  let y := seenBeats s k [b]
  let wrong := dataWrong (activeLanes (s.spoke k)) y.syms
  let bad := (y.code ||| y.disp ||| wrong) % 256
  modSpoke k (fun x => { x with rx := { x.rx with
      part := { bytes := x.rx.part.bytes ++ y.syms.map octetOf, bad := x.rx.part.bad ||| bad } } })
    (count1 (cSpoke k ckBeatsRx) (tookBeats k wrong y s))

/-- A control beat between the beats of a cell takes effect and leaves the cell as it is (R170). Of a message of several beats, which must
follow one another, one alone is incomplete (R169): such messages, PREEMPT and RESUME have commands of their own. -/
def takeBetween (k : Nat) (b : Beat) (s : State) : State :=
  match (ctlBeat s k b).octet with
  | 0xBC | 0x3C => takeIdle k b s
  | 0x1C => onBeat k 6 1 b (takeCredit k) s
  | 0x9C => onBeat k 6 4 b (takeRetry k) s
  | 0xDC => onBeat k 6 5 b (fun d => ackCells k (bits d 39 29)) s
  | 0xFB => takeRetire k b s
  | _ => onBeat k 6 6 b (fun _ s => s) s

/-- A beat that arrives while a cell is being received. -/
def takeBeat (k : Nat) (s : State) (b : Beat) : State :=
  if (s.spoke k).state ≠ 6 then s
  else if leadsK (seenBeats s k [b]).syms then takeBetween k b s else takeData k b s

/-- The bytes received of a cell are all of it; one that already shows a violation is not waited for. -/
def cellEnded (x : Spoke) : Bool :=
  let p := x.rx.part
  let len := (headerOf (ofBe (p.bytes.take 8))).len
  p.bad != 0 || decide (8 ≤ p.bytes.length) && (len == 0 || decide (256 < len) || decide (16 + len ≤ p.bytes.length))

/-- Data beats of a cell, with control beats that stand between them; with its last beat, the bytes received are the cell (R172, R184). -/
def receiveBeats (k : Nat) (bs : List Beat) (body : CellBody) (s : State) : State :=
  let s1 := bs.foldl (takeBeat k) s
  let x := s1.spoke k
  if x.state ≠ 6 || !cellEnded x then s1
  else
    let r := cellOf (laneCount x) x.rx.part.bytes body
    receiveCell k r.1 r.2 x.rx.part.bad (modSpoke k (fun x => { x with rx := { x.rx with part := {} } }) s1)

/-- SPOKE_CELL_RECEIVE: the data beats of a cell, and what the frame's bytes say, which the standard lays out (R174). -/
def execSpokeCellReceive (dt : Time) (spoke : Nat) (beats : List Beat) (body : CellBody) (s : State) :
    Host.Outcome State Fault Refusal := run dt (okSpoke spoke) (receiveBeats spoke beats body) s

/-- PREEMPT: the receiver holds what it has of the interrupted cell (R184). `part` are the cell's beats before it. -/
def takePreempt (k : Nat) (part : List Beat) (b : Beat) (s : State) : State :=
  onBeat k 6 2 b (fun v => modSpoke k fun x => { x with rx := { x.rx with held := some (bits v 39 37, x.rx.part), part := {} } })
    (part.foldl (takeBeat k) s)

def execPreemptReceived (dt : Time) (spoke : Nat) (part : List Beat) (b : Beat) (s : State) :
    Host.Outcome State Fault Refusal := run dt (okSpoke spoke) (takePreempt spoke part b) s

/-- A cadence clock lost for 100 ns: an up spoke goes down, a bring-up attempt fails (R120, R193); a loop-back at depth 5 ends
(R518). -/
def cadenceLost (k : Nat) (s : State) : State :=
  let s1 := modLoop 5 k (fun l => { l with state := 2 }) (modSpoke k (fun x => { x with cadence := false }) s)
  if (s1.spoke k).state = 6 then spokeDown k 3 s1
  else if (s1.spoke k).state = 0 then s1
  else sendTrain k (count1 (cSpoke k ckFailedTry) (modSpoke k (fun x => { clearLink 0 x with nextTry := some (s1.now + ms) }) s1))

/-- A bucket's move is over 1 ms after its spoke went down (R207); it may then have to move back (R208). With no spoke of the
route up, locked sequences between the two devices end (R248). -/
def execBucketMoveComplete (dt : Time) (dest bucket : Nat) (s : State) : Host.Outcome State Fault Refusal :=
  run dt (okDev dest && okBucket bucket) (fun s =>
    let x := s.bucket dest bucket
    match x.movingSince with
    | some t =>
      if s.since t ms then
        let s1 := putBucket dest bucket { x with movingSince := none, movedIn := some (coreTick s) } s
        if routeDead s1 dest then
          let mine := s1.spokes.ctl.filter fun e => e.1 == dest * 16 + bucket
          let s2 : State := endSeqsWhere (fun q => q.dev == s1.dev && q.targetDev == dest)
            { s1 with spokes.ctl := s1.spokes.ctl.filter fun e => e.1 != dest * 16 + bucket }
          releaseDevice dest (forAll mine (fun _ => countLost (168 + dest)) s2)
        else
          match homeSpoke s1 dest bucket with
          | some h =>
            if spokeUp s1 h && x.spoke != some h then startBack dest bucket s1 else releaseCtl dest bucket s1
          | none => releaseCtl dest bucket s1
      else s
    | none => s) s

/-- A bucket moves back 2 µs after its last cells have been acknowledged and their slots freed (R208). -/
def execBucketMoveBack (dt : Time) (dest bucket : Nat) (s : State) : Host.Outcome State Fault Refusal :=
  run dt (okDev dest && okBucket bucket) (fun s =>
    let x := s.bucket dest bucket
    match x.backSince, x.readyAt, homeSpoke s dest bucket with
    | some _, some t, some h =>
      if !bucketClear s dest bucket then putBucket dest bucket { x with readyAt := none } s
      else if s.since t (2 * us) && spokeUp s h then
        let s1 := match x.spoke with
          | some k => count1 (cSpoke k ckBucketMoves) s
          | none => s
        releaseCtl dest bucket (putBucket dest bucket { spoke := some h, movedIn := some (coreTick s) } s1)
      else s
    | _, _, _ => s) s

/-- A MGMT cell with a code the device does not know is counted and discarded (R177). -/
def execMgmtUnknownCode (dt : Time) (spoke code : Nat) (s : State) : Host.Outcome State Fault Refusal :=
  run dt (okSpoke spoke) (fun s =>
    let known := within 0x0001 0x0040 code || within 0x0101 0x0107 code || within 0x0201 0x0204 code || code == 0x0301 ||
      within 0x0310 0x0313 code || code == 0x0401 || code == 0x0501 || code == 0x0502
    if known then s else count1 (cSpoke spoke ckUnknownMgmt) s) s

end Sys2Proof.Machine
end

