-- ==== Sys2Proof/Machine/Lanes.lean ====
section
/-! DEFINITION. Lanes: truing, the eye monitor, the coefficient store and the reference clock outputs (chapter 4). -/

namespace Sys2Proof.Machine

/-- The lanes of a PCIe port as configured (R105, R106). -/
def portLanes (s : State) (p : Nat) : List Nat :=
  let r := portRec s p
  let st := rf r 55 51
  let g := rf r 50 48
  List.range' (16 * st + 2 * g) (2 * granuleWidth (rf (s.cfg 0x01 st 0) 59 52) g)

/-- The enabled PCIe port a lane belongs to. -/
def lanePort (s : State) (l : Nat) : Option Nat := (List.range 128).find? fun p => portEn s p && (portLanes s p).contains l

/-- What a loop-back takes out of service: 1000 + a spoke, a PCIe port, 2000 + a lane that no port or spoke holds, 4000 + a VF
(Table 19.1). -/
def loopHolder (s : State) (depth target : Nat) : Nat :=
  let ofPort (p : Nat) := match portSpoke s p with
    | some k => 1000 + k
    | none => p
  if depth ≤ 3 then
    if stationMode s (target / 16) == 2 then 1000 + target / 8 else (lanePort s target).getD (2000 + target)
  else if depth = 4 then ofPort target
  else if depth = 5 then 1000 + target
  else 4000 + target

/-- A run at depth 1 to 4 keeps a port or spoke from training. -/
def loopHolds (s : State) (h : Nat) : Bool :=
  s.count.loops.any fun l => l.state == 1 && decide (l.depth ≤ 4) && loopHolder s l.depth l.target == h

/-- The link of a spoke is up, in service or in a remote loop. -/
def spokeLinked (s : State) (k : Nat) : Bool := spokeEn s k && (s.spoke k).state == 6

/-- The lanes of a port's trained link: its lowest lanes, or its highest after lane reversal (R106, R117). -/
def linkLanes (s : State) (p : Nat) : List Nat :=
  let ls := portLanes s p
  (if (s.port p).reversed then ls.reverse else ls).take (s.port p).width

/-- A lane carries a link: a lane in use of a spoke, or one of a PCIe port's trained link. -/
def laneCarries (s : State) (l : Nat) : Bool :=
  if stationMode s (l / 16) == 2 then spokeLinked s (l / 8) && bit (s.spoke (l / 8)).active (l % 8)
  else match lanePort s l with
    | some p => (s.port p).up && (linkLanes s p).contains l
    | none => false

/-- Truing holds: loss of signal, no link, a bring-up step, retired, or a link outside L0 (R113). -/
def truingHeld (s : State) (l : Nat) : Bool :=
  (s.lane l).los || !laneCarries s l || (match lanePort s l with
    | some p => (s.port p).recovery
    | none => false)

/-- The limits in force for a station's taps: the overlay of re-shimming, else the truing record (R114, R482). -/
def truingLimits (s : State) (st : Nat) : Nat × Nat × Nat :=
  let r := s.cfg 0x02 st 0
  (tfind s.aging.overlay.limits st).getD (rf r 31 25, rf r 24 20, rf r 19 16)

/-- LIM[k] of tap k, counted from 0 (R112). -/
def tapLimit (lim : Nat × Nat × Nat) (k : Nat) : Nat := if k = 0 then lim.1 else if k < 4 then lim.2.1 else lim.2.2

/-- One tap moves one step toward less slicer error, never past its limit (R112). -/
def trueTap (lim : Nat) (tap err dec : Int) : Int :=
  max (-(lim : Int)) (min (lim : Int) (tap + err.sign * dec.sign))

/-- All 12 taps at one update. -/
def trueTaps (lim : Nat × Nat × Nat) (err : Int) (dec taps : List Int) : List Int :=
  (List.range 12).map fun k => trueTap (tapLimit lim k) (taps.getD k 0) err (dec.getD k 0)

/-- Some tap sits at its limit (Table 4.6). -/
def atLimit (lim : Nat × Nat × Nat) (taps : List Int) : Bool :=
  (List.range 12).any fun k => decide ((tapLimit lim k : Int) ≤ |taps.getD k 0|)

/-- The symbol rate of a lane in Mbaud (Table 4.1). -/
def laneMbaud (s : State) (l : Nat) : Nat :=
  if stationMode s (l / 16) == 2 then 64000
  else match lanePort s l with
    | some p => [2500, 5000, 8000, 16000, 32000, 32000].getD (s.port p).rate 32000
    | none => 32000

/-- The update interval of truing, 2^TRUE_N UI (R112). -/
def truingInterval (s : State) (l : Nat) : Time := 2 ^ rf (s.cfg 0x02 (l / 16) 0) 15 11 * 1024000 / laneMbaud s l

/-- TRUING_UPDATE: once in each interval, while nothing holds truing (R112, R113). -/
def truingStep (l : Nat) (err : Int) (dec : List Int) (s : State) : State :=
  let early := match (s.lane l).truedAt with
    | some t => !s.since t (truingInterval s l)
    | none => false
  if truingHeld s l || early then s
  else
    let lim := truingLimits s (l / 16)
    let old := (s.lane l).coef.dfe
    let new := trueTaps lim err dec old
    let s1 := modLane l (fun x => { x with truedAt := some s.now, coef := { x.coef with dfe := new } }) s
    if atLimit lim new && !atLimit lim old then count1 (cLane l 3) s1 else s1

def execTruingUpdate (dt : Time) (lane : Nat) (err : Int) (dec : List Int) (s : State) : Host.Outcome State Fault Refusal :=
  run dt (okLane lane) (truingStep lane err dec) s

/-- Loss of signal: truing holds (R113). -/
def execLossOfSignal (dt : Time) (lane : Nat) (s : State) : Host.Outcome State Fault Refusal :=
  run dt (okLane lane) (fun s =>
    (if truingHeld s lane then id else count1 (cLane lane 2)) (modLane lane (fun x => { x with los := true }) s)) s

/-- The end of loss of signal: truing resumes from its present taps (R113). -/
def execLossOfSignalEnd (dt : Time) (lane : Nat) (s : State) : Host.Outcome State Fault Refusal :=
  run dt (okLane lane) (modLane lane fun x => { x with los := false }) s

/-- A lane runs PAM4: a PCIe link at 64 GT/s (Table 4.1). -/
def lanePam4 (s : State) (l : Nat) : Bool := match lanePort s l with
  | some p => (s.port p).rate == 5
  | none => false

/-- The eye a record reports: in PAM4 the smallest in height of the three, the lowest of equal ones; in NRZ the one there is (R115). -/
def worstEye (pam4 : Bool) (eyes : List (Nat × Nat)) : Option (Nat × Nat × Nat) :=
  ((List.range (if pam4 then 3 else 1)).filterMap fun i => eyes[i]?.map fun e => (e.1, e.2, i)).foldl (fun best e =>
    match best with
    | none => some e
    | some b => if e.1 < b.1 then some e else some b) none

/-- EYE_MEASUREMENT: the heights and widths of the lane's eyes, the lower eye first. The record of a lane that carries a link is refreshed,
unless lane margining pauses it (R115, R116). -/
def execEyeMeasurement (dt : Time) (lane : Nat) (eyes : List (Nat × Nat)) (s : State) : Host.Outcome State Fault Refusal :=
  run dt (okLane lane) (fun s =>
    if (s.lane lane).margining || !laneCarries s lane then s
    else match worstEye (lanePam4 s lane) eyes with
      | some e => modLane lane (fun x => { x with
          eyeH := min 255 e.1, eyeW := min 64 e.2.1, eyeId := e.2.2, eyeValid := true, eyeAt := some s.now }) s
      | none => s) s

/-- A step of lane margining stays in its range: 32 steps of time, 64 of voltage, to either side (Table 5.1). -/
def marginFits (m : MarginStep) : Bool := decide (m.steps.natAbs ≤ if m.voltage then 64 else 32)

/-- LANE_MARGINING: a PCIe lane's eye monitor pauses while margining runs, and its step, samples and errors are reported (Table 5.1,
R116). -/
def laneMargining (l : Nat) (m : MarginStep) (s : State) : State :=
  if stationMode s (l / 16) != 1 || !marginFits m then s
  else modLane l (fun x => { x with margining := m.start, margin := if m.start then m else x.margin }) s

def execLaneMargining (dt : Time) (lane : Nat) (m : MarginStep) (s : State) : Host.Outcome State Fault Refusal :=
  run dt (okLane lane) (laneMargining lane m) s

/-- The state a spoke's lanes would leave in its store entry (R126). -/
def storeEntryOf (s : State) (k : Nat) (temp : Int) : StoreEntry :=
  { sn := (s.spoke k).peerSn, temp := temp, mask := (s.spoke k).active
    lanes := (List.range 8).map fun i => (s.lane (spokeLane k i)).coef }

/-- COEF_STORE_COPY: once each 1 ms while the spoke is up, when it has had no replay and no lane error for 1 ms (R126). -/
def coefCopy (k : Nat) (temp : Int) (s : State) : State :=
  let early := match (s.spoke k).copiedAt with
    | some t => !s.since t ms
    | none => false
  if spokeLinked s k && s.since (s.spoke k).rx.lastError ms && !early then
    modSpoke k (fun x => { x with copiedAt := some s.now })
      { s with lanes.store := tset {} s.lanes.store k (storeEntryOf s k temp) }
  else s

def execCoefStoreCopy (dt : Time) (spoke : Nat) (temp : Int) (s : State) : Host.Outcome State Fault Refusal :=
  run dt (okSpoke spoke) (coefCopy spoke temp) s

/-! CAD_TX outputs (R120 to R124). -/

/-- A CAD_TX output runs: a spoke's forwarded clock, or an enabled reference clock whose gate, if any, holds power-good. -/
def cadWanted (s : State) (st h : Nat) : Bool :=
  let r := tget 0 s.lanes.cadRec st
  match rf r 63 62 with
  | 1 => rb r (49 + h) && (!rb r (37 + 7 * h) || (s.chan (rf r (36 + 7 * h) (31 + 7 * h))).state == 4)
  | 2 => bit (rf r 61 60) h
  | _ => false

/-- A station's transmit clock, and with it its lanes and CAD_TX outputs, is down-spread (R123). -/
def cadSpread (s : State) (st : Nat) : Bool := rb (tget 0 s.lanes.cadRec st) 51

/-- The edge rate of a reference clock output: CADh_SLEW (R121). -/
def cadSlew (s : State) (st h : Nat) : Nat :=
  let r := tget 0 s.lanes.cadRec st
  if rf r 63 62 = 1 then rf r (46 + 2 * h) (45 + 2 * h) else 0

/-- How an output that runs is noted: its number, 40 added where it is spread, 80 times its edge rate. -/
def cadCode (i : Nat) (spread : Bool) (slew : Nat) : Nat := i + 40 * b2n spread + 80 * slew

/-- Start or stop the outputs that must change, or change their spread or edge rate (R121 to R123). -/
def settleCad (s : State) : State :=
  forAll (List.range 40) (fun i s =>
    let on := cadWanted s (i / 2) (i % 2)
    let spread := on && cadSpread s (i / 2)
    let slew := if on then cadSlew s (i / 2) (i % 2) else 0
    let now := s.lanes.cadTx.filter fun c => c % 40 == i
    let want := if on then [cadCode i spread slew] else []
    if now == want then s
    else emit (.cadTx (i / 2) (i % 2) on spread slew) { s with lanes.cadTx := (s.lanes.cadTx.filter fun c => c % 40 != i) ++ want }) s

/-- Table 4.8, in the order pre-2, pre-1, main, post-1, post-2. -/
def spokePreset : Nat → Int × Int × Int × Int × Int
  | 0 => (0, 0, 64, 0, 0)
  | 1 => (0, 0, 56, -8, 0)
  | 2 => (0, 0, 48, -16, 0)
  | 3 => (0, -4, 52, -8, 0)
  | 4 => (0, -4, 44, -16, 0)
  | 5 => (0, -6, 46, -12, 0)
  | 6 => (-2, -6, 44, -12, 0)
  | 7 => (-2, -8, 40, -14, 0)
  | 8 => (0, -8, 36, -20, 0)
  | 9 => (-4, -8, 36, -16, 0)
  | _ => (-2, -6, 36, -18, -2)

/-- A lane's transmitter starts from a preset (R110, Table 6.8 step 4). -/
def presetCoef (c : Coef) (code : Nat) : Coef :=
  let (a, b, m, d, e) := spokePreset code
  { c with pre2 := a, pre1 := b, main := m, post1 := d, post2 := e }

/-- The taps of a transmitter in their ranges; together they do not exceed 64, or they are those of preset 5 (R110, Table 4.4,
assumption 125). -/
def fitFfe (c : Coef) : Coef :=
  let clamp (lo hi x : Int) : Int := max lo (min hi x)
  let c' := { c with
    pre2 := clamp (-8) 0 c.pre2, pre1 := clamp (-16) 0 c.pre1, main := clamp 24 64 c.main, post1 := clamp (-24) 0 c.post1
    post2 := clamp (-8) 7 c.post2 }
  if |c'.pre2| + |c'.pre1| + |c'.main| + |c'.post1| + |c'.post2| ≤ 64 then c' else presetCoef c' 5

/-- Coefficients in the ranges of Table 4.4. -/
def fitCoef (c : Coef) : Coef :=
  let lim := (127, 31, 15)
  fitFfe { c with
    ctle := min 15 c.ctle, gain := min 15 c.gain
    dfe := (List.range 12).map fun k => max (-(tapLimit lim k : Int)) (min (tapLimit lim k : Int) (c.dfe.getD k 0)) }

/-- The coefficients of a PCIe lane: pre-2 and post-2 are held at 0 (R110). -/
def pcieCoef (c : Coef) : Coef := { fitCoef { c with pre2 := 0, post2 := 0 } with pre2 := 0, post2 := 0 }

/-- Receive settings at mid-range: taps 0, the CTLE and the gain at the middle of their codes (Table 6.8 step 2, assumption 125). -/
def midRange (c : Coef) : Coef := { c with dfe := List.replicate 12 0, ctle := 8, gain := 8 }

/-- The cold-start preset of a lane: the overlay of re-shimming, else its override record (Table 4.7, R482). -/
def lanePreset (s : State) (l : Nat) : Nat := (tfind s.aging.overlay.presets l).getD (rf (s.cfg 0x03 l 0) 3 0)

end Sys2Proof.Machine
end

