-- ==== Sys2Proof/Machine/BringUp.lean ====
section
/-! DEFINITION. Bring-up of spokes, fabric time and the plumb check (R195 to R204, R543). -/

namespace Sys2Proof.Machine

/-- A bring-up attempt begins (R195), but not in a loop-back that holds the spoke (R513). -/
def startBringUp (k : Nat) (s : State) : State :=
  if spokeEn s k && !s.errs.c4 && !s.chip.booting && !loopHolds s (1000 + k) then
    sendTrain k (modSpoke k (fun x => { clearLink 1 x with nextTry := none }) s)
  else s

/-- An attempt fails: it is counted, and the next one starts 1 ms later (R193, R195). -/
def failAttempt (k : Nat) (s : State) : State :=
  sendTrain k (count1 (cSpoke k ckFailedTry) (modSpoke k (fun x => { clearLink 0 x with nextTry := some (s.now + ms) }) s))

/-- The store entry passes this end's own checks: not empty, the same lanes, within 40 °C (R127, Table 6.8 step 2). -/
def storeFits (s : State) (k mask : Nat) : Bool :=
  let e := tget {} s.lanes.store k
  e.mask != 0 && e.mask == mask && decide (|(s.spoke k).temp - e.temp| ≤ 40)

/-- This end may warm-start (R127, R197): the store entry passes and is of this partner, and WARM_EN is set. -/
def mayWarm (s : State) (k : Nat) : Bool :=
  let x := s.spoke k
  x.peerKnown && rb (spokeRec s k) 44 && storeFits s k (x.laneMask &&& x.peerMask) && (tget {} s.lanes.store k).sn == x.peerSn

/-- The coefficients a store entry holds for spoke lane i. -/
def storedCoef (s : State) (k i : Nat) : Coef := fitCoef ((tget {} s.lanes.store k).lanes.getD i {})

/-- Load the store entry into the lanes of a spoke (Table 6.8, warm step 4). -/
def loadStore (k : Nat) (s : State) : State :=
  forAll (List.range 8) (fun i s => modLane (spokeLane k i) (fun x => { x with coef := storedCoef s k i }) s) s

/-- Receive settings before identity: those of the store entry when its local checks pass, else mid-range (Table 6.8 step 2). -/
def loadReceive (k : Nat) (s : State) : State :=
  forAll (List.range 8) (fun i s => modLane (spokeLane k i) (fun x => { x with
    coef := if storeFits s k (s.spoke k).laneMask then
        { x.coef with dfe := (storedCoef s k i).dfe, ctle := (storedCoef s k i).ctle, gain := (storedCoef s k i).gain }
      else midRange x.coef }) s) s

/-- The lanes of a spoke start from their presets (Table 6.8, cold step 4). -/
def loadPresets (k : Nat) (s : State) : State :=
  forAll (List.range 8) (fun i s =>
    modLane (spokeLane k i) (fun x => { x with coef := presetCoef (midRange x.coef) (lanePreset s (spokeLane k i)) }) s) s

/-- What cold equalisation has found for each lane's receiver: CTLE, gain and taps (R111, Table 6.8 step 4). -/
def loadFound (k : Nat) (found : List Coef) (s : State) : State :=
  forAll (List.range 8) (fun i s => match found[i]? with
    | some c =>
      let c := fitCoef c
      modLane (spokeLane k i) (fun x => { x with coef := { x.coef with dfe := c.dfe, ctle := c.ctle, gain := c.gain } }) s
    | none => s) s

/-- Lanes that cannot align, in ascending order (R198): one is retired while 8 are usable; the next one fails the attempt. -/
def alignLanes (k : Nat) : List Nat → State → Bool × State
  | [], s => (true, s)
  | l :: r, s => if laneCount (s.spoke k) = 8 then alignLanes k r (retireLane k l s) else (false, s)

/-- Move on when both ends have finished the present step (R196): alignment, equalisation, credits. -/
def identityNext (k : Nat) (s : State) : State :=
  let x := s.spoke k
  if x.state = 2 ∧ x.localDone ∧ bit x.peerFlags 1 then
    sendTrain k (modSpoke k (fun x => { x with state := 3, localDone := false, localWarm := mayWarm s k }) s)
  else s

/-- Step 2 ends: the polarity of each lane and the lane order are known, and receivers read from here on (R118, R198). -/
def alignDone (k : Nat) (r : StepResult) (s : State) : State :=
  let s1 := modSpoke k (fun x => { x with rxReversed := r.reversed })
    (forAll (List.range 8) (fun i s => modLane (spokeLane k i) (fun x => { x with rxInv := bit r.inverted i }) s) s)
  let missing := (activeLanes (s.spoke k)).filter fun i => !bit r.aligned i
  let a := alignLanes k missing s1
  if a.1 then identityNext k (sendTrain k (modSpoke k (fun x => { x with localDone := true }) a.2)) else failAttempt k a.2

/-- Step 3 ends (R198): the partner's identity is checked, and the lanes both ends can use are taken; fewer than 7 fail the attempt
(assumption 126). The first failure of the check since the spoke was enabled or last up writes a SPOKE_DOWN record with case 6 (R193). -/
def identityDone (k : Nat) (s : State) : State :=
  let x := s.spoke k
  let r := spokeRec s k
  if !x.peerKnown then s
  else if rb r 50 && x.peerDev != rf r 56 51 then
    let s1 := if x.idFailRec then s
      else record [] { devRec s 0x0202 2 6 0 with srcPort := spokePort s k } s
    modSpoke k (fun x => { x with idFailRec := true }) (failAttempt k s1)
  else if popcount (x.laneMask &&& x.peerMask) 8 < 7 then failAttempt k s
  else
    let warm := mayWarm s k && bit x.peerFlags 0
    let s1 := modSpoke k (fun x => { x with
      state := 4, localDone := false, localWarm := warm, active := x.laneMask &&& x.peerMask }) s
    sendTrain k (if warm then loadStore k s1 else loadPresets k s1)

/-- The spoke is up (R196, R204, R208). Tandem device 0 stops being master of itself at its first spoke (R428). -/
def linkUp (k : Nat) (s : State) : State :=
  let s1 := modSpoke k (fun x => { x with
    state := 6, upAt := s.now, lastWarm := x.localWarm, idFailRec := false, exchangeSpoiled := true, remoteLoop := bit x.peerFlags 4
    tx := { x.tx with progress := s.now }, rx := { x.rx with lastError := s.now } }) s
  let s2 := modStime k (fun x => { x with inPlumb := true, mismatches := 0, plumbAt := s.now }) s1
  let s3 := noteTandem (tandemLinkUp s) s2
  let s4 : State := if s3.tandem.firstSpokeUp.isSome then s3 else
    { s3 with tandem.firstSpokeUp := some s3.now, ft.master := s3.ft.master && s3.tandem.role != 0 }
  homeBuckets k (count1 (cPort (spokePort s4 k) 14) s4)

/-- Step 4 to step 5, once both ends have finished equalisation; credits of all 32 pools are sent (R180, R196). -/
def enterCredits (k : Nat) (s : State) : State :=
  let sizes : Tbl Nat := (List.range 32).map fun key =>
    (key, 4 * rf (s.cfg 0x07 k (key / 4)) (31 - 8 * (key % 4)) (24 - 8 * (key % 4)))
  modSpoke k (fun x => { x with state := 5, localDone := false, rx := { x.rx with size := sizes } }) s

/-- Fall back to cold step 4, and tell the partner (R197). -/
def goCold (k : Nat) (s : State) : State :=
  sendTrain k (loadPresets k (modSpoke k (fun x => { x with localWarm := false, localDone := false }) s))

/-- Move on when both ends have finished the present step (R196). -/
def bringUpNext (k : Nat) (s : State) : State :=
  let x := s.spoke k
  if x.state = 4 ∧ x.localDone ∧ bit x.peerFlags 2 then sendTrain k (enterCredits k s)
  else if x.state = 5 ∧ x.localDone ∧ bit x.peerFlags 3 then linkUp k s
  else identityNext k s

/-- This end has finished its step. -/
def finishStep (k : Nat) (s : State) : State :=
  bringUpNext k (sendTrain k (modSpoke k (fun x => { x with localDone := true }) s))

/-- BRINGUP_STEP_DONE: this end has finished the present step of Table 6.8. A warm verification that saw a violation or a
replay falls back to cold step 4 (R197). -/
def stepDone (k : Nat) (r : StepResult) (s : State) : State :=
  let s := modSpoke k (fun x => { x with temp := r.temp }) s
  let x := s.spoke k
  match x.state with
  | 1 => loadReceive k (modSpoke k (fun x => { x with state := 2 }) s)
  | 2 => if x.localDone then s else alignDone k r s
  | 3 => identityDone k s
  | 4 => if x.localWarm && !r.clean then goCold k s else finishStep k (onlyIf (!x.localWarm) (fun s => loadFound k r.found (forAll r.asks (sendAsk k) s)) s)
  | 5 => finishStep k (refreshCredit k (modSpoke k (fun x => { x with loopNs := r.loopNs % 4096 }) s))
  | _ => s

def execBringupStepDone (dt : Time) (spoke : Nat) (r : StepResult) (s : State) : Host.Outcome State Fault Refusal :=
  run dt (okSpoke spoke) (stepDone spoke r) s

/-- A failed attempt is followed by the next 1 ms later (R195). -/
def execBringupRetry (dt : Time) (spoke : Nat) (s : State) : Host.Outcome State Fault Refusal :=
  run dt (okSpoke spoke) (fun s => match (s.spoke spoke).nextTry with
    | some t => if (s.spoke spoke).state = 0 ∧ t ≤ s.now then startBringUp spoke s else s
    | none => s) s

/-- The partner's clock appears: bring-up starts (R195). -/
def execCadenceAppear (dt : Time) (spoke : Nat) (s : State) : Host.Outcome State Fault Refusal :=
  run dt (okSpoke spoke) (fun s =>
    let s1 := modSpoke spoke (fun x => { x with cadence := true }) s
    if (s1.spoke spoke).state = 0 then startBringUp spoke s1 else s1) s

/-- TRAIN: on a spoke that is up it takes the spoke down (R193); in bring-up it tells the partner's identity and progress.
An equalisation request of step 4 moves one FFE tap of the named lane within its range (Tables 4.4 and 6.9). -/
def stepTap (c : Coef) (req : Nat) : Coef :=
  let d : Int := if req % 2 = 0 then 1 else -1
  let clamp (lo hi x : Int) : Int := max lo (min hi x)
  let c' := match req / 2 with
    | 1 => { c with pre2 := clamp (-8) 0 (c.pre2 + d) }
    | 2 => { c with pre1 := clamp (-16) 0 (c.pre1 + d) }
    | 3 => { c with main := clamp 24 64 (c.main + d) }
    | 4 => { c with post1 := clamp (-24) 0 (c.post1 + d) }
    | 5 => { c with post2 := clamp (-8) 7 (c.post2 + d) }
    | _ => c
  if |c'.pre2| + |c'.pre1| + |c'.main| + |c'.post1| + |c'.post2| ≤ 64 then c' else c

def eqRequest (k : Nat) (t : Train) (s : State) : State :=
  if (s.spoke k).state = 4 ∧ t.eqReq ≠ 0 then
    modLane (spokeLane k (t.eqLane % 8)) (fun x => { x with
      coef := if t.eqReq = 1 then presetCoef x.coef t.preset else stepTap x.coef t.eqReq }) s
  else s

def trainArrives (k : Nat) (t : Train) (s : State) : State :=
  let x := s.spoke k
  if x.state = 6 then spokeDown k 4 s
  else if x.state = 0 then s
  else if bit t.flags 4 && loopRuns s 5 k then failAttempt k (modLoop 5 k (fun l => { l with state := 3 }) s)
  else
    let cold := x.state == 4 && x.localWarm && !bit t.flags 0
    let s1 := modSpoke k (fun x => { x with
      peerSn := t.serial % 2 ^ 48, peerDev := t.devnum % 64, peerKnown := true, peerMask := t.mask % 256
      peerFlags := t.flags % 32 }) s
    let warm := mayWarm s1 k
    let s2 := if x.state = 3 ∧ warm ≠ x.localWarm then sendTrain k (modSpoke k (fun x => { x with localWarm := warm }) s1) else s1
    bringUpNext k (onlyIf cold (goCold k) (eqRequest k t s2))

/-! Fabric time (R199 to R202, R543). -/

/-- The device is time-locked: a master always is (R202). -/
def timeLocked (s : State) : Bool := s.ft.master || s.ft.locked

/-- TIME REQ on every spoke that is up (R199). -/
def execTimeReqTimer (dt : Time) (s : State) : Host.Outcome State Fault Refusal :=
  run dt true (fun s => forAll (upSpokes s) (fun k s =>
    let q := ((s.stime k).seq + 1) % 256
    sendParts k 6 1 (timeReqValues s.ft.count q) (emit (.timeReq k s.ft.count q)
      (modSpoke k (fun x => { x with exchangeSpoiled := false })
        (modStime k (fun x => { x with seq := q, t1 := some s.ft.count }) s)))) s) s

/-- A TIME RESP with t2, t3 - t2, the master and this device's hop count (Table 6.10); a device that was never locked names itself, with hop
count 0 (DEDUCED, assumption 89). -/
def answerTime (k seq : Nat) (s : State) : State :=
  if spokeUp s k then
    let m := if s.ft.master then s.dev else s.ft.masterDev
    let h := if s.ft.master then 0 else s.ft.hops
    sendParts k 6 2 (timeRespValues s.ft.count 0 seq m h (timeLocked s))
      (emit (.timeResp k s.ft.count 0 seq m h (timeLocked s)) s)
  else s

/-- TIME REQ arrives (R199). -/
def execTimeReqReceived (dt : Time) (spoke : Nat) (bs : List Beat) (s : State) : Host.Outcome State Fault Refusal :=
  run dt (okSpoke spoke) (onParts spoke 6 6 1 3 bs fun vs => answerTime spoke (bits (vs.getD 2 0) 31 24)) s

/-- Time lock is lost: free running on the local count, and a record (R202, Table 1.2). A handover that tandem device 0 has
offered is cancelled (R428). -/
def loseTimeLock (s : State) : State :=
  let s1 : State := { s with
    ft.locked := false, ft.good := 0, ft.ppm := 0
    tandem.handoverAt := if s.tandem.role = 0 then none else s.tandem.handoverAt }
  if s.ft.locked then deviceRecord 0x0203 0 0 0 s1 else s1

/-- Stop being master for another (R543): not locked until it meets the condition of R202. -/
def yieldMastership (m : Nat) (s : State) : State :=
  deviceRecord 0x0203 0 0 0 { s with
    ft.master := false, ft.yielded := some m, ft.locked := false, ft.good := 0, ft.masterDev := m }

/-- Remove a measured offset: a forward step beyond 1 µs; a backward one by holding the count until the time catches up, a hold under way
lasting as long as the offset now measured; otherwise a rate of up to 200 ppm that removes it by the next exchange (R201). -/
def adjust (o : Int) (f : FabTime) : FabTime :=
  if (us : Int) < o then { f with count := f.count + o.toNat, ppm := 0, holdBack := 0 }
  else if o < -(us : Int) ∨ o < 0 ∧ 0 < f.holdBack then { f with holdBack := (-o).toNat, ppm := 0 }
  else { f with ppm := max (-200) (min 200 (o * 1000000 / (100 * us))), holdBack := 0 }

/-- A valid exchange on the upstream (R200 to R202). -/
def disciplined (o : Int) (s : State) : State :=
  let good := if |o| ≤ 2 * (ns : Int) then s.ft.good + 1 else 0
  let s1 : State := { s with ft := { adjust o s.ft with good := good, locked := s.ft.locked || decide (8 ≤ good) } }
  if s1.ft.locked && decide (50 * (ns : Int) < |o|) then loseTimeLock s1 else s1

/-- TIME RESP (R199 to R202, R543). -/
def timeResp (k t2 t3mt2 seq master hops : Nat) (locked : Bool) (s : State) : State :=
  let x := s.stime k
  match x.t1 with
  | none => s
  | some t1 =>
    let t4 := s.ft.count
    if !spokeUp s k || seq != x.seq || (s.spoke k).exchangeSpoiled || decide (t1 + 10 * us < t4) then s
    else
      let d : Int := (((t4 : Int) - t1) - t3mt2) / 2
      let o : Int := (((t2 : Int) - t1) - ((t4 : Int) - ((t2 : Int) + t3mt2))) / 2
      let s1 := modStime k (fun x => { x with t1 := none, locked := locked, hops := hops, master := master, masterAt := s.now })
        (modSpoke k (fun x => { x with pathDelay := min (2 ^ 32 - 1) (d.toNat / 16) }) s)
      let s2 := if s1.ft.master && decide (master < s1.dev) then yieldMastership master s1 else s1
      if s2.ft.master then s2
      else
        let s3 := setUpstream (if locked then { s2 with ft.lastValid := s2.now } else s2)
        if s3.ft.upstream = some k then disciplined o s3 else s3

def execTimeRespReceived (dt : Time) (spoke : Nat) (bs : List Beat) (s : State) : Host.Outcome State Fault Refusal :=
  run dt (okSpoke spoke) (onParts spoke 6 6 2 4 bs fun vs =>
    let v := vs.getD 3 0
    timeResp spoke (vs.getD 0 0 * 2 ^ 32 + vs.getD 1 0) (vs.getD 2 0) (bits v 31 24) (bits v 23 18) (bits v 17 12) (bit v 11)) s

/-- 1 ms without a valid exchange on any eligible upstream (R202). -/
def execTimeLockLossTimeout (dt : Time) (s : State) : Host.Outcome State Fault Refusal :=
  run dt true (fun s => if !s.ft.master && s.ft.locked && s.since s.ft.lastValid ms then loseTimeLock s else s) s

/-! Plumb (R203, R204). -/

/-- PLUMB on every spoke that is up (R203). -/
def execPlumbTimer (dt : Time) (s : State) : Host.Outcome State Fault Refusal :=
  run dt true (fun s => forAll (upSpokes s) (fun k s =>
    sendParts k 8 0 (plumbValues s.conf.epoch (digestPfx s.conf.digest)) (emit (.plumb k s.conf.epoch (digestPfx s.conf.digest)) s)) s) s

/-- The epoch and digest prefix that a PLUMB message is compared with: those of a commit whose time has come (R211). -/
def ownPlumb (s : State) : Nat × Nat :=
  match s.conf.prepared.filter fun p => p.armed.any fun t => decide (t ≤ s.ft.count) with
  | some p => (p.epoch, digestPfx p.digest)
  | none => (s.conf.epoch, digestPfx s.conf.digest)

/-- A PLUMB message: two consecutive mismatches put the spoke out of plumb, the first match returns it (R204). -/
def plumbArrives (k epoch pfx : Nat) (s : State) : State :=
  if !spokeUp s k then s
  else
    let s0 := modStime k (fun x => { x with plumbAt := s.now, peerEpoch := epoch, peerPrefix := pfx }) s
    let s1 :=
      if (epoch, pfx) == ownPlumb s then
        setPlumb k true (modStime k (fun x => { x with mismatches := 0 }) s0)
      else
        let n := (s0.stime k).mismatches + 1
        let s' := modStime k (fun x => { x with mismatches := n }) s0
        if 2 ≤ n then setPlumb k false s' else s'
    sawEpoch epoch s1

def execPlumbReceived (dt : Time) (spoke : Nat) (bs : List Beat) (s : State) : Host.Outcome State Fault Refusal :=
  run dt (okSpoke spoke) (onParts spoke 6 8 0 3 bs fun vs =>
    plumbArrives spoke (vs.getD 0 0) (vs.getD 1 0 * 2 ^ 32 + vs.getD 2 0)) s

/-- 30 ms without a valid PLUMB message (R204). -/
def execPlumbTimeout (dt : Time) (spoke : Nat) (s : State) : Host.Outcome State Fault Refusal :=
  run dt (okSpoke spoke) (fun s =>
    if spokeUp s spoke && s.since (max (s.spoke spoke).upAt (s.stime spoke).plumbAt) (30 * ms) then setPlumb spoke false s
    else s) s

end Sys2Proof.Machine
end

