-- ==== Sys2Proof/Machine/Mover.lean ====
section
/-! DEFINITION. The data mover: rings, descriptors, columns, coding, reads, notices, completion entries and function-level
reset (chapter 9, R96 to R99). -/

namespace Sys2Proof.Machine

/-! Functions and their resources (Tables 9.3 to 9.6). -/

def funcContexts (f : Nat) : Nat := if f < 512 then 32 else 8
def funcTags (f : Nat) : Nat := if f < 512 then 32 else 64
def funcShare (f : Nat) : Nat := if f < 512 then 65536 else 262144

/-- The first counters of a mover function and of an engine, in the order of Table 18.1. -/
def cfNotOk := 6
def cfReissued := 7
def cfNotices := 8
def cfStagingWaits := 9
def cfTagWaits := 10
def cfSourceBytes := 11
def cfOutputBytes := 12
def cfDoorbells := 13
def cfShort := 14
def cfStray := 15

/-! Descriptors (Table 9.7, R286 to R288). -/

def dq (j : Job) (q hi lo : Nat) : Nat := qf (j.desc.getD q 0) hi lo
def jOp (j : Job) : Nat := dq j 0 63 56
def jClass (j : Job) : Nat := dq j 0 55 54
def jIrq (j : Job) : Bool := dq j 0 53 53 == 1
def jOrder (j : Job) : Bool := dq j 0 52 52 == 1
def jCoefSw (j : Job) : Bool := dq j 0 51 51 == 1
def jPerShard (j : Job) : Bool := dq j 0 50 50 == 1
def jCont (j : Job) : Bool := dq j 0 49 49 == 1
def jId (j : Job) : Nat := dq j 0 31 0
def jK (j : Job) : Nat := dq j 1 63 59
def jM (j : Job) : Nat := dq j 1 58 56
def jSu (j : Job) : Nat := 2 ^ dq j 1 55 51
def jWr (j : Job) : Nat := 128 * 2 ^ dq j 1 50 48
def jLen (j : Job) : Nat := dq j 1 30 0
def jSrc (j : Job) : Nat := dq j 2 63 0
def jDst (j : Job) (i : Nat) : Nat := dq j (3 + i) 63 0
def jOutMask (j : Job) : Nat := dq j 9 39 20
def jInMask (j : Job) : Nat := dq j 9 19 0
/-- ENCODE, DECODE and CHECK use a shard table. -/
def jCoded (j : Job) : Bool := within 3 5 (jOp j)
def jRows (j : Job) : Nat := jLen j / (jK j * jSu j)

/-- Quadword at a byte offset of the shard table, and a coefficient (R287). -/
def tblQuad (j : Job) (off : Nat) : Nat := ofLeBytes ((j.table.drop off).take 8)
def shardSrc (j : Job) (i : Nat) : Nat := tblQuad j (16 * i)
def shardDst (j : Job) (i : Nat) : Nat := tblQuad j (16 * i + 8)
def coefOf (j : Job) (r i : Nat) : Byte := j.table.getD (320 + 16 * r + i) 0

/-- The reserved fields of a descriptor are 0. -/
def reservedClear (j : Job) : Bool :=
  dq j 0 48 32 == 0 && dq j 1 47 31 == 0 && dq j 9 63 40 == 0 && (List.range' 10 6).all fun q => dq j q 63 0 == 0

/-- The checks of R288 that the descriptor alone decides. -/
def descOk (j : Job) : Bool :=
  let lenOk := within 1 1073741824 (jLen j)
  let wrOk := within 0 5 (dq j 1 50 48)
  let kOk := within 1 16 (jK j) && within 12 20 (dq j 1 55 51)
  let codedOk := kOk && jLen j % (jK j * jSu j) == 0 && jDst j 0 % 64 == 0
  reservedClear j && lenOk && match jOp j with
    | 1 | 2 => within 1 4 (jM j) && wrOk
    | 3 => codedOk && within 0 4 (jM j) && wrOk && (jPerShard j || jSrc j % 4096 == 0)
    | 4 =>
      codedOk && within 1 4 (jM j) && wrOk && decide (jInMask j &&& jOutMask j = 0) &&
        decide (jInMask j < 2 ^ (jK j + jM j)) && decide (jOutMask j < 2 ^ (jK j + jM j)) &&
        within 1 4 (popcount (jOutMask j) 20) &&
        (if jCoefSw j then decide (popcount (jInMask j) 20 ≤ 16) else popcount (jInMask j) 20 == jK j)
    | 5 => codedOk && within 1 4 (jM j)
    | 6 => true
    | _ => false

/-- Shards a coded job reads, and those it writes, in ascending order (Table 9.8). -/
def readShards (j : Job) : List Nat := match jOp j with
  | 3 => List.range (jK j)
  | 4 => onesBelow (jInMask j) 20
  | 5 => List.range (jK j + jM j)
  | _ => []
def writeShards (j : Job) : List Nat := match jOp j with
  | 3 => List.range (jK j + jM j)
  | 4 => onesBelow (jOutMask j) 20
  | _ => []

/-- The addresses of the shard table that the job uses are multiples of 4 KiB (R288). -/
def tableOk (j : Job) : Bool :=
  ((jOp j == 3 && !jPerShard j) || (readShards j).all fun i => shardSrc j i % 4096 == 0) &&
    (writeShards j).all fun i => shardDst j i % 4096 == 0

/-! Columns (R294). -/

/-- w of a coded job. -/
def colWidth (j : Job) : Nat := if (readShards j).length * 4096 ≤ 65536 then 4096 else 2048
def colsPerRow (j : Job) : Nat := jSu j / colWidth j
/-- The base of a job's pieces: its source, or destination 0 of a FILL. -/
def pieceBase (j : Job) : Nat := if jOp j = 2 then jDst j 0 else jSrc j
def numCols (j : Job) : Nat :=
  if jCoded j then jRows j * colsPerRow j else ceilDiv (pieceBase j % 4096 + jLen j) 4096
/-! Jobs, and the operations on them. -/

/-- Every frame of the job has a notice and every read has ended. -/
def jobIdle (j : Job) : Bool :=
  j.tags.isEmpty && j.cols.all fun c => c.reading.isEmpty && (!c.issued || decide (c.frames.length ≤ c.notices.length))

/-- The job may end: all its columns are done, or it ended in error and is idle. -/
def jobEnds (j : Job) : Bool :=
  match j.phase with
  | .fetching | .tableWait | .tableRead => false
  | _ => if j.error.isSome then jobIdle j else j.phase == .bound && j.nextCol == numCols j && j.cols.isEmpty

def findJob (s : State) (f ctx : Nat) : Option Job := s.mover.jobs.find? fun j => j.func == f && j.ctx == ctx
/-- Change a job. One that has ended thereby joins those whose completion entries are written in the order in which they end (R282). -/
def modJob (f ctx : Nat) (g : Job → Job) (s : State) : State :=
  let jobs := s.mover.jobs.map fun j => if j.func == f && j.ctx == ctx then g j else j
  let ends := !s.mover.ended.contains (f, ctx) && jobs.any fun j => j.func == f && j.ctx == ctx && !j.loop && jobEnds j
  { s with
    mover.jobs := jobs
    mover.ended := if ends then s.mover.ended ++ [(f, ctx)] else s.mover.ended }
def modCol (f ctx i : Nat) (g : Column → Column) (s : State) : State :=
  modJob f ctx (fun j => { j with cols := j.cols.map fun c => if c.idx == i then g c else c }) s
def jobsOf (s : State) (f : Nat) : List Job := s.mover.jobs.filter fun j => j.func == f

/-- The first status of a job that ends in error stands (R302). -/
def jobFails (f ctx status a : Nat) (s : State) : State :=
  modJob f ctx (fun j => if j.error.isSome then j else { j with error := some (status, a) }) s

/-- The bus number of the function's requests; while it is 0 the function issues nothing (R296). -/
def busReady (s : State) (f : Nat) : Bool := (rootBus s (funcPart s f)).getD 0 != 0

/-- A read tag is neither in use nor in quarantine (R296). -/
def tagFree (s : State) (f t : Nat) : Bool :=
  !(s.func f).tagsBusy.contains t && !((s.func f).tagsQuar.any fun e => e.1 == t && decide (s.now < e.2))

/-- The lowest free read tag. -/
def freeReadTag (s : State) (f : Nat) : Option Nat := (List.range (funcTags f)).find? (tagFree s f)

def takeReadTag (f t : Nat) (s : State) : State := modFunc f (fun q => { q with tagsBusy := q.tagsBusy ++ [t] }) s
def dropReadTag (f t : Nat) (s : State) : State := modFunc f (fun q => { q with tagsBusy := q.tagsBusy.filter (· != t) }) s
/-- A read tag whose read timed out is quarantined for 2 ms (R296). -/
def quarReadTag (f t : Nat) (s : State) : State :=
  dropReadTag f t (modFunc f (fun q => { q with
    tagsQuar := (q.tagsQuar.filter fun e => e.1 != t && decide (s.now < e.2)) ++ [(t, s.now + quarantine)] }) s)

/-- A function's read: a lossless memory read (R296). -/
def issueRead (f tag addr len cls : Nat) (s : State) : State :=
  issueMover f { kind := .memRead, addr := addr, len := len, tag := tag } cls none s

/-- A lossless write of a function. -/
def issueWrite (f addr : Nat) (data : List Byte) (cls : Nat) (s : State) : State :=
  issueMover f { kind := .memWrite, addr := addr, len := data.length, payload := data.length
                 frameBytes := 16 + data.length, data := data } cls none s

/-- MSI-X vector 0 or 1 of a function: its message is a memory write; a masked vector sets its pending bit, and so does any while the bus
number is 0 (R283, R296). A message that waits keeps its class (R278). -/
def funcMsix (f v cls : Nat) (s : State) : State :=
  let q := s.func f
  if msixMasked q.msix v || !busReady s f then modFunc f (fun q => { q with pba := setBit q.pba v, pbaCls := tset 0 q.pbaCls v cls }) s
  else emit (.msix (funcPart s f) f v) (issueWrite f (tget 0 q.msix (2 * v)) (leBytes 4 (msixData q.msix v)) cls s)

/-- A pending message of a vector that nothing holds back any more leaves; none once a function-level reset has begun (R306). -/
def sendPended (f v : Nat) (s : State) : State :=
  let q := s.func f
  if bit q.pba v && !msixMasked q.msix v && busReady s f && !q.dying then
    funcMsix f v (tget 0 q.pbaCls v) (modFunc f (fun q => { q with pba := clrBit q.pba v }) s)
  else s

/-- The ring enters STATE 2 (R283, R284). -/
def ringError (f code : Nat) (s : State) : State :=
  let p := funcPart s f
  let s1 := modFunc f (fun q => { q with state := 2, ringErr := code }) s
  record [p] { devRec s1 0x0601 2 code 0 with srcPart := some p, srcFunc := some f } (funcMsix f 1 0 s1)

/-- STATE becomes 0 once RING_EN is 0 and no job is left; RING_ERR keeps its code (R280, assumption 142). -/
def settleRing (f : Nat) (s : State) : State :=
  let q := s.func f
  if !q.ringEn && (q.state == 1 || q.state == 2) && (jobsOf s f).isEmpty then modFunc f (fun q => { q with state := 0 }) s
  else s

/-! Pieces, blocks and outputs of a column (R294, Table 9.8). -/

/-- A piece's offset in the job and its length. -/
def pieceOff (j : Job) (c : Nat) : Nat := if c = 0 then 0 else c * 4096 - pieceBase j % 4096
def pieceLen (j : Job) (c : Nat) : Nat := min (jLen j) ((c + 1) * 4096 - pieceBase j % 4096) - pieceOff j c
/-- A coded column's row and its offset in the row. -/
def colRow (j : Job) (c : Nat) : Nat := c / colsPerRow j
def colOff (j : Job) (c : Nat) : Nat := c % colsPerRow j * colWidth j

/-- Pieces of (offset, length) that cross no 4 KiB boundary and are at most `max` long. -/
def splitAt4k (max : Nat) : Nat → Nat → Nat → List (Nat × Nat)
  | 0, _, _ => []
  | fuel + 1, addr, len =>
    if len = 0 then []
    else
      let n := min (min len max) (4096 - addr % 4096)
      (addr, n) :: splitAt4k max fuel (addr + n) (len - n)

/-- Cut a range for requests or frames; `max` is at least 128 bytes. -/
def cut (max addr len : Nat) : List (Nat × Nat) := splitAt4k (if max < 128 then 128 else max) 64 addr len

/-- The blocks a column reads, as (block, address, length). -/
def colBlocks (j : Job) (c : Nat) : List (Nat × Nat × Nat) :=
  match jOp j with
  | 1 | 6 => [(0, jSrc j + pieceOff j c, pieceLen j c)]
  | 2 => []
  | _ =>
    let sh := readShards j
    (List.range sh.length).map fun t =>
      let i := sh.getD t 0
      (t, if jOp j = 3 ∧ ¬ jPerShard j then jSrc j + (colRow j c * jK j + i) * jSu j + colOff j c
          else shardSrc j i + colRow j c * jSu j + colOff j c, colWidth j)

/-- The read requests of a column, as (key, address, length) (R296). -/
def colReads (s : State) (j : Job) (c : Nat) : List (Nat × Nat × Nat) :=
  (colBlocks j c).flatMap fun b =>
    (cut (min 4096 (s.part (funcPart s j.func)).mrrs1) b.2.1 b.2.2).map fun a => (b.1 * 4096 + (a.1 - b.2.1), a.1, a.2)

/-- The staging a column needs (R295). -/
def colNeed (j : Job) (c : Nat) : Nat := match jOp j with
  | 1 | 6 => pieceLen j c
  | 2 => 0
  | _ => (readShards j).length * colWidth j

/-- A block of a column, put together from its reads. -/
def blockOf (c : Column) (t : Nat) : List Byte := (c.blocks.filter fun e => e.1 / 4096 == t).flatMap (·.2)

/-! Coding (R289 to R293). -/

/-- The coefficients of a coded job's outputs: for each output, one per input (R290, R291). -/
def jobCoefs (j : Job) : List (List Byte) :=
  let k := jK j
  match jOp j with
  | 3 | 5 => (List.range (jM j)).map fun r => (List.range k).map fun i => if jCoefSw j then coefOf j r i else cauchy r i
  | 4 =>
    let ins := readShards j
    if jCoefSw j then (List.range (writeShards j).length).map fun r => (List.range ins.length).map fun i => coefOf j r i
    else
      let inv := gfInvert k (ins.map (genRow k))
      (writeShards j).map fun sh => rowTimes (genRow k sh) inv k
  | _ => []

/-- The pattern of a FILL from a byte offset of its destination (Table 9.7). -/
def patternBytes (j : Job) (off len : Nat) : List Byte :=
  (List.range len).map fun x => byteOf (dq j 7 63 0) ((off + x) % 8)

/-- The outputs of a column: shard or destination index, address and data (Table 9.8). -/
def colOutputs (j : Job) (c : Column) : List (Nat × Nat × List Byte) :=
  match jOp j with
  | 1 => (List.range (jM j)).map fun d => (d, jDst j d + pieceOff j c.idx, blockOf c 0)
  | 2 => (List.range (jM j)).map fun d =>
      (d, jDst j d + pieceOff j c.idx, patternBytes j (pieceOff j c.idx) (pieceLen j c.idx))
  | 3 | 4 =>
    let w := colWidth j
    let ins := (List.range (readShards j).length).map (blockOf c)
    let coded := (jobCoefs j).map fun cf => combine cf ins w
    let base := colRow j c.idx * jSu j + colOff j c.idx
    (List.range (writeShards j).length).map fun t =>
      let sh := (writeShards j).getD t 0
      (sh, shardDst j sh + base,
        if jOp j = 3 then (if t < jK j then blockOf c t else coded.getD (t - jK j) []) else coded.getD t [])
  | _ => []

/-- The frames of a column: shard, frame index, address and data (R297). -/
def colFrames (s : State) (j : Job) (c : Column) : List (Nat × Nat × Nat × List Byte) :=
  let max := min (jWr j) (s.part (funcPart s j.func)).mps1
  (colOutputs j c).flatMap fun o =>
    let ps := cut max o.2.1 o.2.2.length
    (List.range ps.length).map fun i =>
      let p := ps.getD i (0, 0)
      (o.1, i, p.1, (o.2.2.drop (p.1 - o.2.1)).take p.2)

/-- CHECK: each parity shard recomputed and compared (R292). -/
def checkColumn (j : Job) (c : Column) : Job :=
  let k := jK j
  let ins := (List.range k).map (blockOf c)
  let base := colRow j c.idx * jSu j + colOff j c.idx
  let diffs := (List.range (jM j)).map fun r =>
    let want := combine ((jobCoefs j).getD r []) ins (colWidth j)
    let have' := blockOf c (k + r)
    (k + r, (List.range (colWidth j)).find? fun x => want.getD x 0 != have'.getD x 0)
  diffs.foldl (fun j d => match d.2 with
    | none => j
    | some x => { j with
        mismatch := setBit j.mismatch d.1
        mismatchAt := some (match j.mismatchAt with
          | some m => min m (base + x)
          | none => base + x) }) j

/-- A column of DIGEST or CHECK has been processed. -/
def digestColumn (j : Job) (c : Column) : Job :=
  { j with
    crc32 := (crc32cOn (BitVec.ofNat 32 j.crc32) (blockOf c 0)).toNat
    crc64 := (crc64More (BitVec.ofNat 64 j.crc64) (blockOf c 0)).toNat }

/-! Issue of columns (R295, R297, R298). -/

/-- All of a column's reads have landed. -/
def colRead (c : Column) : Bool := c.reserved && c.toRead.isEmpty && c.reading.isEmpty && !c.issued

def freeStaging (f n : Nat) (s : State) : State := modFunc f (fun q => { q with staging := q.staging - n }) s

/-- The work tag of a frame (Table 9.9). -/
def workTagOf (j : Job) (c : Column) (shard frame : Nat) : WorkTag :=
  { engine := j.engine.getD 0, func := j.func, ctx := j.ctx, gen := c.gen % 8, column := c.idx, shard := shard
    frame := frame, ctxSeq := j.ctxSeq }

/-- A recoverable write of a mover function: a reach denial or a form error at issue ends the job WRITE_DENIED and leaves no
frame (R241, R266); any other goes to the hub and counts toward the column's issue. -/
def issueFrame (f ctx i shard frame addr : Nat) (data : List Byte) (s : State) : State :=
  match findJob s f ctx with
  | none => s
  | some j =>
    match j.error, j.cols.find? fun c => c.idx == i with
    | none, some c =>
      let t : Tlp := { kind := .memWrite, addr := addr, len := data.length, payload := data.length
                       frameBytes := 16 + data.length, data := data, rid := funcRid s f }
      let deny (d p : Nat) (s : State) : State :=
        jobFails f ctx 5 addr (episodeRecord true (funcPart s f) (ingressRec s (.mover f) t 0x0501 d p) s)
      match lookup s (.mover f) t with
      | .denied e d p => deny d p (countDenial (.mover f) e s)
      | .noRoute d => deny d 0 (countDenial (.mover f) 64 s)
      | .form _ _ => jobFails f ctx 5 addr s
      | _ =>
        countBytes (cFunc f cfOutputBytes) data.length
          (issueMover f t (jClass j) (some (workTagOf j c shard frame))
            (modCol f ctx i (fun c => { c with frames := c.frames ++ [(shard, frame, addr)] }) s))
    | _, _ => s

/-- An engine has passed a column, and for a coding job made its M combinations of the column's shards (Table 18.1, assumption 16). -/
def countColumn (j : Job) (s : State) : State :=
  let e := j.engine.getD 0
  countBy (cEng e 2) (if within 3 5 (jOp j) then jM j else 0) (count1 (cEng e 1) s)

/-- A column is over: it leaves the job. -/
def endColumn (f ctx i : Nat) (s : State) : State :=
  modJob f ctx (fun j => { j with doneCols := j.doneCols + 1, cols := j.cols.filter fun c => c.idx != i }) s

/-- A column of a loop-back job: its frames go to the mover attachment, return by R45 and are checked; the job goes on with the
next column without end (R517). -/
def loopColumn (j : Job) (c : Column) (s : State) : State :=
  let n := pieceLen j c.idx
  let s1 := countBytes (cFunc j.func cfOutputBytes) n (countLoop 6 j.func n 0 s)
  countColumn j (freeStaging j.func c.need
    (modJob j.func j.ctx (fun j => { j with nextCol := if numCols j ≤ j.nextCol then 0 else j.nextCol })
      (endColumn j.func j.ctx c.idx s1)))

/-- COLUMN_ISSUE: a read column is coded and its frames are handed to the hub; its staging is freed (R295, R297). -/
def columnIssue (f ctx i : Nat) (s : State) : State :=
  match findJob s f ctx with
  | none => s
  | some j => match j.cols.find? fun c => c.idx == i with
    | none => s
    | some c =>
      if j.loop then loopColumn j c s else
      let s1 := modCol f ctx i (fun c => { c with
        issued := true, issues := c.issues + 1, frames := [], notices := [], blocks := [], forced := false }) s
      let s2 := forAll (colFrames s j c) (fun o s => issueFrame f ctx i o.1 o.2.1 o.2.2.1 o.2.2.2 s) s1
      countColumn j
        (freeStaging f c.need (modCol f ctx i (fun c => { c with reserved := false, handedAt := s.now }) s2))

/-- DIGEST processes its columns in ascending order, CHECK as they land (R292, R293); each frees its staging. -/
def processColumns (f ctx : Nat) : Nat → State → State
  | 0, s => s
  | fuel + 1, s =>
    match findJob s f ctx with
    | none => s
    | some j =>
      match j.cols.find? fun c => colRead c && (jOp j == 5 || c.idx == j.doneCols) with
      | none => s
      | some c =>
        let s1 := modJob f ctx (fun j => if jOp j = 5 then checkColumn j c else digestColumn j c) s
        processColumns f ctx fuel (countColumn j (freeStaging f c.need (endColumn f ctx c.idx s1)))

/-- The lowest column of a job that may be issued: its reads have landed, and every lower one has been issued (R294). -/
def nextIssue (j : Job) : Option Column :=
  j.cols.find? fun c => colRead c && j.cols.all fun x => decide (c.idx ≤ x.idx) || decide (1 ≤ x.issues)

/-- Issue a job's columns in ascending order; none while the bus number is 0 (R294, R296). -/
def issueColumns (f ctx : Nat) : Nat → State → State
  | 0, s => s
  | fuel + 1, s =>
    match findJob s f ctx with
    | none => s
    | some j =>
      if j.error.isSome || !busReady s f && !j.loop then s
      else match nextIssue j with
        | some c => issueColumns f ctx fuel (columnIssue f ctx c.idx s)
        | none => s

/-- A column's last read has landed, or it has none: columns are issued, or processed. A FILL's wait for their grants. -/
def columnLanded (f ctx : Nat) (s : State) : State :=
  match findJob s f ctx with
  | none => s
  | some j =>
    if j.error.isSome || (s.func f).dying || jOp j == 2 then s
    else if jOp j = 5 ∨ jOp j = 6 then processColumns f ctx (j.cols.length + 1) s
    else issueColumns f ctx (j.cols.length + 1) s

/-- The staging memory of a function: bank 1 for VFs, 2 for functions 1 (Table 1.4). -/
def stagingBank (f : Nat) : Nat := if f < 512 then 1 else 2

/-- A re-read after an uncorrectable error in staging has landed clean: the error was transient (R303). -/
def rereadLanded (f ctx i : Nat) (s : State) : State :=
  match findJob s f ctx with
  | none => s
  | some j => match j.cols.find? fun c => c.idx == i with
    | none => s
    | some c =>
      if c.reread = 1 ∧ colRead c then memTransient (stagingBank f) 0 (modCol f ctx i (fun c => { c with reread := 2 }) s) else s

/-- Reserve a column's staging when it fits (R295). -/
def reserve (f ctx i : Nat) (s : State) : State :=
  match findJob s f ctx with
  | none => s
  | some j => match j.cols.find? fun c => c.idx == i with
    | none => s
    | some c =>
      if (s.func f).staging + c.need ≤ funcShare f then
        modFunc f (fun q => { q with staging := q.staging + c.need }) (modCol f ctx i (fun c => { c with reserved := true }) s)
      else count1 (cFunc f cfStagingWaits) s

/-- COLUMN_REISSUE: the column is read again and issued under the next generation (R298). -/
def reissue (f ctx i : Nat) (s : State) : State :=
  match findJob s f ctx with
  | none => s
  | some j =>
    columnLanded f ctx <| reserve f ctx i (count1 (cFunc f cfReissued)
      (modCol f ctx i (fun c => { c with
        gen := c.gen + 1, issued := false, reserved := false, forced := false, toRead := colReads s j i, frames := []
        notices := [], blocks := [] })
        (modJob f ctx (fun j => { j with reissues := min 65535 (j.reissues + 1) }) s)))

/-- Every frame of an issue has a notice: the column is done, re-issued, or its job ends; none is re-issued in a function-level reset (R298,
R299, R302, R306). An issue that ends without a residue fault has passed that check (R305). -/
def settleColumn (f ctx i : Nat) (s : State) : State :=
  match findJob s f ctx with
  | none => s
  | some j => match j.cols.find? fun c => c.idx == i with
    | none => s
    | some c =>
      if !c.issued || c.notices.length < c.frames.length then s
      else if j.error.isSome || (s.func f).dying then endColumn f ctx i s
      else if c.forced || c.notices.any fun n => n.2.2 != 0 then
        if 16 ≤ c.issues then endColumn f ctx i (jobFails f ctx 7 i s)
        else reissue f ctx i (onlyIf (!c.forced) (modCol f ctx i fun c => { c with residue := 0 }) s)
      else endColumn f ctx i s

/-! Notices (R94, R298). -/

/-- A drop notice of congestion acts on the shaper of the lane that issued the frame, which the notice names, as an echo (R94). -/
def noticeEcho (lane : Nat) (n : Notice) (s : State) : State := if within 1 4 n.cause then echoAt 20 (64 + lane) s else s

/-- The status that a drop without re-issue gives its job (Table 2.10, Table 9.10). -/
def dropStatus : Nat → Option Nat
  | 0x6 => some 6
  | 0x7 => some 5
  | 0x9 => some 10
  | _ => none

/-- One notice (R298). -/
def takeNotice (lane : Nat) (n : Notice) (s : State) : State :=
  let t := n.tag
  let s := count1 (cFunc t.func cfNotices) (noticeEcho lane n s)
  let stray := count1 (cFunc t.func cfStray) s
  match findJob s t.func t.ctx with
  | none => stray
  | some j => match j.cols.find? fun c => c.idx == t.column with
    | none => stray
    | some c =>
      if j.ctxSeq != t.ctxSeq || !c.issued || c.gen % 8 != t.gen ||
          !(c.frames.any fun x => x.1 == t.shard && x.2.1 == t.frame) ||
          c.notices.any fun x => x.1 == t.shard && x.2.1 == t.frame then stray
      else
        let addr := ((c.frames.find? fun x => x.1 == t.shard && x.2.1 == t.frame).map (·.2.2)).getD 0
        let s1 := modCol t.func t.ctx t.column (fun c => { c with notices := c.notices ++ [(t.shard, t.frame, n.cause)] }) s
        let s2 := match dropStatus n.cause with
          | some st => jobFails t.func t.ctx st addr s1
          | none => s1
        settleColumn t.func t.ctx t.column s2

/-- NOTICE_RECEIVED (R298). -/
def execNoticeReceived (dt : Time) (lane : Nat) (ns : List Notice) (s : State) : Host.Outcome State Fault Refusal :=
  run dt (okSvc lane) (forAll ns (takeNotice lane)) s

/-- NOTICE_TIMEOUT: frames without a notice 4 ms after the issue count as dropped with a cause that allows re-issue (R298). -/
def execNoticeTimeout (dt : Time) (func ctx column : Nat) (s : State) : Host.Outcome State Fault Refusal :=
  run dt (okFunc func) (fun s => match findJob s func ctx with
    | none => s
    | some j => match j.cols.find? fun c => c.idx == column with
      | none => s
      | some c =>
        if c.issued && s.since c.handedAt (4 * ms) then
          let lost := c.frames.filter fun x => !(c.notices.any fun n => n.1 == x.1 && n.2.1 == x.2.1)
          settleColumn func ctx column
            (modCol func ctx column (fun c => { c with notices := c.notices ++ lost.map fun x => (x.1, x.2.1, 8) }) s)
        else s) s

/-! Rings (R280, R281, R284). -/

/-- A function takes no doorbell: its ring is not running, or function 1 of its partition is in D3hot (R144, R281). -/
def doorbellDead (s : State) (f : Nat) : Bool := (s.func f).state != 1 || (s.part (funcPart s f)).f1D3

def sqDoorbell (f : Nat) (v : Word64) (s : State) : State :=
  let i := qf v 11 0
  if doorbellDead s f then count1 (cFunc f cfDoorbells) s
  else if 2 ^ (s.func f).sqLog2 ≤ i then ringError f 3 s
  else modFunc f (fun q => { q with sqTail := i }) s

def execSqDoorbell (dt : Time) (func : Nat) (v : Word64) (s : State) : Host.Outcome State Fault Refusal :=
  run dt (okFunc func) (sqDoorbell func v) s

/-- The host has freed completion slots; discarded in STATE 0 and 3 alone (R281, assumption 141). An index beyond the ring is an error of it in
STATE 2 too (R283; DEDUCED, assumption 156). -/
def cqDoorbell (f : Nat) (v : Word64) (s : State) : State :=
  let i := qf v 11 0
  if (s.func f).state = 3 || (s.func f).state = 0 then count1 (cFunc f cfDoorbells) s
  else if 2 ^ (s.func f).cqLog2 ≤ i then ringError f 3 s
  else modFunc f (fun q => { q with cqHead := i }) s

def execCqDoorbell (dt : Time) (func : Nat) (v : Word64) (s : State) : Host.Outcome State Fault Refusal :=
  run dt (okFunc func) (cqDoorbell func v) s

/-- RING_EN goes from 0 to 1 (R280). The codes are taken only in STATE 0. -/
def ringEnable (f sqLog2 cqLog2 : Nat) (s : State) : State :=
  let q := s.func f
  if q.ringEn || q.state = 3 then s
  else
    let s1 := modFunc f (fun q => { q with
      ringEn := true, sqLog2 := if q.state = 0 then sqLog2 else q.sqLog2, cqLog2 := if q.state = 0 then cqLog2 else q.cqLog2 }) s
    let q1 := s1.func f
    if within 4 12 q1.sqLog2 && within 4 12 q1.cqLog2 then
      modFunc f (fun q => { q with
        state := 1, sqHead := 0, sqTail := 0, cqTail := 0, cqHead := 0, cqPhase := true, ringErr := 0 }) s1
    else ringError f 1 s1

def execRingEnable (dt : Time) (func sqLog2 cqLog2 : Nat) (s : State) : Host.Outcome State Fault Refusal :=
  run dt (okFunc func) (ringEnable func (sqLog2 % 16) (cqLog2 % 16)) s

def ringDisable (f : Nat) (s : State) : State := settleRing f (modFunc f (fun q => { q with ringEn := false }) s)

def execRingDisable (dt : Time) (func : Nat) (s : State) : Host.Outcome State Fault Refusal :=
  run dt (okFunc func) (ringDisable func) s

/-- DESCRIPTOR_FETCH (R281, R285). CTX_SEQ counts the job that it fetches (Table 9.9, assumption 140). -/
def descriptorFetch (f : Nat) (s : State) : State :=
  let q := s.func f
  if q.state != 1 || !q.ringEn || q.sqHead == q.sqTail || !busReady s f then s
  else
    match (List.range (funcContexts f)).find? fun c => (findJob s f c).isNone with
    | none => s
    | some ctx => match freeReadTag s f with
      | none => count1 (cFunc f cfTagWaits) s
      | some tag =>
        let n := (tget 0 q.ctxSeq ctx + 1) % 64
        let job : Job := { func := f, ctx := ctx, ctxSeq := n, order := s.mover.nextOrder, slot := q.sqHead
                           tags := [tag], tagAt := s.now }
        let s1 : State := { s with mover.jobs := s.mover.jobs ++ [job], mover.nextOrder := s.mover.nextOrder + 1 }
        let s2 := modFunc f (fun q => { q with
          sqHead := (q.sqHead + 1) % 2 ^ q.sqLog2, ctxSeq := tset 0 q.ctxSeq ctx n }) (takeReadTag f tag s1)
        issueRead f tag (q.sqBase.toNat / 4096 * 4096 + 128 * job.slot) 128 0 s2

def execDescriptorFetch (dt : Time) (func : Nat) (s : State) : Host.Outcome State Fault Refusal :=
  run dt (okFunc func) (descriptorFetch func) s

def removeJob (f ctx : Nat) (s : State) : State :=
  settleRing f { s with
    mover.jobs := s.mover.jobs.filter fun j => !(j.func == f && j.ctx == ctx)
    mover.ended := s.mover.ended.filter (· != (f, ctx)) }

/-- A failed fetch stops the ring at its entry, and frees its context (R284); a ring in error already keeps its code (assumption 156). -/
def fetchFailed (f ctx slot : Nat) (s : State) : State :=
  removeJob f ctx (onlyIf ((s.func f).state == 1) (fun s => ringError f 2 (modFunc f (fun q => { q with sqHead := slot }) s)) s)

/-- The seeds of a DIGEST, or its start values (R293). -/
def seeded (j : Job) : Job :=
  if jCont j then { j with crc32 := dq j 7 31 0, crc64 := dq j 8 63 0 } else { j with crc32 := 0, crc64 := 0 }

/-- The requests of a shard table's read, as (address, length): 384 bytes cut as any read is (R296). -/
def tableCuts (s : State) (j : Job) : List (Nat × Nat) := cut (min 4096 (s.part (funcPart s j.func)).mrrs1) (jDst j 0) 384

/-- A shard table's read starts once the bus number is there and its requests have a read tag each (R287, R296). -/
def startTable (f ctx : Nat) (s : State) : State :=
  match findJob s f ctx with
  | none => s
  | some j =>
    let rs := tableCuts s j
    let tags := ((List.range (funcTags f)).filter (tagFree s f)).take rs.length
    if j.phase ≠ .tableWait ∨ (s.func f).dying ∨ ¬ busReady s f ∨ tags.length < rs.length then s
    else forAll (tags.zip rs) (fun r s => issueRead f r.1 r.2.1 r.2.2 (jClass j) (takeReadTag f r.1 s))
      (modJob f ctx (fun j => { j with phase := .tableRead, tags := tags, tagAt := s.now }) s)

/-- What waited for read tags goes on. -/
def startTables (f : Nat) (s : State) : State := forAll ((jobsOf s f).map (·.ctx)) (startTable f) s

/-- A fetched descriptor: BAD_DESC, the shard table's read, or a job ready to be bound (R286 to R288). -/
def descriptorArrived (f ctx : Nat) (desc : List Word64) (s : State) : State :=
  let s1 := modJob f ctx (fun j => seeded { j with desc := desc.take 16 }) s
  match findJob s1 f ctx with
  | none => s1
  | some j =>
    if !descOk j then modJob f ctx (fun j => { j with phase := .ending }) (jobFails f ctx 2 0 s1)
    else if jCoded j then startTable f ctx (modJob f ctx (fun j => { j with phase := .tableWait }) s1)
    else modJob f ctx (fun j => { j with phase := .ready, coefReady := true }) s1

/-- A job's descriptor or table read has ended, whichever way. -/
def endJobRead (j : Job) (s : State) : State :=
  forAll j.tags (dropReadTag j.func) (modJob j.func j.ctx (fun j => { j with tags := [] }) s)

/-- The reads of a function that is being reset are drained (Table 9.12). -/
def drained (f ctx : Nat) (s : State) : State := removeJob f ctx s

def execDescriptorFetchComplete (dt : Time) (func ctx : Nat) (st : CplStatus) (desc : List Word64) (s : State) :
    Host.Outcome State Fault Refusal :=
  run dt (okFunc func) (fun s => match findJob s func ctx with
    | none => s
    | some j =>
      if j.phase ≠ .fetching then s
      else
        let s1 := endJobRead j s
        startTables func <|
          if (s.func func).dying then drained func ctx s1
          else if st = .sc ∧ desc ≠ [] then descriptorArrived func ctx desc s1
          else fetchFailed func ctx j.slot s1) s

/-- A shard table (R287, R288). -/
def tableArrived (f ctx : Nat) (table : List Byte) (s : State) : State :=
  let s1 := modJob f ctx (fun j => { j with table := table.take 384 }) s
  match findJob s1 f ctx with
  | none => s1
  | some j =>
    if tableOk j then modJob f ctx (fun j => { j with phase := .ready, coefReady := jOp j != 4 || jCoefSw j }) s1
    else modJob f ctx (fun j => { j with phase := .ending }) (jobFails f ctx 2 0 s1)

def tableFailed (j : Job) (s : State) : State :=
  modJob j.func j.ctx (fun j => { j with phase := .ending }) (jobFails j.func j.ctx 3 (jDst j 0) s)

/-- SHARD_TABLE_READ_COMPLETE. Poisoned data is no data (Table 9.10, assumption 157). -/
def execShardTableReadComplete (dt : Time) (func ctx : Nat) (st : CplStatus) (table : List Byte) (s : State) :
    Host.Outcome State Fault Refusal :=
  run dt (okFunc func) (fun s => match findJob s func ctx with
    | none => s
    | some j =>
      if j.phase ≠ .tableRead then s
      else
        let s1 := endJobRead j s
        startTables func <|
          if (s.func func).dying then drained func ctx s1
          else if st = .sc ∧ table ≠ [] then tableArrived func ctx table s1
          else tableFailed j s1) s

/-- The coefficients of a DECODE with the built-in matrix are derived (R291). -/
def execCoefficientsDerived (dt : Time) (func ctx : Nat) (s : State) : Host.Outcome State Fault Refusal :=
  run dt (okFunc func) (modJob func ctx fun j => if j.phase = .bound then { j with coefReady := true } else j) s

/-! Binding and grants (R96 to R99). -/

/-- Source bytes of the columns a job has not begun; a FILL, which reads nothing, counts the columns' length (R96). -/
def laterBytes (j : Job) : Nat :=
  if jCoded j then (numCols j - j.nextCol) * colNeed j 0 else if numCols j ≤ j.nextCol then 0 else jLen j - pieceOff j j.nextCol

/-- Source bytes of a column whose reads are still to be granted or under way; for a FILL the length of a column not yet granted. -/
def columnUnread (j : Job) (c : Column) : Nat :=
  if jOp j = 2 then (if c.issued then 0 else pieceLen j c.idx)
  else (c.toRead.map fun r => r.2.2).sum + (c.reading.map (·.len)).sum

/-- Bytes of bound work of an engine not yet read (R96). -/
def boundWork (s : State) (e : Nat) : Nat :=
  ((s.mover.jobs.filter fun j => j.engine == some e && j.phase == .bound && j.error.isNone).map fun j =>
    laterBytes j + (j.cols.map (columnUnread j)).sum).sum

/-- Engines that take new bindings (R96, R304). -/
def bindable (s : State) : List Nat :=
  (List.range 4).filter fun e => (s.engine e).inService && (s.engine e).drainMb.isNone && !(s.engine e).testing

def leastLoaded (s : State) : Option Nat :=
  (bindable s).foldl (fun best e => match best with
    | none => some e
    | some b => if boundWork s e < boundWork s b then some e else some b) none

/-- Deficit and pointer keys of the mover's scheduler. -/
def defClass (e c : Nat) : Nat := 2 ^ 22 + e * 4 + c
def defLeaf (e c f : Nat) : Nat := 2 ^ 23 + (e * 4 + c) * 1024 + f
def ptrEngine (e : Nat) : Nat := 3000 + e
def ptrClass (e c : Nat) : Nat := 4000 + e * 4 + c

/-- A leaf of an engine has no job (R97). -/
def leafEmpty (s : State) (e f cls : Nat) : Bool :=
  !s.mover.jobs.any fun j => j.engine == some e && j.func == f && jClass j == cls

/-- JOB_BIND (R96, R300): a leaf that was empty has work from now on (R84, R97). A job that still waits to read its shard table tries
again. -/
def jobBind (f ctx : Nat) (s : State) : State :=
  match findJob s f ctx with
  | none => s
  | some j =>
    let waits := jOrder j && (jobsOf s f).any fun x => decide (x.order < j.order)
    if j.phase = .tableWait then startTable f ctx s
    else if j.phase ≠ .ready ∨ j.error.isSome ∨ waits ∨ (s.func f).dying then s
    else match leastLoaded s with
      | none => s
      | some e =>
        let k := defLeaf e (jClass j) f
        let s1 : State := if leafEmpty s e f (jClass j) then { s with sched.backlogSince := tput s.sched.backlogSince k s.now } else s
        count1 (cEng e 0) (modJob f ctx (fun j => { j with phase := .bound, engine := some e, boundAt := halfTick s }) s1)

/-- A drain that begins takes effect before the bindings of its CLK_HALF cycle (R96): what was bound to the engine in this cycle is bound
again. -/
def rebind (e : Nat) (s : State) : State :=
  forAll (s.mover.jobs.filter fun j => j.engine == some e && j.phase == .bound && j.boundAt == halfTick s && j.cols.isEmpty && j.nextCol == 0)
    (fun j s => jobBind j.func j.ctx
      { modJob j.func j.ctx (fun j => { j with phase := .ready, engine := none }) s with
        count.live := tset 0 s.count.live (cEng e 0) (tget 0 s.count.live (cEng e 0) - 1) }) s

def execJobBind (dt : Time) (func ctx : Nat) (s : State) : Host.Outcome State Fault Refusal :=
  run dt (okFunc func) (jobBind func ctx) s

/-- COLUMN_RESERVE: the oldest column that waits for its staging, else the job's next column (R294, R295); one without reads goes on to its
issue. -/
def columnReserve (f ctx : Nat) (s : State) : State :=
  match findJob s f ctx with
  | none => s
  | some j =>
    if j.phase ≠ .bound ∨ j.error.isSome ∨ ¬ j.coefReady ∨ (s.func f).dying then s
    else match j.cols.find? fun c => !c.reserved && !c.issued with
      | some c => columnLanded f ctx (reserve f ctx c.idx s)
      | none =>
        if numCols j ≤ j.nextCol then s
        else if funcShare f < (s.func f).staging + colNeed j j.nextCol then count1 (cFunc f cfStagingWaits) s
        else
          let col : Column := { idx := j.nextCol, need := colNeed j j.nextCol, toRead := colReads s j j.nextCol }
          columnLanded f ctx <| reserve f ctx j.nextCol (modJob f ctx (fun j => { j with nextCol := j.nextCol + 1, cols := j.cols ++ [col] }) s)

def execColumnReserve (dt : Time) (func ctx : Nat) (s : State) : Host.Outcome State Fault Refusal :=
  run dt (okFunc func) (columnReserve func ctx) s

/-- The next grant of a job: its column and the read, or, for FILL, the column itself. -/
def nextGrant (s : State) (j : Job) : Option (Nat × Option (Nat × Nat × Nat)) :=
  if j.error.isSome ∨ j.phase ≠ .bound then none
  else if jOp j = 2 then ((j.cols.find? fun c => c.reserved && !c.issued).map fun c => (c.idx, none))
  else if (freeReadTag s j.func).isNone then none
  else (j.cols.find? fun c => c.reserved && !c.toRead.isEmpty).bind fun c => c.toRead.head?.map fun r => (c.idx, some r)

def grantLen (j : Job) (g : Nat × Option (Nat × Nat × Nat)) : Nat := match g.2 with
  | some r => r.2.2
  | none => pieceLen j g.1

/-- A job has reads, or columns of a FILL, still to be granted. -/
def wantsGrant (j : Job) : Bool :=
  j.phase == .bound && j.error.isNone && (decide (j.nextCol < numCols j) || j.cols.any fun c =>
    if jOp j = 2 then !c.issued else !c.toRead.isEmpty || !c.issued && !c.reserved)

/-- The grant of a leaf: that of its oldest job with anything left to grant, and of no younger one (R97, assumption 127). -/
def leafGrant (s : State) (e f cls : Nat) : Option (Job × Nat × Option (Nat × Nat × Nat)) :=
  if (s.func f).dying || !busReady s f || !shOpen s (shKey 6 f) then none
  else (s.mover.jobs.find? fun j => j.engine == some e && j.func == f && jClass j == cls && wantsGrant j).bind fun j =>
    (nextGrant s j).map fun g => (j, g)

/-- Functions with jobs bound to an engine. -/
def boundFuncs (s : State) (e : Nat) : List Nat :=
  tkeys ((s.mover.jobs.filter fun j => j.engine == some e).foldl (fun (t : Tbl Unit) j => tput t j.func ()) [])

/-- A strict VF (R99). -/
def strictVf (s : State) (f : Nat) : Bool := decide (f < 512) && partStrict s (vfPart s f)

/-- When a leaf opened: the later of its cap's opening and its first work (R84, R97). -/
def leafOpened (s : State) (e : Nat) (l : Nat × Nat) : Time :=
  max (s.sh (shKey 6 l.1)).openedAt (tget 0 s.sched.backlogSince (defLeaf e l.2 l.1))

/-- The strict leaf that goes first: the earliest opening time, then the lower VF and class. -/
def strictLeaf (s : State) (e : Nat) : Option (Nat × Nat) :=
  (((boundFuncs s e).filter (strictVf s)).flatMap fun f => ((List.range 4).filter fun c => (leafGrant s e f c).isSome).map fun c => (f, c)).foldl
    (fun best l => match best with
      | none => some l
      | some b =>
        if leafOpened s e l < leafOpened s e b then some l else some b) none

def leafLen (s : State) (e f c : Nat) : Nat := match leafGrant s e f c with
  | some (j, g) => grantLen j g
  | none => 0

/-- The VFs of a class with something eligible (R97). -/
def weightedVfs (s : State) (e c : Nat) : List Nat := (boundFuncs s e).filter fun f => !strictVf s f && (leafGrant s e f c).isSome

/-- At a grant, the classes and VFs of the engine without eligible work have deficit 0 (R85, R97). -/
def idleDeficits (e : Nat) (s : State) : State :=
  let leaves := (List.range 4).map fun c => (c, weightedVfs s e c)
  let classes := (leaves.filter fun x => x.2 != []).map fun x => defClass e x.1
  let vfs := leaves.flatMap fun x => x.2.map (defLeaf e x.1)
  let mine (k : Nat) : Bool := decide (2 ^ 22 ≤ k) && decide (k < 2 ^ 23) && (k - 2 ^ 22) / 4 == e ||
    decide (2 ^ 23 ≤ k) && (k - 2 ^ 23) / 4096 == e
  { s with sched.deficits := clearIdle mine (fun k => classes.contains k || vfs.contains k) s.sched.deficits }

/-- The VF that round robin with an equal quantum of 4 KiB takes within a class (R97, R98). -/
def chooseVf (s : State) (e c : Nat) (d : Tbl Int) : Option (Nat × Tbl Int) :=
  let nodes := (weightedVfs s e c).map (defLeaf e c)
  drr nodes (fun _ => 4096) (fun n => (leafLen s e (n % 1024) c : Nat)) (tget 0 s.sched.pointers (ptrClass e c)) d

/-- The class by deficit round robin with quantum CLASS_W x 4 KiB, then the VF (R97). -/
def weightedLeaf (s : State) (e : Nat) : Option (Nat × Nat × Tbl Int × Tbl Nat) :=
  let picks := (List.range 4).filterMap fun c => (chooseVf s e c s.sched.deficits).map fun x => (c, x.1 % 1024)
  let nodes := picks.map fun x => defClass e x.1
  let len (n : Nat) : Int := ((picks.find? fun x => x.1 == (n - 2 ^ 22) % 4).map fun x => leafLen s e x.2 x.1).getD 0
  match drr nodes (fun n => 4096 * rf (s.cfg 0x42 e 0) (8 * ((n - 2 ^ 22) % 4) + 7) (8 * ((n - 2 ^ 22) % 4))) len
      (tget 0 s.sched.pointers (ptrEngine e)) s.sched.deficits with
  | none => none
  | some (n, d1) =>
    let c := (n - 2 ^ 22) % 4
    (chooseVf s e c d1).map fun x =>
      (x.1 % 1024, c, x.2, tset 0 (tset 0 s.sched.pointers (ptrEngine e) (n + 1)) (ptrClass e c) (x.1 + 1))

/-- The time L bytes take at an engine's 96 GB/s, or at 48 GB/s under the governor's stage 1 or a power cap (R97, R491, R492). -/
def grantTime (s : State) (L : Nat) : Time := ceilDiv (L * ns) (if moverHalved s then 48 else 96)

/-- L bytes take an engine's rate, and its time (R97, Table 18.1). -/
def takeEngine (e L : Nat) (s : State) : State :=
  countTime (cEng e 5) (grantTime s L) (modEngine e (fun x => { x with grantedTo := max x.grantedTo s.now + grantTime s L }) s)

/-- A strict VF's grant of L bytes falls short of its share: while fewer than three engines are in service, its leaf has been open, with
work, for at least the time in which its share gives L bytes, and its cap holds credit for them (R99, R305, assumption 158). -/
def grantShort (s : State) (e f c L : Nat) : Bool :=
  strictVf s f && decide (((List.range 4).filter fun e => (s.engine e).inService && !(s.engine e).testing).length < 3) &&
    decide (8 * L * us ≤ shareRate s f * (s.now - leafOpened s e (f, c))) && decide ((L * creditUnit : Nat) ≤ creditNow s (shKey 6 f))

/-- Give a leaf its grant: charged to the engine's rate and to the VF's cap; a read is issued, a FILL column issues its frames (R97, R296). -/
def giveGrant (e f c : Nat) (s : State) : State :=
  match leafGrant s e f c with
  | none => s
  | some (j, i, r) =>
    let L := grantLen j (i, r)
    let s1 := modJob f j.ctx (fun j => { j with anyRead := j.anyRead || r.isSome })
      (chargeSh (shKey 6 f) L (takeEngine e L s))
    let s2 := onlyIf (grantShort s e f c L) (count1 (cFunc f cfShort)) s1
    match r with
    | none => columnIssue f j.ctx i s2
    | some (key, addr, len) => match freeReadTag s2 f with
      | none => s2
      | some tag =>
        countBytes (cFunc f cfSourceBytes) len (issueRead f tag addr len c (takeReadTag f tag
          (modCol f j.ctx i (fun x => { x with toRead := x.toRead.drop 1, reading := x.reading ++ [⟨tag, key, addr, s2.now, len⟩] }) s2)))

/-- MOVER_READ_GRANT (R97 to R99): none while the engine's earlier grants still take its rate (assumption 143). -/
def moverReadGrant (e : Nat) (s : State) : State :=
  if s.now < (s.engine e).grantedTo then s
  else
  let s := idleDeficits e s
  match strictLeaf s e with
  | some (f, c) => giveGrant e f c s
  | none => match weightedLeaf s e with
    | some (f, c, d, p) => giveGrant e f c { s with sched.deficits := d, sched.pointers := p }
    | none =>
      forAll ((boundFuncs s e).filter fun f => (freeReadTag s f).isNone && (jobsOf s f).any fun j => j.cols.any fun x => !x.toRead.isEmpty)
        (fun f => count1 (cFunc f cfTagWaits)) s

def execMoverReadGrant (dt : Time) (engine : Nat) (s : State) : Host.Outcome State Fault Refusal :=
  run dt (okEngine engine) (moverReadGrant engine) s

/-! Reads that end (R296, R302, R303). -/

/-- The read that holds a tag. -/
def findRead (s : State) (f tag : Nat) : Option (Job × Column × ReadReq) :=
  (jobsOf s f).findSome? fun j => j.cols.findSome? fun c => (c.reading.find? fun r => r.tag == tag).map fun r => (j, c, r)

def endRead (j : Job) (c : Column) (r : ReadReq) (s : State) : State :=
  modCol j.func j.ctx c.idx (fun c => { c with reading := c.reading.filter fun x => x.tag != r.tag }) s

/-- MOVER_READ_COMPLETION (R296, R302); a completion without its read is late and counted. -/
def execMoverReadCompletion (dt : Time) (func tag : Nat) (st : CplStatus) (poisoned : Bool) (data : List Byte) (s : State) :
    Host.Outcome State Fault Refusal :=
  run dt (okFunc func) (fun s => match findRead s func tag with
    | none => count1 (cPart (funcPart s func) 0) s
    | some (j, c, r) =>
      let s1 := dropReadTag func tag (endRead j c r s)
      startTables func <| if (s.func func).dying || j.error.isSome then s1
      else if st ≠ .sc ∨ poisoned then jobFails func j.ctx 3 r.addr s1
      else columnLanded func j.ctx (rereadLanded func j.ctx c.idx
        (modCol func j.ctx c.idx (fun c => { c with blocks := tput c.blocks r.key data }) s1))) s

/-- A read reaches T_MR (R296): READ_TIMEOUT, and its tag is quarantined. The requests of a shard table were issued together and reach it
together; the job then ends READ_ERROR (R288, assumption 159). -/
def readTimedOut (f tag : Nat) (s : State) : State :=
  match findRead s f tag with
  | some (j, c, r) => jobFails f j.ctx 4 r.addr (quarReadTag f tag (endRead j c r s))
  | none => match (jobsOf s f).find? fun j => j.tags.contains tag with
    | none => s
    | some j =>
      let s1 := forAll j.tags (quarReadTag f) (modJob f j.ctx (fun j => { j with tags := [] }) s)
      if (s.func f).dying then drained f j.ctx s1
      else if j.phase = .fetching then fetchFailed f j.ctx j.slot s1
      else tableFailed j s1

/-- READ_TIMEOUT: a bridged read at its timeout (R228). A mover's read ends with it (R296, Table 9.10). -/
def execReadTimeout (dt : Time) (entry : Nat) (s : State) : Host.Outcome State Fault Refusal :=
  run dt (okTag entry) (fun s => match tfind s.bridge.tags entry with
    | some e =>
      if s.since e.issued e.timeout then
        let s1 := timeoutTag entry 0 s
        match e.func with
        | some f => if e.live then readTimedOut f e.origTag s1 else s1
        | none => s1
      else s
    | none => s) s

/-- When a read with a tag was issued. -/
def readIssuedAt (s : State) (f tag : Nat) : Option Time :=
  match findRead s f tag with
  | some (_, _, r) => some r.at'
  | none => ((jobsOf s f).find? fun j => j.tags.contains tag).map (·.tagAt)

def execMoverReadTimeout (dt : Time) (func tag : Nat) (s : State) : Host.Outcome State Fault Refusal :=
  run dt (okFunc func) (fun s => match readIssuedAt s func tag with
    | some t => if s.since t (moverTimeout s (funcPart s func)) then readTimedOut func tag s else s
    | none => s) s

/-! Completion entries (R282, R283, R300, R302). -/

/-- The status and results of a job (Tables 9.10 and 9.11). -/
def jobStatus (j : Job) : Nat × Nat × Nat :=
  match j.error with
  | some (st, a) => (st, a, 0)
  | none => match jOp j with
    | 5 => if j.mismatch = 0 then (0, 0, 0) else (1, j.mismatch, j.mismatchAt.getD 0)
    | 6 => (0, j.crc32, j.crc64)
    | _ => (0, 0, 0)

/-- The completion entry (Table 9.11). -/
def completionEntry (j : Job) (phase : Bool) : List Word64 :=
  let (st, a, b) := jobStatus j
  [quad [(63, 32, jId j), (31, 24, st), (15, 0, j.reissues)], BitVec.ofNat 64 a, BitVec.ofNat 64 b, quad [(63, 63, b2n phase)]]

/-- The staging a job still holds. -/
def heldStaging (j : Job) : Nat := ((j.cols.filter (·.reserved)).map (·.need)).sum

/-- COMPLETION_ENTRY_WRITE, in the order in which jobs have ended. An entry waits while its ring is full or the bus number is 0. -/
def completionEntryWrite (f ctx : Nat) (s : State) : State :=
  match findJob s f ctx with
  | none => s
  | some j =>
    let q := s.func f
    let size := 2 ^ q.cqLog2
    if (s.mover.ended.find? fun x => x.1 == f) != some (f, ctx) || q.dying || (q.cqTail + 1) % size == q.cqHead || !busReady s f then s
    else
      let data := (completionEntry j q.cqPhase).flatMap fun w => leBytes 8 w.toNat
      let s1 := issueWrite f (q.cqBase.toNat / 4096 * 4096 + 32 * q.cqTail) data (jClass j) s
      let s2 := modFunc f (fun q => { q with
        cqTail := (q.cqTail + 1) % size, cqPhase := if q.cqTail + 1 = size then !q.cqPhase else q.cqPhase }) s1
      let s3 := if jIrq j then funcMsix f 0 (jClass j) s2 else s2
      let s4 := if within 1 6 (jOp j) then count1 (cFunc f (jOp j - 1)) s3 else s3
      let s5 := if (jobStatus j).1 = 0 then s4 else count1 (cFunc f cfNotOk) s4
      removeJob f ctx (freeStaging f (heldStaging j) s5)

def execCompletionEntryWrite (dt : Time) (func ctx : Nat) (s : State) : Host.Outcome State Fault Refusal :=
  run dt (okFunc func) (completionEntryWrite func ctx) s

/-! Engines (R305). -/

/-- A lasting datapath fault: the engine leaves service, its jobs end ENGINE_FAULT, a C2 record goes to each partition that
had a job ended (R305, R321). -/
def engineFault (e : Nat) (s : State) : State :=
  let hit := s.mover.jobs.filter fun j => j.engine == some e
  let s1 := forAll hit (fun j => jobFails j.func j.ctx 9 e) (modEngine e (fun x => { x with inService := false }) s)
  record ((hit.map fun j => funcPart s j.func).eraseDups) { devRec s1 0x0602 2 0 0 with dstFunc := some e } s1

def execEngineResidueFault (dt : Time) (engine func ctx column : Nat) (s : State) : Host.Outcome State Fault Refusal :=
  run dt (okEngine engine && okFunc func) (fun s => match findJob s func ctx with
    | none => s
    | some j =>
      if j.engine ≠ some engine then s
      else match j.cols.find? fun c => c.idx == column with
        | none => s
        | some c =>
          let s1 := count1 (cEng engine 3) s
          if 1 ≤ c.residue then engineFault engine s1
          else
            let s2 := modCol func ctx column (fun c => { c with residue := 1, forced := true }) s1
            if c.issued || (s.func func).dying then settleColumn func ctx column s2
            else reissue func ctx column (freeStaging func (if c.reserved then c.need else 0) s2)) s

/-! Function-level reset (R306, R307). -/

/-- The functions that a function-level reset of one takes: function 1 takes every VF of its partition with it. -/
def flrScope (s : State) (f : Nat) : List Nat := if f < 512 then [f] else f :: partVfs s (f - 512)

/-- Steps 1 to 3 of Table 9.12 for one function. -/
def startFlr1 (f : Nat) (s : State) : State :=
  let drop (j : Job) : Bool := j.func == f && !j.anyRead && j.tags.isEmpty && j.cols.all fun c => !c.issued
  let s1 : State := { s with
    mover.jobs := s.mover.jobs.filter fun j => !drop j, mover.ended := s.mover.ended.filter fun x => x.1 != f }
  modFunc f (fun q => { q with state := 3, ringEn := false, dying := true, zeroised := false, resetAt := some s.now }) s1

/-- A function-level reset starts (R306). Function 1's also clears VF Enable. -/
def startFlr (f : Nat) (s : State) : State :=
  let s1 := if f < 512 then s else modPart (f - 512) (fun q => { q with vfEnable := false }) s
  let s2 : State := { s1 with count.loops := s1.count.loops.map fun r =>
    if r.depth == 6 && (flrScope s f).contains r.target then { r with state := 2 } else r }
  forAll (flrScope s f) startFlr1 s2

/-- The leaves of a VF are gone, with their deficits and the times of their first work (R102). -/
def dropLeaves (f : Nat) (s : State) : State :=
  let leaf (k : Nat) : Bool := decide (2 ^ 23 ≤ k) && decide (k < 2 ^ 23 + 16 * 1024) && (k - 2 ^ 23) % 1024 == f
  { s with
    sched.deficits := tkeep s.sched.deficits fun k _ => !leaf k
    sched.backlogSince := tkeep s.sched.backlogSince fun k _ => !leaf k }

/-- Steps 5 and 6 of Table 9.12: the share is zeroised, contexts are freed, the registers are at reset and the VF's leaves
and cap credit are gone. Read tags in quarantine stay there. -/
def finishFlr (f : Nat) (s : State) : State :=
  let s1 : State := { s with mover.jobs := s.mover.jobs.filter fun j => j.func != f }
  let s2 := modFunc f (fun q => { tagsQuar := q.tagsQuar, ctxSeq := q.ctxSeq }) s1
  if f < 512 then modPart (funcPart s f) (fun q => { q with
    aer := tmod {} q.aer (2 + f) fun a => { a with errEn := 0 }, regs := tkeep q.regs fun k _ => k / 65536 != 2 + f })
    (resetSh (shKey 6 f) (dropLeaves f s2))
  else modPart (f - 512) (fun q => { q with
    bars := tkeep q.bars fun k _ => k == 0, memEn := clrBit q.memEn 1, mps1 := 128, mrrs1 := 512, f1D3 := false
    aer := tmod {} q.aer 1 fun a => { a with errEn := 0 }, regs := tkeep q.regs fun k _ => decide (k < 65536) }) s2

/-- The bus number of a partition's requests has become known: what its functions held back goes on (R296). -/
def wakeMover (p : Nat) (s : State) : State :=
  forAll ((tkeys s.mover.func).filter fun f => funcPart s f == p) (fun f s =>
    let s1 := sendPended f 1 (sendPended f 0 s)
    startTables f (forAll ((jobsOf s1 f).map (·.ctx)) (columnLanded f) s1)) s

/-- VF Enable is set with NumVFs, at most the VFs assigned (R143). -/
def execVfEnableSet (dt : Time) (p num : Nat) (s : State) : Host.Outcome State Fault Refusal :=
  run dt (okPart p) (modPart p fun q => { q with vfEnable := true, numVfs := min num (assignedVfs s p).length }) s

end Sys2Proof.Machine
end

