-- ==== Sys2Proof/Machine/Mailbox.lean ====
section
/-! DEFINITION. The mailbox transaction, the locks and the out-of-band endpoint (chapter 12, R382 to R387): how a command is
submitted, accepted, checked and completed. -/

namespace Sys2Proof.Machine

/-! The command header (Table 13.1). -/

def rOp (r : Req) : Nat := qf r.hdr0 63 48
def rSeq (r : Req) : Nat := qf r.hdr0 47 32
def rScope (r : Req) : Nat := qf r.hdr0 31 30
def rScopeId (r : Req) : Nat := qf r.hdr0 29 20
def rLen (r : Req) : Nat := qf r.hdr0 19 0
def rDmaOut (r : Req) : Bool := r.hdr1.getLsbD 1
def rDmaIn (r : Req) : Bool := r.hdr1.getLsbD 0
/-- The payload quadwords that LEN counts. -/
def rPay (r : Req) : List Word64 := r.pay.take (ceilDiv (rLen r) 8)
/-- A field of payload quadword q. -/
def pf (r : Req) (q hi lo : Nat) : Nat := qf ((rPay r).getD q 0) hi lo

/-- Why a mailbox stays BUSY after its command was accepted (R387). -/
def waitDma := 1
def waitLock := 2
def waitCommit := 3
def waitPrepare := 4
def waitSnapshot := 5
def waitWindow := 6
def waitLoop := 7
def waitFirmware := 8
def waitEngine := 9
def waitPeg := 10
def waitSlot := 11

/-- Status codes of Table 13.3. -/
def stOk := 0
def stBusy := 1
def stDenied := 2
def stInvalid := 3
def stNoLock := 4
def stStale := 5
def stRestarting := 6
def stTimeout := 7
def stConflict := 8
def stOutOfPlumb := 9
def stPegged := 10

/-- How a command ends: at once, or set aside where it waits. -/
inductive Answer where
  | done (status : Nat) (executed : Bool) (pay : List Word64)
  | waits (why : Nat)
deriving DecidableEq, Repr

/-- What a command does once it is accepted. -/
abbrev Handler := Req → State → Answer × State

/-- Executed as requested. -/
def good (pay : List Word64) (s : State) : Answer × State := (.done stOk true pay, s)
/-- Refused; nothing changed. -/
def refuse (status : Nat) (s : State) : Answer × State := (.done status false [], s)
/-- A refusal quadword (R386). -/
def refusalQuad (typ a b low : Nat) : Word64 := quad [(63, 56, typ), (55, 40, a), (39, 24, b), (23, 0, low)]
/-- INVALID for payload quadword q. -/
def invalidAt (q : Nat) (s : State) : Answer × State := (.done stInvalid false [refusalQuad 0 0 0 (8 * q)], s)
/-- INVALID for the header. -/
def invalidHeader (s : State) : Answer × State := (.done stInvalid false [refusalQuad 0 0 0 0xFFFFFF], s)

/-! Completion (R367 step 5, R383, R370). -/

/-- Counter positions of the device list of Table 18.1, in its order. -/
def cdRegions := 9
def cdRepairs := 10
def cdStage := 11
def cdSwitches := 15
def cdCommands := 16
def cdIgnored := 17
def cdRestarts := 18
def cdDebug := 19

/-- Bytes of a response payload of n quadwords: an ATTEST report ends with byte 2,563 (Table 13.10). -/
def respBytes (op n : Nat) : Nat := if op = 0x0D02 ∧ n = 321 then 2564 else 8 * n

/-- The opcode of the command in a mailbox. -/
def mbOp (m : Mailbox) : Nat := (m.current.map rOp).getD 0

/-- A response header (Table 13.2) of n payload quadwords. -/
def answerHeader (s : State) (op seq status : Nat) (executed : Bool) (n : Nat) : List Word64 :=
  [quad [(63, 48, op), (47, 32, seq), (31, 24, status), (23, 23, b2n executed), (19, 0, respBytes op n)], BitVec.ofNat 64 s.ft.count]

/-- The response header of the command in a mailbox. -/
def respHeader (s : State) (m : Mailbox) (status : Nat) (executed : Bool) (n : Nat) : List Word64 :=
  answerHeader s (mbOp m) m.seq status executed n

/-- Write quadwords into a mailbox window from a quadword index. -/
def writeWindow (t : Tbl Word64) : Nat → List Word64 → Tbl Word64
  | _, [] => t
  | i, w :: r => writeWindow (tset 0 t i w) (i + 1) r

/-- A tandem spoke that is up, on which TDM_MAILBOX and TDM_RESPONSE travel (R427). -/
def tandemSpoke (s : State) : Option Nat := s.tandem.spokes.find? fun k => spokeUp s k && rb (spokeRec s k) 49

/-- Send a message on the tandem link. -/
def postTandem (o : Out) (s : State) : State :=
  match tandemSpoke s, messageOf s o with
  | some k, some (d, type, svc, sub, body, bs) =>
    modSpoke k (fun x => { x with tx := { x.tx with unsent := x.tx.unsent ++ messageCells s d type svc sub 0 body bs } }) (emit o s)
  | _, _ => s

/-- A byte string in TDM_MAILBOX or TDM_RESPONSE messages of up to 4,096 bytes (Table 14.3); an empty one takes one message. -/
def tandemParts (code seq : Nat) (ws : List Word64) (s : State) : State :=
  let cs := if ws = [] then [[]] else chunks 512 (ws.length / 512 + 1) ws
  forAll ((List.range cs.length).zip cs) (fun x s =>
    postTandem (.mgmt s.tandem.partner code ([seq, 4096 * x.1, b2n (x.1 + 1 == cs.length)] ++ x.2.map (·.toNat))) s) s

/-! The MC's DMA (R253, R257, R367, R384). -/

/-- The host address of a command's buffer. -/
def rPtr (r : Req) : Nat := qf r.hdr1 63 4 * 16

/-- The requests of one transfer: none crosses a 4 KiB boundary or is longer than the function's setting allows. -/
def mcPieces (most addr len : Nat) : List (Nat × Nat) := splitAt4k (max 128 most) len addr len

/-- The memory reads that fetch a payload. -/
def fetchReads (s : State) (r : Req) : List Tlp :=
  (mcPieces (s.part r.mb).mrrs0 (rPtr r) (rLen r)).zipIdx.map fun x =>
    { kind := .memRead, addr := x.1.1, len := x.1.2, tag := x.2 % 1024 }

/-- Some read of the payload's fetch is refused where it enters. -/
def fetchDenied (s : State) (r : Req) : Bool := (fetchReads s r).any (mcRefused s r.mb)

/-- Requests are issued in order, to the first one that is refused. -/
def issueReads (p : Nat) : List Tlp → State → State
  | [], s => s
  | t :: r, s => if mcRefused s p t then issueMc p t s else issueReads p r (issueMc p t s)

/-- What a transfer of quadwords leaves in a 4 KiB buffer: its pieces pass through it one after another (R367). -/
def passed (t : Tbl Word64) : Nat → List Word64 → Tbl Word64
  | 0, _ => t
  | n + 1, ws => if ws = [] then t else passed (writeWindow t 0 (ws.take 512)) n (ws.drop 512)

/-- The memory writes of a response payload of n bytes. -/
def dmaWrites (s : State) (mb ptr n : Nat) (pay : List Word64) : List Tlp :=
  let bytes := (pay.flatMap fun q => leBytes 8 q.toNat).take n
  (mcPieces (s.part mb).mps0 ptr n).map fun x =>
    { kind := .memWrite, addr := x.1, len := x.2, payload := x.2, frameBytes := 16 + x.2, data := (bytes.drop (x.1 - ptr)).take x.2 }

/-- The response payload of n bytes is written to host memory; a write that fails is processed as R236 states. -/
def dmaOut (mb ptr n : Nat) (pay : List Word64) (s : State) : State :=
  modMb mb (fun m => { m with buf := passed m.buf (pay.length / 512 + 1) pay })
    (forAll (dmaWrites s mb ptr n pay) (issueMc mb) s)

/-- The response leaves by the mailbox's way: the window, the DMA buffer, an MCTP message, or messages to the partner. -/
def respond (mb status : Nat) (executed : Bool) (pay : List Word64) (s : State) : State :=
  let m := s.mb mb
  let hdr := respHeader s m status executed pay.length
  if mb = 64 then emit (.mctpResponse m.seq status executed (hdr ++ pay)) s
  else if mb = 65 then tandemParts 0x0204 m.seq (hdr ++ pay) s
  else if (m.current.map rDmaOut).getD false then
    dmaOut mb ((m.current.map rPtr).getD 0) (respBytes (mbOp m) pay.length) pay (modMb mb (fun m => { m with window := writeWindow m.window 0 hdr, respLen := 16 }) s)
  else modMb mb (fun m => { m with window := writeWindow m.window 0 (hdr ++ pay), respLen := 16 + respBytes (mbOp m) pay.length }) s

/-- A BUSY mailbox enters DONE. A window write since acceptance makes the status CONFLICT (R369). -/
def finish (mb status : Nat) (executed : Bool) (pay : List Word64) (s : State) : State :=
  let m := s.mb mb
  if m.state ≠ 1 then s
  else
    let st := if m.dirtyLate then stConflict else status
    let s1 := respond mb st executed pay s
    let s2 := modMb mb (fun m => { m with
      state := 2, status := st, executed := executed, waiting := 0, submittedAt := none, current := none, dirty := false
      dirtyLate := false }) (count1 (cDev cdCommands) s1)
    if mb < 64 then raiseCause mb 0 s2 else s2

/-- A BUSY mailbox enters DONE with RESTARTING: its window keeps its contents (R370). -/
def cutOff (mb : Nat) (s : State) : State :=
  let s1 := modMb mb (fun m => { m with
    state := 2, status := stRestarting, executed := false, respLen := 0, waiting := 0, submittedAt := none
    dirty := false, dirtyLate := false }) s
  if mb < 64 then raiseCause mb 0 s1 else s1

/-- The message that answers RESTARTING: it carries no response header (R370). -/
def answerRestart (mb : Nat) (s : State) : State :=
  let m := s.mb mb
  if mb = 64 then emit (.mctpResponse m.seq stRestarting m.executed []) s
  else if mb = 65 then tandemParts 0x0204 m.seq [] s
  else s

/-- A command submitted while the MC restarts completes RESTARTING, not executed (R370). -/
def finishRestarting (mb : Nat) (s : State) : State := answerRestart mb (cutOff mb s)

/-- A waiting command completes, when its mailbox still waits for it. -/
def finishWait (mb why status : Nat) (executed : Bool) (pay : List Word64) (s : State) : State :=
  if (s.mb mb).waiting = why then finish mb status executed pay s else s

/-- A loop-back's counts and state (Table 13.10). -/
def loopAnswer (units errors state : Nat) : List Word64 :=
  [BitVec.ofNat 64 units, BitVec.ofNat 64 errors, BitVec.ofNat 64 state]

/-- The LOOPBACK commands whose runs have ended complete. -/
def settleLoops (s : State) : State :=
  forAll (s.count.loops.filter fun l => l.state != 1 && l.mb.isSome)
    (fun l => finishWait (l.mb.getD 0) waitLoop stOk true (loopAnswer l.units l.errors l.state))
    { s with count.loops := s.count.loops.map fun l => if l.state = 1 then l else { l with mb := none } }

/-! Events that may end a loop-back (R518). -/

def execTrainReceived (dt : Time) (spoke : Nat) (bs : List Beat) (s : State) : Host.Outcome State Fault Refusal :=
  run dt (okSpoke spoke) (onParts spoke 2 9 0 3 bs fun vs s => settleLoops (trainArrives spoke (trainOf vs) s)) s

def execCadenceLoss (dt : Time) (spoke : Nat) (s : State) : Host.Outcome State Fault Refusal :=
  run dt (okSpoke spoke) (fun s => settleLoops (cadenceLost spoke s)) s

/-- VF Enable is cleared: every VF of the partition takes a function-level reset (R307). -/
def execVfEnableClear (dt : Time) (p : Nat) (s : State) : Host.Outcome State Fault Refusal :=
  run dt (okPart p) (fun s =>
    settleLoops (forAll (partVfs s p) startFlr (modPart p (fun q => { q with vfEnable := false }) s))) s

/-! Submission and acceptance (R367, R368). -/

/-- A submit or acknowledge in BUSY is ignored and counted; a message in BUSY is answered BUSY (R368, R372). -/
def ignoreSubmit (mb op seq : Nat) (s : State) : State :=
  let hdr := answerHeader s op seq stBusy false 0
  if mb = 64 then emit (.mctpResponse seq stBusy false hdr) s
  else if mb = 65 then tandemParts 0x0204 seq hdr s
  else count1 (cDev cdIgnored) (modMb mb (fun m => { m with ignored := sat32 (m.ignored + 1) }) s)

/-- The header and payload that stand in a mailbox's window. -/
def windowReq (s : State) (mb : Nat) : Req :=
  let t := (s.mb mb).window
  let r : Req := { mb := mb, hdr0 := tget 0 t 0, hdr1 := tget 0 t 1 }
  { r with pay := (List.range (min 502 (ceilDiv (rLen r) 8))).map fun i => tget 0 t (2 + i) }

/-- A request stands in its mailbox: header and payload in the window, or the payload of a message in the message buffer (R367, R372). -/
def lodge (r : Req) (m : Mailbox) : Mailbox :=
  if r.mb = 64 || r.mb = 65 then { m with buf := writeWindow m.buf 0 r.pay }
  else if rDmaIn r then { m with window := writeWindow m.window 0 [r.hdr0, r.hdr1] }
  else { m with window := writeWindow m.window 0 ([r.hdr0, r.hdr1] ++ r.pay.take 502) }

/-- STATE becomes BUSY and SEQ takes the header's tag (R367 step 2). -/
def submit (mb op seq : Nat) (msg : Option Req) (s : State) : State :=
  if (s.mb mb).state = 1 then ignoreSubmit mb op seq s
  else
    let s1 := modMb mb (fun m => { (match msg with
        | some r => lodge r m
        | none => m) with
      state := 1, seq := seq, executed := false, status := 0, respLen := 0, submittedAt := some s.ft.count, current := msg
      waiting := 0, took := false, owed := false, dirty := false, dirtyLate := false }) s
    if s.mgmt.serving then s1 else finishRestarting mb s1

/-- MB_DOORBELL_SUBMIT (R367, R368, R370). -/
def execMbDoorbellSubmit (dt : Time) (mb : Nat) (s : State) : Host.Outcome State Fault Refusal :=
  run dt (okMb mb) (fun s => submit mb (rOp (windowReq s mb)) (rSeq (windowReq s mb)) none s) s

/-- MB_DOORBELL_ACKNOWLEDGE: DONE returns to IDLE; in BUSY it is ignored and counted (R367, R368). -/
def acknowledge (mb : Nat) (s : State) : State :=
  if (s.mb mb).state = 1 then ignoreSubmit mb (rOp (windowReq s mb)) (s.mb mb).seq s
  else if (s.mb mb).state = 2 then
    modMb mb (fun m => { m with state := 0, status := 0, executed := false, seq := 0, respLen := 0 }) s
  else s

def execMbDoorbellAcknowledge (dt : Time) (mb : Nat) (s : State) : Host.Outcome State Fault Refusal :=
  run dt (okMb mb) (acknowledge mb) s

/-- A port B write that falls in BUSY is noted, and so is a word that a DMA fetch loses (R369). -/
def noteWrite (mb : Nat) (dma collides : Bool) (s : State) : State :=
  modMb mb (fun m =>
    if m.state ≠ 1 then m
    else if m.submittedAt.isSome || (dma && collides && m.waiting == waitDma) then { m with dirty := true }
    else if dma then m
    else { m with dirtyLate := true }) s

/-- A port B write that collides with port A is discarded (R360). -/
def lostWrite (mb : Nat) (s : State) : State :=
  let s1 := modMb mb (fun m => { m with lostWrite := true, lost := sat32 (m.lost + 1) }) s
  if mb < 64 then raiseCause mb 3 s1 else s1

/-- The bytes of a mailbox's DMA or message buffer (Table 12.2). -/
def bufBytes (mb : Nat) : Nat := if mb < 64 then 4096 else if mb < 66 then 65536 else 0

/-- MAILBOX_WINDOW_WRITE: `offset` is a byte offset of the window from 0x1040, or of the DMA buffer (R33, R360, R369). -/
def execMailboxWindowWrite (dt : Time) (mb offset : Nat) (v : Word64) (collides dmaBuffer : Bool) (s : State) :
    Host.Outcome State Fault Refusal :=
  run dt (okMb mb) (fun s =>
    if decide ((if dmaBuffer then bufBytes mb else 4032) ≤ offset) then s
    else
      let s1 := noteWrite mb dmaBuffer collides s
      if collides then lostWrite mb s1
      else if dmaBuffer then modMb mb (fun m => { m with buf := tset 0 m.buf (offset / 8) v }) s1
      else modMb mb (fun m => { m with window := tset 0 m.window (offset / 8) v }) s1) s

/-- Check 1 but the opcode: reserved bits, SCOPE, SCOPE_ID, LEN and PTR (R382, R384). -/
def headerOk (r : Req) : Bool :=
  qf r.hdr1 3 2 == 0 &&
  (match rScope r with
    | 0 => rScopeId r == 0
    | 1 => decide (rScopeId r < 64)
    | 2 => decide (rScopeId r < 512)
    | _ => false) &&
  (if rDmaIn r || rDmaOut r then decide (r.mb < 64) else qf r.hdr1 63 4 == 0) &&
  (rDmaIn r || (if r.mb == 64 || r.mb == 65 then decide (rLen r ≤ 65536) else decide (rLen r ≤ 4016)))

/-- The last piece of a fetched payload stands in the mailbox's DMA buffer (R367). -/
def fetchedInto (r : Req) (t : Tbl Word64) : Tbl Word64 := if rDmaIn r then passed t (r.pay.length / 512 + 1) r.pay else t

/-- A mailbox's own command takes its place and runs (R367 steps 3 to 5). A DMA fetch that was denied, timed out or lost a
word, and a write before acceptance, leave it unexecuted (R369, R384). -/
def accept (body : Handler) (r : Req) (s : State) : State :=
  let m := s.mb r.mb
  let s1 := modMb r.mb (fun m => { lodge r m with
    state := 1, seq := rSeq r, executed := false, status := 0, respLen := 0, submittedAt := none, waiting := 0
    current := some r, took := false, owed := false, buf := fetchedInto r (lodge r m).buf }) s
  if m.dirty then finish r.mb stConflict false [] s1
  else match r.dma with
    | .lostWord => finish r.mb stConflict false [] (lostWrite r.mb s1)
    | .denied => finish r.mb stDenied false [] s1
    | .timedOut => finish r.mb stTimeout false [] s1
    | .ok =>
      match body r s1 with
      | (.done st ex pay, s2) => finish r.mb st ex pay s2
      | (.waits why, s2) => modMb r.mb (fun m => if m.state = 1 then { m with waiting := why } else m) s2

/-- A command's payload lies in host memory, and its fetch has not begun (R367 step 3). A command met by a write, or one that its header
refuses, fetches nothing. -/
def mustFetch (r : Req) (m : Mailbox) : Bool := rDmaIn r && headerOk r && !m.dirty && !(m.state == 1 && m.waiting == waitDma)

/-- The fetch begins: the MC reads the payload as the partition's lossless requests. Where one is denied the command completes DENIED (R384). -/
def startFetch (r : Req) (s : State) : State :=
  let s1 := modMb r.mb (fun m => { lodge r m with
    state := 1, seq := rSeq r, executed := false, status := 0, respLen := 0, submittedAt := none, waiting := waitDma
    current := some r, took := false, owed := false }) s
  let s2 := issueReads r.mb (fetchReads s1 r) s1
  if fetchDenied s1 r then finish r.mb stDenied false [] s2 else s2

/-- Some command holds back the others: one whose payload is being fetched, CFG_PREPARE while votes are out, SLOT_POWER until
its acceptance (R387). -/
def mcHeld (s : State) : Bool :=
  s.mgmt.mailbox.any fun e => e.2.waiting == waitDma || e.2.waiting == waitPrepare || e.2.waiting == waitSlot

/-- In ROM recovery the out-of-band mailbox serves only three commands, and every other completes RESTARTING (R440). -/
def romAllows (s : State) (r : Req) : Bool :=
  !s.chip.romRecovery || (r.mb == 64 && [0x0101, 0x0D04, 0x0D01].contains (rOp r))

/-- The request that waits in a mailbox: a message, or the window's header and payload. -/
def waitingReq (s : State) (mb : Nat) : Req :=
  match (s.mb mb).current with
  | some r => r
  | none => windowReq s mb

/-- A command was submitted before another: by fabric time, then by mailbox index (R368). -/
def submittedBefore (a b : Nat × Nat) : Bool := decide (a.1 < b.1) || (a.1 == b.1 && decide (a.2 < b.2))

/-- Submit times and mailboxes of the commands that wait for acceptance. -/
def submits (s : State) : List (Nat × Nat) :=
  s.mgmt.mailbox.filterMap fun e => if e.2.state = 1 then e.2.submittedAt.map fun t => (t, e.1) else none

/-- A mailbox's command waits: the MC runs one that holds back the others, or an older submit comes first (R368, R387). -/
def mcBusyFor (s : State) (mb : Nat) : Bool :=
  mcHeld s || (submits s).any fun x => x.2 != mb && submittedBefore x (((s.mb mb).submittedAt).getD s.ft.count, mb)

/-- A row of an Emmel command: the request r comes through its mailbox, is accepted and runs. When it is already submitted
and waits for acceptance, this is that acceptance; when its payload's DMA fetch is under way, the fetch's end. A request in a
BUSY mailbox is ignored; while the MC runs another command, or older submits wait, it waits for acceptance; a payload in host memory is
fetched first. A request whose header does not spell the row's command is not this event. -/
def command (spells : Req → Bool) (body : Handler) (r : Req) (s : State) : State :=
  let m := s.mb r.mb
  if !spells r || r.carried.isSome then s
  else if m.state = 1 && !((m.submittedAt.isSome || m.waiting == waitDma) && (waitingReq s r.mb).hdr0 == r.hdr0) then
    ignoreSubmit r.mb (rOp r) (rSeq r) s
  else if !s.mgmt.serving || !romAllows s r then
    finishRestarting r.mb (modMb r.mb (fun m => { lodge r m with
      state := 1, seq := rSeq r, took := false, owed := false, current := none }) s)
  else if m.waiting != waitDma && mcBusyFor s r.mb then (if m.state = 1 then s else submit r.mb (rOp r) (rSeq r) (some r) s)
  else if mustFetch r m then startFetch r s
  else accept body r s

/-- A command named by its opcode alone. -/
def isOp (op : Nat) (r : Req) : Bool := rOp r == op

/-! Checks in the order of R385. -/

/-- The debug token's grants while one is in force (R450). -/
def tokenGrants (s : State) : Nat := match s.sec.token with
  | some (_, g, _, ends) => if s.now < ends then g else 0
  | none => 0

/-- Who may issue a command (Tables 12.3, 13.4, 13.11): partition mailboxes, the out-of-band mailbox, the tandem mailbox;
whether a partition mailbox may use device scope; and whether a debug token may not. -/
structure Rule where
  p : Bool
  o : Bool
  t : Bool
  reads : Bool := false
  noDebug : Bool := false

/-- The partition a request's scope names. -/
def scopePart (s : State) (r : Req) : Option Nat := match rScope r with
  | 1 => some (rScopeId r)
  | 2 => if vfEn s (rScopeId r) then some (vfPart s (rScopeId r)) else none
  | _ => none

/-- Check 2: the mailbox and scope are allowed for the command. -/
def allowed (c : Rule) (r : Req) (s : State) : Bool :=
  if r.mb < 64 then c.p && ((rScope r == 0 && c.reads) || scopePart s r == some r.mb)
  else if r.mb = 64 then c.o
  else if r.mb = 65 then c.t
  else c.o && !c.noDebug && bit (tokenGrants s) 4

/-- A command behind checks 1 and 2. -/
def checkedBy (c : Rule) (body : Handler) : Handler := fun r s =>
  if !headerOk r then invalidHeader s
  else if !allowed c r s then refuse stDenied s
  else body r s

/-- A payload shorter than the command's layout, or with a reserved bit set, is INVALID at that quadword (R382). `masks`
holds the bits the layout uses, quadword by quadword. -/
def payloadBad (r : Req) (masks : List Nat) : Option Nat :=
  (List.range masks.length).find? fun q =>
    decide (rLen r < 8 * q + 8) || ((rPay r).getD q 0).toNat &&& (2 ^ 64 - 1 - masks.getD q 0) != 0

/-- A command behind its payload check. -/
def withPayload (masks : List Nat) (body : Handler) : Handler := fun r s =>
  match payloadBad r masks with
  | some q => invalidAt q s
  | none => body r s

/-! Locks (R375 to R380, R397). -/

/-- A mailbox's LOCK_PRIO (Table 12.3). -/
def lockPrio (s : State) (mb : Nat) : Nat := (tfind s.mgmt.prio mb).getD (if mb = 64 then 12 else if mb = 65 then 8 else 0)

def findLock (s : State) (l : Nat) : Lock := (tfind s.mgmt.lock l).getD {}
def putLock (l : Nat) (k : Lock) (s : State) : State :=
  { s with mgmt.lock := if k.owner.isNone && k.waiters.isEmpty then tdel s.mgmt.lock l else tput s.mgmt.lock l k }
def holdsLock (s : State) (mb l : Nat) : Bool := (findLock s l).owner == some mb

/-- A prepare that is not committed is given up: CMT_ABORT goes to the members (R421). -/
def abortPrepare (s : State) : State :=
  match s.conf.coord with
  | some c =>
    if c.committing then s
    else
      let s1 := forAll (c.members.filter (· != s.dev)) (fun d => post (.mgmt d 0x0106 [c.epoch])) s
      { s1 with conf.coord := none
                conf.prepared := if (s1.conf.prepared.map (·.coord)) == some s1.dev then none else s1.conf.prepared }
  | none => s

/-- A lock's staging set is discarded unless it is committed (R393); a CFG_PREPARE whose votes are still out completes NO_LOCK. -/
def dropSet (l : Nat) (s : State) : State :=
  match tfind s.conf.sets l with
  | some x =>
    if x.committed then s
    else
      let s1 : State := { s with conf.sets := tdel s.conf.sets l }
      match s1.conf.coord with
      | some c =>
        if c.lock ≠ l then s1
        else if c.decided then abortPrepare s1
        else finishWait c.mb waitPrepare stNoLock false [] (abortPrepare s1)
      | none => s1
  | none => s

/-- A grant ends, and with it its staging set. -/
def releaseLock (l : Nat) (s : State) : State := dropSet l (putLock l { findLock s l with owner := none } s)

/-- Surprise removal of a mailbox: its grants and requests end (R378). -/
def removeRequester (mb : Nat) (s : State) : State :=
  forAll (tkeys s.mgmt.lock) (fun l s =>
    let k := findLock s l
    let s1 := putLock l { k with waiters := k.waiters.filter fun w => w.1 != mb } s
    if k.owner = some mb then releaseLock l s1 else s1) s

/-- Writes of LOCK_PRIO from an earlier cycle act; each is kept with the CLK_HALF cycle in which it arrived (R377). -/
def settlePrio (s : State) : State :=
  forAll (s.mgmt.prioNext.filter fun w => w.2.2 < halfTick s) (fun w s => { s with mgmt.prio := tput s.mgmt.prio w.1 w.2.1 })
    { s with mgmt.prioNext := s.mgmt.prioNext.filter fun w => !(w.2.2 < halfTick s) }

/-- One request is served before another: priority, then age, then index (R376). -/
def lockBefore (s : State) (a b : Nat × Nat × Time) : Bool :=
  decide (lockPrio s b.1 < lockPrio s a.1) || (lockPrio s a.1 == lockPrio s b.1 &&
    (decide (a.2.1 < b.2.1) || (a.2.1 == b.2.1 && decide (a.1 < b.1))))

def bestWaiter (s : State) : List (Nat × Nat × Time) → Option (Nat × Nat × Time)
  | [] => none
  | w :: r => match bestWaiter s r with
    | some b => if lockBefore s w b then some w else some b
    | none => some w

/-- The lock that the LOCK_ACQUIRE in a mailbox names. -/
def acquires (s : State) (mb : Nat) : Option Nat := (s.mb mb).current.map fun r => pf r 0 63 56

/-- One cycle of a lock's arbiter (R376, R379). -/
def grantLock (l : Nat) (s : State) : State :=
  let s := settlePrio s
  let k := findLock s l
  if k.owner.isSome then s
  else match bestWaiter s k.waiters with
    | none => s
    | some w =>
      let s1 := putLock l { owner := some w.1, waiters := k.waiters.filter fun x => x.1 != w.1, granted := s.ft.count } s
      if acquires s1 w.1 = some l then
        finishWait w.1 waitLock stOk true [BitVec.ofNat 64 s1.ft.count] (modMb w.1 (fun m => { m with took := true }) s1)
      else s1

/-- LOCK_WAIT_EXPIRY: the request is withdrawn and the command completes NO_LOCK (R379); a lock that is free at the expiry is granted
first (Table 12.13). -/
def lockExpiry (mb : Nat) (s : State) : State :=
  forAll (tkeys s.mgmt.lock) (fun l s =>
    let s := if (findLock s l).owner.isNone && (findLock s l).waiters.any fun w => w.1 == mb then grantLock l s else s
    let k := findLock s l
    if k.waiters.any fun w => w.1 == mb && decide (w.2.2 ≤ s.now) then
      let s1 := putLock l { k with waiters := k.waiters.filter fun w => w.1 != mb } s
      if acquires s1 mb = some l then finishWait mb waitLock stNoLock false [] s1 else s1
    else s) s

def execLockWaitExpiry (dt : Time) (mb : Nat) (s : State) : Host.Outcome State Fault Refusal :=
  run dt (okMb mb) (lockExpiry mb) s

/-- TANDEM_LINK_LOSS_TIMEOUT: 1 ms without the tandem link ends mailbox 65's grants and requests (R378); a LOCK_ACQUIRE whose request is
withdrawn completes NO_LOCK (R379, assumption 162). -/
def execTandemLinkLossTimeout (dt : Time) (s : State) : Host.Outcome State Fault Refusal :=
  run dt true (fun s => match s.tandem.linkDownAt with
    | some t => if s.since t ms && !tandemLinkUp s then
        finishWait 65 waitLock stNoLock false [] (removeRequester 65 { s with tandem.linkDownAt := none })
      else s
    | none => s) s

/-! The out-of-band endpoint and the debug mailbox (R372 to R374). -/

/-- The address at which the endpoint answers: its static one, or the dynamic one once it has it (R372). -/
def oobAddr (s : State) : Nat := s.mgmt.oob.dynAddr.getD (0x58 + s.chip.addrsel)

/-- A message is an ECS command for the endpoint: sent to its address, with a right error code on SMBus, of the command type (R372). -/
def oobTakes (s : State) (x : Mctp) : Bool :=
  x.addr.getD (oobAddr s) == oobAddr s && (s.mgmt.oob.dynAddr.isSome || x.pecOk) && x.msgType == 0x7F && x.iana == 61207

/-- OOB_MCTP_MESSAGE: a command arrives at mailbox 64; a further one while it is BUSY is answered BUSY (R372). -/
def execOobMctpMessage (dt : Time) (r : Req) (s : State) : Host.Outcome State Fault Refusal :=
  run dt (okReq r) (fun s => onlyIf (oobTakes s r.mctp) (submit 64 (rOp r) (rSeq r) (some { r with mb := 64 })) s) s

/-- DEBUG_MAILBOX_FRAME: a frame shifted through the test access port submits a command at mailbox 66 (R374). -/
def execDebugMailboxFrame (dt : Time) (r : Req) (s : State) : Host.Outcome State Fault Refusal :=
  run dt (okReq r) (fun s => submit 66 (rOp r) (rSeq r) (some { r with mb := 66 }) s) s

/-- MCTP control: command 0x01 sets the endpoint ID, command 0x05 here negotiates the transmission unit on I3C, 64 to 256 bytes;
every command is answered (R372). -/
def execMctpControlMessage (dt : Time) (cmd arg : Nat) (s : State) : Host.Outcome State Fault Refusal :=
  run dt true (fun s =>
    let s1 : State := match cmd with
      | 1 => { s with mgmt.oob.eid := arg % 256 }
      | 5 => { s with mgmt.oob.mtu := if s.mgmt.oob.dynAddr.isSome then max 64 (min 256 arg) else 64 }
      | _ => s
    emit (.mctpControl cmd (if cmd = 5 then s1.mgmt.oob.mtu else s1.mgmt.oob.eid)) s1) s

/-- Alerts that no acknowledgement covers (R373). -/
def alertsPending (s : State) : Bool := !s.errs.alertSeq.isEmpty || s.errs.alertNoRec

/-- I3C_DYNAMIC_ADDRESS: the endpoint works as an I3C target; while alerts are unacknowledged, In-Band Interrupts resume. -/
def execI3cDynamicAddress (dt : Time) (addr : Nat) (s : State) : Host.Outcome State Fault Refusal :=
  run dt true (fun s =>
    let s1 : State := { s with mgmt.oob.dynAddr := some (addr % 128) }
    if alertsPending s1 then emit (.ibi 1) { s1 with mgmt.oob.lastIbi := s1.now } else s1) s

/-- ALERT_RESPONSE_ADDRESS: in SMBus mode an endpoint that holds the alert answers with its own address (R373). -/
def execAlertResponseAddress (dt : Time) (s : State) : Host.Outcome State Fault Refusal :=
  run dt true (fun s =>
    if s.mgmt.oob.dynAddr.isNone && s.mgmt.oob.alertLow then emit (.smbusAddress (oobAddr s)) s else s) s

/-- IBI_REPEAT: every 100 ms while alerts remain unacknowledged in I3C mode (R373). -/
def execIbiRepeat (dt : Time) (s : State) : Host.Outcome State Fault Refusal :=
  run dt true (fun s =>
    if s.mgmt.oob.dynAddr.isSome && alertsPending s && s.since s.mgmt.oob.lastIbi (100 * ms) then
      emit (.ibi 1) { s with mgmt.oob.lastIbi := s.now }
    else s) s

/-- ERR_HEAD_WRITE: only a value in ring order from ERR_HEAD to ERR_TAIL takes effect (R366). -/
def writeErrHead (p v : Nat) (s : State) : State :=
  modPart p (fun q =>
    let h := v % 256
    if modDist 256 h q.errHead ≤ modDist 256 q.errTail q.errHead then
      { q with errHead := h, ring := tkeep q.ring fun i _ => decide (modDist 256 h q.errHead ≤ modDist 256 i q.errHead) }
    else q) s

def execErrHeadWrite (dt : Time) (p v : Nat) (s : State) : Host.Outcome State Fault Refusal :=
  run dt (okPart p) (writeErrHead p v) s

end Sys2Proof.Machine
end

