-- ==== Sys2Proof/Machine/Slot.lean ====
section
/-! DEFINITION. The slot power die: channels, the inrush queue, feeds, measurements and its resets (chapter 11). -/

namespace Sys2Proof.Machine

/-! Records and channel status. -/

/-- A record the slot die runs by; until one is loaded, its Reset value (R330). -/
def slotRec (s : State) (typ ch : Nat) : Rec := (tfind s.slot.recs (64 * (typ - 0x48) + ch)).getD (recReset typ ch)
def dieRec (s : State) : Rec := slotRec s 0x49 0
/-- The limits in use: outside OFF those taken at the last entry (R331). -/
def limitsOf (s : State) (ch : Nat) : Rec := (s.chan ch).limits.getD (slotRec s 0x48 ch)
def lEn (r : Rec) : Bool := rb r 63
def lPresOff (r : Rec) : Bool := rb r 62
def lLim (r : Rec) : Nat := rf r 61 54
def lInrush (r : Rec) : Nat := rf r 53 46
def lSense (r : Rec) : Nat := rf r 45 38
def lSlope (r : Rec) : Nat := rf r 37 30
def lFault (r : Rec) : Nat := rf r 29 22
def lEnergy (r : Rec) : Nat := rf r 21 13
def lRetry (r : Rec) : Nat := rf r 12 9
def lPg (r : Rec) : Nat := rf r 8 2

/-- The channel status record (Table 11.7). -/
def chStatus (s : State) (ch : Nat) : Word64 :=
  let c := s.chan ch
  let a := s.chanAux ch
  quad [(63, 61, c.state), (60, 57, c.lastFault), (56, 55, c.trigger), (54, 52, min 7 c.retries), (51, 51, b2n c.present),
    (50, 50, b2n c.perst), (49, 38, a.iPeak), (37, 26, a.voutMin), (25, 14, a.iNow), (13, 2, a.voutNow)]

/-- The gate of a channel is on. -/
def gateOn (c : Chan) : Bool := c.state == 2 || c.state == 3 || c.state == 4

/-- The slot die's microsecond count. -/
def slotUs (s : State) : Nat := s.now / us

/-- The interface to the slot die is up (R17, R348, R353). -/
def slotUp (s : State) : Bool := s.slot.recordsLoaded && !s.slot.inReset

/-- The core die takes the slot die's events: the interface is up and the MC is not restarting (R348). -/
def slotListens (s : State) : Bool := slotUp s && s.mgmt.restartAt.isNone

/-- Change a channel, and drive SLOT_PERST_N and SPG_N with it: SPG_N is low exactly in ON (R338 to R341, Table 11.1). -/
def modPins (ch : Nat) (f : Chan → Chan) (s : State) : State :=
  let old := s.chan ch
  let s1 := modChan ch f s
  let new := s1.chan ch
  onlyIf ((new.state == 4) != (old.state == 4)) (emit (.slotPg ch (new.state == 4)))
    (onlyIf (new.perst != old.perst) (emit (.slotPerst ch new.perst)) s1)

/-! Events (R347, R348). -/

/-- The partition whose hot-plug port names a channel. -/
def slotPart (s : State) (ch : Nat) : Option Nat := (slotPort s ch).map (portPart s)

/-- Power Fault Detected sets when the channel reports a fault code (R156). -/
def powerFault (ch : Nat) (s : State) : State := match slotPort s ch with
  | some p => noteStatus p (fun a => { a with powerFault := true }) s
  | none => s

/-- An event reaches the core die, or is held, the last 64, while the core die takes none (R348). -/
def slotReport (r : ErrRec) (s : State) : State :=
  if slotListens s then
    record (if r.cause = 0x0801 then (slotPart s r.detailB).toList else [])
      { r with srcDev := s.dev, srcPort := if r.cause = 0x0801 then (slotPort s r.detailB).getD 0 else 0 } s
  else { s with slot.held := newest 64 (s.slot.held ++ [(slotUs s, r)]) }

/-- A SLOT_EVENT record: code in [3:0], trigger in [5:4] of DETAIL_A, the channel in DETAIL_B. -/
def slotEvent (ch cls code trig : Nat) (s : State) : State :=
  slotReport { cause := 0x0801, cls := cls, detailA := code + 16 * trig, detailB := ch } s

/-- A fault code is counted per channel, remembered and shown to the host; while the interface is down, once it returns (R156, R348). -/
def noteFault (ch code trig : Nat) (s : State) : State :=
  let s1 := modChan ch (fun c => { c with lastFault := code, trigger := trig, unshown := !slotListens s }) (count1 (cChan ch (code - 1)) s)
  if slotListens s1 then powerFault ch s1 else s1

/-! Turning off, queueing and ramping. -/

/-- The channel leaves for a state with its gate off: a gate that was on is turned off and the discharge sink works for
10 ms; SLOT_PERST_N asserts, SPG_N releases, and the grant is released (R338, R341, R343, R349). -/
def gateOff (ch next : Nat) (t : Time) (s : State) : State :=
  let was := gateOn (s.chan ch)
  let s1 := modPins ch (fun c => { c with
    state := next, fast := false, timer := none, under := 0, q := 0, perst := true
    tries := if next = 5 then c.tries else 0, offAt := if was then t else c.offAt, checkDue := c.checkDue || was, checked := c.checked && !was
    limits := if next = 0 then none else c.limits }) s
  let s2 := modChanAux ch (fun a => { a with granted := false, onSince := none }) s1
  let s3 := if was then emit (.discharge ch) (emit (.slotGate ch false) s2) else s2
  settleCad s3

/-- A channel becomes unusable: a C2 record, whose alert R325 raises (R344, R347). One that is unusable already only notes the fault. -/
def unusable (ch code : Nat) (s : State) : State :=
  if (s.chan ch).state = 7 then noteFault ch code 0 s
  else slotEvent ch 2 code 0 (noteFault ch code 0 (gateOff ch 7 s.now s))

/-- A fault of R334 at time t (R337, R339, R342, R344). Triggers: 1 TIMER, 2 ENERGY, 3 FAST. -/
def chanFault (ch trig : Nat) (t : Time) (s : State) : State :=
  let c := s.chan ch
  let r := limitsOf s ch
  let code := if c.pgSeen then 2 else 1
  let low := if c.vmax < 1000 then c.lowFails + 1 else 0
  let tf : Time := if c.pgSeen then (match c.timer with
      | some n => n * us
      | none => 0) else t - c.gateAt
  let s1 := modChan ch (fun c => { c with lowFails := low }) (noteFault ch code trig s)
  if 2 ≤ low then slotEvent ch 2 3 trig (noteFault ch 3 trig (gateOff ch 6 t s1))
  else if lRetry r ≠ 15 ∧ lRetry r ≤ c.retries then slotEvent ch 2 8 trig (noteFault ch 8 trig (gateOff ch 6 t s1))
  else modChan ch (fun c => { c with waitUntil := t + max (100 * ms) (32 * tf) }) (gateOff ch 5 t s1)

/-- A request enters the inrush queue with a new stamp. -/
def enqueue (ch : Nat) (s : State) : State :=
  modChanAux ch (fun a => { a with stamp := slotUs s })
    (modChan ch (fun c => { c with state := 1, limits := some (c.limits.getD (slotRec s 0x48 ch)) }) s)

/-- Denominator of the exact inrush charge: the least common multiple of 1 to 100. -/
def senseScale : Nat := 69720375229712477164533808935312303556800

/-- I_IN in amperes times `senseScale` (R330). -/
def inrushCharge (r : Rec) : Nat := lInrush r * senseScale / lSense r

/-- The charges of the channels that hold a grant. -/
def chargesHeld (s : State) : Nat :=
  (((List.range 64).filter fun ch => (s.chanAux ch).granted).map fun ch => inrushCharge (limitsOf s ch)).sum

/-- Requests that compete: queued, present, and past the start-up check (R346, R349, R354). -/
def inrushQueue (s : State) : List Nat :=
  (List.range 64).filter fun ch => (s.chan ch).state == 1 && (s.chan ch).present && !(s.chanAux ch).startCheck

def inrushBefore (s : State) (a b : Nat) : Bool :=
  let pr := fun ch => rf (slotRec s 0x4A ch) 7 4
  decide (pr b < pr a) || (pr a == pr b && (decide ((s.chanAux a).stamp < (s.chanAux b).stamp) ||
    ((s.chanAux a).stamp == (s.chanAux b).stamp && decide (a < b))))

def inrushHead (s : State) : List Nat → Option Nat
  | [] => none
  | c :: r => match inrushHead s r with
    | some b => if inrushBefore s c b then some c else some b
    | none => some c

/-- A granted channel enters RAMP under the record in force: its gate is driven so that the output rises at DVDT (R331, R335). A check that
is due after its last turn-off is still made (R343). -/
def enterRamp (ch : Nat) (s : State) : State :=
  emit (.slotRamp ch (lSlope (slotRec s 0x48 ch))) <| emit (.slotGate ch true) (modChanAux ch (fun a => { a with granted := true, onSince := none })
    (modChan ch (fun c => { c with
      state := 2, limits := some (slotRec s 0x48 ch), energy := 0, timer := none, under := 0, q := 0, vmax := 0, pgSeen := false
      gateAt := s.now, fast := false }) s))

/-- Grants of one tick: the head while it fits BUDGET, then the new head (R349). -/
def grantInrush : Nat → State → State
  | 0, s => s
  | n + 1, s => match inrushHead s (inrushQueue s) with
    | some ch =>
      if 10 * (chargesHeld s + inrushCharge (slotRec s 0x48 ch)) ≤ rf (dieRec s) 63 48 * senseScale
      then grantInrush n (enterRamp ch s) else s
    | none => s

def execInrushGrant (dt : Time) (s : State) : Host.Outcome State Fault Refusal :=
  run dt true (fun s => if s.slot.inReset then s else grantInrush 64 s) s

/-! The tick (R334). -/

/-- Power-good: the channel is ON (R340). A fault's first retry that reaches ON writes the C0 record (R347). -/
def enterOn (ch : Nat) (t : Time) (s : State) : State :=
  let c := s.chan ch
  let s1 := modChanAux ch (fun a => { a with onSince := some (a.onSince.getD t) })
    (modPins ch (fun c => { c with state := 4, onAt := t, pgSeen := true, tries := 0, lowFails := 0 }) s)
  let s2 := if c.tries = 1 then slotEvent ch 0 c.lastFault c.trigger s1 else s1
  settleCad s2

/-- The ramp and power-good part of a tick. -/
def tickRamp (ch : Nat) (t : Time) (x : SlotSample) (s : State) : State :=
  let c := s.chan ch
  let r := limitsOf s ch
  if c.state = 2 then
    let e := c.energy + (x.vin - x.vout) * x.senseUv
    let s1 := modChan ch (fun c => { c with energy := e }) s
    if lEnergy r * lSense r * 100000000 < e then chanFault ch 2 t s1
    else if x.vin ≤ x.vout + 300 then modChan ch (fun c => { c with state := 3, q := 0 }) s1
    else s1
  else s

def tickQualify (ch : Nat) (t : Time) (x : SlotSample) (s : State) : State :=
  let c := s.chan ch
  let r := limitsOf s ch
  if c.state = 3 then
    let q := if lPg r * 100 ≤ x.vout && c.timer.isNone then c.q + 1 else 0
    let s1 := modChan ch (fun c => { c with q := q }) s
    if rf (dieRec s) 47 41 * 100 ≤ q then enterOn ch t s1 else s1
  else s

/-- One 1 µs tick of a channel with these readings, at time t. -/
def slotTick (ch : Nat) (t : Time) (x : SlotSample) (s : State) : State :=
  let c := s.chan ch
  let s0 := modChan ch (fun c => { c with vmax := max c.vmax x.vout }) s
  if !gateOn c then s
  else if c.fast then chanFault ch 3 t s0
  else
    let r := limitsOf s ch
    let lim := if c.state = 2 then lInrush r else lLim r
    let above := decide (lim * 100 ≤ x.senseUv)
    let timer1 := if above then some (c.timer.getD 0) else c.timer
    let under1 := if above then 0 else if c.timer.isSome then c.under + 1 else c.under
    let timer2 := if !above && decide (100 ≤ under1) then none else timer1
    let timer3 := timer2.map (· + 1)
    let s1 := modChan ch (fun c => { c with timer := timer3, under := under1 }) s0
    if (match timer3 with
      | some n => decide (lFault r * 100 ≤ n)
      | none => false) then chanFault ch 1 t s1
    else tickQualify ch t x (tickRamp ch t x s1)

def slotTicks (ch : Nat) (x : SlotSample) : Nat → Time → State → State × Time
  | 0, t, s => (s, t)
  | n + 1, t, s => slotTicks ch x n (t + us) (slotTick ch t x s)

/-- The ticks of a list of readings, the last of them ending now. -/
def runTicks (ch : Nat) (xs : List SlotSample) (s : State) : State :=
  if s.slot.inReset then s
  else
    let n := (xs.map (·.ticks)).sum
    (xs.foldl (fun (a : State × Time) x => slotTicks ch x x.ticks a.2 a.1) (s, s.now - n * us + us)).1

/-- SLOT_FAST_TRIP: the comparator pulls the gate down in any state with the gate on; the next tick records the fault (R336). -/
def execSlotFastTrip (dt : Time) (ch : Nat) (ticks : List SlotSample) (s : State) : Host.Outcome State Fault Refusal :=
  run dt (okChan ch) (fun s =>
    if gateOn (s.chan ch) then runTicks ch ticks (modChan ch (fun c => { c with fast := true }) s) else s) s

/-- SLOT_FAULT_TIMER_EXPIRY: the ticks up to the timer's expiry (R334). -/
def execSlotFaultTimerExpiry (dt : Time) (ch : Nat) (ticks : List SlotSample) (s : State) : Host.Outcome State Fault Refusal :=
  run dt (okChan ch) (runTicks ch ticks) s

/-- SLOT_ENERGY_EXCEEDED: the ticks up to the energy integral's excess (R334). -/
def execSlotEnergyExceeded (dt : Time) (ch : Nat) (ticks : List SlotSample) (s : State) : Host.Outcome State Fault Refusal :=
  run dt (okChan ch) (runTicks ch ticks) s

/-- SLOT_RAMP_DONE: the ticks up to the ramp's end (R334, R335). -/
def execSlotRampDone (dt : Time) (ch : Nat) (ticks : List SlotSample) (s : State) : Host.Outcome State Fault Refusal :=
  run dt (okChan ch) (runTicks ch ticks) s

/-- SLOT_POWER_GOOD_QUALIFY: the ticks up to power-good (R334). -/
def execSlotPowerGoodQualify (dt : Time) (ch : Nat) (ticks : List SlotSample) (s : State) : Host.Outcome State Fault Refusal :=
  run dt (okChan ch) (runTicks ch ticks) s

/-- PG_LOST: the channel returns to QUALIFY with its gate on, while the timer is idle (Table 11.5, Table 11.6). -/
def execPgLost (dt : Time) (ch : Nat) (s : State) : Host.Outcome State Fault Refusal :=
  run dt (okChan ch) (fun s =>
    if (s.chan ch).state = 4 ∧ (s.chan ch).timer = none then
      slotEvent ch 0 7 0 (noteFault ch 7 0 (settleCad (modPins ch (fun c => { c with state := 3, q := 0, perst := true }) s)))
    else s) s

/-- PERSTIN_N holds SLOT_PERST_N of a partition's hot-plug slot asserted (R160, R341). -/
def perstForwarded (s : State) (ch : Nat) : Bool := match slotPart s ch with
  | some p => rb (partRec s p) 18 && (s.part p).perst
  | none => false

def releasePerst (ch : Nat) (s : State) : State :=
  if (s.chan ch).state = 4 && s.since (s.chan ch).onAt (100 * ms) && !perstForwarded s ch then
    modPins ch (fun c => { c with perst := false }) s
  else s

/-- SLOT_PERST_RELEASE: 100 ms after ON (R341). -/
def execSlotPerstRelease (dt : Time) (ch : Nat) (s : State) : Host.Outcome State Fault Refusal :=
  run dt (okChan ch) (releasePerst ch) s

/-- RETRY_WAIT_END: the channel re-enters the inrush queue with a new stamp (R342). -/
def execRetryWaitEnd (dt : Time) (ch : Nat) (s : State) : Host.Outcome State Fault Refusal :=
  run dt (okChan ch) (fun s =>
    if (s.chan ch).state = 5 ∧ (s.chan ch).waitUntil ≤ s.now then
      enqueue ch (modChan ch (fun c => { c with retries := c.retries + 1, tries := c.tries + 1 }) (count1 (cChan ch 10) s))
    else s) s

/-- DISCHARGE_END: 10 ms after a turn-off the FET_SHORT check is made (R343). -/
def execDischargeEnd (dt : Time) (ch vout : Nat) (s : State) : Host.Outcome State Fault Refusal :=
  run dt (okChan ch) (fun s =>
    if (s.chan ch).checkDue && s.since (s.chan ch).offAt (10 * ms) then
      let s1 := modChan ch (fun c => { c with checkDue := false }) s
      if 500 < vout then unusable ch 4 s1 else modChan ch (fun c => { c with checked := true }) s1
    else s) s

/-- The gate is commanded on, or a fault has turned it off in this tick (Table 11.10). -/
def gateWasOn (s : State) (ch : Nat) : Bool :=
  gateOn (s.chan ch) || ((s.chan ch).state == 5 || (s.chan ch).state == 6) && (s.chan ch).offAt / us == slotUs s

/-- GATE_STUCK (Table 11.5); in the tick of a fault the channel is unusable (Table 11.10). -/
def execGateStuck (dt : Time) (ch : Nat) (s : State) : Host.Outcome State Fault Refusal :=
  run dt (okChan ch) (fun s => if gateWasOn s ch then unusable ch 5 s else s) s

/-- FET_LEAK: with the gate off, after a passed FET_SHORT check (Table 11.5). -/
def execFetLeak (dt : Time) (ch : Nat) (s : State) : Host.Outcome State Fault Refusal :=
  run dt (okChan ch) (fun s =>
    if !gateOn (s.chan ch) && (s.chan ch).checked && (s.chan ch).state != 7 then unusable ch 6 s else s) s

/-- RETRY_COUNT_CLEAR: after power-good was held for 1 s (R344). -/
def execRetryCountClear (dt : Time) (ch : Nat) (s : State) : Host.Outcome State Fault Refusal :=
  run dt (okChan ch) (fun s =>
    if (s.chan ch).state = 4 && s.since (s.chan ch).onAt oneSec then modChan ch (fun c => { c with retries := 0 }) s else s) s

/-! Requests (R345, R346, R353). -/

/-- A power-off request. An attempt it ends did not end in a fault (R339). -/
def requestOff (ch : Nat) (s : State) : State :=
  let c := s.chan ch
  if within 1 5 c.state then
    gateOff ch 0 s.now (modChan ch (fun c => { c with lowFails := if gateOn c then 0 else c.lowFails }) s)
  else s

/-- A power-on request: refused and counted when LATCHED or UNUSABLE, or while the channel may not be powered (R156, R345). -/
def requestOn (ch : Nat) (s : State) : Bool × State :=
  let st := (s.chan ch).state
  if st = 6 ∨ st = 7 ∨ !lEn (slotRec s 0x48 ch) then
    (false, onlyIf (st = 6 || st = 7) (powerFault ch)
      (count1 (cChan ch 9) (modChanAux ch (fun a => { a with refused := sat32 (a.refused + 1) }) s)))
  else
    let s1 := modChanAux ch (fun a => { a with commandedOn := true }) s
    if st = 5 then (true, count1 (cChan ch 9) s1)
    else if st = 0 then (true, enqueue ch (modChan ch (fun c => { c with tries := 0 }) s1))
    else (true, s1)

/-- A latch is cleared: the channel goes to OFF (R345). -/
def unlatch (ch : Nat) (s : State) : State :=
  if (s.chan ch).state = 6 then modChan ch (fun c => { c with state := 0, limits := none }) s else s
def unmark (ch : Nat) (s : State) : State :=
  if (s.chan ch).state = 7 then modChan ch (fun c => { c with state := 0, limits := none }) s else s

/-- An action of SLOT_POWER at the slot die, and whether it was accepted. -/
def slotAction (act ch : Nat) (s : State) : Bool × State :=
  match act with
  | 0 => requestOn ch s
  | 1 => (true, requestOff ch (modChanAux ch (fun a => { a with commandedOn := false }) s))
  | 2 => (true, unlatch ch s)
  | _ => (true, unmark ch s)

/-- SLOT_COMMAND_ACCEPTED: the oldest request for the channel is taken; Command Completed sets once it is accepted, or SLOT_POWER completes
with the channel's status and shows in Power Controller Control (R154, R158, R353, R400). -/
def execSlotCommandAccepted (dt : Time) (ch : Nat) (s : State) : Host.Outcome State Fault Refusal :=
  run dt (okChan ch) (fun s =>
    if !slotUp s then s
    else match (s.chanAux ch).requests with
      | [] => s
      | (act, who) :: rest =>
        let (ok, s1) := slotAction act ch (modChanAux ch (fun a => { a with requests := rest }) s)
        match who with
        | none => match slotPort s1 ch with
          | some p => onlyIf ok (noteStatus p (fun a => { a with cmdDone := true })) s1
          | none => s1
        | some mb =>
          let s2 := match slotPort s1 ch with
            | some p => if ok && decide (act < 2) then modAux p (fun a => { a with powerOff := act == 1 }) s1 else s1
            | none => s1
          finishWait mb waitSlot (if ok then stOk else stDenied) ok [chStatus s2 ch] s2) s

/-- PRESENCE_CHANGE: a filtered change of PRSNT_N (R157, R345, R346). -/
def presenceShown (ch : Nat) (s : State) : State :=
  match slotPort s ch with
  | some p => noteStatus p (fun a => { a with
      presence := (s.chan ch).present, presenceChanged := a.presenceChanged || a.presence != (s.chan ch).present }) s
  | none => s

def presenceChange (ch : Nat) (on : Bool) (s : State) : State :=
  if (s.chan ch).present == on then s
  else
    let away := match (s.chan ch).absentSince with
      | some t => s.since t ms
      | none => false
    let s1 := modChan ch (fun c => { c with present := on, absentSince := if on then none else some s.now }) s
    let s2 := if on then (if away then unlatch ch s1 else s1)
      else if lPresOff (limitsOf s1 ch) then requestOff ch s1 else s1
    if slotUp s2 then presenceShown ch s2 else s2

def execPresenceChange (dt : Time) (ch : Nat) (present : Bool) (s : State) : Host.Outcome State Fault Refusal :=
  run dt (okChan ch) (presenceChange ch present) s

/-- SPIN_HOLD_EXPIRY: the grant is released SPIN_HOLD after the channel entered ON, whatever its state since (R349). -/
def execSpinHoldExpiry (dt : Time) (ch : Nat) (s : State) : Host.Outcome State Fault Refusal :=
  run dt (okChan ch) (fun s => match (s.chanAux ch).onSince with
    | some t =>
      if s.since t (rf (slotRec s 0x4A ch) 15 8 * 100 * ms) then modChanAux ch (fun a => { a with granted := false }) s else s
    | none => s) s

/-! Feeds (R350, R351). -/

def State.feed (s : State) (b : Bool) : Feed := if b then s.slot.feedB else s.slot.feedA
def modFeed (b : Bool) (f : Feed → Feed) (s : State) : State :=
  if b then { s with slot.feedB := f s.slot.feedB } else { s with slot.feedA := f s.slot.feedA }

/-- A feed may conduct: it is not lost and its drop has not reversed. -/
def feedReady (f : Feed) : Bool := !f.lost && !f.reversed

/-- A feed's transistor conducts, holding its forward drop at 15 mV: unless the other feed is ready and more than 50 mV higher, by the last
samples of 4 mV (R350, R352, assumption 160). -/
def conducts (f g : Feed) : Bool := feedReady f && !(feedReady g && decide (50 < 4 * (g.vNow - f.vNow)))

/-- A gate that has changed is driven (Table 11.1). -/
def feedGateTo (b : Bool) (old new : Nat) (s : State) : State :=
  onlyIf (decide (2 ≤ old) != decide (2 ≤ new)) (emit (.feedGate b (decide (2 ≤ new)))) s

/-- FSTATE of both feeds and their gates (R350, Table 11.8). -/
def settleFeeds (s : State) : State :=
  let st (f g : Feed) : Nat := if f.lost then 0 else if !conducts f g then 1 else if conducts g f then 3 else 2
  let a := s.slot.feedA
  let b := s.slot.feedB
  feedGateTo true b.fstate (st b a) (feedGateTo false a.fstate (st a b) { s with
    slot.feedA := { a with fstate := st a b }, slot.feedB := { b with fstate := st b a } })

/-- A FEED_EVENT: the feed in bit 0 of DETAIL_A, the event above it: 0 lost, 1 restored, 2 reverse turn-off. -/
def feedEvent (b : Bool) (cls ev : Nat) (s : State) : State :=
  slotReport { cause := 0x0802, cls := cls, detailA := b2n b + 2 * ev } s

/-- FEED_REVERSE_TURNOFF: the drop has fallen to -8 mV (R350); counted, with at most one record per feed and second (R351). -/
def execFeedReverseTurnoff (dt : Time) (feed : Bool) (s : State) : Host.Outcome State Fault Refusal :=
  run dt true (fun s =>
    let s2 := count1 (cChan (64 + b2n feed) 11) (settleFeeds (modFeed feed (fun f => { f with reversed := true }) s))
    let due := match (s2.feed feed).lastRev with
      | some t => s2.since t oneSec
      | none => true
    if due then feedEvent feed 0 2 (modFeed feed (fun f => { f with lastRev := some s2.now }) s2) else s2) s

/-- FEED_FORWARD_RESUME: the drop is above 0 mV again (R350). -/
def execFeedForwardResume (dt : Time) (feed : Bool) (s : State) : Host.Outcome State Fault Refusal :=
  run dt true (fun s => settleFeeds (modFeed feed (fun f => { f with reversed := false }) s)) s

/-- FEED_LOST: below FEED_UV for 100 µs (R351). -/
def execFeedLost (dt : Time) (feed : Bool) (s : State) : Host.Outcome State Fault Refusal :=
  run dt true (fun s =>
    if (s.feed feed).lost then s
    else feedEvent feed 2 0 (settleFeeds (modFeed feed (fun f => { f with lost := true }) s))) s

/-- FEED_RESTORED: above FEED_UV and 0.2 V for 100 ms (R351). -/
def execFeedRestored (dt : Time) (feed : Bool) (s : State) : Host.Outcome State Fault Refusal :=
  run dt true (fun s =>
    if !(s.feed feed).lost then s
    else feedEvent feed 0 1 (settleFeeds (modFeed feed (fun f => { f with lost := false, reversed := false }) s))) s

/-! Measurements (R352): voltages in 4 mV steps, sense voltages in 10 µV steps, both saturating. -/

/-- The lowest value since the last read: after a read the first sample, then the lower of the two (assumption 61). -/
def lowest (wasRead : Bool) (low v : Nat) : Nat := if wasRead then v else min low v

def execAdcSample (dt : Time) (ch sense vout : Nat) (s : State) : Host.Outcome State Fault Refusal :=
  run dt (okAdc ch) (fun s =>
    let i := min 4095 sense
    let v := min 4095 vout
    if ch < 64 then
      let on := (s.chan ch).state == 4
      modChanAux ch (fun a => { a with
        iNow := i, voutNow := v, iPeak := max a.iPeak i
        voutMin := if on then lowest a.minRead a.voutMin v else a.voutMin, minRead := a.minRead && !on }) s
    else settleFeeds (modFeed (ch == 65) (fun f => { f with
      iNow := i, vNow := v, iPeak := max f.iPeak i, vMin := lowest f.minRead f.vMin v, minRead := false }) s)) s

/-! Resets of the slot die (R354, Table 11.9). -/

/-- Every gate turns off in the reset tick; latches clear, UNUSABLE marks stay; each channel that was not OFF has an event, and no other keeps
a fault or retries (R330, R354, Table 11.7). A feed counts as lost until it is found above its threshold again (Table 11.8). -/
def slotDieReset (s : State) : State :=
  let s0 : State := { s with slot.inReset := true, slot.pinLow := true, slot.recordsLoaded := false, slot.reissue := true, slot.recs := [] }
  let s1 := forAll (List.range 64) (fun ch s =>
    let st := (s.chan ch).state
    let s1 := modChan ch (fun c => { c with
      lastFault := 0, trigger := 0, retries := 0, lowFails := 0, tries := 0, pgSeen := false, vmax := 0 })
        (if st = 0 ∨ st = 7 then s else gateOff ch 0 s.now s)
    if st = 0 then s1 else slotEvent ch 0 9 0 (noteFault ch 9 0 s1)) s0
  settleFeeds (forAll [false, true] (fun b => modFeed b fun f => { f with lost := true, reversed := false }) s1)

def execSlotResetNAssert (dt : Time) (s : State) : Host.Outcome State Fault Refusal := run dt true slotDieReset s

/-- The slot die starts when neither SLOT_RESET_N nor VPWR holds it. -/
def execSlotResetNRelease (dt : Time) (s : State) : Host.Outcome State Fault Refusal :=
  run dt true (fun s =>
    if s.slot.inReset && !s.slot.vpwrLost then { s with slot.inReset := false, slot.pinLow := false, slot.startedAt := s.now }
    else { s with slot.pinLow := false }) s

/-- Loss of VPWR: every gate turns off and the slot die keeps nothing but what its pins show (R528). -/
def vpwrLoss (s : State) : State :=
  let s1 := forAll (List.range 64) (fun ch s =>
    modPins ch (fun c => { c with state := 0, perst := true }) (onlyIf (gateOn (s.chan ch)) (emit (.slotGate ch false)) s)) s
  settleCad { s1 with slot := {
    chan := (s.slot.chan.filter fun e => e.2.present).map fun e => (e.1, { present := true })
    aux := s.slot.aux.map fun e => (e.1, { commandedOn := e.2.commandedOn, requests := e.2.requests })
    inReset := true, vpwrLost := true, pinLow := s.slot.pinLow, reissue := true } }

def execVpwrLoss (dt : Time) (s : State) : Host.Outcome State Fault Refusal := run dt true vpwrLoss s

/-- VPWR above 9.5 V for 1 ms: the slot die starts, and its pass-device checks run again (R528). -/
def execVpwrRecovery (dt : Time) (s : State) : Host.Outcome State Fault Refusal :=
  run dt true (fun s =>
    if s.slot.vpwrLost then { s with slot.vpwrLost := false, slot.inReset := s.slot.pinLow, slot.startedAt := s.now } else s) s

/-- STARTUP_FET_SHORT_CHECK: 10 ms after the slot die starts at power-on or after loss of VPWR (Table 11.9). -/
def execStartupFetShortCheck (dt : Time) (ch vout : Nat) (s : State) : Host.Outcome State Fault Refusal :=
  run dt (okChan ch) (fun s =>
    if (s.chanAux ch).startCheck && !s.slot.inReset && s.since s.slot.startedAt (10 * ms) then
      let s1 := modChanAux ch (fun a => { a with startCheck := false }) s
      if 500 < vout then unusable ch 4 s1 else modChan ch (fun c => { c with checked := true }) s1
    else s) s

/-- The records of the configuration in force reach the slot die (R330, R331). CH_EN = 0 acts at once as a power-off request. -/
def loadSlotRecords (s : State) : State :=
  let keys := [0x48, 0x49, 0x4A].flatMap fun typ => (s.mine typ).map fun e => (64 * (typ - 0x48) + e.a, e.data)
  let s1 : State := { s with slot.recs := keys.foldl (fun t e => tput t e.1 e.2) [] }
  forAll (List.range 64) (fun ch s =>
    if !lEn (slotRec s 0x48 ch) && within 1 5 (s.chan ch).state then requestOff ch s else s) s1

/-- The MC writes a record for each held event, stamped with the fabric time now less the microseconds since, and raises Power Fault Detected
(R348). -/
def writeHeld (s : State) : State :=
  let s2 := forAll s.slot.held (fun e s =>
    let s' := record (if e.2.cause = 0x0801 then (slotPart s e.2.detailB).toList else [])
      { e.2 with srcDev := s.dev, srcPort := if e.2.cause = 0x0801 then (slotPort s e.2.detailB).getD 0 else 0 } { s with ft.count := s.ft.count - (slotUs s - e.1) * us }
    let s3 : State := { s' with ft.count := s.ft.count }
    if e.2.cause = 0x0801 then powerFault e.2.detailB s3 else s3) { s with slot.held := [] }
  forAll (List.range 64) (fun ch s => onlyIf (s.chan ch).unshown
    (fun s => powerFault ch (modChan ch (fun c => { c with unshown := false }) s)) s) s2

/-- SLOT_INTERFACE_RESTORED: the MC loads the records, writes the held events, and after a slot die reset issues ON again for each channel it
last commanded on (R348, R354). -/
def restoreSlot (s : State) : State :=
  let s1 := loadSlotRecords { s with slot.recordsLoaded := true }
  let s3 := forAll (List.range 64) presenceShown (onlyIf (slotListens s1) writeHeld s1)
  if s3.slot.reissue then
    forAll ((List.range 64).filter fun ch => (s3.chanAux ch).commandedOn) (fun ch s => (requestOn ch s).2)
      { s3 with slot.reissue := false }
  else s3

/-- The core die runs: no device reset, no trip, boot complete. -/
def coreRuns (s : State) : Bool := !s.chip.booting && !s.chip.tripped && !s.chip.railsOut

def execSlotInterfaceRestored (dt : Time) (s : State) : Host.Outcome State Fault Refusal :=
  run dt true (fun s => if coreRuns s && !s.slot.inReset && !s.slot.recordsLoaded then restoreSlot s else s) s

end Sys2Proof.Machine
end

