-- ==== Sys2Proof/Machine/Resets.lean ====
section
/-! DEFINITION. The resets: of a port, a partition, a function, the MC and the device, and the C4 shutdown (R13, R24, R160 to
R163, R319, R467 to R473 and the reset tables of each chapter). -/

namespace Sys2Proof.Machine

/-! Port reset. -/

/-- The shapers and deficits of a port go to 0 (Table 3.12). -/
def resetPortSched (p : Nat) (s : State) : State :=
  let s1 := resetShapers (fun k =>
    let i := shIdx k
    match shKind k with
    | 0 | 1 => i / 576 == p
    | 2 => i / 72 == p
    | 3 => i / 8 == p
    | 4 => i == p
    | _ => false) s
  { s1 with sched.deficits := tkeep s1.sched.deficits fun k _ =>
      !(decide (k < 2 ^ 20) && k / 576 == p || decide (2 ^ 20 ≤ k) && decide (k < 2 ^ 21) && (k - 2 ^ 20) / 8 == p) }

/-- An ingress shaper at its ceiling with credit 0. -/
def resetIngress (att sub : Nat) (s : State) : State :=
  resetSh (shKey 5 (att * 72 + sub)) { s with sched.cur := tdel s.sched.cur (att * 72 + sub) }

/-- The link of a PCIe port goes down: its wires are deasserted, its eye records and held messages are gone (R151, R157). -/
def linkDown (p : Nat) (s : State) : State :=
  let s1 := modPort p (fun q => { q with up := false, recovery := false, width := 0, rate := 0, reversed := false }) s
  let s2 := dropWires p (modAux p (fun a => { a with heldMsgs := [], ptmTime := none, ptmAsked := none }) s1)
  let s3 := if (s.port p).up then count1 (cPort p 15) (noteStatus p (fun a => { a with dllChanged := true }) s2) else s2
  clearEyes (portLanes s p) s3

/-- Frames received on a port's link and not yet staged are lost with it; frames for the port are discarded (Table 2.11). -/
def flushPort (p : Nat) (w : Why) (s : State) : State :=
  flushWhere (framesFor p) w { s with hub.frames := s.hub.frames.filter fun f =>
    !(f.place == .waiting && f.srcDev == s.dev && f.srcPort == p && f.rxSpoke.isNone && f.func.isNone) }

/-- The hub's part of a reset or containment of a port: its frames are discarded, its averages are not kept (Table 2.11). -/
def emptyPort (p : Nat) (w : Why) (s : State) : State := clearAverages p (flushPort p w s)

/-- A bridge's registers at their reset values; the link's own state stays. -/
def freshBridge (q : Port) : Port :=
  { up := q.up, recovery := q.recovery, width := q.width, rate := q.rate, reversed := q.reversed }

/-- A port's containment ends, its saved equalisation is discarded, and Power Controller Control reads what its channel was
last commanded (R129, R155, R317). -/
def resetPortRegs (p : Nat) (above : Bool) (s : State) : State :=
  modAux p (fun a => { a with
      eqSaved := [], powerOff := if portHp s p then !(s.chanAux (portSlot s p)).commandedOn else a.powerOff })
    (modPort p (fun q => { (if above then freshBridge q else q) with contained := false, dpcTriggered := false }) s)

/-- Slot status of a bridge at its reset values; Presence Detect State follows the pin. -/
def clearSlotStatus (p : Nat) (s : State) : State :=
  modAux p (fun a => { a with powerFault := false, presenceChanged := false, cmdDone := false, dllChanged := false }) s

/-- A spoke takes a port reset: down, or its bring-up starts again (Table 6.14). -/
def spokeReset (k : Nat) (s : State) : State :=
  if (s.spoke k).state = 6 then spokeDown k 5 s else startBringUp k s

/-- A port reset (R13, Table 5.9). `above`: the reset comes from a bridge above, which also resets the port's own registers. -/
def portReset (p : Nat) (above : Bool) (s : State) : State :=
  match portSpoke s p with
  | some k => resetPortSched p (spokeReset k s)
  | none =>
    let s1 := emptyPort p .port (linkDown p (resetPortRegs p above s))
    onlyIf above (clearSlotStatus p) (resetIngress (portStation s p) (portPart s p) (resetPortSched p (releasePortSem p s1)))

/-- A link receives hot reset. -/
def sendHotReset (p : Nat) (s : State) : State := if (s.port p).up then emit (.hotReset p) s else s

/-- A port reset whose link receives hot reset. -/
def hotPortReset (p : Nat) (above : Bool) (s : State) : State := portReset p above (sendHotReset p s)

/-! Mailboxes without an answer. -/

/-- Number of no mailbox: what waits for it is never answered. -/
def nobody : Nat := 67

/-- Commands in flight of a mailbox finish without a response (Table 12.14). -/
def forgetMb (m : Nat) (s : State) : State :=
  let r (x : Nat) : Nat := if x = m then nobody else x
  { s with
    conf.coord := s.conf.coord.map fun c => { c with mb := r c.mb, commitMb := c.commitMb.map r }
    conf.swapped := s.conf.swapped.map fun c => { c with commitMb := c.commitMb.map r }
    fw.busy := s.fw.busy.map r
    mover.engine := s.mover.engine.map fun e => (e.1, { e.2 with drainMb := e.2.drainMb.map r })
    slot.aux := s.slot.aux.map fun e => (e.1, { e.2 with requests := e.2.requests.map fun q => (q.1, q.2.map r) })
    mgmt.pegWait := s.mgmt.pegWait.filter fun w => w.1 != m
    count.snapMb := s.count.snapMb.map r
    count.bw := s.count.bw.map fun e => (e.1, { e.2 with mb := r e.2.mb })
    count.loops := s.count.loops.map fun l => { l with mb := l.mb.map r } }

/-- A mailbox at its reset values; the contents of its window and buffer are scratchpad and stay. -/
def idleMailbox (m : Nat) (s : State) : State := modMb m (fun x => { window := x.window, buf := x.buf }) (forgetMb m s)

/-! Partition reset. -/

/-- The ports of a partition on this device are reset: links down, frames discarded, semaphores released. Wires fall without
messages (R151). -/
def resetPartPorts (p : Nat) (s : State) : State :=
  let ps := partPorts s p
  let s1 := forAll ps (fun q => modAux q (fun a => { a with wires := 0, collapsed := 0 })) s
  forAll ps (fun q s =>
    let s2 := emptyPort q .partition (linkDown q (resetPortRegs q true s))
    clearSlotStatus q <| releasePortSem q (forAll (s2.bridge.seqs.filter fun x => x.targetDev == s2.dev && x.targetPort == q)
      (fun x => endLockedReads x.port x.targetDev x.targetPort) s2)) s1

/-- Scheduler state of a partition: its queues at every port, its ingress shapers at every attachment (Table 3.12). -/
def resetPartSched (p : Nat) (s : State) : State :=
  let s1 := resetShapers (fun k => decide (shKind k < 2) && shIdx k % 576 / 8 == p) s
  let s2 : State := { s1 with sched.deficits := tkeep s1.sched.deficits fun k _ => !(decide (k < 2 ^ 20) && k % 576 / 8 == p) }
  forAll (List.range 21) (fun a => resetIngress a p) s2

/-- Bridge state of a partition as source (Table 7.10). -/
def resetPartBridge (p : Nat) (s : State) : State :=
  let s1 := forAll ((s.bridge.tags.filter fun e => e.2.live && e.2.srcPart == p).map (·.1)) quarTag s
  let s2 : State := { s1 with bridge.trackers := s1.bridge.trackers.map fun e =>
    if e.2.live && e.2.srcPart == p then (e.1, { e.2 with live := false, silent := true, freeAt := s1.now + quarantine }) else e }
  endSeqsWhere (fun q => q.part == p) s2

/-- A partition's fences end and its open episodes close with LAST records (Tables 7.10 and 10.8). -/
def closePartEpisodes (p : Nat) (s : State) : State :=
  let s1 := endFences (fun k => k.1 == p) s
  let mine := s1.bridge.episodes.filter fun e => e.part == p
  forAll mine closeEpisode { s1 with bridge.episodes := s1.bridge.episodes.filter fun e => e.part != p }

/-- Host pegs on the tables of a partition's ports are released (Table 8.7). -/
def dropHostPegs (p : Nat) (s : State) : State :=
  { s with bridge.pegs := tkeep s.bridge.pegs fun k v => !(v == 1 && portPart s (k / 128) == p && portEn s (k / 128)) }

/-- What every device that holds something of the partition does. -/
def partResetHere (p : Nat) (s : State) : State :=
  closePartEpisodes p (dropHostPegs p (resetPartBridge p (resetPartSched p (resetPartPorts p s))))

/-- Mailbox p ends: IDLE, no response, its grants and requests gone (R378, Table 12.14). -/
def dropMailbox (p : Nat) (s : State) : State := removeRequester p (idleMailbox p s)

/-- The other devices that hold a downstream port of a partition (R161). -/
def partDevices (s : State) (p : Nat) : List Nat :=
  ((s.conf.entries.filter fun e => e.dev != s.dev && e.typ == 0x04 && rb e.data 63 && !rb e.data 62 && rf e.data 61 56 == p).map
    (·.dev)).eraseDups

/-- The functions, mailbox, interrupt block and ring of a partition at its home device (Tables 9.13, 10.8, 12.14). -/
def resetPartHome (p : Nat) (s : State) : State :=
  let s1 := startFlr (512 + p) (dropSet (1 + p) (dropMailbox p s))
  let s2 := modPart p (fun q => { inReset := true, perst := q.perst, lastSnap := q.lastSnap }) s1
  { s2 with
    pcie.remWires := tkeep s2.pcie.remWires fun k _ => k / 31 != p
    sec.spdm := tdel s2.sec.spdm p
    aging.notices := tkeep s2.aging.notices fun q _ => portPart s2 q != p }

/-- The notice of a partition reset to the other devices; it has no payload (R161, R177, assumption 128). -/
def tellReset (p : Nat) (s : State) : State := forAll (partDevices s p) (fun d => post (.mgmt d (1 + p) [])) s

/-- A partition reset at its home device: the ring is emptied before the LAST records are written; the other devices are told
(R160, R161, R177). -/
def partitionReset (p : Nat) (s : State) : State :=
  tellReset p (settleLoops (partResetHere p (resetPartHome p s)))

/-- A partition reset whose downstream links receive hot reset (Table 5.9). -/
def hotPartitionReset (p : Nat) (s : State) : State :=
  partitionReset p (forAll ((partPorts s p).filter fun q => !portUp s q) sendHotReset s)

/-- The remote bridges of a virtual switch are told to reset their ports (Table 5.9, assumption 36). -/
def resetFarPorts (part vsw : Nat) (s : State) : State :=
  forAll (((List.range 31).map fun i => s.cfg 0x11 part i).filter fun e => rb e 31 && rf e 12 11 == vsw)
    (fun e => emit (.portReset (rf e 30 25) (rf e 24 18))) s

/-- An upstream port has received hot reset or lost its link (Table 5.9): its partition when it is the primary one, otherwise
its virtual switch. -/
def upstreamReset (u : Nat) (s : State) : State :=
  let p := portPart s u
  if portVsw s u = 0 then hotPartitionReset p s
  else resetFarPorts p (portVsw s u) (forAll (vswDown s p (portVsw s u)) (fun q => portReset q true) (portReset u true s))

/-- A partition is ready no later than 100 ms after this moment (R162, R471). -/
def partReleased (p : Nat) (s : State) : State :=
  modPart p (fun q => { q with inReset := false, ready := false, readyAt := some (s.now + 100 * ms) }) s

/-- PERSTIN_N holds a partition: its links stay down, and a forwarded reset asserts SLOT_PERST_N of its hot-plug slots. -/
def holdPart (p : Nat) (s : State) : State :=
  let s1 := modPart p (fun q => { q with perst := true, inReset := true }) s
  if rb (partRec s1 p) 18 then
    forAll ((partPorts s1 p).filter (portHp s1)) (fun q => modPins (portSlot s1 q) fun c => { c with perst := true }) s1
  else s1

/-- PERSTIN_ASSERT (R160): every partition at home here whose PERST_SEL names the input. -/
def perstAssert (i : Nat) (s : State) : State :=
  if s.pcie.perstin.contains i then s
  else
    forAll ((homeParts s).filter fun p => partPerst s p == i) (fun p s => holdPart p (partitionReset p s))
      { s with pcie.perstin := s.pcie.perstin ++ [i] }

def execPerstinAssert (dt : Time) (i : Nat) (s : State) : Host.Outcome State Fault Refusal :=
  run dt (okPerstin i) (perstAssert i) s

/-- PERSTIN_N no longer holds a partition: its links train, forwarded slot resets follow, and it will be ready within 100 ms (R160,
R162). -/
def unholdPart (p : Nat) (s : State) : State :=
  let s1 := partReleased p (modPart p (fun q => { q with perst := false }) s)
  forAll ((partPorts s1 p).filter (portHp s1)) (fun q => releasePerst (portSlot s1 q)) s1

/-- PERSTIN_RELEASE: here, and with a notice on the other devices of each partition (R162). -/
def perstRelease (i : Nat) (s : State) : State :=
  forAll ((homeParts s).filter fun p => partPerst s p == i && (s.part p).perst) (fun p s => tellReset p (unholdPart p s))
    { s with pcie.perstin := s.pcie.perstin.filter (· != i) }

def execPerstinRelease (dt : Time) (i : Nat) (s : State) : Host.Outcome State Fault Refusal :=
  run dt (okPerstin i) (perstRelease i) s

/-- A device that holds ports of a partition at home elsewhere applies the same reset to them: held down while PERSTIN_N holds the
partition, released with it, or reset with a hot reset (R161, assumption 128). -/
def resetNotice (p : Nat) (held : Bool) (s : State) : State :=
  if !partEn s p || partHome s p = s.dev then s
  else if !held && (s.part p).perst then unholdPart p s
  else
    let s1 := modPart p (fun q => { q with contained := false }) s
    if held then holdPart p (partResetHere p s1) else partResetHere p (forAll (partPorts s1 p) sendHotReset s1)

/-- A commit has changed which input resets a partition at home here: it is held while that input is low, and no longer than it (Table
5.9). -/
def settlePerst (s : State) : State :=
  forAll (homeParts s) (fun p s =>
    let low := s.pcie.perstin.contains (partPerst s p)
    if low && !(s.part p).perst then holdPart p (partitionReset p s)
    else if !low && (s.part p).perst then tellReset p (unholdPart p s)
    else s) s

/-- PARTITION_RESET_NOTICE (R161). -/
def execPartitionResetNotice (dt : Time) (p : Nat) (held : Bool) (s : State) : Host.Outcome State Fault Refusal :=
  run dt (okPart p) (resetNotice p held) s

/-- PARTITION_READY: once released, no configuration request completes with Request Retry Status any more (R162). -/
def execPartitionReady (dt : Time) (p : Nat) (s : State) : Host.Outcome State Fault Refusal :=
  run dt (okPart p) (fun s =>
    if !(s.part p).inReset && (s.part p).readyAt.isSome then modPart p (fun q => { q with ready := true }) s else s) s

/-- HOT_RESET_RECEIVED on an upstream port (R160). -/
def execHotResetReceived (dt : Time) (port : Nat) (s : State) : Host.Outcome State Fault Refusal :=
  run dt (okPort port) (fun s => if portEn s port && portUp s port then upstreamReset port s else s) s

/-- UPSTREAM_DL_DOWN: an UPSTREAM_DOWN record, class C3 on the primary port, and the reset of Table 5.9. -/
def upstreamDown (u : Nat) (s : State) : State :=
  if portEn s u && portUp s u && (s.port u).up then
    upstreamReset u (record [portPart s u]
      { devRec s 0x0104 (if portVsw s u = 0 then 3 else 2) 0 0 with srcPort := u } s)
  else s

def execUpstreamDlDown (dt : Time) (port : Nat) (s : State) : Host.Outcome State Fault Refusal :=
  run dt (okPort port) (upstreamDown port) s

/-- SECONDARY_BUS_RESET_DOWNSTREAM (Table 5.9). -/
def execSecondaryBusResetDownstream (dt : Time) (port : Nat) (s : State) : Host.Outcome State Fault Refusal :=
  run dt (okPort port) (fun s => if portEn s port && !portUp s port then hotPortReset port false s else s) s

/-! Function-level reset of function 0 (Table 12.14), and of the mover's functions. -/

/-- Function 0 takes a function-level reset: mailbox and interrupt blocks at reset values, the ring unchanged. Of AER, which the standard
keeps over such a reset, only the reporting enables of Device Control go (R2). -/
def flrFunction0 (p : Nat) (s : State) : State :=
  updateLevel p (modPart p (fun q => { q with
    intStatus := 0, intMask := 0, vectors := [], msix := [], pba := 0, msixEnable := false, intDisable := false
    aer := tmod {} q.aer 0 fun a => { a with errEn := 0 }, bars := tdel q.bars 0, memEn := clrBit q.memEn 0
    mps0 := 128, mrrs0 := 512, regs := tkeep q.regs fun k _ => decide (65536 ≤ k) }) (dropMailbox p s))

/-- FLR (R306): a mover function, or 1024 + p for function 0 of partition p. -/
def execFlr (dt : Time) (func : Nat) (s : State) : Host.Outcome State Fault Refusal :=
  run dt (okFlr func) (fun s => if func < 576 then settleLoops (startFlr func s) else flrFunction0 (func - 1024) s) s

/-- FLR_COMPLETE: once every outstanding read has ended and every frame issued has departed or been dropped (R306). A function-level reset of function 0 ends at once. -/
def execFlrComplete (dt : Time) (func : Nat) (s : State) : Host.Outcome State Fault Refusal :=
  run dt (okFlr func) (fun s =>
    if func < 576 then
      forAll ((flrScope s func).filter fun f => (s.func f).dying &&
        (jobsOf s f).all jobIdle) finishFlr s
    else s) s

/-- SECONDARY_BUS_RESET_UPSTREAM (Table 5.9): the downstream ports of the virtual switch; on the primary upstream port also
functions 0 and 1. -/
def execSecondaryBusResetUpstream (dt : Time) (port : Nat) (s : State) : Host.Outcome State Fault Refusal :=
  run dt (okPort port) (fun s =>
    if portEn s port && portUp s port then
      let p := portPart s port
      let s1 := resetFarPorts p (portVsw s port) (forAll (vswDown s p (portVsw s port)) (fun q => hotPortReset q true) s)
      if portVsw s port = 0 then settleLoops (startFlr (512 + p) (flrFunction0 p s1)) else s1
    else s) s

/-! The core dies as a whole. -/

/-- The core die is held in a device reset: RESET_N is low, or a command form has not ended. -/
def inDeviceReset (s : State) : Bool := s.chip.resetPin || s.chip.resetUntil.isSome

/-- The core die has power and is not tripped. -/
def corePowered (s : State) : Bool := !s.chip.tripped && !s.chip.railsOut

/-- Locks held for sequences of other devices are released, with LOCK_RELEASE (Table 7.10). -/
def releaseRemoteOwners (s : State) : State :=
  forAll (s.bridge.sems.filterMap fun e => e.2.owner.bind fun o => if o.2.1 = s.dev then none else some (e.1, o))
    (fun x => emit (.mgmt x.2.2.1 0x0313 [x.2.2.1, x.2.2.2, x.1])) s

/-- The core-side state of a device reset (Table 16.5): what each chapter's reset table keeps is kept, the rest is at its
reset value. The configuration is loaded again at boot. The slot power die runs on, its events held. -/
def clearCore (s : State) : State :=
  { s with
    chip.booting := true
    chip.bootAt := s.now
    chip.romRecovery := false
    chip.coreSlow := false
    chip.switchCount := 0
    ft := {}
    conf := { cfgA := s.conf.cfgA, cfgB := s.conf.cfgB }
    fw.busy := none
    fw.verified := s.fw.verified && s.fw.pending
    hub := { withdrawn := s.hub.withdrawn }
    sched := { resetAt := s.vco }
    lanes := { store := s.lanes.store, cadTx := s.lanes.cadTx, cadRec := s.lanes.cadRec }
    pcie := { perstin := s.pcie.perstin }
    spokes := { spoke := (s.spokes.spoke.filter fun e => e.2.laneMask != 255 || e.2.cadence || e.2.readmit != 0).map fun e =>
      (e.1, { laneMask := e.2.laneMask, active := e.2.laneMask, cadence := e.2.cadence, readmit := e.2.readmit }) }
    bridge := {}
    mover := {}
    errs := { log := s.errs.log, copies := s.errs.copies, seq := s.errs.seq, alertSeq := s.errs.alertSeq, alertAck := s.errs.alertAck
              alertNoRec := s.errs.alertNoRec, planerRows := s.errs.planerRows, badRows := s.errs.badRows }
    slot.recordsLoaded := false
    slot.aux := s.slot.aux.map fun e => (e.1, { e.2 with requests := [] })
    mgmt := {}
    sec.keyLoaded := false
    sec.mFw := 0
    sec.mFuse := 0
    sec.nonce := none
    sec.token := none
    sec.provToken := false
    sec.spdm := []
    tandem := { configuredRole := s.tandem.configuredRole, role := s.tandem.configuredRole, partner := s.tandem.partner
                spokes := s.tandem.spokes }
    aging.running := false
    aging.actions := 0
    aging.notices := []
    aging.retrain := []
    aging.region := 0
    aging.passes := 0
    aging.inRegion := false
    aging.lastStart := none
    power := { vddStep := s.power.vddStep, statusWord := s.power.statusWord }
    count.pending := none
    count.copying := false
    count.viewState := if s.count.copying then 3 else s.count.viewState
    count.snapMb := none
    count.snapWait := []
    count.snapReply := none
    count.bw := []
    count.loops := [] }

/-- A device reset begins: OOB_ALERT_N and THERMTRIP_N are released (R468, R538), and everything but the slot die resets. -/
def deviceReset (s : State) : State :=
  let s1 := releaseRemoteOwners s
  let s2 := if s1.mgmt.oob.alertLow then emit (.alertPin false) s1 else s1
  let s3 := if s2.chip.tripped then emit (.thermTrip false) s2 else s2
  clearCore { s3 with chip.tripped := false }

/-- A device reset may begin: the core rails are in range, and after a thermal trip 10 s have passed (R493, R527). -/
def resetBegins (s : State) : Bool :=
  !s.chip.railsOut && !inDeviceReset s && (!s.chip.tripped || s.since s.chip.trippedAt (10 * oneSec))

/-- RESET_N_ASSERT (R467, R468): a reset already under way by a command form lasts while either holds. -/
def execResetNAssert (dt : Time) (s : State) : Host.Outcome State Fault Refusal :=
  run dt true (fun s =>
    let s1 := if resetBegins s then deviceReset s else s
    { s1 with chip.resetPin := true }) s

/-- A command form of device reset, which lasts 10 µs (R468). -/
def commandReset (s : State) : State :=
  if resetBegins s then { deviceReset s with chip.resetUntil := some (s.now + 10 * us) }
  else if inDeviceReset s then { s with chip.resetUntil := some (s.now + 10 * us) }
  else s

def execI3cTargetReset (dt : Time) (s : State) : Host.Outcome State Fault Refusal := run dt true commandReset s

/-- FATAL_AUTO_RESET: 10 ms after a C4 while FATAL_RESET is 1 (R319). -/
def execFatalAutoReset (dt : Time) (s : State) : Host.Outcome State Fault Refusal :=
  run dt true (fun s =>
    if s.errs.c4 && rb (s.cfg 0x58 0 0) 31 && s.since s.errs.c4At (10 * ms) then commandReset s else s) s

/-- RESET_N_RELEASE: the device reset ends when neither RESET_N nor a command form holds it, and boot starts (R470). -/
def execResetNRelease (dt : Time) (s : State) : Host.Outcome State Fault Refusal :=
  run dt true (fun s =>
    let cleared : Option Time := match s.chip.resetUntil with
      | some t => if t ≤ s.now then none else some t
      | none => none
    let was := inDeviceReset s
    let s1 : State := { s with chip.resetPin := false, chip.resetUntil := cleared }
    if was && !inDeviceReset s1 then { s1 with chip.booting := true, chip.bootAt := s1.now } else s1) s

/-- The core-side dies start as at power-on (R527): volatile state of a device reset and, beyond it, the counters, the log,
the coefficient store, retired lanes, the repairs and the clock outputs; a reference has to show again that it is usable (assumption
144). REFSEL, CORE_SSC and IO_SLEW are sampled (R532). What TANDEM_SET has set stays, as over a device reset (assumption 41). -/
def coldCore (s : State) : State :=
  let c := clearCore s
  { c with
    chip.tripped := false
    chip.resetUntil := none
    chip.refselStrap := s.chip.straps.refsel
    chip.coreSsc := s.chip.straps.coreSsc
    chip.ioSlew := s.chip.straps.ioSlew
    chip.refSel := s.chip.straps.refsel
    chip.refALost := true
    chip.refBLost := true
    chip.holdover := false
    chip.coldBoot := true
    hub := {}
    lanes := {}
    spokes.spoke := (s.spokes.spoke.filter fun e => e.2.cadence).map fun e => (e.1, { cadence := true })
    errs := {}
    count := { testDate := s.count.testDate, screen := s.count.screen, bscanPass := s.count.bscanPass
               scanPass := s.count.scanPass, bistPass := s.count.bistPass, bistSingle := s.count.bistSingle }
    sec.scan := false
    aging.spares := [] }

/-- The CAD_TX outputs that run stop. -/
def stopCad (s : State) : State := forAll s.lanes.cadTx (fun i => emit (.cadTx (i % 40 / 2) (i % 2) false false 0)) s

/-- POWER_ON: the whole part, the slot power die included. What is fused or kept in flash and in the wear store stays. -/
def execPowerOn (dt : Time) (s : State) : Host.Outcome State Fault Refusal :=
  run dt true (fun s =>
    let s1 := coldCore (stopCad s)
    { s1 with
      chip.resetPin := false
      chip.railsOut := false
      slot := { chan := (s.slot.chan.filter fun e => e.2.present).map fun e => (e.1, { present := true })
                startedAt := s.now } }) s

/-- CORE_RAIL_DIP: the core die and the I/O dies are held in reset (R527). -/
def execCoreRailDip (dt : Time) (s : State) : Host.Outcome State Fault Refusal :=
  run dt true (fun s => if s.chip.railsOut then s else
    let s1 := coldCore (stopCad s)
    { s1 with chip.railsOut := true, chip.railAt := s.now }) s

/-- CORE_RAIL_RETURN: back in range for 1 ms, they start as at power-on (R527). -/
def execCoreRailReturn (dt : Time) (s : State) : Host.Outcome State Fault Refusal :=
  run dt true (fun s =>
    if s.chip.railsOut then { s with chip.railsOut := false, chip.booting := true, chip.bootAt := s.now, ft := {} } else s) s

/-! MC restart (R24, R358, R370). -/

/-- An MC restart begins: every BUSY mailbox completes RESTARTING, a message's answer following with EXECUTED from the journal once the
restart has finished; RESTARTED sets in every partition mailbox, and what only the MC held is gone; the datapath runs on, and messages
assembled in the scratchpad stay. -/
def mcRestart (cause : Nat) (s : State) : State :=
  let busy := (s.mgmt.mailbox.filter fun e => e.2.state == 1).map (·.1)
  let s0 := forAll busy (fun m s => modMb m (fun x => { x with owed := true }) (cutOff m (forgetMb m s))) s
  let s1 := forAll (List.range 64) (fun p s => modMb p (fun m => { m with restarted := true }) s) s0
  let s2 := forAll (homeParts s1) (fun p s => raiseCause p 7 s) s1
  let s3 : State := { s2 with
    mgmt.serving := false
    mgmt.restartAt := some s2.now
    mgmt.restartCause := cause
    conf.sealing := false
    fw.busy := none
    fw.restarts := s2.fw.restarts + b2n (cause == 1)
    aging.running := false
    aging.notices := []
    aging.retrain := []
    count.bw := [] }
  count1 (cDev cdRestarts) (deviceRecord 0x0901 0 0 0 s3)

/-- The MC's firmware runs: no reset, no trip, boot complete, no restart under way, and not the boot ROM alone (R358, R440). -/
def mcRuns (s : State) : Bool :=
  corePowered s && !inDeviceReset s && !s.chip.booting && s.mgmt.restartAt.isNone && !s.chip.romRecovery

/-- WATCHDOG_EXPIRY: unserviced for 1 s (R358). Cause 1. -/
def execWatchdogExpiry (dt : Time) (s : State) : Host.Outcome State Fault Refusal :=
  run dt true (fun s => if mcRuns s then mcRestart 1 s else s) s

/-- FIRMWARE_RESTART_REQUEST (R358). Cause 2; 3 is an activation. -/
def execFirmwareRestartRequest (dt : Time) (s : State) : Host.Outcome State Fault Refusal :=
  run dt true (fun s => if mcRuns s then mcRestart 2 s else s) s

/-! C4 (R319). -/

/-- A spoke goes down with the device: one that is up loses its link, an attempt under way ends, and none follows. -/
def endSpoke (k : Nat) (s : State) : State :=
  let up := spokeUp s k
  let s1 := modSpoke k (fun x => { clearLink 0 x with nextTry := none }) s
  if up then count1 (cPort (spokePort s k) 15) (modStime k (fun x => { x with inPlumb := false, locked := false, t1 := none })
    (clearEyes (List.range' (8 * k) 8) s1))
  else s1

/-- A device-fatal error, in the order of R319: the record, the end of switching, every spoke down, ERR_FATAL, and the alert. Frames and
cells that end here leave no records of their own. -/
def fatal (cause : Nat) (s : State) : State :=
  if inDeviceReset s || !corePowered s then s
  else
    let n := s.errs.seq
    let s1 := enterLog (devRec s cause 4 0 0) s
    if s.errs.c4 then raiseAlert (some n) s1
    else
      let s2 : State := { s1 with errs.c4 := true, errs.c4At := s1.now, hub.frames := [], spokes.ctl := [] }
      let s3 := settlePlumb (forAll ((List.range 40).filter fun k => (s2.spoke k).state != 0) endSpoke s2)
      raiseAlert (some n) (forAll ((homeParts s3).filter fun p => match primaryUp s3 p with
          | some u => (s3.port u).up
          | none => false) (fun p => func0Msg p .errFatal) s3)

/-- An uncorrectable error on the die-to-die interface (R314). -/
def execD2dUncorrectable (dt : Time) (s : State) : Host.Outcome State Fault Refusal := run dt true (fatal 0x0B03) s

/-- The root PLL loses lock (R314). -/
def execRootPllUnlock (dt : Time) (s : State) : Host.Outcome State Fault Refusal := run dt true (fatal 0x0B03) s

/-- THERMAL_TRIP (R493, R538): the core die is off, THERMTRIP_N is low, and the slot power die sets its trip flag. -/
def execThermalTrip (dt : Time) (s : State) : Host.Outcome State Fault Refusal :=
  run dt true (fun s =>
    if s.chip.tripped || s.chip.railsOut then s
    else
      let s1 := emit (.thermTrip true) (if s.mgmt.oob.alertLow then emit (.alertPin false) s else s)
      { clearCore s1 with chip.tripped := true, chip.trippedAt := s.now, slot.tripFlag := true }) s

end Sys2Proof.Machine
end

