-- ==== Sys2Proof/Machine/Pcie.lean ====
section
/-! DEFINITION. PCIe ports and functions: link events, errors and containment of a port, interrupts, configuration requests,
power management, and the registers of the functions' BARs (chapter 5, R314 to R318, R362 to R366, Table 9.3). -/

namespace Sys2Proof.Machine

/-! Containment of a port (R317, R318, Table 10.5). -/

/-- A port of the partition whose link the part may train: an enabled PCIe port. -/
def pciePort (s : State) (p : Nat) : Bool := portEn s p && (portSpoke s p).isNone

/-- DPC triggers on a downstream port: frames are flushed, the link goes down, the port takes its port reset and stays
contained. `reason`: DPC Trigger Reason, and four times its extension (R318). -/
def dpcTrigger (p reason : Nat) (s : State) : State :=
  if (s.port p).dpcTriggered then s
  else
    let held := (s.port p).contained
    let mark := modPort p fun q => { q with dpcTriggered := true, dpcReason := reason, contained := held }
    let s1 := flushPort p .port (linkDown p (mark s))
    settleInt p (count1 (cPort p 20) (mark (portReset p false s1)))

/-- A port is contained: a downstream port with DPC enabled by a DPC software trigger, another downstream port with its link
down and its frames flushed, an upstream port with its frames flushed; its semaphore is released (Tables 2.11, 7.10 and 10.5). -/
def containPort (p : Nat) (s : State) : State :=
  let s1 := modPort p (fun q => { q with contained := true }) s
  if portUp s p then releasePortSem p (emptyPort p .port s1)
  else if (s.port p).dpcEnable then dpcTrigger p 7 s1
  else releasePortSem p (emptyPort p .port (linkDown p s1))

/-! Link events (R154, R157, R160, R162, R163). -/

/-- The rate a port may train to: its TARGET_RATE or the overlay's (R482). -/
def targetRate (s : State) (p : Nat) : Nat := (tfind s.aging.overlay.rates p).getD (rf (portRec s p) 47 45)

/-- Some condition keeps a port's link in Detect: PERSTIN_N, DPC, boot, C4, a loop-back. -/
def linkHeld (s : State) (p : Nat) : Bool :=
  (s.part (portPart s p)).perst || (s.port p).dpcTriggered || s.errs.c4 || s.chip.booting || inDeviceReset s || !corePowered s ||
    loopHolds s p

/-- The width a link trains to: the widest of the standard's that is not above the one reached nor the one configured (R106). -/
def linkWidth (reached configured : Nat) : Nat :=
  ([16, 8, 4, 2, 1].find? fun w => decide (w ≤ min reached configured)).getD 0

/-- The settings a lane trains to: those found; at a first training without any, receive settings at mid-range (assumption 125); pre-2 and
post-2 at 0 (R110, R111). A link that has been up goes on from its present taps (R113). -/
def trainedCoef (first : Bool) (found : Option Coef) (old : Coef) : Coef := match found with
  | some c => if first then c else { c with dfe := old.dfe }
  | none => if first then midRange (pcieCoef old) else pcieCoef old

/-- The lanes of a link take what its training has found, which the port keeps for the rate when the rate has an equalisation procedure
(8 GT/s and up); without it, what it keeps (R110, R111, R129). -/
def equalise (first : Bool) (p rate : Nat) (eq : List Coef) (s : State) : State :=
  let s1 := if eq.isEmpty || decide (rate < 2) then s
    else modAux p (fun a => { a with eqSaved := tput a.eqSaved rate (eq.map pcieCoef) }) s
  let use := if rate < 2 then eq.map pcieCoef else (tfind (s1.aux p).eqSaved rate).getD []
  let lane0 := (portLanes s1 p).headD 0
  forAll (linkLanes s1 p) (fun l => modLane l fun x => { x with coef := trainedCoef first use[l - lane0]? x.coef }) s1

/-- Training has detected the polarity of the port's lanes (R117). -/
def notePolarity (p inverted : Nat) (s : State) : State :=
  forAll ((portLanes s p).zipIdx) (fun x => modLane x.1 (fun l => { l with rxInv := bit inverted x.2 })) s

/-- DL_UP. The link trains to its configured width and rate or below (R106, R117, R129). -/
def dlUp (p width rate : Nat) (x : LinkResult) (s : State) : State :=
  let w := linkWidth width (portWidth s p)
  if !pciePort s p || (s.port p).up || linkHeld s p || w == 0 then s
  else
    let part := portPart s p
    let r := min rate (targetRate s p)
    let s1 := modPort p (fun q => { q with
      up := true, recovery := false, width := w, rate := r, reversed := x.reversed, contained := (s.part part).contained }) s
    let s2 := noteStatus p (fun a => { a with dllChanged := true })
      (count1 (cPort p 14) (equalise true p r x.eq (notePolarity p x.inverted s1)))
    let s3 := if portHp s p && !portUp s p then
        emit (.message p (.setSlotPowerLimit (rf (portRec s p) 11 4) (rf (portRec s p) 13 12))) s2
      else s2
    if primaryUp s3 part = some p && (s3.part part).inReset then partReleased part s3 else s3

def execDlUp (dt : Time) (port width rate : Nat) (r : LinkResult) (s : State) : Host.Outcome State Fault Refusal :=
  run dt (okPort port) (dlUp port width rate r) s

/-- LINK_RECOVERY_ENTRY (R152). -/
def execLinkRecoveryEntry (dt : Time) (port : Nat) (s : State) : Host.Outcome State Fault Refusal :=
  run dt (okPort port) (fun s =>
    if (s.port port).up && !(s.port port).recovery then
      count1 (cPort port 16) (modPort port (fun q => { q with recovery := true }) s)
    else s) s

/-- The held messages leave a pin asserted: the last of them that names it is an Assert. -/
def leavesAsserted (ms : List MsgKind) (x : Nat) : Bool :=
  (ms.foldl (fun (b : Bool) m => if m == .assertIntx x then true else if m == .deassertIntx x then false else b) false)

/-- LINK_RECOVERY_EXIT: the link may have changed its rate, with the equalisation of that rate (R129); held messages leave in order; on
the primary upstream port every asserted collapsed wire that they do not leave asserted is sent again (R147, R152). -/
def recoveryExit (p rate : Nat) (eq : List Coef) (s : State) : State :=
  if !(s.port p).recovery then s
  else
    let ms := (s.aux p).heldMsgs
    let r := min rate (targetRate s p)
    let s1 := equalise false p r eq (modPort p (fun q => { q with recovery := false, rate := r })
      (modAux p (fun a => { a with heldMsgs := [] }) s))
    let s2 := forAll ms (fun m => emit (.message p m)) s1
    if portUp s p && portVsw s p == 0 then
      forAll ((onesBelow (s.aux p).collapsed 4).filter fun x => !leavesAsserted ms x) (fun x => emit (.message p (.assertIntx x))) s2
    else s2

def execLinkRecoveryExit (dt : Time) (port rate : Nat) (eq : List Coef) (s : State) : Host.Outcome State Fault Refusal :=
  run dt (okPort port) (recoveryExit port rate eq) s

/-! Errors of a port (R314): AER of its bridge, as the standard has it (assumption 130). -/

/-- A correctable error, by its bit in the status register: recorded, and ERR_COR unless masked. -/
def portCorrectable (p bit' : Nat) (s : State) : State :=
  if !pciePort s p then s
  else
    let s1 := count1 (cPort p 18) (record [portPart s p] { devRec s 0x0101 0 0 0 with srcPort := p }
      (modAux p (fun a => { a with aerCor := setBit a.aerCor (bit' % 32) }) s))
    if bit (s.aux p).corMask (bit' % 32) || !bit (s.port p).errEn 0 then s1 else bridgeSends p .errCor s1

def execPcieCorrectableError (dt : Time) (port error : Nat) (s : State) : Host.Outcome State Fault Refusal :=
  run dt (okPort port) (portCorrectable port error) s

/-- An uncorrectable error is in the status register of a bridge; unless masked and enabled, the message of its severity leaves (R325). -/
def aerSignal (p b : Nat) (s : State) : State :=
  let fatal := bit (s.aux p).uncSev b
  let s1 := modAux p (fun a => { a with aerUnc := setBit a.aerUnc b }) s
  if !bit (s.aux p).uncMask b && bit (s.port p).errEn (if fatal then 2 else 1) then
    bridgeSends p (if fatal then .errFatal else .errNonFatal) s1
  else s1

/-- An uncorrectable error that has been recorded: unless masked, DPC on a downstream port that enables it, else the message. -/
def signalUncorrectable (p b : Nat) (s : State) : State :=
  if !bit (s.aux p).uncMask b && !portUp s p && (s.port p).dpcEnable then
    dpcTrigger p 0 (modAux p (fun a => { a with aerUnc := setBit a.aerUnc b }) s)
  else aerSignal p b s

/-- An uncorrectable error, by its bit in the status register (R314). -/
def portUncorrectable (p bit' : Nat) (s : State) : State :=
  if !pciePort s p then s
  else signalUncorrectable p (bit' % 32) (count1 (cPort p 19) (record [portPart s p] { devRec s 0x0102 2 0 0 with srcPort := p } s))

/-- The bit of Surprise Down in the uncorrectable status register. -/
def surpriseBit : Nat := 5

/-- A downstream link has gone down (R163, R314, R325): SURPRISE_DOWN, then DPC, or the flush of a link that is down and the message. -/
def surpriseDown (p : Nat) (s : State) : State :=
  let s1 := record [portPart s p] { devRec s 0x0103 2 0 0 with srcPort := p } s
  if (s1.port p).dpcEnable then dpcTrigger p 0 (modAux p (fun a => { a with aerUnc := setBit a.aerUnc surpriseBit }) s1)
  else aerSignal p surpriseBit (releasePortSem p (flushPort p .linkDown (linkDown p s1)))

def execDownstreamDlDown (dt : Time) (port : Nat) (s : State) : Host.Outcome State Fault Refusal :=
  run dt (okPort port) (fun s =>
    if pciePort s port && !portUp s port && (s.port port).up then surpriseDown port s else s) s

def execPcieUncorrectableError (dt : Time) (port error : Nat) (s : State) : Host.Outcome State Fault Refusal :=
  run dt (okPort port) (portUncorrectable port error) s

/-! TLPs at a port: the checks of its bridge come first (Table 5.1). -/

/-- The bit of an ECRC error and of an ACS violation in the uncorrectable status register. -/
def ecrcBit : Nat := 19
def acsBit : Nat := 21

/-- A TLP at a port: where checking is enabled a wrong ECRC is an uncorrectable error; an ACS violation is one that blocks the TLP, with
Completer Abort for a non-posted request. What remains goes on. -/
def checkTlp (p : Nat) (t : Tlp) (f : State → State) (s : State) : State :=
  if !pciePort s p || s.errs.c4 then f s
  else
    let s1 := onlyIf ((s.port p).ecrcCheck && t.ecrc == 2) (portUncorrectable p ecrcBit) s
    if acsViolates s1 p t then
      let s2 := emit (.pcieCredit p (streamOf t.kind) (ceilDiv t.payload 16)) s1
      portUncorrectable p acsBit (onlyIf (isNp t.kind) (sendCpl p t.rid t.tag .ca) s2)
    else if (s1.port p).dpcTriggered && !(s.port p).dpcTriggered then s1
    else f s1

def execPcieTlpReceived (dt : Time) (port : Nat) (t : Tlp) (s : State) : Host.Outcome State Fault Refusal :=
  run dt (okPort port) (checkTlp port t (tlpReceived port t)) s

def execMrdlkArrival (dt : Time) (port : Nat) (t : Tlp) (s : State) : Host.Outcome State Fault Refusal :=
  run dt (okPort port) (checkTlp port { t with kind := .memReadLocked } fun s =>
    if s.errs.c4 then c4Answer port t s else if portEn s port then mrdlk port t s else s) s

/-- DPC_STATUS_CLEAR: the port's containment is released; that of its partition stays (R317). -/
def execDpcStatusClear (dt : Time) (port : Nat) (s : State) : Host.Outcome State Fault Refusal :=
  run dt (okPort port) (fun s =>
    if (s.port port).dpcTriggered then
      settleInt port (modPort port (fun q => { q with
        dpcTriggered := false, dpcReason := 0, contained := (s.part (portPart s port)).contained }) s)
    else s) s

/-! Interrupts (R146 to R150, R365). -/

def execIntxMessageReceived (dt : Time) (port pin : Nat) (assert : Bool) (s : State) : Host.Outcome State Fault Refusal :=
  run dt (okPort port && okPin pin) (wireMessage port pin assert) s

/-- A write of 1 clears bits of INT_STATUS. -/
def clearStatus (p : Nat) (v : BitVec 32) (s : State) : State :=
  updateLevel p (modPart p (fun q => { q with intStatus := q.intStatus &&& ~~~ v }) s)

def execIntStatusWrite (dt : Time) (p : Nat) (v : BitVec 32) (s : State) : Host.Outcome State Fault Refusal :=
  run dt (okPart p) (clearStatus p v) s

/-- INT_MASK takes the bits that are not reserved; a mask bit newly set over a set cause sends its message. -/
def writeMask (p : Nat) (w : BitVec 32) (s : State) : State :=
  let q := s.part p
  let v := w &&& 0xFF
  let s1 := modPart p (fun q => { q with intMask := v }) s
  let due := (List.range 32).filter fun i => v.getLsbD i && !q.intMask.getLsbD i && q.intStatus.getLsbD i
  updateLevel p (if q.msixEnable then forAll due (sendCauseMsix p) s1 else s1)

def execIntMaskWrite (dt : Time) (p : Nat) (v : BitVec 32) (s : State) : Host.Outcome State Fault Refusal :=
  run dt (okPart p) (writeMask p v) s

def execMsixEnableWrite (dt : Time) (p : Nat) (on : Bool) (s : State) : Host.Outcome State Fault Refusal :=
  run dt (okPart p) (fun s => updateLevel p (modPart p (fun q => { q with msixEnable := on }) s)) s

def execInterruptDisableWrite (dt : Time) (p : Nat) (on : Bool) (s : State) : Host.Outcome State Fault Refusal :=
  run dt (okPart p) (fun s => updateLevel p (modPart p (fun q => { q with intDisable := on }) s)) s

/-! Configuration requests (R139 to R143, R162, R213, R249). -/

/-- The devices other than this one that hold ports of a partition. -/
def rangeDevs (s : State) (part : Nat) : List Nat :=
  ((s.conf.entries.filter fun e => e.dev != s.dev && e.typ == 0x04 && rb e.data 63 && rf e.data 61 56 == part).map
    (·.dev)).eraseDups

/-- RANGE_SYNC of a bridge: both memory ranges read empty while its Memory Space Enable is 0 (R249, Table 7.9). -/
def rangePayload (s : State) (p : Nat) : List Nat :=
  let q := s.port p
  [portPart s p, s.dev, p, q.sec, q.subBus] ++
    if q.memEnable then [q.memBase, q.memLimit, q.prefBase, q.prefLimit] else [1, 0, 1, 0]

def sendRanges (p : Nat) (s : State) : State :=
  forAll (rangeDevs s (portPart s p)) (fun d => post (.mgmt d 0x0301 (rangePayload s p))) s

/-- A write of a bridge's register. -/
def bridgeWrite (w : CfgWrite) (q : Port) : Port :=
  match w with
  | .busNumbers a b => { q with sec := a % 256, subBus := b % 256 }
  | .memRange b l => { q with memBase := b, memLimit := l }
  | .prefRange b l => { q with prefBase := b, prefLimit := l }
  | .ioRange b l => { q with ioBase := b, ioLimit := l }
  | .memSpaceEnable on => { q with memEnable := on }
  | .maxPayload n => { q with mps := n }
  | .maxReadReq n => { q with mrrs := n }
  | .dpc e u => { q with dpcEnable := e, dpcUr := u }
  | .atomicEgressBlocking on => { q with atomicBlock := on }
  | .poisonEgressBlocking on => { q with poisonBlock := on }
  | .dpcInterrupt on => { q with dpcInt := on }
  | .ioSpaceEnable on => { q with ioEnable := on }
  | .interruptDisable on => { q with intOff := on }
  | .slotControl e => { q with slotInt := e }
  | .errReporting e => { q with errEn := e }
  | .acs c v => { q with acs := c, acsVec := v }
  | .ecrcCheck on => { q with ecrcCheck := on }
  | .ariForwarding on => { q with ari := on }
  | .ptmEnable on => { q with ptm := on }
  | .corrInternalMask _ | .bar _ _ | .dpcSoftwareTrigger | .slotStatus _ | .aerStatus _ _ | .aerMasks _ _ _ => q
  | .other r v => { q with regs := tput q.regs r v }

/-- Ones clear status bits. -/
def clearOnes (old ones : Nat) : Nat := old &&& (ones ^^^ (2 ^ 32 - 1))

/-- A write of a bridge's status and AER registers: ones clear status bits. -/
def bridgeAuxWrite (w : CfgWrite) (a : PortAux) : PortAux :=
  match w with
  | .slotStatus v => { a with
      powerFault := a.powerFault && !bit v 1, presenceChanged := a.presenceChanged && !bit v 3
      cmdDone := a.cmdDone && !bit v 4, dllChanged := a.dllChanged && !bit v 8 }
  | .aerStatus c u => { a with aerCor := clearOnes a.aerCor c, aerUnc := clearOnes a.aerUnc u }
  | .aerMasks c u v => { a with corMask := c, uncMask := u, uncSev := v }
  | _ => a

/-- A write that an upstream bridge has no register for: ACS, ARI Forwarding, DPC, poisoned TLP egress blocking and the slot stand at
downstream ports alone (Table 5.1, R316). -/
def downstreamOnly : CfgWrite → Bool
  | .acs _ _ | .ariForwarding _ | .dpc _ _ | .dpcInterrupt _ | .dpcSoftwareTrigger | .poisonEgressBlocking _ | .slotControl _
  | .slotStatus _ => true
  | _ => false

/-- What RANGE_SYNC tells of a bridge. -/
def rangesOf (q : Port) : List Nat :=
  [q.sec, q.subBus, q.memBase, q.memLimit, q.prefBase, q.prefLimit, b2n q.memEnable]

/-- A write to a bridge of this device; a change of its buses or ranges is told to the other devices before the completion, and the DPC
software trigger of a port that enables DPC triggers it (R318). -/
def bridgeConfig (p : Nat) (w : CfgWrite) (s : State) : State :=
  if portUp s p && downstreamOnly w then s
  else if w == .dpcSoftwareTrigger then (if (s.port p).dpcEnable then dpcTrigger p 7 s else s)
  else
  let s1 := settleInt p (modAux p (bridgeAuxWrite w) (modPort p (bridgeWrite w) s))
  let s2 := onlyIf (primaryUp s (portPart s p) == some p && (s.port p).sec == 0 && (s1.port p).sec != 0) (wakeMover (portPart s p)) s1
  if rangesOf (s1.port p) = rangesOf (s.port p) then s2 else sendRanges p s2

/-- The numbers of a truth value. -/
def flags (bs : List Bool) : List Nat := bs.map b2n

/-- The identity of a function (Table 5.5). -/
def identity (dev cls header sub : Nat) : List Nat := [0x1F6C, dev, 0xB1, cls, header, 0x1F6C, sub]

/-- Key of a register of which the manual states no reset value: bridges first, then the functions of the partitions. -/
def bridgeKey (p r : Nat) : Nat := p + 2 ^ 16 * r
def functionKey (part fn r : Nat) : Nat := 2 ^ 8 + part + 2 ^ 16 * r + 2 ^ 80 * fn

/-- Slot Implemented and Slot Capabilities of a port (Table 5.7, R153). -/
def slotCaps (s : State) (p : Nat) : List Nat :=
  if !portHp s p then List.replicate 13 0
  else
    let r := portRec s p
    [1, 0, 1, 0, 0, 0, rf r 27 27, 1, rf r 11 4, rf r 13 12, 0, 0, rf r 26 14]

/-- What a configuration register of a bridge reads (R142, R150, R153 to R157). The interrupt of a bridge is INTA (assumption 131). -/
def bridgeRead (s : State) (p : Nat) (r : CfgReg) : List Nat :=
  let q := s.port p
  let a := s.aux p
  match r with
  | .identity => identity (if portUp s p then 0x3200 else 0x3201) 0x06_0400 1 (Config.cfgReset (bridgeKey p 0))
  | .command => flags [q.memEnable, q.ioEnable, q.intOff]
  | .interruptPin => [1]
  | .busNumbers => [q.sec, q.subBus]
  | .memRange => [q.memBase, q.memLimit]
  | .prefRange => [q.prefBase, q.prefLimit]
  | .ioRange => [q.ioBase, q.ioLimit]
  | .deviceControl => [q.mps, q.mrrs, q.errEn]
  | .slotCapabilities => slotCaps s p
  | .slotControl => [q.slotInt, b2n a.powerOff]
  | .slotStatus => flags [a.powerFault, a.presenceChanged, a.cmdDone, a.presence, a.dllChanged]
  | .linkStatus => [b2n q.up, q.width, q.rate]
  | .dpc => if portUp s p then [] else flags [q.dpcEnable, q.dpcUr, q.dpcInt, q.dpcTriggered] ++ [q.dpcReason]
  | .aer => [a.aerCor, a.corMask, a.aerUnc, a.uncMask, a.uncSev]
  | .acs => if portUp s p then [] else [q.acs, q.acsVec]
  | .controls => flags [q.atomicBlock, q.poisonBlock, q.ecrcCheck, q.ari, q.ptm]
  | .margin l =>
    let x := s.lane ((portLanes s p).getD l 0)
    [b2n x.margining, b2n x.margin.voltage, (x.margin.steps % 2 ^ 8).toNat, x.margin.samples, x.margin.errors]
  | .sriov | .bar _ | .msix => []
  | .other r => [(tfind q.regs r).getD (Config.cfgReset (bridgeKey p (r + 1)))]

/-- The size of a function's BAR0, and of a VF's (R279, R362). -/
def barSize (fn : Nat) : Nat := if fn = 0 then 2 ^ 24 else 2 ^ 16

/-- What a memory BAR of 64 bits that is not prefetchable shows below its base. -/
def bar64 : Nat := 4

/-- A write of a register of function 0 or 1, or of a VF, of which the rules give none a behaviour. The severity of function 0's
Uncorrectable Internal Error is non-fatal and read-only (R325). -/
def functionWrite (fn : Nat) (w : CfgWrite) (q : Part) : Part :=
  match w with
  | .other r v => { q with regs := tput q.regs (65536 * fn + r % 65536) v }
  | .aerStatus c u => modAer fn (fun a => { a with cor := clearOnes a.cor c, unc := clearOnes a.unc u }) q
  | .aerMasks c u v => modAer fn (fun a => { a with corMask := c, uncMask := u, uncSev := v }) q
  | .errReporting e => modAer fn (fun a => { a with errEn := e % 8 }) q
  | w => if 2 ≤ fn then q else match w with
  | .memSpaceEnable on => { q with memEn := putBit q.memEn fn on }
  | .maxPayload n => if fn = 0 then { q with mps0 := n } else { q with mps1 := n }
  | .maxReadReq n => if fn = 0 then { q with mrrs0 := n } else { q with mrrs1 := n }
  | .corrInternalMask on => if fn = 0 then modAer 0 (fun a => { a with corMask := putBit a.corMask corrBit on }) q else q
  | .bar vf b => { q with bars := tset 0 q.bars (if fn = 0 then 0 else if vf then 2 else 1) (b % 2 ^ 64 / barSize fn * barSize fn) }
  | .interruptDisable on => if fn = 0 then { q with intDisable := on } else q
  | _ => q

/-- What a configuration register of function 0, function 1 or, from 2 on, a VF reads (R142, R143, R146, R149). -/
def functionRead (s : State) (part fn : Nat) (r : CfgReg) : List Nat :=
  let q := s.part part
  let vfs := (assignedVfs s part).length
  let e := fnAer q fn
  let dev := 0x3210 + min fn 2
  match r with
  | .identity => identity dev (if fn = 0 then 0x08_8000 else 0x12_0000) 0 dev
  | .command => [b2n (if fn < 2 then bit q.memEn fn else q.vfEnable), 0, b2n (fn == 0 && q.intDisable)]
  | .interruptPin => [b2n (fn == 0)]
  | .deviceControl => if fn = 0 then [q.mps0, q.mrrs0, e.errEn] else [q.mps1, q.mrrs1, e.errEn]
  | .sriov => if fn = 1 then [b2n q.vfEnable, q.numVfs, vfs, vfs, 255, 1, 0x3212] else []
  | .bar vf => if fn < 2 then [tget 0 q.bars (if fn = 0 then 0 else if vf then 2 else 1) + bar64] else []
  | .msix => if fn = 0 then [64, b2n q.msixEnable] else [2, 1]
  | .aer => [e.cor, e.corMask, e.unc, e.uncMask, if fn = 0 then clrBit e.uncSev uncorrBit else e.uncSev]
  | .other r => [(tfind q.regs (65536 * fn + r % 65536)).getD (Config.cfgReset (functionKey part fn (r % 65536)))]
  | _ => []

/-- The partition's functions answer Request Retry Status: in reset, or not ready yet (R162). -/
def notReady (s : State) (p : Nat) : Bool :=
  (s.part p).inReset || match (s.part p).readyAt with
    | some t => !(s.part p).ready && decide (s.now < t)
    | none => false

/-- The remote entry of a device number on a virtual switch's internal bus (R140). -/
def remoteEntry (s : State) (part vsw d : Nat) : Option (Nat × Nat) :=
  ((List.range 31).map fun i => s.cfg 0x11 part i).findSome? fun e =>
    if rb e 31 && rf e 12 11 == vsw && rf e 17 13 == d then some (rf e 30 25, rf e 24 18) else none

/-- A configuration request completes: a read with its data, a write without. -/
def cfgCpl (u rid tag : Nat) (x : CfgAccess) (vs : List Nat) (s : State) : State :=
  match x with
  | .read _ => emit (.completion u rid tag .sc 4) (emit (.cfgData u rid tag vs) s)
  | .write _ => sendCpl u rid tag .sc s

/-- A function of the partition answers: with Request Retry Status until the partition is ready (R162, Table 5.5). -/
def functionAnswers (u rid tag : Nat) (x : CfgAccess) (rd : State → CfgReg → List Nat) (wr : CfgWrite → State → State) (s : State) :
    State :=
  if notReady s (portPart s u) then sendCpl u rid tag .crs s
  else match x with
    | .read r => cfgCpl u rid tag x (rd s r) s
    | .write w => cfgCpl u rid tag x [] (wr w s)

/-- A request to a bridge of this device. -/
def bridgeAnswers (u rid tag q : Nat) (x : CfgAccess) (s : State) : State :=
  functionAnswers u rid tag x (fun s r => bridgeRead s q r) (bridgeConfig q) s

/-- A request to function 0, function 1 or a VF of the partition. -/
def functionAccess (u rid tag fn : Nat) (x : CfgAccess) (s : State) : State :=
  let part := portPart s u
  functionAnswers u rid tag x (fun s r => functionRead s part fn r) (fun w => modPart part (functionWrite fn w)) s

/-- A configuration request on the internal bus of an upstream port's virtual switch. -/
def internalBus (u rid tag d fn : Nat) (t : Tlp) (x : CfgAccess) (s : State) : State :=
  let part := portPart s u
  let v := portVsw s u
  if d = 0 then
    if v = 0 ∧ fn < 2 then functionAccess u rid tag fn x s else sendCpl u rid tag .ur s
  else if fn ≠ 0 then sendCpl u rid tag .ur s
  else match (vswDown s part v).find? fun q => portDevNum s q == d with
    | some q => bridgeAnswers u rid tag q x s
    | none => match remoteEntry s part v d with
      | some (rd, rp) =>
        if notReady s part then sendCpl u rid tag .crs s
        else if routeEn s rd then
          if routeDead s rd then lostRead (.pcie u) t rd rp s
          else newFrame { freshFrame s t t (portStation s u) part (svcOf s u 0) u rd rp none with fixed := true } s
        else sendCpl u rid tag .ur s
      | none => sendCpl u rid tag .ur s

/-- The tunnelled request to a bridge here of a partition at home elsewhere; its completion returns there (R140). -/
def tunnelledConfig (p rid tag fn : Nat) (x : CfgAccess) (s : State) : State :=
  let part := portPart s p
  let answer (st : CplStatus) (vs : List Nat) (s : State) : State := post (.farCpl (partHome s part) part (svcOf s p 0) rid tag st vs) s
  if fn ≠ 0 then answer .ur [] s
  else match x with
    | .read r => answer .sc (bridgeRead s p r) s
    | .write w => answer .sc [] (bridgeConfig p w s)

/-- CONFIG_REQUEST. On an upstream port it comes from the host: for the port's own bridge, for its internal bus, for the
partition's VFs, or for a bus below. On a downstream port of a partition at home elsewhere it is the tunnelled request to
that bridge. -/
def configRequest (p rid tag bus dev fn : Nat) (x : CfgAccess) (s : State) : State :=
  if !pciePort s p then s
  else
    let part := portPart s p
    let q := s.port p
    let id := bus * 256 + dev * 8 + fn
    let kind : TlpKind := match x with
      | .read _ => .cfgRead
      | .write _ => .cfgWrite
    let t : Tlp := { kind := kind, rid := rid, tag := tag, targetId := id, len := 4 }
    if s.errs.c4 then sendCpl p rid tag .ur s
    else if !portUp s p then
      if partHome s part = s.dev then sendCpl p rid tag .ur s else tunnelledConfig p rid tag fn x s
    else if q.sec != 0 && bus == q.sec then internalBus p rid tag dev fn t x s
    else if q.sec != 0 && decide (q.sec < bus) && decide (bus ≤ q.subBus) then
      match vfOfRid s part id with
      | some v =>
        if (s.part part).vfEnable && decide (id < q.sec * 256 + 256 + (s.part part).numVfs) && portVsw s p == 0 then
          functionAccess p rid tag (2 + v) x s
        else if notReady s part then sendCpl p rid tag .crs s
        else sendCpl p rid tag .ur s
      | none => admitTlp p t s
    else if dev = 0 ∧ fn = 0 then bridgeAnswers p rid tag p x s
    else sendCpl p rid tag .ur s

/-- A configuration request comes from the link of a port: from the host, or from below; that of a bridge of a partition at home elsewhere
has come over a spoke. -/
def cfgFromLink (s : State) (p : Nat) : Bool := pciePort s p && (portUp s p || partHome s (portPart s p) == s.dev)

/-- A configuration request of a link takes effect in its turn in the non-posted stream (R41), and not while the tables stand still (R313). -/
def takeConfig (a : CfgAsk) (s : State) : State :=
  let s' := configRequest a.port a.rid a.tag a.bus a.dev a.fn a.access s
  let t : Tlp := {
    kind := match a.access with
      | .read _ => .cfgRead
      | .write _ => .cfgWrite
    rid := a.rid, tag := a.tag, targetId := a.bus * 256 + a.dev * 8 + a.fn, len := 4 }
  if !cfgFromLink s a.port then s'
  else if s.hub.stalled || streamWaits s a.port 1 && !holdsRoom s' s.hub.nextFid then
    addWaiting { freshFrame s t t (portStation s a.port) (portPart s a.port) (svcOf s a.port 0) a.port s.dev a.port none with
      ends := some .turn, ask := some a } s
  else creditBack a.port t s.hub.nextFid s'

def execConfigRequest (dt : Time) (port rid tag bus dev fn : Nat) (x : CfgAccess) (s : State) : Host.Outcome State Fault Refusal :=
  run dt (okPort port) (takeConfig ⟨port, rid, tag, bus, dev, fn, x⟩) s

/-- What a TLP that has waited for its turn does at its port (R41). -/
def turnAct (f : Frame) (s : State) : State :=
  match f.ask with
  | some a => configRequest a.port a.rid a.tag a.bus a.dev a.fn a.access s
  | none => actTlp f.srcPort f.tlp s

def execFrameStage (dt : Time) (fid : Nat) (s : State) : Host.Outcome State Fault Refusal := run dt true (frameStage turnAct fid) s

/-- FRAME_REASSEMBLED: no check decides while the tables stand still (R313). -/
def execFrameReassembled (dt : Time) (fid : Nat) (s : State) : Host.Outcome State Fault Refusal :=
  run dt true (fun s => match findFrame s fid with
    | some f => if f.place == .bank && !s.hub.stalled then reassembled signalUncorrectable f s else s
    | none => s) s

/-! Slot and power management (R144, R154, Table 5.1). -/

/-- POWER_CONTROLLER_CONTROL_WRITE: a request to the slot channel (R154). -/
def execPowerControllerControlWrite (dt : Time) (port : Nat) (off : Bool) (s : State) : Host.Outcome State Fault Refusal :=
  run dt (okPort port) (fun s =>
    if pciePort s port && !portUp s port && portHp s port then
      modChanAux (portSlot s port) (fun a => { a with requests := a.requests ++ [(b2n off, none)] })
        (modAux port (fun a => { a with powerOff := off }) s)
    else s) s

def execD3hotEntry (dt : Time) (p : Nat) (s : State) : Host.Outcome State Fault Refusal :=
  run dt (okPart p) (modPart p fun q => { q with f1D3 := true }) s

def execD3hotExit (dt : Time) (p : Nat) (s : State) : Host.Outcome State Fault Refusal :=
  run dt (okPart p) (modPart p fun q => { q with f1D3 := false }) s

def execPmeTurnOff (dt : Time) (port : Nat) (s : State) : Host.Outcome State Fault Refusal :=
  run dt (okPort port) (pmeOff port) s

def execPmeToAck (dt : Time) (port : Nat) (s : State) : Host.Outcome State Fault Refusal :=
  run dt (okPort port) (pmeAck port) s

/-! Registers of the BARs (R362 to R366, Table 9.3). -/

/-- An old 64-bit value after a write of `width` bits at byte `sub` of it. -/
def merge (old : Nat) (sub width : Nat) (v : Word64) : Nat :=
  let lo := old % 2 ^ (8 * sub)
  let hi := old / 2 ^ (8 * sub + width) * 2 ^ (8 * sub + width)
  lo + v.toNat % 2 ^ width * 2 ^ (8 * sub) + hi

/-- A register access: aligned, of 32 or 64 bits. -/
def regAccess (offset width : Nat) : Bool := (width == 32 || width == 64) && offset % (width / 8) == 0

/-- An MSI-X table after a write, and the vector whose pending message may leave. -/
def msixWrite (t : Tbl Nat) (off width : Nat) (v : Word64) : Tbl Nat :=
  let k := off / 8
  let old := if k % 2 = 1 then msixData t (k / 2) else tget 0 t k
  tput t k (merge old (off % 8) width v)

/-- The payload window takes a write of any size (R362, R369). -/
def windowBytes (mb : Nat) (off : Nat) (bs : List Byte) (s : State) : State :=
  forAll ((List.range bs.length).zip bs) (fun x s =>
    let o := off + x.1
    if 4032 ≤ o then s
    else modMb mb (fun m => { m with
      window := tset 0 m.window (o / 8) (BitVec.ofNat 64 (merge (tget 0 m.window (o / 8)).toNat (o % 8) 8 (x.2.setWidth 64))) }) s) s

/-- A register of function 0. -/
def writeReg0 (p offset width : Nat) (v : Word64) (s : State) : State :=
  let low32 := v.toNat % 2 ^ 32
  if within 0x1040 0x1FFF offset then windowBytes p (offset - 0x1040) (leBytes (width / 8) v.toNat) (noteWrite p false false s)
  else if !regAccess offset width then s
  else if offset = 0x1000 ∧ width = 32 then
    if low32 = 1 then submit p (rOp (windowReq s p)) (rSeq (windowReq s p)) none s else if low32 = 2 then acknowledge p s else s
  else if offset = 0x1008 ∧ width = 64 then
    modMb p (fun m => { m with lostWrite := m.lostWrite && !v.getLsbD 60, restarted := m.restarted && !v.getLsbD 59 }) s
  else if offset = 0x100C ∧ width = 32 then
    modMb p (fun m => { m with lostWrite := m.lostWrite && !v.getLsbD 28, restarted := m.restarted && !v.getLsbD 27 }) s
  else if offset = 0x2000 ∧ width = 32 then clearStatus p (BitVec.ofNat 32 low32) s
  else if offset = 0x2004 ∧ width = 32 then writeMask p (BitVec.ofNat 32 low32) s
  else if within 0x2040 0x205F offset then
    forAll (List.range (width / 8)) (fun i => modPart p fun q => { q with
      vectors := tput q.vectors (offset - 0x2040 + i) (qf v (8 * i + 5) (8 * i)) }) s
  else if offset = 0x3004 ∧ width = 32 then writeErrHead p low32 s
  else if within 0x10000 0x103FF offset then
    let x := (offset - 0x10000) / 16
    let s1 := modPart p (fun q => { q with msix := msixWrite q.msix (offset - 0x10000) width v }) s
    if bit (s1.part p).pba x && !msixMasked (s1.part p).msix x then
      sendVector p x (modPart p (fun q => { q with pba := clrBit q.pba x }) s1)
    else s1
  else s

/-- A register of function 1 or of a VF (Tables 9.3 and 9.4). Ring registers change only in STATE 0. -/
def writeRegF (f offset width : Nat) (v : Word64) (s : State) : State :=
  let q := s.func f
  let base (old : Word64) (o : Nat) : Word64 := BitVec.ofNat 64 (merge old.toNat o width v / 4096 * 4096)
  if !regAccess offset width then s
  else if offset = 0 then sqDoorbell f v s
  else if offset = 8 then cqDoorbell f v s
  else if within 0x100 0x107 offset then
    if q.state = 0 then modFunc f (fun q => { q with sqBase := base q.sqBase (offset - 0x100) }) s else s
  else if within 0x108 0x10F offset then
    if q.state = 0 then modFunc f (fun q => { q with cqBase := base q.cqBase (offset - 0x108) }) s else s
  else if offset = 0x110 ∧ width = 32 then
    let s1 := if q.state = 0 ∧ !v.getLsbD 31 then modFunc f (fun q => { q with sqLog2 := qf v 3 0, cqLog2 := qf v 11 8 }) s else s
    if v.getLsbD 31 then ringEnable f (qf v 3 0) (qf v 11 8) s1 else if q.ringEn then ringDisable f s1 else s1
  else if within 0x8000 0x801F offset then
    let x := (offset - 0x8000) / 16
    let s1 := modFunc f (fun q => { q with msix := msixWrite q.msix (offset - 0x8000) width v }) s
    sendPended f x s1
  else s

/-- REGISTER_WRITE: of function 0 of partition p, or of a mover function of it; every other offset is reserved. -/
def execRegisterWrite (dt : Time) (p : Nat) (func : Option Nat) (offset width : Nat) (v : Word64) (s : State) :
    Host.Outcome State Fault Refusal :=
  run dt (okPart p && okFuncOpt func) (fun s =>
    if partHome s p != s.dev || !partEn s p then s
    else match func with
      | none => writeReg0 p offset width v s
      | some f => if funcPart s f = p ∧ (512 ≤ f ∨ vfEn s f) then writeRegF f offset width v s else s) s

end Sys2Proof.Machine
end

