-- ==== Sys2Proof/Machine/Faults.lean ====
section
/-! DEFINITION. Memory errors, the clock references, engine drains and self-tests, the arbiter's cycle, and the end of NF_GAP
(R303, R304, R311 to R313, R325, R375, R376, R457 to R460). -/

namespace Sys2Proof.Machine

/-! Memory errors (R312, R313, R487). -/

/-- Spare rows of the memories of Table 1.4: one per 128 KiB, at least 4 (R487). -/
def spareRows : Nat → Nat
  | 0 => 480
  | 1 => 256
  | 2 => 128
  | 3 => 64
  | 4 => 48
  | 5 => 32
  | 6 => 16
  | 7 => 10
  | _ => 4

/-- The class of an uncorrectable word in a memory (Table 10.3). -/
def bankClass (bank : Nat) : Nat := if [0, 6, 7, 8].contains bank then 1 else 0

/-- A MEM_UNCORRECTABLE record, for the device log only (R321); of class C1 it is coalesced, under the partition whose data the word
held (R324). -/
def memRecord (cls offset : Nat) (s : State) (part : Nat := 0) : State :=
  let r : ErrRec := { devRec s 0x0703 cls 0 0 with address := offset }
  if cls = 1 then episodeRecord false part r s else logOnly r s

/-- A lasting fault in a 512-byte row: mapped to a spare row, or, with none left, marked; in an output bank its eight cells are
withdrawn from the shared region (R312, R487). -/
def repairRow (bank row : Nat) (s : State) : State :=
  if tget 0 s.aging.spares bank < spareRows bank then
    logOnly { devRec s 0x0702 0 0 0 with address := row * 512 } (count1 (cDev cdRepairs)
      { s with aging.spares := tmod 0 s.aging.spares bank (· + 1), errs.planerRows := s.errs.planerRows ++ [(bank, row)] })
  else
    let s1 := memRecord (bankClass bank) (row * 512) { s with errs.badRows := s.errs.badRows ++ [(bank, row)] }
    if bank = 0 then { s1 with hub.withdrawn := tmod 0 s1.hub.withdrawn (row / 6144) (· + 8) } else s1

/-- An uncorrectable error in a column's staging: re-read once, its reads under way abandoned and their tags quarantined (DEDUCED, assumption
54); the second ends the job MEMORY (R303). -/
def stagingError (f ctx i : Nat) (s : State) : State :=
  match findJob s f ctx with
  | none => s
  | some j => match j.cols.find? fun c => c.idx == i with
    | none => s
    | some c =>
      if c.issued || !c.reserved || j.error.isSome then s
      else if c.reread = 0 then
        modCol f ctx i (fun c => { c with reread := 1, blocks := [], toRead := colReads s j i, reading := [] })
          (forAll c.reading (fun r => quarReadTag f r.tag) s)
      else memRecord 1 0 (jobFails f ctx 8 i s) (funcPart s f)

/-- A commit has swapped in this tick: it has written the tables (R328). -/
def swappedNow (s : State) : Bool := s.conf.before.any fun b => b.1 == coreTick s

/-- An uncorrectable word (Table 10.3). In queue state the upstream port of a virtual switch resets the virtual switch, the primary's
its partition, and a downstream port is contained (Table 10.5). -/
def memUncorrectable (b : Bank) (s : State) : State :=
  match b with
  | .output _ fid | .ingressStaging fid => match findFrame s fid with
    | some f => discard f .memory s
    | none => s
  | .queueState st =>
    memRecord 2 st (forAll (stationPorts s st) (fun p s => match portSpoke s p with
      | some k => spokeDown k 5 s
      | none => if portUp s p && portVsw s p != 0 then upstreamReset p s else containPort p s) s)
  | .moverStaging f ctx i => stagingError f ctx i s
  | .counterBank id =>
    if s.count.invalid.contains id then s
    else memRecord 0 (8 * id) { s with
      count.invalid := s.count.invalid ++ [id]
      count.snapInvalid := if s.count.copying then s.count.snapInvalid ++ [id] else s.count.snapInvalid }
  | .tables =>
    if !s.mgmt.serving then memRecord 0 0 (fatal 0x0B03 s)
    else if swappedNow s then memRecord 0 0 s
    else memRecord 0 0 { s with hub.stalled := true, hub.stalledTick := coreTick s }
  | .tagTable i => memRecord 1 i (timeoutTag i 0 s) (((tfind s.bridge.tags i).map (·.srcPart)).getD 0)
  | .writeTracker i => memRecord 1 i (failTracker i 8 true s) (((tfind s.bridge.trackers i).map (·.srcPart)).getD 0)
  | .scratchpad r p slot =>
    let s1 := memRecord 0 0 { s with errs.log := s.errs.log.filter fun e => e.seq != r }
    let s2 := modPart p (fun q => { q with ring := tdel q.ring slot }) s1
    if mcRuns s2 then mcRestart 4 s2 else s2
  | .coefStore k => memRecord 0 k { s with lanes.store := tdel s.lanes.store k }
  | .pcieRetry p =>
    if !pciePort s p || !(s.port p).up then s
    else if portUp s p then upstreamReset p (record [portPart s p] { devRec s 0x0103 2 0 0 with srcPort := p } s)
    else surpriseDown p s
  | .spokeReplay k => spokeDown k 2 s

/-- What a word of a row without a spare holds, which is lost with it; where the manual does not say which object a word holds, a free
value says it (R312, assumption 155). -/
def heldAt (bank word : Nat) (s : State) : Option Bank :=
  let pick (fs : List Frame) : Option Frame := fs[drawn s % max 1 fs.length]?
  match bank with
  | 0 => (pick (bankFrames s (word / 2 ^ 20 / 3))).map fun f => .output (portStation s f.outPort) f.fid
  | 1 | 2 =>
    let cols := s.mover.jobs.flatMap fun j =>
      if decide (512 ≤ j.func) == (bank == 2) then (j.cols.filter fun c => c.reserved && !c.issued).map fun c => (j.func, j.ctx, c.idx) else []
    cols[drawn s % max 1 cols.length]?.map fun x => .moverStaging x.1 x.2.1 x.2.2
  | 3 => some (.counterBank (word / 8))
  | 4 => some .tables
  | 5 => some (.scratchpad (drawn s) (drawn s / 256 % 64) (drawn s % 256))
  | 6 => some (.tagTable (drawn s % 65536))
  | 7 => (pick (s.hub.frames.filter inStaging)).map fun f => .ingressStaging f.fid
  | 8 => some (.writeTracker (drawn s % 32768))
  | _ => none

/-- MEM_SINGLE_BIT_READ: `word` is the word's offset in the memory (R312). Every read of a row without a spare is uncorrectable. -/
def execMemSingleBitRead (dt : Time) (bank word : Nat) (cleanReread : Bool) (s : State) :
    Host.Outcome State Fault Refusal :=
  run dt (okMemory bank) (fun s =>
    if s.errs.badRows.contains (bank, word / 512) then
      match heldAt bank word s with
      | some b => memUncorrectable b (drew s)
      | none => memRecord (bankClass bank) word (drew s)
    else if cleanReread then memTransient bank word s
    else repairRow bank (word / 512) (count1 (cDev bank) s)) s

def execMemUncorrectableRead (dt : Time) (bank : Bank) (s : State) : Host.Outcome State Fault Refusal :=
  run dt (okBank bank) (memUncorrectable bank) s

/-- TABLE_REWRITE_DONE: lookups resume, or the error becomes FATAL_INTERNAL (R313). -/
def execTableRewriteDone (dt : Time) (verified : Bool) (s : State) : Host.Outcome State Fault Refusal :=
  run dt true (fun s =>
    if s.hub.stalled then
      if verified && s.mgmt.serving then { s with hub.stalled := false } else fatal 0x0B03 s
    else s) s

/-- NF_GAP_EXPIRY (R325). -/
def execNfGapExpiry (dt : Time) (p : Nat) (s : State) : Host.Outcome State Fault Refusal :=
  run dt (okPart p) (fun s =>
    let q := s.part p
    match q.nfLast with
    | some t =>
      if q.nfHeld && s.since t (nfGap s) then
        func0Err p 1 .errNonFatal (modPart p (fun q => { q with nfHeld := false, nfLast := some s.now }) s)
      else s
    | none => s) s

/-! References (R457 to R460). `false` is REFCLK_A, `true` REFCLK_B. -/

def refLost (s : State) (r : Bool) : Bool := if r then s.chip.refBLost else s.chip.refALost
def setRefLost (r lost : Bool) (s : State) : State :=
  if r then { s with chip.refBLost := lost } else { s with chip.refALost := lost }

def execReferenceLost (dt : Time) (ref : Bool) (s : State) : Host.Outcome State Fault Refusal :=
  run dt true (fun s =>
    let s1 := setRefLost ref true s
    if ref == s.chip.refSel && !s.chip.holdover then { s1 with chip.holdover := true, chip.holdoverAt := s1.now } else s1) s

/-- REFERENCE_RELOCK: to the other reference when it is usable, otherwise to the selected one once it is usable again. -/
def execReferenceRelock (dt : Time) (s : State) : Host.Outcome State Fault Refusal :=
  run dt true (fun s =>
    if !s.chip.holdover then s
    else if !refLost s (!s.chip.refSel) then
      count1 (cDev cdSwitches) { s with
        chip.holdover := false, chip.refSel := !s.chip.refSel, chip.switchCount := min 65535 (s.chip.switchCount + 1) }
    else if !refLost s s.chip.refSel then { s with chip.holdover := false }
    else s) s

def execReferenceUsable (dt : Time) (ref : Bool) (s : State) : Host.Outcome State Fault Refusal :=
  run dt true (setRefLost ref false) s

/-- HOLDOVER_TIMEOUT: both references are lost, 1 ms into holdover (R460). -/
def execHoldoverTimeout (dt : Time) (s : State) : Host.Outcome State Fault Refusal :=
  run dt true (fun s =>
    if s.chip.holdover && s.chip.refALost && s.chip.refBLost && s.since s.chip.holdoverAt ms then fatal 0x0B03 s else s) s

/-! Engine drains and self-tests (R304). -/

/-- Jobs are bound to an engine: also those whose completion entry waits for room (R304; DEDUCED, assumption 165). -/
def engineBusy (s : State) (e : Nat) : Bool := s.mover.jobs.any fun j => j.engine == some e

def execEngineDrainDone (dt : Time) (engine : Nat) (s : State) : Host.Outcome State Fault Refusal :=
  run dt (okEngine engine) (fun s =>
    let e := s.engine engine
    if e.drainMb.isSome && !e.testing && !engineBusy s engine then modEngine engine (fun e => { e with testing := true }) s
    else s) s

/-- The command that drained an engine completes. -/
def endDrain (n : Nat) (inService : Bool) (status : Nat) (pay : List Word64) (s : State) : State :=
  let who := ((s.engine n).drainMb).getD nobody
  finishWait who waitEngine status (status == stOk) pay
    (modEngine n (fun _ => { inService := inService }) s)

/-- ENGINE_SELF_TEST_DONE: a pass returns the engine to service; a failure is ENGINE_TEST_FAILED, class C2. -/
def execEngineSelfTestDone (dt : Time) (engine : Nat) (pass : Bool) (s : State) : Host.Outcome State Fault Refusal :=
  run dt (okEngine engine) (fun s =>
    if (s.engine engine).testing then
      let s1 := count1 (cEng engine 4) s
      let s2 := if pass then s1 else record [] { devRec s1 0x0603 2 0 0 with dstFunc := some engine } s1
      endDrain engine pass stOk [quad [(63, 63, b2n pass)]] s2
    else s) s

/-- ENGINE_DRAIN_TIMEOUT: the engine is as it was, untested. -/
def execEngineDrainTimeout (dt : Time) (engine : Nat) (s : State) : Host.Outcome State Fault Refusal :=
  run dt (okEngine engine) (fun s =>
    let e := s.engine engine
    if e.drainMb.isSome && !e.testing && engineBusy s engine && decide (e.drainUntil ≤ s.now) then
      endDrain engine e.inService stTimeout [] s
    else s) s

/-! The arbiter (R375, R376). -/

/-- ARBITER_GRANT: one cycle of an instance of Table 12.12. -/
def execArbiterGrant (dt : Time) (inst : Nat) (s : State) : Host.Outcome State Fault Refusal :=
  run dt (okArbiter inst) (fun s =>
    if inst < 65 then grantLock inst s
    else if inst < 193 then
      let p := inst - 65
      let m := s.sem p
      match m.owner, m.waiters with
      | none, w :: r => grantSem p w (putSem p { m with waiters := r } s)
      | _, _ => s
    else if s.slot.inReset then s else grantInrush 64 s) s

end Sys2Proof.Machine
end

