-- ==== Sys2Proof/Machine/Stage.lean ====
section
/-! DEFINITION. Record commands and CFG_STAGE: what fills a staging set (R389 to R393, R410 to R417, Tables 13.5 to 13.7). -/

namespace Sys2Proof.Machine

/-! Entries as a record command carries them (Table 13.5). -/

/-- One entry: its header's fields, the header's reserved bits, its data, and whether the payload ends within it. -/
structure RecEntry where
  typ : Nat
  a : Nat
  b : Nat
  words : Nat
  low : Nat
  data : Rec
  short : Bool
deriving DecidableEq, Repr

/-- The entries of a payload, fuel bounding their number. -/
def parseEntries : Nat → List Word64 → List RecEntry
  | 0, _ => []
  | _ + 1, [] => []
  | n + 1, h :: r =>
    let w := qf h 23 16
    let d := (r.take w).take 4
    { typ := qf h 63 56, a := qf h 55 40, b := qf h 39 24, words := w, low := qf h 15 0
      data := BitVec.ofNat 256 (ofLeBytes (d.flatMap fun q => leBytes 8 q.toNat)), short := decide (r.length < w) } ::
      parseEntries n (r.drop w)

/-- The entries of a request. A payload that is no whole number of quadwords ends within its last entry. -/
def entriesOf (r : Req) : List RecEntry :=
  let es := parseEntries (rPay r).length (rPay r)
  if rLen r % 8 = 0 then es
  else es.dropLast ++ (es.getLast?.map fun e => { e with short := true }).toList

/-- The entry as a configuration holds it on this device: only writable fields count (R389, R410). The device of an access
control entry stands in its first index (R391). -/
def cfgEntryOf (s : State) (e : RecEntry) : CfgEntry :=
  let m := match recSpec e.typ with
    | some sp => maskOf sp.rw
    | none => 0
  { dev := if e.typ = 0x20 then e.a / 128 else s.dev, typ := e.typ, a := e.a, b := e.b
    data := e.data &&& BitVec.ofNat 256 m }

/-- The header, the indexes and every field of an entry keep their rules for a command (R389, R390). -/
def entryOk (s : State) (op : Nat) (e : RecEntry) : Bool :=
  match recSpec e.typ with
  | none => false
  | some sp =>
    !e.short && sp.opcode == op && e.words == sp.words && decide (e.a < sp.maxA) && decide (e.b < sp.maxB) && e.low == 0 &&
      e.data.toNat &&& maskOf sp.reserved == 0 && recOk e.typ (cfgEntryOf s e).data

/-- The partition whose lock covers a record besides the device lock, when one does (Table 13.6). -/
def recPart (s : State) (typ a : Nat) : Option Nat := match typ with
  | 0x13 => if a < 64 then some a else none
  | 0x20 =>
    let r := portRecOf s (a / 128) (a % 128)
    if rb r 63 then some (rf r 61 56) else none
  | 0x41 => if a < 512 && vfEn s a then some (vfPart s a) else none
  | _ => none

/-- A mailbox may read a record: a partition mailbox those of its own partition (R386). -/
def mayRead (s : State) (mb typ a : Nat) : Bool :=
  decide (64 ≤ mb) || recPart s typ a == some mb || ([0x10, 0x11, 0x12].contains typ && a == mb) ||
    ([0x04, 0x05].contains typ && portEn s a && portPart s a == mb) || (typ == 0x40 && vfEn s a && vfPart s a == mb)

/-- The refusal quadword of a record, without its name where the mailbox may not read it (R386). -/
def refusedRec (s : State) (mb typ a b low : Nat) : List Word64 :=
  if mayRead s mb typ a then [refusalQuad typ a b low] else [refusalQuad 0 0 0 low]

/-! Staging sets (R393, R419). -/

/-- A set newly opened: a copy of the configuration in force. -/
def openSet (s : State) : StagingSet :=
  { base := s.conf.epoch, entries := s.conf.entries, changed := [], prepared := false, committed := false
    conflicted := false, image := [], signed := false, sig := 0, imageSeq := 0 }

/-- The staging set of a lock; a set that nothing has written yet is an open copy. -/
def stageSet (s : State) (l : Nat) : StagingSet := (tfind s.conf.sets l).getD (openSet s)

def putSet (l : Nat) (x : StagingSet) (s : State) : State := { s with conf.sets := tput s.conf.sets l x }

def entryKey (e : CfgEntry) : Nat × Nat × Nat × Nat := (e.dev, e.typ, e.a, e.b)

/-- A record command writes an entry into a set; an image's signature no longer covers the set (R417). -/
def stageEntry (e : CfgEntry) (x : StagingSet) : StagingSet :=
  { x with
    entries := cfgPut x.entries e
    changed := if x.changed.contains (entryKey e) then x.changed else x.changed ++ [entryKey e]
    signed := false
    sig := 0 }

/-- The members of a commit: the devices of the domain (R418). -/
def membersOf (s : State) (es : List CfgEntry) : List Nat :=
  (List.range 64).filter fun d => d == s.dev ||
    (s.conf.entries ++ es).any fun e => e.typ == 0x50 && rb e.data 63 && e.a == d

/-- The records that every device of the domain holds alike (R137, R214). -/
def sharedRec (typ : Nat) : Bool := typ == 0x10 || typ == 0x12

/-- What staging an entry puts into a set: a shared record on every device of the domain, and with a new route the shared records on
the device it names (R137, R214; assumption 135). -/
def entryCopies (s : State) (x : StagingSet) (e : CfgEntry) : List CfgEntry :=
  if sharedRec e.typ then (membersOf s x.entries).map fun d => { e with dev := d }
  else if e.typ == 0x50 && rb e.data 63 && e.a != s.dev then
    e :: ((x.entries.filter fun c => c.dev == s.dev && sharedRec c.typ).map fun c => { c with dev := e.a })
  else [e]

/-- An entry goes into a set with its copies. -/
def stageEntries (s : State) (e : CfgEntry) (x : StagingSet) : StagingSet :=
  (entryCopies s x e).foldl (fun x c => stageEntry c x) x

/-- The lock whose set an entry goes to: the device lock when the mailbox holds it, otherwise the partition lock that covers
the record; a record type that there is none of fails later, whichever lock the mailbox holds (R385). -/
def entryLock (s : State) (mb : Nat) (e : RecEntry) : Nat :=
  if holdsLock s mb 0 then 0 else match recPart s e.typ e.a with
    | some p => 1 + p
    | none => if decide (mb < 64) && (recSpec e.typ).isNone then 1 + mb else 0

/-! Record commands (R389 to R392). -/

/-- The lock whose set the CFG commands of a mailbox name: the device lock when held, a partition mailbox's own lock, or the
partition lock of the scope. -/
def setLock (s : State) (r : Req) : Option Nat :=
  if holdsLock s r.mb 0 then some 0
  else
    let l := if r.mb < 64 then 1 + r.mb else 1 + rScopeId r
    if (decide (r.mb < 64) || rScope r == 1) && holdsLock s r.mb l then some l else none

/-- R392: an entry of a partition mailbox is denied. -/
def entryDenied (s : State) (mb : Nat) (e : RecEntry) : Bool :=
  match recSpec e.typ with
  | none => false
  | some _ =>
    recPart s e.typ e.a != some mb ||
      (e.typ == 0x20 &&
        let old := cfgLookup (stageSet s (entryLock s mb e)).entries (e.a / 128) 0x20 e.a e.b
        let new := (cfgEntryOf s e).data
        rb old 126 || (rb new 126 && !rb old 126) || (rb new 123 && !rb old 123))

/-- An entry names a pegged access control entry of a port on this device (R392). -/
def entryPegged (s : State) (e : RecEntry) : Bool :=
  e.typ == 0x20 && e.a / 128 == s.dev && pegOf s (e.a % 128) (e.b / 64) (e.b % 64) != 0

/-- A record command behind its header checks, in the order of R385. -/
def recordBody (op : Nat) : Handler := fun r s =>
  let es := entriesOf r
  let ix := (List.range es.length).zip es
  let locks := (es.map (entryLock s r.mb)).eraseDups
  if decide (r.mb < 64) && es.any (entryDenied s r.mb) then refuse stDenied s
  else if !(if es.isEmpty then (setLock s r).isSome else locks.all (holdsLock s r.mb)) then refuse stNoLock s
  else if locks.any fun l => (stageSet s l).prepared || (stageSet s l).committed then refuse stBusy s
  else match ix.find? fun e => !entryOk s op e.2 with
    | some e => (.done stInvalid false (refusedRec s r.mb e.2.typ e.2.a e.2.b e.1), s)
    | none => match ix.find? fun e => entryPegged s e.2 with
      | some e => (.done stPegged false (refusedRec s r.mb e.2.typ e.2.a e.2.b e.1), s)
      | none =>
        good [quad [(63, 32, es.length)]] (forAll es (fun e s =>
          let l := entryLock s r.mb e
          putSet l (stageEntries s (cfgEntryOf s e) (stageSet s l)) s) s)

/-- Who may issue the record commands (Tables 13.4 and 13.11); the debug mailbox writes no access control entry (Table 8.6). -/
def recordRule (op : Nat) : Rule := ⟨[0x0401, 0x0501, 0x0701].contains op, true, true, false, op == 0x0501⟩

def recordCommand (op : Nat) : Handler := checkedBy (recordRule op) (recordBody op)

def execPortSet (dt : Time) (r : Req) (s : State) : Host.Outcome State Fault Refusal :=
  run dt (okReq r) (command (isOp 0x0301) (recordCommand 0x0301) r) s
def execPartSet (dt : Time) (r : Req) (s : State) : Host.Outcome State Fault Refusal :=
  run dt (okReq r) (command (isOp 0x0401) (recordCommand 0x0401) r) s
def execWindowSet (dt : Time) (r : Req) (s : State) : Host.Outcome State Fault Refusal :=
  run dt (okReq r) (command (isOp 0x0402) (recordCommand 0x0402) r) s
def execActWrite (dt : Time) (r : Req) (s : State) : Host.Outcome State Fault Refusal :=
  run dt (okReq r) (command (isOp 0x0501) (recordCommand 0x0501) r) s
def execQueueSet (dt : Time) (r : Req) (s : State) : Host.Outcome State Fault Refusal :=
  run dt (okReq r) (command (isOp 0x0601) (recordCommand 0x0601) r) s
def execShaperSet (dt : Time) (r : Req) (s : State) : Host.Outcome State Fault Refusal :=
  run dt (okReq r) (command (isOp 0x0602) (recordCommand 0x0602) r) s
def execRedProfileSet (dt : Time) (r : Req) (s : State) : Host.Outcome State Fault Refusal :=
  run dt (okReq r) (command (isOp 0x0603) (recordCommand 0x0603) r) s
def execMarkerSet (dt : Time) (r : Req) (s : State) : Host.Outcome State Fault Refusal :=
  run dt (okReq r) (command (isOp 0x0604) (recordCommand 0x0604) r) s
def execMoverVfSet (dt : Time) (r : Req) (s : State) : Host.Outcome State Fault Refusal :=
  run dt (okReq r) (command (isOp 0x0701) (recordCommand 0x0701) r) s
def execSlotLimits (dt : Time) (r : Req) (s : State) : Host.Outcome State Fault Refusal :=
  run dt (okReq r) (command (isOp 0x0802) (recordCommand 0x0802) r) s
def execErrControl (dt : Time) (r : Req) (s : State) : Host.Outcome State Fault Refusal :=
  run dt (okReq r) (command (isOp 0x0A03) (recordCommand 0x0A03) r) s
def execRouteSet (dt : Time) (r : Req) (s : State) : Host.Outcome State Fault Refusal :=
  run dt (okReq r) (command (isOp 0x0E02) (recordCommand 0x0E02) r) s

/-! Configuration images (R410 to R416). -/

/-- The key number of the owner key, when one is fused (R437). -/
def ownerKeyNo (s : State) : Option Nat := if s.sec.ownerSet then some (3 + s.sec.ownerHash.toNat) else none

/-- Configurations must be signed (R417, R437). -/
def signedRequired (s : State) : Bool := s.sec.reqSigned && s.sec.ownerSet

/-- "KNDCFG01" as a little-endian number. -/
def cfgMagic : Nat := 0x3130474643444E4B
/-- "KNDFW001" as a little-endian number. -/
def fwMagic : Nat := 0x3130305746444E4B

/-- What an image's SIG signs (R413): header bytes 0x000 to 0x007 and 0x010 to 0x03F. -/
def signedDigest (magic length : Nat) (isSigned : Bool) (digest : BitVec 256) : BitVec 256 :=
  sha3 (leBytes 8 magic ++ leBytes 8 length ++ leBytes 4 (b2n isSigned) ++ leBytes 4 1 ++ leBytes 32 digest.toNat)

/-- The signature of a configuration verifies where it is present or required (R413). -/
def cfgSigOk (s : State) (length : Nat) (isSigned : Bool) (digest : BitVec 256) (sig : Nat) : Bool :=
  if isSigned || signedRequired s then
    isSigned && match ownerKeyNo s with
      | some k => Config.mldsaVerify k (signedDigest cfgMagic length isSigned digest) sig
      | none => false
  else true

/-- A configuration slot is valid (R413). -/
def cfgSlotValid (s : State) (c : CfgSlot) : Bool :=
  c.magic && c.header && decide (cfgLength c.body ≤ 8384512) && sha3 (cfgBytes c.body) == c.digest &&
    c.sealWord == some c.seq && cfgSigOk s (cfgLength c.body) c.signed c.digest c.sig

/-- A slot, false for A and true for B. -/
def State.cfgSlot (s : State) (b : Bool) : CfgSlot := if b then s.conf.cfgB else s.conf.cfgA

/-- The newest valid configuration slot (R413). -/
def newestCfg (s : State) : Option Bool :=
  match cfgSlotValid s s.conf.cfgA, cfgSlotValid s s.conf.cfgB with
  | false, false => none
  | true, false => some false
  | false, true => some true
  | true, true => some (serialNewer s.conf.cfgB.seq s.conf.cfgA.seq)

/-- The entries of a body, each in the form of R410. None where the body is not in canonical form. -/
def parseBody : Nat → List Word64 → Option (List CfgEntry)
  | _, [] => some []
  | 0, _ :: _ => none
  | n + 1, h :: r =>
    match recSpec (qf h 63 56) with
    | none => none
    | some sp =>
      let d := r.take sp.words
      let e : CfgEntry := { dev := qf h 13 8, typ := qf h 63 56, a := qf h 55 40, b := qf h 39 24
                            data := BitVec.ofNat 256 (ofLeBytes (d.flatMap fun q => leBytes 8 q.toNat)) }
      if qf h 23 16 == sp.words && decide (e.a < sp.maxA) && decide (e.b < sp.maxB) && qf h 15 14 == 0 && qf h 7 0 == 0 && d.length == sp.words &&
        e.data.toNat &&& maskOf sp.reserved == 0 && e.data == e.data &&& BitVec.ofNat 256 (maskOf sp.rw)
      then (parseBody n (r.drop sp.words)).map (e :: ·) else none

/-- A byte string put into a table of quadwords. -/
def putBytes (t : Tbl Word64) (off : Nat) (bs : List Byte) : Tbl Word64 :=
  ((List.range bs.length).zip bs).foldl (fun t x =>
    let i := (off + x.1) / 8
    let sh := 8 * ((off + x.1) % 8)
    let old := tget 0 t i
    tset 0 t i ((old &&& ~~~ (0xFF#64 <<< sh)) ||| (BitVec.setWidth 64 x.2 <<< sh))) t

/-- `n` quadwords of a table from quadword i. -/
def quadsAt (t : Tbl Word64) (i n : Nat) : List Word64 := (List.range n).map fun j => tget 0 t (i + j)

/-- An image file checked as R416 states: its entries, whether it is signed, SIG, and SEQ. -/
def checkImage (s : State) (t : Tbl Word64) : Option (List CfgEntry × Bool × Nat × Nat) :=
  let length := (tget 0 t 2).toNat
  let flags := qf (tget 0 t 3) 31 0
  let digest : BitVec 256 := BitVec.ofNat 256 (ofLeBytes ((quadsAt t 4 4).flatMap fun q => leBytes 8 q.toNat))
  let sig := ofLeBytes (((quadsAt t 8 303).flatMap fun q => leBytes 8 q.toNat).take 2420)
  if (tget 0 t 0).toNat == cfgMagic && qf (tget 0 t 3) 63 32 == 1 && decide (flags < 2) && length % 8 == 0 &&
    decide (length ≤ 8384512)
  then
    let body := quadsAt t 512 (length / 8)
    let isSigned := flags == 1
    if sha3 (body.flatMap fun q => leBytes 8 q.toNat) == digest && cfgSigOk s length isSigned digest sig then
      match parseBody body.length body with
      | some es => if cfgCanon es then some (es, isSigned, sig, qf (tget 0 t 1) 31 0) else none
      | none => none
    else none
  else none

/-- An image replaces a whole set: it changes every record whose value differs from the configuration in force. -/
def imageSet (s : State) (es : List CfgEntry) (isSigned : Bool) (sig seq : Nat) (x : StagingSet) : StagingSet :=
  let diff := (es.filter fun e => !s.conf.entries.contains e) ++
    s.conf.entries.filter fun e => !(es.any fun f => sameKey e f)
  { x with entries := es, changed := diff.map entryKey, image := [], signed := isSigned, sig := if isSigned then sig else 0, imageSeq := seq }

/-! CFG_STAGE (R393, Table 13.7). -/

def stageResponse (x : StagingSet) (seq : Nat) : List Word64 := [quad [(63, 32, x.base), (31, 0, seq)]]

/-- The payload bytes from quadword 1. -/
def chunkBytes (r : Req) : List Byte :=
  (((rPay r).drop 1).flatMap fun q => leBytes 8 q.toNat).take (rLen r - 8)

def cfgStageBody : Handler := fun r s =>
  let act := pf r 0 63 60
  match setLock s r with
  | none => refuse stNoLock s
  | some l =>
    let x := stageSet s l
    if within 1 3 act && l != 0 then refuse stNoLock s
    else if x.prepared || x.committed then refuse stBusy s
    else if decide (rLen r < 8) || pf r 0 58 32 != 0 then invalidAt 0 s
    else match act with
      | 0 => good (stageResponse (openSet s) 0) (putSet l (openSet s) s)
      | 1 =>
        if pf r 0 31 0 + (rLen r - 8) ≤ 8388608 then
          good (stageResponse x 0) (putSet l { x with image := putBytes x.image (pf r 0 31 0) (chunkBytes r) } s)
        else invalidAt 0 s
      | 2 => match checkImage s x.image with
        | some (es, isSigned, sig, seq) => good (stageResponse x seq) (putSet l (imageSet s es isSigned sig seq x) s)
        | none => invalidAt 0 s
      | 3 =>
        let c := s.cfgSlot (pf r 0 59 59 == 1)
        if cfgSlotValid s c then
          good (stageResponse x c.seq) (putSet l (imageSet s c.body c.signed c.sig c.seq x) s)
        else invalidAt 0 s
      | _ => invalidAt 0 s

def cfgStage : Handler := checkedBy ⟨true, true, true, false, false⟩ cfgStageBody

/-- A CFG_STAGE with a given ACTION. -/
def isStage (act : Nat) (r : Req) : Bool := isOp 0x0201 r && pf r 0 63 60 == act

def execCfgStageOpen (dt : Time) (r : Req) (s : State) : Host.Outcome State Fault Refusal :=
  run dt (okReq r) (command (isStage 0) cfgStage r) s
def execCfgStageImageChunk (dt : Time) (r : Req) (s : State) : Host.Outcome State Fault Refusal :=
  run dt (okReq r) (command (isStage 1) cfgStage r) s
def execCfgStageImageEnd (dt : Time) (r : Req) (s : State) : Host.Outcome State Fault Refusal :=
  run dt (okReq r) (command (isStage 2) cfgStage r) s
def execCfgStageFromSlot (dt : Time) (r : Req) (s : State) : Host.Outcome State Fault Refusal :=
  run dt (okReq r) (command (isStage 3) cfgStage r) s

end Sys2Proof.Machine
end

