-- ==== Sys2Proof/Machine/Joint.lean ====
section
/-! DEFINITION. The rules that join several records of a configuration (R18, R47, R88, R91, R95, R136 to R138, R180, R205, R214,
R216, R260, R277, R332, R411, R454), checked at CFG_PREPARE over the whole configuration that would result. Each rule answers the
records that fail it, as REC and two indexes; (0, 0, 0) stands for a rule that names no record (R386). Every one reads the state
with the candidate configuration put in force. -/

namespace Sys2Proof.Machine

abbrev RecKey := Nat × Nat × Nat

def noRec : RecKey := (0, 0, 0)

/-- The state with a candidate configuration in force at a device. -/
def candidateAt (s : State) (dev : Nat) (es : List CfgEntry) : State :=
  { s with conf.entries := es, chip.devnum := dev }

/-- The enabled PCIe ports and the ports of enabled spokes, in ascending order. -/
def livePorts (s : State) : List Nat := (List.range 128).filter fun p => portEn s p || (portSpoke s p).isSome

/-- A record whose own fields break a rule: an image may hold one (R390). -/
def failOwn (s : State) : List RecKey :=
  (s.conf.entries.filter fun e => e.dev == s.dev && !recOk e.typ e.data).map fun e => (e.typ, e.a, e.b)

/-- R18: limits, and one holder for each logical port index. -/
def failLimits (s : State) : List RecKey :=
  let ports := (List.range 128).filter (portEn s)
  let perStation := (List.range 20).any fun st =>
    decide (8 < (ports.filter fun p => rf (portRec s p) 55 51 == st).length)
  let spokes := (List.range 40).filter (spokeEn s)
  let wide := decide (64 < (ports.filter (portUp s)).length) || decide (128 < ports.length + spokes.length)
  (if perStation || wide then [noRec] else []) ++
    (spokes.filter fun k => portEn s (spokePort s k) || spokes.any fun j => j != k && spokePort s j == spokePort s k).map
      fun k => (0x06, k, 0)

/-- R47: the shared region of a bank is not negative. -/
def failBank (s : State) : List RecKey :=
  ((List.range 20).filter fun st =>
    let qmin := (((s.mine 0x28).filter fun e => (stationPorts s st).contains e.a).map fun e => rf e.data 13 0).sum
    let res := (((s.mine 0x29).filter fun e => e.a == st).map fun e => rf e.data 15 0).sum
    decide (49152 < qmin + res + 4096)).map fun st => (0x2A, st, 0)

/-- The sum of GUAR_RATE over the listed queues of a port that a condition picks. -/
def guarSum (s : State) (port : Nat) (p : Nat → Bool) : Nat :=
  (((s.mine 0x30).filter fun e => e.a == port && p e.b).map fun e => rf e.data 107 88).sum

/-- A port's check rate (R88): its cap, else Table 3.2. -/
def checkRate (s : State) (p : Nat) : Nat :=
  let cap := rf (s.cfg 0x33 p 0) 63 44
  if cap = 0 then linkCheckRate s p else cap

/-- R88: guarantees against the port, the subscriber caps and the service caps; the record named is the port's, for a spoke's logical port
its port shaper (R386). -/
def failGuarantee (s : State) : List RecKey :=
  ((livePorts s).filter fun p =>
    decide (95 * checkRate s p < 100 * guarSum s p fun _ => true) ||
    ((List.range 72).any fun sub =>
      let cap := rf (s.cfg 0x31 p sub) 63 44
      cap != 0 && decide (cap < guarSum s p fun q => q / 8 == sub)) ||
    ((List.range 8).any fun v =>
      let cap := rf (s.cfg 0x32 p v) 63 44
      cap != 0 && decide (cap < guarSum s p fun q => q % 8 == v))).map
    fun p => if portEn s p then (0x04, p, 0) else (0x33, p, 0)

/-- R91: every queue of a strict partition, at every port, has a guarantee. -/
def failStrictQueues (s : State) : List RecKey :=
  ((List.range 64).filter (partStrict s)).flatMap fun sub => (livePorts s).flatMap fun p =>
    ((List.range 8).filter fun v => rf (s.cfg 0x30 p (8 * sub + v)) 107 88 == 0).map fun v => (0x30, p, 8 * sub + v)

/-- R95: FLOOR is not 0 and not above the ceiling, unless the ceiling is 0. -/
def failFloor (s : State) : List RecKey :=
  (List.range 21).flatMap fun att => ((List.range 72).filter fun sub =>
    let c := ingressCeiling s att sub
    c != 0 && (ingFloor s att sub == 0 || decide (c < ingFloor s att sub))).map fun sub => (0x34, att, sub)

/-- A downstream bridge's place on an internal bus: partition, virtual switch and device number. -/
def busPlace (s : State) (p : Nat) : Nat × Nat × Nat := (portPart s p, portVsw s p, portDevNum s p)

/-- The enabled remote entries: partition, index and place. -/
def remotePlaces (s : State) : List (Nat × Nat × (Nat × Nat × Nat)) :=
  ((s.mine 0x11).filter fun e => rb e.data 31).map fun e => (e.a, e.b, (e.a, rf e.data 12 11, rf e.data 17 13))

/-- R136, but for the rules that one port record keeps or breaks alone. -/
def failPorts (s : State) : List RecKey :=
  let ports := (List.range 128).filter (portEn s)
  let down := ports.filter fun p => !portUp s p
  let place p := (rf (portRec s p) 55 51, rf (portRec s p) 50 48)
  let rem := remotePlaces s
  (ports.filter fun p =>
    stationMode s (place p).1 != 1 || !bit (rf (s.cfg 0x01 (place p).1 0) 59 52) (place p).2 ||
    (ports.any fun q => q != p && place q == place p) ||
    (!portUp s p && (
      (down.any fun q => q != p && busPlace s q == busPlace s p) || (rem.any fun e => e.2.2 == busPlace s p) ||
      (upstreamPort s (portPart s p) (portVsw s p)).isNone)) ||
    (portHp s p && ports.any fun q => q != p && portHp s q && portSlot s q == portSlot s p)).map (fun p => (0x04, p, 0)) ++
  (rem.filter fun e => rem.any fun f => (f.1, f.2.1) != (e.1, e.2.1) && f.2.2 == e.2.2).map fun e => (0x11, e.1, e.2.1)

/-- R138: an enabled partition's upstream ports lie on its HOME_DEV, one to four of distinct VSW, one of them 0. -/
def failUpstream (s : State) : List RecKey :=
  ((parts s).filter fun p =>
    let ups := (partPorts s p).filter (portUp s)
    if partHome s p = s.dev then
      !within 1 4 ups.length || decide ((ups.map (portVsw s)).eraseDups.length < ups.length) ||
        !(ups.any fun q => portVsw s q == 0)
    else !ups.isEmpty).map fun p => (0x10, p, 0)

/-- R180: the slots of a spoke's 8 services. -/
def failCredit (s : State) : List RecKey :=
  ((List.range 40).filter fun k =>
    decide (1024 < ((List.range 8).map fun v =>
      let r := s.cfg 0x07 k v
      4 * (rf r 31 24 + rf r 23 16 + rf r 15 8 + rf r 7 0)).sum)).map fun k => (0x07, k, 0)

/-- R205: an enabled route names enabled spokes. -/
def failRoute (s : State) : List RecKey :=
  ((s.mine 0x50).filter fun e => rb e.data 63 && (routePorts e.data).any fun p => (portSpoke s p).isNone).map
    fun e => (0x50, e.a, 0)

/-- R214: a partition that any enabled window of the domain names as DST_PART has a proxy bus. -/
def failProxy (s : State) : List RecKey :=
  ((List.range 64).filter fun p =>
    rf (s.cfg 0x12 p 0) 63 56 == 0 &&
      s.conf.entries.any fun e => e.typ == 0x18 && rb e.data 255 && rf e.data 248 243 == p).map fun p => (0x12, p, 0)

/-- R216: both partitions of an enabled window are enabled. -/
def failWindow (s : State) : List RecKey :=
  ((s.mine 0x18).filter fun e =>
    rb e.data 255 && !(partEn s (rf e.data 254 249) && partEn s (rf e.data 248 243))).map fun e => (0x18, e.a, 0)

/-- R260: SCOPE 1 names an enabled partition. -/
def failScope (s : State) : List RecKey :=
  ((s.mine 0x20).filter fun e => rf e.data 104 103 == 1 && !partEn s (rf e.data 102 97)).map fun e => (0x20, e.a, e.b)

/-- The functions that use a mover lane: record, partition and lane. -/
def laneUsers (s : State) : List (RecKey × Nat × Nat) :=
  ((homeParts s).map fun p => ((0x10, p, 0), p, rf (partRec s p) 17 15)) ++
    ((List.range 512).filter (vfEn s)).map fun v => ((0x40, v, 0), vfPart s v, rf (s.cfg 0x40 v 0) 24 22)

/-- R277: where VFs lie, and the lanes of strict partitions. -/
def failVfs (s : State) : List RecKey :=
  (((List.range 512).filter (vfEn s)).filter fun v => !(homeParts s).contains (vfPart s v)).map (fun v => (0x40, v, 0)) ++
    let us := laneUsers s
    (us.filter fun f => us.any fun g =>
      g.2.1 != f.2.1 && g.2.2 == f.2.2 && (partStrict s f.2.1 || partStrict s g.2.1)).map (·.1)

/-- R332: an enabled channel's inrush current fits BUDGET. -/
def failBudget (s : State) : List RecKey :=
  ((List.range 64).filter fun ch =>
    lEn (s.cfg 0x48 ch 0) &&
      decide (rf (s.cfg 0x49 0 0) 63 48 * senseScale < 10 * inrushCharge (s.cfg 0x48 ch 0))).map fun ch => (0x48, ch, 0)

/-- R411: the canonical configuration fits its slot. -/
def failLength (s : State) : List RecKey := if cfgLength s.conf.entries ≤ 8384512 then [] else [noRec]

/-- R454: every enabled entry on a strict partition's ports is pegged at boot. -/
def failStrictPegs (s : State) : List RecKey :=
  ((s.mine 0x20).filter fun e =>
    portEn s (e.a % 128) && partStrict s (portPart s (e.a % 128)) && rb e.data 127 && !rb e.data 123).map fun e => (0x20, e.a, e.b)

/-- R137, R214: a shared record of the device is that of every other device of the domain (assumption 135). -/
def failShared (s : State) : List RecKey :=
  let others := (membersOf s s.conf.entries).filter fun d => d != s.dev
  ((s.conf.entries.filter fun e => sharedRec e.typ && (e.dev == s.dev || others.contains e.dev)).filter fun e =>
    others.any fun d => cfgLookup s.conf.entries d e.typ e.a 0 != s.cfg e.typ e.a 0).map fun e => (e.typ, e.a, 0)

/-- Every record of the device that fails a rule under the configuration in force in the given state. -/
def jointFails (s : State) : List RecKey :=
  failLength s ++ failLimits s ++ failOwn s ++ failBank s ++ failGuarantee s ++ failStrictQueues s ++ failFloor s ++ failPorts s ++
    failUpstream s ++ failCredit s ++ failRoute s ++ failProxy s ++ failWindow s ++ failScope s ++ failVfs s ++ failBudget s ++
    failStrictPegs s ++ failShared s

/-- One record comes before another in canonical order (R410). -/
def keyBefore (x y : RecKey) : Bool :=
  decide (x.1 < y.1) || (x.1 == y.1 && (decide (x.2.1 < y.2.1) || (x.2.1 == y.2.1 && decide (x.2.2 < y.2.2))))

def firstKey : List RecKey → Option RecKey
  | [] => none
  | x :: r => match firstKey r with
    | some y => if keyBefore y x then some y else some x
    | none => some x

/-- The first failing record of a device under a candidate configuration (R386). -/
def jointFail (s : State) (dev : Nat) (es : List CfgEntry) : Option RecKey := firstKey (jointFails (candidateAt s dev es))

/-- R270: the first pegged entry of a port of this device that a candidate configuration would change. -/
def peggedChange (s : State) (es : List CfgEntry) : Option RecKey :=
  firstKey ((s.bridge.pegs.filter fun e =>
    let port := e.1 / 128
    let b := e.1 % 128
    cfgLookup es s.dev 0x20 (s.dev * 128 + port) b != s.cfg 0x20 (s.dev * 128 + port) b).map
      fun e => (0x20, s.dev * 128 + e.1 / 128, e.1 % 128))

/-- A candidate changes a record of one of the given types anywhere in the domain. -/
def changesTypes (old new : List CfgEntry) (ts : List Nat) : Bool :=
  let f (es : List CfgEntry) := es.filter fun e => ts.contains e.typ
  f old != f new

end Sys2Proof.Machine
end

