-- ==== Sys2Proof/Machine/Commit.lean ====
section
/-! DEFINITION. The two-phase commit of the domain: CFG_PREPARE, CFG_COMMIT, CFG_ABORT, the commit messages, the swap at T and
the flash write after it (R394 to R396, R414, R417 to R426). -/

namespace Sys2Proof.Machine

/-! What a commit puts in force. -/

/-- Records that differ between two configurations. -/
def diffKeys (old new : List CfgEntry) : List (Nat × Nat × Nat × Nat) :=
  (((new.filter fun e => !old.contains e) ++ old.filter fun e => !new.contains e).map entryKey).eraseDups

/-- This device's records of one type that differ between two states, as first and second index. -/
def diffOf (old s : State) (typ : Nat) : List (Nat × Nat) :=
  ((diffKeys (old.mine typ) (s.mine typ)).map fun k => (k.2.2.1, k.2.2.2))

/-- The stations whose MODE, START, SPOKE_EN or SPREAD change (R108). -/
def changedStations (old s : State) : List Nat :=
  (List.range 20).filter fun st =>
    let a := old.cfg 0x01 st 0
    let b := s.cfg 0x01 st 0
    rf a 63 51 != rf b 63 51

/-- The station of a loop-back's target: a lane, a port or a spoke (Table 13.10). -/
def loopStation (s : State) (l : LoopRun) : Option Nat :=
  if l.depth ≤ 3 then some (l.target / 16)
  else if l.depth = 4 then some (portStation s l.target)
  else if l.depth = 5 then some (l.target / 2)
  else none

/-- A run ends with STATE 2 and the counts of that moment; those of depths 1 to 3 are free values (assumption 4). -/
def stopLoop (l : LoopRun) (s : State) : State :=
  if l.depth ≤ 3 then
    modLoop l.depth l.target (fun x => { x with units := drawn s, errors := drawn (drew s), state := 2 }) (drew (drew s))
  else modLoop l.depth l.target (fun x => { x with state := 2 }) s

/-- Loop-backs at stations whose record changes end with STATE 2 (R518). -/
def endStationLoops (sts : List Nat) (s : State) : State :=
  forAll (s.count.loops.filter fun l => l.state == 1 && match loopStation s l with
    | some st => sts.contains st
    | none => false) stopLoop s

/-- A PCIe port's place: station and granule, none while it is disabled. -/
def portPlace (s : State) (p : Nat) : Option (Nat × Nat) :=
  if portEn s p then some (rf (portRec s p) 55 51, rf (portRec s p) 50 48) else none

/-- A port whose record a commit disables or moves to another place: its link is down and its frames are gone; no reset (R13, assumption
76). -/
def portLeaves (p : Nat) (s : State) : State := releasePortSem p (emptyPort p .port (linkDown p s))

/-- What ends under the old records: ports and spokes of changed stations, ports that are disabled or moved, VFs that are
disabled or reassigned (R107, R108, R307). `new` is the state with the new records in force. -/
def leaveOld (new s : State) : State :=
  let sts := changedStations s new
  let ports := sts.flatMap (stationPorts s)
  let moved := (List.range 128).filter fun p => portEn s p && portPlace s p != portPlace new p && !sts.contains (portStation s p)
  let vfs := (List.range 512).filter fun v => vfEn s v && !(vfEn new v && vfPart new v == vfPart s v)
  let stsAny := (List.range 20).filter fun st => s.cfg 0x01 st 0 != new.cfg 0x01 st 0
  forAll vfs startFlr (forAll moved portLeaves (forAll ports (fun p => portReset p false) (endStationLoops stsAny s)))

/-- Spokes and ports of changed stations start under the new records; a spoke that is gone is down (R107, R108, R195). -/
def enterNew (old s : State) : State :=
  let sts := changedStations old s
  let gone := (List.range 40).filter fun k => spokeEn old k && !spokeEn s k
  let ports := (sts.flatMap (stationPorts s)).filter fun p => (portSpoke s p).isNone
  forAll ports (fun p => portReset p false)
    (forAll ((List.range 40).filter fun k => sts.contains (k / 2)) startBringUp
      (forAll gone (fun k => modSpoke k fun x => { clearLink 0 x with nextTry := none, idFailRec := false }) s))

/-- The partition that owns a counter's element: a port, a mover function, an access table, a slot channel (R506). -/
def counterOwner (s : State) (id : Nat) : Option Nat :=
  let i := id % 2 ^ 24
  let ofPort p := if portEn s p then some (portPart s p) else none
  match id / 2 ^ 24 with
  | 0x01 => ofPort (i / 4 / 576)
  | 0x02 => ofPort (i / 16 / 8)
  | 0x03 => ofPort (i / 48)
  | 0x05 => ofPort (i / 65 / 2)
  | 0x07 => if i / 16 < 512 then (if vfEn s (i / 16) then some (vfPart s (i / 16)) else none) else none
  | 0x0B => (slotPort s (i / 16)).map (portPart s)
  | _ => none

/-- Counters of elements that a commit gives to another partition have a new base (R506). -/
def newBases (old s : State) : State :=
  { s with count.bases := s.count.live.foldl (fun t e =>
      match counterOwner s e.1 with
      | some p => if counterOwner old e.1 = some p then t else tset 0 t e.1 e.2
      | none => t) s.count.bases }

/-- Overlay fields whose configured field changes are cleared (R482). -/
def clearOverlay (old s : State) : State :=
  let o := s.aging.overlay
  { s with aging.overlay := {
      limits := tkeep o.limits fun st _ => rf (old.cfg 0x02 st 0) 31 16 == rf (s.cfg 0x02 st 0) 31 16
      presets := tkeep o.presets fun l _ => rf (old.cfg 0x03 l 0) 3 0 == rf (s.cfg 0x03 l 0) 3 0
      rates := tkeep o.rates fun p _ => rf (portRec old p) 47 45 == rf (portRec s p) 47 45 }
           aging.notices := tkeep s.aging.notices fun p _ => rf (portRec old p) 47 45 == rf (portRec s p) 47 45 }

/-- The shapers that the records of two states may tell apart: queues, subscribers, services, ports and VFs. -/
def shaperKeys (old s : State) : List Nat :=
  let ab typ := (((old.mine typ) ++ s.mine typ).map fun e => (e.a, e.b)).eraseDups
  ((ab 0x30).flatMap fun x => [shKey 0 (x.1 * 576 + x.2), shKey 1 (x.1 * 576 + x.2)]) ++
    (ab 0x31).map (fun x => shKey 2 (x.1 * 72 + x.2)) ++ (ab 0x32).map (fun x => shKey 3 (x.1 * 8 + x.2)) ++
    (ab 0x33).map (fun x => shKey 4 x.1) ++ (List.range 512).map (fun v => shKey 6 v)

/-- A changed shaper keeps its credit; one that is created or enabled starts with credit 0 (R75, R100). -/
def commitShaper (old : State) (k : Nat) (s : State) : State :=
  if shRate old k = shRate s k ∧ shBurst old k = shBurst s k then s
  else if shRate old k = 0 then rebaseSh k 0 (newSh k s)
  else rebaseSh k (creditNow old k) s

/-- An ingress shaper at a commit (R93, R100): CUR_RATE is kept, clipped to a new ceiling and raised to a new FLOOR; without ECHO_EN it is
the ceiling. The recovery timer of one that has had no echo starts at the commit (DEDUCED, assumption 76). -/
def commitIngress (old : State) (att sub : Nat) (s : State) : State :=
  let c := ingressCeiling s att sub
  let was := curRate old att sub
  let key := att * 72 + sub
  let v := if ingEcho s att sub then max (min was c) (min c (ingFloor s att sub)) else c
  let s1 : State := match tfind s.sched.cur key with
    | some e => { s with sched.cur := tput s.sched.cur key { e with cur := v } }
    | none => if v = c then s else { s with sched.cur := tput s.sched.cur key ⟨v, none, s.now⟩ }
  let k := shKey 5 key
  if was = shRate s1 k ∧ shBurst old k = shBurst s1 k then s1
  else if was = 0 then rebaseSh k 0 (newSh k s1)
  else rebaseSh k (creditNow old k) s1

/-- Changed round robin nodes start with deficit 0 (R100): queues, services and the classes of an engine. -/
def commitDeficits (old s : State) : State :=
  let dead := (diffOf old s 0x30).map (fun x => defQueue x.1 x.2) ++ (diffOf old s 0x32).map (fun x => defSvc x.1 x.2) ++
    (diffOf old s 0x42).flatMap fun x => (List.range 4).map fun c => defClass x.1 c
  { s with sched.deficits := tkeep s.sched.deficits fun k _ => !dead.contains k }

/-- Markers that the new records enable start with full buckets (R42). -/
def commitMarkers (old s : State) : State :=
  { s with hub.markers := tkeep s.hub.markers fun k _ => rf (old.cfg 0x3C (k / 72) (k % 72)) 107 88 != 0 }

/-- Route maps: from the record, where a route or a spoke it names has changed (R206). -/
def commitRoutes (old s : State) : State :=
  forAll ((List.range 64).filter fun d => routeRec old d != routeRec s d || routeSpokes old d != routeSpokes s d) remapRoute s

/-- Owner pegs of BOOT_PEG, at the first commit after power-on or device reset (Table 8.2). -/
def bootPegs (s : State) : State :=
  if s.bridge.pegsDue then
    { s with
      bridge.pegsDue := false
      bridge.pegs := (s.mine 0x20).foldl (fun t e =>
        if rb e.data 123 then tput t (pegKey (e.a % 128) (e.b / 64) (e.b % 64)) 2 else t) s.bridge.pegs }
  else s

/-- Another open set of the device at a commit (R419). -/
def rebaseSet (old new : List CfgEntry) (epoch : Nat) (x : StagingSet) : StagingSet :=
  let ks := diffKeys old new
  if ks.any x.changed.contains then { x with conflicted := true }
  else
    let es := x.changed.foldl (fun es k =>
      cfgPut es { dev := k.1, typ := k.2.1, a := k.2.2.1, b := k.2.2.2
                  data := cfgLookup x.entries k.1 k.2.1 k.2.2.1 k.2.2.2 }) new
    let stays := x.signed && es == x.entries
    { x with entries := es, base := epoch, signed := stays, sig := if stays then x.sig else 0 }

/-- A port that a commit makes hot-plug or moves to another channel shows that channel's card; its Power Controller Control reads what it
read last, until its next reset (R155, R157, assumption 133). -/
def enterSlot (old : State) (p : Nat) (s : State) : State :=
  if portHp s p && !(portHp old p && portSlot old p == portSlot s p) && slotUp s then
    modAux p (fun a => { a with presence := (s.chan (portSlot s p)).present }) s
  else s

/-- The device's tables, all in one tick: `es` comes into force in place of what was. Power Controller Control of a port that changes its
slot stays (assumption 133). -/
def putInForce (es : List CfgEntry) (epoch : Nat) (digest : BitVec 256) (isSigned : Bool) (sig : Nat) (s0 : State) : State :=
  let was := tandemLinkUp s0
  let s := leaveOld { s0 with conf.entries := es } s0
  let s1 : State := { s with
    conf.entries := es, conf.epoch := epoch, conf.digest := digest, conf.mCfg := digest, conf.signed := isSigned, conf.sig := sig
    lanes.cadRec := (List.range 20).foldl (fun t st =>
      tset 0 t st (cfgLookup es s.dev 0x01 st 0)) s.lanes.cadRec }
  let s2 := clearOverlay s (enterNew s s1)
  let s3 := commitMarkers s (commitDeficits s (forAll (shaperKeys s s2) (commitShaper s) s2))
  let s4 := forAll ((List.range 21).flatMap fun a => (List.range 72).map fun u => (a, u))
    (fun x => commitIngress s x.1 x.2) s3
  let s5 := settlePerst (bootPegs (commitRoutes s s4))
  let s6 := if slotUp s5 && !((diffOf s s5 0x48) ++ diffOf s s5 0x49 ++ diffOf s s5 0x4A).isEmpty then loadSlotRecords s5 else s5
  let s7 := forAll (List.range 20) settleXoff (forAll (List.range 128) (enterSlot s) s6)
  settleLoops <| settleCad (noteTandem was (forAll ((List.range 128).filter fun p => portEn s7 p && portUp s7 p) collapse s7))

/-! The coordinator's commits (R420 to R422). -/

/-- The slot that the next configuration image goes to: other than the newest valid one, else A (R414 step 1). -/
def nextCfgSlot (s : State) : Bool := match newestCfg s with
  | none => false
  | some b => !b

/-- What CFG_COMMIT answers (Table 13.7). -/
def commitResponse (s : State) (c : Coord) : List Word64 :=
  let drained := if c.wait = 1 then (c.done.map (·.2)).foldl max 0 else 0
  let isSealed := c.sealedBy.contains s.dev
  let slot := if isSealed then newestCfg s == some true else nextCfgSlot s
  [BitVec.ofNat 64 c.tSwap, BitVec.ofNat 64 drained, quad [(1, 1, b2n isSealed), (0, 0, b2n slot)]]

/-- A swapped commit's command completes as its WAIT selects (R422). -/
def commitDone (c : Coord) : Bool := match c.wait with
  | 0 => true
  | 1 => c.members.all fun d => (tfind c.done d).isSome
  | _ => c.members.all c.sealedBy.contains

/-- Commands of swapped commits whose wait is over complete. -/
def settleSwapped (s : State) : State :=
  let over' := s.conf.swapped.filter commitDone
  forAll over' (fun c s => match c.commitMb with
      | some m => finishWait m waitCommit stOk true (commitResponse s c) s
      | none => s)
    { s with conf.swapped := s.conf.swapped.filter fun c => !commitDone c }

/-- A member's drain or seal is noted by the coordinator. -/
def noteDone (epoch dev : Nat) (isSealed : Bool) (drain : Nat) (s : State) : State :=
  let f (c : Coord) : Coord :=
    if c.epoch ≠ epoch then c
    else { c with
      done := if isSealed then c.done else tput c.done dev drain
      sealedBy := if isSealed && !c.sealedBy.contains dev then c.sealedBy ++ [dev] else c.sealedBy }
  settleSwapped { s with conf.coord := s.conf.coord.map f, conf.swapped := s.conf.swapped.map f }

/-- This device reports a drain or a seal of an epoch to the coordinator, in CMT_DONE (Table 14.3). -/
def reportDone (d epoch : Nat) (isSealed slot : Bool) (s : State) : State :=
  if d = s.dev then noteDone epoch s.dev isSealed s.conf.drainedAt s
  else post (.mgmt d 0x0107 [epoch, s.dev, b2n isSealed, b2n slot, s.conf.drainedAt]) s

/-- The swap: the prepared configuration comes into force on this device (R420 step 4, R419). -/
def swapNow (late : Bool) (s : State) : State :=
  match s.conf.prepared with
  | none => s
  | some p =>
    let old := s.conf.entries
    let s1 := putInForce p.entries p.epoch p.digest p.signed p.sig s
    let mine := s.conf.coord.filter fun c => p.coord == s.dev && c.committing && c.epoch == p.epoch
    let sets := match mine with
      | some c => tdel s1.conf.sets c.lock
      | none => s1.conf.sets
    let s2 : State := { s1 with
      conf.prepared := none
      conf.sets := sets.map fun e => (e.1, rebaseSet old p.entries p.epoch e.2)
      conf.before := some (coreTick s, old)
      hub.stalled := s1.hub.stalled && s1.hub.stalledTick != coreTick s
      conf.drain := s1.conf.drain ++ [{
        frames := (s.hub.frames.filter inHub).map (·.fid), epoch := p.epoch, windows := changesTypes old p.entries [0x18], access := changesTypes old p.entries [0x13, 0x20], coord := p.coord }]
      conf.drainedAt := 0
      conf.doneTo := some p.coord
      conf.lastSwap := s1.ft.count
      conf.lastLate := late
      conf.write := some (2, 0)
      conf.sealing := false
      conf.coord := if mine.isSome then none else s1.conf.coord
      conf.swapped := s1.conf.swapped ++ (mine.map fun c => { c with tSwap := s1.ft.count }).toList }
    let s3 := newBases s s2
    settleSwapped (raiseCauseAll 5 s3)

/-- COMMIT_SWAP: an armed device swaps when fabric time reaches T (R395, R420). -/
def commitSwap (s : State) : State :=
  match s.conf.prepared.bind (·.armed) with
  | some t => if t ≤ s.ft.count then swapNow false s else s
  | none => s

def execCommitSwap (dt : Time) (s : State) : Host.Outcome State Fault Refusal := run dt true commitSwap s

/-- A drain still runs: a frame that entered staging before its commit remains in the hub (R223, R274). -/
def drains (s : State) (d : Drain) : Bool := s.hub.frames.any fun f => inHub f && d.frames.contains f.fid

/-- DRAIN_DONE: every drain that is over is reported to its coordinator (R223, R274). -/
def drainDone (s : State) : State :=
  if s.conf.drain.all (drains s) then s
  else forAll (s.conf.drain.filter fun d => !drains s d) (fun d => reportDone d.coord d.epoch false (nextCfgSlot s))
    { s with conf.drain := s.conf.drain.filter (drains s), conf.drainedAt := s.ft.count }

def execDrainDone (dt : Time) (s : State) : Host.Outcome State Fault Refusal := run dt true drainDone s

/-! CFG_PREPARE (R394, R417 to R421, R424). -/

/-- The first status, in the order of R385, that applies at this device to a candidate configuration, and the failing record
(R421). `held`: another prepared configuration or commit stands in the way. -/
def candidateStatus (corrective held : Bool) (base : Nat) (es : List CfgEntry) (s : State) : Nat × RecKey :=
  if outOfPlumb s && !corrective then (stOutOfPlumb, noRec)
  else if held || (s.conf.drain.any fun d =>
      (d.windows && changesTypes s.conf.entries es [0x18]) || (d.access && changesTypes s.conf.entries es [0x13, 0x20])) then (stBusy, noRec)
  else if s.tandem.versionBad then (stInvalid, noRec)
  else match jointFail s s.dev es with
    | some k => (stInvalid, k)
    | none => match peggedChange s es with
      | some k => (stPegged, k)
      | none => if s.conf.epoch != base && !corrective then (stStale, noRec) else (stOk, noRec)

/-- The set of a prepare that comes to nothing is open again. -/
def reopen (l : Nat) (s : State) : State :=
  match tfind s.conf.sets l with
  | some x => if x.committed then s else putSet l { x with prepared := false } s
  | none => s

/-- A prepare fails: CMT_ABORT to the members, the set is open again, and its command completes (R421). -/
def failPrepare (status : Nat) (pay : List Word64) (s : State) : State :=
  match s.conf.coord with
  | some c => finishWait c.mb waitPrepare status false pay (reopen c.lock (abortPrepare s))
  | none => s

def prepareResponse (p : Prepared) : List Word64 :=
  quad [(63, 32, p.epoch)] :: (List.range 4).map fun i => BitVec.ofNat 64 (p.digest.toNat / 2 ^ (64 * i))

/-- The access control entries of a device that a candidate configuration changes. -/
def changedActs (s : State) (d : Nat) (es : List CfgEntry) : List RecKey :=
  ((diffKeys s.conf.entries es).filter fun k => k.1 == d && k.2.1 == 0x20).map (·.2)

/-- The prepare fails with the vote of member d. The record a member refused for INVALID is the first that fails there; for PEGGED the first
access control entry of that member that the change touches, since the vote names none (R386, R421; assumption 74). -/
def refusedBy (c : Coord) (p : Prepared) (d : Nat) (s : State) : State :=
  let st := tget 0 c.votes d
  let key := (if st = stInvalid then jointFail s d p.entries else firstKey (changedActs s d p.entries)).getD noRec
  failPrepare st (if st = stInvalid || st = stPegged then refusedRec s c.mb key.1 key.2.1 key.2.2 d else []) s

/-- The lowest-numbered member that has refused. -/
def firstRefusal (c : Coord) : Option Nat := c.members.find? fun d => tget 0 c.votes d != 0

/-- Once every member has voted, the lowest-numbered refusal decides; without one the command completes OK (R421). -/
def settleVotes (s : State) : State :=
  match s.conf.coord, s.conf.prepared with
  | some c, some p =>
    if c.decided || c.members.any (fun d => (tfind c.votes d).isNone) then s
    else match firstRefusal c with
      | none => finishWait c.mb waitPrepare stOk true (prepareResponse p) { s with conf.coord := some { c with decided := true } }
      | some d => refusedBy c p d s
  | _, _ => s

/-- The canonical configuration in CMT_IMAGE messages of at most 4,096 bytes, then CMT_PREPARE (R420 step 3). -/
def sendPrepare (c : Coord) (p : Prepared) (d : Nat) (s : State) : State :=
  let pieces := if p.entries.isEmpty then [[]] else chunks 102 p.entries.length p.entries
  let s1 := (pieces.foldl (fun x es => (x.1 + cfgLength es, post (.cmtImage d p.epoch x.1 es) x.2)) (0, s)).2
  post (.cmtPrepare d p.epoch p.base c.corrective (cfgLength p.entries) p.digest) s1

def cfgPrepareBody : Handler := fun r s =>
  match setLock s r with
  | none => refuse stNoLock s
  | some l =>
    let x := stageSet s l
    let plain := x.changed.isEmpty && !x.conflicted && x.entries == s.conf.entries
    let corrective := pf r 0 0 0 == 1 && plain
    let held := x.prepared || x.committed || s.conf.prepared.isSome || s.conf.coord.isSome
    if signedRequired s && !x.signed then refuse stDenied s
    else
      let v := candidateStatus corrective held s.conf.epoch x.entries s
      let pay := if v.1 = stInvalid || v.1 = stPegged then refusedRec s r.mb v.2.1 v.2.2.1 v.2.2.2 s.dev else []
      if v.1 = stOutOfPlumb || v.1 = stBusy then refuse v.1 s
      else match payloadBad r [2 ^ 64 - 2 ^ 32 + 1] with
        | some q => invalidAt q s
        | none =>
          if v.1 ≠ stOk then (.done v.1 false pay, s)
          else if x.conflicted || pf r 0 63 32 != s.conf.epoch then refuse stStale s
          else
            let p : Prepared :=
              { coord := s.dev, epoch := (s.conf.epoch + 1) % 2 ^ 32, base := s.conf.epoch, entries := x.entries
                digest := sha3 (cfgBytes x.entries), voted := true, heldUntil := s.now + 60 * oneSec, armed := none
                late := false, sig := x.sig, signed := x.signed }
            let c : Coord :=
              { epoch := p.epoch, corrective := corrective, lock := l, mb := r.mb, members := membersOf s x.entries
                votes := [(s.dev, 0)], deadline := s.now + 100 * ms, committing := false, wait := 0, swapAt := 0
                pfx := digestPfx p.digest, armed := [], done := [], sealedBy := [], tSwap := 0, commitMb := none }
            let others := c.members.filter (· != s.dev)
            let s1 := putSet l { x with prepared := true } { s with conf.prepared := some p }
            if others.isEmpty then good (prepareResponse p) { s1 with conf.coord := some { c with decided := true } }
            else (.waits waitPrepare, forAll others (sendPrepare c p) { s1 with conf.coord := some c })

def cfgPrepare : Handler := checkedBy ⟨true, true, true, false, false⟩ cfgPrepareBody

def execCfgPrepare (dt : Time) (r : Req) (s : State) : Host.Outcome State Fault Refusal :=
  run dt (okReq r) (command (isOp 0x0202) cfgPrepare r) s

/-- PREPARE_TIMEOUT: a vote is missing 100 ms after acceptance; a refusal that has come by then decides before it (R421). -/
def execPrepareTimeout (dt : Time) (s : State) : Host.Outcome State Fault Refusal :=
  run dt true (fun s => match s.conf.coord with
    | some c =>
      if !c.decided && decide (c.deadline ≤ s.now) then match firstRefusal c, s.conf.prepared with
        | some d, some p => refusedBy c p d s
        | _, _ => failPrepare stTimeout [] s
      else s
    | none => s) s

/-! CFG_COMMIT and CFG_ABORT (R395, R396). -/

def cfgCommitBody : Handler := fun r s =>
  match setLock s r with
  | none => refuse stNoLock s
  | some l =>
    let t := if (rPay r).getD 2 0 = 0 then s.ft.count + ms else ((rPay r).getD 2 0).toNat
    if !timeLocked s then refuse stBusy s
    else match payloadBad r [2 ^ 64 - 2 ^ 32 + 3, 2 ^ 64 - 1, 2 ^ 64 - 1] with
      | some q => invalidAt q s
      | none =>
        if pf r 0 1 0 = 3 then invalidAt 0 s
        else if t < s.ft.count + 100 * us || s.ft.count + 10 * oneSec < t then invalidAt 2 s
        else match s.conf.coord, s.conf.prepared with
          | some c, some p =>
            if c.lock ≠ l || c.committing || !c.decided || decide (p.heldUntil ≤ s.now) then refuse stStale s
            else if ((rPay r).getD 1 0).toNat ≠ c.pfx then invalidAt 1 s
            else if pf r 0 63 32 ≠ c.epoch then refuse stStale s
            else
              let c1 := { c with committing := true, wait := pf r 0 1 0, swapAt := t, commitMb := some r.mb, armed := [s.dev] }
              let s1 : State := putSet l { stageSet s l with committed := true }
                { s with conf.coord := some c1, conf.prepared := some { p with armed := some t } }
              (.waits waitCommit, forAll (c.members.filter (· != s.dev)) (fun d =>
                post (.mgmt d 0x0104 [c.epoch, c.pfx, t])) s1)
          | _, _ => refuse stStale s

def cfgCommit : Handler := checkedBy ⟨true, true, true, false, false⟩ cfgCommitBody

def execCfgCommit (dt : Time) (r : Req) (s : State) : Host.Outcome State Fault Refusal :=
  run dt (okReq r) (command (isOp 0x0203) cfgCommit r) s

def cfgAbortBody : Handler := fun r s =>
  match setLock s r with
  | none => refuse stNoLock s
  | some l => match payloadBad r [2 ^ 64 - 2 ^ 32] with
    | some q => invalidAt q s
    | none =>
      let x := stageSet s l
      let n := pf r 0 63 32
      if x.committed then refuse stStale s
      else if x.prepared then
        (if (s.conf.coord.map (·.epoch)) = some n then good [] (dropSet l s) else refuse stStale s)
      else if n = 0 then good [] (dropSet l s)
      else refuse stStale s

def cfgAbort : Handler := checkedBy ⟨true, true, true, false, false⟩ cfgAbortBody

def execCfgAbort (dt : Time) (r : Req) (s : State) : Host.Outcome State Fault Refusal :=
  run dt (okReq r) (command (isOp 0x0204) cfgAbort r) s

/-! The member's side (R421, R422). -/

/-- CMT_IMAGE: a part of the canonical configuration at a byte offset. -/
def cmtImage (src epoch offset : Nat) (es : List CfgEntry) (s : State) : State :=
  if offset = 0 then { s with conf.incoming := es, conf.incomingOf := (src, epoch) }
  else if s.conf.incomingOf = (src, epoch) ∧ cfgLength s.conf.incoming = offset then
    { s with conf.incoming := s.conf.incoming ++ es }
  else s

def execCmtImage (dt : Time) (src epoch offset : Nat) (entries : List CfgEntry) (s : State) :
    Host.Outcome State Fault Refusal :=
  run dt (okDev src) (onlyIf (mcRuns s) (cmtImage src epoch offset entries)) s

/-- CMT_PREPARE: the member checks the image it received and votes. -/
def cmtPrepare (src epoch base : Nat) (corrective : Bool) (length : Nat) (digest : BitVec 256) (s : State) : State :=
  let es := s.conf.incoming
  let s1 : State := match s.conf.prepared with
    | some p => if p.coord = src ∧ p.armed.isNone then { s with conf.prepared := none } else s
    | none => s
  let v := candidateStatus corrective s1.conf.prepared.isSome base es s1
  let whole := s.conf.incomingOf == (src, epoch) && cfgLength es == length && sha3 (cfgBytes es) == digest && cfgCanon es
  let st := if v.1 = stOutOfPlumb ∨ v.1 = stBusy then v.1 else if whole then v.1 else stInvalid
  let p : Prepared :=
    { coord := src, epoch := epoch, base := base, entries := es, digest := sha3 (cfgBytes es), voted := true
      heldUntil := s.now + 60 * oneSec, armed := none, late := false, sig := 0, signed := false }
  post (.mgmt src 0x0103 [epoch, s.dev, st]) (if st = stOk then { s1 with conf.prepared := some p } else s1)

def execCmtPrepare (dt : Time) (src epoch base : Nat) (corrective : Bool) (length : Nat) (digest : BitVec 256) (s : State) :
    Host.Outcome State Fault Refusal :=
  run dt (okDev src) (onlyIf (mcRuns s) (cmtPrepare src epoch base corrective length digest)) s

/-- CMT_VOTE: the coordinator counts a member's first vote. -/
def cmtVote (epoch dev status : Nat) (s : State) : State :=
  match s.conf.coord with
  | some c =>
    if c.epoch = epoch && !c.decided && c.members.contains dev && (tfind c.votes dev).isNone then
      settleVotes { s with conf.coord := some { c with votes := tput c.votes dev status } }
    else s
  | none => s

def execCmtVote (dt : Time) (epoch dev status : Nat) (s : State) : Host.Outcome State Fault Refusal :=
  run dt (okDev dev) (onlyIf (mcRuns s) (cmtVote epoch dev status)) s

/-- A member's CMT_ARMED. -/
def sendArmed (src epoch status : Nat) (late : Bool) (swapped : Nat) (s : State) : State :=
  post (.mgmt src 0x0105 [epoch, s.dev, status, b2n late, swapped]) s

/-- CMT_COMMIT: a matching prepared configuration is armed, or swapped at once when T has passed; a device without one answers
STALE_EPOCH and reports the newer epoch (R422, R425, R434). -/
def cmtCommit (src epoch pfx t : Nat) (s : State) : State :=
  match s.conf.prepared.filter fun p => p.coord == src && p.epoch == epoch && digestPfx p.digest == pfx with
  | some p =>
    if p.armed.isSome then sendArmed src epoch stOk false 0 s
    else if t ≤ s.ft.count then
      let s1 := swapNow true s
      sendArmed src epoch stOk true s1.conf.lastSwap s1
    else sendArmed src epoch stOk false 0 { s with conf.prepared := some { p with armed := some t } }
  | none =>
    if s.conf.epoch = epoch ∧ s.conf.doneTo = some src then sendArmed src epoch stOk s.conf.lastLate s.conf.lastSwap s
    else sawEpoch epoch (sendArmed src epoch stStale false 0 s)

def execCmtCommit (dt : Time) (src epoch pfx swapTime : Nat) (s : State) : Host.Outcome State Fault Refusal :=
  run dt (okDev src) (onlyIf (mcRuns s) (cmtCommit src epoch pfx swapTime)) s

/-- CMT_ARMED: the member needs no further CMT_COMMIT. -/
def execCmtArmed (dt : Time) (epoch dev _status : Nat) (_late : Bool) (_swapTime : Nat) (s : State) :
    Host.Outcome State Fault Refusal :=
  run dt (okDev dev) (fun s => { s with conf.coord := s.conf.coord.map fun c =>
    if c.epoch = epoch && c.committing && !c.armed.contains dev
    then { c with armed := c.armed ++ [dev] } else c }) s

/-- CMT_ABORT: a prepared configuration that is not armed is given up (R421, R434). -/
def execCmtAbort (dt : Time) (src epoch : Nat) (s : State) : Host.Outcome State Fault Refusal :=
  run dt (okDev src) (fun s => match s.conf.prepared with
    | some p => if p.coord = src ∧ p.epoch = epoch ∧ p.armed.isNone then { s with conf.prepared := none } else s
    | none => s) s

/-- CMT_DONE: a member reports its drain, or its seal (R420 steps 5 and 6). -/
def execCmtDone (dt : Time) (epoch dev : Nat) (isSealed : Bool) (_slot drainTime : Nat) (s : State) :
    Host.Outcome State Fault Refusal :=
  run dt (okDev dev) (noteDone epoch dev isSealed drainTime) s

/-- CMT_COMMIT_REPEAT: every 100 µs to each member that has not answered, until T passes (R420 step 4). -/
def execCmtCommitRepeat (dt : Time) (s : State) : Host.Outcome State Fault Refusal :=
  run dt true (fun s => match s.conf.coord with
    | some c =>
      if c.committing && decide (s.ft.count < c.swapAt) then
        forAll (c.members.filter fun d => !c.armed.contains d) (fun d => post (.mgmt d 0x0104 [c.epoch, c.pfx, c.swapAt])) s
      else s
    | none => s) s

/-- PREPARED_HOLD_EXPIRY: 60 s after its vote a member gives a prepared configuration up; at the coordinator its set is open
again (R421). -/
def holdExpiry (s : State) : State :=
  match s.conf.prepared with
  | some p =>
    if p.armed.isNone && decide (p.heldUntil ≤ s.now) then
      match s.conf.coord with
      | some c => if p.coord = s.dev then reopen c.lock { s with conf.prepared := none, conf.coord := none }
        else { s with conf.prepared := none }
      | none => { s with conf.prepared := none }
    else s
  | none => s

def execPreparedHoldExpiry (dt : Time) (s : State) : Host.Outcome State Fault Refusal := run dt true holdExpiry s

/-- COMMIT_WAIT_TIMEOUT: a member has not reported by T + 3 s; the swap stands (R422). -/
def commitWaitTimeout (s : State) : State :=
  let late (c : Coord) := decide (c.swapAt + 3 * oneSec ≤ s.ft.count)
  forAll (s.conf.swapped.filter late) (fun c s => match c.commitMb with
      | some m => finishWait m waitCommit stTimeout true [] s
      | none => s)
    { s with conf.swapped := s.conf.swapped.filter fun c => !late c }

def execCommitWaitTimeout (dt : Time) (s : State) : Host.Outcome State Fault Refusal := run dt true commitWaitTimeout s

/-! The flash write (R414, R420 steps 5 and 6). -/

def putCfgSlot (b : Bool) (c : CfgSlot) (s : State) : State :=
  if b then { s with conf.cfgB := c } else { s with conf.cfgA := c }

/-- CONFIG_IMAGE_WRITE: erase, body, header; SEAL is left erased (R414 steps 1 to 4). -/
def configImageWrite (s : State) : State :=
  if s.conf.write.isSome && !s.conf.sealing && mcRuns s then
    let b := nextCfgSlot s
    let seq := match newestCfg s with
      | some n => ((s.cfgSlot n).seq + 1) % 2 ^ 32
      | none => 1
    emit (.flash 1 (b2n b)) (emit (.flash 0 (b2n b)) (putCfgSlot b
      { magic := true, header := true, seq := seq, epoch := s.conf.epoch, signed := s.conf.signed, sig := if s.conf.signed then s.conf.sig else 0
        digest := s.conf.digest, body := s.conf.entries, sealWord := none }
      { s with conf.write := some (b2n b, seq), conf.sealing := true }))
  else s

def execConfigImageWrite (dt : Time) (s : State) : Host.Outcome State Fault Refusal := run dt true configImageWrite s

/-- SEAL_WRITE: SEAL, and CMT_DONE with sealed set (R414 step 5, R420 step 6). -/
def sealWrite (s : State) : State :=
  match s.conf.write with
  | some (b, seq) =>
    if s.conf.sealing && mcRuns s then
      let s1 := emit (.flash 2 b) (putCfgSlot (b == 1) { s.cfgSlot (b == 1) with sealWord := some seq }
        { s with conf.write := none, conf.sealing := false })
      match s.conf.doneTo with
      | some d => reportDone d s.conf.epoch true (b == 1) s1
      | none => s1
    else s
  | none => s

def execSealWrite (dt : Time) (s : State) : Host.Outcome State Fault Refusal := run dt true sealWrite s

end Sys2Proof.Machine
end

