-- ==== Sys2Proof/Machine/Central.lean ====
section
/-! DEFINITION. The central commands over locks, pegs, fences, slot channels, the device log and engines (R397 to R400, R403,
Tables 13.8, 13.9 and the like of Table 13.11). Where Table 13.11 gives a command no layout, the layout is the model's
(assumption 71). -/

namespace Sys2Proof.Machine

/-- One cycle of CLK_HALF (750 MHz), rounded up. -/
def halfCycle : Time := 1366

/-! Locks (R376 to R379, R397, Table 13.8). -/

/-- A partition mailbox names only its own partition's lock, the debug mailbox none (R397, Table 12.3). -/
def mayLock (mb l : Nat) : Bool := if mb < 64 then l == 1 + mb else mb != 66

def lockAcquireBody : Handler := fun r s =>
  let l := pf r 0 63 56
  let wait := pf r 0 31 0
  if !mayLock r.mb l then refuse stDenied s
  else match payloadBad r [2 ^ 64 - 2 ^ 56 + (2 ^ 32 - 1)] with
    | some q => invalidAt q s
    | none =>
      if 64 < l ∨ 10000000 < wait then invalidAt 0 s
      else if holdsLock s r.mb l then good [BitVec.ofNat 64 (findLock s l).granted] s
      else
        let k := findLock s l
        let w := (r.mb, s.ft.count, s.now + max (wait * us) halfCycle)
        (.waits waitLock, putLock l { k with waiters := k.waiters.filter (fun x => x.1 != r.mb) ++ [w] } s)

def lockAcquire : Handler := checkedBy ⟨true, true, true, false, true⟩ lockAcquireBody

def execLockAcquire (dt : Time) (r : Req) (s : State) : Host.Outcome State Fault Refusal :=
  run dt (okReq r) (command (isOp 0x0210) lockAcquire r) s

/-- LOCK_RELEASE: LOCK in [63:56], FORCE in [55]. A revocation of partition lock 1 + p also ends p's locked sequences (R248, R378, assumption
163). -/
def lockReleaseBody : Handler := fun r s =>
  let l := pf r 0 63 56
  let force := pf r 0 55 55 == 1
  if (force && r.mb != 64) || !mayLock r.mb l then refuse stDenied s
  else if !force && !(holdsLock s r.mb l) && decide (l ≤ 64) then refuse stNoLock s
  else match payloadBad r [2 ^ 64 - 2 ^ 55] with
    | some q => invalidAt q s
    | none =>
      if 64 < l then invalidAt 0 s
      else good [] (releaseLock l (onlyIf (force && decide (1 ≤ l)) (endSeqsWhere fun q => q.part + 1 == l) s))

def lockRelease : Handler := checkedBy ⟨true, true, true, false, true⟩ lockReleaseBody

def execLockRelease (dt : Time) (r : Req) (s : State) : Host.Outcome State Fault Refusal :=
  run dt (okReq r) (command (fun r => isOp 0x0211 r && pf r 0 55 55 == 0) lockRelease r) s

/-- LOCK_REVOKE: LOCK_RELEASE with FORCE (R378). -/
def execLockRevoke (dt : Time) (r : Req) (s : State) : Host.Outcome State Fault Refusal :=
  run dt (okReq r) (command (fun r => isOp 0x0211 r && pf r 0 55 55 == 1) lockRelease r) s

/-- LOCK_PRIO_SET: MAILBOX in [63:56], LOCK_PRIO in [3:0], through mailbox 64 or 65 only (R377). -/
def lockPrioSet : Handler := checkedBy ⟨false, true, true, false, true⟩ fun r s =>
  match payloadBad r [2 ^ 64 - 2 ^ 56 + 15] with
  | some q => invalidAt q s
  | none =>
    if 65 < pf r 0 63 56 then invalidAt 0 s
    else good [] { s with mgmt.prioNext := s.mgmt.prioNext ++ [(pf r 0 63 56, pf r 0 3 0, halfTick s)] }

def execLockPrioSet (dt : Time) (r : Req) (s : State) : Host.Outcome State Fault Refusal :=
  run dt (okReq r) (command (isOp 0x0212) lockPrioSet r) s

/-- LOCK_STATUS: LOCK in [63:56]. The answer holds the owner and T_GRANT, then a mailbox and a stamp for each waiter. -/
def lockStatus : Handler := checkedBy ⟨true, true, true, true, false⟩ fun r s =>
  let l := pf r 0 63 56
  if decide (r.mb < 64) && l != 1 + r.mb then refuse stDenied s
  else match payloadBad r [2 ^ 64 - 2 ^ 56] with
    | some q => invalidAt q s
    | none =>
      if 64 < l then invalidAt 0 s
      else
        let k := findLock s l
        good ([quad [(63, 63, b2n k.owner.isSome), (62, 56, k.owner.getD 0), (31, 0, k.waiters.length)],
          BitVec.ofNat 64 (if k.owner.isSome then k.granted else 0)] ++
          k.waiters.flatMap fun w => [quad [(62, 56, w.1)], BitVec.ofNat 64 w.2.1]) s

def execLockStatus (dt : Time) (r : Req) (s : State) : Host.Outcome State Fault Refusal :=
  run dt (okReq r) (command (isOp 0x0213) lockStatus r) s

/-! Pegs (R268 to R270, R398). -/

/-- The entries of a table that are pegged with at least a given peg. -/
def pegMap (s : State) (port table least : Nat) : Word64 :=
  BitVec.ofNat 64 (pack (((List.range 64).filter fun i => decide (least ≤ pegOf s port table i)).map fun i => (i, i, 1)))

/-- R268: a partition mailbox may peg entries of its own ports without OWNER_ONLY. -/
def mayPeg (s : State) (mb dev port table i : Nat) : Bool :=
  mb == 64 || (recPart s 0x20 (dev * 128 + port) == some mb &&
    !rb (cfgLookup s.conf.entries dev 0x20 (dev * 128 + port) (table * 64 + i)) 126)

/-- A prepared configuration changes an entry of this device (R270). -/
def preparedChanges (s : State) (port table i : Nat) : Bool := match s.conf.prepared with
  | some p => cfgLookup p.entries s.dev 0x20 (s.dev * 128 + port) (table * 64 + i) != actEntry s port table i
  | none => false

def actPegBody : Handler := fun r s =>
  let dev := pf r 0 63 58
  let port := pf r 0 57 51
  let table := pf r 0 50 50
  let first := pf r 0 49 44
  let last := pf r 0 43 38
  let es := List.range' first (last + 1 - first)
  let here := dev == s.dev
  if es.any fun i => !mayPeg s r.mb dev port table i then refuse stDenied s
  else if here && es.any (preparedChanges s port table) then refuse stBusy s
  else match payloadBad r [2 ^ 64 - 2 ^ 38] with
    | some q => invalidAt q s
    | none =>
      if last < first ∨ (!here ∧ !routeEn s dev) then invalidAt 0 s
      else if !here then
        (.waits waitPeg, emit (.actPeg dev r.mb ((rPay r).getD 0 0))
          { s with mgmt.pegWait := s.mgmt.pegWait ++ [(r.mb, s.now + 10 * ms)] })
      else match es.find? fun i => r.mb != 64 && pegOf s port table i == 2 with
        | some i => (.done stPegged false (refusedRec s r.mb 0x20 (dev * 128 + port) (table * 64 + i) 0), s)
        | none =>
          let peg := if r.mb = 64 then 2 else 1
          let s1 : State := { s with bridge.pegs := es.foldl (fun t i =>
            tput t (pegKey port table i) (max peg (tget 0 t (pegKey port table i)))) s.bridge.pegs }
          good [pegMap s1 port table 1, pegMap s1 port table 2] s1

def actPeg : Handler := checkedBy ⟨true, true, false, false, true⟩ actPegBody

/-- A peg that another device's mailbox has issued arrives here: applied or refused as that mailbox's row says, and its outcome goes back
(R268, R398). -/
def carriedPeg (d : Nat) (r : Req) (s : State) : State :=
  if !isOp 0x0502 r || !coreRuns s || pf r 0 63 58 != s.dev then s
  else match actPegBody r s with
    | (.done st _ pay, s1) => emit (.actPegOutcome d r.mb st pay) s1
    | (.waits _, _) => s

def execActPeg (dt : Time) (r : Req) (s : State) : Host.Outcome State Fault Refusal :=
  run dt (okReq r) (match r.carried with
    | some d => carriedPeg d r
    | none => command (isOp 0x0502) actPeg r) s

/-- A mailbox waits for a peg on another device no longer. -/
def endPegWait (mb : Nat) (s : State) : State :=
  { s with mgmt.pegWait := s.mgmt.pegWait.filter fun w => w.1 != mb }

/-- ACT_PEG_OUTCOME: the command completes with that device's outcome (R398); where it refuses, the first quadword is the refusal
quadword that it reports (R386). -/
def execActPegOutcome (dt : Time) (mb status pegged owner : Nat) (s : State) : Host.Outcome State Fault Refusal :=
  run dt (okMb mb) (fun s =>
    if s.mgmt.pegWait.any fun w => w.1 == mb then
      finishWait mb waitPeg status (status == stOk)
        (if status = stOk then [BitVec.ofNat 64 pegged, BitVec.ofNat 64 owner]
         else if status = stPegged || status = stInvalid then [BitVec.ofNat 64 pegged] else []) (endPegWait mb s)
    else s) s

/-- ACT_PEG_REMOTE_TIMEOUT: no outcome within 10 ms (R398). -/
def execActPegRemoteTimeout (dt : Time) (mb : Nat) (s : State) : Host.Outcome State Fault Refusal :=
  run dt (okMb mb) (fun s =>
    if s.mgmt.pegWait.any fun w => w.1 == mb && decide (w.2 ≤ s.now) then
      finishWait mb waitPeg stTimeout false [] (endPegWait mb s)
    else s) s

/-- An entry in force as ACT_READ returns it: its record, with PEG. -/
def pegQuads (s : State) (dev port table i peg : Nat) : List Word64 :=
  let e := cfgLookup s.conf.entries dev 0x20 (dev * 128 + port) (table * 64 + i)
  [BitVec.ofNat 64 e.toNat, BitVec.ofNat 64 (e.toNat / 2 ^ 64) ||| quad [(61, 60, peg)]]

/-- ACT_READ: DEV, PORT, TABLE, FIRST and LAST as in ACT_PEG. The answer holds each entry in force with its PEG; what is pegged at
another device is its own state, here a free value of 0 to 2 (assumption 4). -/
def actRead : Handler := checkedBy ⟨true, true, true, true, false⟩ fun r s =>
  let dev := pf r 0 63 58
  let port := pf r 0 57 51
  let first := pf r 0 49 44
  if decide (r.mb < 64) && recPart s 0x20 (dev * 128 + port) != some r.mb then refuse stDenied s
  else match payloadBad r [2 ^ 64 - 2 ^ 38] with
    | some q => invalidAt q s
    | none =>
      let n := pf r 0 43 38 + 1 - first
      if pf r 0 43 38 < first then invalidAt 0 s
      else if dev = s.dev then
        good ((List.range n).flatMap fun i =>
          pegQuads s dev port (pf r 0 50 50) (first + i) (pegOf s port (pf r 0 50 50) (first + i))) s
      else
        good ((List.range n).flatMap fun i => pegQuads s dev port (pf r 0 50 50) (first + i) (farPeg s i))
          { s with freeCtr := s.freeCtr + n }

def execActRead (dt : Time) (r : Req) (s : State) : Host.Outcome State Fault Refusal :=
  run dt (okReq r) (command (isOp 0x0503) actRead r) s

/-! Fences (R399). -/

def fenceClear : Handler := checkedBy ⟨true, true, true, false, true⟩ fun r s =>
  if rScope r ≠ 1 then invalidHeader s
  else match payloadBad r [2 ^ 64 - 2 ^ 50] with
    | some q => invalidAt q s
    | none =>
      let hit (k : Nat × Nat × Nat) : Bool :=
        k.1 == rScopeId r && (pf r 0 50 50 == 1 || (k.2.1 == pf r 0 63 58 && k.2.2 == pf r 0 57 51))
      good [quad [(31, 0, (s.bridge.fences.filter hit).length)]] (endFences hit s)

def execFenceClear (dt : Time) (r : Req) (s : State) : Host.Outcome State Fault Refusal :=
  run dt (okReq r) (command (isOp 0x0A02) fenceClear r) s

/-! SLOT_POWER (R158, R353, R400). -/

/-- A mailbox may command a channel: for a partition, a port of it names the channel and no hot-plug port does; CLEAR_UNUSABLE
belongs to mailbox 64. -/
def mayPower (s : State) (mb act ch : Nat) : Bool :=
  (if mb < 64 then (partPorts s mb).any (fun q => portSlot s q == ch && !portHp s q) && (slotPort s ch).isNone else true) &&
    (act != 3 || mb == 64)

def slotPowerBody : Handler := fun r s =>
  let ch := pf r 0 63 58
  let act := pf r 0 57 55
  if !mayPower s r.mb act ch then refuse stDenied s
  else if !slotUp s then refuse stBusy s
  else match payloadBad r [2 ^ 64 - 2 ^ 55] with
    | some q => invalidAt q s
    | none =>
      if 3 < act then invalidAt 0 s
      else (.waits waitSlot, modChanAux ch (fun a => { a with requests := a.requests ++ [(act, some r.mb)] }) s)

def slotPower : Handler := checkedBy ⟨true, true, false, false, false⟩ slotPowerBody

def isSlot (act : Nat) (r : Req) : Bool := isOp 0x0801 r && pf r 0 57 55 == act

def execSlotPowerOn (dt : Time) (r : Req) (s : State) : Host.Outcome State Fault Refusal :=
  run dt (okReq r) (command (isSlot 0) slotPower r) s
def execSlotPowerOff (dt : Time) (r : Req) (s : State) : Host.Outcome State Fault Refusal :=
  run dt (okReq r) (command (isSlot 1) slotPower r) s
def execClearLatch (dt : Time) (r : Req) (s : State) : Host.Outcome State Fault Refusal :=
  run dt (okReq r) (command (isSlot 2) slotPower r) s
def execClearUnusable (dt : Time) (r : Req) (s : State) : Host.Outcome State Fault Refusal :=
  run dt (okReq r) (command (isSlot 3) slotPower r) s

/-! The device log (R320, R323, R373, R403). -/

/-- Alerts up to a record are acknowledged; with none left OOB_ALERT_N rises (R373). -/
def ackAlerts (n : Nat) (s : State) : State :=
  let s1 : State := { s with
    errs.alertSeq := s.errs.alertSeq.filter fun q => serialNewer q n
    errs.alertAck := n
    errs.alertNoRec := false }
  if s1.errs.alertSeq.isEmpty && s1.mgmt.oob.alertLow then emit (.alertPin false) { s1 with mgmt.oob.alertLow := false } else s1

def errReadBody : Handler := fun r s =>
  let from' := pf r 0 63 32
  let most := pf r 0 31 24
  let ack := pf r 0 0 0 == 1
  if ack && r.mb != 64 then refuse stDenied s
  else match payloadBad r [2 ^ 64 - 2 ^ 24 + 1] with
    | some q => invalidAt q s
    | none =>
      if most = 0 ∨ (!rDmaOut r ∧ 62 < most) then invalidAt 0 s
      else
        let held := s.errs.log.filter fun e => e.seq == from' || serialNewer e.seq from'
        let seen := held.filter fun e => decide (64 ≤ r.mb) || s.errs.copies.contains (e.seq, r.mb)
        let got := seen.take most
        let gap := match s.errs.log.head? with
          | some e => serialNewer e.seq from'
          | none => false
        let next := if held.isEmpty then from'
          else if got.length = most then match got.getLast? with
            | some e => (e.seq + 1) % 2 ^ 32
            | none => from'
          else s.errs.seq
        let first := match got.head? with
          | some e => e.seq
          | none => from'
        let s1 := match got.getLast? with
          | some e => if ack then ackAlerts e.seq s else s
          | none => s
        good ([quad [(63, 32, first), (31, 24, got.length), (23, 23, b2n gap)], quad [(63, 32, next)]] ++
          got.flatMap recordQuads) s1

def errRead : Handler := checkedBy ⟨true, true, true, true, false⟩ errReadBody

def execErrRead (dt : Time) (r : Req) (s : State) : Host.Outcome State Fault Refusal :=
  run dt (okReq r) (command (fun r => isOp 0x0A01 r && pf r 0 0 0 == 0) errRead r) s
def execErrReadAck (dt : Time) (r : Req) (s : State) : Host.Outcome State Fault Refusal :=
  run dt (okReq r) (command (fun r => isOp 0x0A01 r && pf r 0 0 0 == 1) errRead r) s

/-! Containment and engine tests (R304, R317). -/

/-- C3 containment of a partition on this device (Table 10.5). -/
def containHere (p : Nat) (s : State) : State :=
  let s1 := modPart p (fun q => { q with contained := true }) (forAll (partPorts s p) containPort s)
  let s2 := if partHome s1 p = s1.dev then settleLoops (startFlr (512 + p) s1) else s1
  func0Msg p .errFatal s2

/-- The devices other than this one that hold ports of a partition, or are its home. -/
def containDevs (s : State) (p : Nat) : List Nat :=
  ((rangeDevs s p ++ [partHome s p]).filter (· != s.dev)).eraseDups

/-- C3 containment by command: on this device, and told to the others (Table 10.5, assumption 44). -/
def containPartition (p : Nat) (s : State) : State :=
  let s1 := containHere p s
  forAll (containDevs s1 p) (fun d => emit (.contain d p)) (record [p] { devRec s1 0x0B04 3 0 0 with dstPart := some p } s1)

/-- ERR_RECORD: HOME_DEV writes a record of its partition to the ring, not to its own log (R321). By that of a partition contained
elsewhere it learns to contain the partition itself (assumption 44). -/
def execErrRecord (dt : Time) (p : Nat) (r : ErrRec) (s : State) : Host.Outcome State Fault Refusal :=
  run dt (okPart p) (fun s =>
    if partHome s p ≠ s.dev then s
    else
      let s1 := signalRecord p r (ringWrite p r s)
      if r.cause = 0x0B04 && !(s.part p).contained then containHere p s1 else s1) s

/-- PARTITION_CONTAIN: the partition is the header's scope. -/
def partitionContain : Handler := checkedBy ⟨false, true, false, false, false⟩ fun r s =>
  if rScope r ≠ 1 then invalidHeader s
  else if partEn s (rScopeId r) then good [] (containPartition (rScopeId r) s)
  else invalidHeader s

def execPartitionContain (dt : Time) (r : Req) (s : State) : Host.Outcome State Fault Refusal :=
  run dt (okReq r) (command (isOp 0x0A04) partitionContain r) s

/-- ENGINE_TEST: ENGINE in [63:62], the drain limit in µs in [31:0], 1,000 to 10,000,000 (R304). With another engine out of service it
completes BUSY (R304, Table 9.14). -/
def engineTest : Handler := checkedBy ⟨false, true, true, false, false⟩ fun r s =>
  let e := pf r 0 63 62
  if !holdsLock s r.mb 0 then refuse stNoLock s
  else if (List.range 4).any fun i => (s.engine i).drainMb.isSome || (i != e && !(s.engine i).inService) then refuse stBusy s
  else match payloadBad r [2 ^ 64 - 2 ^ 62 + (2 ^ 32 - 1)] with
    | some q => invalidAt q s
    | none =>
      if within 1000 10000000 (pf r 0 31 0) then
        (.waits waitEngine, rebind e (modEngine e (fun x => { x with drainMb := some r.mb, drainUntil := s.now + pf r 0 31 0 * us }) s))
      else invalidAt 0 s

def execEngineTest (dt : Time) (r : Req) (s : State) : Host.Outcome State Fault Refusal :=
  run dt (okReq r) (command (isOp 0x0702) engineTest r) s

end Sys2Proof.Machine
end

