-- ==== Sys2Proof/Machine/Measure.lean ====
section
/-! DEFINITION. Snapshots, the counter view, bandwidth windows and loop-backs (chapter 18, R401, R402, R404, R512 to R518). -/

namespace Sys2Proof.Machine

/-! Snapshots (R401, R500 to R504). -/

/-- The other devices of the domain: those that route records name. -/
def domainDevs (s : State) : List Nat := (List.range 64).filter fun d => d != s.dev && routeEn s d

/-- A partition's previous snapshot was accepted less than 10 ms ago (R504). -/
def snapTooSoon (s : State) (mb : Nat) : Bool := decide (mb < 64) && match (s.part mb).lastSnap with
  | some t => !s.since t (10 * ms)
  | none => false

/-- A snapshot of the device is pending or copying, or its command waits for other devices (R401). -/
def snapBusy (s : State) : Bool := s.count.pending.isSome || s.count.copying || s.count.snapMb.isSome

/-- SNAPSHOT: FABRIC in [0] of quadword 1, T in quadword 0, 0 for 100 µs from now (R401, R503). A fabric snapshot of a device that is not
time-locked is BUSY, as the manual names no status for it (DEDUCED, assumption 83). -/
def snapshotBody : Handler := fun r s =>
  let fabric := pf r 1 0 0 == 1
  let t0 := pf r 0 63 0
  let t := if t0 = 0 then s.ft.count + 100 * us else t0
  if fabric && r.mb != 64 && r.mb != 65 then refuse stDenied s
  else if snapBusy s || snapTooSoon s r.mb || (fabric && !timeLocked s) then refuse stBusy s
  else match payloadBad r [2 ^ 64 - 1, 1] with
    | some q => invalidAt q s
    | none =>
      if t < s.ft.count ∨ s.ft.count + 10 * oneSec < t then invalidAt 0 s
      else
        let far := if fabric then domainDevs s else []
        let s1 : State := { s with
          count.pending := some t, count.snapMb := some r.mb, count.snapFabric := fabric, count.snapWait := s.dev :: far
          count.snapLatest := 0, count.snapStale := false, count.snapAt := t, count.snapReply := none }
        let s2 := if r.mb < 64 then modPart r.mb (fun q => { q with lastSnap := some s.now }) s1 else s1
        (.waits waitSnapshot, forAll far (fun d => post (.mgmt d 0x0501 [t])) s2)

def snapshot : Handler := checkedBy ⟨true, true, true, false, false⟩ snapshotBody

def execSnapshot (dt : Time) (r : Req) (s : State) : Host.Outcome State Fault Refusal :=
  run dt (okReq r) (command (isOp 0x0901) snapshot r) s

/-- The command completes when every device has answered; a device that took none makes it STALE_EPOCH (R503). -/
def endSnapshot (status : Nat) (s : State) : State :=
  match s.count.snapMb with
  | some m =>
    finishWait m waitSnapshot status true
      [BitVec.ofNat 64 s.count.snapAt, BitVec.ofNat 64 s.count.snapLatest, quad [(31, 0, s.count.snapId)]]
      { s with count.snapMb := none, count.snapWait := [] }
  | none => s

/-- One device's answer: its T_COPIED, or none when it was not time-locked at T. -/
def snapAnswer (dev : Nat) (copied : Option Nat) (s : State) : State :=
  if !s.count.snapWait.contains dev then s
  else
    let s1 : State := { s with
      count.snapWait := s.count.snapWait.filter (· != dev)
      count.snapLatest := max s.count.snapLatest (copied.getD 0)
      count.snapStale := s.count.snapStale || copied.isNone }
    if s1.count.snapWait.isEmpty then endSnapshot (if s1.count.snapStale then stStale else stOk) s1 else s1

/-- This device's own answer: to its own command, or to the device that asked. -/
def ownSnapAnswer (copied : Option Nat) (s : State) : State :=
  let s1 := snapAnswer s.dev copied s
  match s1.count.snapReply with
  | some d => post (.mgmt d 0x0502 (match copied with
      | some t => [s1.dev, t]
      | none => [s1.dev, stStale, 0])) { s1 with count.snapReply := none }
  | none => s1

/-- SNAPSHOT_TIME: the snapshot holds every counter's value at T (R500 to R502). -/
def snapshotTime (s : State) : State :=
  match s.count.pending with
  | some t =>
    if s.ft.count < t then s
    else if s.count.snapFabric && !timeLocked s then ownSnapAnswer none { s with count.pending := none }
    else { s with
      count.pending := none, count.snap := s.count.live, count.snapInvalid := s.count.invalid, count.tSnap := t
      count.tCopied := 0, count.viewState := 1, count.copying := true }
  | none => s

def execSnapshotTime (dt : Time) (s : State) : Host.Outcome State Fault Refusal := run dt true snapshotTime s

/-- SNAPSHOT_COPY_DONE (R501). -/
def snapshotCopied (s : State) : State :=
  if s.count.copying then
    ownSnapAnswer (some s.ft.count) (raiseCauseAll 4 { s with
      count.copying := false, count.tCopied := s.ft.count, count.snapId := (s.count.snapId + 1) % 2 ^ 32, count.viewState := 2 })
  else s

def execSnapshotCopyDone (dt : Time) (s : State) : Host.Outcome State Fault Refusal := run dt true snapshotCopied s

/-- SNAP_REQ: this device takes the snapshot of T and answers (R503). While another snapshot holds it, it gives no answer. -/
def execSnapReq (dt : Time) (dev t : Nat) (s : State) : Host.Outcome State Fault Refusal :=
  run dt (okDev dev) (fun s =>
    if snapBusy s then s
    else { s with
      count.pending := some t, count.snapFabric := true, count.snapReply := some dev, count.snapWait := []
      count.snapAt := t }) s

def execSnapDone (dt : Time) (dev : Nat) (copied : Option Nat) (s : State) : Host.Outcome State Fault Refusal :=
  run dt (okDev dev) (snapAnswer dev copied) s

/-- SNAPSHOT_FABRIC_TIMEOUT: a device has not answered by T + 10 ms (R503). -/
def execSnapshotFabricTimeout (dt : Time) (s : State) : Host.Outcome State Fault Refusal :=
  run dt true (fun s =>
    if s.count.snapFabric && s.count.snapMb.isSome && s.count.pending.isNone &&
        decide (s.count.snapAt + 10 * ms ≤ s.ft.count) then endSnapshot stTimeout s else s) s

/-! Reading counters (R498, R499, R502, R505 to R507). -/

/-- Counters of each group of Table 18.1. -/
def groupSize : Nat → Nat
  | 0x01 => 294912
  | 0x02 => 16384
  | 0x03 => 6144
  | 0x04 => 6048
  | 0x05 => 16640
  | 0x06 => 3072
  | 0x07 => 9216
  | 0x08 => 128
  | 0x09 => 1280
  | 0x0A => 1280
  | 0x0B => 1056
  | 0x0C => 1008
  | _ => 0

/-- An identifier names a counter. -/
def isCounter (id : Nat) : Bool := decide (id % 2 ^ 24 < groupSize (id / 2 ^ 24))

/-- A counter of the last snapshot; all ones while it is marked invalid, zero without a snapshot (R498, R502, Table 18.3). -/
def snapValue (s : State) (id : Nat) : Nat :=
  if s.count.viewState = 0 ∨ s.count.viewState = 3 then 0
  else if s.count.snapInvalid.contains id then 2 ^ 64 - 1
  else tget 0 s.count.snap id

/-- The counter less its base, as a partition reads it (R506). -/
def ownValue (s : State) (id : Nat) : Nat :=
  if s.count.snapInvalid.contains id then snapValue s id else snapValue s id - tget 0 s.count.bases id

/-- The view of a partition holds a counter (Table 18.2). -/
def inView (s : State) (p id : Nat) : Bool :=
  let i := id % 2 ^ 24
  let ofPort q := portEn s q && portPart s q == p
  isCounter id && match id / 2 ^ 24 with
    | 0x01 => i / 4 % 576 / 8 == p
    | 0x03 => ofPort (i / 48)
    | 0x04 => i / 4 % 72 == p
    | 0x05 => ofPort (i / 65 / 2)
    | 0x06 => i / 48 == p
    | 0x07 => i / 16 == 512 + p || (decide (i / 16 < 512) && vfEn s (i / 16) && vfPart s (i / 16) == p)
    | 0x0B => (slotPort s (i / 16)).map (portPart s) == some p
    | _ => false

/-- A counter private to a strict partition, which mailboxes 64 and 65 read as zero (R507). -/
def strictPrivate (s : State) (id : Nat) : Bool :=
  let i := id % 2 ^ 24
  match id / 2 ^ 24 with
  | 0x01 => subStrict s (i / 4 % 576 / 8)
  | 0x04 => subStrict s (i / 4 % 72)
  | 0x05 => portEn s (i / 65 / 2) && partStrict s (portPart s (i / 65 / 2))
  | 0x06 => partStrict s (i / 48)
  | 0x07 => if i / 16 < 512 then vfEn s (i / 16) && partStrict s (vfPart s (i / 16)) else partStrict s (i / 16 - 512)
  | _ => false

/-- What a mailbox reads of a counter. -/
def counterFor (s : State) (mb id : Nat) : Nat :=
  if mb < 64 then ownValue s id else if strictPrivate s id then 0 else snapValue s id

/-- The identifier of the counter at an offset of a partition's view (Table 18.2). -/
def viewId (s : State) (p off : Nat) : Option Nat :=
  let ids :=
    if within 0x1000 0x8FFF off then
      let o := off - 0x1000
      some (cQueue (o / 256) (p * 8 + o % 256 / 32) (o % 32 / 8))
    else if within 0x9000 0x929F off then some (cSub ((off - 0x9000) / 32) p ((off - 0x9000) % 32 / 8))
    else if within 0xA000 0x15FFF off then some (cPort ((off - 0xA000) / 384) ((off - 0xA000) % 384 / 8))
    else if within 0x16000 0x367FF off then some (cId 0x05 1 ((off - 0x16000) / 8) 0)
    else if within 0x38000 0x3817F off then some (cPart p ((off - 0x38000) / 8))
    else if within 0x39000 0x4907F off then
      let n := (off - 0x39000) / 128
      if n = 0 then some (cFunc (512 + p) (off % 128 / 8))
      else ((partVfs s p)[n - 1]?).map fun v => cFunc v (off % 128 / 8)
    else if within 0x4A000 0x4BFFF off then some (cChan ((off - 0x4A000) / 128) (off % 128 / 8))
    else none
  ids.filter (inView s p)

/-- Counters of a view that are marked invalid (R498). -/
def invalidInView (s : State) (p : Nat) : Nat := (s.count.snapInvalid.filter (inView s p)).length

/-- A quadword of a partition's counter view, at an offset from 0x0010_0000 (Tables 18.2 and 18.3). -/
def viewQuad (s : State) (p off : Nat) : Nat :=
  match off with
  | 0x000 => s.count.snapId + 2 ^ 32 * s.count.viewState
  | 0x008 => s.count.tSnap
  | 0x010 => s.count.tCopied
  | 0x018 => invalidInView s p
  | _ => match viewId s p off with
    | some id => ownValue s id
    | none => 0

/-- COUNTER_READ: an identifier in [63:32], the number of counters from it in [15:0], 1 to 500. -/
def counterRead : Handler := checkedBy ⟨true, true, true, true, false⟩ fun r s =>
  let id := pf r 0 63 32
  let n := pf r 0 15 0
  let ids := List.range' id (min n 500)
  if decide (r.mb < 64) && ids.any fun i => isCounter i && !inView s r.mb i then refuse stDenied s
  else match payloadBad r [2 ^ 64 - 2 ^ 32 + 65535] with
    | some q => invalidAt q s
    | none =>
      if within 1 500 n && ids.all isCounter then good (ids.map fun i => BitVec.ofNat 64 (counterFor s r.mb i)) s
      else invalidAt 0 s

def execCounterRead (dt : Time) (r : Req) (s : State) : Host.Outcome State Fault Refusal :=
  run dt (okReq r) (command (isOp 0x0903) counterRead r) s

/-! Bandwidth windows (R402, R508, R509). -/

def bwWindowBody : Handler := fun r s =>
  let port := pf r 0 63 57
  let dir := pf r 0 56 55
  let sub := pf r 0 54 51
  let win := pf r 0 23 0
  let t := pf r 1 63 0
  let start := if t = 0 then (s.ft.count / us + 1) * us else t
  if decide (r.mb < 64) && !(portEn s port && portPart s port == r.mb) then refuse stDenied s
  else match tfree s.count.bw 0 8 with
    | none => refuse stBusy s
    | some unit =>
      if s.count.bw.any fun e => e.2.port == port then refuse stBusy s
      else match payloadBad r [2 ^ 64 - 2 ^ 51 + (2 ^ 24 - 1), 2 ^ 64 - 1] with
        | some q => invalidAt q s
        | none =>
          if dir = 3 ∨ 10 < sub ∨ !within 1 10000000 win ∨ win % 2 ^ sub ≠ 0 then invalidAt 0 s
          else if start < s.ft.count then invalidAt 1 s
          else
            let b : BwUnit := {
              mb := r.mb, port := port, dir := dir, subLog2 := sub, winUs := win, start := start, started := false
              outBytes := [], inBytes := [] }
            (.waits waitWindow, { s with count.bw := tput s.count.bw unit b })

def bwWindow : Handler := checkedBy ⟨true, true, true, false, false⟩ bwWindowBody

def execBwWindow (dt : Time) (r : Req) (s : State) : Host.Outcome State Fault Refusal :=
  run dt (okReq r) (command (isOp 0x0902) bwWindow r) s

/-- BW_WINDOW_START: the unit counts from T_START on. -/
def execBwWindowStart (dt : Time) (unit : Nat) (s : State) : Host.Outcome State Fault Refusal :=
  run dt (okUnit unit) (fun s =>
    { s with count.bw := tupd s.count.bw unit fun b => if b.start ≤ s.ft.count then { b with started := true } else b }) s

/-- The busiest sub-window: its bytes and index, the lower index on a tie (R509). -/
def busiest (t : Tbl Nat) : Nat × Nat :=
  t.foldl (fun best e => if best.1 < e.2 then (e.2, e.1) else best) (0, 0)

/-- BW_WINDOW_END: the command completes and the unit is free. -/
def bwEnd (unit : Nat) (s : State) : State :=
  match tfind s.count.bw unit with
  | none => s
  | some b =>
    if b.started && decide (b.start + b.winUs * us ≤ s.ft.count) then
      let po := busiest b.outBytes
      let pi := busiest b.inBytes
      finishWait b.mb waitWindow stOk true
        [BitVec.ofNat 64 b.start, BitVec.ofNat 64 (b.outBytes.map (·.2)).sum, BitVec.ofNat 64 (b.inBytes.map (·.2)).sum,
          BitVec.ofNat 64 po.1, BitVec.ofNat 64 pi.1, quad [(31, 16, po.2), (15, 0, pi.2)]]
        { s with count.bw := tdel s.count.bw unit }
    else s

def execBwWindowEnd (dt : Time) (unit : Nat) (s : State) : Host.Outcome State Fault Refusal :=
  run dt (okUnit unit) (bwEnd unit) s

/-! Loop-backs (R404, R512 to R518). -/

/-- The run that a LOOPBACK command names: depth and target, a VF at depth 6. -/
def loopTarget (r : Req) : Nat × Nat :=
  let d := pf r 0 63 61
  (d, if d = 6 then rScopeId r else pf r 0 60 52)

/-- The target exists: a lane, a port in use, a spoke, or a VF that is enabled. -/
def loopTargetOk (s : State) (r : Req) : Bool :=
  let t := pf r 0 60 52
  match pf r 0 63 61 with
  | 1 | 2 | 3 => decide (t < 320) && decide (pf r 0 51 48 ≤ 3)
  | 4 => decide (t < 128) && (portEn s t || (portSpoke s t).isSome)
  | 5 => spokeEn s t
  | 6 => t == 0 && vfEn s (rScopeId r)
  | _ => false

/-- A free job context of a VF. -/
def freeContext (s : State) (f : Nat) : Option Nat := (List.range (funcContexts f)).find? fun c => (findJob s f c).isNone

/-- A start finds what it needs occupied (R404, R517, R518). -/
def loopBusy (s : State) (r : Req) : Bool :=
  let t := loopTarget r
  let running := s.count.loops.filter fun l => l.state == 1
  running.any (fun l => loopHolder s l.depth l.target == loopHolder s t.1 t.2) || decide (16 ≤ running.length) ||
    (t.1 == 6 && ((freeContext s t.2).isNone || (s.func t.2).dying))

/-- The self-loop job of a VF: counting data in recoverable frames to the mover attachment (R517). -/
def startLoopJob (f : Nat) (s : State) : State :=
  match freeContext s f with
  | none => s
  | some ctx =>
    let n := (tget 0 (s.func f).ctxSeq ctx + 1) % 64
    let job : Job := {
      func := f, ctx := ctx, ctxSeq := n, order := s.mover.nextOrder, slot := 0, phase := .ready, coefReady := true, loop := true
      desc := [quad [(63, 56, 2)], quad [(58, 56, 1), (50, 48, 5), (30, 0, 2 ^ 30)]] ++ List.replicate 14 0 }
    modFunc f (fun q => { q with ctxSeq := tset 0 q.ctxSeq ctx n })
      { s with mover.jobs := s.mover.jobs ++ [job], mover.nextOrder := s.mover.nextOrder + 1 }

/-- The job of a run that ends leaves its context and its staging. -/
def endLoopJob (f : Nat) (s : State) : State :=
  match s.mover.jobs.find? fun j => j.func == f && j.loop with
  | some j => removeJob f j.ctx (freeStaging f (heldStaging j) s)
  | none => s

/-- A target takes its port reset; a spoke that a run holds stays down (R513). -/
def resetLoopTarget (h : Nat) (s : State) : State :=
  if h < 128 then portReset h false s
  else if 1000 ≤ h ∧ h < 1040 then
    let s1 := portReset (spokePort s (h - 1000)) false s
    if loopHolds s1 h then modSpoke (h - 1000) (fun x => { clearLink 0 x with nextTry := none }) s1 else s1
  else s

/-- A run starts: the target takes a port reset and its generator begins (R513, R515, R517). -/
def startLoop (r : Req) (s : State) : State :=
  let t := loopTarget r
  let dur := pf r 0 31 0
  let run' : LoopRun := {
    depth := t.1, target := t.2, pattern := pf r 0 51 48, started := s.now, duration := dur, units := 0, errors := 0, state := 1
    mb := if dur = 0 then none else some r.mb }
  let s1 : State := { s with
    count.loops := (s.count.loops.filter fun l => !(l.depth == t.1 && l.target == t.2)) ++ [run'] }
  match t.1 with
  | 4 => issueTest t.2 (resetLoopTarget (loopHolder s 4 t.2) s1)
  | 6 => startLoopJob t.2 s1
  | d => resetLoopTarget (loopHolder s d t.2) s1

/-- A run ends with counts, and its target returns to service (R513). -/
def endLoop (depth target units errors : Nat) (s : State) : State :=
  let h := loopHolder s depth target
  let s1 := settleLoops (modLoop depth target (fun l => { l with units := units, errors := errors, state := 2 }) s)
  if depth = 6 then endLoopJob target s1 else resetLoopTarget h s1

/-- The run of a depth and target, when one is known. -/
def findLoop (s : State) (t : Nat × Nat) : Option LoopRun := s.count.loops.find? fun l => l.depth == t.1 && l.target == t.2

/-- Counts of a run now: those of depths 1 to 3 while they run are free values (assumption 4). -/
def loopCounts (l : LoopRun) (s : State) : Nat × Nat × State :=
  if l.state = 1 ∧ l.depth ≤ 3 then (drawn s, drawn (drew s), drew (drew s)) else (l.units, l.errors, s)

def loopAct (r : Req) (s : State) : Answer × State :=
  let t := loopTarget r
  if pf r 0 47 46 = 0 then
    if pf r 0 31 0 = 0 then good (loopAnswer 0 0 1) (startLoop r s) else (.waits waitLoop, startLoop r s)
  else match findLoop s t with
    | none => good (loopAnswer 0 0 0) s
    | some l =>
      let (u, e, s1) := loopCounts l s
      if pf r 0 47 46 = 1 ∧ l.state = 1 then good (loopAnswer u e 2) (endLoop t.1 t.2 u e s1)
      else good (loopAnswer u e l.state) s1

def loopbackBody : Handler := fun r s =>
  let d := pf r 0 63 61
  if decide (r.mb < 64) && d != 6 then refuse stDenied s
  else if within 1 5 d && !holdsLock s r.mb 0 then refuse stNoLock s
  else if pf r 0 47 46 == 0 && loopTargetOk s r && loopBusy s r then refuse stBusy s
  else match payloadBad r [2 ^ 64 - 2 ^ 46 + (2 ^ 32 - 1)] with
    | some q => invalidAt q s
    | none =>
      if d == 6 && rScope r != 2 then invalidHeader s
      else if pf r 0 47 46 == 3 || !loopTargetOk s r then invalidAt 0 s
      else loopAct r s

def loopback : Handler := checkedBy ⟨true, true, false, false, false⟩ loopbackBody

def isLoop (mode : Nat) (r : Req) : Bool := isOp 0x0C01 r && pf r 0 47 46 == mode

def execLoopbackStart (dt : Time) (r : Req) (s : State) : Host.Outcome State Fault Refusal :=
  run dt (okReq r) (command (isLoop 0) loopback r) s
def execLoopbackStop (dt : Time) (r : Req) (s : State) : Host.Outcome State Fault Refusal :=
  run dt (okReq r) (command (isLoop 1) loopback r) s
def execLoopbackStatus (dt : Time) (r : Req) (s : State) : Host.Outcome State Fault Refusal :=
  run dt (okReq r) (command (isLoop 2) loopback r) s

/-- LOOPBACK_LOCK_TIMEOUT: the checker of a lane has not locked within 1 ms (R514). -/
def execLoopbackLockTimeout (dt : Time) (target : Nat) (s : State) : Host.Outcome State Fault Refusal :=
  run dt true (fun s =>
    match s.count.loops.find? fun l => l.target == target && decide (l.depth ≤ 3) && l.state == 1 with
    | some l => if s.since l.started ms then endLoop l.depth target 0 (2 ^ 64 - 1) s else s
    | none => s) s

/-- LOOPBACK_DURATION_END (R513). The lane checker's counts come with the event; deeper runs have their own. -/
def execLoopbackDurationEnd (dt : Time) (depth target : Nat) (units errors : Nat) (s : State) :
    Host.Outcome State Fault Refusal :=
  run dt true (fun s => match findLoop s (depth, target) with
    | some l =>
      if l.state = 1 ∧ l.duration ≠ 0 ∧ s.since l.started (l.duration * us) then
        if depth ≤ 3 then endLoop depth target units errors s else endLoop depth target l.units l.errors s
      else s
    | none => s) s

end Sys2Proof.Machine
end

