-- ==== Sys2Proof/Machine/Boot.lean ====
section
/-! DEFINITION. Boot, MC restart, firmware slots and updates, attestation (R405, R406, R415, R431 to R433, R438 to R445, R470,
R471, R495). -/

namespace Sys2Proof.Machine

/-! Firmware slots. -/

/-- The fused security version: the number of bits set (Table 15.1). -/
def fusedSvn (s : State) : Nat := popcount s.sec.svnFuses.toNat 64

/-- A slot, false for A and true for B. -/
def State.fwSlot (s : State) (b : Bool) : FwSlot := if b then s.fw.slotB else s.fw.slotA
def putFwSlot (b : Bool) (f : FwSlot) (s : State) : State :=
  if b then { s with fw.slotB := f } else { s with fw.slotA := f }

/-- The slot that is not running. -/
def inactiveSlot (s : State) : Bool := s.fw.running == 0

/-- A slot that the boot ROM may start (R439 step 2). -/
def fwQualifies (s : State) (f : FwSlot) : Bool :=
  f.magic && f.sigOk && f.manifestOk && f.sealWord == some f.seq && decide (fusedSvn s ≤ f.svn)

/-- The slot that the boot ROM starts: the newest, or the other one where R432 requires it. -/
def chooseFw (s : State) : Option Bool :=
  match fwQualifies s s.fw.slotA, fwQualifies s s.fw.slotB with
  | false, false => none
  | true, false => some false
  | false, true => some true
  | true, true => some (serialNewer s.fw.slotB.seq s.fw.slotA.seq != s.fw.fallback)

/-- An image starts: M_FW is written, and an image that has not confirmed itself has 10 s from its first start. A slot other
than the one that ran because of R432 is reported by MC_RESTART with DETAIL_A 1. -/
def startFw (b : Bool) (s : State) : State :=
  let f := s.fwSlot b
  let new := s.fw.running != b2n b
  let s1 := if new && s.fw.fallback then deviceRecord 0x0901 0 1 0 s else s
  { s1 with
    sec.mFw := f.digest
    fw.running := b2n b
    fw.verified := s.fw.verified && !new
    fw.pending := s.fw.pending && !new
    fw.firstStart := if f.confirmed then none else if new || s.fw.firstStart.isNone then some s.now else s.fw.firstStart
    fw.restarts := if f.confirmed || new || s.fw.firstStart.isNone then 0 else s.fw.restarts }

/-! Boot (R415, R439, R470, R471, R495). -/

/-- The 48 bytes of fuse bits [383:0] (Table 15.1). -/
def fuseBytes (s : State) : List Byte :=
  leBytes 8 (pack [(7, 7, b2n s.sec.ownerSet), (6, 6, b2n s.sec.reqSigned), (5, 5, b2n s.sec.debugOff), (4, 4, b2n s.sec.malweodOff)]) ++
    leBytes 8 s.sec.svnFuses.toNat ++ leBytes 32 s.sec.ownerHash.toNat

/-- Boot ROM step 1 (R439): the identity key is derived, M_FUSE computed, ID_SEED locked; at power-on the root PLL has locked
to the strapped reference, or to the other one when that is absent (R457). DEVNUM and ADDRSEL are sampled, as at the end of each
device reset (R532). -/
def bootRom (s : State) : State :=
  { s with
    chip.resetUntil := none
    chip.holdover := false
    chip.devnum := s.chip.straps.devnum
    chip.addrsel := s.chip.straps.addrsel
    chip.refSel := if s.chip.coldBoot && refLost s s.chip.refSel then !s.chip.refSel else s.chip.refSel
    sec.keyLoaded := true
    sec.mFuse := sha3 (fuseBytes s)
    sec.seedLocked := true }

/-- What the wear store keeps is loaded (R477, R495), and the VDD_CORE offset is asked for again; at power-on the regulator is at
its nominal voltage (assumption 85). -/
def loadWearStore (s : State) : State :=
  let w := s.aging.store
  { s with
    aging.wear := w.wear
    aging.vddOfs := w.vddOfs
    aging.allowStep := w.allowStep
    aging.intervalD := w.intervalD
    aging.noticeS := w.noticeS
    aging.roSlow := w.roSlow
    aging.retiredLanes := w.retiredLanes
    aging.overlay := w.overlay
    aging.planerEn := w.planerEn
    aging.paceMs := w.paceMs
    aging.lastRun := w.lastRun
    power.vddStep := if s.chip.coldBoot then 0 else s.power.vddStep
    power.vddTarget := w.vddOfs
    power.vddStopped := false
    power.stage := 0 }

/-- The slot die's trip flag is reported and cleared; the trip counts for the core die and the I/O dies, which it powered down
(R319, Table 17.3). -/
def reportTrip (s : State) : State :=
  if s.slot.tripFlag then
    logOnly (devRec s 0x0B02 4 0 0) { s with
      slot.tripFlag := false
      aging.wear := (List.range 5).foldl (fun t d => tmod {} t d fun w => { w with trips := min 255 (w.trips + 1) }) s.aging.wear }
  else s

/-- The first swap (R415). Ingress shapers come up at their ceilings (Table 3.7). EPOCH_BEHIND is reported with no valid slot, and
when the other slot holds a newer header that is not valid. -/
def bootConfig (s : State) : State :=
  match newestCfg s with
  | none => deviceRecord 0x0902 0 0 0 s
  | some b =>
    let c := s.cfgSlot b
    let o := s.cfgSlot (!b)
    let s1 : State := { putInForce c.body c.epoch c.digest c.signed c.sig s with sched.cur := [] }
    if o.magic && o.header && serialNewer o.seq c.seq && !cfgSlotValid s o then deviceRecord 0x0902 0 c.epoch o.epoch s1 else s1

/-- Partitions at home here: held by PERSTIN_N, or released and ready within 100 ms (R471). -/
def bootPart (p : Nat) (s : State) : State :=
  if s.pcie.perstin.contains (partPerst s p) then holdPart p s else partReleased p s

/-- Fabric-time mastership at boot (R428): tandem device 1 is no master; tandem device 0 is master of itself until its first
spoke is up. One that is no master names itself until it learns of one (DEDUCED, assumption 89). -/
def bootMaster (s : State) : State :=
  { s with ft.master := s.tandem.role != 1, ft.masterDev := s.dev, tandem.lastBeat := s.now }

/-- OOB_ALERT_N is low again while alerts are unacknowledged (R468). -/
def restoreAlert (s : State) : State :=
  if alertsPending s && !s.mgmt.oob.alertLow then emit (.alertPin true) { s with mgmt.oob.alertLow := true } else s

/-- The chosen image runs, and boot completes with the configuration in force. -/
def startDevice (b : Bool) (s : State) : State :=
  let s1 := bootMaster (reportTrip (loadWearStore (startFw b s)))
  let s2 := bootConfig { s1 with chip.booting := false, chip.romRecovery := false, chip.coldBoot := false, mgmt.serving := true }
  restoreAlert (forAll (homeParts s2) bootPart s2)

/-- Boot may complete: powered, in no reset, a reference usable, not under test. -/
def canBoot (s : State) : Bool :=
  s.chip.booting && corePowered s && !s.chip.resetPin && !s.sec.scan && s.mgmt.restartAt.isNone &&
    (match s.chip.resetUntil with
      | some t => decide (t ≤ s.now)
      | none => true) &&
    !(s.chip.refALost && s.chip.refBLost)

/-- BOOT_COMPLETE. With no slot that qualifies, the MC stays in ROM recovery and every station off (R440). -/
def bootComplete (s : State) : State :=
  if canBoot s then
    let s1 := bootRom s
    match chooseFw s1 with
    | some b => startDevice b s1
    | none => { s1 with chip.romRecovery := true, mgmt.serving := true }
  else s

def execBootComplete (dt : Time) (s : State) : Host.Outcome State Fault Refusal := run dt true bootComplete s

/-- EXECUTED of the commands that a restart cut off, from the journal, and the answers that these owe (R370). -/
def journal (s : State) : State :=
  let owes := (s.mgmt.mailbox.filter fun e => e.2.owed && e.2.state == 2).map (·.1)
  forAll owes answerRestart { s with mgmt.mailbox := s.mgmt.mailbox.map fun e =>
      (e.1, { e.2 with owed := false, executed := if e.2.owed && e.2.state == 2 then e.2.took else e.2.executed }) }

/-- The third watchdog restart within 10 s of an unconfirmed image's first start calls for the other slot (R432). -/
def tooManyRestarts (s : State) : Bool := decide (3 ≤ s.fw.restarts) && match s.fw.firstStart, s.mgmt.restartAt with
  | some t, some r => decide (r ≤ t + 10 * oneSec)
  | _, _ => false

/-- MC_RESTART_DONE: the boot ROM has run again and the MC serves mailboxes (R358, R370, R439). -/
def mcRestartDone (s : State) : State :=
  if s.mgmt.restartAt.isSome && corePowered s && !inDeviceReset s then
    let s0 := journal s
    let s1 : State := { s0 with mgmt.restartAt := none }
    match chooseFw s1 with
    | some b =>
      let s2 := onlyIf (slotListens s1) writeHeld (startFw b s1)
      { s2 with
        chip.romRecovery := false
        mgmt.serving := !s2.chip.booting
        fw.fallback := s2.fw.fallback || tooManyRestarts s }
    | none => { s1 with chip.romRecovery := true, mgmt.serving := true }
  else s

def execMcRestartDone (dt : Time) (s : State) : Host.Outcome State Fault Refusal := run dt true mcRestartDone s

/-! FW_UPDATE (R405, R431 to R433, R443). -/

/-- Bytes of a table from a byte offset. -/
def bytesAt (t : Tbl Word64) (i n : Nat) : List Byte := ((quadsAt t (i / 8) (ceilDiv n 8)).flatMap fun q => leBytes 8 q.toNat).take n

/-- "KNDMAN01" as a little-endian number. -/
def manMagic : Nat := 0x31304E414D444E4B

/-- The fields of an image in a slot, and what the boot ROM's checks find of it (R413, R431, R438). -/
def readFw (t : Tbl Word64) : FwSlot :=
  let length := (tget 0 t 2).toNat
  let digest : BitVec 256 := BitVec.ofNat 256 (ofLeBytes (bytesAt t 0x20 32))
  let sig := ofLeBytes (bytesAt t 0x40 2420)
  let codeLen := qf (tget 0 t 514) 31 0
  { magic := (tget 0 t 0).toNat == fwMagic && qf (tget 0 t 3) 63 32 == 1
    sig := sig
    digest := digest
    version := qf (tget 0 t 513) 31 0
    svn := qf (tget 0 t 513) 47 32
    proto := qf (tget 0 t 513) 63 48
    manifestOk := (tget 0 t 512).toNat == manMagic && qf (tget 0 t 514) 63 32 == 0x320 && decide (codeLen ≤ 16764928) &&
      decide (4096 + codeLen ≤ length) && sha3 (bytesAt t 0x2000 codeLen) == BitVec.ofNat 256 (ofLeBytes (bytesAt t 0x1018 32))
    sigOk := decide (length ≤ 16773120) && length % 8 == 0 && qf (tget 0 t 1) 63 32 == 0 && qf (tget 0 t 3) 31 0 == 1 &&
      sha3 (bytesAt t 0x1000 length) == digest && Config.mldsaVerify 0 (signedDigest fwMagic length true digest) sig
    body := t }

/-- What FW_UPDATE answers (Table 13.10). -/
def fwResponse (s : State) : List Word64 :=
  let f := s.fwSlot (inactiveSlot s)
  [quad [(63, 32, f.version), (15, 0, f.svn)],
   quad [(2, 2, b2n s.fw.pending), (1, 1, b2n s.fw.verified), (0, 0, b2n (inactiveSlot s))]]

/-- From the acceptance of a CFG_COMMIT until this device has sealed (R433). -/
def commitUnderWay (s : State) : Bool :=
  s.conf.write.isSome || (match s.conf.prepared with
    | some p => p.armed.isSome
    | none => false) || (match s.conf.coord with
    | some c => c.committing
    | none => false)

/-- After the header of a configuration slot, its SEAL is the next flash operation (R414 step 5): another one lets it go first. -/
def sealFirst (s : State) : State := if s.conf.sealing then sealWrite s else s

/-- WRITE and DISCARD take the inactive slot's seal away and clear VERIFIED and PENDING. -/
def unsealFw (s : State) : State :=
  let s := sealFirst s
  let b := inactiveSlot s
  emit (.flash 3 (b2n b)) (putFwSlot b { s.fwSlot b with sealWord := none, confirmed := false }
    { s with fw.verified := false, fw.pending := false })

/-- WRITE: the inactive slot is unsealed first; its checks stand again when the write has finished. -/
def fwWrite (r : Req) (s : State) : State :=
  let b := inactiveSlot s
  let s1 := unsealFw s
  let t := putBytes (s1.fwSlot b).body (pf r 0 31 0) (chunkBytes r)
  emit (.flash 4 (b2n b)) (putFwSlot b { body := t } { s1 with fw.busy := some r.mb, fw.phase := 0 })

/-- ACTIVATE seals the slot with a SEQ one greater than the running slot's (R431). -/
def sealFw (s : State) : State :=
  let b := inactiveSlot s
  let n := ((s.fwSlot (!b)).seq + 1) % 2 ^ 32
  emit (.flash 5 (b2n b)) (putFwSlot b { s.fwSlot b with seq := n, sealWord := some n, confirmed := false }
    { s with fw.fallback := false })

/-- ACTIVATE (R432): with ACT_MODE 1 the MC restarts now, and the command, which took effect, completes RESTARTING. -/
def fwActivate (r : Req) (s : State) : Answer × State :=
  let mode := pf r 0 59 58
  if !s.fw.verified || decide (1 < mode) || (s.chip.romRecovery && mode != 1) then invalidAt 0 s
  else if mode = 0 then
    let s1 : State := { sealFw s with fw.pending := true }
    good (fwResponse s1) s1
  else (.waits waitFirmware, mcRestart 3 (modMb r.mb (fun m => { m with took := true }) (sealFw s)))

/-- In ROM recovery no lock can be held, and none is needed (R440). -/
def fwUpdateBody : Handler := fun r s =>
  let phase := pf r 0 63 60
  if !s.chip.romRecovery && !holdsLock s r.mb 0 then refuse stNoLock s
  else if s.fw.busy.isSome || (phase == 2 && commitUnderWay s) then refuse stBusy s
  else match payloadBad r [2 ^ 64 - 2 ^ 58 + (2 ^ 32 - 1)] with
    | some q => invalidAt q s
    | none => match phase with
      | 0 =>
        if pf r 0 31 0 % 4096 = 0 ∧ pf r 0 31 0 + (rLen r - 8) ≤ 16777216 then (.waits waitFirmware, fwWrite r s) else invalidAt 0 s
      | 1 => (.waits waitFirmware, { s with fw.busy := some r.mb, fw.phase := 1 })
      | 2 => fwActivate r s
      | 3 =>
        let s1 := unsealFw s
        good (fwResponse s1) s1
      | _ => invalidAt 0 s

def fwUpdate : Handler := checkedBy ⟨false, true, true, false, false⟩ fwUpdateBody

def isFw (phase : Nat) (r : Req) : Bool := isOp 0x0D01 r && pf r 0 63 60 == phase

def execFwUpdateWrite (dt : Time) (r : Req) (s : State) : Host.Outcome State Fault Refusal :=
  run dt (okReq r) (command (isFw 0) fwUpdate r) s
def execFwUpdateVerify (dt : Time) (r : Req) (s : State) : Host.Outcome State Fault Refusal :=
  run dt (okReq r) (command (isFw 1) fwUpdate r) s
def execFwActivateAtReset (dt : Time) (r : Req) (s : State) : Host.Outcome State Fault Refusal :=
  run dt (okReq r) (command (fun r => isFw 2 r && pf r 0 59 58 == 0) fwUpdate r) s
def execFwActivateRestart (dt : Time) (r : Req) (s : State) : Host.Outcome State Fault Refusal :=
  run dt (okReq r) (command (fun r => isFw 2 r && pf r 0 59 58 == 1) fwUpdate r) s
def execFwUpdateDiscard (dt : Time) (r : Req) (s : State) : Host.Outcome State Fault Refusal :=
  run dt (okReq r) (command (isFw 3) fwUpdate r) s

/-- The image passes the checks of the boot ROM (R405, R443): INVALID, or DENIED for its security version. -/
def verifyStatus (s : State) (f : FwSlot) : Nat :=
  if !(f.magic && f.sigOk && f.manifestOk) then stInvalid
  else if f.svn < fusedSvn s ∨ 64 < f.svn then stDenied
  else stOk

/-- FW_UPDATE_DONE: flash has finished a WRITE, or a VERIFY's checks are done. -/
def fwUpdateDone (s : State) : State :=
  match s.fw.busy with
  | none => s
  | some m =>
    let b := inactiveSlot s
    if s.fw.phase = 0 then
      let s1 := putFwSlot b (readFw (s.fwSlot b).body) { s with fw.busy := none }
      finishWait m waitFirmware stOk true (fwResponse s1) s1
    else
      let st := verifyStatus s (s.fwSlot b)
      let s1 : State := { s with fw.busy := none, fw.verified := st == stOk }
      finishWait m waitFirmware st (st == stOk)
        (if st = stOk then fwResponse s1 else if st = stInvalid then [refusalQuad 0 0 0 0] else []) s1

def execFwUpdateDone (dt : Time) (s : State) : Host.Outcome State Fault Refusal := run dt true fwUpdateDone s

/-- SVN_FUSES programmed one bit at a time, lowest free bit first, until the fused version equals `svn` (R443). -/
def burnSvn (svn : Nat) (f : BitVec 64) : BitVec 64 :=
  (List.range 64).foldl (fun f i => if !f.getLsbD i && decide (popcount f.toNat 64 < svn) then f ||| BitVec.twoPow 64 i else f) f

/-- FW_CONFIRMATION: the running image writes its confirmation word (R432), and its security version is fused (R443). -/
def fwConfirm (s : State) : State :=
  if mcRuns s then
    let s := sealFirst s
    let b := !inactiveSlot s
    let f := s.fwSlot b
    putFwSlot b { f with confirmed := true }
      { s with fw.firstStart := none, fw.restarts := 0, sec.svnFuses := burnSvn f.svn s.sec.svnFuses }
  else s

def execFwConfirmation (dt : Time) (s : State) : Host.Outcome State Fault Refusal := run dt true fwConfirm s

/-- FW_CONFIRM_TIMEOUT: no confirmation within 10 s of the first start (R432). -/
def execFwConfirmTimeout (dt : Time) (s : State) : Host.Outcome State Fault Refusal :=
  run dt true (fun s => match s.fw.firstStart with
    | some t => if s.since t (10 * oneSec) then { s with fw.fallback := true, fw.firstStart := none } else s
    | none => s) s

/-! ATTEST (R406, R444, R445). -/

/-- Quadwords of a 256-bit value, least significant first. -/
def quads256 (d : BitVec 256) : List Word64 := (List.range 4).map fun i => BitVec.ofNat 64 (d.toNat / 2 ^ (64 * i))

/-- Bytes 0 to 143 of a report. -/
def reportQuads (s : State) (nonce : List Word64) (mask : Nat) : List Word64 :=
  let m i (d : BitVec 256) := quads256 (if bit mask i then d else 0)
  nonce ++ m 0 s.sec.mFw ++ m 1 s.conf.mCfg ++ m 2 s.sec.mFuse ++
    [BitVec.ofNat 64 s.ft.count, quad [(63, 32, s.conf.epoch), (15, 0, (s.fwSlot (!inactiveSlot s)).svn)]]

/-- A signature of the identity key over a byte string's SHA3-256 (R441, R445). -/
def identitySig (s : State) (bs : List Byte) : Nat := Config.mldsaSign s.sec.idSeed (sha3 bs)

def attestBody : Handler := fun r s =>
  let all := 2 ^ 64 - 1
  match payloadBad r [all, all, all, all, 7] with
  | some q => invalidAt q s
  | none =>
    let nonce := (rPay r).take 4
    if nonce.all (· == 0) then invalidAt 0 s
    else
      let rep := reportQuads s nonce (pf r 4 2 0)
      good (rep ++ bytesToQuads (leBytes 2420 (identitySig s (rep.flatMap fun q => leBytes 8 q.toNat)))) s

def attest : Handler := checkedBy ⟨true, true, true, true, false⟩ attestBody

def execAttest (dt : Time) (r : Req) (s : State) : Host.Outcome State Fault Refusal :=
  run dt (okReq r) (command (isOp 0x0D02) attest r) s

end Sys2Proof.Machine
end

