-- ==== Sys2Proof/Machine/Tandem.lean ====
section
/-! DEFINITION. The tandem: its command set-up, heartbeats, mastership and mailbox messages (R402, R427 to R430, R543). -/

namespace Sys2Proof.Machine

/-- This device becomes master: it continues its own count without a step (R428). -/
def becomeMaster (s : State) : State :=
  { s with
    ft := { s.ft with master := true, masterDev := s.dev, ppm := 0, holdBack := 0, upstream := none, hops := 0 }
    tandem.handoverAt := none
    tandem.returning := false }

/-- The heads do not name each other, or no tandem is set: ROLE 2, master of its own domain. -/
def leaveTandem (s : State) : State :=
  let s1 : State := { s with tandem.role := 2, tandem.returning := false, tandem.handoverAt := none }
  if s1.ft.master || s1.ft.yielded.isSome then s1 else becomeMaster s1

/-- The protocol version of the running image (R430). -/
def ownProto (s : State) : Nat := (s.fwSlot (!inactiveSlot s)).proto

/-- A message to the partner on the tandem link, or by the route record when the link is down. -/
def toPartner (code : Nat) (pay : List Nat) (s : State) : State :=
  let m : Out := .mgmt s.tandem.partner code pay
  if tandemLinkUp s then postTandem m s else post m s

/-- TDM_HEARTBEAT travels on the tandem link and by the route record (R427). -/
def sendBeats (s : State) : State :=
  let m : Out := .mgmt s.tandem.partner 0x0201
    [s.dev, s.tandem.configuredRole, b2n s.ft.master, ownProto s, s.conf.epoch, digestPfx s.conf.digest]
  post m (postTandem m s)

/-- Once locked, a tandem device 0 that returns to device 1's domain offers the handover, T_h 10 ms ahead (R428). -/
def offerHandover (s : State) : State :=
  if s.tandem.role = 0 ∧ s.tandem.returning ∧ !s.ft.master ∧ s.ft.locked ∧ s.tandem.handoverAt.isNone then
    let th := s.ft.count + 10 * ms
    toPartner 0x0202 [th] { s with tandem.handoverAt := some th }
  else s

/-- HEARTBEAT_SEND, every 100 µs. -/
def execHeartbeatSend (dt : Time) (s : State) : Host.Outcome State Fault Refusal :=
  run dt true (fun s =>
    if coreRuns s && !inDeviceReset s && decide (s.tandem.configuredRole < 2) then offerHandover (sendBeats s) else s) s

/-- Tandem device 1 hands mastership over at the partner's master flag: a handover that was offered leaves it time-locked
(R202), a conflicting claim does not. -/
def partnerClaims (s : State) : State :=
  match s.tandem.handoverAt with
  | some t =>
    if s.ft.count < t then s
    else { s with
      ft.master := false, ft.locked := true, ft.good := 8, ft.lastValid := s.now, ft.masterDev := s.tandem.partner
      tandem.handoverAt := none, tandem.tHandover := s.ft.count }
  | none => { s with
      ft.master := false, ft.locked := false, ft.good := 0, ft.masterDev := s.tandem.partner, tandem.tHandover := s.ft.count }

/-- The versions of the heads differ by more than one: an OUT_OF_PLUMB record with both (R430). -/
def noteVersion (version : Nat) (s : State) : State :=
  let own := ownProto s
  let bad := decide (own + 1 < version) || decide (version + 1 < own)
  let s1 : State := { s with tandem.versionBad := bad, tandem.partnerVersion := version }
  if bad && !s.tandem.versionBad then deviceRecord 0x0204 0 (own * 65536 + version) 0 s1 else s1

/-- TDM_HEARTBEAT from the partner (R427, R428, R430). Heads whose roles do not match name each other in vain. -/
def heartbeat (dev role : Nat) (master : Bool) (version epoch : Nat) (s : State) : State :=
  if s.tandem.configuredRole = 2 ∨ dev ≠ s.tandem.partner then s
  else if role + s.tandem.configuredRole ≠ 1 then leaveTandem { s with tandem.partnerNamesUs := false }
  else
    let s1 : State := { s with
      tandem.role := s.tandem.configuredRole, tandem.partnerNamesUs := true, tandem.heard := true, tandem.lastBeat := s.now
      tandem.partnerMaster := master, tandem.partnerEpoch := epoch }
    let s2 := sawEpoch epoch (noteVersion version s1)
    if !master then s2
    else if s2.tandem.role = 1 then (if s2.ft.master then partnerClaims s2 else s2)
    else if s2.ft.master then s2 else { s2 with tandem.returning := true }

def execTdmHeartbeat (dt : Time) (dev role : Nat) (master : Bool) (version epoch pfx : Nat) (s : State) :
    Host.Outcome State Fault Refusal :=
  run dt (okDev dev) (fun s => if coreRuns s && decide (pfx < 2 ^ 64) then heartbeat dev role master version epoch s else s) s

/-- HEARTBEAT_TIMEOUT: tandem device 1 takes over (R428). -/
def execHeartbeatTimeout (dt : Time) (s : State) : Host.Outcome State Fault Refusal :=
  run dt true (fun s =>
    if coreRuns s && s.tandem.role == 1 && !s.ft.master && s.ft.yielded.isNone && s.since s.tandem.lastBeat (800 * us) then
      { becomeMaster s with tandem.handoverAt := s.tandem.handoverAt, tandem.tHandover := s.ft.count }
    else s) s

/-- MASTER_CLAIM_TIMEOUT: no heartbeat with the master flag within 800 µs of the first spoke (R428). -/
def execMasterClaimTimeout (dt : Time) (s : State) : Host.Outcome State Fault Refusal :=
  run dt true (fun s => match s.tandem.firstSpokeUp with
    | some t =>
      if coreRuns s && s.tandem.role == 0 && !s.ft.master && !s.tandem.returning && s.ft.yielded.isNone && s.since t (800 * us)
      then becomeMaster s else s
    | none => s) s

/-- TDM_HANDOVER: tandem device 1 learns T_h. -/
def execTdmHandover (dt : Time) (th : Nat) (s : State) : Host.Outcome State Fault Refusal :=
  run dt true (fun s => if coreRuns s && s.tandem.role == 1 then { s with tandem.handoverAt := some th } else s) s

/-- HANDOVER_TIME: at T_h a locked tandem device 0 becomes master (R428). -/
def execHandoverTime (dt : Time) (s : State) : Host.Outcome State Fault Refusal :=
  run dt true (fun s => match s.tandem.handoverAt with
    | some t =>
      if coreRuns s && s.tandem.role == 0 && s.ft.locked && !s.ft.master && s.ft.yielded.isNone && decide (t ≤ s.ft.count) then
        { becomeMaster s with tandem.tHandover := s.ft.count }
      else s
    | none => s) s

/-- When a TIME response last named a device as master. -/
def masterSeen (s : State) (m : Nat) : Time :=
  (s.spokes.time.map fun e => if e.2.master = m then e.2.masterAt else 0).foldl max 0

/-- MASTER_YIELD_RELEASE: the lower master's TIME responses have been absent for 1 ms, and R428 applies again (R543). -/
def execMasterYieldRelease (dt : Time) (s : State) : Host.Outcome State Fault Refusal :=
  run dt true (fun s => match s.ft.yielded with
    | some m =>
      if s.since (masterSeen s m) ms then
        let s1 : State := { s with ft.yielded := none }
        match s1.tandem.role with
        | 0 => { s1 with tandem.firstSpokeUp := some s1.now, tandem.returning := false }
        | 1 => s1
        | _ => becomeMaster s1
      else s
    | none => s) s

/-! Mailbox messages of the partner (R371, Table 14.3). -/

/-- A part at a byte offset extends what has come, or starts anew. -/
def joinPart (old : List Word64) (offset : Nat) (part : List Word64) : List Word64 :=
  if offset = 0 then part else if offset = 8 * old.length then old ++ part else old

/-- TDM_MAILBOX: with its last part the command is submitted at mailbox 65 (R372). -/
def tdmMailbox (offset : Nat) (last : Bool) (part : List Word64) (s : State) : State :=
  let ws := joinPart s.mgmt.tdmIn offset part
  if last then
    let r : Req := { mb := 65, hdr0 := ws.getD 0 0, hdr1 := ws.getD 1 0, pay := ws.drop 2 }
    submit 65 (rOp r) (rSeq r) (some r) { s with mgmt.tdmIn := [] }
  else { s with mgmt.tdmIn := ws }

def execTdmMailbox (dt : Time) (seq offset : Nat) (last : Bool) (part : List Word64) (s : State) :
    Host.Outcome State Fault Refusal :=
  run dt true (fun s => if coreRuns s && decide (seq < 65536) then tdmMailbox offset last part s else s) s

/-- TDM_RESPONSE: the response is put together as it arrives. -/
def execTdmResponse (dt : Time) (seq offset : Nat) (last : Bool) (part : List Word64) (s : State) :
    Host.Outcome State Fault Refusal :=
  run dt true (fun s =>
    if coreRuns s && decide (seq < 65536) && (last || decide (part.length ≤ 512)) then
      { s with mgmt.tdmResp := joinPart s.mgmt.tdmResp offset part }
    else s) s

/-! TANDEM_SET and TANDEM_STATUS (R427, Table 13.10). -/

/-- A role takes effect (R428): a head that becomes tandem device 1 is no master, one that leaves the tandem is. -/
def takeRole (role partner : Nat) (spokes : List Nat) (s : State) : State :=
  let was := tandemLinkUp s
  let s1 : State := { s with
    tandem.configuredRole := role, tandem.role := role, tandem.partner := partner, tandem.spokes := spokes
    tandem.lastBeat := s.now, tandem.heard := false, tandem.partnerNamesUs := false, tandem.returning := false
    tandem.handoverAt := none, tandem.versionBad := false }
  noteTandem was (match role with
    | 0 => s1
    | 1 => if s1.ft.master then { s1 with ft.master := false, ft.locked := false, ft.good := 0 } else s1
    | _ => leaveTandem s1)

/-- TANDEM_SET: ROLE in [63:62], PARTNER in [61:56]; quadword 1 has a bit for each link spoke, at most 8. -/
def tandemSetBody : Handler := fun r s =>
  let role := pf r 0 63 62
  let mask := pf r 1 39 0
  if !holdsLock s r.mb 0 then refuse stNoLock s
  else match payloadBad r [2 ^ 64 - 2 ^ 56, 2 ^ 40 - 1] with
    | some q => invalidAt q s
    | none =>
      if role = 3 ∨ (role ≠ 2 ∧ pf r 0 61 56 = s.dev) then invalidAt 0 s
      else if 8 < popcount mask 40 then invalidAt 1 s
      else good [] (takeRole role (pf r 0 61 56) (onesBelow mask 40) s)

def tandemSet : Handler := checkedBy ⟨false, true, true, false, false⟩ tandemSetBody

def execTandemSet (dt : Time) (r : Req) (s : State) : Host.Outcome State Fault Refusal :=
  run dt (okReq r) (command (isOp 0x0E04) tandemSet r) s

/-- The spokes of the tandem link that are up. -/
def tandemUp (s : State) : List Nat := s.tandem.spokes.filter fun k => spokeUp s k && rb (spokeRec s k) 49

/-- The tandem spoke whose PLUMB message is the latest. -/
def lastPlumb (s : State) : Option Nat := s.tandem.spokes.foldl (fun best k => match best with
  | none => some k
  | some b => if (s.stime b).plumbAt < (s.stime k).plumbAt then some k else some b) none

/-- TANDEM_STATUS. IN_PLUMB reads 0 as soon as no tandem spoke is up (R204, R429; DEDUCED, assumption 166). -/
def tandemQuads (s : State) : List Word64 :=
  let up := tandemUp s
  [quad [(63, 58, s.dev), (57, 52, s.tandem.partner), (51, 51, b2n (tandemLinkUp s)),
      (50, 50, b2n (!up.isEmpty && up.all fun k => (s.stime k).inPlumb)), (49, 49, b2n (timeLocked s)), (48, 48, b2n s.ft.master),
      (47, 46, s.tandem.role), (45, 40, up.length)],
   quad [(63, 32, s.conf.epoch), (31, 0, (lastPlumb s).elim 0 fun k => (s.stime k).peerEpoch)],
   BitVec.ofNat 64 ((up.head?).elim 0 fun k => (s.spoke k).peerSn),
   BitVec.ofNat 64 s.tandem.tHandover, BitVec.ofNat 64 s.tandem.tLink]

/-- A command whose request is empty. -/
def emptyRequest (answer : State → List Word64) : Handler := fun r s => if rLen r = 0 then good (answer s) s else invalidHeader s

def tandemStatus : Handler := checkedBy ⟨true, true, true, true, false⟩ (emptyRequest tandemQuads)

def execTandemStatus (dt : Time) (r : Req) (s : State) : Host.Outcome State Fault Refusal :=
  run dt (okReq r) (command (isOp 0x0E01) tandemStatus r) s

end Sys2Proof.Machine
end

