-- ==== Sys2Proof/Machine/Security.lean ====
section
/-! DEFINITION. Debug tokens and debug accesses, fuses and provisioning, production test, and SPDM (R262, R263, R374, R436, R437,
R442 to R451, R519 to R521). -/

namespace Sys2Proof.Machine

/-! Debug tokens (R448 to R450). -/

/-- "KNDDBG01" as a little-endian number. -/
def tokenMagic : Nat := 0x3130474244444E4B

/-- A field of n bytes at an offset of a byte string. -/
def fieldAt (bs : List Byte) (off n : Nat) : Nat := ofLeBytes ((bs.drop off).take n)

/-- The token that a DEBUG_TOKEN carries from quadword 1 (Table 15.4). -/
def tokenOf (r : Req) : Token :=
  let b := chunkBytes r
  { magic := fieldAt b 0 8, id := fieldAt b 8 8, serial := fieldAt b 0x10 6, signer := fieldAt b 0x16 1, grants := fieldAt b 0x17 1
    life := fieldAt b 0x18 4, nonce := fieldAt b 0x20 32, sig := fieldAt b 0x80 2420 }

/-- The signature verifies under the key that SIGNER names (R449). -/
def tokenSigned (s : State) (r : Req) (t : Token) : Bool :=
  let d := sha3 ((chunkBytes r).take 128)
  (t.signer == 0 && !s.sec.malweodOff && Config.mldsaVerify 1 d t.sig) ||
    (t.signer == 1 && match ownerKeyNo s with
      | some k => Config.mldsaVerify k d t.sig
      | none => false)

/-- The nonce issued last, unused and no older than 600 s (R449). -/
def nonceFresh (s : State) (n : Nat) : Bool := match s.sec.nonce with
  | some (m, t) => n == m && decide (s.now ≤ t + 600 * oneSec)
  | none => false

/-- Every condition of R449 holds, and the fields lie in the ranges of Table 15.4. -/
def tokenAccepted (s : State) (r : Req) (t : Token) : Bool :=
  !s.sec.debugOff && t.magic == tokenMagic && t.serial == s.sec.serial && nonceFresh s t.nonce && tokenSigned s r t &&
    (!bit t.grants 0 || t.signer == 1 || !s.sec.ownerSet) && within 1 86400 t.life && decide (t.grants < 32)

/-- A debug denial: counted, and a DEBUG_DENIED record with the token's identity, coalesced as class C1 (R266, R324). -/
def debugDenied (token port : Nat) (s : State) : State :=
  episodeRecord false 64 { devRec s 0x0503 1 token 0 with dstDev := s.dev, dstPort := port } (count1 (cDev cdDebug) s)

/-- ACTION 0: a fresh nonce (R448); its value is free (assumption 4). -/
def issueNonce (s : State) : Answer × State :=
  let n := drawn s % 2 ^ 256
  good (quads256 (BitVec.ofNat 256 n)) { drew s with sec.nonce := some (n, s.now) }

/-- ACTION 1: each nonce serves one submission (R449). -/
def submitToken (r : Req) (s : State) : Answer × State :=
  let t := tokenOf r
  let s1 : State := { s with sec.nonce := none }
  if tokenAccepted s r t then good [] { s1 with sec.token := some (t.id, t.grants, t.signer, s.now + t.life * oneSec) }
  else refuse stDenied (debugDenied t.id 0 s1)

/-- DEBUG_TOKEN: ACTION in [63:60]; the token follows from quadword 1. Only the debug mailbox takes it (Table 13.11). -/
def debugToken : Handler := fun r s =>
  if !headerOk r then invalidHeader s
  else if r.mb ≠ 66 then refuse stDenied s
  else match payloadBad r [2 ^ 64 - 2 ^ 60] with
    | some q => invalidAt q s
    | none => match pf r 0 63 60 with
      | 0 => issueNonce s
      | 1 => if rLen r = 2556 then submitToken r s else invalidHeader s
      | 2 => good [] { s with sec.token := none }
      | _ => invalidAt 0 s

def isToken (act : Nat) (r : Req) : Bool := isOp 0x0D03 r && pf r 0 63 60 == act

def execDebugTokenNonce (dt : Time) (r : Req) (s : State) : Host.Outcome State Fault Refusal :=
  run dt (okReq r) (command (isToken 0) debugToken r) s
/-- The row names the token that the request carries. -/
def execDebugTokenSubmit (dt : Time) (r : Req) (tok : Token) (s : State) : Host.Outcome State Fault Refusal :=
  run dt (okReq r) (command (fun r => isToken 1 r && tokenOf r == tok) debugToken r) s
def execDebugTokenRevoke (dt : Time) (r : Req) (s : State) : Host.Outcome State Fault Refusal :=
  run dt (okReq r) (command (isToken 2) debugToken r) s

/-- DEBUG_TOKEN_EXPIRY: a token ends LIFE_S after its acceptance (R450). -/
def execDebugTokenExpiry (dt : Time) (s : State) : Host.Outcome State Fault Refusal :=
  run dt true (fun s => match s.sec.token with
    | some (_, _, _, ends) => if ends ≤ s.now then { s with sec.token := none } else s
    | none => s) s

/-! Debug accesses (R32, R257, R262, R263, R266, R451). -/

/-- The identity of the token in force. -/
def tokenId (s : State) : Nat := match s.sec.token with
  | some (i, _) => i
  | none => 0

/-- A debug access that is denied: the read returns zeros, the write is discarded. -/
def denyDebug (port : Nat) (write : Bool) (s : State) : State :=
  emit (.debugResponse true (if write then [] else [0])) (debugDenied (tokenId s) port s)

/-- A debug memory request as the tables see it (Table 8.1). -/
def debugAccessOf (s : State) (write : Bool) : Access :=
  { needR := !write, needW := write, user := !bit (tokenGrants s) 0, srcPart := none, vf := none, debug := true, own := false }

/-- The entry at which some part of the request is denied (R262, R265). -/
def debugStop (s : State) (port table lo len : Nat) (write : Bool) : Option Nat :=
  (partStarts s port table lo len).findSome? fun x =>
    match decideAt s port table x (debugAccessOf s write) with
    | (true, _) => none
    | (false, i) => some i

/-- A memory access behind a port; the access names the port and the table, reach or guard, that decide it (R266, assumption 139). What a
read returns lies outside the device: a free value (assumption 4). -/
def debugMemory (port table lo len : Nat) (write : Bool) (s : State) : State :=
  if !bit (tokenGrants s) (if write then 2 else 1) then denyDebug port write s
  else match debugStop s port table lo len write with
    | some i => denyDebug port write (count1 (cAct port table i) s)
    | none =>
      let t : Tlp := { kind := if write then .memWrite else .memRead, addr := lo, len := len }
      let s1 := if (s.port port).up then emit (.tlp port t) s else s
      if write then emit (.debugResponse false []) s1 else emit (.debugResponse false [drawn s1]) (drew s1)

/-- Some enabled partition is in strict isolation mode (R451). -/
def anyStrict (s : State) : Bool := (parts s).any (partStrict s)

/-- Memories with a debug read side port (Table 1.4), and those that strict isolation closes: mover staging, the tag table, and the
counter groups private to a strict partition (R32, R507). -/
def sidePortOpen (s : State) (b : Bank) : Bool := match b with
  | .output _ _ => true
  | .moverStaging _ _ _ | .tagTable _ => !anyStrict s
  | .counterBank id => !(anyStrict s && [1, 4, 5, 6, 7].contains (id / 2 ^ 24))
  | _ => false

/-- A read through a debug read side port: a counter's live value, all ones once it is marked invalid (R498); what other
memories hold at a word is not laid out, a free value (assumption 4). -/
def debugSidePort (b : Bank) (s : State) : State :=
  if !bit (tokenGrants s) 3 || !sidePortOpen s b then denyDebug 0 false s
  else match b with
    | .counterBank id =>
      emit (.debugResponse false [if s.count.invalid.contains id then 2 ^ 64 - 1 else tget 0 s.count.live id]) s
    | _ => emit (.debugResponse false [drawn s]) (drew s)

def execDebugAccess (dt : Time) (tgt : DebugTarget) (s : State) : Host.Outcome State Fault Refusal :=
  run dt (okDebug tgt) (fun s => match tgt with
    | .memory port table addr len write => debugMemory port table addr len write s
    | .sidePort b => debugSidePort b s) s

/-! Fuses and provisioning (R436, R437). -/

/-- FUSE_READ: fuse bits [383:0], low quadword first. -/
def fuseRead : Handler := checkedBy ⟨false, true, true, false, false⟩ (emptyRequest fun s => bytesToQuads (fuseBytes s))

def execFuseRead (dt : Time) (r : Req) (s : State) : Host.Outcome State Fault Refusal :=
  run dt (okReq r) (command (isOp 0x0D04) fuseRead r) s

/-- What a provisioning token signs, to which the manual gives no contents (R437; DESIGN CHOICE, assumption 81). -/
def provDigest (s : State) (keyHash : BitVec 256) (policy : Nat) : BitVec 256 :=
  sha3 (leBytes 32 keyHash.toNat ++ leBytes 8 policy ++ leBytes 8 s.sec.serial)

/-- PROVISIONING: under a token of the Malweod provisioning authority, and only while OWNER_SET is 0, the owner key hash, OWNER_SET
and the policy bits are programmed together, and the owner's public key is stored. A token without a key hash is brought into
force for the private test instructions (R520). -/
def provision (keyHash : BitVec 256) (reqSigned debugOff malweodOff : Bool) (ownerKey sig : Nat) (s : State) : State :=
  let policy := pack [(6, 6, b2n reqSigned), (5, 5, b2n debugOff), (4, 4, b2n malweodOff)]
  if s.sec.ownerSet || !corePowered s || !Config.mldsaVerify 2 (provDigest s keyHash policy) sig then s
  else if keyHash = 0 then { s with sec.provToken := true }
  else { s with
    sec.ownerSet := true, sec.ownerHash := keyHash, sec.reqSigned := reqSigned, sec.debugOff := debugOff
    sec.malweodOff := malweodOff, sec.ownerKey := ownerKey % 2 ^ 10496, sec.provToken := true }

def execProvisioning (dt : Time) (keyHash : BitVec 256) (reqSigned debugOff malweodOff : Bool) (ownerKey : Nat) (sig : Nat)
    (s : State) : Host.Outcome State Fault Refusal :=
  run dt true (provision keyHash reqSigned debugOff malweodOff ownerKey sig) s

/-! Production test (R519 to R521). -/

/-- The private instructions are accepted (R520). -/
def privateAllowed (s : State) : Bool := !s.sec.ownerSet && s.sec.provToken && corePowered s

/-- SCAN_ENTRY: the core die and the I/O dies are cleared and ID_SEED is locked; only a power-on leaves scan. -/
def scanEntry (s : State) : State :=
  if privateAllowed s then
    let s1 := coldCore (stopCad s)
    { s1 with sec.scan := true, sec.seedLocked := true }
  else s

def execScanEntry (dt : Time) (s : State) : Host.Outcome State Fault Refusal := run dt true scanEntry s

/-- MEMORY_BIST: its results are kept in the wear store (R521). -/
def execMemoryBist (dt : Time) (pass : Bool) (single : Nat) (s : State) : Host.Outcome State Fault Refusal :=
  run dt true (fun s =>
    if privateAllowed s then { s with count.bistPass := pass, count.bistSingle := min 65535 single } else s) s

/-- The production test record (Table 19.2). -/
def testQuads (s : State) : List Word64 :=
  [quad [(63, 48, s.count.testDate), (47, 40, s.count.screen), (39, 39, b2n s.count.bscanPass), (38, 38, b2n s.count.scanPass),
    (37, 37, b2n s.count.bistPass), (31, 16, s.count.bistSingle)]]

/-- TEST_STATUS. -/
def testStatus : Handler := checkedBy ⟨false, true, false, false, false⟩ (emptyRequest testQuads)

def execTestStatus (dt : Time) (r : Req) (s : State) : Host.Outcome State Fault Refusal :=
  run dt (okReq r) (command (isOp 0x0C02) testStatus r) s

/-! SPDM (R446, R447, Table 15.3). -/

/-- Progress of a transport: 1 after VERSION, 2 after CAPABILITIES, 3 after ALGORITHMS. -/
def spdmState (s : State) (t : Nat) : Nat := tget 0 s.sec.spdm t
def setSpdm (t n : Nat) (s : State) : State := { s with sec.spdm := tset 0 s.sec.spdm t n }

/-- An SPDM response without a signature. -/
def spdmSend (t code : Nat) (body : List Nat) (s : State) : State := emit (.spdm t code body 0) s
/-- ERROR with a code: 1 InvalidRequest, 3 Busy, 4 UnexpectedRequest. -/
def spdmError (t code : Nat) (s : State) : State := spdmSend t 0x7F [code] s

/-- A transport that exists: an enabled partition's function 0 here, or the out-of-band endpoint (64). -/
def spdmTransport (s : State) (t : Nat) : Bool := t == 64 || (partEn s t && partHome s t == s.dev && decide (t < 64))

/-- One request: Busy while the MC restarts, UnexpectedRequest before the steps it needs (R447). -/
def spdm (t need : Nat) (f : State → State) (s : State) : State :=
  if !coreRuns s || !spdmTransport s t then s
  else if !s.mgmt.serving || s.chip.romRecovery then spdmError t 3 s
  else if spdmState s t < need then spdmError t 4 s
  else f s

/-- The digest of the certificate chain. -/
def certDigest : BitVec 256 := sha3 Config.certChain

/-- GET_VERSION: 1.2, and the transport starts anew. -/
def execGetVersion (dt : Time) (transport : Nat) (s : State) : Host.Outcome State Fault Refusal :=
  run dt true (spdm transport 0 fun s => spdmSend transport 0x04 [0x12] (setSpdm transport 1 s)) s

/-- GET_CAPABILITIES: certificates, challenge and signed measurements, and no other flag. -/
def execGetCapabilities (dt : Time) (transport : Nat) (s : State) : Host.Outcome State Fault Refusal :=
  run dt true (spdm transport 1 fun s => spdmSend transport 0x61 [0x16] (setSpdm transport 2 s)) s

/-- NEGOTIATE_ALGORITHMS: SHA3-256 and ML-DSA-44 (0x0001 under the vendor ID of ID_IANA), when the requester offers both. -/
def execNegotiateAlgorithms (dt : Time) (transport : Nat) (offersSha3 offersMldsa : Bool) (s : State) :
    Host.Outcome State Fault Refusal :=
  run dt true (spdm transport 2 fun s =>
    if offersSha3 && offersMldsa then spdmSend transport 0x63 [256, 61207, 1] (setSpdm transport 3 s) else spdmError transport 1 s) s

/-- GET_DIGESTS: slot 0 alone. -/
def execGetDigests (dt : Time) (transport : Nat) (s : State) : Host.Outcome State Fault Refusal :=
  run dt true (spdm transport 3 (spdmSend transport 0x01 [1, certDigest.toNat])) s

/-- GET_CERTIFICATE: a portion of slot 0's chain, and how much remains. -/
def execGetCertificate (dt : Time) (transport slot offset length : Nat) (s : State) : Host.Outcome State Fault Refusal :=
  run dt true (spdm transport 3 fun s =>
    let all := Config.certChain
    if slot ≠ 0 ∨ all.length < offset then spdmError transport 1 s
    else
      let part := (all.drop offset).take length
      spdmSend transport 0x02 ([slot, part.length, all.length - offset - part.length] ++ part.map (·.toNat)) s) s

/-- The three measurement blocks. -/
def measurement (s : State) : Nat → BitVec 256
  | 1 => s.sec.mFw
  | 2 => s.conf.mCfg
  | _ => s.sec.mFuse

/-- A measurement block: its index, its DMTF value type and its digest (Table 15.3). -/
def measBlock (s : State) (i : Nat) : List Nat :=
  [i, match i with
    | 1 => 0x01
    | 2 => 0x03
    | _ => 0x02, (measurement s i).toNat]

/-- A signed response: the engine puts the blocks and the chain digest into the transcript from its own registers (R445). The
responder's nonce is free (assumption 4). -/
def spdmSigned (t code : Nat) (body : List Nat) (nonce : BitVec 256) (s : State) : State :=
  let own := drawn s % 2 ^ 256
  let script := leBytes 32 nonce.toNat ++ leBytes 32 own ++ body.flatMap (leBytes 32)
  emit (.spdm t code (own :: body) (identitySig s script)) (drew s)

/-- CHALLENGE: CHALLENGE_AUTH over slot 0. -/
def execChallenge (dt : Time) (transport slot : Nat) (nonce : BitVec 256) (s : State) : Host.Outcome State Fault Refusal :=
  run dt true (spdm transport 3 fun s =>
    if slot ≠ 0 then spdmError transport 1 s else spdmSigned transport 0x03 [certDigest.toNat] nonce s) s

/-- GET_MEASUREMENTS: index 0 asks for the number of blocks, 1 to 3 for one, 255 for all. -/
def execGetMeasurements (dt : Time) (transport index : Nat) (signed : Bool) (nonce : BitVec 256) (s : State) :
    Host.Outcome State Fault Refusal :=
  run dt true (spdm transport 3 fun s =>
    let blocks := match index with
      | 0 => some [3]
      | 255 => some ([1, 2, 3].flatMap (measBlock s))
      | _ => if within 1 3 index then some (measBlock s index) else none
    match blocks with
    | none => spdmError transport 1 s
    | some b => if signed then spdmSigned transport 0x60 b nonce s else spdmSend transport 0x60 b s) s

end Sys2Proof.Machine
end

