-- ==== Sys2Proof/Machine/Endure.lean ====
section
/-! DEFINITION. Ageing, re-shimming, the planer, power and the governor, the VDD_CORE setpoint, and STRICT_HOLD (chapter 17, R453 to
R455, R529). -/

namespace Sys2Proof.Machine

/-! The governor, the power cap and the current guard (R489 to R495). -/

/-- The higher of the governor's stage and the power cap's acts (Table 17.12). -/
def effStage (s : State) : Nat := max s.power.stage s.power.capStage

/-- The partition's devices elsewhere: those that hold a port of it, and the homes of partitions that its windows name. -/
def farDevs (s : State) (p : Nat) : List Nat :=
  (partDevices s p ++ ((s.mine 0x18).filter fun e => rb e.data 255 && rf e.data 254 249 == p).map
    fun e => partHome s (rf e.data 248 243)).eraseDups.filter (· != s.dev)

/-- The conditions of Table 15.5 that fail for a partition, in table order from 1 (R453, R455). Conditions that follow from the
rules of strict mode alone (the guarantee pass, private counters, closed side ports) fail only with STRICT 0. -/
def strictFails (s : State) (p : Nat) : List Bool :=
  let strict := partStrict s p
  let ports := partPorts s p
  [ !strict,
    (List.range 128).any fun q => portEn s q && (List.range 8).any fun v => rf (s.cfg 0x30 q (8 * p + v)) 107 88 == 0,
    s.hub.frames.any fun f => f.sub == p && f.region == .shared,
    !strict,
    (laneUsers s).any fun f => f.2.1 == p && (laneUsers s).any fun g => g.2.1 != p && g.2.2 == f.2.2,
    (s.mine 0x20).any fun e => portEn s (e.a % 128) && portPart s (e.a % 128) == p && rb e.data 127 &&
      (!rb e.data 123 || pegOf s (e.a % 128) (e.b / 64) (e.b % 64) != 2),
    !strict,
    !strict,
    (ports.any fun q => !((s.port q).up && (s.port q).width == portWidth s q && (s.port q).rate == rf (portRec s q) 47 45)) ||
      (farDevs s p).any fun d => (routeSpokes s d).any fun k => spokeUp s k && laneCount (s.spoke k) != 8,
    decide (((List.range 4).filter fun e => (s.engine e).inService).length < 3),
    moverHalved s,
    s.chip.coreSsc != 0 ]

/-- STRICT_HOLD of a partition: bit 0 while every condition holds, bits 1 to 12 for those that fail (R455). -/
def strictHold (s : State) (p : Nat) : Nat :=
  let fs := strictFails s p
  b2n (!fs.any id) + pack ((List.range 12).map fun i => (i + 1, i + 1, b2n (fs.getD i false)))

/-- Position of the transitions of STRICT_HOLD bit 0 among a partition's counters. -/
def cpHold := 18

/-- Bring bit 0 of every strict partition's STRICT_HOLD up to date: a transition is counted, and writes a GOVERNOR record when
the governor caused it (R455). -/
def settleHolds (byGovernor : Bool) (s : State) : State :=
  forAll (homeParts s) (fun p s =>
    let holds := partStrict s p && bit (strictHold s p) 0
    if (s.part p).holds = holds then s
    else
      let s1 := count1 (cPart p cpHold) (modPart p (fun q => { q with holds := holds }) s)
      if byGovernor && partStrict s p then deviceRecord 0x0B01 0 s.power.stage 0 s1 else s1) s

/-- Stages, the cap's actions and the current guard take effect: CLK_CORE (R462, R489), and the mover's limits, whose shapers
compute E again at their new rates (R491, R492). -/
def setPower (f : Power → Power) (s : State) : State :=
  let s1 : State := { s with power := f s.power }
  let s2 : State := { s1 with chip.coreSlow := s1.power.guard || decide (3 ≤ effStage s1) }
  if moverHalved s = moverHalved s2 then s2
  else settleHolds true (forAll ((List.range 512).filter fun v => vfEn s2 v)
    (fun v s' => rebaseSh (shKey 6 v) (creditNow s (shKey 6 v)) s') s2)

/-- Table 17.11: the temperature at which a stage is entered, and the one below which it is left. -/
def enterAt (xt : Bool) : Nat → Int
  | 1 => 100
  | 2 => 101
  | 3 => 103
  | _ => if xt then 110 else 105
def leaveBelow (xt : Bool) : Nat → Int
  | 1 => 97
  | 2 => 98
  | 3 => 100
  | _ => if xt then 108 else 103

/-- The highest stage whose entry temperature is reached. -/
def stageFor (xt : Bool) (tj : Int) : Nat :=
  (((List.range 5).filter fun k => k != 0 && decide (enterAt xt k ≤ tj)).getLast?).getD 0

/-- Stages from the present one down to the first that holds, once the present one has been held for 1 s. -/
def stageLeft (xt : Bool) (tj : Int) : Nat → Nat
  | 0 => 0
  | k + 1 => if tj < leaveBelow xt (k + 1) then stageLeft xt tj k else k + 1

/-- GOVERNOR records of the stages that are entered or left (R491). -/
def stageRecords (from' to' : Nat) (s : State) : State :=
  let ks := if from' < to' then List.range' (from' + 1) (to' - from') else (List.range' (to' + 1) (from' - to')).reverse
  forAll ks (fun k => deviceRecord 0x0B01 0 k 0) s

/-- GOVERNOR_TICK: T_J over the last 1 ms. Entering wins over leaving (Table 17.12). -/
def governorTick (tj : Int) (s : State) : State :=
  if !coreRuns s || inDeviceReset s then s
  else
    let was := s.power.stage
    let xt := s.chip.orderingXt
    let up := stageFor xt tj
    let next := if was < up then up else if s.since s.power.stageAt oneSec then stageLeft xt tj was else was
    let s1 := if was = 0 then s else countTime (cDev (cdStage + was - 1)) ms s
    let s2 := setPower (fun w => { w with tj := tj, stage := next, stageAt := if was < next then s.now else w.stageAt }) s1
    settleHolds false (stageRecords was next s2)

def execGovernorTick (dt : Time) (tj : Int) (s : State) : Host.Outcome State Fault Refusal := run dt true (governorTick tj) s

/-- POWER_CAP_WINDOW: one action is taken or undone by the power averaged over WIN_MS, in mW (R490). -/
def capWindow (avgMw : Nat) (s : State) : State :=
  let w := s.power
  if !coreRuns s || w.capW = 0 then s
  else if w.capW * 1000 < avgMw then
    if w.capStage < 3 then setPower (fun w => { w with capStage := w.capStage + 1 }) s
    else { s with power.capMissed := w.capMissed + 1 }
  else if avgMw * 100 < w.capW * 95000 then setPower (fun w => { w with capStage := w.capStage - 1 }) s
  else s

def execPowerCapWindow (dt : Time) (avgMw : Nat) (s : State) : Host.Outcome State Fault Refusal := run dt true (capWindow avgMw) s

/-- CURRENT_GUARD_ENGAGE and CURRENT_GUARD_RELEASE (R489). -/
def setGuard (on : Bool) (s : State) : State := if coreRuns s then setPower (fun w => { w with guard := on }) s else s
def execCurrentGuardEngage (dt : Time) (s : State) : Host.Outcome State Fault Refusal := run dt true (setGuard true) s
def execCurrentGuardRelease (dt : Time) (s : State) : Host.Outcome State Fault Refusal := run dt true (setGuard false) s

/-- POWER_CAP: the record of Table 17.10 in the low half of quadword 0. -/
def powerCap : Handler := checkedBy ⟨false, true, true, false, false⟩ fun r s =>
  let cap := pf r 0 31 23
  let win := pf r 0 22 13
  match payloadBad r [2 ^ 32 - 2 ^ 12] with
  | some q => invalidAt q s
  | none =>
    if (cap = 0 ∨ within 150 385 cap) ∧ within 1 1000 win then
      good [] (setPower (fun w => { w with
        capW := cap, winMs := win, capStage := if cap = 0 then 0 else w.capStage }) s)
    else invalidAt 0 s

def execPowerCap (dt : Time) (r : Req) (s : State) : Host.Outcome State Fault Refusal :=
  run dt (okReq r) (command (isOp 0x0B04) powerCap r) s

/-! The VDD_CORE setpoint (R529). PMBus commands: 0x21 VOUT_COMMAND, 0x79 STATUS_WORD. -/

/-- VDD_SETPOINT_STEP: one step of 2.5 mV toward the target, and STATUS_WORD read back; without an acknowledgement, or with a
fault, no further setpoint is written until the next boot. -/
def vddStepNext (ack fault : Bool) (statusWord : BitVec 16) (s : State) : State :=
  let w := s.power
  if !coreRuns s || w.vddStopped || w.vddStep = w.vddTarget then s
  else
    let n := if w.vddStep < w.vddTarget then w.vddStep + 1 else w.vddStep - 1
    emit (.pmbus 0x79 0) (emit (.pmbus 0x21 n) { s with
      power.vddStep := if ack then n else w.vddStep
      power.statusWord := if ack then statusWord else w.statusWord
      power.vddStopped := !ack || fault })

def execVddSetpointStep (dt : Time) (ack fault : Bool) (statusWord : BitVec 16) (s : State) :
    Host.Outcome State Fault Refusal := run dt true (vddStepNext ack fault statusWord) s

/-- VR_ALERT: STATUS_WORD is read; after a trip, at the next boot (R542). -/
def execVrAlert (dt : Time) (statusWord : BitVec 16) (s : State) : Host.Outcome State Fault Refusal :=
  run dt true (fun s => if coreRuns s then emit (.pmbus 0x79 0) { s with power.statusWord := statusWord } else s) s

/-! The wear ledger (R476 to R478). -/

/-- Table 17.2, in twentieths. -/
def wearFactor (t : Int) : Nat :=
  if t < 65 then 5 else if t < 75 then 10 else if t < 85 then 20 else if t < 95 then 36 else if t ≤ 100 then 50 else 64

/-- EQ_HOURS in 1/16 h: 225 s of factor 1 (R476). -/
def eqHours (w : Wear) : Nat := w.charge / 4500
/-- LIFE_USED: a percentage of 175,320 h, saturating at 255. -/
def lifeUsed (w : Wear) : Nat := min 255 (eqHours w * 100 / (175320 * 16))

/-- One second of powered time of one die at its hottest sensor. -/
def wearOne (t : Int) (w : Wear) : Wear :=
  { w with charge := w.charge + wearFactor t, powered := w.powered + 1, hot := w.hot + b2n (decide (100 < t)), tMax := max w.tMax t }

/-- A die is powered: the slot power die on VPWR, the others on the core rails while no trip holds them off. -/
def diePowered (s : State) (d : Nat) : Bool := if d = 5 then !s.slot.vpwrLost else corePowered s

/-- The thresholds of R478 that a charge passes write WEAR_THRESHOLD records. -/
def wearThresholds (d : Nat) (old new : Wear) (s : State) : State :=
  forAll ([80, 90, 100].filter fun k => decide (lifeUsed old < k) && decide (k ≤ lifeUsed new))
    (fun _ => deviceRecord 0x0B08 0 d (lifeUsed new)) s

/-- WEAR_CHARGE: the hottest sensor of each die in the second that ends. -/
def wearCharge (temps : List Int) (s : State) : State :=
  forAll (((List.range 6).zip temps).filter fun x => diePowered s x.1) (fun x s =>
    let old := tget {} s.aging.wear x.1
    let new := wearOne x.2 old
    wearThresholds x.1 old new { s with aging.wear := tset {} s.aging.wear x.1 new }) s

def execWearCharge (dt : Time) (temps : List Int) (s : State) : Host.Outcome State Fault Refusal := run dt true (wearCharge temps) s

/-- A new copy in the wear store (R477): the ledger and the policies, and, unless a run is still under way, its plan (R485). -/
def saveWear (s : State) : State :=
  let a := s.aging
  let plan : WearStore := if a.running then a.store else { a.store with
    vddOfs := a.vddOfs, roSlow := a.roSlow, retiredLanes := a.retiredLanes, overlay := a.overlay, lastRun := a.lastRun }
  { s with
    aging.store := { plan with
      wear := a.wear, allowStep := a.allowStep, intervalD := a.intervalD, noticeS := a.noticeS, planerEn := a.planerEn
      paceMs := a.paceMs }
    aging.storeCopy := (a.storeCopy + 1) % 16 }

def execWearStoreWrite (dt : Time) (s : State) : Host.Outcome State Fault Refusal :=
  run dt true (fun s => if mcRuns s then saveWear s else s) s

/-- A die's ledger record, low quadword first (Table 17.3). -/
def wearQuads (w : Wear) : List Word64 :=
  [quad [(63, 40, w.hot / 225), (39, 32, (w.tMax % 256).toNat), (31, 24, w.trips), (23, 16, lifeUsed w)],
   quad [(63, 32, eqHours w), (31, 0, w.powered / 225)]]

/-- WEAR_READ: dies 0 to 5. -/
def wearRead : Handler := checkedBy ⟨false, true, true, false, false⟩ (emptyRequest fun s =>
  (List.range 6).flatMap fun d => wearQuads (tget {} s.aging.wear d))

def execWearRead (dt : Time) (r : Req) (s : State) : Host.Outcome State Fault Refusal :=
  run dt (okReq r) (command (isOp 0x0B03) wearRead r) s

/-! Re-shimming (R480 to R485). -/

/-- Powered seconds of the core die. -/
def coreSeconds (s : State) : Nat := (tget {} s.aging.wear 0).powered

/-- Table 17.6. -/
def noticeLevel (s : State) (l : Nat) : Nat := if stationMode s (l / 16) = 2 then 40 else if lanePam4 s l then 12 else 25
def stepLevel (s : State) (l : Nat) : Nat := if stationMode s (l / 16) = 2 then 25 else if lanePam4 s l then 8 else 15

/-- A lane that carries a link and has a valid eye record below a level. -/
def eyeBelow (s : State) (l level : Nat) : Bool := laneCarries s l && (s.lane l).eyeValid && decide ((s.lane l).eyeH < level)

/-- The maxima of Table 4.4. -/
def maxLimits : Nat × Nat × Nat := (127, 31, 15)
def limitsMaxed (s : State) (st : Nat) : Bool := truingLimits s st == maxLimits

def addAction (i : Nat) (s : State) : State := { s with aging.actions := setBit s.aging.actions i }

/-- Order 1: the VDD_CORE offset, never lowered; `slow` is the worst core-die s in units of 0.05 % (R481). -/
def orderVoltage (slow : Nat) (s : State) : State :=
  let want := max s.aging.vddOfs (min 12 (ceilDiv (slow - 10) 5))
  let s1 := if want = s.aging.vddOfs then s
    else addAction 0 { s with aging.vddOfs := want, power.vddTarget := want }
  if 70 < slow then deviceRecord 0x0B07 0 slow 0 s1 else s1

/-- Order 2: stations whose limits can still be raised, with a lane at its limit or below its notice level. -/
def orderLimits (s : State) : State :=
  forAll ((List.range 20).filter fun st => !limitsMaxed s st && (List.range' (16 * st) 16).any fun l =>
      laneCarries s l && (atLimit (truingLimits s st) (s.lane l).coef.dfe || eyeBelow s l (noticeLevel s l)))
    (fun st s => addAction 1 { s with aging.overlay.limits := tput s.aging.overlay.limits st maxLimits }) s

/-- The spoke is at work for a loop-back, which re-shimming leaves alone (Table 19.4). -/
def shimSkips (s : State) (k : Nat) : Bool := loopLink s k || loopHolds s (1000 + k)

/-- Order 4: a lane below 25 mV whose preset an earlier run has moved is retired, one a spoke, from 8 usable lanes. -/
def orderRetire (moved : Tbl Nat) (k : Nat) (s : State) : State :=
  if laneCount (s.spoke k) ≠ 8 || shimSkips s k then s
  else match (List.range 8).find? fun i => eyeBelow s (spokeLane k i) 25 && (tfind moved (spokeLane k i)).isSome with
    | some i => addAction 3 (retireLane k i (sendRetire k i 0 { s with aging.retiredLanes := s.aging.retiredLanes + 1 }))
    | none => s

/-- Order 3: a lane still below 40 mV that order 2 cannot help takes the next preset, and its spoke retrains. -/
def orderPreset (maxed : List Nat) (l : Nat) (s : State) : State :=
  let k := l / 8
  if eyeBelow s l 40 && stationMode s (l / 16) == 2 && maxed.contains (l / 16) && decide (lanePreset s l < 10) && !shimSkips s k &&
      bit (s.spoke k).active (l % 8) then
    addAction 2 { s with
      aging.overlay.presets := tput s.aging.overlay.presets l (lanePreset s l + 1)
      aging.retrain := if s.aging.retrain.contains k then s.aging.retrain else s.aging.retrain ++ [k] }
  else s

/-- The lowest eye of a port's lanes. -/
def portEye (s : State) (p : Nat) : Nat := ((portLanes s p).filter fun l => (s.lane l).eyeValid && laneCarries s l).foldl
  (fun m l => min m (s.lane l).eyeH) 255

/-- A PCIe port that may step: a lane below its step level, the limits raised, and a rate above 8 GT/s (Table 17.5). -/
def maySteps (s : State) (p : Nat) : Bool :=
  portEn s p && decide (3 ≤ targetRate s p) && (portLanes s p).any fun l => eyeBelow s l (stepLevel s l)

/-- Order 5: the notice, for the owner's ring as well (R479, R484). -/
def orderNotice (maxed : List Nat) (p : Nat) (s : State) : State :=
  if maySteps s p && maxed.contains (portStation s p) then
    record [portPart s p] { devRec s 0x0B06 0 p (portEye s p) with srcPort := p }
      { s with aging.notices := tput s.aging.notices p s.now }
  else s

/-- A run takes its readings and acts in the order of Table 17.5. -/
def startReshim (slow : Nat) (s : State) : State :=
  let maxed := (List.range 20).filter (limitsMaxed s)
  let moved := s.aging.overlay.presets
  let s1 : State := { s with
    aging.running := true, aging.runAt := s.now, aging.actions := 0, aging.retrain := [], aging.notices := []
    aging.roSlow := min 255 slow }
  let s2 := orderLimits (orderVoltage slow s1)
  let s3 := forAll (List.range 40) (orderRetire moved) s2
  let s4 := forAll (List.range 320) (orderPreset maxed) s3
  let s5 := forAll (List.range 128) (orderNotice maxed) s4
  forAll ((List.range 320).filter (laneCarries s5)) (fun l => modLane l fun x => { x with shimH := x.eyeH }) s5

/-- RESHIM: MODE in [0] of quadword 0; MODE 1 has the policy fields of Table 17.7 in quadword 1. The slowdown that a run reads is
free (assumption 4). -/
def reshimBody : Handler := fun r s =>
  if !holdsLock s r.mb 0 then refuse stNoLock s
  else if s.aging.running ∨ 2 ≤ effStage s then refuse stBusy s
  else if pf r 0 0 0 = 0 then
    match payloadBad r [1] with
      | some q => invalidAt q s
      | none => good [] (startReshim (drawn s % 256) (drew s))
  else match payloadBad r [1, 2 ^ 60 - 2 ^ 32] with
    | some q => invalidAt q s
    | none =>
      if pf r 1 58 48 = 0 then invalidAt 1 s
      else good [] (saveWear { s with
        aging.allowStep := pf r 1 59 59 == 1, aging.intervalD := pf r 1 58 48, aging.noticeS := pf r 1 47 32 })

def reshim : Handler := checkedBy ⟨false, true, true, false, false⟩ reshimBody

def execReshimRun (dt : Time) (r : Req) (s : State) : Host.Outcome State Fault Refusal :=
  run dt (okReq r) (command (fun r => isOp 0x0B02 r && pf r 0 0 0 == 0) reshim r) s
def execReshimPolicy (dt : Time) (r : Req) (s : State) : Host.Outcome State Fault Refusal :=
  run dt (okReq r) (command (fun r => isOp 0x0B02 r && pf r 0 0 0 == 1) reshim r) s

/-- RESHIM_INTERVAL: INTERVAL_D days of powered time since the last run; stage 2 holds it back (R480, R491). -/
def execReshimInterval (dt : Time) (slow : Nat) (s : State) : Host.Outcome State Fault Refusal :=
  run dt true (fun s =>
    if mcRuns s && !s.aging.running && decide (effStage s < 2) &&
        decide (s.aging.lastRun + s.aging.intervalD * 86400 ≤ coreSeconds s) then startReshim slow s
    else s) s

/-- RESHIM_STEP: NOTICE_S after the notice the port steps down one rate, if its lane is still below its level (R484). -/
def reshimStep (p : Nat) (s : State) : State :=
  match tfind s.aging.notices p with
  | none => s
  | some t =>
    if !s.aging.allowStep || !s.since t (s.aging.noticeS * oneSec) then s
    else
      let s1 : State := { s with aging.notices := tdel s.aging.notices p }
      if !maySteps s p then s1
      else
        let rate := targetRate s p - 1
        let s2 := addAction 4 { s1 with aging.overlay.rates := tput s1.aging.overlay.rates p rate }
        if (s2.port p).up then
          let s3 := modPort p (fun q => { q with recovery := true, rate := min q.rate rate }) s2
          if (s2.port p).recovery then s3 else count1 (cPort p 16) s3
        else s2

def execReshimStep (dt : Time) (port : Nat) (s : State) : Host.Outcome State Fault Refusal :=
  run dt (okPort port) (reshimStep port) s

/-- Spokes that retrain: in `aging.retrain`, k waits, 100 + k is being drained, 200 + k retrains. -/
def retraining (s : State) (k : Nat) : Bool := s.aging.retrain.contains (100 + k) || s.aging.retrain.contains (200 + k)

/-- R483: at most half of the up spokes of every route record, one always up, and one tandem spoke at a time. -/
def mayRetrain (s : State) (k : Nat) : Bool :=
  ((destsOf s k).all fun d =>
    let ks := routeSpokes s d
    let busy := (ks.filter (retraining s)).length
    let up := (ks.filter fun j => spokeUp s j || retraining s j).length
    decide (2 * (busy + 1) ≤ up)) &&
  !(s.tandem.spokes.contains k && s.tandem.spokes.any (retraining s))

/-- The buckets of a spoke that is to retrain move to the other spokes of their routes that are up (R207, R483). -/
def drainSpoke (k : Nat) (s : State) : State :=
  forAll (destsOf s k) (fun d s =>
    let mine := (List.range 16).filter fun b => (s.bucket d b).spoke == some k
    let ups := (routeSpokes s d).filter fun j => spokeUp s j && j != k && !retraining s j
    forAll ((List.range mine.length).zip mine) (fun x s => match ups[x.1 % ups.length]? with
        | some j => putBucket d x.2 { spoke := some j, movingSince := some s.now } s
        | none => s)
      (countBy (cSpoke k ckBucketMoves) mine.length s)) s

/-- Nothing of a drained spoke is left on its way. -/
def spokeDrained (s : State) (k : Nat) : Bool :=
  let x := s.spoke k
  x.tx.unsent.isEmpty && x.tx.replay.isEmpty && x.tx.openCells.isEmpty && x.rx.cells.isEmpty &&
    !(s.hub.frames.any (framesFor (spokePort s k)))

def setRetrain (old : Nat) (new : Option Nat) (s : State) : State :=
  { s with aging.retrain := s.aging.retrain.flatMap fun x => if x = old then new.toList else [x] }

/-- One entry of the retraining list moves on as far as it can. -/
def retrainOne (x : Nat) (s : State) : State :=
  let k := x % 100
  if 200 ≤ x then (if spokeUp s k || !spokeEn s k then setRetrain x none s else s)
  else if 100 ≤ x then
    if !spokeUp s k then setRetrain x (some (200 + k)) s
    else if spokeDrained s k then setRetrain x (some (200 + k)) (dropLink k 1 s)
    else s
  else if !spokeUp s k || shimSkips s k then setRetrain x none s
  else if mayRetrain s k then setRetrain x (some (100 + k)) (drainSpoke k s)
  else if s.aging.retrain.all (· < 100) then setRetrain x none s
  else s

/-- RESHIM_COMPLETE: the run's retrainings go on; once every action has completed, its plan reaches the wear store and RESHIM_DONE
is written (R483, R485). -/
def reshimComplete (s : State) : State :=
  if !mcRuns s || !s.aging.running then s
  else
    let s1 := forAll s.aging.retrain retrainOne s
    if s1.aging.retrain.isEmpty && (!s1.aging.allowStep || s1.aging.notices.isEmpty) then
      deviceRecord 0x0B05 0 s1.aging.actions s1.aging.vddOfs
        (saveWear { s1 with aging.running := false, aging.lastRun := coreSeconds s1 })
    else s1

def execReshimComplete (dt : Time) (s : State) : Host.Outcome State Fault Refusal := run dt true reshimComplete s

/-! The planer (R486, R487). -/

/-- Regions of 16 KiB of the memories of Table 1.4, in its order: 8,304 in all. -/
def bankRegions : List Nat := [3840, 2048, 1024, 512, 384, 256, 128, 80, 32]

/-- The memory and the place in it of a region. -/
def regionPlace : List Nat → Nat → Nat → Nat × Nat
  | [], b, r => (b, r)
  | n :: t, b, r => if r < n then (b, r) else regionPlace t (b + 1) (r - n)

/-- PLANER_REGION_START: every PACE_MS, not while governor stage 2 or a power cap holds the planer. -/
def planerStart (s : State) : State :=
  let a := s.aging
  let due := match a.lastStart with
    | some t => s.since t (a.paceMs * ms)
    | none => true
  if coreRuns s && a.planerEn && !a.inRegion && decide (effStage s < 2) && due then
    { s with aging.inRegion := true, aging.lastStart := some s.now }
  else s

def execPlanerRegionStart (dt : Time) (s : State) : Host.Outcome State Fault Refusal := run dt true planerStart s

/-- PLANER_REGION_DONE: `transient` cells that passed their second test, and the rows of the region with a lasting fault. -/
def planerDone (transient : Nat) (lasting : List Nat) (s : State) : State :=
  if coreRuns s && s.aging.inRegion then
    let (bank, i) := regionPlace bankRegions 0 s.aging.region
    let s1 := count1 (cDev cdRegions) (countBy (cDev bank) transient s)
    let s2 := forAll (lasting.eraseDups.filter fun r => decide (r < 32) && !s1.errs.badRows.contains (bank, 32 * i + r))
      (fun r => repairRow bank (32 * i + r)) s1
    let n := (s2.aging.region + 1) % 8304
    { s2 with
      aging.inRegion := false
      aging.region := n
      aging.passes := if n = 0 then (s2.aging.passes + 1) % 4096 else s2.aging.passes }
  else s

def execPlanerRegionDone (dt : Time) (transient : Nat) (lasting : List Nat) (s : State) : Host.Outcome State Fault Refusal :=
  run dt true (planerDone transient lasting) s

/-- PLANER_SET: the fields of Table 17.8 at their positions. -/
def planerSet : Handler := checkedBy ⟨false, true, true, false, false⟩ fun r s =>
  if !holdsLock s r.mb 0 then refuse stNoLock s
  else match payloadBad r [2 ^ 63 + (2 ^ 48 - 2 ^ 34)] with
    | some q => invalidAt q s
    | none =>
      if within 1 10000 (pf r 0 47 34) then
        good [] (saveWear { s with aging.planerEn := pf r 0 63 63 == 1, aging.paceMs := pf r 0 47 34 })
      else invalidAt 0 s

def execPlanerSet (dt : Time) (r : Req) (s : State) : Host.Outcome State Fault Refusal :=
  run dt (okReq r) (command (isOp 0x0B05) planerSet r) s

/-! HEALTH_READ (R475, Tables 17.1, 17.7, 17.8, 17.10). -/

/-- The shim record (Table 17.7). -/
def shimQuad (s : State) : Word64 :=
  let a := s.aging
  quad [(63, 60, a.vddOfs), (59, 59, b2n a.allowStep), (58, 48, a.intervalD), (47, 32, a.noticeS), (31, 24, a.roSlow),
    (23, 16, a.overlay.rates.length), (15, 8, a.retiredLanes), (0, 0, b2n a.running)]

/-- The fewest spare rows left in any memory. -/
def spareMin (s : State) : Nat := ((List.range 9).map fun b => spareRows b - tget 0 s.aging.spares b).foldl min 480

/-- The planer record (Table 17.8). -/
def planerQuad (s : State) : Word64 :=
  let a := s.aging
  quad [(63, 63, b2n a.planerEn), (62, 62, b2n (decide (2 ≤ effStage s))), (47, 34, a.paceMs), (33, 20, a.region),
    (19, 12, spareMin s), (11, 0, a.passes)]

/-- The power cap record (Table 17.10). -/
def capQuad (s : State) : Word64 :=
  let w := s.power
  quad [(31, 23, w.capW), (22, 13, w.winMs), (12, 12, b2n (decide (0 < w.capStage)))]

/-- The setpoint's state (R529): unapplied in [63], the step that stands in [39:32], the target in [31:24], STATUS_WORD in [15:0]. -/
def vddQuad (s : State) : Word64 :=
  let w := s.power
  quad [(63, 63, b2n w.vddStopped), (39, 32, w.vddStep), (31, 24, w.vddTarget), (15, 0, w.statusWord.toNat)]

/-- HEALTH_READ: the four records, then the monitors of Table 17.1, whose readings are free values (assumption 4): 12 quadwords for
96 ageing pairs, 8 for 64 sensors, the current and the power. -/
def healthRead : Handler := checkedBy ⟨true, true, true, true, false⟩ fun r s =>
  if rLen r = 0 then
    good ([shimQuad s, planerQuad s, vddQuad s, capQuad s] ++
      (List.range 22).map fun i => BitVec.ofNat 64 (Config.monitor (s.freeCtr + i))) { s with freeCtr := s.freeCtr + 22 }
  else invalidHeader s

def execHealthRead (dt : Time) (r : Req) (s : State) : Host.Outcome State Fault Refusal :=
  run dt (okReq r) (command (isOp 0x0B01) healthRead r) s

end Sys2Proof.Machine
end

