-- ==== Sys2Proof/Machine/Status.lean ====
section
/-! DEFINITION. Status commands (R407, Table 13.11), the coefficient store's commands and the test access port (R519). Where
Table 13.11 gives no layout the model chooses one (assumption 60): requests name their object in quadword 0 from bit 63 down,
records of the manual keep their own bits, and a record of 128 bits is returned low quadword first. -/

namespace Sys2Proof.Machine

/-- A status command: one request quadword with the used bits `mask`, then who may ask, then which objects exist. A partition
mailbox that may not read the object is DENIED. -/
def statusOf (p : Bool) (mask : Nat) (may : Req → State → Bool) (exists' : Req → State → Bool) (body : Handler) : Handler :=
  checkedBy ⟨p, true, true, true, false⟩ fun r s =>
    if decide (r.mb < 64) && !may r s then refuse stDenied s
    else match payloadBad r [mask] with
      | some q => invalidAt q s
      | none => if exists' r s then body r s else invalidAt 0 s

/-! The device (R4, R5, R363, R460). -/

/-- The identity block (Table 12.5), as the function of partition `part` shows it; no image runs in ROM recovery. -/
def identityQuads (s : State) (part : Nat) : List Word64 :=
  let f := if s.chip.romRecovery then ({} : FwSlot) else s.fwSlot (s.fw.running == 1)
  [quad [(63, 48, 0x1F6C), (47, 32, 0x0320), (31, 24, 0xB1), (23, 16, if s.chip.orderingXt then 2 else 1)],
    quad [(47, 0, s.sec.serial)],
    quad [(29, 24, s.dev), (21, 16, part), (13, 8, if partEn s part then partHome s part else 0), (1, 0, s.chip.addrsel)],
    quad [(63, 32, f.version), (15, 0, f.svn)],
    quad [(31, 0, s.conf.epoch)], quad [(31, 0, 61207)], BitVec.ofNat 64 s.ft.count]

def identify : Handler := checkedBy ⟨true, true, true, true, false⟩ fun r s =>
  if rLen r = 0 then good (identityQuads s (if r.mb < 64 then r.mb else 0)) s else invalidHeader s

def execIdentify (dt : Time) (r : Req) (s : State) : Host.Outcome State Fault Refusal :=
  run dt (okReq r) (command (isOp 0x0101) identify r) s

/-- The KF-320 row of Table 0.2, then the features that are enabled: owner key, signed configurations, debug tokens, planer,
tandem. -/
def capsQuads (s : State) : List Word64 :=
  [quad [(63, 56, 20), (55, 40, 320), (39, 32, 128), (31, 24, 64), (23, 16, 4), (15, 0, 512)], quad [(63, 56, 64), (55, 48, 60)],
    quad [(4, 4, b2n s.sec.ownerSet), (3, 3, b2n (signedRequired s)), (2, 2, b2n !s.sec.debugOff), (1, 1, b2n s.aging.planerEn),
      (0, 0, b2n (s.tandem.configuredRole != 2))]]

def caps : Handler := checkedBy ⟨true, true, true, true, false⟩ (emptyRequest capsQuads)

def execCaps (dt : Time) (r : Req) (s : State) : Host.Outcome State Fault Refusal :=
  run dt (okReq r) (command (isOp 0x0102) caps r) s

/-- The clock status record (Table 16.1). -/
def clockQuad (s : State) : Word64 :=
  let c := s.chip
  quad [(63, 63, b2n c.refSel), (62, 62, b2n !c.refALost), (61, 61, b2n !c.refBLost), (60, 60, b2n c.holdover), (59, 58, c.coreSsc),
    (57, 57, b2n c.coreSlow), (39, 24, c.switchCount)]

/-- Time lock, master, its device, the upstream spoke and the hops; then fabric time. -/
def timeQuads (s : State) : List Word64 :=
  [quad [(63, 63, b2n (timeLocked s)), (62, 62, b2n s.ft.master), (61, 56, if s.ft.master then s.dev else s.ft.masterDev),
      (55, 55, b2n s.ft.upstream.isSome), (54, 49, s.ft.upstream.getD 0), (15, 0, s.ft.hops)],
    BitVec.ofNat 64 s.ft.count]

/-- TIME_STATUS clears SWITCH_COUNT. -/
def timeStatus : Handler := checkedBy ⟨true, true, true, true, false⟩ fun r s =>
  if rLen r = 0 then good (timeQuads s ++ [clockQuad s]) { s with chip.switchCount := 0 } else invalidHeader s

def execTimeStatus (dt : Time) (r : Req) (s : State) : Host.Outcome State Fault Refusal :=
  run dt (okReq r) (command (isOp 0x0E03) timeStatus r) s

/-! The configuration (R389, R393, R412 to R415). -/

/-- Read-only fields of the i-th record that CFG_READ returns; RC fields read 0 (R389). -/
def roFields (s : State) (i typ a b : Nat) : Nat := match typ with
  | 0x20 => pack [(125, 124, if a / 128 = s.dev then pegOf s (a % 128) (b / 64) (b % 64) else farPeg s i)]
  | 0x29 => pack [(31, 31, b2n (subStrict s b))]
  | 0x2A => pack [(63, 48, sharedSize s a), (47, 32, 4096)]
  | 0x34 => pack [(47, 28, curRate s a b)]
  | 0x41 => pack [(43, 24, shareRate s a), (23, 23, b2n (partStrict s (vfPart s a)))]
  | _ => 0

/-- A record in entry format: the header, then its data, least significant quadword first. -/
def entryQuads (typ a b words data : Nat) : List Word64 :=
  quad [(63, 56, typ), (55, 40, a), (39, 24, b), (23, 16, words)] :: (List.range words).map fun i => BitVec.ofNat 64 (data / 2 ^ (64 * i))

/-- The entries that CFG_READ reads from: those in force, those staged under a lock, or those prepared. -/
def readSource (s : State) (source l : Nat) : List CfgEntry := match source with
  | 0 => s.conf.entries
  | 1 => (stageSet s l).entries
  | _ => match s.conf.prepared with
    | some p => p.entries
    | none => []

/-- CFG_READ: REC [63:56], the first INDEX_A [55:40] and INDEX_B [39:24], the number of records [23:16] (1 to 100) in index
order, SOURCE [15:14] 0 in force, 1 staged, 2 prepared, LOCK [13:7] of the staged set. With nothing prepared SOURCE 2 returns no
record. -/
def cfgReadBody : Handler := fun r s =>
  let typ := pf r 0 63 56
  let n := pf r 0 23 16
  let source := pf r 0 15 14
  let l := pf r 0 13 7
  let keys (sp : RecSpec) := (List.range n).map fun i =>
    let x := pf r 0 55 40 * sp.maxB + pf r 0 39 24 + i
    (x / sp.maxB, x % sp.maxB)
  match recSpec typ with
  | none => invalidAt 0 s
  | some sp =>
    if decide (r.mb < 64) && (!(keys sp).all (fun k => mayRead s r.mb typ k.1) || (source == 1 && l != 1 + r.mb)) then refuse stDenied s
    else match payloadBad r [2 ^ 64 - 2 ^ 7] with
      | some q => invalidAt q s
      | none =>
        if !within 1 100 n || sp.maxB ≤ pf r 0 39 24 || !((keys sp).all fun k => decide (k.1 < sp.maxA)) || source == 3 || decide (64 < l) then
          invalidAt 0 s
        else if source == 2 && s.conf.prepared.isNone then good [] s
        else good (((List.range n).zip (keys sp)).flatMap fun x =>
          let k := x.2
          let d := cfgLookup (readSource s source l) (if typ = 0x20 then k.1 / 128 else s.dev) typ k.1 k.2
          entryQuads typ k.1 k.2 sp.words (d.toNat ||| roFields s x.1 typ k.1 k.2))
          (if typ = 0x20 then { s with freeCtr := s.freeCtr + n } else s)

def cfgRead : Handler := checkedBy ⟨true, true, true, true, false⟩ cfgReadBody

def execCfgRead (dt : Time) (r : Req) (s : State) : Host.Outcome State Fault Refusal :=
  run dt (okReq r) (command (isOp 0x0205) cfgRead r) s

/-- The state of a staging set: its lock, 0 open, 1 prepared or 2 committed, whether it is conflicted, and its base epoch. -/
def setQuad (l : Nat) (x : StagingSet) : Word64 :=
  quad [(62, 56, l), (34, 34, b2n x.conflicted), (33, 32, if x.committed then 2 else if x.prepared then 1 else 0), (31, 0, x.base)]

/-- CFG_STATUS: the epoch in force, whether a drain is under way and what it awaits, whether a configuration is prepared here
and armed; the times of the last swap and drain; then the sets, of its own lock for a partition mailbox. -/
def cfgStatusQuads (s : State) (mb : Nat) : List Word64 :=
  let sets := s.conf.sets.filter fun e => decide (64 ≤ mb) || e.1 == 1 + mb
  [quad [(63, 32, s.conf.epoch), (31, 24, sets.length), (4, 4, b2n (s.conf.prepared.bind (·.armed)).isSome),
      (3, 3, b2n s.conf.prepared.isSome), (2, 2, b2n (s.conf.drain.any (·.access))),
      (1, 1, b2n (s.conf.drain.any (·.windows))), (0, 0, b2n !s.conf.drain.isEmpty)],
    BitVec.ofNat 64 s.conf.lastSwap, BitVec.ofNat 64 s.conf.drainedAt] ++ sets.map fun e => setQuad e.1 e.2

def cfgStatus : Handler := checkedBy ⟨true, true, true, true, false⟩ fun r s =>
  if rLen r = 0 then good (cfgStatusQuads s r.mb) s else invalidHeader s

def execCfgStatus (dt : Time) (r : Req) (s : State) : Host.Outcome State Fault Refusal :=
  run dt (okReq r) (command (isOp 0x0206) cfgStatus r) s

/-- A configuration slot's header (Table 14.1) up to the end of SIG, then SEAL; all ones where nothing is written. -/
def slotHeaderQuads (c : CfgSlot) : List Word64 :=
  let erased : Word64 := BitVec.allOnes 64
  let body : List Word64 :=
    if c.magic && c.header then
      [BitVec.ofNat 64 cfgMagic, quad [(63, 32, c.epoch), (31, 0, c.seq)], BitVec.ofNat 64 (cfgLength c.body),
        quad [(63, 32, 1), (0, 0, b2n c.signed)]] ++ quads256 c.digest ++ bytesToQuads (leBytes 2420 c.sig ++ leBytes 4 0)
    else List.replicate 311 erased
  body ++ [match c.sealWord with
    | some n => quad [(63, 32, 0x5EA15EA1), (31, 0, n)]
    | none => erased]

/-- CFG_SLOT_READ: SLOT [63]. The check's results, in [1:0] how many of the two slots fail it, then the header. -/
def cfgSlotQuads (s : State) (b : Bool) : List Word64 :=
  let c := s.cfgSlot b
  let fails := b2n !(cfgSlotValid s s.conf.cfgA) + b2n !(cfgSlotValid s s.conf.cfgB)
  quad [(63, 63, b2n (cfgSlotValid s c)), (62, 62, b2n c.magic), (61, 61, b2n c.header), (60, 60, b2n (c.sealWord == some c.seq)),
    (59, 59, b2n (sha3 (cfgBytes c.body) == c.digest)), (58, 58, b2n (cfgSigOk s (cfgLength c.body) c.signed c.digest c.sig)),
    (1, 0, fails)] :: slotHeaderQuads c

def cfgSlotRead : Handler := statusOf false (2 ^ 63) (fun _ _ => true) (fun _ _ => true) fun r s =>
  good (cfgSlotQuads s (pf r 0 63 63 == 1)) s

def execCfgSlotRead (dt : Time) (r : Req) (s : State) : Host.Outcome State Fault Refusal :=
  run dt (okReq r) (command (isOp 0x0207) cfgSlotRead r) s

/-! Lanes and spokes (R125, R128, R192, R209). -/

/-- The eye record (Table 4.6). -/
def eyeQuad (s : State) (l : Nat) : Word64 :=
  let x := s.lane l
  let age := match x.eyeAt with
    | some t => min 255 ((s.now - t) / ms)
    | none => 255
  quad [(63, 56, x.eyeH), (55, 48, x.eyeW), (47, 46, x.eyeId), (45, 45, b2n x.eyeValid), (44, 44, b2n !(truingHeld s l)),
    (43, 43, b2n (atLimit (truingLimits s (l / 16)) x.coef.dfe)), (39, 32, age)]

/-- A number as w bits of two's complement. -/
def twos (w : Nat) (x : Int) : Nat := (x % 2 ^ w).toNat

/-- The lane coefficient record (Table 4.10). -/
def coefNat (c : Coef) : Nat :=
  let d (i : Nat) := c.dfe.getD i 0
  pack ([(127, 120, twos 8 (d 0))] ++ ((List.range 3).map fun i => (119 - 6 * i, 114 - 6 * i, twos 6 (d (1 + i)))) ++
    ((List.range 8).map fun i => (101 - 5 * i, 97 - 5 * i, twos 5 (d (4 + i)))) ++
    [(61, 58, c.ctle), (57, 54, c.gain), (47, 44, twos 4 c.pre2), (43, 39, twos 5 c.pre1), (38, 32, twos 7 c.main),
      (31, 26, twos 6 c.post1), (25, 22, twos 4 c.post2)])

/-- The coefficients that such a record holds. -/
def recordCoef (x : Nat) : Coef :=
  { dfe := [signed 8 (bits x 127 120)] ++ ((List.range 3).map fun i => signed 6 (bits x (119 - 6 * i) (114 - 6 * i))) ++
      ((List.range 8).map fun i => signed 5 (bits x (101 - 5 * i) (97 - 5 * i)))
    ctle := bits x 61 58, gain := bits x 57 54, pre2 := signed 4 (bits x 47 44), pre1 := signed 5 (bits x 43 39)
    main := (bits x 38 32 : Nat), post1 := signed 6 (bits x 31 26), post2 := signed 4 (bits x 25 22) }

def twoQuads (x : Nat) : List Word64 := [BitVec.ofNat 64 x, BitVec.ofNat 64 (x / 2 ^ 64)]

/-- LANE_STATUS: the lane in [63:55]. Eye record, coefficients in use, and the effective limits and preset (R482). -/
def laneQuads (s : State) (l : Nat) : List Word64 :=
  let lim := truingLimits s (l / 16)
  [eyeQuad s l] ++ twoQuads (coefNat (s.lane l).coef) ++ [quad [(31, 25, lim.1), (24, 20, lim.2.1), (19, 16, lim.2.2), (3, 0, lanePreset s l)]]

def laneStatus : Handler := statusOf false (2 ^ 64 - 2 ^ 55) (fun _ _ => true) (fun r _ => okLane (pf r 0 63 55)) fun r s =>
  good (laneQuads s (pf r 0 63 55)) s

def execLaneStatus (dt : Time) (r : Req) (s : State) : Host.Outcome State Fault Refusal :=
  run dt (okReq r) (command (isOp 0x0302) laneStatus r) s

/-- The spoke status record (Table 6.13). -/
def spokeNat (s : State) (k : Nat) : Nat :=
  let x := s.spoke k
  pack [(127, 80, x.peerSn), (79, 74, x.peerDev), (73, 71, x.state), (70, 63, x.laneMask), (62, 62, b2n x.lastWarm),
    (61, 61, b2n (spokeUp s k && (s.stime k).inPlumb)), (60, 60, b2n (s.ft.upstream == some k)), (59, 48, x.loopNs),
    (47, 16, sat32 x.pathDelay)]

def spokeStatus : Handler := statusOf false (2 ^ 64 - 2 ^ 58) (fun _ _ => true) (fun r _ => okSpoke (pf r 0 63 58)) fun r s =>
  good (twoQuads (spokeNat s (pf r 0 63 58))) s

def execSpokeStatus (dt : Time) (r : Req) (s : State) : Host.Outcome State Fault Refusal :=
  run dt (okReq r) (command (isOp 0x0303) spokeStatus r) s

/-- A store entry: header (Table 4.9), then 8 lane records. -/
def storeQuads (e : StoreEntry) : List Word64 :=
  quad [(63, 16, e.sn), (15, 8, twos 8 e.temp), (7, 0, e.mask)] ::
    (List.range 8).flatMap fun i => twoQuads (coefNat (e.lanes.getD i {}))

def coefExport : Handler := statusOf false (2 ^ 64 - 2 ^ 58) (fun _ _ => true) (fun r _ => okSpoke (pf r 0 63 58)) fun r s =>
  good (storeQuads (tget {} s.lanes.store (pf r 0 63 58))) s

def execCoefExport (dt : Time) (r : Req) (s : State) : Host.Outcome State Fault Refusal :=
  run dt (okReq r) (command (isOp 0x0304) coefExport r) s

/-- The store entry that a COEF_IMPORT carries from quadword 1. -/
def importedEntry (r : Req) : StoreEntry :=
  { sn := pf r 1 63 16, temp := signed 8 (pf r 1 15 8), mask := pf r 1 7 0
    lanes := (List.range 8).map fun i => recordCoef (pf r (2 + 2 * i) 63 0 + pf r (3 + 2 * i) 63 0 * 2 ^ 64) }

/-- The bits that the request of COEF_IMPORT uses. -/
def importMasks : List Nat :=
  [2 ^ 64 - 2 ^ 58, 2 ^ 64 - 1] ++ (List.range 8).flatMap fun _ => [2 ^ 64 - 2 ^ 22 - (2 ^ 54 - 2 ^ 48), 2 ^ 64 - 1]

/-- COEF_IMPORT: a spoke that is up, or whose bring-up has read its entry as step 2 began (R132, Table 6.8), is skipped, and [63] of the answer reports it. -/
def coefImport : Handler := checkedBy ⟨false, true, true, false, false⟩ fun r s =>
  if !holdsLock s r.mb 0 then refuse stNoLock s
  else match payloadBad r importMasks with
    | some q => invalidAt q s
    | none =>
      let k := pf r 0 63 58
      if !okSpoke k then invalidAt 0 s
      else
        let skip := decide (2 ≤ (s.spoke k).state)
        good [quad [(63, 63, b2n skip)]] (if skip then s else { s with lanes.store := tset {} s.lanes.store k (importedEntry r) })

def execCoefImport (dt : Time) (r : Req) (s : State) : Host.Outcome State Fault Refusal :=
  run dt (okReq r) (command (isOp 0x0305) coefImport r) s

/-- LANE_READMIT: the lane in [63:55], of a spoke station. A retired lane is usable again from the next bring-up. -/
def laneReadmit : Handler := checkedBy ⟨false, true, true, false, false⟩ fun r s =>
  let l := pf r 0 63 55
  if !holdsLock s r.mb 0 then refuse stNoLock s
  else match payloadBad r [2 ^ 64 - 2 ^ 55] with
    | some q => invalidAt q s
    | none =>
      if !okLane l || stationMode s (l / 16) != 2 then invalidAt 0 s
      else good [] (if bit (s.spoke (l / 8)).laneMask (l % 8) then s
        else modSpoke (l / 8) (fun x => { x with readmit := setBit x.readmit (l % 8) }) s)

def execLaneReadmit (dt : Time) (r : Req) (s : State) : Host.Outcome State Fault Refusal :=
  run dt (okReq r) (command (isOp 0x0306) laneReadmit r) s

/-! Ports, partitions, queues and shapers. -/

/-- PORT_STATUS: enabled, link up, in Recovery, contained by DPC, a spoke's port; the trained width and rate; the rate the port may
train to, with the shim overlay (R482). -/
def portQuad (s : State) (p : Nat) : Word64 :=
  let x := s.port p
  match portSpoke s p with
  | some k => quad [(63, 63, 1), (62, 62, b2n (spokeUp s k)), (59, 59, 1), (58, 54, if (s.spoke k).state = 6 then popcount (s.spoke k).active 8 else 0)]
  | none => quad [(63, 63, b2n (portEn s p)), (62, 62, b2n x.up), (61, 61, b2n x.recovery), (60, 60, b2n x.dpcTriggered),
      (58, 54, if x.up then x.width else 0), (53, 51, if x.up then x.rate else 0), (50, 48, targetRate s p)]

def portStatus : Handler := statusOf true (2 ^ 64 - 2 ^ 57) (fun r s => portEn s (pf r 0 63 57) && portPart s (pf r 0 63 57) == r.mb)
  (fun _ _ => true) fun r s => good [portQuad s (pf r 0 63 57)] s

def execPortStatus (dt : Time) (r : Req) (s : State) : Host.Outcome State Fault Refusal :=
  run dt (okReq r) (command (isOp 0x0307) portStatus r) s

/-- PART_STATUS: enabled, ready, in reset, PERSTIN_N asserted, contained; STRICT_HOLD of a strict partition (R455). -/
def partQuad (s : State) (p : Nat) : Word64 :=
  let x := s.part p
  quad [(63, 63, b2n (partEn s p)), (62, 62, b2n x.ready), (61, 61, b2n x.inReset), (60, 60, b2n x.perst), (59, 59, b2n x.contained),
    (15, 0, if partStrict s p then strictHold s p else 0)]

def partStatus : Handler := statusOf true (2 ^ 64 - 2 ^ 58) (fun r _ => pf r 0 63 58 == r.mb) (fun _ _ => true) fun r s =>
  good [partQuad s (pf r 0 63 58)] s

def execPartStatus (dt : Time) (r : Req) (s : State) : Host.Outcome State Fault Refusal :=
  run dt (okReq r) (command (isOp 0x0403) partStatus r) s

/-- QUEUE_STATUS: port [63:57], subscriber [56:50], service [49:47]. Occupancy in cells, the average in whole cells, the pair's
xoff, and for device mailboxes the bank record (Table 2.6), whose HEADROOM_PEAK it clears. -/
def queueQuads (s : State) (port sub svc : Nat) : List Word64 :=
  let q := sub * 8 + svc
  let occ := cellsOf (s.hub.frames.filter fun f => inBank f && f.outPort == port && qOf f == q)
  [quad [(63, 48, min occ 65535), (47, 32, min 65535 (((tfind s.hub.avg (port * 576 + q)).getD (0, 0)).1 / avgUnit)), (0, 0, b2n (pairXoff s port svc))]]

def bankQuad (s : State) (st : Nat) : Word64 :=
  quad [(63, 48, sharedSize s st), (47, 32, 4096), (31, 16, rf (s.cfg 0x2A st 0) 31 16), (15, 0, tget 0 s.hub.headroomPeak st)]

def queueStatus : Handler := statusOf true (2 ^ 64 - 2 ^ 47) (fun r _ => pf r 0 56 50 == r.mb) (fun r _ => okSub (pf r 0 56 50)) fun r s =>
  let port := pf r 0 63 57
  let st := portStation s port
  if r.mb < 64 then good (queueQuads s port (pf r 0 56 50) (pf r 0 49 47)) s
  else good (queueQuads s port (pf r 0 56 50) (pf r 0 49 47) ++ [bankQuad s st])
    { s with hub.headroomPeak := tset 0 s.hub.headroomPeak st 0 }

def execQueueStatus (dt : Time) (r : Req) (s : State) : Host.Outcome State Fault Refusal :=
  run dt (okReq r) (command (isOp 0x0605) queueStatus r) s

/-- The shapers of each kind: queue maxima and minima, subscribers, classes, ports, ingress shapers, mover caps. -/
def shaperCount : Nat → Nat
  | 0 | 1 => 128 * 576
  | 2 => 128 * 72
  | 3 => 128 * 8
  | 4 => 128
  | 5 => 21 * 72
  | 6 => 576
  | _ => 0

/-- A partition's own shapers: of its subscriber, its ports and its mover functions. -/
def ownShaper (s : State) (mb kind i : Nat) : Bool := match kind with
  | 0 | 1 => i % 576 / 8 == mb
  | 2 | 5 => i % 72 == mb
  | 3 => portEn s (i / 8) && portPart s (i / 8) == mb
  | 4 => portEn s i && portPart s i == mb
  | _ => (decide (512 ≤ i) || vfEn s i) && funcPart s i == mb

/-- SHAPER_STATUS: kind [63:61] and index [23:0]. The rate in Mb/s (CUR_RATE of an ingress shaper) and whether it is open, then the
credit in bytes, two's complement. -/
def shaperStatus : Handler :=
  statusOf true (7 * 2 ^ 61 + (2 ^ 24 - 1)) (fun r s => ownShaper s r.mb (pf r 0 63 61) (pf r 0 23 0))
    (fun r _ => decide (pf r 0 23 0 < shaperCount (pf r 0 63 61))) fun r s =>
    let k := shKey (pf r 0 63 61) (pf r 0 23 0)
    good [quad [(63, 44, shRate s k), (0, 0, b2n (shOpen s k))], BitVec.ofInt 64 (creditNow s k / (creditUnit : Int))] s

def execShaperStatus (dt : Time) (r : Req) (s : State) : Host.Outcome State Fault Refusal :=
  run dt (okReq r) (command (isOp 0x0606) shaperStatus r) s

/-! The mover and the slot die (Tables 9.5, 11.7, 11.8). -/

/-- RING_STATUS (Table 9.5). -/
def ringQuad (s : State) (f : Nat) : Word64 :=
  let x := s.func f
  quad [(63, 62, x.state), (61, 56, (jobsOf s f).length), (55, 44, x.sqHead), (43, 32, x.cqTail), (31, 31, b2n x.cqPhase), (7, 0, x.ringErr)]

/-- Each engine: in service, draining, testing. -/
def engineQuad (s : State) : Word64 :=
  quad ((List.range 4).flatMap fun e => let x := s.engine e
    [(8 * e + 2, 8 * e + 2, b2n x.testing), (8 * e + 1, 8 * e + 1, b2n (x.drainMb.isSome && !x.testing)), (8 * e, 8 * e, b2n x.inService)])

/-- MOVER_STATUS: the function in [63:54]. -/
def moverStatus : Handler :=
  statusOf true (2 ^ 64 - 2 ^ 54) (fun r s => ownShaper s r.mb 6 (pf r 0 63 54)) (fun r _ => okFunc (pf r 0 63 54)) fun r s =>
    good [engineQuad s, ringQuad s (pf r 0 63 54)] s

def execMoverStatus (dt : Time) (r : Req) (s : State) : Host.Outcome State Fault Refusal :=
  run dt (okReq r) (command (isOp 0x0703) moverStatus r) s

/-- The feed status record (Table 11.8). -/
def feedQuad (f : Feed) : Word64 :=
  quad [(63, 62, f.fstate), (61, 50, f.vMin), (49, 38, f.iPeak), (37, 26, f.vNow), (25, 14, f.iNow)]

/-- The read clears the RC fields to 0; the next sample starts the minima again (Table 0.4, assumption 61). -/
def clearMeasures (ch : Nat) (s : State) : State :=
  let clr (f : Feed) : Feed := { f with vMin := 0, minRead := true, iPeak := 0 }
  modFeed false clr (modFeed true clr (modChanAux ch (fun a => { a with iPeak := 0, voutMin := 0, minRead := true }) s))

/-- SLOT_STATUS: the channel in [63:58]. A partition mailbox reads the channels of its ports. -/
def slotStatus : Handler :=
  statusOf true (2 ^ 64 - 2 ^ 58) (fun r s => (partPorts s r.mb).any fun q => portSlot s q == pf r 0 63 58) (fun _ _ => true) fun r s =>
    if slotUp s then
      good [chStatus s (pf r 0 63 58), feedQuad s.slot.feedA, feedQuad s.slot.feedB] (clearMeasures (pf r 0 63 58) s)
    else refuse stBusy s

def execSlotStatus (dt : Time) (r : Req) (s : State) : Host.Outcome State Fault Refusal :=
  run dt (okReq r) (command (isOp 0x0803) slotStatus r) s

/-! The test access port (R519). Instructions are numbered 0 EXTEST, 1 SAMPLE/PRELOAD, 2 IDCODE, 3 BYPASS, 4 CLAMP, 5 HIGHZ,
6 EXTEST_PULSE, 7 EXTEST_TRAIN; what leaves through TDO, or stands on the pins, is shown by `Out.tap`. -/

/-- An instruction comes into force and shows its bits. -/
def tapInstruction (n : Nat) (shown : List Bool) (s : State) : State := emit (.tap n shown) { s with count.tapInstr := n }

/-- Captured pin levels: free values (assumption 4). -/
def captured (n : Nat) (s : State) : List Bool := (List.range n).map (bit (drawn s))

/-- BYPASS: the one-bit register of each of the six dies captures 0. -/
def execBypass (dt : Time) (s : State) : Host.Outcome State Fault Refusal :=
  run dt true (tapInstruction 3 (List.replicate 6 false)) s

/-- IDCODE: version 0xB, part number 0x0320, the manufacturer code, then 1, least significant bit first. -/
def idcodeBits : List Bool :=
  (List.range 32).map (bit (pack [(31, 28, 0xB), (27, 12, 0x0320), (11, 1, Config.jep106 % 2048), (0, 0, 1)]))

def execIdcode (dt : Time) (s : State) : Host.Outcome State Fault Refusal := run dt true (tapInstruction 2 idcodeBits) s

/-- SAMPLE/PRELOAD: the chain captures the pins and takes the shifted bits; the pins keep their function. -/
def execSamplePreload (dt : Time) (preload : List Bool) (s : State) : Host.Outcome State Fault Refusal :=
  run dt true (fun s => tapInstruction 1 (captured preload.length s) (drew { s with count.boundary := preload })) s

/-- EXTEST: the boundary register drives the pins. -/
def execExtest (dt : Time) (s : State) : Host.Outcome State Fault Refusal :=
  run dt true (fun s => tapInstruction 0 s.count.boundary s) s

/-- CLAMP: the boundary register drives the pins, and the bypass register is selected. -/
def execClamp (dt : Time) (s : State) : Host.Outcome State Fault Refusal :=
  run dt true (fun s => tapInstruction 4 s.count.boundary s) s

/-- HIGHZ: every pin of the chain floats. -/
def execHighz (dt : Time) (s : State) : Host.Outcome State Fault Refusal := run dt true (tapInstruction 5 []) s

/-- EXTEST_PULSE on every data lane pair and cadence pair. -/
def execExtestPulse (dt : Time) (s : State) : Host.Outcome State Fault Refusal :=
  run dt true (fun s => tapInstruction 6 s.count.boundary s) s

/-- EXTEST_TRAIN on every data lane pair and cadence pair. -/
def execExtestTrain (dt : Time) (s : State) : Host.Outcome State Fault Refusal :=
  run dt true (fun s => tapInstruction 7 s.count.boundary s) s

end Sys2Proof.Machine
end

