-- ==== Sys2Proof/Machine/Accept.lean ====
section
/-! DEFINITION. MAILBOX_ACCEPT: the MC takes the oldest submitted command and runs it, whatever its opcode (R367, R368, R384,
R385, R387). -/

namespace Sys2Proof.Machine

/-- What each opcode of Tables 13.4 and 13.11 does. -/
def handlerOf : Nat → Option Handler
  | 0x0101 => some identify
  | 0x0102 => some caps
  | 0x0201 => some cfgStage
  | 0x0202 => some cfgPrepare
  | 0x0203 => some cfgCommit
  | 0x0204 => some cfgAbort
  | 0x0205 => some cfgRead
  | 0x0206 => some cfgStatus
  | 0x0207 => some cfgSlotRead
  | 0x0210 => some lockAcquire
  | 0x0211 => some lockRelease
  | 0x0212 => some lockPrioSet
  | 0x0213 => some lockStatus
  | 0x0302 => some laneStatus
  | 0x0303 => some spokeStatus
  | 0x0304 => some coefExport
  | 0x0305 => some coefImport
  | 0x0306 => some laneReadmit
  | 0x0307 => some portStatus
  | 0x0403 => some partStatus
  | 0x0502 => some actPeg
  | 0x0503 => some actRead
  | 0x0605 => some queueStatus
  | 0x0606 => some shaperStatus
  | 0x0702 => some engineTest
  | 0x0703 => some moverStatus
  | 0x0801 => some slotPower
  | 0x0803 => some slotStatus
  | 0x0901 => some snapshot
  | 0x0902 => some bwWindow
  | 0x0903 => some counterRead
  | 0x0A01 => some errRead
  | 0x0A02 => some fenceClear
  | 0x0A04 => some partitionContain
  | 0x0B01 => some healthRead
  | 0x0B02 => some reshim
  | 0x0B03 => some wearRead
  | 0x0B04 => some powerCap
  | 0x0B05 => some planerSet
  | 0x0C01 => some loopback
  | 0x0C02 => some testStatus
  | 0x0D01 => some fwUpdate
  | 0x0D02 => some attest
  | 0x0D03 => some debugToken
  | 0x0D04 => some fuseRead
  | 0x0E01 => some tandemStatus
  | 0x0E03 => some timeStatus
  | 0x0E04 => some tandemSet
  | op => if recNumbers.any fun t => (recSpec t).any fun sp => sp.opcode == op then some (recordCommand op) else none

/-- Any other opcode is INVALID (R407). -/
def anyCommand : Handler := fun r s => match handlerOf (rOp r) with
  | some body => body r s
  | none => invalidHeader s

/-- The oldest of the commands that wait. -/
def oldestSubmit : List (Nat × Nat) → Option (Nat × Nat)
  | [] => none
  | x :: r => match oldestSubmit r with
    | some y => if submittedBefore y x then some y else some x
    | none => some x

/-- The command that waits in a mailbox is accepted. A payload in host memory is fetched first (R367, R384): the command's own event,
or MAILBOX_DMA_TIMEOUT, ends the fetch. An unknown opcode fetches nothing. -/
def acceptFrom (mb : Nat) (s : State) : State :=
  let r := { waitingReq s mb with mb := mb }
  if !romAllows s r then finishRestarting mb s
  else if mustFetch r (s.mb mb) && (handlerOf (rOp r)).isSome then startFetch r s
  else accept anyCommand r s

/-- MAILBOX_ACCEPT: nothing is accepted while the MC is restarting or runs a command that holds back the others. -/
def acceptNext (s : State) : State :=
  if s.mgmt.serving && !mcHeld s then
    match oldestSubmit (submits s) with
    | some x => acceptFrom x.2 s
    | none => s
  else s

def execMailboxAccept (dt : Time) (s : State) : Host.Outcome State Fault Refusal := run dt true acceptNext s

/-- MAILBOX_DMA_TIMEOUT: the command completes TIMEOUT and is not executed (R384). -/
def execMailboxDmaTimeout (dt : Time) (mb : Nat) (s : State) : Host.Outcome State Fault Refusal :=
  run dt (okMb mb) (finishWait mb waitDma stTimeout false []) s

end Sys2Proof.Machine
end

