-- ==== Sys2Proof/Machine/Registers.lean ====
section
/-! DEFINITION. Reads of the registers of BAR0 of function 0, and of the BARs of the mover's functions (R8, R9, R279, R362 to R366). -/

namespace Sys2Proof.Machine

/-- The value of `n` bytes from an offset of a block given by its aligned quadwords. -/
def windowAt (quads : Nat → Nat) (off n : Nat) : Nat :=
  ((List.range n).map fun i => quads ((off + i) / 8) / 2 ^ (8 * ((off + i) % 8)) % 256 * 2 ^ (8 * i)).sum

/-- The identity block by quadwords (Table 12.5). -/
def identityAt (s : State) (p k : Nat) : Nat :=
  let q (i : Nat) : Nat := ((identityQuads s p).getD i 0).toNat
  match k with
  | 4 => q 4 + 2 ^ 32 * q 5
  | 5 => q 6
  | k => if k < 4 then q k else 0

/-- MB_STATUS (Table 12.7). -/
def mbStatus (m : Mailbox) : Nat :=
  (quad [(63, 62, m.state), (61, 61, b2n m.executed), (60, 60, b2n m.lostWrite), (59, 59, b2n m.restarted), (55, 48, m.status),
    (31, 16, m.seq), (11, 0, m.respLen)]).toNat

/-- An MSI-X table by quadwords. -/
def msixAt (t : Tbl Nat) (k : Nat) : Nat := if k % 2 = 1 then msixData t (k / 2) else tget 0 t k

/-- A slot of the error ring by quadwords; one that nothing has been written to reads as zero. -/
def ringAt (s : State) (p k : Nat) : Nat := match tfind (s.part p).ring (k / 8) with
  | some r => ((recordQuads r).getD (k % 8) 0).toNat
  | none => 0

/-- BAR0 of function 0 by quadwords (Tables 12.4 to 12.10); reserved offsets and fields read as zero, MB_DOORBELL too (R8, R9). -/
def bar0At (s : State) (p k : Nat) : Nat :=
  let q := s.part p
  let m := s.mb p
  let o := 8 * k
  if o < 0x1000 then identityAt s p k
  else if o = 0x1008 then mbStatus m
  else if o = 0x1010 then m.lost + 2 ^ 32 * m.ignored
  else if within 0x1040 0x1FFF o then (tget 0 m.window (k - 0x1040 / 8)).toNat
  else if o = 0x2000 then q.intStatus.toNat + 2 ^ 32 * q.intMask.toNat
  else if within 0x2040 0x205F o then
    ((List.range 8).map fun i => tget (o - 0x2040 + i) q.vectors (o - 0x2040 + i) % 64 * 2 ^ (8 * i)).sum
  else if o = 0x3000 then q.errTail + 2 ^ 32 * q.errHead
  else if o = 0x3008 then q.errLost
  else if within 0x4000 0x7FFF o then ringAt s p (k - 0x4000 / 8)
  else if within 0x10000 0x103FF o then msixAt q.msix (k - 0x10000 / 8)
  else if o = 0x10800 then q.pba
  else if within 0x100000 0x1FFFFF o then viewQuad s p (o - 0x100000)
  else 0

/-- The registers of BAR0 that are 32 bits wide. -/
def narrow (o : Nat) : Bool := o ∈ [0x010, 0x020, 0x024, 0x1000, 0x1010, 0x1014, 0x2000, 0x2004, 0x3000, 0x3004, 0x3008]

/-- The windows of BAR0, which take any access size. -/
def inWindow (o : Nat) : Bool := within 0x1040 0x1FFF o || within 0x4000 0x7FFF o || within 0x100000 0x1FFFFF o

/-- A read of BAR0 has the size and alignment that its offset takes (R362). -/
def reads0 (o width : Nat) : Bool := inWindow o || (regAccess o width && (width == 32 || !narrow o))

def readReg0 (s : State) (p o width : Nat) : Nat := if reads0 o width then windowAt (bar0At s p) o (width / 8) else 0

/-- A read of an RC register returns its value and clears it (R9, R364, R366). -/
def clearRead (p o width : Nat) (s : State) : State :=
  if width ≠ 32 then s
  else if o = 0x1010 then modMb p (fun m => { m with lost := 0 }) s
  else if o = 0x1014 then modMb p (fun m => { m with ignored := 0 }) s
  else if o = 0x3008 then modPart p (fun q => { q with errLost := 0 }) s
  else s

/-- RING_STATUS (Table 9.5). -/
def ringStatus (s : State) (f : Nat) : Nat :=
  let q := s.func f
  (quad [(63, 62, q.state), (61, 56, (jobsOf s f).length), (55, 44, q.sqHead), (43, 32, q.cqTail), (31, 31, b2n q.cqPhase),
    (7, 0, q.ringErr)]).toNat

/-- BAR0 of function 1 and of a VF by quadwords (Tables 9.3 to 9.5). -/
def funcBarAt (s : State) (f k : Nat) : Nat :=
  let q := s.func f
  let o := 8 * k
  if o = 0x100 then q.sqBase.toNat
  else if o = 0x108 then q.cqBase.toNat
  else if o = 0x110 then pack [(31, 31, b2n q.ringEn), (11, 8, q.cqLog2), (3, 0, q.sqLog2)]
  else if o = 0x200 then ringStatus s f
  else if within 0x8000 0x801F o then msixAt q.msix (k - 0x8000 / 8)
  else if o = 0x8800 then q.pba
  else 0

def readRegF (s : State) (f o width : Nat) : Nat :=
  if regAccess o width && (width == 32 || o != 0x110) then windowAt (funcBarAt s f) o (width / 8) else 0

/-- RC_REGISTER_READ: a register of function 0 of partition p, or of a mover function of it, is read; an RC register is cleared by it. -/
def registerRead (p : Nat) (func : Option Nat) (o width : Nat) (s : State) : State :=
  if partHome s p != s.dev || !partEn s p then s
  else match func with
    | none => clearRead p o width (emit (.regRead p none o (readReg0 s p o width)) s)
    | some f =>
      if funcPart s f = p ∧ (512 ≤ f ∨ vfEn s f) then emit (.regRead p (some f) o (readRegF s f o width)) s else s

def execRcRegisterRead (dt : Time) (p : Nat) (func : Option Nat) (offset width : Nat) (s : State) : Host.Outcome State Fault Refusal :=
  run dt (okPart p && okFuncOpt func) (registerRead p func offset width) s

end Sys2Proof.Machine
end

