-- ==== Sys2Proof/Machine/Dispatch.lean ====
section
/-! DEFINITION. One arm per command, each a direct call of its meaning. -/

namespace Sys2Proof.Machine

def exec (i : Instr) (s : State) : Host.Outcome State Fault Refusal :=
  match i with
  | .powerOn dt => Sys2Proof.Machine.execPowerOn dt s
  | .coreRailDip dt => Sys2Proof.Machine.execCoreRailDip dt s
  | .coreRailReturn dt => Sys2Proof.Machine.execCoreRailReturn dt s
  | .resetNAssert dt => Sys2Proof.Machine.execResetNAssert dt s
  | .resetNRelease dt => Sys2Proof.Machine.execResetNRelease dt s
  | .i3cTargetReset dt => Sys2Proof.Machine.execI3cTargetReset dt s
  | .fatalAutoReset dt => Sys2Proof.Machine.execFatalAutoReset dt s
  | .perstinAssert dt line => Sys2Proof.Machine.execPerstinAssert dt line s
  | .perstinRelease dt line => Sys2Proof.Machine.execPerstinRelease dt line s
  | .partitionResetNotice dt p held => Sys2Proof.Machine.execPartitionResetNotice dt p held s
  | .partitionReady dt p => Sys2Proof.Machine.execPartitionReady dt p s
  | .hotResetReceived dt port => Sys2Proof.Machine.execHotResetReceived dt port s
  | .upstreamDlDown dt port => Sys2Proof.Machine.execUpstreamDlDown dt port s
  | .secondaryBusResetDownstream dt port => Sys2Proof.Machine.execSecondaryBusResetDownstream dt port s
  | .secondaryBusResetUpstream dt port => Sys2Proof.Machine.execSecondaryBusResetUpstream dt port s
  | .flr dt func => Sys2Proof.Machine.execFlr dt func s
  | .flrComplete dt func => Sys2Proof.Machine.execFlrComplete dt func s
  | .vfEnableClear dt p => Sys2Proof.Machine.execVfEnableClear dt p s
  | .watchdogExpiry dt => Sys2Proof.Machine.execWatchdogExpiry dt s
  | .firmwareRestartRequest dt => Sys2Proof.Machine.execFirmwareRestartRequest dt s
  | .mcRestartDone dt => Sys2Proof.Machine.execMcRestartDone dt s
  | .slotResetNAssert dt => Sys2Proof.Machine.execSlotResetNAssert dt s
  | .vpwrLoss dt => Sys2Proof.Machine.execVpwrLoss dt s
  | .vpwrRecovery dt => Sys2Proof.Machine.execVpwrRecovery dt s
  | .slotInterfaceRestored dt => Sys2Proof.Machine.execSlotInterfaceRestored dt s
  | .referenceLost dt ref => Sys2Proof.Machine.execReferenceLost dt ref s
  | .referenceRelock dt => Sys2Proof.Machine.execReferenceRelock dt s
  | .referenceUsable dt ref => Sys2Proof.Machine.execReferenceUsable dt ref s
  | .holdoverTimeout dt => Sys2Proof.Machine.execHoldoverTimeout dt s
  | .d2dUncorrectable dt => Sys2Proof.Machine.execD2dUncorrectable dt s
  | .rootPllUnlock dt => Sys2Proof.Machine.execRootPllUnlock dt s
  | .pcieTlpReceived dt port t => Sys2Proof.Machine.execPcieTlpReceived dt port t s
  | .frameStage dt fid => Sys2Proof.Machine.execFrameStage dt fid s
  | .stagingLifetimeExpiry dt fid => Sys2Proof.Machine.execStagingLifetimeExpiry dt fid s
  | .egressAdmission dt fid => Sys2Proof.Machine.execEgressAdmission dt fid s
  | .xoffReachIngress dt att port svc => Sys2Proof.Machine.execXoffReachIngress dt att port svc s
  | .frameReassembled dt fid => Sys2Proof.Machine.execFrameReassembled dt fid s
  | .echoReceived dt att sub => Sys2Proof.Machine.execEchoReceived dt att sub s
  | .shaperRecoveryStep dt att sub => Sys2Proof.Machine.execShaperRecoveryStep dt att sub s
  | .egressSelect dt station noCredit => Sys2Proof.Machine.execEgressSelect dt station noCredit s
  | .frameDepart dt fid => Sys2Proof.Machine.execFrameDepart dt fid s
  | .noticeBatchTimer dt lane port => Sys2Proof.Machine.execNoticeBatchTimer dt lane port s
  | .lifetimeSweep dt => Sys2Proof.Machine.execLifetimeSweep dt s
  | .wheelSlotRelease dt inst => Sys2Proof.Machine.execWheelSlotRelease dt inst s
  | .wheelRevolution dt inst => Sys2Proof.Machine.execWheelRevolution dt inst s
  | .jobBind dt func ctx => Sys2Proof.Machine.execJobBind dt func ctx s
  | .moverReadGrant dt engine => Sys2Proof.Machine.execMoverReadGrant dt engine s
  | .truingUpdate dt lane err dec => Sys2Proof.Machine.execTruingUpdate dt lane err dec s
  | .lossOfSignal dt lane => Sys2Proof.Machine.execLossOfSignal dt lane s
  | .eyeMeasurement dt lane eyes => Sys2Proof.Machine.execEyeMeasurement dt lane eyes s
  | .laneMargining dt lane m => Sys2Proof.Machine.execLaneMargining dt lane m s
  | .coefStoreCopy dt spoke temp => Sys2Proof.Machine.execCoefStoreCopy dt spoke temp s
  | .dlUp dt port width rate r => Sys2Proof.Machine.execDlUp dt port width rate r s
  | .downstreamDlDown dt port => Sys2Proof.Machine.execDownstreamDlDown dt port s
  | .linkRecoveryExit dt port rate eq => Sys2Proof.Machine.execLinkRecoveryExit dt port rate eq s
  | .pcieCorrectableError dt port error => Sys2Proof.Machine.execPcieCorrectableError dt port error s
  | .pcieUncorrectableError dt port error => Sys2Proof.Machine.execPcieUncorrectableError dt port error s
  | .dpcStatusClear dt port => Sys2Proof.Machine.execDpcStatusClear dt port s
  | .intxMessageReceived dt port pin assert => Sys2Proof.Machine.execIntxMessageReceived dt port pin assert s
  | .intStatusWrite dt p v => Sys2Proof.Machine.execIntStatusWrite dt p v s
  | .intMaskWrite dt p v => Sys2Proof.Machine.execIntMaskWrite dt p v s
  | .msixEnableWrite dt p on => Sys2Proof.Machine.execMsixEnableWrite dt p on s
  | .interruptDisableWrite dt p on => Sys2Proof.Machine.execInterruptDisableWrite dt p on s
  | .configRequest dt port rid tag bus dev fn x => Sys2Proof.Machine.execConfigRequest dt port rid tag bus dev fn x s
  | .powerControllerControlWrite dt port off => Sys2Proof.Machine.execPowerControllerControlWrite dt port off s
  | .d3hotEntry dt p => Sys2Proof.Machine.execD3hotEntry dt p s
  | .pmeTurnOff dt port => Sys2Proof.Machine.execPmeTurnOff dt port s
  | .pmeToAck dt port => Sys2Proof.Machine.execPmeToAck dt port s
  | .spokeCellSend dt spoke beats => Sys2Proof.Machine.execSpokeCellSend dt spoke beats s
  | .spokeCellReceive dt spoke beats body => Sys2Proof.Machine.execSpokeCellReceive dt spoke beats body s
  | .creditBeatReceived dt spoke b => Sys2Proof.Machine.execCreditBeatReceived dt spoke b s
  | .creditRefresh dt spoke => Sys2Proof.Machine.execCreditRefresh dt spoke s
  | .preemptReceived dt spoke part b => Sys2Proof.Machine.execPreemptReceived dt spoke part b s
  | .resumeReceived dt spoke b => Sys2Proof.Machine.execResumeReceived dt spoke b s
  | .retryReqReceived dt spoke b => Sys2Proof.Machine.execRetryReqReceived dt spoke b s
  | .retryReqRepeat dt spoke => Sys2Proof.Machine.execRetryReqRepeat dt spoke s
  | .ackBeatReceived dt spoke b => Sys2Proof.Machine.execAckBeatReceived dt spoke b s
  | .ackBeatTimer dt spoke => Sys2Proof.Machine.execAckBeatTimer dt spoke s
  | .replayTimeout dt spoke => Sys2Proof.Machine.execReplayTimeout dt spoke s
  | .retireRequestReceived dt spoke b => Sys2Proof.Machine.execRetireRequestReceived dt spoke b s
  | .retireConfirmReceived dt spoke b => Sys2Proof.Machine.execRetireConfirmReceived dt spoke b s
  | .trainReceived dt spoke bs => Sys2Proof.Machine.execTrainReceived dt spoke bs s
  | .idleBeatReceived dt spoke b => Sys2Proof.Machine.execIdleBeatReceived dt spoke b s
  | .bringupStepDone dt spoke r => Sys2Proof.Machine.execBringupStepDone dt spoke r s
  | .bringupRetry dt spoke => Sys2Proof.Machine.execBringupRetry dt spoke s
  | .cadenceLoss dt spoke => Sys2Proof.Machine.execCadenceLoss dt spoke s
  | .cadenceAppear dt spoke => Sys2Proof.Machine.execCadenceAppear dt spoke s
  | .timeReqTimer dt => Sys2Proof.Machine.execTimeReqTimer dt s
  | .timeReqReceived dt spoke bs => Sys2Proof.Machine.execTimeReqReceived dt spoke bs s
  | .timeRespReceived dt spoke bs => Sys2Proof.Machine.execTimeRespReceived dt spoke bs s
  | .timeLockLossTimeout dt => Sys2Proof.Machine.execTimeLockLossTimeout dt s
  | .plumbTimer dt => Sys2Proof.Machine.execPlumbTimer dt s
  | .plumbReceived dt spoke bs => Sys2Proof.Machine.execPlumbReceived dt spoke bs s
  | .plumbTimeout dt spoke => Sys2Proof.Machine.execPlumbTimeout dt spoke s
  | .bucketMoveComplete dt dest bucket => Sys2Proof.Machine.execBucketMoveComplete dt dest bucket s
  | .bucketMoveBack dt dest bucket => Sys2Proof.Machine.execBucketMoveBack dt dest bucket s
  | .noticeReceived dt lane ns => Sys2Proof.Machine.execNoticeReceived dt lane ns s
  | .ackCellReceived dt recs => Sys2Proof.Machine.execAckCellReceived dt recs s
  | .mgmtUnknownCode dt spoke code => Sys2Proof.Machine.execMgmtUnknownCode dt spoke code s
  | .bridgedCompletion dt spoke sub colour t => Sys2Proof.Machine.execBridgedCompletion dt spoke sub colour t s
  | .readTimeout dt entry => Sys2Proof.Machine.execReadTimeout dt entry s
  | .tagQuarantineEnd dt entry => Sys2Proof.Machine.execTagQuarantineEnd dt entry s
  | .trackerNoAnswer dt trk => Sys2Proof.Machine.execTrackerNoAnswer dt trk s
  | .trackerQuarantineEnd dt trk => Sys2Proof.Machine.execTrackerQuarantineEnd dt trk s
  | .ackBatch dt dev => Sys2Proof.Machine.execAckBatch dt dev s
  | .episodeClose dt cause srcPart dstDev dstPort => Sys2Proof.Machine.execEpisodeClose dt cause srcPart dstDev dstPort s
  | .drainDone dt => Sys2Proof.Machine.execDrainDone dt s
  | .mrdlkArrival dt port t => Sys2Proof.Machine.execMrdlkArrival dt port t s
  | .lockReq dt stamp ownerDev ingressPort targetPort => Sys2Proof.Machine.execLockReq dt stamp ownerDev ingressPort targetPort s
  | .lockGrant dt ownerDev ingressPort targetDev targetPort => Sys2Proof.Machine.execLockGrant dt ownerDev ingressPort targetDev targetPort s
  | .lockYield dt ownerDev ingressPort => Sys2Proof.Machine.execLockYield dt ownerDev ingressPort s
  | .lockReleaseMessage dt ownerDev ingressPort targetPort => Sys2Proof.Machine.execLockReleaseMessage dt ownerDev ingressPort targetPort s
  | .rangeSync dt m => Sys2Proof.Machine.execRangeSync dt m s
  | .errRecord dt p r => Sys2Proof.Machine.execErrRecord dt p r s
  | .sqDoorbell dt func v => Sys2Proof.Machine.execSqDoorbell dt func v s
  | .cqDoorbell dt func v => Sys2Proof.Machine.execCqDoorbell dt func v s
  | .ringEnable dt func sqLog2 cqLog2 => Sys2Proof.Machine.execRingEnable dt func sqLog2 cqLog2 s
  | .ringDisable dt func => Sys2Proof.Machine.execRingDisable dt func s
  | .descriptorFetch dt func => Sys2Proof.Machine.execDescriptorFetch dt func s
  | .descriptorFetchComplete dt func ctx st desc => Sys2Proof.Machine.execDescriptorFetchComplete dt func ctx st desc s
  | .shardTableReadComplete dt func ctx st table => Sys2Proof.Machine.execShardTableReadComplete dt func ctx st table s
  | .columnReserve dt func ctx => Sys2Proof.Machine.execColumnReserve dt func ctx s
  | .moverReadCompletion dt func tag st poisoned data => Sys2Proof.Machine.execMoverReadCompletion dt func tag st poisoned data s
  | .moverReadTimeout dt func tag => Sys2Proof.Machine.execMoverReadTimeout dt func tag s
  | .noticeTimeout dt func ctx column => Sys2Proof.Machine.execNoticeTimeout dt func ctx column s
  | .completionEntryWrite dt func ctx => Sys2Proof.Machine.execCompletionEntryWrite dt func ctx s
  | .engineResidueFault dt engine func ctx column => Sys2Proof.Machine.execEngineResidueFault dt engine func ctx column s
  | .engineDrainDone dt engine => Sys2Proof.Machine.execEngineDrainDone dt engine s
  | .engineSelfTestDone dt engine pass => Sys2Proof.Machine.execEngineSelfTestDone dt engine pass s
  | .engineDrainTimeout dt engine => Sys2Proof.Machine.execEngineDrainTimeout dt engine s
  | .memSingleBitRead dt bank word cleanReread => Sys2Proof.Machine.execMemSingleBitRead dt bank word cleanReread s
  | .memUncorrectableRead dt bank => Sys2Proof.Machine.execMemUncorrectableRead dt bank s
  | .tableRewriteDone dt verified => Sys2Proof.Machine.execTableRewriteDone dt verified s
  | .nfGapExpiry dt p => Sys2Proof.Machine.execNfGapExpiry dt p s
  | .slotFastTrip dt ch ticks => Sys2Proof.Machine.execSlotFastTrip dt ch ticks s
  | .slotFaultTimerExpiry dt ch ticks => Sys2Proof.Machine.execSlotFaultTimerExpiry dt ch ticks s
  | .slotEnergyExceeded dt ch ticks => Sys2Proof.Machine.execSlotEnergyExceeded dt ch ticks s
  | .slotRampDone dt ch ticks => Sys2Proof.Machine.execSlotRampDone dt ch ticks s
  | .slotPowerGoodQualify dt ch ticks => Sys2Proof.Machine.execSlotPowerGoodQualify dt ch ticks s
  | .pgLost dt ch => Sys2Proof.Machine.execPgLost dt ch s
  | .slotPerstRelease dt ch => Sys2Proof.Machine.execSlotPerstRelease dt ch s
  | .retryWaitEnd dt ch => Sys2Proof.Machine.execRetryWaitEnd dt ch s
  | .dischargeEnd dt ch vout => Sys2Proof.Machine.execDischargeEnd dt ch vout s
  | .gateStuck dt ch => Sys2Proof.Machine.execGateStuck dt ch s
  | .fetLeak dt ch => Sys2Proof.Machine.execFetLeak dt ch s
  | .retryCountClear dt ch => Sys2Proof.Machine.execRetryCountClear dt ch s
  | .presenceChange dt ch present => Sys2Proof.Machine.execPresenceChange dt ch present s
  | .inrushGrant dt => Sys2Proof.Machine.execInrushGrant dt s
  | .spinHoldExpiry dt ch => Sys2Proof.Machine.execSpinHoldExpiry dt ch s
  | .feedReverseTurnoff dt feed => Sys2Proof.Machine.execFeedReverseTurnoff dt feed s
  | .feedForwardResume dt feed => Sys2Proof.Machine.execFeedForwardResume dt feed s
  | .feedLost dt feed => Sys2Proof.Machine.execFeedLost dt feed s
  | .feedRestored dt feed => Sys2Proof.Machine.execFeedRestored dt feed s
  | .mbDoorbellSubmit dt mb => Sys2Proof.Machine.execMbDoorbellSubmit dt mb s
  | .mbDoorbellAcknowledge dt mb => Sys2Proof.Machine.execMbDoorbellAcknowledge dt mb s
  | .mailboxAccept dt => Sys2Proof.Machine.execMailboxAccept dt s
  | .mailboxWindowWrite dt mb offset v collides dmaBuffer => Sys2Proof.Machine.execMailboxWindowWrite dt mb offset v collides dmaBuffer s
  | .errHeadWrite dt p v => Sys2Proof.Machine.execErrHeadWrite dt p v s
  | .oobMctpMessage dt r => Sys2Proof.Machine.execOobMctpMessage dt r s
  | .mctpControlMessage dt cmd arg => Sys2Proof.Machine.execMctpControlMessage dt cmd arg s
  | .i3cDynamicAddress dt addr => Sys2Proof.Machine.execI3cDynamicAddress dt addr s
  | .alertResponseAddress dt => Sys2Proof.Machine.execAlertResponseAddress dt s
  | .ibiRepeat dt => Sys2Proof.Machine.execIbiRepeat dt s
  | .debugMailboxFrame dt r => Sys2Proof.Machine.execDebugMailboxFrame dt r s
  | .arbiterGrant dt inst => Sys2Proof.Machine.execArbiterGrant dt inst s
  | .lockWaitExpiry dt mb => Sys2Proof.Machine.execLockWaitExpiry dt mb s
  | .tandemLinkLossTimeout dt => Sys2Proof.Machine.execTandemLinkLossTimeout dt s
  | .cfgStageOpen dt r => Sys2Proof.Machine.execCfgStageOpen dt r s
  | .cfgStageImageChunk dt r => Sys2Proof.Machine.execCfgStageImageChunk dt r s
  | .cfgStageImageEnd dt r => Sys2Proof.Machine.execCfgStageImageEnd dt r s
  | .cfgStageFromSlot dt r => Sys2Proof.Machine.execCfgStageFromSlot dt r s
  | .cfgPrepare dt r => Sys2Proof.Machine.execCfgPrepare dt r s
  | .cfgCommit dt r => Sys2Proof.Machine.execCfgCommit dt r s
  | .cfgAbort dt r => Sys2Proof.Machine.execCfgAbort dt r s
  | .lockAcquire dt r => Sys2Proof.Machine.execLockAcquire dt r s
  | .lockRelease dt r => Sys2Proof.Machine.execLockRelease dt r s
  | .lockRevoke dt r => Sys2Proof.Machine.execLockRevoke dt r s
  | .portSet dt r => Sys2Proof.Machine.execPortSet dt r s
  | .partSet dt r => Sys2Proof.Machine.execPartSet dt r s
  | .windowSet dt r => Sys2Proof.Machine.execWindowSet dt r s
  | .actWrite dt r => Sys2Proof.Machine.execActWrite dt r s
  | .actPeg dt r => Sys2Proof.Machine.execActPeg dt r s
  | .actPegOutcome dt mb status pegged owner => Sys2Proof.Machine.execActPegOutcome dt mb status pegged owner s
  | .actPegRemoteTimeout dt mb => Sys2Proof.Machine.execActPegRemoteTimeout dt mb s
  | .queueSet dt r => Sys2Proof.Machine.execQueueSet dt r s
  | .shaperSet dt r => Sys2Proof.Machine.execShaperSet dt r s
  | .redProfileSet dt r => Sys2Proof.Machine.execRedProfileSet dt r s
  | .moverVfSet dt r => Sys2Proof.Machine.execMoverVfSet dt r s
  | .slotPowerOn dt r => Sys2Proof.Machine.execSlotPowerOn dt r s
  | .slotPowerOff dt r => Sys2Proof.Machine.execSlotPowerOff dt r s
  | .clearLatch dt r => Sys2Proof.Machine.execClearLatch dt r s
  | .clearUnusable dt r => Sys2Proof.Machine.execClearUnusable dt r s
  | .slotLimits dt r => Sys2Proof.Machine.execSlotLimits dt r s
  | .snapshot dt r => Sys2Proof.Machine.execSnapshot dt r s
  | .bwWindow dt r => Sys2Proof.Machine.execBwWindow dt r s
  | .errRead dt r => Sys2Proof.Machine.execErrRead dt r s
  | .errReadAck dt r => Sys2Proof.Machine.execErrReadAck dt r s
  | .fenceClear dt r => Sys2Proof.Machine.execFenceClear dt r s
  | .loopbackStart dt r => Sys2Proof.Machine.execLoopbackStart dt r s
  | .loopbackStop dt r => Sys2Proof.Machine.execLoopbackStop dt r s
  | .loopbackStatus dt r => Sys2Proof.Machine.execLoopbackStatus dt r s
  | .fwUpdateWrite dt r => Sys2Proof.Machine.execFwUpdateWrite dt r s
  | .fwUpdateVerify dt r => Sys2Proof.Machine.execFwUpdateVerify dt r s
  | .fwActivateAtReset dt r => Sys2Proof.Machine.execFwActivateAtReset dt r s
  | .fwActivateRestart dt r => Sys2Proof.Machine.execFwActivateRestart dt r s
  | .fwUpdateDiscard dt r => Sys2Proof.Machine.execFwUpdateDiscard dt r s
  | .attest dt r => Sys2Proof.Machine.execAttest dt r s
  | .tandemStatus dt r => Sys2Proof.Machine.execTandemStatus dt r s
  | .identify dt r => Sys2Proof.Machine.execIdentify dt r s
  | .caps dt r => Sys2Proof.Machine.execCaps dt r s
  | .cfgRead dt r => Sys2Proof.Machine.execCfgRead dt r s
  | .cfgStatus dt r => Sys2Proof.Machine.execCfgStatus dt r s
  | .cfgSlotRead dt r => Sys2Proof.Machine.execCfgSlotRead dt r s
  | .lockPrioSet dt r => Sys2Proof.Machine.execLockPrioSet dt r s
  | .lockStatus dt r => Sys2Proof.Machine.execLockStatus dt r s
  | .laneStatus dt r => Sys2Proof.Machine.execLaneStatus dt r s
  | .spokeStatus dt r => Sys2Proof.Machine.execSpokeStatus dt r s
  | .coefExport dt r => Sys2Proof.Machine.execCoefExport dt r s
  | .coefImport dt r => Sys2Proof.Machine.execCoefImport dt r s
  | .laneReadmit dt r => Sys2Proof.Machine.execLaneReadmit dt r s
  | .portStatus dt r => Sys2Proof.Machine.execPortStatus dt r s
  | .partStatus dt r => Sys2Proof.Machine.execPartStatus dt r s
  | .actRead dt r => Sys2Proof.Machine.execActRead dt r s
  | .markerSet dt r => Sys2Proof.Machine.execMarkerSet dt r s
  | .queueStatus dt r => Sys2Proof.Machine.execQueueStatus dt r s
  | .shaperStatus dt r => Sys2Proof.Machine.execShaperStatus dt r s
  | .engineTest dt r => Sys2Proof.Machine.execEngineTest dt r s
  | .moverStatus dt r => Sys2Proof.Machine.execMoverStatus dt r s
  | .slotStatus dt r => Sys2Proof.Machine.execSlotStatus dt r s
  | .counterRead dt r => Sys2Proof.Machine.execCounterRead dt r s
  | .errControl dt r => Sys2Proof.Machine.execErrControl dt r s
  | .partitionContain dt r => Sys2Proof.Machine.execPartitionContain dt r s
  | .healthRead dt r => Sys2Proof.Machine.execHealthRead dt r s
  | .reshimRun dt r => Sys2Proof.Machine.execReshimRun dt r s
  | .reshimPolicy dt r => Sys2Proof.Machine.execReshimPolicy dt r s
  | .wearRead dt r => Sys2Proof.Machine.execWearRead dt r s
  | .powerCap dt r => Sys2Proof.Machine.execPowerCap dt r s
  | .planerSet dt r => Sys2Proof.Machine.execPlanerSet dt r s
  | .testStatus dt r => Sys2Proof.Machine.execTestStatus dt r s
  | .debugTokenNonce dt r => Sys2Proof.Machine.execDebugTokenNonce dt r s
  | .debugTokenSubmit dt r tok => Sys2Proof.Machine.execDebugTokenSubmit dt r tok s
  | .debugTokenRevoke dt r => Sys2Proof.Machine.execDebugTokenRevoke dt r s
  | .fuseRead dt r => Sys2Proof.Machine.execFuseRead dt r s
  | .routeSet dt r => Sys2Proof.Machine.execRouteSet dt r s
  | .timeStatus dt r => Sys2Proof.Machine.execTimeStatus dt r s
  | .tandemSet dt r => Sys2Proof.Machine.execTandemSet dt r s
  | .registerWrite dt p func offset width v => Sys2Proof.Machine.execRegisterWrite dt p func offset width v s
  | .cmtImage dt src epoch offset entries => Sys2Proof.Machine.execCmtImage dt src epoch offset entries s
  | .cmtPrepare dt src epoch base corrective length digest => Sys2Proof.Machine.execCmtPrepare dt src epoch base corrective length digest s
  | .cmtVote dt epoch dev status => Sys2Proof.Machine.execCmtVote dt epoch dev status s
  | .cmtCommit dt src epoch pfx swapTime => Sys2Proof.Machine.execCmtCommit dt src epoch pfx swapTime s
  | .cmtArmed dt epoch dev status late swapTime => Sys2Proof.Machine.execCmtArmed dt epoch dev status late swapTime s
  | .cmtAbort dt src epoch => Sys2Proof.Machine.execCmtAbort dt src epoch s
  | .cmtDone dt epoch dev isSealed slot drainTime => Sys2Proof.Machine.execCmtDone dt epoch dev isSealed slot drainTime s
  | .cmtCommitRepeat dt => Sys2Proof.Machine.execCmtCommitRepeat dt s
  | .prepareTimeout dt => Sys2Proof.Machine.execPrepareTimeout dt s
  | .preparedHoldExpiry dt => Sys2Proof.Machine.execPreparedHoldExpiry dt s
  | .commitSwap dt => Sys2Proof.Machine.execCommitSwap dt s
  | .configImageWrite dt => Sys2Proof.Machine.execConfigImageWrite dt s
  | .sealWrite dt => Sys2Proof.Machine.execSealWrite dt s
  | .commitWaitTimeout dt => Sys2Proof.Machine.execCommitWaitTimeout dt s
  | .heartbeatSend dt => Sys2Proof.Machine.execHeartbeatSend dt s
  | .tdmHeartbeat dt dev role master version epoch pfx => Sys2Proof.Machine.execTdmHeartbeat dt dev role master version epoch pfx s
  | .heartbeatTimeout dt => Sys2Proof.Machine.execHeartbeatTimeout dt s
  | .masterClaimTimeout dt => Sys2Proof.Machine.execMasterClaimTimeout dt s
  | .tdmHandover dt th => Sys2Proof.Machine.execTdmHandover dt th s
  | .handoverTime dt => Sys2Proof.Machine.execHandoverTime dt s
  | .masterYieldRelease dt => Sys2Proof.Machine.execMasterYieldRelease dt s
  | .tdmMailbox dt seq offset last part => Sys2Proof.Machine.execTdmMailbox dt seq offset last part s
  | .tdmResponse dt seq offset last part => Sys2Proof.Machine.execTdmResponse dt seq offset last part s
  | .fwConfirmation dt => Sys2Proof.Machine.execFwConfirmation dt s
  | .fwConfirmTimeout dt => Sys2Proof.Machine.execFwConfirmTimeout dt s
  | .getVersion dt transport => Sys2Proof.Machine.execGetVersion dt transport s
  | .getCapabilities dt transport => Sys2Proof.Machine.execGetCapabilities dt transport s
  | .negotiateAlgorithms dt transport offersSha3 offersMldsa => Sys2Proof.Machine.execNegotiateAlgorithms dt transport offersSha3 offersMldsa s
  | .getDigests dt transport => Sys2Proof.Machine.execGetDigests dt transport s
  | .getCertificate dt transport slot offset length => Sys2Proof.Machine.execGetCertificate dt transport slot offset length s
  | .challenge dt transport slot nonce => Sys2Proof.Machine.execChallenge dt transport slot nonce s
  | .getMeasurements dt transport index signed nonce => Sys2Proof.Machine.execGetMeasurements dt transport index signed nonce s
  | .debugTokenExpiry dt => Sys2Proof.Machine.execDebugTokenExpiry dt s
  | .debugAccess dt tgt => Sys2Proof.Machine.execDebugAccess dt tgt s
  | .provisioning dt keyHash reqSigned debugOff malweodOff ownerKey sig => Sys2Proof.Machine.execProvisioning dt keyHash reqSigned debugOff malweodOff ownerKey sig s
  | .reshimInterval dt slow => Sys2Proof.Machine.execReshimInterval dt slow s
  | .reshimStep dt port => Sys2Proof.Machine.execReshimStep dt port s
  | .reshimComplete dt => Sys2Proof.Machine.execReshimComplete dt s
  | .wearCharge dt temps => Sys2Proof.Machine.execWearCharge dt temps s
  | .wearStoreWrite dt => Sys2Proof.Machine.execWearStoreWrite dt s
  | .planerRegionStart dt => Sys2Proof.Machine.execPlanerRegionStart dt s
  | .planerRegionDone dt transient lasting => Sys2Proof.Machine.execPlanerRegionDone dt transient lasting s
  | .currentGuardEngage dt => Sys2Proof.Machine.execCurrentGuardEngage dt s
  | .currentGuardRelease dt => Sys2Proof.Machine.execCurrentGuardRelease dt s
  | .powerCapWindow dt avgMw => Sys2Proof.Machine.execPowerCapWindow dt avgMw s
  | .governorTick dt tj => Sys2Proof.Machine.execGovernorTick dt tj s
  | .thermalTrip dt => Sys2Proof.Machine.execThermalTrip dt s
  | .snapshotTime dt => Sys2Proof.Machine.execSnapshotTime dt s
  | .snapshotCopyDone dt => Sys2Proof.Machine.execSnapshotCopyDone dt s
  | .snapReq dt dev t => Sys2Proof.Machine.execSnapReq dt dev t s
  | .snapDone dt dev copied => Sys2Proof.Machine.execSnapDone dt dev copied s
  | .snapshotFabricTimeout dt => Sys2Proof.Machine.execSnapshotFabricTimeout dt s
  | .bwWindowStart dt unit => Sys2Proof.Machine.execBwWindowStart dt unit s
  | .bwWindowEnd dt unit => Sys2Proof.Machine.execBwWindowEnd dt unit s
  | .loopbackLockTimeout dt target => Sys2Proof.Machine.execLoopbackLockTimeout dt target s
  | .loopbackDurationEnd dt depth target units errors => Sys2Proof.Machine.execLoopbackDurationEnd dt depth target units errors s
  | .bypass dt => Sys2Proof.Machine.execBypass dt s
  | .idcode dt => Sys2Proof.Machine.execIdcode dt s
  | .samplePreload dt preload => Sys2Proof.Machine.execSamplePreload dt preload s
  | .extest dt => Sys2Proof.Machine.execExtest dt s
  | .clamp dt => Sys2Proof.Machine.execClamp dt s
  | .highz dt => Sys2Proof.Machine.execHighz dt s
  | .extestPulse dt => Sys2Proof.Machine.execExtestPulse dt s
  | .extestTrain dt => Sys2Proof.Machine.execExtestTrain dt s
  | .scanEntry dt => Sys2Proof.Machine.execScanEntry dt s
  | .memoryBist dt pass single => Sys2Proof.Machine.execMemoryBist dt pass single s
  | .vddSetpointStep dt ack fault statusWord => Sys2Proof.Machine.execVddSetpointStep dt ack fault statusWord s
  | .vrAlert dt statusWord => Sys2Proof.Machine.execVrAlert dt statusWord s
  | .bootComplete dt => Sys2Proof.Machine.execBootComplete dt s
  | .slotResetNRelease dt => Sys2Proof.Machine.execSlotResetNRelease dt s
  | .startupFetShortCheck dt ch vout => Sys2Proof.Machine.execStartupFetShortCheck dt ch vout s
  | .slotCommandAccepted dt ch => Sys2Proof.Machine.execSlotCommandAccepted dt ch s
  | .adcSample dt ch sense vout => Sys2Proof.Machine.execAdcSample dt ch sense vout s
  | .rcRegisterRead dt p func offset width => Sys2Proof.Machine.execRcRegisterRead dt p func offset width s
  | .fwUpdateDone dt => Sys2Proof.Machine.execFwUpdateDone dt s
  | .mailboxDmaTimeout dt mb => Sys2Proof.Machine.execMailboxDmaTimeout dt mb s
  | .coefficientsDerived dt func ctx => Sys2Proof.Machine.execCoefficientsDerived dt func ctx s
  | .linkRecoveryEntry dt port => Sys2Proof.Machine.execLinkRecoveryEntry dt port s
  | .lossOfSignalEnd dt lane => Sys2Proof.Machine.execLossOfSignalEnd dt lane s
  | .d3hotExit dt p => Sys2Proof.Machine.execD3hotExit dt p s
  | .vfEnableSet dt p num => Sys2Proof.Machine.execVfEnableSet dt p num s

end Sys2Proof.Machine
end

