-- ==== Sys2Proof/Safety.lean ====
section
/-! DEFINITION. What counts as a safe run, in the terms that statements use. -/

namespace Sys2Proof

open Sys2Proof.Machine

/-- A command answers a next state. -/
def Runs (c : Instr) (s : Machine.State) : Prop := ∃ t, Machine.exec c s = .next t

/-- The command answers the next state t, the queue unchanged. -/
def Gives (c : Instr) (s t : State) : Prop := Machine.exec c s = .next { t with pending := s.pending }

/-! Emmel commands: a request that the MC takes at once. -/

/-- A command's turn has come: what its mailbox holds, if it is BUSY, is this request, waiting; no other command holds it back, or the
fetch of its payload from host memory is under way (R367, R368, R384). -/
abbrev ItsTurn (r : Req) (a : State) : Prop :=
  ((a.mb r.mb).state = 1 →
    ((a.mb r.mb).submittedAt.isSome || (a.mb r.mb).waiting == waitDma) = true ∧ (waitingReq a r.mb).hdr0 = r.hdr0) ∧
  ((mcBusyFor a r.mb = false ∧ rDmaIn r = false) ∨ ((a.mb r.mb).state = 1 ∧ (a.mb r.mb).waiting = waitDma))

/-- The MC takes the request now: its mailbox exists, the MC serves, its turn has come, a fetch has ended well, nothing has been written
since, and the header passes its check. -/
def Ready (r : Req) (a : State) : Prop :=
  r.mb < 67 ∧ a.mgmt.serving = true ∧ a.chip.romRecovery = false ∧ ItsTurn r a ∧ r.carried = none ∧
    (a.mb r.mb).dirty = false ∧ r.dma = .ok ∧ headerOk r = true

/-- The request has been accepted: its mailbox is BUSY with it (R367). -/
def taken (r : Req) (a : State) : State :=
  modMb r.mb (fun m => { lodge r m with
    state := 1, seq := rSeq r, executed := false, status := 0, respLen := 0, submittedAt := none, waiting := 0
    current := some r, took := false, owed := false, buf := fetchedInto r (lodge r m).buf }) a

/-- A command of opcode op that the mailbox may send, by its rule. -/
def Sent (c : Rule) (op : Nat) (r : Req) (a : State) : Prop := Ready r a ∧ rOp r = op ∧ allowed c r a = true

/-- In ROM recovery the boot ROM takes one of the three commands that the out-of-band mailbox may send it (R440). -/
def SentRom (op : Nat) (r : Req) (a : State) : Prop :=
  r.mb = 64 ∧ rOp r = op ∧ op ∈ [0x0101, 0x0D04, 0x0D01] ∧ a.mgmt.serving = true ∧ a.chip.romRecovery = true ∧
    mcBusyFor a 64 = false ∧ (a.mb 64).state ≠ 1 ∧ r.carried = none ∧ (a.mb 64).dirty = false ∧ r.dma = .ok ∧ headerOk r = true

/-- The command completes at once, OK and executed, with a response payload; t is the state it leaves before completion. -/
def Completes (c : Instr) (s : State) (r : Req) (pay : List Word64) (t : State) : Prop :=
  Gives c s (finish r.mb stOk true pay t)

/-- The command takes effect and its mailbox waits. -/
def Waits (c : Instr) (s : State) (r : Req) (why : Nat) (t : State) : Prop :=
  Gives c s (modMb r.mb (fun m => if m.state = 1 then { m with waiting := why } else m) t)

/-- Readers of Table 13.11 that every mailbox may use, and those of the out-of-band and tandem mailboxes. -/
abbrev everyone : Rule := ⟨true, true, true, true, false⟩
abbrev devices : Rule := ⟨false, true, true, true, false⟩
abbrev commands : Rule := ⟨true, true, true, false, false⟩
abbrev operators : Rule := ⟨false, true, true, false, false⟩

/-! Whole-machine rules. -/

/-- While no owner is set, no owner fuse is programmed (R437: every one of them is programmed in the operation that sets OWNER_SET). -/
def OwnerFusesWhole (s : State) : Prop :=
  s.sec.ownerSet = false → s.sec.ownerHash = 0 ∧ s.sec.reqSigned = false ∧ s.sec.debugOff = false ∧ s.sec.malweodOff = false

/-- The fuses that can be programmed are the same in two states. -/
def SameFuses (s t : State) : Prop :=
  t.sec.svnFuses = s.sec.svnFuses ∧ t.sec.ownerSet = s.sec.ownerSet ∧ t.sec.ownerHash = s.sec.ownerHash ∧
    t.sec.reqSigned = s.sec.reqSigned ∧ t.sec.debugOff = s.sec.debugOff ∧ t.sec.malweodOff = s.sec.malweodOff

end Sys2Proof
end

