-- ==== Sys2Proof/Certificates/Slice0/Obligations.lean ====
section
/-! DEFINITION. The statements for the provers, in the terms of Sys2Proof/Safety.lean. In each of them `a` stands for `advance dt s`, the
state after the command's time has passed, and `b` for `taken r a`, the state in which the request has been accepted. -/

open Sys2Proof Sys2Proof.Machine

/-- What step does: with a command at the front it is exec of that command on the state with the queue's rest. -/
def Obligations.StepRunsFront : Prop :=
  ∀ (s : State) (c : Instr) (rest : List Instr), s.pending = c :: rest →
    Machine.step s = Machine.exec c { s with pending := rest }

/-- With no command waiting the part idles (the model's choice, assumption 2). Commands run first in, first out, and no command touches the
queue behind it. Every command answers a next state; where its operands name an object the part does not have, only its time passes (the
model's choice, assumption 103). -/
def Obligations.CommandsRunInOrderAndAlwaysAnswer : Prop :=
  (∀ s : State, s.pending = [] → Machine.step s = .next s) ∧
  (∀ (s t : State), Machine.step s = .next t → t.pending = s.pending.tail) ∧
  (∀ (c : Instr) (s : State),
     (∃ t, Machine.exec c s = .next t) ∧ (c.wf = false → Machine.exec c s = .next (advance c.dt s)))

/-- From any state in which no owner means no owner fuse, a step keeps that so. -/
def Obligations.StepsKeepOwnerFusesWhole : Prop :=
  ∀ s t : State, OwnerFusesWhole s → Machine.step s = .next t → OwnerFusesWhole t

/-- A fuse once programmed is never cleared, whatever command runs, and the identity seed never changes (R436). -/
def Obligations.FusesAreNeverCleared : Prop :=
  ∀ s t : State, OwnerFusesWhole s → Machine.step s = .next t →
    t.sec.idSeed = s.sec.idSeed ∧ (∀ i, s.sec.svnFuses.getLsbD i = true → t.sec.svnFuses.getLsbD i = true) ∧
    (∀ i, s.sec.ownerHash.getLsbD i = true → t.sec.ownerHash.getLsbD i = true) ∧
    (s.sec.ownerSet = true → t.sec.ownerSet = true) ∧ (s.sec.reqSigned = true → t.sec.reqSigned = true) ∧
    (s.sec.debugOff = true → t.sec.debugOff = true) ∧ (s.sec.malweodOff = true → t.sec.malweodOff = true)

/-- Only PROVISIONING, and only while OWNER_SET is 0, programs owner fuses (R437); only FW_CONFIRMATION programs SVN_FUSES (R443). -/
def Obligations.OnlyTwoCommandsProgramFuses : Prop :=
  ∀ (c : Instr) (s t : State), Machine.exec c s = .next t → SameFuses s t ∨
    (∃ dt, c = .fwConfirmation dt ∧ t.sec.ownerSet = s.sec.ownerSet ∧ t.sec.ownerHash = s.sec.ownerHash ∧
      t.sec.reqSigned = s.sec.reqSigned ∧ t.sec.debugOff = s.sec.debugOff ∧ t.sec.malweodOff = s.sec.malweodOff) ∨
    (∃ dt h sg d m key sig, c = .provisioning dt h sg d m key sig ∧ s.sec.ownerSet = false ∧ t.sec.svnFuses = s.sec.svnFuses)

/-- The local clock, which measures every duration, never runs back (the model's choice, assumption 1: each command adds its own time, and no
reset touches the clock). -/
def Obligations.LocalClockNeverRunsBack : Prop :=
  ∀ s t : State, Machine.step s = .next t → s.now ≤ t.now

/-- The machine right after reset: no command waits, mailboxes are IDLE, the interrupt blocks and error rings hold their reset values (Tables
12.6 to 12.10), the configuration is empty, counters are 0, nothing is staged, and no owner is set (assumption 6). -/
def Obligations.ResetState : Prop :=
  let s := State.reset
  s.pending = [] ∧ OwnerFusesWhole s ∧ s.sec.svnFuses = 0 ∧ cfgCanon s.conf.entries = true ∧ s.conf.entries = [] ∧ s.hub.frames = [] ∧
  (∀ m, (s.mb m).state = 0 ∧ (s.mb m).lost = 0 ∧ (s.mb m).ignored = 0) ∧
  (∀ p, (s.part p).intStatus = 0 ∧ (s.part p).intMask = 0 ∧ (s.part p).errHead = 0 ∧ (s.part p).errTail = 0 ∧ (s.part p).errLost = 0 ∧
    (∀ i, tget i (s.part p).vectors i = i)) ∧
  (∀ id, tget 0 s.count.live id = 0) ∧ (∀ k, (s.spoke k).state = 0) ∧ (∀ f, (s.func f).state = 0 ∧ (s.func f).cqPhase = true) ∧
  (∀ ch, (s.chan ch).state = 0)

/-- A configuration stays canonical when a record is set (R410), the record then reads as it was set, and every other record as before. -/
def Obligations.ConfigurationHoldsWhatIsPut : Prop :=
  ∀ (es : List CfgEntry) (x : CfgEntry), cfgCanon es = true →
    cfgCanon (cfgPut es x) = true ∧ cfgLookup (cfgPut es x) x.dev x.typ x.a x.b = x.data ∧
    ∀ dev typ a b, (dev, typ, a, b) ≠ (x.dev, x.typ, x.a, x.b) → cfgLookup (cfgPut es x) dev typ a b = cfgLookup es dev typ a b

/-- The arbiter of a lock chooses, among the requests present, one of the highest priority; among equals the one with the smallest stamp;
among equals the lowest requester (R376). -/
def Obligations.ArbiterChoosesTheFirst : Prop :=
  ∀ (s : State) (ws : List (Nat × Nat × Time)), (ws ≠ [] → ∃ w, bestWaiter s ws = some w) ∧
    ∀ w, bestWaiter s ws = some w → w ∈ ws ∧ ∀ x ∈ ws, lockPrio s x.1 ≤ lockPrio s w.1 ∧
      (lockPrio s x.1 = lockPrio s w.1 → w.2.1 ≤ x.2.1 ∧ (x.2.1 = w.2.1 → w.1 ≤ x.1))

/-- A BUSY mailbox enters DONE with STATUS, EXECUTED and the tag it had; MB_DONE sets for a partition mailbox; a window write since acceptance
makes the status CONFLICT; no other mailbox changes, and a response that stays off the host's memory moves no frame (R367, R369). -/
def Obligations.CompletionEntersDone : Prop :=
  ∀ (s : State) (mb st : Nat) (ex : Bool) (pay : List Word64), let t := finish mb st ex pay s; let m := s.mb mb
    (m.state = 1 → (t.mb mb).state = 2 ∧ (t.mb mb).status = (if m.dirtyLate then stConflict else st) ∧ (t.mb mb).executed = ex ∧
      (t.mb mb).seq = m.seq ∧ (t.mb mb).current = none ∧ (mb < 64 → (t.part mb).intStatus.getLsbD 0 = true) ∧
      tget 0 t.count.live (cDev cdCommands) = (tget 0 s.count.live (cDev cdCommands) + 1) % 2 ^ 64) ∧
    (m.state ≠ 1 → t = s) ∧ (∀ k, k ≠ mb → t.mb k = s.mb k) ∧ t.conf = s.conf ∧ t.sec = s.sec ∧ t.mover = s.mover ∧
      ((m.current.map rDmaOut).getD false = false → t.hub = s.hub)

/-- A 32-byte NONCE of all zeros completes ATTEST with INVALID (R406). -/
def Obligations.AttestRefusesAZeroNonce : Prop :=
  ∀ (s : State) (dt : Time) (r : Req), let a := advance dt s; let b := taken r a; let full := 2 ^ 64 - 1
    Sent everyone 0x0D02 r a → payloadBad r [full, full, full, full, 7] = none → ((rPay r).take 4).all (· == 0) = true →
    Gives (.attest dt r) s (finish r.mb stInvalid false [refusalQuad 0 0 0 0] b)

/-- While any enabled partition is strict, a debug read through a side port that R32 names (mover staging, the tag table, the counter groups
private to a strict partition) is denied and returns zeros (R451). -/
def Obligations.StrictClosesDebugReads : Prop :=
  ∀ (s : State) (dt : Time) (k : Bank), let a := advance dt s
    anyStrict a = true → okBank k = true →
    (∃ f c i, k = .moverStaging f c i) ∨ (∃ i, k = .tagTable i) ∨
      (∃ id, k = .counterBank id ∧ (id / 2 ^ 24 = 1 ∨ id / 2 ^ 24 = 4 ∨ id / 2 ^ 24 = 5 ∨ id / 2 ^ 24 = 6 ∨ id / 2 ^ 24 = 7)) →
    Gives (.debugAccess dt (.sidePort k)) s (denyDebug 0 false a) ∧
    (denyDebug 0 false a).out.getLast? = some (.debugResponse true [0]) ∧
    tget 0 (denyDebug 0 false a).count.live (cDev cdDebug) = (tget 0 a.count.live (cDev cdDebug) + 1) % 2 ^ 64

/-- CFG_ABORT discards an open or prepared set and completes OK; for an epoch whose CFG_COMMIT has been accepted it completes with STALE_EPOCH
and changes nothing (R396). -/
def Obligations.AbortDiscardsOrIsStale : Prop :=
  ∀ (s : State) (dt : Time) (r : Req) (l : Nat), let a := advance dt s; let b := taken r a; let x := stageSet b l
    setLock b r = some l → Sent ⟨true, true, true, false, false⟩ 0x0204 r a → payloadBad r [2 ^ 64 - 2 ^ 32] = none →
    (x.committed = false → x.prepared = false → pf r 0 63 32 = 0 → Completes (.cfgAbort dt r) s r [] (dropSet l b)) ∧
    (x.committed = false → x.prepared = true → b.conf.coord.map (·.epoch) = some (pf r 0 63 32) →
      Completes (.cfgAbort dt r) s r [] (dropSet l b)) ∧
    (x.committed = true → Gives (.cfgAbort dt r) s (finish r.mb stStale false [] b))

/-- Beyond 3.5 % of slowdown VDD_OFS stays at 12 steps and the run writes SHIM_EXHAUSTED (R481). The worst core-die slowdown is in units of
0.05 %. -/
def Obligations.ShimExhausts : Prop :=
  ∀ (s : State) (dt : Time) (slow : Nat) (b : State), let a := advance dt s
    70 < slow → b.aging.vddOfs ≤ 12 →
    (orderVoltage slow b).aging.vddOfs = 12 ∧ (orderVoltage slow b).power.vddTarget = (if b.aging.vddOfs = 12 then b.power.vddTarget else 12) ∧
    (∃ r ∈ (orderVoltage slow b).errs.log, r.cause = 0x0B07 ∧ r.seq = b.errs.seq) ∧
    (mcRuns a = true → a.aging.running = false → effStage a < 2 → a.aging.lastRun + a.aging.intervalD * 86400 ≤ coreSeconds a →
      a.aging.vddOfs ≤ 12 → ∃ t : State, Gives (.reshimInterval dt slow) s t ∧ t.aging.vddOfs = 12)

/-- When any powered die's LIFE_USED first reaches 80, 90 or 100, a WEAR_THRESHOLD record is written; a second in which none does writes no
record (R478). -/
def Obligations.WearThresholdsAreRecorded : Prop :=
  ∀ (s : State) (dt : Time) (temps : List Int), let a := advance dt s
    temps.length = 6 →
    let old (d : Nat) : Wear := tget {} a.aging.wear d
    ∃ t : State, Gives (.wearCharge dt temps) s t ∧
      (∀ d x k, diePowered a d = true → temps[d]? = some x → k = 80 ∨ k = 90 ∨ k = 100 → lifeUsed (old d) < k →
        k ≤ lifeUsed (wearOne x (old d)) →
        ∃ r ∈ t.errs.log, r.cause = 0x0B08 ∧ r.cls = 0 ∧ r.detailA = d ∧ r.detailB = lifeUsed (wearOne x (old d))) ∧
      ((∀ d x k, temps[d]? = some x → k = 80 ∨ k = 90 ∨ k = 100 → lifeUsed (wearOne x (old d)) < k ∨ k ≤ lifeUsed (old d)) →
        t.errs = a.errs)

/-- Slot events leave the core alone: time apart, the configuration, firmware, mover, fuses, tandem, ageing and power are as before, and an
event of one channel leaves every other channel as it was. The hub, the scheduler and, but for the episodes and fences of failed writes, the
bridge are as before too, unless the port that names the channel has its upstream port on another device: its hot-plug interrupt then leaves
as a tunnelled message (R150). -/
def Obligations.SlotEventsLeaveTheCore : Prop :=
  ∀ (s t : State) (dt : Time) (ch sense vout : Nat) (xs : List SlotSample) (on : Bool), let a := advance dt s
    ∀ c ∈ [Instr.slotFastTrip dt ch xs, .slotFaultTimerExpiry dt ch xs, .slotEnergyExceeded dt ch xs, .slotRampDone dt ch xs,
      .slotPowerGoodQualify dt ch xs, .pgLost dt ch, .slotPerstRelease dt ch, .retryWaitEnd dt ch, .dischargeEnd dt ch vout,
      .gateStuck dt ch, .fetLeak dt ch, .retryCountClear dt ch, .spinHoldExpiry dt ch, .presenceChange dt ch on,
      .startupFetShortCheck dt ch vout, .adcSample dt ch sense vout],
    Machine.exec c s = .next t →
      t.chip = a.chip ∧ t.ft = a.ft ∧ t.conf = a.conf ∧ t.fw = a.fw ∧ t.mover = a.mover ∧ t.sec = a.sec ∧ t.tandem = a.tandem ∧
      t.aging = a.aging ∧ t.power = a.power ∧ t.slot.recs = a.slot.recs ∧ (∀ k, k ≠ ch → t.chan k = a.chan k) ∧
      ((∀ q d u, slotPort a ch = some q → upstreamPort a (portPart a q) (portVsw a q) = some (d, u) → d = a.dev) →
        t.hub = a.hub ∧ t.sched = a.sched ∧
        t.bridge = { a.bridge with episodes := t.bridge.episodes, fences := t.bridge.fences })

/-- Power, ageing and planer events leave the datapath's state alone: time apart, the configuration, firmware, lanes, spokes, bridge, slot
die, fuses and tandem are as before. -/
def Obligations.PowerEventsLeaveTheDatapath : Prop :=
  ∀ (s t : State) (dt : Time) (tj : Int) (n : Nat) (b1 b2 : Bool) (w : BitVec 16) (temps : List Int) (rows : List Nat)
    , let a := advance dt s
    ∀ c ∈ [Instr.governorTick dt tj, .powerCapWindow dt n, .currentGuardEngage dt, .currentGuardRelease dt,
      .vddSetpointStep dt b1 b2 w, .vrAlert dt w, .wearCharge dt temps, .wearStoreWrite dt, .planerRegionStart dt,
      .planerRegionDone dt n rows],
    Machine.exec c s = .next t →
      t.ft = a.ft ∧ t.conf = a.conf ∧ t.fw = a.fw ∧ t.lanes = a.lanes ∧ t.spokes = a.spokes ∧ t.bridge = a.bridge ∧ t.mover = a.mover ∧
      t.slot = a.slot ∧ t.sec = a.sec ∧ t.tandem = a.tandem ∧ t.hub.frames = a.hub.frames

/-- The commands with an empty request answer their records and change nothing but their mailbox; IDENTIFY and FUSE_READ do so in ROM
recovery too. -/
def Obligations.EmptyRequestsAnswer : Prop :=
  ∀ (s : State) (dt : Time) (r : Req), let a := advance dt s; let b := taken r a
    rLen r = 0 →
    (Sent everyone 0x0101 r a ∨ SentRom 0x0101 r a → Completes (.identify dt r) s r (identityQuads b (if r.mb < 64 then r.mb else 0)) b) ∧
    (Sent everyone 0x0102 r a → Completes (.caps dt r) s r (capsQuads b) b) ∧
    (Sent everyone 0x0206 r a → Completes (.cfgStatus dt r) s r (cfgStatusQuads b r.mb) b) ∧
    (Sent everyone 0x0E01 r a → Completes (.tandemStatus dt r) s r (tandemQuads b) b) ∧
    (Sent everyone 0x0E03 r a →
      Completes (.timeStatus dt r) s r (timeQuads b ++ [clockQuad b]) { b with chip.switchCount := 0 }) ∧
    (Sent operators 0x0B03 r a →
      Completes (.wearRead dt r) s r ((List.range 6).flatMap fun d => wearQuads (tget {} b.aging.wear d)) b) ∧
    (Sent operators 0x0D04 r a ∨ SentRom 0x0D04 r a → Completes (.fuseRead dt r) s r (bytesToQuads (fuseBytes b)) b) ∧
    (Sent ⟨false, true, false, false, false⟩ 0x0C02 r a → Completes (.testStatus dt r) s r (testQuads b) b) ∧
    (Sent everyone 0x0B01 r a → ∃ pay : List Word64, pay.length = 26 ∧
      pay.take 4 = [shimQuad b, planerQuad b, vddQuad b, capQuad b] ∧
      Completes (.healthRead dt r) s r pay { b with freeCtr := b.freeCtr + 22 })

/-- The status commands that name one object return its record; those of RC fields clear them. A partition mailbox reads the same records of
its own port, partition, queues, shapers, functions and channels, and is DENIED every other. -/
def Obligations.StatusCommandsAnswer : Prop :=
  (∀ (s : State) (dt : Time) (r : Req), let a := advance dt s; let b := taken r a
     64 ≤ r.mb →
     (Sent devices 0x0207 r a → payloadBad r [2 ^ 63] = none →
       Completes (.cfgSlotRead dt r) s r (cfgSlotQuads b (pf r 0 63 63 == 1)) b) ∧
     (Sent devices 0x0302 r a → payloadBad r [2 ^ 64 - 2 ^ 55] = none → pf r 0 63 55 < 320 →
       Completes (.laneStatus dt r) s r (laneQuads b (pf r 0 63 55)) b) ∧
     (Sent devices 0x0303 r a → payloadBad r [2 ^ 64 - 2 ^ 58] = none → pf r 0 63 58 < 40 →
       Completes (.spokeStatus dt r) s r (twoQuads (spokeNat b (pf r 0 63 58))) b) ∧
     (Sent devices 0x0304 r a → payloadBad r [2 ^ 64 - 2 ^ 58] = none → pf r 0 63 58 < 40 →
       Completes (.coefExport dt r) s r (storeQuads (tget {} b.lanes.store (pf r 0 63 58))) b) ∧
     (Sent everyone 0x0307 r a → payloadBad r [2 ^ 64 - 2 ^ 57] = none →
       Completes (.portStatus dt r) s r [portQuad b (pf r 0 63 57)] b) ∧
     (Sent everyone 0x0403 r a → payloadBad r [2 ^ 64 - 2 ^ 58] = none →
       Completes (.partStatus dt r) s r [partQuad b (pf r 0 63 58)] b) ∧
     (Sent everyone 0x0605 r a → payloadBad r [2 ^ 64 - 2 ^ 47] = none → pf r 0 56 50 < 72 →
       Completes (.queueStatus dt r) s r
         (queueQuads b (pf r 0 63 57) (pf r 0 56 50) (pf r 0 49 47) ++ [bankQuad b (portStation b (pf r 0 63 57))])
         { b with hub.headroomPeak := tset 0 b.hub.headroomPeak (portStation b (pf r 0 63 57)) 0 }) ∧
     (Sent everyone 0x0606 r a → payloadBad r [7 * 2 ^ 61 + (2 ^ 24 - 1)] = none → pf r 0 23 0 < shaperCount (pf r 0 63 61) →
       Completes (.shaperStatus dt r) s r
         [quad [(63, 44, shRate b (shKey (pf r 0 63 61) (pf r 0 23 0))), (0, 0, b2n (shOpen b (shKey (pf r 0 63 61) (pf r 0 23 0))))],
           BitVec.ofInt 64 (creditNow b (shKey (pf r 0 63 61) (pf r 0 23 0)) / (creditUnit : Int))] b) ∧
     (Sent everyone 0x0703 r a → payloadBad r [2 ^ 64 - 2 ^ 54] = none → pf r 0 63 54 < 576 →
       Completes (.moverStatus dt r) s r [engineQuad b, ringQuad b (pf r 0 63 54)] b) ∧
     (Sent everyone 0x0803 r a → payloadBad r [2 ^ 64 - 2 ^ 58] = none → slotUp a = true →
       Completes (.slotStatus dt r) s r [chStatus b (pf r 0 63 58), feedQuad b.slot.feedA, feedQuad b.slot.feedB]
         (clearMeasures (pf r 0 63 58) b)) ∧
     (Sent everyone 0x0803 r a → payloadBad r [2 ^ 64 - 2 ^ 58] = none → slotUp a = false →
       Gives (.slotStatus dt r) s (finish r.mb stBusy false [] b))) ∧
  (∀ (s : State) (dt : Time) (r : Req), let a := advance dt s; let b := taken r a
     r.mb < 64 →
     (Sent everyone 0x0307 r a → payloadBad r [2 ^ 64 - 2 ^ 57] = none →
       if portEn a (pf r 0 63 57) && portPart a (pf r 0 63 57) == r.mb then
         Completes (.portStatus dt r) s r [portQuad b (pf r 0 63 57)] b
       else Gives (.portStatus dt r) s (finish r.mb stDenied false [] b)) ∧
     (Sent everyone 0x0403 r a → payloadBad r [2 ^ 64 - 2 ^ 58] = none →
       if pf r 0 63 58 = r.mb then Completes (.partStatus dt r) s r [partQuad b (pf r 0 63 58)] b
       else Gives (.partStatus dt r) s (finish r.mb stDenied false [] b)) ∧
     (Sent everyone 0x0605 r a → payloadBad r [2 ^ 64 - 2 ^ 47] = none →
       if pf r 0 56 50 = r.mb then
         Completes (.queueStatus dt r) s r (queueQuads b (pf r 0 63 57) (pf r 0 56 50) (pf r 0 49 47)) b
       else Gives (.queueStatus dt r) s (finish r.mb stDenied false [] b)) ∧
     (Sent everyone 0x0703 r a → payloadBad r [2 ^ 64 - 2 ^ 54] = none → pf r 0 63 54 < 576 →
       if (decide (512 ≤ pf r 0 63 54) || vfEn a (pf r 0 63 54)) && funcPart a (pf r 0 63 54) == r.mb then
         Completes (.moverStatus dt r) s r [engineQuad b, ringQuad b (pf r 0 63 54)] b
       else Gives (.moverStatus dt r) s (finish r.mb stDenied false [] b)) ∧
     (Sent everyone 0x0606 r a → payloadBad r [7 * 2 ^ 61 + (2 ^ 24 - 1)] = none → pf r 0 23 0 < shaperCount (pf r 0 63 61) →
       if ownShaper b r.mb (pf r 0 63 61) (pf r 0 23 0) then
         Completes (.shaperStatus dt r) s r
           [quad [(63, 44, shRate b (shKey (pf r 0 63 61) (pf r 0 23 0))), (0, 0, b2n (shOpen b (shKey (pf r 0 63 61) (pf r 0 23 0))))],
             BitVec.ofInt 64 (creditNow b (shKey (pf r 0 63 61) (pf r 0 23 0)) / (creditUnit : Int))] b
       else Gives (.shaperStatus dt r) s (finish r.mb stDenied false [] b)) ∧
     (Sent everyone 0x0803 r a → payloadBad r [2 ^ 64 - 2 ^ 58] = none → slotUp a = true →
       if (partPorts a r.mb).any fun q => portSlot a q == pf r 0 63 58 then
         Completes (.slotStatus dt r) s r [chStatus b (pf r 0 63 58), feedQuad b.slot.feedA, feedQuad b.slot.feedB]
           (clearMeasures (pf r 0 63 58) b)
       else Gives (.slotStatus dt r) s (finish r.mb stDenied false [] b)))

/-- A record command whose entries all keep their rules, under one lock that the mailbox holds and whose set is open, writes every entry into
that set, in order, and answers their number; a record that every device of the domain holds alike is written for each of them (R137, R214;
the model's way, assumption 135). A record command with a failing entry completes INVALID, names the first such entry and
stages none. -/
def Obligations.RecordCommandsStageOrRefuse : Prop :=
  (∀ (s : State) (dt : Time) (r : Req) (l op : Nat) (c : Instr), let a := advance dt s; let b := taken r a; let es := entriesOf r
     (op, c) ∈ [(0x0301, Instr.portSet dt r), (0x0401, .partSet dt r), (0x0402, .windowSet dt r), (0x0501, .actWrite dt r),
       (0x0601, .queueSet dt r), (0x0602, .shaperSet dt r), (0x0603, .redProfileSet dt r), (0x0604, .markerSet dt r),
       (0x0701, .moverVfSet dt r), (0x0802, .slotLimits dt r), (0x0A03, .errControl dt r), (0x0E02, .routeSet dt r)] →
     Sent (recordRule op) op r a → es ≠ [] →
     (∀ e ∈ es, entryLock b r.mb e = l ∧ entryOk b op e = true ∧ entryPegged b e = false ∧
       (r.mb < 64 → entryDenied b r.mb e = false)) →
     holdsLock b r.mb l = true → (stageSet b l).prepared = false → (stageSet b l).committed = false →
     Completes c s r [quad [(63, 32, es.length)]]
       (putSet l (es.foldl (fun x e => stageEntries b (cfgEntryOf b e) x) (stageSet b l)) b)) ∧
  (∀ (s : State) (dt : Time) (r : Req) (l op i : Nat) (c : Instr) (e : RecEntry),
     let a := advance dt s; let b := taken r a; let es := entriesOf r
     (op, c) ∈ [(0x0301, Instr.portSet dt r), (0x0401, .partSet dt r), (0x0402, .windowSet dt r), (0x0501, .actWrite dt r),
       (0x0601, .queueSet dt r), (0x0602, .shaperSet dt r), (0x0603, .redProfileSet dt r), (0x0604, .markerSet dt r),
       (0x0701, .moverVfSet dt r), (0x0802, .slotLimits dt r), (0x0A03, .errControl dt r), (0x0E02, .routeSet dt r)] →
     Sent (recordRule op) op r a → 64 ≤ r.mb →
     (∀ e ∈ es, entryLock b r.mb e = l) → holdsLock b r.mb l = true →
     (stageSet b l).prepared = false → (stageSet b l).committed = false →
     es[i]? = some e → entryOk b op e = false → (∀ x ∈ es.take i, entryOk b op x = true) →
     Gives c s (finish r.mb stInvalid false [refusalQuad e.typ e.a e.b i] b))

/-- CFG_STAGE: OPEN makes the set a copy of what is in force, CHUNK puts image bytes at an offset, END and FROM_SLOT replace the set by an
image that passes its checks. CFG_PREPARE of a set that passes every check freezes it, with the digest of its canonical form; what is in
force stays. A corrective commit (CORRECTIVE 1 of a set that changes nothing) passes the checks it is excepted from. A device alone in its
domain answers the next epoch and the digest at once; with other members the command waits for their votes. -/
def Obligations.StagingAndPreparing : Prop :=
  (∀ (s : State) (dt : Time) (r : Req) (l : Nat), let a := advance dt s; let b := taken r a; let x := stageSet b l
     Sent ⟨true, true, true, false, false⟩ 0x0201 r a → setLock b r = some l → x.prepared = false → x.committed = false →
     8 ≤ rLen r → pf r 0 58 32 = 0 →
     (pf r 0 63 60 = 0 →
       Completes (.cfgStageOpen dt r) s r [quad [(63, 32, b.conf.epoch), (31, 0, 0)]] (putSet l (openSet b) b)) ∧
     (pf r 0 63 60 = 1 → l = 0 → pf r 0 31 0 + (rLen r - 8) ≤ 8388608 →
       Completes (.cfgStageImageChunk dt r) s r [quad [(63, 32, x.base), (31, 0, 0)]]
         (putSet 0 { x with image := putBytes x.image (pf r 0 31 0) (chunkBytes r) } b)) ∧
     (∀ es isSigned sig seq, pf r 0 63 60 = 2 → l = 0 → checkImage b x.image = some (es, isSigned, sig, seq) →
       Completes (.cfgStageImageEnd dt r) s r [quad [(63, 32, x.base), (31, 0, seq)]]
         (putSet 0 (imageSet b es isSigned sig seq x) b)) ∧
     (pf r 0 63 60 = 3 → l = 0 → cfgSlotValid b (b.cfgSlot (pf r 0 59 59 == 1)) = true →
       Completes (.cfgStageFromSlot dt r) s r [quad [(63, 32, x.base), (31, 0, (b.cfgSlot (pf r 0 59 59 == 1)).seq)]]
         (putSet 0 (imageSet b (b.cfgSlot (pf r 0 59 59 == 1)).body (b.cfgSlot (pf r 0 59 59 == 1)).signed
           (b.cfgSlot (pf r 0 59 59 == 1)).sig (b.cfgSlot (pf r 0 59 59 == 1)).seq x) b))) ∧
  (∀ (s : State) (dt : Time) (r : Req) (l : Nat), let a := advance dt s; let b := taken r a; let x := stageSet b l
     let others := (membersOf b x.entries).filter (· != b.dev)
     Sent ⟨true, true, true, false, false⟩ 0x0202 r a → setLock b r = some l →
     x.prepared = false → x.committed = false → x.conflicted = false → b.conf.prepared = none → b.conf.coord = none →
     (signedRequired b = true → x.signed = true) → payloadBad r [2 ^ 64 - 2 ^ 32 + 1] = none →
     let corrective := pf r 0 0 0 == 1 && x.changed.isEmpty && x.entries == b.conf.entries
     pf r 0 63 32 = b.conf.epoch → candidateStatus corrective false b.conf.epoch x.entries b = (stOk, noRec) →
     ∃ (c : Coord) (p : Prepared) (t : State),
       t.conf.coord = some c ∧ t.conf.prepared = some p ∧ c.corrective = corrective ∧ t.conf.entries = b.conf.entries ∧ t.conf.epoch = b.conf.epoch ∧
       (stageSet t l).prepared = true ∧ (stageSet t l).entries = x.entries ∧ p.entries = x.entries ∧
       p.epoch = (b.conf.epoch + 1) % 2 ^ 32 ∧ p.base = b.conf.epoch ∧ p.digest = sha3 (cfgBytes x.entries) ∧
       p.heldUntil = b.now + 60 * oneSec ∧ p.armed = none ∧ c.deadline = b.now + 100 * ms ∧
       (others = [] → Completes (.cfgPrepare dt r) s r (quad [(63, 32, p.epoch)] :: quads256 p.digest)
         { t with conf.coord := some { c with decided := true } }) ∧
       (others ≠ [] → Waits (.cfgPrepare dt r) s r waitPrepare (forAll others (sendPrepare c p) t)))

/-- CFG_COMMIT of the prepared configuration arms it for its T and tells the members. At T the armed configuration is swapped in, the drain
ends once no frame that was in the hub at its swap is left, and the image and its seal are written. -/
def Obligations.CommitArmsSwapsAndSeals : Prop :=
  (∀ (s : State) (dt : Time) (r : Req) (l : Nat), let a := advance dt s; let b := taken r a; let x := stageSet b l
     setLock b r = some l → x.committed = false →
     (∀ (c : Coord) (p : Prepared) (T : Nat), Sent ⟨true, true, true, false, false⟩ 0x0203 r a →
       payloadBad r [2 ^ 64 - 2 ^ 32 + 3, 2 ^ 64 - 1, 2 ^ 64 - 1] = none → pf r 0 1 0 ≠ 3 → timeLocked b = true →
       T = (if (rPay r).getD 2 0 = 0 then b.ft.count + ms else ((rPay r).getD 2 0).toNat) →
       b.ft.count + 100 * us ≤ T → T ≤ b.ft.count + 10 * oneSec →
       b.conf.coord = some c → b.conf.prepared = some p → c.lock = l → c.committing = false → c.decided = true →
       c.epoch = pf r 0 63 32 → c.pfx = ((rPay r).getD 1 0).toNat → b.now < p.heldUntil →
       Waits (.cfgCommit dt r) s r waitCommit
         (forAll (c.members.filter (· != b.dev)) (fun d => post (.mgmt d 0x0104 [c.epoch, c.pfx, T]))
           (putSet l { x with committed := true } { b with
             conf.coord := some { c with committing := true, wait := pf r 0 1 0, swapAt := T, commitMb := some r.mb, armed := [b.dev] }
             conf.prepared := some { p with armed := some T } })))) ∧
  (∀ (s : State) (dt : Time), let a := advance dt s
     (∀ p T, a.conf.prepared = some p → p.armed = some T → T ≤ a.ft.count → ∃ t : State, Gives (.commitSwap dt) s t ∧ t = swapNow false a ∧
       t.conf.entries = p.entries ∧ t.conf.epoch = p.epoch ∧ t.conf.digest = p.digest ∧ t.conf.prepared = none) ∧
     (∀ p T, a.conf.prepared = some p → p.armed = some T → a.ft.count < T → Gives (.commitSwap dt) s a) ∧
     (a.conf.prepared = none ∨ (∃ p, a.conf.prepared = some p ∧ p.armed = none) → Gives (.commitSwap dt) s a) ∧
     (∀ d, a.conf.drain = [d] → (∀ f ∈ a.hub.frames, inHub f = true → f.fid ∉ d.frames) →
       let b : State := { a with conf.drain := [], conf.drainedAt := a.ft.count }
       (d.coord ≠ a.dev → Gives (.drainDone dt) s (post (.mgmt d.coord 0x0107 [d.epoch, a.dev, 0, b2n (nextCfgSlot a), a.ft.count]) b)) ∧
       (d.coord = a.dev → Gives (.drainDone dt) s (noteDone d.epoch a.dev false a.ft.count b))) ∧
     ((∀ d ∈ a.conf.drain, ∃ f ∈ a.hub.frames, inHub f = true ∧ f.fid ∈ d.frames) → Gives (.drainDone dt) s a) ∧
     (∀ w, a.conf.write = some w → a.conf.sealing = false → mcRuns a = true →
       let b := (newestCfg a).elim false (fun n => !n)
       let seq := (newestCfg a).elim 1 (fun n => ((a.cfgSlot n).seq + 1) % 2 ^ 32)
       Gives (.configImageWrite dt) s (emit (.flash 1 (b2n b)) (emit (.flash 0 (b2n b)) (putCfgSlot b
         { magic := true, header := true, seq := seq, epoch := a.conf.epoch, signed := a.conf.signed
           sig := if a.conf.signed then a.conf.sig else 0
           digest := a.conf.digest, body := a.conf.entries, sealWord := none }
         { a with conf.write := some (b2n b, seq), conf.sealing := true })))) ∧
     (∀ d slot seq, a.conf.write = some (b2n slot, seq) → a.conf.sealing = true → mcRuns a = true → a.conf.doneTo = some d →
       let b := emit (.flash 2 (b2n slot)) (putCfgSlot slot { a.cfgSlot slot with sealWord := some seq }
         { a with conf.write := none, conf.sealing := false })
       (d ≠ a.dev → Gives (.sealWrite dt) s (post (.mgmt d 0x0107 [a.conf.epoch, a.dev, 1, b2n slot, a.conf.drainedAt]) b)) ∧
       (d = a.dev → Gives (.sealWrite dt) s (noteDone a.conf.epoch a.dev true a.conf.drainedAt b))))

/-- The member's side of a commit: the image is gathered, checked and voted on, then armed; an abort gives it up. The coordinator's side:
votes are gathered, a missing one times the prepare out, CMT_COMMIT is repeated, and members' reports and the wait's end complete the
command. -/
def Obligations.MembersAndCoordinator : Prop :=
  (∀ (s : State) (dt : Time) (src epoch : Nat), let a := advance dt s
     src < 64 → mcRuns a = true →
     (∀ es, Gives (.cmtImage dt src epoch 0 es) s { a with conf.incoming := es, conf.incomingOf := (src, epoch) }) ∧
     (∀ es, a.conf.incomingOf = (src, epoch) → 0 < cfgLength a.conf.incoming →
       Gives (.cmtImage dt src epoch (cfgLength a.conf.incoming) es) s { a with conf.incoming := a.conf.incoming ++ es }) ∧
     (∀ base corrective, a.conf.prepared = none → a.conf.incomingOf = (src, epoch) → cfgCanon a.conf.incoming = true →
       candidateStatus corrective false base a.conf.incoming a = (stOk, noRec) →
       let p : Prepared := {
         coord := src, epoch := epoch, base := base, entries := a.conf.incoming, digest := sha3 (cfgBytes a.conf.incoming)
         voted := true, heldUntil := a.now + 60 * oneSec, armed := none, late := false, sig := 0, signed := false }
       Gives (.cmtPrepare dt src epoch base corrective (cfgLength a.conf.incoming) (sha3 (cfgBytes a.conf.incoming))) s
         (post (.mgmt src 0x0103 [epoch, a.dev, stOk]) { a with conf.prepared := some p })) ∧
     (∀ p T, a.conf.prepared = some p → p.coord = src → p.epoch = epoch → p.armed = none →
       (a.ft.count < T → Gives (.cmtCommit dt src epoch (digestPfx p.digest) T) s
         (post (.mgmt src 0x0105 [epoch, a.dev, stOk, 0, 0]) { a with conf.prepared := some { p with armed := some T } })) ∧
       (T ≤ a.ft.count → Gives (.cmtCommit dt src epoch (digestPfx p.digest) T) s
         (post (.mgmt src 0x0105 [epoch, a.dev, stOk, 1, (swapNow true a).conf.lastSwap]) (swapNow true a)))) ∧
     (∀ p, a.conf.prepared = some p → p.coord = src → p.epoch = epoch → p.armed = none →
       Gives (.cmtAbort dt src epoch) s { a with conf.prepared := none }) ∧
     (∀ p, a.conf.prepared = some p → p.armed = none → p.heldUntil ≤ a.now → a.conf.coord = none →
       Gives (.preparedHoldExpiry dt) s { a with conf.prepared := none })) ∧
  (∀ (s : State) (dt : Time) (c : Coord), let a := advance dt s
     (a.conf.coord = some c →
       (∀ dev, dev < 64 → mcRuns a = true → c.decided = false → dev ∈ c.members → tfind c.votes dev = none →
         (∃ e ∈ c.members, tfind (tput c.votes dev 0) e = none) →
         Gives (.cmtVote dt c.epoch dev 0) s { a with conf.coord := some { c with votes := tput c.votes dev 0 } }) ∧
       (∀ dev p, dev < 64 → mcRuns a = true → c.decided = false → dev ∈ c.members → tfind c.votes dev = none →
         (∀ e ∈ c.members, tfind (tput c.votes dev 0) e = some 0) → a.conf.prepared = some p →
         Gives (.cmtVote dt c.epoch dev 0) s (finishWait c.mb waitPrepare stOk true (quad [(63, 32, p.epoch)] :: quads256 p.digest)
           { a with conf.coord := some { c with votes := tput c.votes dev 0, decided := true } })) ∧
       (c.decided = false → c.deadline ≤ a.now → (∀ e ∈ c.members, tget 0 c.votes e = 0) →
         Gives (.prepareTimeout dt) s (finishWait c.mb waitPrepare stTimeout false [] (reopen c.lock (abortPrepare a)))) ∧
       (∀ dev st late sw, dev < 64 → c.committing = true → dev ∉ c.armed →
         Gives (.cmtArmed dt c.epoch dev st late sw) s { a with conf.coord := some { c with armed := c.armed ++ [dev] } }) ∧
       (c.committing = true → a.ft.count < c.swapAt →
         Gives (.cmtCommitRepeat dt) s (forAll (c.members.filter fun d => !c.armed.contains d)
           (fun d => post (.mgmt d 0x0104 [c.epoch, c.pfx, c.swapAt])) a)) ∧
       (∀ dev slot drain, dev < 64 → a.conf.swapped = [] →
         Gives (.cmtDone dt c.epoch dev false slot drain) s
           { a with conf.coord := some { c with done := tput c.done dev drain } })) ∧
     (a.conf.coord = none → a.conf.swapped = [c] → ∀ m, c.commitMb = some m →
       (∀ dev drain slot, dev < 64 → c.wait = 1 → (∀ d ∈ c.members, (tfind (tput c.done dev drain) d).isSome = true) →
         ∃ pay, pay.take 1 = [BitVec.ofNat 64 c.tSwap] ∧ Gives (.cmtDone dt c.epoch dev false slot drain) s
           (finishWait m waitCommit stOk true pay { a with conf.swapped := [] })) ∧
       (∀ dev drain slot, dev < 64 → c.wait = 2 → dev ∉ c.sealedBy → (∃ d ∈ c.members, d ≠ dev ∧ d ∉ c.sealedBy) →
         Gives (.cmtDone dt c.epoch dev true slot drain) s
           { a with conf.swapped := [{ c with sealedBy := c.sealedBy ++ [dev] }] }) ∧
       (c.swapAt + 3 * oneSec ≤ a.ft.count →
         Gives (.commitWaitTimeout dt) s (finishWait m waitCommit stTimeout true [] { a with conf.swapped := [] }))))

/-- LOCK_ACQUIRE answers its holder at once and otherwise waits behind the requests before it; LOCK_RELEASE and LOCK_REVOKE end the grant
and its staging set, and revoking partition lock 1 + p ends p's locked sequences too (R248; the model's way, assumption 163); LOCK_PRIO_SET
acts from the next cycle; LOCK_STATUS shows the owner and the waiters. A cycle of a free lock's arbiter grants it to the request that goes
first, and a request not granted in time ends NO_LOCK, a free lock being granted first. -/
def Obligations.LocksAreAskedGrantedAndEnded : Prop :=
  (∀ (s : State) (dt : Time) (r : Req) (l : Nat), let a := advance dt s; let b := taken r a; let k := findLock b l
     l = pf r 0 63 56 → l ≤ 64 →
     (Sent ⟨true, true, true, false, true⟩ 0x0210 r a → mayLock r.mb l = true →
       payloadBad r [2 ^ 64 - 2 ^ 56 + (2 ^ 32 - 1)] = none → pf r 0 31 0 ≤ 10000000 →
       (k.owner = some r.mb → Completes (.lockAcquire dt r) s r [BitVec.ofNat 64 k.granted] b) ∧
       (k.owner ≠ some r.mb → Waits (.lockAcquire dt r) s r waitLock
         (putLock l { k with waiters := k.waiters.filter (fun x => x.1 != r.mb) ++
           [(r.mb, b.ft.count, b.now + max (pf r 0 31 0 * us) halfCycle)] } b))) ∧
     (Sent ⟨true, true, true, false, true⟩ 0x0211 r a → payloadBad r [2 ^ 64 - 2 ^ 55] = none →
       (pf r 0 55 55 = 0 → mayLock r.mb l = true → k.owner = some r.mb → Completes (.lockRelease dt r) s r [] (releaseLock l b)) ∧
       (pf r 0 55 55 = 1 → r.mb = 64 → (l = 0 → Completes (.lockRevoke dt r) s r [] (releaseLock l b)) ∧
         (∀ p, l = 1 + p → Completes (.lockRevoke dt r) s r [] (releaseLock l (endSeqsWhere (fun q => q.part == p) b))))) ∧
     (Sent everyone 0x0213 r a → payloadBad r [2 ^ 64 - 2 ^ 56] = none → (r.mb < 64 → l = 1 + r.mb) →
       Completes (.lockStatus dt r) s r
         ([quad [(63, 63, b2n k.owner.isSome), (62, 56, k.owner.getD 0), (31, 0, k.waiters.length)],
           BitVec.ofNat 64 (if k.owner.isSome then k.granted else 0)] ++
           k.waiters.flatMap fun w => [quad [(62, 56, w.1)], BitVec.ofNat 64 w.2.1]) b)) ∧
  (∀ (s : State) (dt : Time) (r : Req), let b := taken r (advance dt s)
     Sent ⟨false, true, true, false, true⟩ 0x0212 r (advance dt s) → payloadBad r [2 ^ 64 - 2 ^ 56 + 15] = none → pf r 0 63 56 ≤ 65 →
       Completes (.lockPrioSet dt r) s r [] { b with mgmt.prioNext := b.mgmt.prioNext ++ [(pf r 0 63 56, pf r 0 3 0, halfTick b)] }) ∧
  (∀ (s : State) (dt : Time) (l : Nat), let a := settlePrio (advance dt s); let k := findLock a l
     l < 65 →
     (∀ w, k.owner = none → bestWaiter a k.waiters = some w →
       let t := putLock l { owner := some w.1, waiters := k.waiters.filter fun x => x.1 != w.1, granted := a.ft.count } a
       (acquires a w.1 = some l → Gives (.arbiterGrant dt l) s (finishWait w.1 waitLock stOk true [BitVec.ofNat 64 a.ft.count]
         (modMb w.1 (fun m => { m with took := true }) t))) ∧
       (acquires a w.1 ≠ some l → Gives (.arbiterGrant dt l) s t)) ∧
     (k.owner ≠ none ∨ k.waiters = [] → Gives (.arbiterGrant dt l) s a)) ∧
  (∀ (s : State) (dt : Time) (l mb : Nat) (k : Lock), let a := advance dt s
     mb < 67 → tfind a.mgmt.lock l = some k → (∃ w ∈ k.waiters, w.1 = mb) →
     (∀ e ∈ a.mgmt.lock, e.1 ≠ l → ∀ x ∈ e.2.waiters, x.1 ≠ mb) →
     let a' := if k.owner = none then grantLock l a else a; let k' := findLock a' l
     ((∃ w ∈ k'.waiters, w.1 = mb ∧ w.2.2 ≤ a.now) → acquires a' mb = some l →
       Gives (.lockWaitExpiry dt mb) s (finishWait mb waitLock stNoLock false []
         (putLock l { k' with waiters := k'.waiters.filter fun w => w.1 != mb } a'))) ∧
     ((∀ w ∈ k'.waiters, w.1 = mb → a.now < w.2.2) → Gives (.lockWaitExpiry dt mb) s a')) ∧
  (∀ (s : State) (dt : Time) (mb : Nat), (∀ e ∈ s.mgmt.lock, ∀ x ∈ e.2.waiters, x.1 ≠ mb) →
     Gives (.lockWaitExpiry dt mb) s (advance dt s))

/-- ACT_PEG pegs entries of this device at once, the out-of-band mailbox with the owner peg; for another device it waits for the outcome,
which completes it, or times out after 10 ms; one that another device carries here is applied whole or refused, and its outcome goes back.
ACT_READ shows entries in force with their pegs. FENCE_CLEAR ends fences of its scope;
SLOT_POWER waits for its acceptance by the slot die; PARTITION_CONTAIN contains; ENGINE_TEST drains an engine. -/
def Obligations.DeviceCommandsTakeEffect : Prop :=
  (∀ (s : State) (dt : Time) (r : Req), let a := advance dt s; let b := taken r a
     let dev := pf r 0 63 58; let port := pf r 0 57 51; let table := pf r 0 50 50
     let es := List.range' (pf r 0 49 44) (pf r 0 43 38 + 1 - pf r 0 49 44)
     payloadBad r [2 ^ 64 - 2 ^ 38] = none → pf r 0 49 44 ≤ pf r 0 43 38 →
     (Sent ⟨true, true, false, false, true⟩ 0x0502 r a → (∀ i ∈ es, mayPeg b r.mb dev port table i = true) →
       (dev = b.dev → (∀ i ∈ es, preparedChanges b port table i = false) →
         (∀ i ∈ es, r.mb = 64 ∨ pegOf b port table i ≠ 2) →
         ∃ t : State, t.bridge.pegs = es.foldl (fun p i => tput p (pegKey port table i)
             (max (if r.mb = 64 then 2 else 1) (tget 0 p (pegKey port table i)))) b.bridge.pegs ∧
           Completes (.actPeg dt r) s r [pegMap t port table 1, pegMap t port table 2] t) ∧
       (dev ≠ b.dev → routeEn b dev = true →
         Waits (.actPeg dt r) s r waitPeg (emit (.actPeg dev r.mb ((rPay r).getD 0 0))
           { b with mgmt.pegWait := b.mgmt.pegWait ++ [(r.mb, b.now + 10 * ms)] }))) ∧
     (∀ d, r.carried = some d → r.mb < 67 → rOp r = 0x0502 → coreRuns a = true → dev = a.dev →
       (∀ i ∈ es, mayPeg a r.mb dev port table i = true ∧ preparedChanges a port table i = false) →
       ((∀ i ∈ es, r.mb = 64 ∨ pegOf a port table i ≠ 2) →
         ∃ t : State, t.bridge.pegs = es.foldl (fun p i => tput p (pegKey port table i)
             (max (if r.mb = 64 then 2 else 1) (tget 0 p (pegKey port table i)))) a.bridge.pegs ∧
           Gives (.actPeg dt r) s (emit (.actPegOutcome d r.mb stOk [pegMap t port table 1, pegMap t port table 2]) t)) ∧
       ((∃ i ∈ es, r.mb ≠ 64 ∧ pegOf a port table i = 2) →
         ∃ pay, Gives (.actPeg dt r) s (emit (.actPegOutcome d r.mb stPegged pay) a))) ∧
     (Sent everyone 0x0503 r a → (r.mb < 64 → recPart b 0x20 (dev * 128 + port) = some r.mb) →
       (dev = b.dev → Completes (.actRead dt r) s r (es.flatMap fun i => pegQuads b dev port table i (pegOf b port table i)) b) ∧
       (dev ≠ b.dev → ∃ pegs : List Nat, pegs.length = es.length ∧ (∀ g ∈ pegs, g ≤ 2) ∧
         Completes (.actRead dt r) s r ((es.zip pegs).flatMap fun x => pegQuads b dev port table x.1 x.2)
           { b with freeCtr := b.freeCtr + es.length })) ∧
     (∀ mb n, mb < 67 → (mb, n) ∈ a.mgmt.pegWait →
       (∀ pegged owner, Gives (.actPegOutcome dt mb stOk pegged owner) s
         (finishWait mb waitPeg stOk true [BitVec.ofNat 64 pegged, BitVec.ofNat 64 owner] (endPegWait mb a))) ∧
       (∀ status pegged owner, status ≠ stOk → Gives (.actPegOutcome dt mb status pegged owner) s
         (finishWait mb waitPeg status false
           (if status = stPegged ∨ status = stInvalid then [BitVec.ofNat 64 pegged] else []) (endPegWait mb a))) ∧
       (n ≤ a.now → Gives (.actPegRemoteTimeout dt mb) s (finishWait mb waitPeg stTimeout false [] (endPegWait mb a))))) ∧
  (∀ (s : State) (dt : Time) (r : Req), let a := advance dt s; let b := taken r a
     (∀ hit : Nat × Nat × Nat → Bool,
       (∀ part dev port, hit (part, dev, port) = true ↔
         part = rScopeId r ∧ (pf r 0 50 50 = 1 ∨ (dev = pf r 0 63 58 ∧ port = pf r 0 57 51))) →
       Sent ⟨true, true, true, false, true⟩ 0x0A02 r a → rScope r = 1 → payloadBad r [2 ^ 64 - 2 ^ 50] = none →
       Completes (.fenceClear dt r) s r [quad [(31, 0, (b.bridge.fences.filter hit).length)]] (endFences hit b)) ∧
     (∀ (act : Nat) (c : Instr), (act, c) ∈ [(0, Instr.slotPowerOn dt r), (1, .slotPowerOff dt r), (2, .clearLatch dt r),
         (3, .clearUnusable dt r)] →
       Sent ⟨true, true, false, false, false⟩ 0x0801 r a → pf r 0 57 55 = act → mayPower b r.mb act (pf r 0 63 58) = true →
       slotUp b = true → payloadBad r [2 ^ 64 - 2 ^ 55] = none →
       Waits c s r waitSlot (modChanAux (pf r 0 63 58) (fun x => { x with requests := x.requests ++ [(act, some r.mb)] }) b)) ∧
     (Sent ⟨false, true, false, false, false⟩ 0x0A04 r a → rScope r = 1 → partEn b (rScopeId r) = true →
       Completes (.partitionContain dt r) s r [] (containPartition (rScopeId r) b)) ∧
     (Sent operators 0x0702 r a → holdsLock b r.mb 0 = true →
       (∀ i < 4, (b.engine i).drainMb = none ∧ (i ≠ pf r 0 63 62 → (b.engine i).inService = true)) →
       payloadBad r [2 ^ 64 - 2 ^ 62 + (2 ^ 32 - 1)] = none → 1000 ≤ pf r 0 31 0 → pf r 0 31 0 ≤ 10000000 →
       Waits (.engineTest dt r) s r waitEngine
         (modEngine (pf r 0 63 62) (fun x => { x with drainMb := some r.mb, drainUntil := b.now + pf r 0 31 0 * us }) b)))

/-- ERR_READ returns the device log's records from a number on, oldest first, to a partition mailbox those copied to its ring; with ACK they
are acknowledged too. CFG_READ returns a record in
force in entry form; COEF_IMPORT replaces a store entry unless bring-up has read it; LANE_READMIT marks a retired lane for the next
bring-up. -/
def Obligations.RecordsAreReadAndImported : Prop :=
  (∀ (s : State) (dt : Time) (r : Req), let a := advance dt s; let b := taken r a
     let held := b.errs.log.filter fun e => e.seq == pf r 0 63 32 || serialNewer e.seq (pf r 0 63 32)
     let got := (held.filter fun e => decide (64 ≤ r.mb) || b.errs.copies.contains (e.seq, r.mb)).take (pf r 0 31 24)
     let first := (got.head?.map (·.seq)).getD (pf r 0 63 32)
     let gap := (b.errs.log.head?.map fun e => serialNewer e.seq (pf r 0 63 32)).getD false
     let next := if held = [] then pf r 0 63 32 else if got.length = pf r 0 31 24 then
       (got.getLast?.map fun e => (e.seq + 1) % 2 ^ 32).getD (pf r 0 63 32) else b.errs.seq
     let pay := quad [(63, 32, first), (31, 24, got.length), (23, 23, b2n gap)] :: quad [(63, 32, next)] :: got.flatMap recordQuads
     Sent everyone 0x0A01 r a → payloadBad r [2 ^ 64 - 2 ^ 24 + 1] = none → pf r 0 31 24 ≠ 0 →
     (pf r 0 31 24 ≤ 62 ∨ rDmaOut r = true) →
     (pf r 0 0 0 = 0 → Completes (.errRead dt r) s r pay b) ∧
     (pf r 0 0 0 = 1 → r.mb = 64 →
       Completes (.errReadAck dt r) s r pay ((got.getLast?.map fun e => ackAlerts e.seq b).getD b))) ∧
  (∀ (s : State) (dt : Time) (r : Req), let a := advance dt s; let b := taken r a
     (∀ sp, let typ := pf r 0 63 56; let n := pf r 0 23 16; let source := pf r 0 15 14; let l := pf r 0 13 7
       let key (i : Nat) : Nat × Nat := let x := pf r 0 55 40 * sp.maxB + pf r 0 39 24 + i; (x / sp.maxB, x % sp.maxB)
       Sent everyone 0x0205 r a → payloadBad r [2 ^ 64 - 2 ^ 7] = none → recSpec typ = some sp → 1 ≤ n → n ≤ 100 → source < 3 → l ≤ 64 →
       pf r 0 39 24 < sp.maxB → (∀ i < n, (key i).1 < sp.maxA) →
       (r.mb < 64 → (∀ i < n, mayRead b r.mb typ (key i).1 = true) ∧ (source = 1 → l = 1 + r.mb)) →
       (source = 2 → b.conf.prepared = none → Completes (.cfgRead dt r) s r [] b) ∧
       ((source = 2 → b.conf.prepared.isSome = true) →
         Completes (.cfgRead dt r) s r ((List.range n).flatMap fun i => entryQuads typ (key i).1 (key i).2 sp.words
             ((cfgLookup (readSource b source l) (if typ = 0x20 then (key i).1 / 128 else b.dev) typ (key i).1 (key i).2).toNat |||
               roFields b i typ (key i).1 (key i).2))
           (if typ = 0x20 then { b with freeCtr := b.freeCtr + n } else b))) ∧
     (Sent operators 0x0305 r a → holdsLock b r.mb 0 = true → payloadBad r importMasks = none → pf r 0 63 58 < 40 →
       ((b.spoke (pf r 0 63 58)).state < 2 → Completes (.coefImport dt r) s r [0]
         { b with lanes.store := tset {} b.lanes.store (pf r 0 63 58) (importedEntry r) }) ∧
       (2 ≤ (b.spoke (pf r 0 63 58)).state → Completes (.coefImport dt r) s r [BitVec.ofNat 64 (2 ^ 63)] b)) ∧
     (Sent operators 0x0306 r a → holdsLock b r.mb 0 = true → payloadBad r [2 ^ 64 - 2 ^ 55] = none → pf r 0 63 55 < 320 →
       stationMode b (pf r 0 63 55 / 16) = 2 →
       (bit (b.spoke (pf r 0 63 55 / 8)).laneMask (pf r 0 63 55 % 8) = false → Completes (.laneReadmit dt r) s r []
         (modSpoke (pf r 0 63 55 / 8) (fun x => { x with readmit := setBit x.readmit (pf r 0 63 55 % 8) }) b)) ∧
       (bit (b.spoke (pf r 0 63 55 / 8)).laneMask (pf r 0 63 55 % 8) = true → Completes (.laneReadmit dt r) s r [] b)))

/-- SNAPSHOT, of this device or of the domain, and BW_WINDOW wait for their moment, COUNTER_READ answers at once. LOOPBACK: a start begins a
run, a stop ends it with its counts, a status shows them; the counts of depths 1 to 3 while they run are free values (assumption 4). -/
def Obligations.MeasurementCommandsRun : Prop :=
  (∀ (s : State) (dt : Time) (r : Req), let a := advance dt s; let b := taken r a
     (∀ T, Sent ⟨true, true, true, false, false⟩ 0x0901 r a → snapBusy b = false → snapTooSoon b r.mb = false →
       payloadBad r [2 ^ 64 - 1, 1] = none →
       T = (if pf r 0 63 0 = 0 then b.ft.count + 100 * us else pf r 0 63 0) → b.ft.count ≤ T → T ≤ b.ft.count + 10 * oneSec →
       let pends (far : List Nat) : State := { b with
         count.pending := some T, count.snapMb := some r.mb, count.snapFabric := pf r 1 0 0 == 1
         count.snapWait := b.dev :: far
         count.snapLatest := 0, count.snapStale := false, count.snapAt := T, count.snapReply := none }
       (pf r 1 0 0 = 0 → r.mb < 64 →
         Waits (.snapshot dt r) s r waitSnapshot (modPart r.mb (fun q => { q with lastSnap := some b.now }) (pends []))) ∧
       (pf r 1 0 0 = 0 → 64 ≤ r.mb → Waits (.snapshot dt r) s r waitSnapshot (pends [])) ∧
       (pf r 1 0 0 = 1 → r.mb = 64 ∨ r.mb = 65 → timeLocked b = true →
         Waits (.snapshot dt r) s r waitSnapshot
           (forAll (domainDevs b) (fun d => post (.mgmt d 0x0501 [T])) (pends (domainDevs b))))) ∧
     (Sent everyone 0x0903 r a → payloadBad r [2 ^ 64 - 2 ^ 32 + 65535] = none →
       1 ≤ pf r 0 15 0 → pf r 0 15 0 ≤ 500 → (∀ i < pf r 0 15 0, isCounter (pf r 0 63 32 + i) = true) →
       (r.mb < 64 → ∀ i < pf r 0 15 0, inView b r.mb (pf r 0 63 32 + i) = true) →
       Completes (.counterRead dt r) s r
         ((List.range (pf r 0 15 0)).map fun i => BitVec.ofNat 64 (counterFor b r.mb (pf r 0 63 32 + i))) b) ∧
     (∀ unit T, Sent ⟨true, true, true, false, false⟩ 0x0902 r a → tfree b.count.bw 0 8 = some unit →
       (r.mb < 64 → portEn b (pf r 0 63 57) = true ∧ portPart b (pf r 0 63 57) = r.mb) →
       (∀ e ∈ b.count.bw, e.2.port ≠ pf r 0 63 57) → payloadBad r [2 ^ 64 - 2 ^ 51 + (2 ^ 24 - 1), 2 ^ 64 - 1] = none →
       pf r 0 56 55 ≠ 3 → pf r 0 54 51 ≤ 10 → 1 ≤ pf r 0 23 0 → pf r 0 23 0 ≤ 10000000 → pf r 0 23 0 % 2 ^ pf r 0 54 51 = 0 →
       T = (if pf r 1 63 0 = 0 then (b.ft.count / us + 1) * us else pf r 1 63 0) → b.ft.count ≤ T →
       Waits (.bwWindow dt r) s r waitWindow { b with count.bw := tput b.count.bw unit {
         mb := r.mb, port := pf r 0 63 57, dir := pf r 0 56 55, subLog2 := pf r 0 54 51, winUs := pf r 0 23 0
         start := T, started := false, outBytes := [], inBytes := [] } })) ∧
  (∀ (s : State) (dt : Time) (r : Req), let a := advance dt s; let b := taken r a
     let d := pf r 0 63 61; let target := if d = 6 then rScopeId r else pf r 0 60 52
     Sent ⟨true, true, false, false, false⟩ 0x0C01 r a → (r.mb < 64 → d = 6) → (d ≤ 5 → holdsLock b r.mb 0 = true) → (d = 6 → rScope r = 2) →
     payloadBad r [2 ^ 64 - 2 ^ 46 + (2 ^ 32 - 1)] = none → loopTargetOk b r = true →
     (pf r 0 47 46 = 0 → loopBusy b r = false →
       (pf r 0 31 0 = 0 → Completes (.loopbackStart dt r) s r (loopAnswer 0 0 1) (startLoop r b)) ∧
       (pf r 0 31 0 ≠ 0 → Waits (.loopbackStart dt r) s r waitLoop (startLoop r b))) ∧
     (∀ l, findLoop b (d, target) = some l →
       (4 ≤ d ∨ l.state ≠ 1 →
         (pf r 0 47 46 = 1 → l.state = 1 →
           Completes (.loopbackStop dt r) s r (loopAnswer l.units l.errors 2) (endLoop d target l.units l.errors b)) ∧
         (pf r 0 47 46 = 1 → l.state ≠ 1 → Completes (.loopbackStop dt r) s r (loopAnswer l.units l.errors l.state) b) ∧
         (pf r 0 47 46 = 2 → Completes (.loopbackStatus dt r) s r (loopAnswer l.units l.errors l.state) b)) ∧
       (d ≤ 3 → l.state = 1 → let c : State := { b with freeCtr := b.freeCtr + 2 }
         ∃ units errors : Nat,
           (pf r 0 47 46 = 1 →
             Completes (.loopbackStop dt r) s r (loopAnswer units errors 2) (endLoop d target units errors c)) ∧
           (pf r 0 47 46 = 2 → Completes (.loopbackStatus dt r) s r (loopAnswer units errors 1) c))) ∧
     (findLoop b (d, target) = none →
       (pf r 0 47 46 = 1 → Completes (.loopbackStop dt r) s r (loopAnswer 0 0 0) b) ∧
       (pf r 0 47 46 = 2 → Completes (.loopbackStatus dt r) s r (loopAnswer 0 0 0) b)))

/-- FW_UPDATE's phases, under the device lock or in ROM recovery, where no lock is needed: WRITE and VERIFY wait for the flash and for the
checks, ACTIVATE seals the slot for the next reset or restarts the MC into it, DISCARD takes the seal away. A finished WRITE shows what the
slot holds; a finished VERIFY sets VERIFIED only for an image that passes. The running image's confirmation is written and its security
version fused, and without it the other slot is chosen after 10 s. -/
def Obligations.FirmwareIsWrittenVerifiedAndStarted : Prop :=
  (∀ (s : State) (dt : Time) (r : Req), let a := advance dt s; let b := taken r a
     (Sent operators 0x0D01 r a ∧ holdsLock b r.mb 0 = true) ∨ SentRom 0x0D01 r a → b.fw.busy = none → payloadBad r [2 ^ 64 - 2 ^ 58 + (2 ^ 32 - 1)] = none →
     (pf r 0 63 60 = 0 → pf r 0 31 0 % 4096 = 0 → pf r 0 31 0 + (rLen r - 8) ≤ 16777216 →
       Waits (.fwUpdateWrite dt r) s r waitFirmware (fwWrite r b)) ∧
     (pf r 0 63 60 = 1 → Waits (.fwUpdateVerify dt r) s r waitFirmware { b with fw.busy := some r.mb, fw.phase := 1 }) ∧
     (pf r 0 63 60 = 2 → b.fw.verified = true → commitUnderWay b = false →
       (pf r 0 59 58 = 0 → b.chip.romRecovery = false → let t : State := { sealFw b with fw.pending := true }
         Completes (.fwActivateAtReset dt r) s r (fwResponse t) t) ∧
       (pf r 0 59 58 = 1 → Waits (.fwActivateRestart dt r) s r waitFirmware
         (mcRestart 3 (modMb r.mb (fun m => { m with took := true }) (sealFw b))))) ∧
     (pf r 0 63 60 = 3 → Completes (.fwUpdateDiscard dt r) s r (fwResponse (unsealFw b)) (unsealFw b))) ∧
  (∀ (s : State) (dt : Time), let a := advance dt s
     (∀ m, a.fw.busy = some m → a.fw.phase = 0 →
       let t := putFwSlot (inactiveSlot a) (readFw (a.fwSlot (inactiveSlot a)).body) { a with fw.busy := none }
       Gives (.fwUpdateDone dt) s (finishWait m waitFirmware stOk true (fwResponse t) t)) ∧
     (∀ m, a.fw.busy = some m → a.fw.phase = 1 →
       (verifyStatus a (a.fwSlot (inactiveSlot a)) = stOk → let t : State := { a with fw.busy := none, fw.verified := true }
         Gives (.fwUpdateDone dt) s (finishWait m waitFirmware stOk true (fwResponse t) t)) ∧
       (verifyStatus a (a.fwSlot (inactiveSlot a)) = stDenied →
         Gives (.fwUpdateDone dt) s (finishWait m waitFirmware stDenied false [] { a with fw.busy := none, fw.verified := false })) ∧
       (verifyStatus a (a.fwSlot (inactiveSlot a)) = stInvalid →
         Gives (.fwUpdateDone dt) s (finishWait m waitFirmware stInvalid false [refusalQuad 0 0 0 0]
           { a with fw.busy := none, fw.verified := false }))) ∧
     (a.fw.busy = none → Gives (.fwUpdateDone dt) s a) ∧
     (mcRuns a = true → let c := sealFirst a; let f := c.fwSlot (!inactiveSlot c)
       Gives (.fwConfirmation dt) s (putFwSlot (!inactiveSlot c) { f with confirmed := true }
         { c with fw.firstStart := none, fw.restarts := 0, sec.svnFuses := burnSvn f.svn c.sec.svnFuses })) ∧
     (a.conf.sealing = false → sealFirst a = a) ∧
     (a.conf.sealing = true → mcRuns a = true → a.conf.write.isSome = true → (sealFirst a).conf.sealing = false) ∧
     (∀ t, a.fw.firstStart = some t → t + 10 * oneSec ≤ a.now →
       Gives (.fwConfirmTimeout dt) s { a with fw.fallback := true, fw.firstStart := none }) ∧
     (∀ t, a.fw.firstStart = some t → a.now < t + 10 * oneSec → Gives (.fwConfirmTimeout dt) s a) ∧
     (a.fw.firstStart = none → Gives (.fwConfirmTimeout dt) s a))

/-- ATTEST signs the report over the requester's nonce with the identity key. SPDM over a transport that exists: versions, capabilities,
algorithms, digests, certificates, challenge and measurements, signed or not; a request before the steps it needs is answered
UnexpectedRequest, one for what is not there InvalidRequest, and any while the MC does not serve Busy. -/
def Obligations.AttestationAndSpdmAnswer : Prop :=
  (∀ (s : State) (dt : Time) (r : Req), let a := advance dt s; let b := taken r a
     let rep := reportQuads b ((rPay r).take 4) (pf r 4 2 0); let full := 2 ^ 64 - 1
     Sent everyone 0x0D02 r a → payloadBad r [full, full, full, full, 7] = none → ((rPay r).take 4).all (· == 0) = false →
     Completes (.attest dt r) s r
       (rep ++ bytesToQuads (leBytes 2420 (Config.mldsaSign b.sec.idSeed (sha3 (rep.flatMap fun q => leBytes 8 q.toNat))))) b) ∧
  (∀ (s : State) (dt : Time) (t : Nat) (nonce : BitVec 256) (o1 o2 : Bool) (slot offset n i : Nat) (sg : Bool), let a := advance dt s
     let requests := [(0, Instr.getVersion dt t), (1, .getCapabilities dt t), (2, .negotiateAlgorithms dt t o1 o2), (3, .getDigests dt t),
       (3, .getCertificate dt t slot offset n), (3, .challenge dt t slot nonce), (3, .getMeasurements dt t i sg nonce)]
     let wrong : State := emit (.spdm t 0x7F [1] 0) a
     let fresh : State := { a with freeCtr := a.freeCtr + 1 }
     let signs (code : Nat) (own : Nat) (body : List Nat) : State := emit (.spdm t code (own :: body) (Config.mldsaSign a.sec.idSeed
       (sha3 (leBytes 32 nonce.toNat ++ leBytes 32 own ++ body.flatMap (leBytes 32))))) fresh
     coreRuns a = true → spdmTransport a t = true →
     (a.mgmt.serving = false ∨ a.chip.romRecovery = true → ∀ q ∈ requests, Gives q.2 s (emit (.spdm t 0x7F [3] 0) a)) ∧
     (a.mgmt.serving = true → a.chip.romRecovery = false →
       (∀ q ∈ requests, spdmState a t < q.1 → Gives q.2 s (emit (.spdm t 0x7F [4] 0) a)) ∧
       Gives (.getVersion dt t) s (emit (.spdm t 0x04 [0x12] 0) { a with sec.spdm := tset 0 a.sec.spdm t 1 }) ∧
       (1 ≤ spdmState a t →
         Gives (.getCapabilities dt t) s (emit (.spdm t 0x61 [0x16] 0) { a with sec.spdm := tset 0 a.sec.spdm t 2 })) ∧
       (2 ≤ spdmState a t → Gives (.negotiateAlgorithms dt t o1 o2) s
         (if o1 && o2 then emit (.spdm t 0x63 [256, 61207, 1] 0) { a with sec.spdm := tset 0 a.sec.spdm t 3 } else wrong)) ∧
       (3 ≤ spdmState a t →
         Gives (.getDigests dt t) s (emit (.spdm t 0x01 [1, certDigest.toNat] 0) a) ∧
         (slot = 0 → offset ≤ Config.certChain.length → let part := (Config.certChain.drop offset).take n
           Gives (.getCertificate dt t slot offset n) s (emit (.spdm t 0x02
             ([0, part.length, Config.certChain.length - offset - part.length] ++ part.map (·.toNat)) 0) a)) ∧
         (slot ≠ 0 ∨ Config.certChain.length < offset → Gives (.getCertificate dt t slot offset n) s wrong) ∧
         (slot = 0 → ∃ own : Nat, own < 2 ^ 256 ∧ Gives (.challenge dt t slot nonce) s (signs 0x03 own [certDigest.toNat])) ∧
         (slot ≠ 0 → Gives (.challenge dt t slot nonce) s wrong) ∧
         (∀ blocks, (i, blocks) ∈ [(0, [3]), (1, measBlock a 1), (2, measBlock a 2), (3, measBlock a 3),
             (255, measBlock a 1 ++ measBlock a 2 ++ measBlock a 3)] →
           (sg = false → Gives (.getMeasurements dt t i sg nonce) s (emit (.spdm t 0x60 blocks 0) a)) ∧
           (sg = true → ∃ own : Nat, own < 2 ^ 256 ∧ Gives (.getMeasurements dt t i sg nonce) s (signs 0x60 own blocks))) ∧
         (3 < i → i ≠ 255 → Gives (.getMeasurements dt t i sg nonce) s wrong))))

/-- DEBUG_TOKEN at the debug mailbox: a nonce, a token that meets every condition, and its revocation. A token's time ends it. Debug reads
need its grants: a memory's side port that is open, a counter's own value, and memory behind a port that the tables allow; every other is
denied. What a memory read returns is a free value (assumption 4). -/
def Obligations.DebugTokensAndAccesses : Prop :=
  (∀ (s : State) (dt : Time) (r : Req), let a := advance dt s; let b := taken r a
     Ready r a → rOp r = 0x0D03 → r.mb = 66 → payloadBad r [2 ^ 64 - 2 ^ 60] = none →
     (pf r 0 63 60 = 0 → ∃ n : Nat, n < 2 ^ 256 ∧
       Completes (.debugTokenNonce dt r) s r (quads256 (BitVec.ofNat 256 n))
         { b with sec.nonce := some (n, b.now), freeCtr := b.freeCtr + 1 }) ∧
     (pf r 0 63 60 = 1 → rLen r = 2556 → let k := tokenOf r
       if tokenAccepted b r k then Completes (.debugTokenSubmit dt r k) s r []
         { b with sec.nonce := none, sec.token := some (k.id, k.grants, k.signer, b.now + k.life * oneSec) }
       else Gives (.debugTokenSubmit dt r k) s (finish 66 stDenied false [] (debugDenied k.id 0 { b with sec.nonce := none }))) ∧
     (pf r 0 63 60 = 2 → Completes (.debugTokenRevoke dt r) s r [] { b with sec.token := none })) ∧
  (∀ (s : State) (dt : Time), let a := advance dt s
     (∀ i g k ends, a.sec.token = some (i, g, k, ends) → ends ≤ a.now → Gives (.debugTokenExpiry dt) s { a with sec.token := none }) ∧
     (∀ i g k ends, a.sec.token = some (i, g, k, ends) → a.now < ends → Gives (.debugTokenExpiry dt) s a) ∧
     (a.sec.token = none → Gives (.debugTokenExpiry dt) s a) ∧
     (∀ id, bit (tokenGrants a) 3 = true → sidePortOpen a (.counterBank id) = true →
       Gives (.debugAccess dt (.sidePort (.counterBank id))) s
         (emit (.debugResponse false [if a.count.invalid.contains id then 2 ^ 64 - 1 else tget 0 a.count.live id]) a)) ∧
     (∀ k, okBank k = true → bit (tokenGrants a) 3 = true → sidePortOpen a k = true → (∀ id, k ≠ .counterBank id) →
       ∃ v : Nat, Gives (.debugAccess dt (.sidePort k)) s (emit (.debugResponse false [v]) { a with freeCtr := a.freeCtr + 1 })) ∧
     (∀ k, okBank k = true → bit (tokenGrants a) 3 = false ∨ sidePortOpen a k = false →
       Gives (.debugAccess dt (.sidePort k)) s (denyDebug 0 false a)) ∧
     (∀ port table lo len write, port < 128 → table < 2 →
       let granted := bit (tokenGrants a) (if write then 2 else 1)
       let sent : State := if (a.port port).up then
         emit (.tlp port { kind := if write then .memWrite else .memRead, addr := lo, len := len }) a else a
       (granted = false → Gives (.debugAccess dt (.memory port table lo len write)) s (denyDebug port write a)) ∧
       (∀ i, granted = true → debugStop a port table lo len write = some i →
         Gives (.debugAccess dt (.memory port table lo len write)) s (denyDebug port write (count1 (cAct port table i) a))) ∧
       (granted = true → debugStop a port table lo len write = none →
         (write = true → Gives (.debugAccess dt (.memory port table lo len write)) s (emit (.debugResponse false []) sent)) ∧
         (write = false → ∃ v : Nat, Gives (.debugAccess dt (.memory port table lo len write)) s
           (emit (.debugResponse false [v]) { sent with freeCtr := a.freeCtr + 1 })))))

/-- RESHIM of both modes while no run is in progress and governor stage 2 does not hold it, POWER_CAP, PLANER_SET and TANDEM_SET. The slowdown
that a run finds is a free value (assumption 4). -/
def Obligations.EnduranceCommandsRun : Prop :=
  ∀ (s : State) (dt : Time) (r : Req), let a := advance dt s; let b := taken r a
    (Sent operators 0x0B02 r a → holdsLock b r.mb 0 = true → b.aging.running = false → effStage b < 2 →
      (pf r 0 0 0 = 0 → payloadBad r [1] = none →
        ∃ slow : Nat, slow < 256 ∧ Completes (.reshimRun dt r) s r [] (startReshim slow { b with freeCtr := b.freeCtr + 1 })) ∧
      (pf r 0 0 0 = 1 → payloadBad r [1, 2 ^ 60 - 2 ^ 32] = none → pf r 1 58 48 ≠ 0 →
        Completes (.reshimPolicy dt r) s r [] (saveWear { b with
          aging.allowStep := pf r 1 59 59 == 1, aging.intervalD := pf r 1 58 48, aging.noticeS := pf r 1 47 32 }))) ∧
    (Sent operators 0x0B04 r a → payloadBad r [2 ^ 32 - 2 ^ 12] = none → 1 ≤ pf r 0 22 13 → pf r 0 22 13 ≤ 1000 →
      pf r 0 31 23 = 0 ∨ (150 ≤ pf r 0 31 23 ∧ pf r 0 31 23 ≤ 385) →
      Completes (.powerCap dt r) s r [] (setPower (fun w => { w with
        capW := pf r 0 31 23, winMs := pf r 0 22 13
        capStage := if pf r 0 31 23 = 0 then 0 else w.capStage }) b)) ∧
    (Sent operators 0x0B05 r a → holdsLock b r.mb 0 = true → payloadBad r [2 ^ 63 + (2 ^ 48 - 2 ^ 34)] = none →
      1 ≤ pf r 0 47 34 → pf r 0 47 34 ≤ 10000 →
      Completes (.planerSet dt r) s r []
        (saveWear { b with aging.planerEn := pf r 0 63 63 == 1, aging.paceMs := pf r 0 47 34 })) ∧
    (Sent operators 0x0E04 r a → holdsLock b r.mb 0 = true → payloadBad r [2 ^ 64 - 2 ^ 56, 2 ^ 40 - 1] = none →
      pf r 0 63 62 ≠ 3 → (pf r 0 63 62 ≠ 2 → pf r 0 61 56 ≠ b.dev) → popcount (pf r 1 39 0) 40 ≤ 8 →
      Completes (.tandemSet dt r) s r [] (takeRole (pf r 0 63 62) (pf r 0 61 56) (onesBelow (pf r 1 39 0) 40) b))

/-- A submit in IDLE or DONE makes the mailbox BUSY with the header's tag, and while the MC does not serve completes it RESTARTING; in BUSY
it is ignored and counted, or answered BUSY at mailboxes 64 and 65. An acknowledge takes DONE to IDLE. MAILBOX_ACCEPT takes the command
submitted first, by fabric time and then by mailbox, and runs it; for a payload in host memory it first issues the reads that fetch it, and
a denied one completes the command DENIED. A write stands in the window or the buffer; one that collides with a write from the other side is
lost and counted; one made while the command waits or runs marks the command. -/
def Obligations.MailboxesTakeCommands : Prop :=
  (∀ (s : State) (dt : Time) (mb : Nat), let a := advance dt s; let m := a.mb mb
     mb < 67 →
     (m.state ≠ 1 → a.mgmt.serving = true →
       Gives (.mbDoorbellSubmit dt mb) s (modMb mb (fun m => { m with
         state := 1, seq := rSeq (windowReq a mb), executed := false, status := 0, respLen := 0, submittedAt := some a.ft.count
         current := none, waiting := 0, took := false, owed := false, dirty := false, dirtyLate := false }) a)) ∧
     (m.state ≠ 1 → a.mgmt.serving = false →
       Gives (.mbDoorbellSubmit dt mb) s (finishRestarting mb (modMb mb (fun m => { m with
         state := 1, seq := rSeq (windowReq a mb), executed := false, status := 0, respLen := 0, submittedAt := some a.ft.count
         current := none, waiting := 0, took := false, owed := false, dirty := false, dirtyLate := false }) a))) ∧
     (m.state = 1 → let busy (seq : Nat) := answerHeader a (rOp (windowReq a mb)) seq stBusy false 0
       (mb < 64 ∨ mb = 66 →
         let ignored := count1 (cDev cdIgnored) (modMb mb (fun m => { m with ignored := sat32 (m.ignored + 1) }) a)
         Gives (.mbDoorbellSubmit dt mb) s ignored ∧ Gives (.mbDoorbellAcknowledge dt mb) s ignored) ∧
       (mb = 64 → Gives (.mbDoorbellSubmit dt mb) s (emit (.mctpResponse (rSeq (windowReq a mb)) stBusy false (busy (rSeq (windowReq a mb)))) a) ∧
         Gives (.mbDoorbellAcknowledge dt mb) s (emit (.mctpResponse m.seq stBusy false (busy m.seq)) a)) ∧
       (mb = 65 →
         Gives (.mbDoorbellSubmit dt mb) s (tandemParts 0x0204 (rSeq (windowReq a mb)) (busy (rSeq (windowReq a mb))) a) ∧
         Gives (.mbDoorbellAcknowledge dt mb) s (tandemParts 0x0204 m.seq (busy m.seq) a))) ∧
     (m.state = 2 → Gives (.mbDoorbellAcknowledge dt mb) s
       (modMb mb (fun m => { m with state := 0, status := 0, executed := false, seq := 0, respLen := 0 }) a)) ∧
     (m.state = 0 → Gives (.mbDoorbellAcknowledge dt mb) s a) ∧
     (m.state ≠ 1 → a.mgmt.serving = true → ∃ t : State, Gives (.mbDoorbellSubmit dt mb) s t ∧ (t.mb mb).state = 1 ∧
       (t.mb mb).seq = rSeq (windowReq a mb) ∧ (t.mb mb).submittedAt = some a.ft.count ∧ (t.mb mb).window = m.window ∧
       ∀ k, k ≠ mb → t.mb k = a.mb k) ∧
     (m.state = 2 → ∃ t : State, Gives (.mbDoorbellAcknowledge dt mb) s t ∧ (t.mb mb).state = 0 ∧ (t.mb mb).status = 0 ∧
       (t.mb mb).window = m.window ∧ ∀ k, k ≠ mb → t.mb k = a.mb k)) ∧
  (∀ (s : State) (dt : Time), let a := advance dt s
     (∀ t mb, let r := { waitingReq a mb with mb := mb }
       let fetches := mustFetch r (a.mb mb) && (handlerOf (rOp r)).isSome
       a.mgmt.serving = true → mcHeld a = false →
       (t, mb) ∈ submits a → (∀ x ∈ submits a, t < x.1 ∨ (t = x.1 ∧ mb ≤ x.2)) →
       (romAllows a r = false → Gives (.mailboxAccept dt) s (finishRestarting mb a)) ∧
       (romAllows a r = true → fetches = true →
         let f : State := modMb mb (fun m => { lodge r m with
           state := 1, seq := rSeq r, executed := false, status := 0, respLen := 0, submittedAt := none, waiting := waitDma
           current := some r, took := false, owed := false }) a
         let g := issueReads mb (fetchReads f r) f
         Gives (.mailboxAccept dt) s (if fetchDenied f r then finish mb stDenied false [] g else g)) ∧
       (romAllows a r = true → fetches = false → Gives (.mailboxAccept dt) s (accept anyCommand r a) ∧
         (∀ (body : Handler) (u : State), handlerOf (rOp r) = some body → (a.mb mb).dirty = false → r.dma = .ok →
           (∀ st ex pay, body r (taken r a) = (.done st ex pay, u) → ∃ x : State, Gives (.mailboxAccept dt) s x ∧
             x = finish mb st ex pay u) ∧
           (∀ why, body r (taken r a) = (.waits why, u) → ∃ x : State, Gives (.mailboxAccept dt) s x ∧
             x = modMb mb (fun m => if m.state = 1 then { m with waiting := why } else m) u)) ∧
         (handlerOf (rOp r) = none → (a.mb mb).dirty = false → r.dma = .ok → ∃ x : State, Gives (.mailboxAccept dt) s x ∧
           (x.mb mb).state = 2 ∧ (x.mb mb).submittedAt = none ∧
           (x.mb mb).status = (if (a.mb mb).dirtyLate then stConflict else stInvalid)))) ∧
     (a.mgmt.serving = false ∨ mcHeld a = true ∨ submits a = [] → Gives (.mailboxAccept dt) s a)) ∧
  (∀ (s : State) (dt : Time) (mb offset : Nat) (v : Word64) (collides buffer : Bool), let a := advance dt s
     let noted : State := modMb mb (fun m => if m.state = 1 then
       if m.submittedAt.isSome || (buffer && collides && m.waiting == waitDma) then { m with dirty := true }
       else if buffer then m else { m with dirtyLate := true } else m) a
     let lost : State := modMb mb (fun m => { m with lostWrite := true, lost := sat32 (m.lost + 1) }) noted
     mb < 67 → (buffer = false → offset < 4032) → (buffer = true → offset < bufBytes mb) →
     (collides = false → buffer = false → Gives (.mailboxWindowWrite dt mb offset v collides buffer) s
       (modMb mb (fun m => { m with window := tset 0 m.window (offset / 8) v }) noted)) ∧
     (collides = false → buffer = true → Gives (.mailboxWindowWrite dt mb offset v collides buffer) s
       (modMb mb (fun m => { m with buf := tset 0 m.buf (offset / 8) v }) noted)) ∧
     (collides = true → mb < 64 → Gives (.mailboxWindowWrite dt mb offset v collides buffer) s (raiseCause mb 3 lost)) ∧
     (collides = true → 64 ≤ mb → Gives (.mailboxWindowWrite dt mb offset v collides buffer) s lost) ∧
     (collides = false → ∃ t : State, Gives (.mailboxWindowWrite dt mb offset v collides buffer) s t ∧
       (∀ k, tget 0 (t.mb mb).window k = if buffer = false ∧ k = offset / 8 then v else tget 0 (a.mb mb).window k) ∧
       (∀ k, tget 0 (t.mb mb).buf k = if buffer = true ∧ k = offset / 8 then v else tget 0 (a.mb mb).buf k) ∧
       ∀ k, k ≠ mb → t.mb k = a.mb k)) ∧
  (∀ (s : State) (dt : Time) (mb offset : Nat) (v : Word64) (collides : Bool),
     (4032 ≤ offset → Gives (.mailboxWindowWrite dt mb offset v collides false) s (advance dt s)) ∧
     (bufBytes mb ≤ offset → Gives (.mailboxWindowWrite dt mb offset v collides true) s (advance dt s)))

/-- Commands arrive by MCTP at mailbox 64, sent to its address as vendor-defined messages of the part's IANA number, and by debug frames at
mailbox 66; a second one at mailbox 64 is answered BUSY, at mailbox 66 ignored and counted. A payload fetch that host memory does not answer
ends TIMEOUT, and 1 ms without the tandem link ends mailbox 65's locks. The out-of-band endpoint: control messages, its dynamic address, the
alert response and the repeated In-Band Interrupt. -/
def Obligations.OtherEndpointsOfTheMailboxes : Prop :=
  (∀ (s : State) (dt : Time) (r : Req), let a := advance dt s
     let busy := answerHeader a (rOp r) (rSeq r) stBusy false 0
     let taking (mb : Nat) : State := modMb mb (fun m => { lodge { r with mb := mb } m with
       state := 1, seq := rSeq r, executed := false, status := 0, respLen := 0, submittedAt := some a.ft.count
       current := some { r with mb := mb }, waiting := 0, took := false, owed := false, dirty := false, dirtyLate := false }) a
     r.mb < 67 →
     (oobTakes a r.mctp = false → Gives (.oobMctpMessage dt r) s a) ∧
     (oobTakes a r.mctp = true → (a.mb 64).state ≠ 1 → Gives (.oobMctpMessage dt r) s (if a.mgmt.serving then taking 64 else finishRestarting 64 (taking 64))) ∧
     (oobTakes a r.mctp = true → (a.mb 64).state = 1 →
       Gives (.oobMctpMessage dt r) s (emit (.mctpResponse (rSeq r) stBusy false busy) a)) ∧
     ((a.mb 66).state ≠ 1 → Gives (.debugMailboxFrame dt r) s (if a.mgmt.serving then taking 66 else finishRestarting 66 (taking 66))) ∧
     ((a.mb 66).state = 1 → Gives (.debugMailboxFrame dt r) s
       (count1 (cDev cdIgnored) (modMb 66 (fun m => { m with ignored := sat32 (m.ignored + 1) }) a))) ∧
     ((a.mb r.mb).waiting = waitDma → Gives (.mailboxDmaTimeout dt r.mb) s (finish r.mb stTimeout false [] a)) ∧
     ((a.mb r.mb).waiting ≠ waitDma → Gives (.mailboxDmaTimeout dt r.mb) s a) ∧
     (∀ t, a.tandem.linkDownAt = some t → t + ms ≤ a.now → tandemLinkUp a = false →
       let c := removeRequester 65 { a with tandem.linkDownAt := none }
       Gives (.tandemLinkLossTimeout dt) s (if (c.mb 65).waiting = waitLock then finish 65 stNoLock false [] c else c)) ∧
     (∀ t, a.tandem.linkDownAt = some t → a.now < t + ms ∨ tandemLinkUp a = true → Gives (.tandemLinkLossTimeout dt) s a) ∧
     (a.tandem.linkDownAt = none → Gives (.tandemLinkLossTimeout dt) s a)) ∧
  (∀ (s : State) (dt : Time), let a := advance dt s
     (∀ eid, eid < 256 → Gives (.mctpControlMessage dt 1 eid) s (emit (.mctpControl 1 eid) { a with mgmt.oob.eid := eid })) ∧
     (∀ n, let m := if a.mgmt.oob.dynAddr.isSome then max 64 (min 256 n) else 64
       Gives (.mctpControlMessage dt 5 n) s (emit (.mctpControl 5 m) { a with mgmt.oob.mtu := m })) ∧
     (∀ c n, c ≠ 1 → c ≠ 5 → Gives (.mctpControlMessage dt c n) s (emit (.mctpControl c a.mgmt.oob.eid) a)) ∧
     (∀ x, x < 128 → alertsPending a = false → Gives (.i3cDynamicAddress dt x) s { a with mgmt.oob.dynAddr := some x }) ∧
     (∀ x, x < 128 → alertsPending a = true → Gives (.i3cDynamicAddress dt x) s
       (emit (.ibi 1) { a with mgmt.oob.dynAddr := some x, mgmt.oob.lastIbi := a.now })) ∧
     (a.mgmt.oob.dynAddr = none → a.mgmt.oob.alertLow = true →
       Gives (.alertResponseAddress dt) s (emit (.smbusAddress (0x58 + a.chip.addrsel)) a)) ∧
     (a.mgmt.oob.dynAddr ≠ none ∨ a.mgmt.oob.alertLow = false → Gives (.alertResponseAddress dt) s a) ∧
     (a.mgmt.oob.dynAddr = none ∨ alertsPending a = false ∨ a.now < a.mgmt.oob.lastIbi + 100 * ms → Gives (.ibiRepeat dt) s a) ∧
     (∀ x, a.mgmt.oob.dynAddr = some x → alertsPending a = true → a.mgmt.oob.lastIbi + 100 * ms ≤ a.now →
       Gives (.ibiRepeat dt) s (emit (.ibi 1) { a with mgmt.oob.lastIbi := a.now })))

/-- ERR_HEAD takes only a value in ring order from ERR_HEAD to ERR_TAIL; reads of ERR_LOST, LOST_COUNT and IGN_COUNT return and clear them,
and a read of any other register changes nothing. Registers of the BARs: a write of INT_STATUS or INT_MASK acts as the interrupt block says,
an INT_VEC byte keeps 6 bits, and a ring's base registers change only in STATE 0. -/
def Obligations.RingAndBarRegistersWork : Prop :=
  (∀ (s : State) (dt : Time) (p v : Nat), let a := advance dt s; let q := a.part p
     p < 64 → v < 256 →
     (modDist 256 v q.errHead ≤ modDist 256 q.errTail q.errHead →
       Gives (.errHeadWrite dt p v) s (modPart p (fun q => { q with
         errHead := v, ring := tkeep q.ring fun i _ => decide (modDist 256 v q.errHead ≤ modDist 256 i q.errHead) }) a)) ∧
     (modDist 256 q.errTail q.errHead < modDist 256 v q.errHead → Gives (.errHeadWrite dt p v) s (modPart p id a)) ∧
     (partHome a p = a.dev → partEn a p = true → (a.mb p).lost < 2 ^ 32 → (a.mb p).ignored < 2 ^ 32 → q.errTail < 2 ^ 32 →
       q.errHead < 2 ^ 32 → q.errLost < 2 ^ 32 →
       let reads (o v : Nat) : State := emit (.regRead p none o v) a
       Gives (.rcRegisterRead dt p none 0x3008 32) s (modPart p (fun q => { q with errLost := 0 }) (reads 0x3008 q.errLost)) ∧
       Gives (.rcRegisterRead dt p none 0x1010 32) s (modMb p (fun m => { m with lost := 0 }) (reads 0x1010 (a.mb p).lost)) ∧
       Gives (.rcRegisterRead dt p none 0x1014 32) s (modMb p (fun m => { m with ignored := 0 }) (reads 0x1014 (a.mb p).ignored)) ∧
       (∀ x ∈ [(0x000, 64, ((identityQuads a p).getD 0 0).toNat), (0x1000, 32, 0), (0x1008, 64, mbStatus (a.mb p)),
           (0x2000, 32, q.intStatus.toNat), (0x2004, 32, q.intMask.toNat), (0x3000, 32, q.errTail), (0x3004, 32, q.errHead),
           (0x1040, 64, (tget 0 (a.mb p).window 0).toNat)],
         Gives (.rcRegisterRead dt p none x.1 x.2.1) s (reads x.1 x.2.2)) ∧
       (∀ o width, (width = 32 → o ∉ [0x1010, 0x1014, 0x3008]) →
         Gives (.rcRegisterRead dt p none o width) s (reads o (readReg0 a p o width))) ∧
       (∀ f, f < 576 → funcPart a f = p → (512 ≤ f ∨ vfEn a f = true) →
         Gives (.rcRegisterRead dt p (some f) 0x100 64) s (emit (.regRead p (some f) 0x100 (a.func f).sqBase.toNat) a) ∧
         Gives (.rcRegisterRead dt p (some f) 0x108 64) s (emit (.regRead p (some f) 0x108 (a.func f).cqBase.toNat) a) ∧
         ∀ o width, Gives (.rcRegisterRead dt p (some f) o width) s (emit (.regRead p (some f) o (readRegF a f o width)) a))) ∧
     (partHome a p ≠ a.dev ∨ partEn a p = false → ∀ func o width, (∀ f, func = some f → f < 576) →
       Gives (.rcRegisterRead dt p func o width) s a)) ∧
  (∀ (s : State) (dt : Time) (p : Nat) (v : Word64), let a := advance dt s
     p < 64 → partHome a p = a.dev → partEn a p = true →
     Gives (.registerWrite dt p none 0x2000 32 v) s
       (updateLevel p (modPart p (fun q => { q with intStatus := q.intStatus &&& ~~~ (v.setWidth 32) }) a)) ∧
     (∀ i, i % 4 = 0 → i < 32 →
       Gives (.registerWrite dt p none (0x2040 + i) 32 v) s (forAll [0, 1, 2, 3] (fun j => modPart p (fun q => { q with
         vectors := tput q.vectors (i + j) (qf v (8 * j + 5) (8 * j)) })) a)) ∧
     Gives (.registerWrite dt p none 0x2004 32 v) s (writeMask p (v.setWidth 32) a) ∧
     Gives (.registerWrite dt p none 0x3004 32 v) s (writeErrHead p (v.toNat % 2 ^ 32) a) ∧
     Gives (.registerWrite dt p none 0x1000 32 1) s (submit p (rOp (windowReq a p)) (rSeq (windowReq a p)) none a) ∧
     Gives (.registerWrite dt p none 0x1000 32 2) s (acknowledge p a) ∧
     Gives (.registerWrite dt p none 0x1008 64 v) s (modMb p (fun m => { m with
       lostWrite := m.lostWrite && !v.getLsbD 60, restarted := m.restarted && !v.getLsbD 59 }) a) ∧
     (∀ f, f < 576 → funcPart a f = p → (512 ≤ f ∨ vfEn a f = true) →
       Gives (.registerWrite dt p (some f) 0x000 64 v) s (sqDoorbell f v a) ∧
       Gives (.registerWrite dt p (some f) 0x008 64 v) s (cqDoorbell f v a) ∧
       ((a.func f).state = 0 →
         Gives (.registerWrite dt p (some f) 0x100 64 v) s (modFunc f (fun q => { q with sqBase := v &&& ~~~ 0xFFF }) a) ∧
         Gives (.registerWrite dt p (some f) 0x108 64 v) s (modFunc f (fun q => { q with cqBase := v &&& ~~~ 0xFFF }) a)) ∧
       ((a.func f).state ≠ 0 → Gives (.registerWrite dt p (some f) 0x100 64 v) s a ∧
         Gives (.registerWrite dt p (some f) 0x108 64 v) s a) ∧
       (v.getLsbD 31 = true → Gives (.registerWrite dt p (some f) 0x110 32 v) s (ringEnable f (qf v 3 0) (qf v 11 8) a))) ∧
     (∀ offset, ¬ within 0x1000 0x3007 offset → ¬ within 0x10000 0x103FF offset → Gives (.registerWrite dt p none offset 32 v) s a))

/-- PROVISIONING programs the owner's fuses together, once, and only under a token that verifies; the private test instructions need an
unowned part and a provisioning token. The boundary scan instructions: what each puts in force, and the bits it shows. -/
def Obligations.ProvisioningTestAndScan : Prop :=
  (∀ (s : State) (dt : Time) (h : BitVec 256) (sg d m : Bool) (key sig : Nat), let a := advance dt s
     let policy := pack [(6, 6, b2n sg), (5, 5, b2n d), (4, 4, b2n m)]
     corePowered a = true →
     (a.sec.ownerSet = false → h ≠ 0 →
       Gives (.provisioning dt h sg d m key sig) s (if Config.mldsaVerify 2 (provDigest a h policy) sig then { a with
         sec.ownerSet := true, sec.ownerHash := h, sec.reqSigned := sg, sec.debugOff := d, sec.malweodOff := m
         sec.ownerKey := key % 2 ^ 10496, sec.provToken := true } else a)) ∧
     (a.sec.ownerSet = true → Gives (.provisioning dt h sg d m key sig) s a ∧ Gives (.scanEntry dt) s a ∧
       ∀ pass n, Gives (.memoryBist dt pass n) s a) ∧
     (a.sec.ownerSet = false → a.sec.provToken = true →
       Gives (.scanEntry dt) s { coldCore (stopCad a) with sec.scan := true, sec.seedLocked := true } ∧
       ∀ pass n, n ≤ 65535 → Gives (.memoryBist dt pass n) s { a with count.bistPass := pass, count.bistSingle := n })) ∧
  (∀ (s : State) (dt : Time), let a := advance dt s
     let shows (n : Nat) (bs : List Bool) : State := emit (.tap n bs) { a with count.tapInstr := n }
     Gives (.extest dt) s (shows 0 a.count.boundary) ∧ Gives (.clamp dt) s (shows 4 a.count.boundary) ∧
     Gives (.extestPulse dt) s (shows 6 a.count.boundary) ∧ Gives (.extestTrain dt) s (shows 7 a.count.boundary) ∧
     Gives (.highz dt) s (shows 5 []) ∧ Gives (.bypass dt) s (shows 3 (List.replicate 6 false)) ∧
     (∀ pre : List Bool, ∃ seen : List Bool, seen.length = pre.length ∧ Gives (.samplePreload dt pre) s
       (emit (.tap 1 seen) { a with count.boundary := pre, count.tapInstr := 1, freeCtr := a.freeCtr + 1 })) ∧
     (∃ bits : List Bool, bits.length = 32 ∧ bits[0]? = some true ∧ (∀ i < 16, bits[12 + i]? = some (bit 0x0320 i)) ∧
       (∀ i < 4, bits[28 + i]? = some (bit 0xB i)) ∧ Gives (.idcode dt) s (shows 2 bits)))

/-- BOOT_COMPLETE starts the chosen image and brings the configuration into force, or leaves the MC in ROM recovery; MC_RESTART_DONE lets the
MC serve again. An MC restart completes the BUSY commands, stops serving and is counted; the datapath keeps its frames and the
configuration its entries. -/
def Obligations.BootAndMcRestart : Prop :=
  (∀ (s : State) (dt : Time), let a := advance dt s
     (canBoot a = true →
       (∀ b, chooseFw (bootRom a) = some b →
         let u := bootMaster (reportTrip (loadWearStore (startFw b (bootRom a))))
         let v := bootConfig { u with chip.booting := false, chip.romRecovery := false, chip.coldBoot := false, mgmt.serving := true }
         ∃ t : State, Gives (.bootComplete dt) s t ∧ t = restoreAlert (forAll (homeParts v) bootPart v) ∧
           u.fw.running = b2n b ∧ u.sec.mFw = (a.fwSlot b).digest ∧ u.sec.mFuse = sha3 (fuseBytes a) ∧ u.sec.keyLoaded = true ∧
           u.sec.seedLocked = true ∧ u.chip.devnum = a.chip.straps.devnum ∧ u.ft.master = (u.tandem.role != 1) ∧
           u.slot.tripFlag = false) ∧
       (chooseFw (bootRom a) = none → ∃ t : State, Gives (.bootComplete dt) s t ∧
         t = { bootRom a with chip.romRecovery := true, mgmt.serving := true } ∧ t.chip.booting = true)) ∧
     (canBoot a = false → Gives (.bootComplete dt) s a) ∧
     (a.mgmt.restartAt = none ∨ corePowered a = false ∨ inDeviceReset a = true → Gives (.mcRestartDone dt) s a) ∧
     (∀ t, a.mgmt.restartAt = some t → corePowered a = true → inDeviceReset a = false →
       chooseFw a = none → Gives (.mcRestartDone dt) s
         { journal a with mgmt.restartAt := none, chip.romRecovery := true, mgmt.serving := true }) ∧
     (∀ t b, a.mgmt.restartAt = some t → corePowered a = true → inDeviceReset a = false → chooseFw a = some b →
       ∃ x : State, Gives (.mcRestartDone dt) s x ∧ x.mgmt.serving = !a.chip.booting ∧ x.mgmt.restartAt = none ∧
         x.fw.running = b2n b ∧ x.sec.mFw = (a.fwSlot b).digest ∧ x.chip.romRecovery = false)) ∧
  (∀ (s : State) (dt : Time), let a := advance dt s
     (mcRuns a = true → ∃ t : State, Gives (.watchdogExpiry dt) s t ∧ t = mcRestart 1 a ∧ t.mgmt.serving = false ∧
       t.mgmt.restartAt = some a.now ∧ t.mgmt.restartCause = 1) ∧
     (mcRuns a = true → ∃ t : State, Gives (.firmwareRestartRequest dt) s t ∧ t = mcRestart 2 a ∧ t.mgmt.serving = false ∧
       t.mgmt.restartAt = some a.now ∧ t.mgmt.restartCause = 2) ∧
     (mcRuns a = true → ∀ cause, cause ∈ [1, 2, 3] → let t := mcRestart cause a
       t.mgmt.serving = false ∧ (∀ m, (a.mb m).state = 1 → (t.mb m).state = 2) ∧ t.mgmt.restartAt = some a.now ∧ t.mgmt.restartCause = cause ∧
       t.hub.frames = a.hub.frames ∧ t.conf.entries = a.conf.entries ∧
       tget 0 t.count.live (cDev cdRestarts) = (tget 0 a.count.live (cDev cdRestarts) + 1) % 2 ^ 64) ∧
     (mcRuns a = false → Gives (.watchdogExpiry dt) s a ∧ Gives (.firmwareRestartRequest dt) s a))

/-- RESET_N clears the core side to its reset values and keeps the log, the counters, the coefficient store, the slot die's channels, the
fuses and the wear ledger; the command forms do the same and last 10 µs; the reset ends when neither form holds it. Power-on and a dip of
the core rails clear the core side, the counters and the log as well, and the rails' return starts boot. A thermal trip clears the core
and sets the slot die's trip flag. -/
def Obligations.ResetsAndPowerClearTheCore : Prop :=
  (∀ (s : State) (dt : Time), let a := advance dt s
     (resetBegins a = true → ∃ t : State,
       Gives (.resetNAssert dt) s { t with chip.resetPin := true } ∧
       Gives (.i3cTargetReset dt) s { t with chip.resetUntil := some (a.now + 10 * us) } ∧
       (a.errs.c4 = true → rb (a.cfg 0x58 0 0) 31 = true → a.errs.c4At + 10 * ms ≤ a.now →
         Gives (.fatalAutoReset dt) s { t with chip.resetUntil := some (a.now + 10 * us) }) ∧
       t.errs.log = a.errs.log ∧ t.errs.seq = a.errs.seq ∧ t.count.live = a.count.live ∧ t.count.snap = a.count.snap ∧
       t.lanes.store = a.lanes.store ∧ t.slot.chan = a.slot.chan ∧ t.sec.svnFuses = a.sec.svnFuses ∧ t.sec.ownerHash = a.sec.ownerHash ∧
       t.aging.wear = a.aging.wear ∧ t.conf.cfgA = a.conf.cfgA ∧ t.conf.cfgB = a.conf.cfgB ∧
       t.conf.entries = [] ∧ t.conf.epoch = 0 ∧ t.conf.sets = [] ∧ t.ft.count = 0 ∧ t.hub.frames = [] ∧ t.sched.shapers = [] ∧
       t.lanes.lane = [] ∧ t.pcie.port = [] ∧ t.pcie.part = [] ∧ t.bridge.tags = [] ∧ t.bridge.trackers = [] ∧ t.bridge.fences = [] ∧
       t.bridge.pegs = [] ∧ t.mover.jobs = [] ∧ t.mover.func = [] ∧ t.errs.c4 = false ∧ t.mgmt.mailbox = [] ∧ t.mgmt.lock = [] ∧
       t.sec.token = none ∧ t.sec.nonce = none ∧ t.slot.recordsLoaded = false ∧ t.chip.booting = true) ∧
     (resetBegins a = false →
       Gives (.resetNAssert dt) s { a with chip.resetPin := true } ∧
       Gives (.i3cTargetReset dt) s (if inDeviceReset a then { a with chip.resetUntil := some (a.now + 10 * us) } else a)) ∧
     (a.errs.c4 = false ∨ rb (a.cfg 0x58 0 0) 31 = false ∨ a.now < a.errs.c4At + 10 * ms → Gives (.fatalAutoReset dt) s a) ∧
     (inDeviceReset a = false → Gives (.resetNRelease dt) s a) ∧
     (∀ T, a.chip.resetUntil = some T → a.now < T → Gives (.resetNRelease dt) s { a with chip.resetPin := false }) ∧
     (inDeviceReset a = true → (∀ T, a.chip.resetUntil = some T → T ≤ a.now) →
       Gives (.resetNRelease dt) s { a with
         chip.resetPin := false, chip.resetUntil := none, chip.booting := true, chip.bootAt := a.now })) ∧
  (∀ (s : State) (dt : Time), let a := advance dt s
     (∃ t : State, Gives (.powerOn dt) s t ∧ t.errs = {} ∧ t.hub = {} ∧ t.lanes = {} ∧ t.count.live = [] ∧ t.conf.entries = [] ∧
       t.slot.recordsLoaded = false ∧ t.chip.coldBoot = true ∧ t.chip.railsOut = false ∧ t.sec.svnFuses = a.sec.svnFuses ∧
       t.conf.cfgA = a.conf.cfgA ∧ t.aging.store = a.aging.store ∧ ∀ c ∈ t.slot.chan, c.2 = { present := true }) ∧
     (a.chip.railsOut = false → ∃ t : State, Gives (.coreRailDip dt) s t ∧ t.chip.railsOut = true ∧ t.errs = {} ∧ t.count.live = [] ∧
       t.slot.chan = a.slot.chan) ∧
     (a.chip.railsOut = true →
       Gives (.coreRailReturn dt) s { a with chip.railsOut := false, chip.booting := true, chip.bootAt := a.now, ft := {} }) ∧
     (a.chip.railsOut = true → Gives (.coreRailDip dt) s a) ∧ (a.chip.railsOut = false → Gives (.coreRailReturn dt) s a) ∧
     (a.chip.tripped = true ∨ a.chip.railsOut = true → Gives (.thermalTrip dt) s a) ∧
     (a.chip.tripped = false → a.chip.railsOut = false → ∃ t : State, Gives (.thermalTrip dt) s t ∧ t.chip.tripped = true ∧
       t.slot.tripFlag = true ∧ t.errs.log = a.errs.log ∧ t.hub.frames = [] ∧ Out.thermTrip true ∈ t.out))

/-- Partition resets (Table 5.9): PERSTIN_N asserted resets and holds every partition at home here that selects it, its links down, and
released frees those it held, ready within 100 ms; other devices follow by the notice (R161; which of the three it stands for is the model's,
assumption 128). Readiness, hot reset and link loss of an upstream port, and secondary bus resets. A reset of the primary upstream port is its
partition's, of another its virtual switch's. -/
def Obligations.PartitionAndPortResets : Prop :=
  (∀ (s : State) (dt : Time) (i : Nat), let a := advance dt s
     i < 16 →
     (i ∉ a.pcie.perstin → ∃ t : State, Gives (.perstinAssert dt i) s t ∧
       t = forAll ((homeParts a).filter fun p => partPerst a p == i) (fun p s => holdPart p (partitionReset p s))
         { a with pcie.perstin := a.pcie.perstin ++ [i] } ∧
       i ∈ t.pcie.perstin ∧
       ∀ p ∈ homeParts a, partPerst a p = i → (t.part p).perst = true ∧ (t.part p).inReset = true ∧
         ∀ q ∈ partPorts a p, (t.port q).up = false) ∧
     (i ∈ a.pcie.perstin → Gives (.perstinAssert dt i) s a) ∧
     ∃ t : State, Gives (.perstinRelease dt i) s t ∧
       t = forAll ((homeParts a).filter fun p => partPerst a p == i && (a.part p).perst) (fun p s => tellReset p (unholdPart p s))
         { a with pcie.perstin := a.pcie.perstin.filter (· != i) } ∧
       i ∉ t.pcie.perstin ∧
       ∀ p ∈ homeParts a, partPerst a p = i → (a.part p).perst = true →
         (t.part p).perst = false ∧ (t.part p).inReset = false ∧ (t.part p).ready = false ∧ (t.part p).readyAt = some (a.now + 100 * ms)) ∧
  (∀ (s : State) (dt : Time) (p : Nat), let a := advance dt s
     p < 64 →
     (partEn a p = true → partHome a p ≠ a.dev → let b := modPart p (fun q => { q with contained := false }) a
       (∃ t : State, Gives (.partitionResetNotice dt p true) s t ∧
         t = holdPart p (partResetHere p b) ∧
         (t.part p).perst = true ∧ (t.part p).inReset = true ∧ ∀ q ∈ partPorts a p, (t.port q).up = false) ∧
       ((a.part p).perst = true → ∃ t : State, Gives (.partitionResetNotice dt p false) s t ∧ t = unholdPart p a ∧
         (t.part p).perst = false ∧ (t.part p).inReset = false ∧ (t.part p).readyAt = some (a.now + 100 * ms)) ∧
       ((a.part p).perst = false → ∃ t : State, Gives (.partitionResetNotice dt p false) s t ∧
         t = partResetHere p (forAll (partPorts a p) sendHotReset b) ∧ (t.part p).contained = false ∧
         ∀ q ∈ partPorts a p, (t.port q).up = false ∧ (t.port q).contained = false)) ∧
     (partEn a p = false ∨ partHome a p = a.dev → ∀ held, Gives (.partitionResetNotice dt p held) s a) ∧
     ((a.part p).inReset = false → (a.part p).readyAt.isSome = true → ∃ t : State, Gives (.partitionReady dt p) s t ∧
       t = modPart p (fun q => { q with ready := true }) a ∧ (t.part p).ready = true ∧ ∀ k, k ≠ p → t.part k = a.part k) ∧
     ((a.part p).inReset = true ∨ (a.part p).readyAt = none → Gives (.partitionReady dt p) s a)) ∧
  (∀ (s : State) (dt : Time) (port : Nat), let a := advance dt s
     port < 128 →
     (portEn a port = true → portUp a port = true → let q := portPart a port; let v := portVsw a port
       let fallen (t : State) : Prop :=
         (v = 0 → (t.part q).inReset = true ∧ ∀ x ∈ partPorts a q, (t.port x).up = false) ∧
         (v ≠ 0 → ∀ x ∈ port :: vswDown a q v, pciePort a x = true → (t.port x).up = false ∧ (t.port x).contained = false)
       (∃ t : State, Gives (.hotResetReceived dt port) s t ∧ t = upstreamReset port a ∧ fallen t) ∧
       ((a.port port).up = true → ∃ t : State, Gives (.upstreamDlDown dt port) s t ∧
         t = upstreamReset port (record [q] { devRec a 0x0104 (if v = 0 then 3 else 2) 0 0 with srcPort := port } a) ∧ fallen t) ∧
       ((a.port port).up = false → Gives (.upstreamDlDown dt port) s a) ∧
       (∃ t : State, Gives (.secondaryBusResetUpstream dt port) s t ∧
         (let below : State := resetFarPorts q v (forAll (vswDown a q v) (fun x => hotPortReset x true) a)
          t = if v = 0 then settleLoops (startFlr (512 + q) (flrFunction0 q below)) else below) ∧
         ∀ x ∈ vswDown a q v, pciePort a x = true → (t.port x).up = false ∧ (t.port x).contained = false ∧
           ((a.port x).up = true → Out.hotReset x ∈ t.out)) ∧
       Gives (.secondaryBusResetDownstream dt port) s a) ∧
     (portEn a port = true → portUp a port = false →
       (∃ t : State, Gives (.secondaryBusResetDownstream dt port) s t ∧ t = portReset port false (sendHotReset port a) ∧
         (pciePort a port = true → (t.port port).up = false ∧ (t.port port).contained = false) ∧
         ((a.port port).up = true → Out.hotReset port ∈ t.out)) ∧
       ∀ c ∈ [Instr.hotResetReceived dt port, .upstreamDlDown dt port, .secondaryBusResetUpstream dt port], Gives c s a) ∧
     (portEn a port = false → ∀ c ∈ [Instr.hotResetReceived dt port, .upstreamDlDown dt port, .secondaryBusResetUpstream dt port,
       .secondaryBusResetDownstream dt port], Gives c s a))

/-- The references: the selected one's loss begins holdover, a relock ends it on the other one and counts a switch, or on the selected one
when only that is usable, and with both lost for 1 ms the device stops switching. A device-fatal error writes its record, ends switching
and takes every spoke down. Memory errors: a corrected word is counted per bank, a lasting fault maps its row to a spare, or marks it once
none is left. An uncorrectable word acts as its memory has it (Table 10.3): a frame's own word discards it, one in queue state resets or
contains the station's ports, a counter is marked, a table holds back the lookups until it is rewritten, and so on for each memory; every
read of a row that no spare replaced is uncorrectable (which object a word holds is the model's, assumption 155). -/
def Obligations.ReferencesFatalAndMemoryErrors : Prop :=
  (∀ (s : State) (dt : Time) (r : Bool), let a := advance dt s
     Gives (.referenceUsable dt r) s (setRefLost r false a) ∧
     (r ≠ a.chip.refSel ∨ a.chip.holdover = true → Gives (.referenceLost dt r) s (setRefLost r true a)) ∧
     (r = a.chip.refSel → a.chip.holdover = false →
       Gives (.referenceLost dt r) s { setRefLost r true a with chip.holdover := true, chip.holdoverAt := a.now }) ∧
     (a.chip.holdover = true → refLost a (!a.chip.refSel) = false →
       Gives (.referenceRelock dt) s (count1 (cDev cdSwitches) { a with
         chip.holdover := false, chip.refSel := !a.chip.refSel, chip.switchCount := min 65535 (a.chip.switchCount + 1) })) ∧
     (a.chip.holdover = true → refLost a (!a.chip.refSel) = true → refLost a a.chip.refSel = false →
       Gives (.referenceRelock dt) s { a with chip.holdover := false }) ∧
     (a.chip.holdover = false ∨ (a.chip.refALost = true ∧ a.chip.refBLost = true) → Gives (.referenceRelock dt) s a) ∧
     (a.chip.holdover = true → a.chip.refALost = true → a.chip.refBLost = true → a.chip.holdoverAt + ms ≤ a.now →
       Gives (.holdoverTimeout dt) s (fatal 0x0B03 a)) ∧
     (a.chip.holdover = false ∨ a.chip.refALost = false ∨ a.chip.refBLost = false ∨ a.now < a.chip.holdoverAt + ms →
       Gives (.holdoverTimeout dt) s a) ∧
     Gives (.d2dUncorrectable dt) s (fatal 0x0B03 a) ∧ Gives (.rootPllUnlock dt) s (fatal 0x0B03 a)) ∧
  (∀ (s : State) (cause : Nat), inDeviceReset s = false → corePowered s = true → s.errs.c4 = false →
     (fatal cause s).errs.c4 = true ∧ (fatal cause s).errs.c4At = s.now ∧ (fatal cause s).hub.frames = [] ∧
     (fatal cause s).errs.seq = (s.errs.seq + 1) % 2 ^ 32 ∧
     ∃ r ∈ (fatal cause s).errs.log, r.cause = cause ∧ r.cls = 4 ∧ r.seq = s.errs.seq) ∧
  (∀ (s : State) (dt : Time) (bank word : Nat), let a := advance dt s; let row := word / 512
     let lasting := count1 (cDev bank) a
     bank < 9 →
     ((bank, row) ∈ a.errs.badRows → ∀ clean,
       (∀ b, heldAt bank word a = some b → Gives (.memSingleBitRead dt bank word clean) s (memUncorrectable b (drew a))) ∧
       (heldAt bank word a = none →
         Gives (.memSingleBitRead dt bank word clean) s (memRecord (bankClass bank) word (drew a)))) ∧
     ((bank, row) ∉ a.errs.badRows →
       Gives (.memSingleBitRead dt bank word true) s (memTransient bank word a) ∧
       (tget 0 a.aging.spares bank < spareRows bank → Gives (.memSingleBitRead dt bank word false) s
         (logOnly { devRec lasting 0x0702 0 0 0 with address := row * 512 } (count1 (cDev cdRepairs) { lasting with
           aging.spares := tmod 0 lasting.aging.spares bank (· + 1), errs.planerRows := lasting.errs.planerRows ++ [(bank, row)] }))) ∧
       (spareRows bank ≤ tget 0 a.aging.spares bank →
         let marked := memRecord (bankClass bank) (row * 512) { lasting with errs.badRows := lasting.errs.badRows ++ [(bank, row)] }
         (bank, row) ∈ marked.errs.badRows ∧
         Gives (.memSingleBitRead dt bank word false) s
           (if bank = 0 then { marked with hub.withdrawn := tmod 0 marked.hub.withdrawn (row / 6144) (· + 8) } else marked)))) ∧
  (∀ (s : State) (dt : Time), let a := advance dt s; let reads (b : Bank) (t : State) : Prop := Gives (.memUncorrectableRead dt b) s t
     let ownerOf (x : Option Nat) : Nat := x.getD 0
     (∀ st fid, st < 20 →
       (∀ f, findFrame a fid = some f → reads (.output st fid) (discard f .memory a) ∧ reads (.ingressStaging fid) (discard f .memory a)) ∧
       (findFrame a fid = none → reads (.output st fid) a ∧ reads (.ingressStaging fid) a)) ∧
     (∀ st, st < 20 → reads (.queueState st) (memRecord 2 st (forAll (stationPorts a st) (fun p s => match portSpoke s p with
       | some k => spokeDown k 5 s
       | none => if portUp s p && portVsw s p != 0 then upstreamReset p s else containPort p s) a))) ∧
     (∀ f ctx i, f < 576 → reads (.moverStaging f ctx i) (stagingError f ctx i a)) ∧
     (∀ id, (id ∈ a.count.invalid → reads (.counterBank id) a) ∧
       (id ∉ a.count.invalid → reads (.counterBank id) (memRecord 0 (8 * id) { a with
         count.invalid := a.count.invalid ++ [id]
         count.snapInvalid := if a.count.copying then a.count.snapInvalid ++ [id] else a.count.snapInvalid }))) ∧
     (a.mgmt.serving = true → swappedNow a = false →
       reads .tables (memRecord 0 0 { a with hub.stalled := true, hub.stalledTick := coreTick a })) ∧
     (a.mgmt.serving = true → swappedNow a = true → reads .tables (memRecord 0 0 a)) ∧
     (a.mgmt.serving = false → reads .tables (memRecord 0 0 (fatal 0x0B03 a))) ∧
     (∀ i, okTag i = true → reads (.tagTable i)
       (memRecord 1 i (timeoutTag i 0 a) (ownerOf ((tfind a.bridge.tags i).map (·.srcPart))))) ∧
     (∀ i, okTracker i = true → reads (.writeTracker i)
       (memRecord 1 i (failTracker i 8 true a) (ownerOf ((tfind a.bridge.trackers i).map (·.srcPart))))) ∧
     (∀ r p slot, p < 64 →
       let lost := modPart p (fun q => { q with ring := tdel q.ring slot })
         (memRecord 0 0 { a with errs.log := a.errs.log.filter fun e => e.seq != r })
       reads (.scratchpad r p slot) (if mcRuns lost then mcRestart 4 lost else lost)) ∧
     (∀ k, k < 40 → reads (.coefStore k) (memRecord 0 k { a with lanes.store := tdel a.lanes.store k }) ∧
       reads (.spokeReplay k) (spokeDown k 2 a)) ∧
     (∀ p, p < 128 →
       (pciePort a p = false ∨ (a.port p).up = false → reads (.pcieRetry p) a) ∧
       (pciePort a p = true → (a.port p).up = true → portUp a p = true → reads (.pcieRetry p)
         (upstreamReset p (record [portPart a p] { devRec a 0x0103 2 0 0 with srcPort := p } a))) ∧
       (pciePort a p = true → (a.port p).up = true → portUp a p = false → reads (.pcieRetry p) (surpriseDown p a))) ∧
     (a.hub.stalled = true →
       (a.mgmt.serving = true → Gives (.tableRewriteDone dt true) s { a with hub.stalled := false }) ∧
       (a.mgmt.serving = false → Gives (.tableRewriteDone dt true) s (fatal 0x0B03 a)) ∧
       Gives (.tableRewriteDone dt false) s (fatal 0x0B03 a)) ∧
     (a.hub.stalled = false → ∀ ok, Gives (.tableRewriteDone dt ok) s a))

/-- The events that end a stretch of equal readings run the channel's 1 µs tick for each of their readings, in order, the last tick now.
In the slot die's reset nothing happens. What a tick does (R334): with the gate off nothing; a fast trip or a full fault timer is a fault;
the energy integral grows by the pass device's voltage times the sense voltage; a ramp ends when the output has come within 0.3 V of the
input; power-good must hold for its whole time. A fault turns the gate off for good or until its wait is over: two faults with the output
below 1 V latch, so does one beyond the retries, and otherwise the wait is the larger of 100 ms and 32 times the fault's time. -/
def Obligations.SlotTicksAndFaults : Prop :=
  (∀ (s : State) (dt : Time) (ch : Nat) (xs : List SlotSample), let a := advance dt s
     let readings := xs.flatMap fun x => List.replicate x.ticks x
     let ticks (b : State) : State :=
       forAll readings.zipIdx (fun e => slotTick ch (a.now - readings.length * us + us + e.2 * us) e.1) b
     ch < 64 →
     (∀ c ∈ [Instr.slotFaultTimerExpiry dt ch xs, .slotEnergyExceeded dt ch xs, .slotRampDone dt ch xs, .slotPowerGoodQualify dt ch xs],
       (a.slot.inReset = false → Gives c s (ticks a)) ∧ (a.slot.inReset = true → Gives c s a)) ∧
     (gateOn (a.chan ch) = false → Gives (.slotFastTrip dt ch xs) s a) ∧
     (gateOn (a.chan ch) = true → let b := modChan ch (fun k => { k with fast := true }) a
       Gives (.slotFastTrip dt ch xs) s (if a.slot.inReset then b else ticks b))) ∧
  (∀ (s : State) (ch : Nat) (t : Time) (x : SlotSample), let c := s.chan ch; let r := limitsOf s ch
     let after := slotTick ch t x s
     (gateOn c = false → after = s) ∧
     (gateOn c = true → c.fast = true → after = chanFault ch 3 t (modChan ch (fun k => { k with vmax := max k.vmax x.vout }) s)) ∧
     (gateOn c = true → c.fast = false → (if c.state = 2 then lInrush r else lLim r) * 100 ≤ x.senseUv →
       lFault r * 100 ≤ c.timer.getD 0 + 1 →
       ∃ y : State, (y.chan ch).timer = some (c.timer.getD 0 + 1) ∧ after = chanFault ch 1 t y) ∧
     (c.state = 2 → c.fast = false → x.senseUv < lInrush r * 100 → c.timer = none →
       x.vout + 300 < x.vin → c.energy + (x.vin - x.vout) * x.senseUv ≤ lEnergy r * lSense r * 100000000 →
       (after.chan ch).state = 2 ∧ (after.chan ch).energy = c.energy + (x.vin - x.vout) * x.senseUv) ∧
     (c.state = 2 → c.fast = false → x.senseUv < lInrush r * 100 → c.timer = none →
       lEnergy r * lSense r * 100000000 < c.energy + (x.vin - x.vout) * x.senseUv →
       ∃ y : State, (y.chan ch).energy = c.energy + (x.vin - x.vout) * x.senseUv ∧ after = chanFault ch 2 t y) ∧
     (c.state = 2 → c.fast = false → x.senseUv < lInrush r * 100 → c.timer = none →
       c.energy + (x.vin - x.vout) * x.senseUv ≤ lEnergy r * lSense r * 100000000 → x.vin ≤ x.vout + 300 →
       x.vout < lPg r * 100 → 0 < rf (dieRec s) 47 41 → (after.chan ch).state = 3 ∧ (after.chan ch).q = 0) ∧
     (c.state = 3 → c.fast = false → x.senseUv < lLim r * 100 → c.timer = none → lPg r * 100 ≤ x.vout →
       (c.q + 1 < rf (dieRec s) 47 41 * 100 → (after.chan ch).state = 3 ∧ (after.chan ch).q = c.q + 1) ∧
       (rf (dieRec s) 47 41 * 100 ≤ c.q + 1 →
         (after.chan ch).state = 4 ∧ (after.chan ch).onAt = t ∧ (after.chan ch).lowFails = 0)) ∧
     (c.state = 3 → c.fast = false → x.senseUv < lLim r * 100 → c.timer = none → x.vout < lPg r * 100 → 0 < rf (dieRec s) 47 41 →
       (after.chan ch).state = 3 ∧ (after.chan ch).q = 0)) ∧
  (∀ (s : State) (ch trig : Nat) (t : Time), let c := s.chan ch; let r := limitsOf s ch; let after := (chanFault ch trig t s).chan ch
     let low := if c.vmax < 1000 then c.lowFails + 1 else 0
     let span : Time := if c.pgSeen then (c.timer.elim 0 fun n => n * us) else t - c.gateAt
     gateOn c = true →
     after.perst = true ∧ gateOn after = false ∧
     (2 ≤ low → after.state = 6 ∧ after.lastFault = 3) ∧
     (low < 2 → lRetry r ≠ 15 → lRetry r ≤ c.retries → after.state = 6 ∧ after.lastFault = 8) ∧
     (low < 2 → (lRetry r = 15 ∨ c.retries < lRetry r) →
       after.state = 5 ∧ after.waitUntil = t + max (100 * ms) (32 * span) ∧ after.lastFault = (if c.pgSeen then 2 else 1)))

/-- A channel's timed events and checks, each of them nothing before its time. Requests, presence, the inrush queue and the slot die's
samples. The inrush queue's head enters RAMP while its charge fits BUDGET beside those that hold a grant; otherwise it keeps its place. -/
def Obligations.SlotChannelsAndInrush : Prop :=
  (∀ (s : State) (dt : Time) (ch vout : Nat), let a := advance dt s; let c := a.chan ch
     ch < 64 →
     (c.state = 4 → c.timer = none → Gives (.pgLost dt ch) s (slotEvent ch 0 7 0 (noteFault ch 7 0
       (settleCad (modPins ch (fun c => { c with state := 3, q := 0, perst := true }) a))))) ∧
     (c.state ≠ 4 ∨ c.timer ≠ none → Gives (.pgLost dt ch) s a) ∧
     (c.state = 4 → c.onAt + 100 * ms ≤ a.now → perstForwarded a ch = false →
       Gives (.slotPerstRelease dt ch) s (modPins ch (fun c => { c with perst := false }) a)) ∧
     (c.state ≠ 4 ∨ a.now < c.onAt + 100 * ms ∨ perstForwarded a ch = true → Gives (.slotPerstRelease dt ch) s a) ∧
     (c.state = 5 → c.waitUntil ≤ a.now → Gives (.retryWaitEnd dt ch) s (enqueue ch
       (modChan ch (fun c => { c with retries := c.retries + 1, tries := c.tries + 1 }) (count1 (cChan ch 10) a)))) ∧
     (c.state ≠ 5 ∨ a.now < c.waitUntil → Gives (.retryWaitEnd dt ch) s a) ∧
     (c.checkDue = true → c.offAt + 10 * ms ≤ a.now → let b := modChan ch (fun c => { c with checkDue := false }) a
       (500 < vout → Gives (.dischargeEnd dt ch vout) s (unusable ch 4 b)) ∧
       (vout ≤ 500 → Gives (.dischargeEnd dt ch vout) s (modChan ch (fun c => { c with checked := true }) b))) ∧
     (c.checkDue = false ∨ a.now < c.offAt + 10 * ms → Gives (.dischargeEnd dt ch vout) s a) ∧
     (gateOn c = true ∨ ((c.state = 5 ∨ c.state = 6) ∧ c.offAt / us = a.now / us) → Gives (.gateStuck dt ch) s (unusable ch 5 a)) ∧
     (gateOn c = false → ((c.state ≠ 5 ∧ c.state ≠ 6) ∨ c.offAt / us ≠ a.now / us) → Gives (.gateStuck dt ch) s a) ∧
     (gateOn c = false → c.checked = true → c.state ≠ 7 → Gives (.fetLeak dt ch) s (unusable ch 6 a)) ∧
     (gateOn c = true ∨ c.checked = false ∨ c.state = 7 → Gives (.fetLeak dt ch) s a) ∧
     (c.state = 4 → c.onAt + oneSec ≤ a.now → Gives (.retryCountClear dt ch) s (modChan ch (fun c => { c with retries := 0 }) a)) ∧
     (c.state ≠ 4 ∨ a.now < c.onAt + oneSec → Gives (.retryCountClear dt ch) s a) ∧
     (∀ t, (a.chanAux ch).onSince = some t → let expiry := t + rf (slotRec a 0x4A ch) 15 8 * 100 * ms
       (expiry ≤ a.now → Gives (.spinHoldExpiry dt ch) s (modChanAux ch (fun a => { a with granted := false }) a)) ∧
       (a.now < expiry → Gives (.spinHoldExpiry dt ch) s a)) ∧
     ((a.chanAux ch).onSince = none → Gives (.spinHoldExpiry dt ch) s a) ∧
     ((a.chanAux ch).startCheck = true → a.slot.inReset = false → a.slot.startedAt + 10 * ms ≤ a.now →
       let b := modChanAux ch (fun a => { a with startCheck := false }) a
       (500 < vout → Gives (.startupFetShortCheck dt ch vout) s (unusable ch 4 b)) ∧
       (vout ≤ 500 → Gives (.startupFetShortCheck dt ch vout) s (modChan ch (fun c => { c with checked := true }) b))) ∧
     ((a.chanAux ch).startCheck = false ∨ a.slot.inReset = true ∨ a.now < a.slot.startedAt + 10 * ms →
       Gives (.startupFetShortCheck dt ch vout) s a)) ∧
  (∀ (s : State) (dt : Time) (ch : Nat), let a := advance dt s; let c := a.chan ch
     ch < 64 →
     (∀ act who rest, slotUp a = true → (a.chanAux ch).requests = (act, who) :: rest →
       let x := slotAction act ch (modChanAux ch (fun x => { x with requests := rest }) a)
       let answered (mb : Nat) (y : State) : State :=
         finishWait mb waitSlot (if x.1 then stOk else stDenied) x.1 [chStatus y ch] y
       (∀ mb, who = some mb →
         (∀ p, slotPort x.2 ch = some p → x.1 = true → act < 2 → Gives (.slotCommandAccepted dt ch) s
           (answered mb (modAux p (fun y => { y with powerOff := act == 1 }) x.2))) ∧
         (slotPort x.2 ch = none ∨ x.1 = false ∨ 2 ≤ act → Gives (.slotCommandAccepted dt ch) s (answered mb x.2))) ∧
       (who = none →
         (∀ p, slotPort x.2 ch = some p → x.1 = true →
           Gives (.slotCommandAccepted dt ch) s (noteStatus p (fun y => { y with cmdDone := true }) x.2)) ∧
         (slotPort x.2 ch = none ∨ x.1 = false → Gives (.slotCommandAccepted dt ch) s x.2))) ∧
     (slotUp a = false ∨ (a.chanAux ch).requests = [] → Gives (.slotCommandAccepted dt ch) s a) ∧
     (let shown (b : State) : State := if slotUp b then presenceShown ch b else b
      let on := modChan ch (fun c => { c with present := true, absentSince := none }) a
      let off := modChan ch (fun c => { c with present := false, absentSince := some a.now }) a
      (c.present = true → Gives (.presenceChange dt ch true) s a) ∧ (c.present = false → Gives (.presenceChange dt ch false) s a) ∧
      (c.present = false → ∀ t, c.absentSince = some t → t + ms ≤ a.now → Gives (.presenceChange dt ch true) s (shown (unlatch ch on))) ∧
      (c.present = false → c.absentSince = none ∨ (∃ t, c.absentSince = some t ∧ a.now < t + ms) →
        Gives (.presenceChange dt ch true) s (shown on)) ∧
      (c.present = true → lPresOff (limitsOf a ch) = true → Gives (.presenceChange dt ch false) s (shown (requestOff ch off))) ∧
      (c.present = true → lPresOff (limitsOf a ch) = false → Gives (.presenceChange dt ch false) s (shown off))) ∧
     (a.slot.inReset = false → Gives (.inrushGrant dt) s (grantInrush 64 a) ∧ Gives (.arbiterGrant dt 193) s (grantInrush 64 a)) ∧
     (a.slot.inReset = true → Gives (.inrushGrant dt) s a ∧ Gives (.arbiterGrant dt 193) s a) ∧
     (∀ sense vout, let i := min 4095 sense; let v := min 4095 vout
       Gives (.adcSample dt ch sense vout) s (modChanAux ch (fun x => { x with
         iNow := i, voutNow := v, iPeak := max x.iPeak i
         voutMin := if c.state = 4 then (if x.minRead then v else min x.voutMin v) else x.voutMin
         minRead := x.minRead && c.state != 4 }) a) ∧
       ∀ b : Bool, Gives (.adcSample dt (if b then 65 else 64) sense vout) s (settleFeeds (modFeed b (fun f => { f with
         iNow := i, vNow := v, iPeak := max f.iPeak i, vMin := if f.minRead then v else min f.vMin v, minRead := false }) a)))) ∧
  (∀ (s : State) (n ch : Nat), inrushHead s (inrushQueue s) = some ch →
     (10 * (chargesHeld s + inrushCharge (slotRec s 0x48 ch)) ≤ rf (dieRec s) 63 48 * senseScale →
       grantInrush (n + 1) s = grantInrush n (enterRamp ch s)) ∧
     (rf (dieRec s) 63 48 * senseScale < 10 * (chargesHeld s + inrushCharge (slotRec s 0x48 ch)) → grantInrush (n + 1) s = s))

/-- The feeds' transistors follow their inputs: both conduct within 50 mV of each other, otherwise the higher one (by their last samples,
assumption 160). A lost feed is a class C2 event, a reverse turn-off is counted and recorded at most once a
second, and the slot die's own resets turn every gate off. -/
def Obligations.FeedsAndSlotDieResets : Prop :=
  ∀ (s : State) (dt : Time) (b : Bool), let a := advance dt s
    ((a.feed b).lost = false → Gives (.feedLost dt b) s
      (feedEvent b 2 0 (settleFeeds (modFeed b (fun f => { f with lost := true }) a)))) ∧
    ((a.feed b).lost = true → Gives (.feedLost dt b) s a) ∧
    ((a.feed b).lost = true → Gives (.feedRestored dt b) s
      (feedEvent b 0 1 (settleFeeds (modFeed b (fun f => { f with lost := false, reversed := false }) a)))) ∧
    ((a.feed b).lost = false → Gives (.feedRestored dt b) s a) ∧
    Gives (.feedForwardResume dt b) s (settleFeeds (modFeed b (fun f => { f with reversed := false }) a)) ∧
    (let settled := settleFeeds a
     (settled.feed b).lost = (a.feed b).lost ∧ ((a.feed b).lost = true → (settled.feed b).fstate = 0) ∧
     ((a.feed b).lost = false → (a.feed b).reversed = true → (settled.feed b).fstate = 1) ∧
     (feedReady (a.feed b) = true → feedReady (a.feed (!b)) = false → (settled.feed b).fstate = 2) ∧
     (feedReady (a.feed b) = true → feedReady (a.feed (!b)) = true →
       (settled.feed b).fstate = (if 50 < 4 * ((a.feed (!b)).vNow - (a.feed b).vNow) then 1
         else if 50 < 4 * ((a.feed b).vNow - (a.feed (!b)).vNow) then 2 else 3))) ∧
    (let off := count1 (cChan (64 + b2n b) 11) (settleFeeds (modFeed b (fun f => { f with reversed := true }) a))
     ((∃ t, (a.feed b).lastRev = some t ∧ a.now < t + oneSec) → Gives (.feedReverseTurnoff dt b) s off) ∧
     ((a.feed b).lastRev = none ∨ (∃ t, (a.feed b).lastRev = some t ∧ t + oneSec ≤ a.now) →
       Gives (.feedReverseTurnoff dt b) s (feedEvent b 0 2 (modFeed b (fun f => { f with lastRev := some a.now }) off)))) ∧
    (∃ t : State, Gives (.slotResetNAssert dt) s t ∧ t.slot.inReset = true ∧ t.slot.recordsLoaded = false ∧ t.slot.recs = [] ∧
      ∀ ch < 64, gateOn (t.chan ch) = false ∧ (t.chan ch).state = (if (a.chan ch).state = 7 then 7 else 0) ∧
        (t.chan ch).retries = 0 ∧ (t.chan ch).lastFault = (if (a.chan ch).state = 0 then 0 else 9)) ∧
    (a.slot.inReset = true → a.slot.vpwrLost = false →
      Gives (.slotResetNRelease dt) s { a with slot.inReset := false, slot.pinLow := false, slot.startedAt := a.now }) ∧
    (a.slot.inReset = false ∨ a.slot.vpwrLost = true → Gives (.slotResetNRelease dt) s { a with slot.pinLow := false }) ∧
    (∃ t : State, Gives (.vpwrLoss dt) s t ∧ t.slot.vpwrLost = true ∧ t.slot.inReset = true ∧ t.slot.recs = [] ∧ t.slot.held = [] ∧
      ∀ c ∈ t.slot.chan, c.2 = { present := true }) ∧
    (a.slot.vpwrLost = true →
      Gives (.vpwrRecovery dt) s { a with slot.vpwrLost := false, slot.inReset := a.slot.pinLow, slot.startedAt := a.now }) ∧
    (a.slot.vpwrLost = false → Gives (.vpwrRecovery dt) s a) ∧
    (coreRuns a = true → a.slot.inReset = false → a.slot.recordsLoaded = false → Gives (.slotInterfaceRestored dt) s (restoreSlot a)) ∧
    (coreRuns a = false ∨ a.slot.inReset = true ∨ a.slot.recordsLoaded = true → Gives (.slotInterfaceRestored dt) s a)

/-- Link events of a PCIe port: the link comes up at a width of the standard's and no more than its configured width and rate, with the
equalisation it settled and the polarity it found; a hot-plug slot is sent its power limit, and the primary upstream port ends its
partition's wait. A lost downstream link is a SURPRISE_DOWN of class C2. Recovery holds messages until it ends. Errors set their AER status
bit, are recorded and counted, and unless masked trigger DPC or send their message (the bits and masks are PRESUMED, assumption 130). -/
def Obligations.LinkEvents : Prop :=
  ∀ (s : State) (dt : Time) (p : Nat), let a := advance dt s; let q := a.port p
    p < 128 →
    (∀ width rate, ∀ x : LinkResult, let w := linkWidth width (portWidth a p); let r := min rate (targetRate a p); let part := portPart a p
      (pciePort a p = true → q.up = false → linkHeld a p = false → w ≠ 0 →
        let up := noteStatus p (fun x => { x with dllChanged := true }) (count1 (cPort p 14) (equalise true p r x.eq (notePolarity p x.inverted
          (modPort p (fun q => { q with
            up := true, recovery := false, width := w, rate := r, reversed := x.reversed, contained := (a.part part).contained }) a))))
        let b := if portHp a p && !portUp a p then
          emit (.message p (.setSlotPowerLimit (rf (portRec a p) 11 4) (rf (portRec a p) 13 12))) up else up
        Gives (.dlUp dt p width rate x) s (if primaryUp b part = some p ∧ (b.part part).inReset = true then partReleased part b else b)) ∧
      (pciePort a p = false ∨ q.up = true ∨ linkHeld a p = true ∨ w = 0 → Gives (.dlUp dt p width rate x) s a)) ∧
    (pciePort a p = true → portUp a p = false → q.up = true →
      let b := record [portPart a p] { devRec a 0x0103 2 0 0 with srcPort := p } a
      ((b.port p).dpcEnable = true →
        Gives (.downstreamDlDown dt p) s (dpcTrigger p 0 (modAux p (fun x => { x with aerUnc := setBit x.aerUnc 5 }) b))) ∧
      ((b.port p).dpcEnable = false →
        Gives (.downstreamDlDown dt p) s (aerSignal p 5 (releasePortSem p (flushPort p .linkDown (linkDown p b)))))) ∧
    (pciePort a p = false ∨ portUp a p = true ∨ q.up = false → Gives (.downstreamDlDown dt p) s a) ∧
    (q.up = true → q.recovery = false →
      Gives (.linkRecoveryEntry dt p) s (count1 (cPort p 16) (modPort p (fun q => { q with recovery := true }) a))) ∧
    (q.up = false ∨ q.recovery = true → Gives (.linkRecoveryEntry dt p) s a) ∧
    (∀ rate eq, let r := min rate (targetRate a p)
      (q.recovery = true →
        let sent := forAll (a.aux p).heldMsgs (fun m => emit (.message p m))
          (equalise false p r eq (modPort p (fun q => { q with recovery := false, rate := r }) (modAux p (fun x => { x with heldMsgs := [] }) a)))
        (portUp a p = false ∨ portVsw a p ≠ 0 → Gives (.linkRecoveryExit dt p rate eq) s sent) ∧
        (portUp a p = true → portVsw a p = 0 → Gives (.linkRecoveryExit dt p rate eq) s
          (forAll ((onesBelow (a.aux p).collapsed 4).filter fun x => !leavesAsserted (a.aux p).heldMsgs x)
            (fun x => emit (.message p (.assertIntx x))) sent))) ∧
      (q.recovery = false → Gives (.linkRecoveryExit dt p rate eq) s a)) ∧
    (∀ e, let b := count1 (cPort p 18) (record [portPart a p] { devRec a 0x0101 0 0 0 with srcPort := p }
        (modAux p (fun x => { x with aerCor := setBit x.aerCor (e % 32) }) a))
      pciePort a p = true →
      (bit (a.aux p).corMask (e % 32) = true ∨ bit q.errEn 0 = false → Gives (.pcieCorrectableError dt p e) s b) ∧
      (bit (a.aux p).corMask (e % 32) = false → bit q.errEn 0 = true →
        Gives (.pcieCorrectableError dt p e) s (bridgeSends p .errCor b))) ∧
    (∀ e, let b := count1 (cPort p 19) (record [portPart a p] { devRec a 0x0102 2 0 0 with srcPort := p } a)
      let m := modAux p (fun x => { x with aerUnc := setBit x.aerUnc (e % 32) }) b
      let isFatal := bit (b.aux p).uncSev (e % 32); let masked := bit (b.aux p).uncMask (e % 32)
      pciePort a p = true →
      (masked = true → Gives (.pcieUncorrectableError dt p e) s m) ∧
      (masked = false → portUp b p = false → (b.port p).dpcEnable = true → Gives (.pcieUncorrectableError dt p e) s (dpcTrigger p 0 m)) ∧
      (masked = false → portUp b p = true ∨ (b.port p).dpcEnable = false →
        Gives (.pcieUncorrectableError dt p e) s (if bit (b.port p).errEn (if isFatal then 2 else 1) then
          bridgeSends p (if isFatal then .errFatal else .errNonFatal) m else m))) ∧
    (∀ e, pciePort a p = false → Gives (.pcieCorrectableError dt p e) s a ∧ Gives (.pcieUncorrectableError dt p e) s a) ∧
    (q.dpcTriggered = true →
      Gives (.dpcStatusClear dt p) s (settleInt p (modPort p (fun q => { q with
        dpcTriggered := false, dpcReason := 0, contained := (a.part (portPart a p)).contained }) a))) ∧
    (q.dpcTriggered = false → Gives (.dpcStatusClear dt p) s a)

/-- Function 0's interrupt block (R146, R148, R365): a 1 clears a cause bit, the mask keeps its reserved bits 0, the level follows the mask,
Interrupt Disable and MSI-X Enable, and with MSI-X enabled every mask bit newly set over a set cause sends its message. The interrupt level
L of function 0 is always what R146 says of the registers, after every register write of the block. A bridge's INTx wire goes into the
collapsed wires of its upstream port, or to another device when its pin changes. -/
def Obligations.InterruptLevelFollowsCauses : Prop :=
  (∀ (s : State) (dt : Time) (p : Nat) (v : BitVec 32) (on : Bool), let a := advance dt s; let q := a.part p
     p < 64 →
     Gives (.intStatusWrite dt p v) s (updateLevel p (modPart p (fun q => { q with intStatus := q.intStatus &&& ~~~ v }) a)) ∧
     (let m := v &&& 0xFF; let written := modPart p (fun q => { q with intMask := m }) a
      (q.msixEnable = false → Gives (.intMaskWrite dt p v) s (updateLevel p written)) ∧
      (q.msixEnable = true → Gives (.intMaskWrite dt p v) s (updateLevel p (forAll ((List.range 32).filter fun i =>
        m.getLsbD i && !q.intMask.getLsbD i && q.intStatus.getLsbD i) (sendCauseMsix p) written)))) ∧
     Gives (.msixEnableWrite dt p on) s (updateLevel p (modPart p (fun q => { q with msixEnable := on }) a)) ∧
     Gives (.interruptDisableWrite dt p on) s (updateLevel p (modPart p (fun q => { q with intDisable := on }) a))) ∧
  (∀ (s : State) (dt : Time) (port pin : Nat) (on : Bool), let a := advance dt s
     let wired := modAux port (fun x => { x with wires := putBit x.wires pin on }) a
     let is := pinOn (wired.aux port).wires pin; let was := pinOn (a.aux port).wires pin
     port < 128 → pin < 4 →
     (portEn a port = false ∨ portUp a port = true → Gives (.intxMessageReceived dt port pin on) s a) ∧
     (portEn a port = true → portUp a port = false →
       (∀ u, upstreamPort a (portPart a port) (portVsw a port) = some (a.dev, u) →
         Gives (.intxMessageReceived dt port pin on) s (collapse u wired)) ∧
       (∀ d u, upstreamPort a (portPart a port) (portVsw a port) = some (d, u) → d ≠ a.dev →
         (is = was → Gives (.intxMessageReceived dt port pin on) s wired) ∧
         (is ≠ was → Gives (.intxMessageReceived dt port pin on) s
           (tunnel port d u (if is then .assertIntx pin else .deassertIntx pin) wired))) ∧
       (upstreamPort a (portPart a port) (portVsw a port) = none → Gives (.intxMessageReceived dt port pin on) s wired))) ∧
  (∀ (s t : State) (dt : Time) (p : Nat) (v : BitVec 32) (on : Bool) (c : Instr),
     p < 64 → c ∈ [Instr.intStatusWrite dt p v, .intMaskWrite dt p v, .msixEnableWrite dt p on, .interruptDisableWrite dt p on] →
     Machine.exec c s = .next t →
     ((t.part p).level = true ↔
       (t.part p).intStatus &&& (t.part p).intMask ≠ 0 ∧ (t.part p).intDisable = false ∧ (t.part p).msixEnable = false))

/-- A configuration request of the host: at an upstream port's own bridge, at the functions of the partition on its internal bus, at the
virtual switch's bridges there, here or on another device, and at the VFs, it completes with SC and, for a read, its data, or with Request
Retry Status while the partition is not ready (R162, Table 5.5); what the virtual switch does not have completes with UR, a bus below goes
through the hub, and a bridge of a partition at home elsewhere answers the tunnelled request. A request of a link keeps its place in the
non-posted stream (R41). Power Controller Control, D3hot, VF Enable,
PME_Turn_Off and its acknowledgements, function-level resets and the end of NF_GAP. -/
def Obligations.ConfigurationSpaceAndFunctions : Prop :=
  (∀ (s : State) (dt : Time) (p rid tag bus dev fn : Nat) (x : CfgAccess), let a := advance dt s; let q := a.port p; let part := portPart a p
     let t : Tlp := { kind := (match x with
         | .read _ => TlpKind.cfgRead
         | .write _ => .cfgWrite), rid := rid, tag := tag, targetId := bus * 256 + dev * 8 + fn, len := 4 }
     let ask : CfgAsk := ⟨p, rid, tag, bus, dev, fn, x⟩
     let now := configRequest p rid tag bus dev fn x a
     let gives (y : State) : Prop :=
       (cfgFromLink a p = false → Gives (.configRequest dt p rid tag bus dev fn x) s y) ∧
       (cfgFromLink a p = true → a.hub.stalled = false → streamWaits a p 1 = false ∨ holdsRoom y a.hub.nextFid = true →
         Gives (.configRequest dt p rid tag bus dev fn x) s (creditBack p t a.hub.nextFid y))
     let answers (rd : CfgReg → List Nat) (wr : CfgWrite → State) : State :=
       if notReady a part then sendCpl p rid tag .crs a
       else match x with
         | .read r => emit (.completion p rid tag .sc 4) (emit (.cfgData p rid tag (rd r)) a)
         | .write w => sendCpl p rid tag .sc (wr w)
     let bridge (b : Nat) (w : CfgWrite) : State :=
       let c := settleInt b (modAux b (bridgeAuxWrite w) (modPort b (bridgeWrite w) a))
       let d := if primaryUp a (portPart a b) = some b ∧ (a.port b).sec = 0 ∧ (c.port b).sec ≠ 0 then wakeMover (portPart a b) c else c
       if portUp a b && downstreamOnly w then a
       else if w = .dpcSoftwareTrigger then (if (a.port b).dpcEnable then dpcTrigger b 7 a else a)
       else if rangesOf (c.port b) = rangesOf (a.port b) then d else sendRanges b d
     let function (n : Nat) : State := answers (functionRead a part n) (fun w => modPart part (functionWrite n w) a)
     p < 128 →
     (cfgFromLink a p = true → a.hub.stalled = true ∨ (streamWaits a p 1 = true ∧ holdsRoom now a.hub.nextFid = false) →
       Gives (.configRequest dt p rid tag bus dev fn x) s (addWaiting { freshFrame a t t (portStation a p) part (svcOf a p 0) p a.dev p none with
         ends := some .turn, ask := some ask } a)) ∧
     (pciePort a p = false → gives a) ∧
     (pciePort a p = true → a.errs.c4 = true → gives (sendCpl p rid tag .ur a)) ∧
     (pciePort a p = true → a.errs.c4 = false →
       (portUp a p = false → partHome a part = a.dev → gives (sendCpl p rid tag .ur a)) ∧
       (portUp a p = false → partHome a part ≠ a.dev →
         let far (st : CplStatus) (vs : List Nat) (b : State) : State := post (.farCpl (partHome a part) part (svcOf a p 0) rid tag st vs) b
         (fn ≠ 0 → gives (far .ur [] a)) ∧
         (fn = 0 → gives (match x with
           | .read r => far .sc (bridgeRead a p r) a
           | .write w => far .sc [] (bridge p w)))) ∧
       (portUp a p = true → q.sec ≠ 0 → bus = q.sec → dev = 0 →
         (portVsw a p = 0 → fn < 2 → gives (function fn)) ∧
         (portVsw a p ≠ 0 ∨ 2 ≤ fn → gives (sendCpl p rid tag .ur a))) ∧
       (portUp a p = true → q.sec ≠ 0 → bus = q.sec → dev ≠ 0 →
         let found := (vswDown a part (portVsw a p)).find? fun b => portDevNum a b == dev
         (fn ≠ 0 → gives (sendCpl p rid tag .ur a)) ∧
         (∀ b, fn = 0 → found = some b → gives (answers (bridgeRead a b) (bridge b))) ∧
         (fn = 0 → found = none → remoteEntry a part (portVsw a p) dev = none → gives (sendCpl p rid tag .ur a)) ∧
         (∀ rd rp, fn = 0 → found = none → remoteEntry a part (portVsw a p) dev = some (rd, rp) →
           (notReady a part = true → gives (sendCpl p rid tag .crs a)) ∧
           (notReady a part = false → routeEn a rd = false → gives (sendCpl p rid tag .ur a)) ∧
           (notReady a part = false → routeEn a rd = true → routeDead a rd = true → gives (lostRead (.pcie p) t rd rp a)) ∧
           (notReady a part = false → routeEn a rd = true → routeDead a rd = false →
             gives (newFrame { freshFrame a t t (portStation a p) part (svcOf a p 0) p rd rp none with fixed := true } a)))) ∧
       (portUp a p = true → q.sec ≠ 0 → q.sec < bus → bus ≤ q.subBus →
         (vfOfRid a part t.targetId = none → gives (admitTlp p t a)) ∧
         (∀ v, vfOfRid a part t.targetId = some v →
           let enabled := (a.part part).vfEnable && decide (t.targetId < q.sec * 256 + 256 + (a.part part).numVfs) && portVsw a p == 0
           (enabled = true → gives (function (2 + v))) ∧
           (enabled = false → gives (sendCpl p rid tag (if notReady a part then .crs else .ur) a)))) ∧
       (portUp a p = true → q.sec = 0 ∨ bus < q.sec ∨ q.subBus < bus → bus ≠ q.sec ∨ q.sec = 0 →
         (dev = 0 → fn = 0 → gives (answers (bridgeRead a p) (bridge p))) ∧
         (dev ≠ 0 ∨ fn ≠ 0 → gives (sendCpl p rid tag .ur a))))) ∧
  (∀ (s : State) (dt : Time) (p port : Nat), let a := advance dt s; let home := portPart a port; let v := portVsw a port
     p < 64 → port < 128 →
     (∀ off, (pciePort a port = true → portUp a port = false → portHp a port = true →
         Gives (.powerControllerControlWrite dt port off) s (modChanAux (portSlot a port)
           (fun x => { x with requests := x.requests ++ [(b2n off, none)] }) (modAux port (fun x => { x with powerOff := off }) a))) ∧
       (pciePort a port = false ∨ portUp a port = true ∨ portHp a port = false →
         Gives (.powerControllerControlWrite dt port off) s a)) ∧
     Gives (.d3hotEntry dt p) s (modPart p (fun q => { q with f1D3 := true }) a) ∧
     Gives (.d3hotExit dt p) s (modPart p (fun q => { q with f1D3 := false }) a) ∧
     (∀ num, Gives (.vfEnableSet dt p num) s
       (modPart p (fun q => { q with vfEnable := true, numVfs := min num (assignedVfs a p).length }) a)) ∧
     Gives (.vfEnableClear dt p) s
       (settleLoops (forAll (partVfs a p) startFlr (modPart p (fun q => { q with vfEnable := false }) a))) ∧
     (∀ f, f < 576 → Gives (.flr dt f) s (settleLoops (startFlr f a)) ∧
       Gives (.flrComplete dt f) s (forAll ((flrScope a f).filter fun f => (a.func f).dying &&
         (jobsOf a f).all jobIdle) finishFlr a)) ∧
     Gives (.flr dt (1024 + p)) s (flrFunction0 p a) ∧ Gives (.flrComplete dt (1024 + p)) s a ∧
     (portEn a port = true → portUp a port = true →
       let here := (vswDown a home v).filter fun q => (a.port q).up
       let away := ((List.range 31).map fun i => a.cfg 0x11 home i).filter fun e => rb e 31 && rf e 12 11 == v
       let keys := here.map (fun q => (v, q)) ++ away.map fun e => (v, 128 * (rf e 30 25 + 1) + rf e 24 18)
       let b := modPart home (fun q => { q with pmeWait := q.pmeWait.filter (fun x => x.1 != v) ++ keys }) a
       (here = [] → away = [] → Gives (.pmeTurnOff dt port) s (sendMsg port .pmeToAck b)) ∧
       (here ≠ [] ∨ away ≠ [] → Gives (.pmeTurnOff dt port) s
         (forAll away (fun e => tunnel port (rf e 30 25) (rf e 24 18) .pmeTurnOff) (forAll here (fun q => sendMsg q .pmeTurnOff) b)))) ∧
     (portEn a port = false ∨ portUp a port = false → Gives (.pmeTurnOff dt port) s a) ∧
     (∀ d u, portEn a port = true → portUp a port = false → upstreamPort a home v = some (d, u) →
       (d ≠ a.dev → Gives (.pmeToAck dt port) s (tunnel port d u .pmeToAck a)) ∧
       (d = a.dev → let waits := (a.part (portPart a u)).pmeWait; let left := waits.filter (· != (portVsw a u, port))
         let b := modPart (portPart a u) (fun q => { q with pmeWait := left }) a
         ((portVsw a u, port) ∉ waits → Gives (.pmeToAck dt port) s a) ∧
         ((portVsw a u, port) ∈ waits → (∃ x ∈ left, x.1 = portVsw a u) → Gives (.pmeToAck dt port) s b) ∧
         ((portVsw a u, port) ∈ waits → (∀ x ∈ left, x.1 ≠ portVsw a u) → Gives (.pmeToAck dt port) s (sendMsg u .pmeToAck b)))) ∧
     (portEn a port = false ∨ portUp a port = true ∨ upstreamPort a home v = none → Gives (.pmeToAck dt port) s a) ∧
     (let q := a.part p; let due := ∃ t, q.nfLast = some t ∧ t + nfGap a ≤ a.now
      (q.nfHeld = true → due → Gives (.nfGapExpiry dt p) s (func0Err p 1 .errNonFatal
        (modPart p (fun q => { q with nfLast := some a.now, nfHeld := false }) a))) ∧
      (q.nfHeld = false ∨ ¬ due → Gives (.nfGapExpiry dt p) s a)))

/-- Frames through the hub: a TLP at a port passes the checks of its bridge and is taken by its kind; a TLP that must not overtake an
earlier one of its stream waits for its turn; a waiting frame is looked up again under a new epoch, discarded under a fence, denied or lost
with its route, or acts or is staged when nothing holds it; a staged frame is admitted to its bank in its
turn; an assembled frame is checked at its target and queued; frames too old are discarded. The admission procedure (R50) step by step: a
RED hit drops a recoverable frame and marks a lossless one; otherwise the queue's minimum, the subscriber's reserve, the shared region while
the queue keeps its share of what is free, push-out, and otherwise headroom with xoff, or a TAIL drop. The fence comes before the route
(the model's choice, assumption 120). -/
def Obligations.FramesAreAdmitted : Prop :=
  (∀ (s : State) (dt : Time) (port : Nat) (t : Tlp), let a := advance dt s; let gives (b : State) : Prop := Gives (.pcieTlpReceived dt port t) s b
     let c := if (a.port port).ecrcCheck && t.ecrc == 2 then portUncorrectable port 19 a else a
     port < 128 →
     (pciePort a port = false → gives a) ∧
     (pciePort a port = true → a.errs.c4 = true → gives (if isNp t.kind && portUp a port then sendCpl port t.rid t.tag .ur a else a)) ∧
     (pciePort a port = true → a.errs.c4 = false →
       (acsViolates c port t = true → let d := emit (.pcieCredit port (streamOf t.kind) (ceilDiv t.payload 16)) c
         gives (portUncorrectable port 21 (if isNp t.kind then sendCpl port t.rid t.tag .ca d else d))) ∧
       (acsViolates c port t = false →
         ((c.port port).dpcTriggered = true → (a.port port).dpcTriggered = false → gives c) ∧
         ((c.port port).dpcTriggered = false ∨ (a.port port).dpcTriggered = true → gives (tlpReceived port t c))))) ∧
  (∀ (s : State) (port : Nat) (t : Tlp), portEn s port = true → portSpoke s port = none → s.errs.c4 = false →
     let b := if t.poisoned then
       record [portPart s port] { devRec s 0x0105 0 0 0 with srcPort := port, reqId := t.rid, tag := t.tag, address := t.addr } s else s
     let acts (x : State) : Prop :=
       (b.hub.stalled = true ∨ (streamWaits b port (streamOf t.kind) = true ∧ holdsRoom x b.hub.nextFid = false) →
         tlpReceived port t s = addWaiting
           { freshFrame b t t (portStation b port) (portPart b port) (svcOf b port t.tc) port b.dev port none with ends := some .turn } b) ∧
       (b.hub.stalled = false → streamWaits b port (streamOf t.kind) = false ∨ holdsRoom x b.hub.nextFid = true →
         tlpReceived port t s = creditBack port t b.hub.nextFid x)
     ((t.kind = .memReadLocked → acts (admitMrdlk port t b)) ∧
      (t.kind = .message .unlock → acts (unlockArrives port t b)) ∧
      (t.kind = .message .obff ∨ t.kind = .message .vdmOther → acts (if portUp b port then castDown port t b else admitTlp port t b)) ∧
      (bridgeTakes t.kind = true → acts (bridgeAct port t.kind b)) ∧
      (bridgeTakes t.kind = false → t.kind ≠ .memReadLocked → t.kind ≠ .message .unlock → t.kind ≠ .message .obff →
        t.kind ≠ .message .vdmOther → acts (admitTlp port t b)))) ∧
  (∀ (s : State) (dt : Time) (fid : Nat), let a := advance dt s
     (findFrame a fid = none → ∀ c ∈ [Instr.frameStage dt fid, .stagingLifetimeExpiry dt fid, .egressAdmission dt fid, .frameReassembled dt fid],
       Gives c s a) ∧
     (∀ f, findFrame a fid = some f → let st := portStation a f.outPort
       (f.place ≠ .waiting → Gives (.frameStage dt fid) s a) ∧
       (f.place = .waiting → let b := if f.epochStaged = a.conf.epoch then a else relookup f a
         (findFrame b fid = none → Gives (.frameStage dt fid) s b) ∧
         (∀ g, findFrame b fid = some g → let h := reroute b g
           let gone := freeFrame h (dropFrame fid b)
           (fencedNow b h = true → Gives (.frameStage dt fid) s (fencedDiscard (srcPartOf b h) h.dstDev h.dstPort gone)) ∧
           (fencedNow b h = false → routeGone b h = true → Gives (.frameStage dt fid) s (denyRoute h gone)) ∧
           (fencedNow b h = false → routeGone b h = false → pathDead b h = true → Gives (.frameStage dt fid) s (loseWaiting h gone)) ∧
           (fencedNow b h = false → routeGone b h = false → pathDead b h = false →
             (holdOf b h = .ready → h.ends = some .bridge → Gives (.frameStage dt fid) s (bridgeTurn h b)) ∧
             (holdOf b h = .ready → h.ends = some .turn → Gives (.frameStage dt fid) s (takeTurn turnAct h b)) ∧
             (holdOf b h = .ready → actsAtLink h = false → Gives (.frameStage dt fid) s (stage h b)) ∧
             (holdOf b h ≠ .ready → Gives (.frameStage dt fid) s (countHold h (holdOf b h) b))))) ∧
       (f.place = .staged → ms ≤ age a f → Gives (.stagingLifetimeExpiry dt fid) s (discard f .lifetime a)) ∧
       (f.place ≠ .staged ∨ age a f < ms → Gives (.stagingLifetimeExpiry dt fid) s a) ∧
       (let turn := (admitFirst a ((servedNow a st).filter fun g => g.place == .staged)).map (·.fid)
        (a.errs.c4 = false → turn = some fid → Gives (.egressAdmission dt fid) s (admission f a)) ∧
        (a.errs.c4 = true ∨ turn ≠ some fid → Gives (.egressAdmission dt fid) s a)) ∧
       (f.place = .staged → f.att < 21 → a.errs.c4 = false → xoffHolds a f = false → 0 < fcells f →
         (∀ g ∈ a.hub.frames, inStaging g = true → g = f) →
         Gives (.egressAdmission dt fid) s (admission f a)) ∧
       (let was := a.hub.frames.any fun g => g.place == .queued && g.outPort == f.outPort && qOf g == qOf f
        let k := f.outPort * 576 + qOf f
        let b : State := if was then a
          else { a with sched.backlogSince := tput a.sched.backlogSince k a.now, sched.behind := tput a.sched.behind k (0, a.now) }
        let queued : State := { b with hub.frames := (b.hub.frames.filter fun g => g.fid != f.fid) ++
          [{ f with place := .queued, epochGuard := a.conf.epoch }] }
        let assembled (t : State) : Prop := Gives (.frameReassembled dt fid) s t
        let long := (a.port f.dstPort).mps < f.tlp.payload
        let poison := portUp a f.dstPort = false ∧ (a.port f.dstPort).poisonBlock = true ∧ f.tlp.poisoned = true
        let blocked := (a.port f.dstPort).atomicBlock = true ∧ f.tlp.kind = .atomic
        let signalled := signalUncorrectable f.dstPort 26 (discard f .blocked a)
        (f.place ≠ .bank ∨ a.hub.stalled = true → assembled a) ∧
        (f.place = .bank → a.hub.stalled = false → leavesHere a f = false ∨ f.test = true → assembled queued) ∧
        (f.place = .bank → a.hub.stalled = false → leavesHere a f = true → f.test = false →
          (∀ why, portClosed a f.dstPort = some why → assembled (discard f why a)) ∧
          (portClosed a f.dstPort = none →
            (¬ long → poison → assembled signalled) ∧
            (∀ cs, f.tlp.kind = .completion cs → (long → assembled (cplTooLong f a)) ∧ (¬ long → ¬ poison → assembled queued)) ∧
            ((∀ cs, f.tlp.kind ≠ .completion cs) →
              (long → assembled (discard f .size a)) ∧ (¬ long → ¬ poison → blocked → assembled (discard f .blocked a)) ∧
              (¬ long → ¬ poison → ¬ blocked →
                (∀ i, guardFrame a f = some i → assembled (guardDenied f i a)) ∧ (guardFrame a f = none → assembled queued)))))))) ∧
  (∀ (s : State) (dt : Time), let a := advance dt s
     Gives (.lifetimeSweep dt) s (flushWhere (fun f => f.place == .queued && decide (992 * us ≤ age a f)) .lifetime a) ∧
     (∀ att port svc, att < 21 → port < 128 → svc < 8 → ∃ y : State, Gives (.xoffReachIngress dt att port svc) s y ∧
       ((tfind y.hub.xoffSeen (att * 1024 + port * 8 + svc)).isSome = pairXoff a port svc))) ∧
  (∀ (s : State) (f : Frame), let q := qOf f; let st := portStation s f.outPort; let n := fcells f
     let avg := updatedAvg s f.outPort q
     let drawnState : State := drew { s with hub.avg := tput s.hub.avg (f.outPort * 576 + q) (avg, s.now) }
     let hit := redHit s f.outPort q f.colour avg
     let g : Frame := if hit then { f with mark := true } else f
     let b : State := if hit then emit (.echo f.att f.sub) (count1 (cQueue f.outPort q 2) drawnState) else drawnState
     let minUsed := cellsOf ((seenFrames b st).filter fun g => g.outPort == f.outPort && qOf g == q && g.region == .minimum)
     let reserved := cellsOf ((seenFrames b st).filter fun g => g.sub == f.sub && g.region == .reserve)
     let shared := cellsOf ((seenFrames b st).filter fun g => g.outPort == f.outPort && qOf g == q && g.region == .shared)
     let U := cellsOf ((seenFrames b st).filter fun g => g.region == .shared); let S := sharedSize b st
     let fits : Prop := (shared + n) * 64 ≤ 2 ^ rf (s.cfg 0x28 f.outPort q) 27 24 * (S - U)
     let full : Prop := if f.rcv then admission f s = dropAt g 0x2 b
       else admission f s = assertXoff f.outPort f.svc (charge g .headroom (count1 (cPair f.outPort f.svc 3) b))
     (f.rcv = true → hit = true → admission f s = dropAt f 0x1 drawnState) ∧
     (f.rcv = false ∨ hit = false →
       (minUsed + n ≤ rf (s.cfg 0x28 f.outPort q) 13 0 →
         admission f s = charge g .minimum (count1 (cPair f.outPort f.svc 0) b)) ∧
       (rf (s.cfg 0x28 f.outPort q) 13 0 < minUsed + n → reserved + n ≤ rf (s.cfg 0x29 st f.sub) 15 0 →
         admission f s = charge g .reserve (count1 (cPair f.outPort f.svc 1) b)) ∧
       (rf (s.cfg 0x28 f.outPort q) 13 0 < minUsed + n → rf (s.cfg 0x29 st f.sub) 15 0 < reserved + n →
         (subStrict s f.sub = false → U + n ≤ S → fits →
           admission f s = charge g .shared (count1 (cPair f.outPort f.svc 2) b)) ∧
         (subStrict s f.sub = true ∨ (U + n ≤ S ∧ ¬ fits) → full) ∧
         (subStrict s f.sub = false → S < U + n →
           (pushoutVictims b st f.svc (U + n - S) = [] → full) ∧
           (pushoutVictims b st f.svc (U + n - S) ≠ [] →
             admission f s = charge g .shared (count1 (cPair f.outPort f.svc 2)
               (forAll (pushoutVictims b st f.svc (U + n - S))
                 (fun v s => dropNotice v 0x3 (count1 (cPair f.outPort f.svc 11) (takeOut v s))) b)))))))

/-- Selection and departure: the first port in turn that qualifies is served, from the guarantee pass first; a frame too old, or denied
under the epoch now in force, is discarded; one in the tick of a commit uses the records of the tick's start (R100); the selected frame's
charge stands before it is sent, and its last byte puts it on the link, or its cells on the spoke, and into its mover batch, which leaves 2
µs after its first departure. -/
def Obligations.SelectionAndDeparture : Prop :=
  (∀ (s : State) (dt : Time) (st : Nat) (no : List (Nat × Nat)), let c := advance dt s
     let a := forAll (stationPorts c st) (dropIdle no) c
     let from' := tget 0 a.sched.pointers st
     let order := ((stationPorts c st).filter fun p => decide (from' ≤ p)) ++ (stationPorts c st).filter fun p => decide (p < from')
     let usual := ∀ x, c.conf.before = some x → x.1 ≠ coreTick c
     st < 20 →
     (c.errs.c4 = true → Gives (.egressSelect dt st no) s c) ∧
     (c.errs.c4 = false → ∀ old, c.conf.before = some (coreTick c, old) →
       Gives (.egressSelect dt st no) s (underOld old (selectOne st no) c)) ∧
     (c.errs.c4 = false → usual → order.find? (qualifies a no) = none → Gives (.egressSelect dt st no) s a) ∧
     (∀ p f, c.errs.c4 = false → usual → order.find? (qualifies a no) = some p →
       let b : State := { a with sched.pointers := tset 0 a.sched.pointers st (p + 1) }
       (∀ q, guaranteePass b p (eligibleQueues b no p) = some q → candidate b no p q = some f →
         Gives (.egressSelect dt st no) s (transmit f true [] [] b)) ∧
       (∀ q d ptr, guaranteePass b p (eligibleQueues b no p) = none → excessPass b no p (eligibleQueues b no p) = some (q, d, ptr) →
         candidate b no p q = some f → Gives (.egressSelect dt st no) s (transmit f false d ptr b)))) ∧
  (∀ (s : State) (f : Frame) (byGuarantee : Bool) (d : Tbl Int) (ptr : Tbl Nat),
     let denied := leavesHere s f && !f.test && f.epochGuard != s.conf.epoch && (guardFrame s f).isSome
     let b := chargePath f byGuarantee s
     let charged : State := if byGuarantee then b else { b with sched.deficits := d, sched.pointers := ptr }
     let sent := dropIdle [] f.outPort (modFrame f.fid (fun g => { g with
       place := .sending, picked := some (coreTick s, byGuarantee) }) (countShort f charged))
     let bridgedWrite := leavesHere s f = true ∧ f.srcDev ≠ s.dev ∧ f.rcv = false ∧ f.tlp.kind = .memWrite
     (ms ≤ age s f → transmit f byGuarantee d ptr s = discard f .lifetime s) ∧
     (age s f < ms → denied = true → transmit f byGuarantee d ptr s = guardDenied f ((guardFrame s f).getD 64) s) ∧
     (age s f < ms → denied = false →
       (¬ bridgedWrite → transmit f byGuarantee d ptr s = sent) ∧
       (bridgedWrite → transmit f byGuarantee d ptr s = pushAck f (ackRecOf sent f false 0) sent))) ∧
  (∀ (s : State) (dt : Time) (fid lane p : Nat), let a := advance dt s
     (findFrame a fid = none → Gives (.frameDepart dt fid) s a) ∧
     (∀ f, findFrame a fid = some f →
       (f.place ≠ .sending → Gives (.frameDepart dt fid) s a) ∧
       (f.place = .sending → let k := streamOf f.tlp.kind
         let left := countBytes (cQueue f.outPort (qOf f) 1) f.tlp.frameBytes (count1 (cQueue f.outPort (qOf f) 0) (removeFrame f a))
         (f.test = true → Gives (.frameDepart dt fid) s (issueTest f.outPort (countLoop 4 f.outPort 65 0 left))) ∧
         (f.test = false →
           let b := bwAdd f.outPort true f.tlp.frameBytes (countBytes (cPort f.outPort (6 + 2 * k + 1)) f.tlp.frameBytes
             (count1 (cPort f.outPort (6 + 2 * k)) left))
           (∀ sp, portSpoke a f.outPort = some sp → Gives (.frameDepart dt fid) s
             (modSpoke sp (fun x => { x with tx := { x.tx with unsent := x.tx.unsent ++ cellsFor f } }) b)) ∧
           (portSpoke a f.outPort = none → let linked := emit (.tlp f.outPort f.tlp) b
             (∀ w, f.work = some w → Gives (.frameDepart dt fid) s (batchDeparture f w linked)) ∧
             (f.work = none → f.tlp.kind = .message .unlock → Gives (.frameDepart dt fid) s (unlockHandedOff f linked)) ∧
             (f.work = none → f.tlp.kind ≠ .message .unlock → Gives (.frameDepart dt fid) s linked))))) ∧
     (lane < 8 → p < 128 → Gives (.noticeBatchTimer dt lane p) s
       (forAll (a.hub.batches.filter fun e => e.1 % 128 == p && e.1 / 128 % 8 == lane && decide (e.2.first + 2 * us ≤ a.now))
         (fun e b => sendNotices e.2.dev (64 + lane) e.2.ns { b with hub.batches := tdel b.hub.batches e.1 }) a)))

/-- Shapers (R74, R75): credit grows with time at the rate and never exceeds the burst; what passes is deducted, the rest kept to 1/256 byte
(R77), and a shaper that falls below 0 closes. A recovery step that is due comes before an echo (R101). Wheels, congestion echoes and
recovery: the first 32 due entries of a fine wheel open their shapers, the entries of the coming revolution move on from the coarse wheel,
an echo outside the hold lowers CUR_RATE to floor(CUR_RATE x (8 + MD) / 16) but not below FLOOR, and a period without an echo raises it by
AI_STEP up to the ceiling (R93). -/
def Obligations.ShapersWheelsAndEchoes : Prop :=
  (∀ (s : State) (dt : Time) (k : Nat) (L : Int),
     let c := kept (min (creditNow s k - L * creditUnit) (shBurst s k))
     creditNow s k ≤ shBurst s k ∧
     (spreadPpm s.chip.coreSsc = 0 → (s.sh k).last ≤ s.now →
       creditNow (advance dt s) k = min ((s.sh k).credit + (shRate s k * (s.now - (s.sh k).last) + shRate s k * dt : Nat)) (shBurst s k)) ∧
     (shRate s k = 0 → chargeSh k L s = s) ∧
     (shRate s k ≠ 0 → 0 ≤ c → ((chargeSh k L s).sh k) = { s.sh k with credit := c, last := s.vco }) ∧
     (shRate s k ≠ 0 → c < 0 → slotNow s < eligibleSlot s k c →
       ((chargeSh k L s).sh k) = { s.sh k with credit := c, last := s.vco, isOpen := false }) ∧
     ((openSh k s).sh k).isOpen = true) ∧
  (∀ (s : State) (dt : Time) (inst : Nat), let a := advance dt s
     inst < 42 →
     (let ws := tget [] a.sched.fine inst
      let due := (ws.filter fun w => decide (w.due ≤ slotNow a)).take 32
      ∃ t : State, Gives (.wheelSlotRelease dt inst) s t ∧
        t = forAll due (fun w b => openSh w.key b) { a with sched.fine := tset [] a.sched.fine inst (ws.filter fun w => !due.contains w) } ∧
        (∀ w ∈ due, (t.sh w.key).isOpen = true) ∧ tget [] t.sched.fine inst = ws.filter fun w => !due.contains w) ∧
     (let ws := tget [] a.sched.coarse inst
      let slot := (slotNow a / 4096 + 1) % 4096
      ∃ t : State, Gives (.wheelRevolution dt inst) s t ∧
        t = forAll (ws.filter fun w => w.slot == slot) (fun w => wheelInsert inst w.key w.due)
          { a with sched.coarse := tset [] a.sched.coarse inst (ws.filter fun w => w.slot != slot) } ∧
        (∀ w ∈ ws, w.slot ≠ slot → w ∈ tget [] t.sched.coarse inst) ∧
        (∀ w ∈ ws, w.slot = slot → (w.due ≤ slotNow a → (t.sh w.key).isOpen = true) ∧
          (slotNow a < w.due → w.due / 4096 ≤ slotNow a / 4096 + 1 → (⟨w.due % 4096, w.key, w.due⟩ : WheelEntry) ∈ tget [] t.sched.fine inst)))) ∧
  (∀ (s : State) (dt : Time) (att sub : Nat), let a := advance dt s; let k := att * 72 + sub
     att < 21 → sub < 72 → let b := recoveryStep att sub (count1 (cSub att sub 3) a)
     (ingEcho b att sub = false ∨ ingressCeiling b att sub = 0 → Gives (.echoReceived dt att sub) s b) ∧
     (ingEcho b att sub = true → ingressCeiling b att sub ≠ 0 →
       let c := (tfind b.sched.cur k).getD ⟨ingressCeiling b att sub, none, b.now⟩
       ((∀ t, c.lastDecrease = some t → t + ingHold b att sub ≤ b.now) → ∃ t : State, Gives (.echoReceived dt att sub) s t ∧
         t = setCurRate att sub ⟨max (ingFloor b att sub) (c.cur * (8 + ingMd b att sub) / 16), some b.now, b.now⟩ b ∧
         curRate t att sub = max (ingFloor b att sub) (c.cur * (8 + ingMd b att sub) / 16)) ∧
       ((∃ t, c.lastDecrease = some t ∧ b.now < t + ingHold b att sub) → ∃ t : State, Gives (.echoReceived dt att sub) s t ∧
         t = { b with sched.cur := tput b.sched.cur k { c with timer := b.now } } ∧ curRate t att sub = c.cur)) ∧
     (∀ c, tfind a.sched.cur k = some c →
       (ingEcho a att sub = true → c.timer + ingPeriod a att sub ≤ a.now → ∃ t : State, Gives (.shaperRecoveryStep dt att sub) s t ∧
         t = setCurRate att sub { c with
           cur := min (ingressCeiling a att sub) (c.cur + ingStep a att sub), timer := c.timer + ingPeriod a att sub } a ∧
         curRate t att sub = min (ingressCeiling a att sub) (c.cur + ingStep a att sub)) ∧
       (ingEcho a att sub = false ∨ a.now < c.timer + ingPeriod a att sub → Gives (.shaperRecoveryStep dt att sub) s a)) ∧
     (tfind a.sched.cur k = none → Gives (.shaperRecoveryStep dt att sub) s a))

/-- The tag table and the write trackers at their times: a read that times out is answered with Completer Abort, recorded and quarantined; an
entry leaves its quarantine; a completion that matches an entry goes on to its requester, and frees the entry with its last byte or with
another status; a write without an answer for 8 ms fails NO_ANSWER; answers free their tracker. A write failure opens an episode, fences its
key unless the partition continues, and joins an open episode after that (R236, R237); an episode closes 1 ms after its last failure once no
fence holds it (R238). Messages between the bridges: batched acknowledgements leave 1 µs after the first, ranges are kept per bridge, and an
error record of a partition at home here goes to its ring and signals. -/
def Obligations.BridgeTimersAndWriteFailures : Prop :=
  (∀ (s : State) (dt : Time) (i : Nat), let a := advance dt s
     (i < 65536 →
       (∀ e, tfind a.bridge.tags i = some e →
         (e.live = true → e.issued + e.timeout ≤ a.now → e.func = none → Gives (.readTimeout dt i) s
           (quarTag i (episodeRecord true e.srcPart (tagRec a e 0x0411 (e.timeout / 1024) 0)
             (answerEntry e .ca (count1 (cPart e.srcPart 2) a))))) ∧
         (e.live = false ∨ a.now < e.issued + e.timeout → Gives (.readTimeout dt i) s a) ∧
         (e.live = false → e.freeAt ≤ a.now → Gives (.tagQuarantineEnd dt i) s (freeTag i a)) ∧
         (e.live = true ∨ a.now < e.freeAt → Gives (.tagQuarantineEnd dt i) s a)) ∧
       (tfind a.bridge.tags i = none → Gives (.readTimeout dt i) s a ∧ Gives (.tagQuarantineEnd dt i) s a)) ∧
     (i < 32768 →
       (∀ t, tfind a.bridge.trackers i = some t →
         (t.live = true → t.issued + 8 * ms ≤ a.now → Gives (.trackerNoAnswer dt i) s
           (writeFailure 8 (trackerRec t a) t.srcPart
             { a with bridge.trackers := tput a.bridge.trackers i { t with live := false, freeAt := a.now + quarantine } })) ∧
         (t.live = false ∨ a.now < t.issued + 8 * ms → Gives (.trackerNoAnswer dt i) s a) ∧
         (t.live = false → t.freeAt ≤ a.now → Gives (.trackerQuarantineEnd dt i) s
           { a with bridge.trackers := tdel a.bridge.trackers i }) ∧
         (t.live = true ∨ a.now < t.freeAt → Gives (.trackerQuarantineEnd dt i) s a)) ∧
       (tfind a.bridge.trackers i = none → Gives (.trackerNoAnswer dt i) s a ∧ Gives (.trackerQuarantineEnd dt i) s a))) ∧
  (∀ (s : State) (dt : Time) (spoke : Option Nat) (sub colour : Nat) (c : Tlp), let a := advance dt s
     let gives (t : State) : Prop := Gives (.bridgedCompletion dt spoke sub colour c) s t
     let keyed (x : Nat × TagEntry) : Bool := x.2.asPart == sub && x.2.asRid == c.targetId && x.2.wireTag == c.tag
     okSpokeOpt spoke = true → sub < 72 →
     (streamOf c.kind ≠ 2 → gives a) ∧
     (streamOf c.kind = 2 → (a.bridge.tags.find? fun x => x.2.live && keyed x) = none →
       gives (lateCompletion sub c.targetId c.tag ((a.bridge.tags.find? fun x => !x.2.live && keyed x).map fun x => x.2.issuedFt) a)) ∧
     (∀ i e, streamOf c.kind = 2 → (a.bridge.tags.find? fun x => x.2.live && keyed x) = some (i, e) →
       let long := e.func = none ∧ (a.port e.origPort).mps < c.payload
       let t : Tlp := { c with targetId := e.origRid, tag := e.origTag }
       (long → gives (quarTag i (answerEntry e .ca (episodeRecord true e.srcPart
         { tagRec a e 0x0414 c.payload (a.port e.origPort).mps with srcPart := some e.srcPart } (count1 (cPort e.origPort 29) a))))) ∧
       (¬ long → let ended := c.kind ≠ .completion .sc ∨ e.remaining ≤ c.payload
         let f : Frame := { cplFrame a spoke sub (svcOf a e.origPort c.tc) c with
           colour := min colour 2, slots := false, tlp := t, dstDev := a.dev, dstPort := e.origPort, tagEntry := some i
           issuedRid := e.origRid, issuedTag := e.origTag, ends := e.func.map fun _ => .functions e.srcPart }
         (ended → gives (newFrame f (freeTag i a))) ∧
         (¬ ended → gives (newFrame f { a with
           bridge.tags := tput a.bridge.tags i { e with remaining := e.remaining - c.payload } }))))) ∧
  (∀ (s : State) (dt : Time) (rs : List AckRec), Gives (.ackCellReceived dt rs) s (forAll rs resolveAnswer (advance dt s))) ∧
  (∀ (a : State) (r : AckRec),
     (∀ i t, (a.bridge.trackers.find? fun x => x.2.live && answers r x.2) = some (i, t) → tfind a.bridge.trackers i = some t →
       (r.nak = false → resolveAnswer r a = { a with bridge.trackers := tdel a.bridge.trackers i }) ∧
       (r.nak = true → resolveAnswer r a =
         writeFailure r.cause (trackerRec t a) t.srcPart { a with bridge.trackers := tdel a.bridge.trackers i })) ∧
     ((a.bridge.trackers.find? fun x => x.2.live && answers r x.2) = none →
       resolveAnswer r a = lateAnswer r ((a.bridge.trackers.find? fun x => answers r x.2).map (·.2)) a)) ∧
  (∀ (s : State) (dt : Time) (cause part : Nat) (r : ErrRec),
     let b := count1 (cPart part (3 + (cause - 1))) s; let full := { r with cause := 0x0400 + cause, cls := 1 }
     (∀ e, findEpisode s 0 part r.dstDev r.dstPort = some e →
       writeFailure cause r part s = extendEpisode 0 part r.dstDev r.dstPort b) ∧
     (findEpisode s 0 part r.dstDev r.dstPort = none → let t := record [part] { full with fl := 2, count := 1 } b
       continues s part = false → fenced s part r.dstDev r.dstPort = false → t.bridge.episodes.length < 1024 →
       writeFailure cause r part s = { t with
         bridge.fences := t.bridge.fences ++ [(part, r.dstDev, r.dstPort)]
         bridge.episodes := t.bridge.episodes ++ [⟨0, part, r.dstDev, r.dstPort, 1, s.now, full, true⟩] }) ∧
     (let a := advance dt s
      ∀ c p d q, p ≤ 64 → d < 64 → q < 128 →
       (∀ e, findEpisode a c p d q = some e →
         (closable a e = true → Gives (.episodeClose dt c p d q) s (closeEpisode e
           { a with bridge.episodes := (a.bridge.episodes.filter fun x => !(x.cause == c && x.part == p && x.dev == d && x.port == q)) })) ∧
         (closable a e = false → Gives (.episodeClose dt c p d q) s a)) ∧
       (findEpisode a c p d q = none → Gives (.episodeClose dt c p d q) s a))) ∧
  (∀ (s : State) (dt : Time) (d p : Nat), let a := advance dt s
     (d < 64 → Gives (.ackBatch dt d) s (forAll (a.bridge.acks.filter fun e => e.1 / 64 == d && decide (e.2.first + us ≤ a.now))
       (fun e b => post (.ackCell d (e.1 % 64) e.2.recs) { b with bridge.acks := tdel b.bridge.acks e.1 }) a)) ∧
     (∀ m : RangeMsg, m.part < 64 → m.dev < 64 → m.port < 128 → Gives (.rangeSync dt m) s { a with
       bridge.ranges := (a.bridge.ranges.filter fun x => !(x.part == m.part && x.dev == m.dev && x.port == m.port)) ++ [m] }) ∧
     (∀ r : ErrRec, p < 64 →
       (partHome a p = a.dev → let b := signalRecord p r (ringWrite p r a)
         (r.cause ≠ 0x0B04 ∨ (a.part p).contained = true → Gives (.errRecord dt p r) s b) ∧
         (r.cause = 0x0B04 → (a.part p).contained = false → Gives (.errRecord dt p r) s (containHere p b))) ∧
       (partHome a p ≠ a.dev → Gives (.errRecord dt p r) s a)))

/-- Port semaphores (R245 to R248): an MRdLk opens a sequence that asks for both semaphores, unless it belongs to one whose Unlock has not
come, a free semaphore is granted, an older request
makes the owner yield, a granted pair locks the sequence, a yield gives back what is held and asks again with the same stamp, and
LOCK_RELEASE passes the semaphore to its oldest waiter, or ends the sequence at the owner's device. -/
def Obligations.PortSemaphores : Prop :=
  (∀ (s : State) (dt : Time) (stamp od ip p : Nat), let a := advance dt s; let m := a.sem
     od < 64 → ip < 128 → p < 128 →
     ((m p).owner = none → Gives (.lockReq dt stamp od ip p) s (grantSem p (stamp, od, ip) a)) ∧
     (∀ o, (m p).owner = some o → let b := putSem p { m p with waiters := enqueueLock (m p).waiters (stamp, od, ip) } a
       (older (stamp, od, ip) o = false → Gives (.lockReq dt stamp od ip p) s b) ∧
       (older (stamp, od, ip) o = true → o.2.1 ≠ a.dev → Gives (.lockReq dt stamp od ip p) s
         (post (.mgmt o.2.1 0x0312 [o.2.1, o.2.2]) (count1 (cPart (portPart a p) 16) b))) ∧
       (older (stamp, od, ip) o = true → o.2.1 = a.dev → Gives (.lockReq dt stamp od ip p) s (yieldWith (requestWithin 127) o.2.2 b))) ∧
     (∀ td, od ≠ a.dev → td < 64 → Gives (.lockGrant dt od ip td p) s a ∧ Gives (.lockYield dt od ip) s a) ∧
     (∀ q, od = a.dev → a.bridge.seqs = [q] → q.dev = a.dev → q.port = ip → q.targetDev < 64 → q.targetPort < 128 →
       q.targetDev ≠ a.dev ∨ q.targetPort ≠ ip → q.heldTarget = false →
       (q.heldIngress = true → ∃ t : State, Gives (.lockGrant dt od ip q.targetDev q.targetPort) s t ∧
         t.bridge.seqs = [{ q with heldTarget := true, locked := true }] ∧
         (q.targetDev ≠ a.dev → ∀ x, t.sem x = m x) ∧
         (q.targetDev = a.dev → t.sem q.targetPort = { m q.targetPort with locked := true })) ∧
       (q.heldIngress = false → Gives (.lockGrant dt od ip q.targetDev q.targetPort) s
         { a with bridge.seqs := [{ q with heldTarget := true }] })) ∧
     (od = a.dev → findSeq a ip = none → Gives (.lockYield dt od ip) s a) ∧
     (∀ q, od = a.dev → findSeq a ip = some q →
       (q.locked = true → Gives (.lockYield dt od ip) s a) ∧
       (q.locked = false →
         let b := count1 (cPort ip 23) (count1 (cPart q.part 17) a)
         let b1 := if q.heldIngress then dropReq ip (q.stamp, q.dev, ip) b else b
         let b2 := if q.heldTarget then releaseTarget q b1 else b1
         let b3 := modSeq q (fun q => { q with heldIngress := false, heldTarget := false }) b2
         let b4 := if q.heldIngress then requestSem ip (q.stamp, q.dev, ip) b3 else b3
         Gives (.lockYield dt od ip) s (if q.heldTarget then askTarget q requestSem b4 else b4))) ∧
     (let left := (m p).waiters.filter fun w => !(w.2.1 == od && w.2.2 == ip)
      let mine := ∃ st, (m p).owner = some (st, od, ip)
      od ≠ a.dev →
      (∀ w rest, mine → (m p).waiters = w :: rest →
        Gives (.lockReleaseMessage dt od ip p) s (grantSem p w (putSem p { owner := none, waiters := rest, locked := false } a))) ∧
      (mine → (m p).waiters = [] → Gives (.lockReleaseMessage dt od ip p) s (putSem p {} a)) ∧
      (¬ mine → Gives (.lockReleaseMessage dt od ip p) s (putSem p { m p with waiters := left } a))) ∧
     (od = a.dev →
       let found := a.bridge.seqs.find? fun q => seqAt a ip q && q.targetPort == p && q.targetDev != a.dev
       (found = none → Gives (.lockReleaseMessage dt od ip p) s (releaseSem ip a.dev ip a)) ∧
       (∀ q, found = some q →
         let finished (b : State) : State := dropReq ip (q.stamp, q.dev, q.port)
           { b with bridge.seqs := b.bridge.seqs.filter fun x => !(x.dev == q.dev && x.port == q.port && x.stamp == q.stamp) }
         (q.unlock.isSome = true → Gives (.lockReleaseMessage dt od ip p) s (finished a)) ∧
         (q.unlock = none → Gives (.lockReleaseMessage dt od ip p) s
           (finished (abortWaiting q (endLockedReads q.port q.targetDev q.targetPort a)))))) ∧
     ((m p).owner = none → ∀ w rest, (m p).waiters = w :: rest →
       Gives (.arbiterGrant dt (65 + p)) s (grantSem p w (putSem p { m p with waiters := rest } a))) ∧
     ((m p).owner ≠ none ∨ (m p).waiters = [] → Gives (.arbiterGrant dt (65 + p)) s a)) ∧
  (∀ (s : State) (dt : Time) (ip : Nat) (t : Tlp), let a := advance dt s; let lk : Tlp := { t with kind := .memReadLocked }
     let begun (b : State) (d q n : Nat) : State :=
       let sq : LockSeq := { dev := b.dev, port := ip, stamp := b.ft.count, part := portPart b ip, targetDev := d, targetPort := q
                             heldIngress := false, heldTarget := false, locked := false, tlp := lk, fid := n }
       askTarget sq requestSem (requestSem ip (sq.stamp, sq.dev, ip) { b with bridge.seqs := b.bridge.seqs ++ [sq] })
     ip < 128 →
     (portEn a ip = false → a.errs.c4 = false → Gives (.mrdlkArrival dt ip t) s a) ∧
     (pciePort a ip = true → a.errs.c4 = false → (a.port ip).ecrcCheck = false ∨ t.ecrc ≠ 2 → acsViolates a ip lk = false →
       let b := admitTlp ip lk a
       let entered := b.hub.frames.find? fun f => decide (a.hub.nextFid ≤ f.fid) && f.srcPort == ip && f.ends.isNone
       let joins := ∃ x, lastSeq a ip = some x ∧ x.unlock = none
       let acts (x : State) : Prop :=
         (a.hub.stalled = true ∨ (streamWaits a ip 1 = true ∧ holdsRoom x a.hub.nextFid = false) → Gives (.mrdlkArrival dt ip t) s (addWaiting
           { freshFrame a lk lk (portStation a ip) (portPart a ip) (svcOf a ip t.tc) ip a.dev ip none with ends := some .turn } a)) ∧
         (a.hub.stalled = false → streamWaits a ip 1 = false ∨ holdsRoom x a.hub.nextFid = true →
           Gives (.mrdlkArrival dt ip t) s (creditBack ip lk a.hub.nextFid x))
       (∀ d q t' win f, lookup a (.pcie ip) lk = .go d q t' win → entered = some f →
         (joins → acts b) ∧ (¬ joins → acts (begun b d q f.fid))) ∧
       (entered = none ∨ (∀ d q t' win, lookup a (.pcie ip) lk ≠ .go d q t' win) → acts b)))

/-- A spoke sends a cell in beats: the cell that interrupts another goes on first, then the one under way, which a cell of a higher service
may interrupt between PREEMPT and RESUME, then the cells to be replayed, then the oldest new cell that may start (R182, R183, R185, R188). A
new cell sent to its end has the next link sequence and waits in the replay buffer; one not sent to its end goes on later (R185, R186).
Beats of a cell are gathered, and a control beat between them takes effect (R170). The expected cell is taken and its sequence passed
(R186); a duplicate changes nothing; a failed cell, or a sequence further on, is answered with RETRY_REQ, and counted again while the replay
is awaited as assumption 153 says; the fifth failure retires the one lane that explains it, or takes the spoke down (R187, R190, R191). -/
def Obligations.CellsCrossSpokes : Prop :=
  (∀ (s : State) (dt : Time) (k n : Nat), let a := nextTest k (advance dt s); let x := limitsNow a (a.spoke k)
     k < 40 →
     (x.state ≠ 6 ∨ a.errs.c4 = true ∨ n = 0 ∨ x.rx.switch.isSome = true → Gives (.spokeCellSend dt k n) s a) ∧
     (x.state = 6 → a.errs.c4 = false → n ≠ 0 → x.rx.switch = none →
       (∀ g, x.tx.pre = some g → Gives (.spokeCellSend dt k n) s (sendPre k n g a)) ∧
       (x.tx.pre = none →
         (∀ g, x.tx.cur = some g →
           (preemptor a k g = none → Gives (.spokeCellSend dt k n) s (sendCur k n g a)) ∧
           (∀ i b, preemptor a k g = some (i, b) →
             Gives (.spokeCellSend dt k n) s (sendPre k n ⟨b, 0, false⟩ (sendBeat k 2 b.hdr.svc 0 (takeUnsent k i a))))) ∧
         (x.tx.cur = none →
           (∀ c r, x.tx.resend = c :: r → Gives (.spokeCellSend dt k n) s (sendCur k n ⟨c, 0, true⟩
             (modSpoke k (fun x => { x with tx := { x.tx with resend := r } }) a))) ∧
           (x.tx.resend = [] → replayRoom x = false → Gives (.spokeCellSend dt k n) s a) ∧
           (x.tx.resend = [] → replayRoom x = true → pickCell x (fun _ => true) [] x.tx.unsent 0 = none →
             (x.tx.unsent = [] → Gives (.spokeCellSend dt k n) s a) ∧
             (∀ c r, x.tx.unsent = c :: r →
               Gives (.spokeCellSend dt k n) s (count1 (cSpoke k (ckStall + cellPool c.hdr.type)) a))) ∧
           (x.tx.resend = [] → replayRoom x = true → ∀ i c, pickCell x (fun _ => true) [] x.tx.unsent 0 = some (i, c) →
             c.data.length = c.hdr.len →
             let w := max 1 (laneCount x)
             let sent := { c with lseq := x.tx.nextSeq, ackSeq := (x.rx.expSeq + 2047) % 2048, ackV := x.rx.accepted }
             ∃ t : State, Gives (.spokeCellSend dt k n) s t ∧ (t.spoke k).tx.unsent = x.tx.unsent.eraseIdx i ∧
               (∀ l, l ≠ k → t.spoke l = a.spoke l) ∧
               (16 + c.hdr.len ≤ n * w → loopLink a k = false →
                 t.out.getLast? = some (.cell k sent) ∧ (t.spoke k).tx.replay = x.tx.replay ++ [sent] ∧ (t.spoke k).tx.cur = none ∧
                 (t.spoke k).tx.nextSeq = (x.tx.nextSeq + 1) % 2048 ∧ (t.spoke k).rx.owedAck = none ∧
                 tget 0 (t.spoke k).tx.sent (poolKey c) = (tget 0 x.tx.sent (poolKey c) + 1) % 65536 ∧
                 ∀ key, key ≠ poolKey c → tget 0 (t.spoke k).tx.sent key = tget 0 x.tx.sent key) ∧
               (n * w < 16 + c.hdr.len → (t.spoke k).tx.cur = some ⟨sent, n * w, false⟩ ∧
                 (t.spoke k).tx.replay = x.tx.replay ∧ (t.spoke k).tx.nextSeq = x.tx.nextSeq)))))) ∧
  (∀ (s : State) (dt : Time) (k : Nat) (beats : List Beat) (body : CellBody) (e b : State) (x : Spoke) (c : Cell) (crcOk : Bool) (bad : Nat),
     e = beats.foldl (takeBeat k) (advance dt s) → b = modSpoke k (fun x => { x with rx := { x.rx with part := {} } }) e → x = b.spoke k →
     cellOf (laneCount (e.spoke k)) (e.spoke k).rx.part.bytes body = (c, crcOk) → bad = (e.spoke k).rx.part.bad → k < 40 →
     ((e.spoke k).state ≠ 6 ∨ cellEnded (e.spoke k) = false → Gives (.spokeCellReceive dt k beats body) s e) ∧
     ((e.spoke k).state = 6 → cellEnded (e.spoke k) = true → loopLink e k = true →
       Gives (.spokeCellReceive dt k beats body) s (loopCell k c crcOk bad b)) ∧
     ((e.spoke k).state = 6 → cellEnded (e.spoke k) = true → loopLink e k = false →
       (cellFails c crcOk bad = false → c.lseq = x.rx.expSeq → x.rx.attempts = 0 → c.ackV = false → c.hdr.type < 5 → c.hdr.pos = 1 →
         ∃ t : State, Gives (.spokeCellReceive dt k beats body) s t ∧ (t.spoke k).rx.expSeq = (x.rx.expSeq + 1) % 2048 ∧
           (t.spoke k).rx.accepted = true ∧ (t.spoke k).rx.cells = x.rx.cells ++ [c] ∧ (t.spoke k).rx.owedAck.isSome = true ∧
           (t.spoke k).tx = x.tx ∧ t.hub = e.hub ∧ t.out = e.out) ∧
       (cellFails c crcOk bad = false → c.lseq ≠ x.rx.expSeq →
         x.rx.lastRetry ≠ none ∨ modDist 2048 x.rx.expSeq c.lseq ≤ 1024 → Gives (.spokeCellReceive dt k beats body) s b) ∧
       (cellFails c crcOk bad = true → x.rx.lastRetry ≠ none → failsAgain b k c bad = false →
         Gives (.spokeCellReceive dt k beats body) s b) ∧
       ((cellFails c crcOk bad = true ∧ (x.rx.lastRetry = none ∨ failsAgain b k c bad = true)) ∨
        (cellFails c crcOk bad = false ∧ c.lseq ≠ x.rx.expSeq ∧ x.rx.lastRetry = none ∧ 1024 < modDist 2048 x.rx.expSeq c.lseq) →
         let lanes := if cellFails c crcOk bad then bad % 256 else 0
         let f := sendRetry k (modSpoke k (fun x => { x with rx := { x.rx with
           fails := x.rx.fails ++ [lanes], attempts := x.rx.attempts + 1, held := none, part := {}, failedAt := b.now } }) b)
         (x.rx.fails.length < 4 → Gives (.spokeCellReceive dt k beats body) s f) ∧
         (4 ≤ x.rx.fails.length → laneCount x = 8 → ∀ l, culprit (x.rx.fails ++ [lanes]) = some l →
           Gives (.spokeCellReceive dt k beats body) s (retireLane k l (sendRetire k l 0 f))) ∧
         (4 ≤ x.rx.fails.length → (laneCount x ≠ 8 ∨ culprit (x.rx.fails ++ [lanes]) = none) →
           Gives (.spokeCellReceive dt k beats body) s (spokeDown k 1 f))))) ∧
  (∀ (s : State) (k : Nat) (v : Beat), let x := s.spoke k; let y := seenBeats s k [v]
     (x.state ≠ 6 → takeBeat k s v = s) ∧
     (x.state = 6 → leadsK y.syms = true → takeBeat k s v = takeBetween k v s) ∧
     (x.state = 6 → leadsK y.syms = false → x.rx.switch = none → let t := takeBeat k s v
       (t.spoke k).rx.part.bytes = x.rx.part.bytes ++ y.syms.map octetOf ∧
       (t.spoke k).rx.part.bad = x.rx.part.bad ||| ((y.code ||| y.disp ||| dataWrong (activeLanes x) y.syms) % 256) ∧
       (t.spoke k).tx = x.tx ∧ (t.spoke k).rx.cells = x.rx.cells ∧ t.hub = s.hub ∧ t.out = s.out))

/-- Control beats of a spoke (R167 to R171): one that is good and of its kind takes effect, a bad one is discarded and counted, and one on a
link that is not in use changes nothing. Credits, preemption, acknowledgement, replay and retirement (R181 to R191); the timers of a
spoke (R186 to R188). A spoke that goes down raises the alert of its record, starts its bring-up again and holds no cell to replay (R193,
R194); a bucket's move ends after 1 ms, and it moves back 2 µs after its last cells are through (R207, R208). -/
def Obligations.ControlBeatsAndSpokeLoss : Prop :=
  (∀ (s : State) (dt : Time) (k : Nat), let a := advance dt s; let e := settleSwitch k a; let st := (e.spoke k).state
     let takes (cmd : Beat → Instr) (lowest octet : Nat) (f : Nat → State → State) : Prop := ∀ v : Beat,
       let c := ctlBeat e k v; let b := tookCtl k v e
       (st < 2 → Gives (cmd v) s e) ∧
       (2 ≤ st → c.good = false → Gives (cmd v) s (count1 (cSpoke k ckBadBeat) b)) ∧
       (2 ≤ st → c.good = true → (st < lowest ∨ c.octet ≠ octet) → Gives (cmd v) s b) ∧
       (2 ≤ st → lowest ≤ st → c.good = true → c.octet = octet → Gives (cmd v) s (f c.d b))
     k < 40 →
     takes (.creditBeatReceived dt k) 5 0x1C (fun d b => let key := bits d 39 35; let limit := bits d 31 16
       noteBuckets (modSpoke k (fun x =>
         let base := if (tfind x.tx.base key).isSome then x.tx.base else tput x.tx.base key limit
         { x with tx := { x.tx with
           limit := tset 0 x.tx.limit key limit, base := base
           was := tput x.tx.was key (tget 0 (limitsNow b x).tx.limit key, beatTick b)
           lastSent := tkeep x.tx.lastSent fun i n =>
             i % 32 != key || decide (32768 ≤ modDist 65536 limit (tget 0 base key + n)) } }) b)) ∧
     takes (.resumeReceived dt k) 6 0x7C (fun _ b => match (b.spoke k).rx.held with
       | some h => modSpoke k (fun x => { x with rx := { x.rx with part := h.2, held := none } }) b
       | none => b) ∧
     takes (.retryReqReceived dt k) 6 0x9C (fun d b => beginReplay k (bits d 39 29)
       (modSpoke k (fun x => { x with tx := { x.tx with lastExp := bits d 39 29 } }) b)) ∧
     takes (.ackBeatReceived dt k) 6 0xDC (fun d b => ackCells k (bits d 39 29) b) ∧
     takes (.retireConfirmReceived dt k) 6 0xFB (fun d b =>
       if bit d 36 then modSpoke k (fun x => { x with exchangeSpoiled := true }) b else b) ∧
     (∀ (part : List Beat) (v : Beat), let u := settleSwitch k (part.foldl (takeBeat k) a); let st := (u.spoke k).state
       let c := ctlBeat u k v; let b := tookCtl k v u
       (st < 2 → Gives (.preemptReceived dt k part v) s u) ∧
       (2 ≤ st → c.good = false → Gives (.preemptReceived dt k part v) s (count1 (cSpoke k ckBadBeat) b)) ∧
       (2 ≤ st → c.good = true → st < 6 ∨ c.octet ≠ 0x5C → Gives (.preemptReceived dt k part v) s b) ∧
       (6 ≤ st → c.good = true → c.octet = 0x5C → Gives (.preemptReceived dt k part v) s
         (modSpoke k (fun x => { x with rx := { x.rx with held := some (bits c.d 39 37, x.rx.part), part := {} } }) b))) ∧
     (∀ v : Beat, let y := seenBeats e k [v]; let x := e.spoke k; let wrong := idleWrong (activeLanes x) x.rx.idle y.syms
       let b := modSpoke k (fun x => { x with rx := { x.rx with idle := x.rx.idle + 1 } }) (tookBeats k wrong y e)
       (st < 2 → Gives (.idleBeatReceived dt k v) s e) ∧
       (2 ≤ st → y.code ||| y.disp ||| wrong = 0 → Gives (.idleBeatReceived dt k v) s b) ∧
       (2 ≤ st → y.code ||| y.disp ||| wrong ≠ 0 → Gives (.idleBeatReceived dt k v) s (count1 (cSpoke k ckBadBeat) b)))) ∧
  (∀ (s : State) (dt : Time) (k : Nat) (v : Beat), let a := advance dt s; let x := a.spoke k; let c := ctlBeat a k v
     let b := if c.good then tookCtl k v a else count1 (cSpoke k ckBadBeat) (tookCtl k v a)
     let lane := bits c.d 39 37
     let change (l : Nat) : State := beginReplay k x.tx.lastExp (sendRetire k l 1 (retireLane k l b))
     k < 40 →
     (x.state ≠ 6 → Gives (.retireRequestReceived dt k v) s a) ∧
     (x.state = 6 → ∀ l n, x.rx.switch = some (l, n) →
       (n ≤ 1 → Gives (.retireRequestReceived dt k v) s (change l)) ∧
       (1 < n → Gives (.retireRequestReceived dt k v) s
         (modSpoke k (fun x => { x with rx := { x.rx with switch := some (l, n - 1) } }) b))) ∧
     (x.state = 6 → x.rx.switch = none → let good := c.good = true ∧ c.octet = 0xFB ∧ bit c.d 36 = false ∧ bit x.active lane = true
       (¬ good → Gives (.retireRequestReceived dt k v) s b) ∧
       (good → laneCount x ≠ 8 → Gives (.retireRequestReceived dt k v) s (spokeDown k 1 b)) ∧
       (good → laneCount x = 8 → bits c.d 35 34 = 3 → Gives (.retireRequestReceived dt k v) s (change lane)) ∧
       (good → laneCount x = 8 → bits c.d 35 34 ≠ 3 → Gives (.retireRequestReceived dt k v) s
         (modSpoke k (fun x => { x with rx := { x.rx with switch := some (lane, 3 - bits c.d 35 34) } }) b)))) ∧
  (∀ (s : State) (dt : Time) (k v : Nat), let a := advance dt s; let x := a.spoke k
     k < 40 →
     (5 ≤ x.state → Gives (.creditRefresh dt k) s (forAll (List.range 32) (fun key => sendBeat k 1 key
       ((tget 0 x.rx.size key + tget 0 x.rx.freed key) % 65536)) a)) ∧
     (x.state < 5 → Gives (.creditRefresh dt k) s a) ∧
     (∀ t, x.rx.lastRetry = some t → x.state = 6 → t + us ≤ a.now → Gives (.retryReqRepeat dt k) s (sendRetry k a)) ∧
     ((∀ t, x.rx.lastRetry = some t → x.state ≠ 6 ∨ a.now < t + us) → Gives (.retryReqRepeat dt k) s a) ∧
     (∀ t, x.rx.owedAck = some t → t + 128 * ns ≤ a.now → Gives (.ackBeatTimer dt k) s
       (sendBeat k 5 ((x.rx.expSeq + 2047) % 2048) 0 (modSpoke k (fun x => { x with rx := { x.rx with owedAck := none } }) a))) ∧
     ((∀ t, x.rx.owedAck = some t → a.now < t + 128 * ns) → Gives (.ackBeatTimer dt k) s a) ∧
     (∀ c rest, x.state = 6 → x.tx.replay = c :: rest → x.tx.progress + 2 ^ rf (spokeRec a k) 43 40 * 256 * ns ≤ a.now →
       (x.tx.fires < 7 → Gives (.replayTimeout dt k) s (beginReplay k c.lseq (modSpoke k (fun x => { x with
         tx := { x.tx with fires := x.tx.fires + 1, progress := a.now } }) a))) ∧
       (7 ≤ x.tx.fires → Gives (.replayTimeout dt k) s (spokeDown k 2 a))) ∧
     (x.state ≠ 6 ∨ x.tx.replay = [] ∨ a.now < x.tx.progress + 2 ^ rf (spokeRec a k) 43 40 * 256 * ns →
       Gives (.replayTimeout dt k) s a) ∧
     (0x600 ≤ v → Gives (.mgmtUnknownCode dt k v) s (count1 (cSpoke k ckUnknownMgmt) a)) ∧
     (v ∈ [0x0001, 0x0040, 0x0101, 0x0107, 0x0201, 0x0204, 0x0301, 0x0310, 0x0313, 0x0401, 0x0501, 0x0502] →
       Gives (.mgmtUnknownCode dt k v) s a)) ∧
  (∀ (s : State) (dt : Time) (k n b : Nat), let a := advance dt s
     ((s.spoke k).state = 6 → let t := spokeDown k n s
       (t.spoke k).state = 1 ∧ (t.spoke k).rx = {} ∧ (t.spoke k).tx.replay = [] ∧ (t.stime k).inPlumb = false ∧
         spokeUp t k = false ∧ s.errs.seq ∈ t.errs.alertSeq) ∧
     (k < 40 → let c := modLoop 5 k (fun l => { l with state := 2 }) (modSpoke k (fun x => { x with cadence := false }) a)
       ((a.spoke k).state = 6 → Gives (.cadenceLoss dt k) s (settleLoops (spokeDown k 3 c))) ∧
       ((a.spoke k).state = 0 → Gives (.cadenceLoss dt k) s (settleLoops c)) ∧
       ((a.spoke k).state ≠ 6 → (a.spoke k).state ≠ 0 → Gives (.cadenceLoss dt k) s (settleLoops (failAttempt k c)))) ∧
     (n < 64 → b < 16 → let x := a.bucket n b
       (∀ t, x.movingSince = some t → t + ms ≤ a.now → let u := putBucket n b { x with movingSince := none, movedIn := some (coreTick a) } a
         (routeDead u n = true → Gives (.bucketMoveComplete dt n b) s (releaseDevice n
           (forAll (u.spokes.ctl.filter fun e => e.1 == n * 16 + b) (fun _ => countLost (168 + n))
             (endSeqsWhere (fun q => q.dev == u.dev && q.targetDev == n)
               { u with spokes.ctl := u.spokes.ctl.filter fun e => e.1 != n * 16 + b })))) ∧
         (routeDead u n = false →
           (∀ h, homeSpoke u n b = some h → spokeUp u h = true → x.spoke ≠ some h →
             Gives (.bucketMoveComplete dt n b) s (startBack n b u)) ∧
           ((∀ h, homeSpoke u n b = some h → spokeUp u h = false ∨ x.spoke = some h) →
             Gives (.bucketMoveComplete dt n b) s (releaseCtl n b u)))) ∧
       ((∀ t, x.movingSince = some t → a.now < t + ms) → Gives (.bucketMoveComplete dt n b) s a) ∧
       (∀ t0 t h, x.backSince = some t0 → x.readyAt = some t → homeSpoke a n b = some h →
         (bucketClear a n b = false → Gives (.bucketMoveBack dt n b) s (putBucket n b { x with readyAt := none } a)) ∧
         (bucketClear a n b = true → t + 2 * us ≤ a.now → spokeUp a h = true → ∀ o, x.spoke = some o →
           Gives (.bucketMoveBack dt n b) s (releaseCtl n b (putBucket n b { spoke := some h, movedIn := some (coreTick a) }
             (count1 (cSpoke o ckBucketMoves) a)))) ∧
         (bucketClear a n b = true → a.now < t + 2 * us ∨ spokeUp a h = false → Gives (.bucketMoveBack dt n b) s a)) ∧
       (x.backSince = none ∨ x.readyAt = none ∨ homeSpoke a n b = none → Gives (.bucketMoveBack dt n b) s a)))

/-- Bring-up goes through the steps of Table 6.8: the clock starts it, alignment, the identity check, equalisation, credits, and the spoke is
up when both ends have finished; a lane that cannot align is retired while 8 are usable, a failed attempt is followed by the next 1 ms
later (R195 to R198). Lanes: truing moves each tap one step in each interval and never past its limit, and holds without a link (R112,
R113); the smallest of three eyes is recorded (R115); margining pauses the record (R116); the coefficient store is copied once each 1 ms
(R126). -/
def Obligations.BringUpAndLanes : Prop :=
  (∀ (s : State) (dt : Time) (k : Nat) (r : StepResult), let a := advance dt s; let x := a.spoke k
     let b := modSpoke k (fun x => { x with temp := r.temp }) a
     let done (u : State) : State := sendTrain k (modSpoke k (fun x => { x with localDone := true }) u)
     k < 40 →
     (x.state = 0 → Gives (.cadenceAppear dt k) s (startBringUp k (modSpoke k (fun x => { x with cadence := true }) a))) ∧
     (x.state ≠ 0 → Gives (.cadenceAppear dt k) s (modSpoke k (fun x => { x with cadence := true }) a)) ∧
     (∀ n, x.nextTry = some n → n ≤ a.now → x.state = 0 → Gives (.bringupRetry dt k) s (startBringUp k a)) ∧
     ((∀ n, x.nextTry = some n → a.now < n ∨ x.state ≠ 0) → Gives (.bringupRetry dt k) s a) ∧
     (x.state = 0 ∨ 6 ≤ x.state → Gives (.bringupStepDone dt k r) s b) ∧
     (x.state = 1 → Gives (.bringupStepDone dt k r) s (loadReceive k (modSpoke k (fun x => { x with state := 2 }) b))) ∧
     (x.state = 2 → x.localDone = true → Gives (.bringupStepDone dt k r) s b) ∧
     (x.state = 2 → x.localDone = false →
       let u := modSpoke k (fun x => { x with rxReversed := r.reversed })
         (forAll (List.range 8) (fun i => modLane (8 * k + i) (fun x => { x with rxInv := bit r.inverted i })) b)
       let missing := (onesBelow x.active 8).filter fun i => !bit r.aligned i
       (missing = [] → Gives (.bringupStepDone dt k r) s (identityNext k (done u))) ∧
       (∀ l, missing = [l] → laneCount x = 8 → Gives (.bringupStepDone dt k r) s (identityNext k (done (retireLane k l u)))) ∧
       (missing ≠ [] → laneCount x ≠ 8 → Gives (.bringupStepDone dt k r) s (failAttempt k u)) ∧
       (∀ l m rest, missing = l :: m :: rest → laneCount x = 8 → Gives (.bringupStepDone dt k r) s (failAttempt k (retireLane k l u)))) ∧
     (x.state = 3 → x.peerKnown = false → Gives (.bringupStepDone dt k r) s b) ∧
     (x.state = 3 → x.peerKnown = true →
       let wrong := rb (spokeRec a k) 50 = true ∧ x.peerDev ≠ rf (spokeRec a k) 56 51
       (wrong → Gives (.bringupStepDone dt k r) s (modSpoke k (fun x => { x with idFailRec := true }) (failAttempt k
         (if x.idFailRec then b else record [] { devRec b 0x0202 2 6 0 with srcPort := spokePort a k } b)))) ∧
       (¬ wrong → popcount (x.laneMask &&& x.peerMask) 8 < 7 → Gives (.bringupStepDone dt k r) s (failAttempt k b)) ∧
       (¬ wrong → 7 ≤ popcount (x.laneMask &&& x.peerMask) 8 →
         let warm := mayWarm b k && bit x.peerFlags 0
         let u := modSpoke k (fun x => { x with
           state := 4, localDone := false, localWarm := warm, active := x.laneMask &&& x.peerMask }) b
         Gives (.bringupStepDone dt k r) s (sendTrain k (if warm then loadStore k u else loadPresets k u)))) ∧
     (x.state = 4 → x.localWarm = true → r.clean = false → Gives (.bringupStepDone dt k r) s (goCold k b)) ∧
     (x.state = 4 → (x.localWarm = false ∨ r.clean = true) → let u := if x.localWarm then b else loadFound k r.found (forAll r.asks (sendAsk k) b)
       (bit x.peerFlags 2 = true → Gives (.bringupStepDone dt k r) s (sendTrain k (enterCredits k (done u)))) ∧
       (bit x.peerFlags 2 = false → Gives (.bringupStepDone dt k r) s (done u))) ∧
     (x.state = 5 → let u := refreshCredit k (modSpoke k (fun x => { x with loopNs := r.loopNs % 4096 }) b)
       (bit x.peerFlags 3 = true → Gives (.bringupStepDone dt k r) s (linkUp k (done u))) ∧
       (bit x.peerFlags 3 = false → Gives (.bringupStepDone dt k r) s (done u)))) ∧
  (∀ (s : State) (k : Nat), let t := linkUp k s
     (t.spoke k).state = 6 ∧ (t.stime k).inPlumb = true ∧ (t.spoke k).remoteLoop = bit (s.spoke k).peerFlags 4) ∧
  (∀ (s : State) (dt : Time) (k : Nat) (bs : List Beat), let e := settleSwitch k (advance dt s); let x := e.spoke k
     let cs := ctlBeats e k bs
     let b := countBy (cSpoke k ckBadBeat) (cs.filter fun c => !c.good).length (tookCtls k bs e)
     k < 40 →
     (x.state < 2 → Gives (.trainReceived dt k bs) s e) ∧
     (2 ≤ x.state → partsOf 9 0 3 cs = none → Gives (.trainReceived dt k bs) s b) ∧
     (∀ vs, partsOf 9 0 3 cs = some vs → let t := trainOf vs
       let u := modSpoke k (fun x => { x with
         peerSn := t.serial % 2 ^ 48, peerDev := t.devnum % 64, peerKnown := true, peerMask := t.mask % 256
         peerFlags := t.flags % 32 }) b
       (x.state = 6 → Gives (.trainReceived dt k bs) s (settleLoops (spokeDown k 4 b))) ∧
       (2 ≤ x.state → x.state < 6 → bit t.flags 4 = true → loopRuns e 5 k = true → Gives (.trainReceived dt k bs) s
         (settleLoops (failAttempt k (modLoop 5 k (fun l => { l with state := 3 }) b)))) ∧
       (bit t.flags 4 = false ∨ loopRuns e 5 k = false →
         (x.state = 2 → Gives (.trainReceived dt k bs) s (settleLoops (identityNext k u))) ∧
         (x.state = 3 → mayWarm u k = x.localWarm → Gives (.trainReceived dt k bs) s (settleLoops u)) ∧
         (x.state = 3 → mayWarm u k ≠ x.localWarm → Gives (.trainReceived dt k bs) s
           (settleLoops (sendTrain k (modSpoke k (fun x => { x with localWarm := mayWarm u k }) u)))) ∧
         (x.state = 4 → let v := eqRequest k t u
           (x.localWarm = true → bit t.flags 0 = false → Gives (.trainReceived dt k bs) s (settleLoops (goCold k v))) ∧
           (x.localWarm = false ∨ bit t.flags 0 = true →
             (x.localDone = true → bit t.flags 2 = true →
               Gives (.trainReceived dt k bs) s (settleLoops (sendTrain k (enterCredits k v)))) ∧
             (x.localDone = false ∨ bit t.flags 2 = false → Gives (.trainReceived dt k bs) s (settleLoops v)))) ∧
         (x.state = 5 →
           (x.localDone = true → bit t.flags 3 = true → Gives (.trainReceived dt k bs) s (settleLoops (linkUp k u))) ∧
           (x.localDone = false ∨ bit t.flags 3 = false → Gives (.trainReceived dt k bs) s (settleLoops u)))))) ∧
  (∀ (s : State) (dt : Time) (l : Nat) (err : Int) (dec : List Int), let a := advance dt s; let lim := truingLimits a (l / 16)
     let due := truingHeld a l = false ∧ ∀ t, (a.lane l).truedAt = some t → t + truingInterval a l ≤ a.now
     l < 320 →
     (¬ due → Gives (.truingUpdate dt l err dec) s a) ∧
     (due → ∃ t : State, Gives (.truingUpdate dt l err dec) s t ∧
       (t.lane l).coef = { (a.lane l).coef with dfe := trueTaps lim err dec (a.lane l).coef.dfe } ∧
       (t.lane l).truedAt = some a.now ∧ (∀ i < 12, |(t.lane l).coef.dfe.getD i 0| ≤ (tapLimit lim i : Int)) ∧
       ∀ m, m ≠ l → t.lane m = a.lane m) ∧
     (truingHeld a l = false → Gives (.lossOfSignal dt l) s (count1 (cLane l 2) (modLane l (fun x => { x with los := true }) a))) ∧
     (truingHeld a l = true → Gives (.lossOfSignal dt l) s (modLane l (fun x => { x with los := true }) a)) ∧
     Gives (.lossOfSignalEnd dt l) s (modLane l (fun x => { x with los := false }) a) ∧
     (∀ eyes : List (Nat × Nat),
       ((a.lane l).margining = true ∨ laneCarries a l = false ∨ worstEye (lanePam4 a l) eyes = none →
         Gives (.eyeMeasurement dt l eyes) s a) ∧
       ((a.lane l).margining = false → laneCarries a l = true → ∀ h w i, worstEye (lanePam4 a l) eyes = some (h, w, i) →
         Gives (.eyeMeasurement dt l eyes) s (modLane l (fun x => { x with
           eyeH := min 255 h, eyeW := min 64 w, eyeId := i, eyeValid := true, eyeAt := some a.now }) a) ∧
         eyes[i]? = some (h, w) ∧
         (lanePam4 a l = true → i < 3 ∧ ∀ j < 3, ∀ e, eyes[j]? = some e → h ≤ e.1) ∧ (lanePam4 a l = false → i = 0))) ∧
     (∀ m : MarginStep, let fits := stationMode a (l / 16) = 1 ∧ m.steps.natAbs ≤ (if m.voltage then 64 else 32)
       (¬ fits → Gives (.laneMargining dt l m) s a) ∧
       (fits → m.start = true → Gives (.laneMargining dt l m) s (modLane l (fun x => { x with margining := true, margin := m }) a)) ∧
       (fits → m.start = false → Gives (.laneMargining dt l m) s (modLane l (fun x => { x with margining := false }) a))) ∧
     (∀ k, k < 40 → ∀ temp : Int,
       let due := spokeLinked a k = true ∧ (a.spoke k).rx.lastError + ms ≤ a.now ∧ ∀ t, (a.spoke k).copiedAt = some t → t + ms ≤ a.now
       (due → Gives (.coefStoreCopy dt k temp) s (modSpoke k (fun x => { x with copiedAt := some a.now })
         { a with lanes.store := tset {} a.lanes.store k (storeEntryOf a k temp) })) ∧
       (¬ due → Gives (.coefStoreCopy dt k temp) s a)))

/-- TIME exchanges (R199 to R202): a request is answered with the count and the master; a valid response on the chosen upstream steers the
count by the measured offset, a master that hears of a lower one yields (R543), and 1 ms without a valid exchange loses time lock. The
upstream has the fewest hops, then the lowest port (R200). An offset beyond 1 µs is stepped out, a smaller one is steered out at no more
than 200 ppm, and eight good exchanges in a row lock the device (R201, R202). PLUMB messages (R203, R204): two mismatches in a row put a
spoke out of plumb, as do 30 ms without one, and the first match returns it; a configuration whose time has come counts as in force (R211). -/
def Obligations.TimeAndPlumb : Prop :=
  (∀ (s : State) (dt : Time) (k : Nat), let a := advance dt s; let x := a.stime k; let q := (x.seq + 1) % 256
     let valid := a.ft.master = false ∧ a.ft.locked = true ∧ a.ft.lastValid + ms ≤ a.now
     (upSpokes a = [] → Gives (.timeReqTimer dt) s a ∧ Gives (.plumbTimer dt) s a) ∧
     (upSpokes a = [k] →
       Gives (.timeReqTimer dt) s (sendParts k 6 1 (timeReqValues a.ft.count q) (emit (.timeReq k a.ft.count q)
         (modSpoke k (fun x => { x with exchangeSpoiled := false })
           (modStime k (fun y => { y with seq := q, t1 := some a.ft.count }) a)))) ∧
       Gives (.plumbTimer dt) s (sendParts k 8 0 (plumbValues a.conf.epoch (digestPfx a.conf.digest))
         (emit (.plumb k a.conf.epoch (digestPfx a.conf.digest)) a))) ∧
     (valid → Gives (.timeLockLossTimeout dt) s (loseTimeLock a)) ∧ (¬ valid → Gives (.timeLockLossTimeout dt) s a) ∧
     (k < 40 →
       let late := spokeUp a k = true ∧ max (a.spoke k).upAt x.plumbAt + 30 * ms ≤ a.now
       (late → Gives (.plumbTimeout dt k) s (setPlumb k false a)) ∧ (¬ late → Gives (.plumbTimeout dt k) s a))) ∧
  (∀ (s : State) (dt : Time) (k : Nat) (bs : List Beat), let e := settleSwitch k (advance dt s); let x := e.stime k
     let cs := ctlBeats e k bs
     let b := countBy (cSpoke k ckBadBeat) (cs.filter fun c => !c.good).length (tookCtls k bs e)
     k < 40 →
     ((e.spoke k).state < 2 → Gives (.timeReqReceived dt k bs) s e ∧ Gives (.timeRespReceived dt k bs) s e ∧
       Gives (.plumbReceived dt k bs) s e) ∧
     (2 ≤ (e.spoke k).state →
       ((partsOf 6 1 3 cs = none ∨ spokeUp e k = false) → Gives (.timeReqReceived dt k bs) s b) ∧
       ((partsOf 6 2 4 cs = none ∨ spokeUp e k = false) → Gives (.timeRespReceived dt k bs) s b) ∧
       ((partsOf 8 0 3 cs = none ∨ spokeUp e k = false) → Gives (.plumbReceived dt k bs) s b)) ∧
     (spokeUp e k = true →
       (∀ vs, partsOf 6 1 3 cs = some vs →
         let q := bits (vs.getD 2 0) 31 24; let m := if b.ft.master then b.dev else b.ft.masterDev
         let h := if b.ft.master then 0 else b.ft.hops
         Gives (.timeReqReceived dt k bs) s (sendParts k 6 2 (timeRespValues b.ft.count 0 q m h (timeLocked b))
           (emit (.timeResp k b.ft.count 0 q m h (timeLocked b)) b))) ∧
       (∀ vs, partsOf 6 2 4 cs = some vs →
         let v := vs.getD 3 0; let t2 : Nat := vs.getD 0 0 * 2 ^ 32 + vs.getD 1 0; let t3 : Nat := vs.getD 2 0; let m := bits v 23 18
         (∀ t1, x.t1 = some t1 → bits v 31 24 = x.seq → (e.spoke k).exchangeSpoiled = false → e.ft.count ≤ t1 + 10 * us →
           let o : Int := ((((t2 : Nat) : Int) - t1) - ((e.ft.count : Int) - (((t2 : Nat) : Int) + ((t3 : Nat) : Int)))) / 2
           let d : Int := (((e.ft.count : Int) - t1) - ((t3 : Nat) : Int)) / 2
           let c := modStime k (fun x => { x with
               t1 := none, locked := bit v 11, hops := bits v 17 12, master := m, masterAt := b.now })
             (modSpoke k (fun x => { x with pathDelay := min (2 ^ 32 - 1) (d.toNat / 16) }) b)
           let steer (u : State) : State :=
             let w := setUpstream (if bit v 11 then { u with ft.lastValid := u.now } else u)
             if w.ft.upstream = some k then disciplined o w else w
           (e.ft.master = true → e.dev ≤ m → Gives (.timeRespReceived dt k bs) s c) ∧
           (e.ft.master = true → m < e.dev → Gives (.timeRespReceived dt k bs) s (steer (yieldMastership m c))) ∧
           (e.ft.master = false → Gives (.timeRespReceived dt k bs) s (steer c))) ∧
         ((∀ t1, x.t1 = some t1 →
             bits v 31 24 ≠ x.seq ∨ (e.spoke k).exchangeSpoiled = true ∨ t1 + 10 * us < e.ft.count) →
           Gives (.timeRespReceived dt k bs) s b)) ∧
       (∀ vs, partsOf 8 0 3 cs = some vs →
         let n := vs.getD 0 0; let pfx := vs.getD 1 0 * 2 ^ 32 + vs.getD 2 0
         let c := modStime k (fun x => { x with plumbAt := b.now, peerEpoch := n, peerPrefix := pfx }) b
         ((∀ p t, b.conf.prepared = some p → p.armed = some t → b.ft.count < t) →
           ownPlumb b = (b.conf.epoch, digestPfx b.conf.digest)) ∧
         (∀ p t, b.conf.prepared = some p → p.armed = some t → t ≤ b.ft.count → ownPlumb b = (p.epoch, digestPfx p.digest)) ∧
         ((n, pfx) = ownPlumb b →
           Gives (.plumbReceived dt k bs) s (sawEpoch n (setPlumb k true (modStime k (fun x => { x with mismatches := 0 }) c)))) ∧
         ((n, pfx) ≠ ownPlumb b →
           let d := modStime k (fun y => { y with mismatches := x.mismatches + 1 }) c
           (x.mismatches = 0 → Gives (.plumbReceived dt k bs) s (sawEpoch n d)) ∧
           (1 ≤ x.mismatches → Gives (.plumbReceived dt k bs) s (sawEpoch n (setPlumb k false d))))))) ∧
  (∀ (s : State) (k : Nat), chooseUpstream s = some k → k ∈ upSpokes s ∧ (s.stime k).locked = true ∧
     ∀ j ∈ upSpokes s, (s.stime j).locked = true → (s.stime k).hops < (s.stime j).hops ∨
       ((s.stime k).hops = (s.stime j).hops ∧ spokePort s k ≤ spokePort s j)) ∧
  (∀ (s : State) (o : Int), let t := disciplined o s
     (|o| ≤ (us : Int) → -200 ≤ t.ft.ppm ∧ t.ft.ppm ≤ 200 ∧ t.ft.count = s.ft.count) ∧
     ((us : Int) < o → t.ft.count = s.ft.count + o.toNat) ∧
     (o < -(us : Int) → t.ft.count = s.ft.count ∧ t.ft.holdBack = (-o).toNat) ∧
     (|o| ≤ 2 * (ns : Int) → t.ft.good = s.ft.good + 1 ∧ (7 ≤ s.ft.good → t.ft.locked = true)) ∧
     (50 * (ns : Int) < |o| → t.ft.locked = false))

/-- Rings (R280 to R284): a doorbell in the ring moves its index, one beyond it stops the ring with RING_ERR 3, one to a ring that takes none
is counted; enabling a ring takes legal size codes and starts it empty, illegal ones stop it with RING_ERR 1. A descriptor is fetched into
a free context, checked, and made ready, by way of its shard table when it is coded; a job becomes bound to the engine with the least bound
work in bytes (R285 to R288, R96). -/
def Obligations.MoverRingsAndJobs : Prop :=
  (∀ (s : State) (dt : Time) (f : Nat) (v : Word64), let a := advance dt s; let q := a.func f; let i := qf v 11 0
     let dead := q.state ≠ 1 ∨ (a.part (funcPart a f)).f1D3 = true
     f < 576 →
     (dead → Gives (.sqDoorbell dt f v) s (count1 (cFunc f cfDoorbells) a)) ∧
     (¬ dead → i < 2 ^ q.sqLog2 → Gives (.sqDoorbell dt f v) s (modFunc f (fun q => { q with sqTail := i }) a)) ∧
     (¬ dead → 2 ^ q.sqLog2 ≤ i → Gives (.sqDoorbell dt f v) s (ringError f 3 a)) ∧
     (q.state = 0 ∨ q.state = 3 → Gives (.cqDoorbell dt f v) s (count1 (cFunc f cfDoorbells) a)) ∧
     (q.state ≠ 0 → q.state ≠ 3 → i < 2 ^ q.cqLog2 → Gives (.cqDoorbell dt f v) s (modFunc f (fun q => { q with cqHead := i }) a)) ∧
     (q.state ≠ 0 → q.state ≠ 3 → 2 ^ q.cqLog2 ≤ i → Gives (.cqDoorbell dt f v) s (ringError f 3 a)) ∧
     (∀ sq cq, (q.ringEn = true ∨ q.state = 3 → Gives (.ringEnable dt f sq cq) s a) ∧
       (q.ringEn = false → q.state ≠ 3 →
         let sq' := if q.state = 0 then sq % 16 else q.sqLog2; let cq' := if q.state = 0 then cq % 16 else q.cqLog2
         let legal := 4 ≤ sq' ∧ sq' ≤ 12 ∧ 4 ≤ cq' ∧ cq' ≤ 12
         (legal → ∃ t : State, Gives (.ringEnable dt f sq cq) s t ∧ t.func f = { q with
           ringEn := true, sqLog2 := sq', cqLog2 := cq', state := 1, sqHead := 0, sqTail := 0, cqTail := 0, cqHead := 0
           cqPhase := true, ringErr := 0 }) ∧
         (¬ legal → Gives (.ringEnable dt f sq cq) s
           (ringError f 1 (modFunc f (fun q => { q with ringEn := true, sqLog2 := sq', cqLog2 := cq' }) a))))) ∧
     (let ends := (q.state = 1 ∨ q.state = 2) ∧ jobsOf a f = []
      (ends → ∃ t : State, Gives (.ringDisable dt f) s t ∧ t.func f = { q with ringEn := false, state := 0 }) ∧
      (¬ ends → Gives (.ringDisable dt f) s (modFunc f (fun q => { q with ringEn := false }) a)))) ∧
  (∀ (s : State) (dt : Time) (f ctx : Nat), let a := advance dt s; let q := a.func f
     f < 576 →
     (let ready := q.state = 1 ∧ q.ringEn = true ∧ q.sqHead ≠ q.sqTail ∧ busReady a f = true
      let free := (List.range (funcContexts f)).find? fun c => (findJob a f c).isNone
      (¬ ready → Gives (.descriptorFetch dt f) s a) ∧
      (ready → free = none → Gives (.descriptorFetch dt f) s a) ∧
      (ready → free ≠ none → freeReadTag a f = none → Gives (.descriptorFetch dt f) s (count1 (cFunc f cfTagWaits) a)) ∧
      (ready → ∀ c tag, free = some c → freeReadTag a f = some tag →
        let n := (tget 0 q.ctxSeq c + 1) % 64
        let job : Job := { func := f, ctx := c, ctxSeq := n, order := a.mover.nextOrder, slot := q.sqHead, tags := [tag], tagAt := a.now }
        Gives (.descriptorFetch dt f) s (issueRead f tag (q.sqBase.toNat / 4096 * 4096 + 128 * q.sqHead) 128 0
          (modFunc f (fun q => { q with sqHead := (q.sqHead + 1) % 2 ^ q.sqLog2, ctxSeq := tset 0 q.ctxSeq c n })
            (takeReadTag f tag { a with mover.jobs := a.mover.jobs ++ [job], mover.nextOrder := a.mover.nextOrder + 1 }))))) ∧
     (findJob a f ctx = none → ∀ (st : CplStatus) (desc : List Word64) (table : List Byte),
       Gives (.descriptorFetchComplete dt f ctx st desc) s a ∧ Gives (.shardTableReadComplete dt f ctx st table) s a ∧
       Gives (.jobBind dt f ctx) s a) ∧
     Gives (.coefficientsDerived dt f ctx) s (modJob f ctx (fun j => if j.phase = .bound then { j with coefReady := true } else j) a) ∧
     (∀ j, findJob a f ctx = some j →
       let b := forAll j.tags (dropReadTag f) (modJob f ctx (fun j => { j with tags := [] }) a)
       (∀ (st : CplStatus) (desc : List Word64),
         let k := seeded { j with desc := desc.take 16, tags := [] }
         let c := modJob f ctx (fun j => seeded { j with desc := desc.take 16 }) b
         let gives (t : State) : Prop := Gives (.descriptorFetchComplete dt f ctx st desc) s (startTables f t)
         (j.phase ≠ .fetching → Gives (.descriptorFetchComplete dt f ctx st desc) s a) ∧
         (j.phase = .fetching → q.dying = true → gives (removeJob f ctx b)) ∧
         (j.phase = .fetching → q.dying = false → st ≠ .sc ∨ desc = [] → gives (fetchFailed f ctx j.slot b)) ∧
         (j.phase = .fetching → q.dying = false → st = .sc → desc ≠ [] →
           (descOk k = false → gives (modJob f ctx (fun j => { j with phase := .ending }) (jobFails f ctx 2 0 c))) ∧
           (descOk k = true → jCoded k = false → gives (modJob f ctx (fun j => { j with phase := .ready, coefReady := true }) c)) ∧
           (descOk k = true → jCoded k = true →
             gives (startTable f ctx (modJob f ctx (fun j => { j with phase := .tableWait }) c))))) ∧
       (∀ (st : CplStatus) (table : List Byte),
         let k := { j with tags := [], table := table.take 384 }
         let c := modJob f ctx (fun j => { j with table := table.take 384 }) b
         let gives (t : State) : Prop := Gives (.shardTableReadComplete dt f ctx st table) s (startTables f t)
         (j.phase ≠ .tableRead → Gives (.shardTableReadComplete dt f ctx st table) s a) ∧
         (j.phase = .tableRead → q.dying = true → gives (removeJob f ctx b)) ∧
         (j.phase = .tableRead → q.dying = false → st ≠ .sc ∨ table = [] →
           gives (modJob f ctx (fun j => { j with phase := .ending }) (jobFails f ctx 3 (jDst j 0) b))) ∧
         (j.phase = .tableRead → q.dying = false → st = .sc → table ≠ [] →
           (tableOk k = true → gives (modJob f ctx (fun j => { j with phase := .ready, coefReady := jOp j != 4 || jCoefSw j }) c)) ∧
           (tableOk k = false → gives (modJob f ctx (fun j => { j with phase := .ending }) (jobFails f ctx 2 0 c))))) ∧
       (let rs := tableCuts a j
        let tags := ((List.range (funcTags f)).filter (tagFree a f)).take rs.length
        let may := j.phase = .tableWait ∧ q.dying = false ∧ busReady a f = true ∧ rs.length ≤ tags.length
        (¬ may → startTable f ctx a = a) ∧
        (may → startTable f ctx a = forAll (tags.zip rs) (fun r t => issueRead f r.1 r.2.1 r.2.2 (jClass j) (takeReadTag f r.1 t))
          (modJob f ctx (fun j => { j with phase := .tableRead, tags := tags, tagAt := a.now }) a))) ∧
       (q.state = 1 → fetchFailed f ctx j.slot a = removeJob f ctx (ringError f 2 (modFunc f (fun q => { q with sqHead := j.slot }) a))) ∧
       (q.state ≠ 1 → fetchFailed f ctx j.slot a = removeJob f ctx a) ∧
       (let may := j.phase = .ready ∧ j.error = none ∧ q.dying = false ∧
          (jOrder j = true → ∀ x ∈ jobsOf a f, j.order ≤ x.order)
        (j.phase = .tableWait → Gives (.jobBind dt f ctx) s (startTable f ctx a)) ∧
        (j.phase ≠ .tableWait → ¬ may → Gives (.jobBind dt f ctx) s a) ∧
        (j.phase ≠ .tableWait → leastLoaded a = none → Gives (.jobBind dt f ctx) s a) ∧
        (∀ e, may → leastLoaded a = some e →
          Gives (.jobBind dt f ctx) s (count1 (cEng e 0) (modJob f ctx (fun j => { j with phase := .bound, engine := some e, boundAt := halfTick a })
            (if leafEmpty a e f (jClass j) then
              { a with sched.backlogSince := tput a.sched.backlogSince (defLeaf e (jClass j) f) a.now } else a)))))))

/-- Columns: staging is reserved within the function's share, a granted leaf issues its read, data lands in the column, a timed-out read ends
its job READ_TIMEOUT, a notice that belongs to no frame is stray, a drop for congestion echoes at the lane that issued the frame, and a
dropped column is issued again until the sixteenth time (R94, R294 to R298, R302, R305). -/
def Obligations.ColumnsAreMoved : Prop :=
  (∀ (s : State) (dt : Time) (f ctx : Nat), let a := advance dt s; let q := a.func f
    f < 576 →
    (findJob a f ctx = none → ∀ i e, e < 4 → Gives (.columnReserve dt f ctx) s a ∧ Gives (.noticeTimeout dt f ctx i) s a ∧
      Gives (.engineResidueFault dt e f ctx i) s a) ∧
    (∀ j, findJob a f ctx = some j →
      let may := j.phase = .bound ∧ j.error = none ∧ j.coefReady = true ∧ q.dying = false
      let waits := j.cols.find? fun c => !c.reserved && !c.issued
      (¬ may → Gives (.columnReserve dt f ctx) s a) ∧
      (∀ c, may → waits = some c → j.cols.find? (fun x => x.idx == c.idx) = some c →
        (q.staging + c.need ≤ funcShare f → Gives (.columnReserve dt f ctx) s (columnLanded f ctx
          (modFunc f (fun q => { q with staging := q.staging + c.need }) (modCol f ctx c.idx (fun c => { c with reserved := true }) a)))) ∧
        (funcShare f < q.staging + c.need →
          Gives (.columnReserve dt f ctx) s (columnLanded f ctx (count1 (cFunc f cfStagingWaits) a)))) ∧
      (may → waits = none →
        (numCols j ≤ j.nextCol → Gives (.columnReserve dt f ctx) s a) ∧
        (j.nextCol < numCols j → funcShare f < q.staging + colNeed j j.nextCol →
          Gives (.columnReserve dt f ctx) s (count1 (cFunc f cfStagingWaits) a)) ∧
        (j.nextCol < numCols j → q.staging + colNeed j j.nextCol ≤ funcShare f →
          let col : Column := { idx := j.nextCol, need := colNeed j j.nextCol, toRead := colReads a j j.nextCol }
          Gives (.columnReserve dt f ctx) s (columnLanded f ctx (reserve f ctx j.nextCol
            (modJob f ctx (fun j => { j with nextCol := j.nextCol + 1, cols := j.cols ++ [col] }) a))))) ∧
      (j.error = none → q.dying = false →
        (jOp j = 2 → columnLanded f ctx a = a) ∧
        (jOp j = 5 ∨ jOp j = 6 → columnLanded f ctx a = processColumns f ctx (j.cols.length + 1) a) ∧
        (jOp j ∉ [2, 5, 6] → busReady a f = true ∨ j.loop = true →
          (nextIssue j = none → columnLanded f ctx a = a) ∧
          (∀ c, nextIssue j = some c →
            columnLanded f ctx a = issueColumns f ctx j.cols.length (columnIssue f ctx c.idx a) ∧
            (∀ x ∈ j.cols, x.idx < c.idx → 1 ≤ x.issues))))) ∧
    (∀ e, e < 4 →
      (a.now < (a.engine e).grantedTo → Gives (.moverReadGrant dt e) s a) ∧
      ((a.engine e).grantedTo ≤ a.now →
        let b := idleDeficits e a
        (∀ g cls, strictLeaf b e = some (g, cls) → Gives (.moverReadGrant dt e) s (giveGrant e g cls b)) ∧
        (∀ g cls d p, strictLeaf b e = none → weightedLeaf b e = some (g, cls, d, p) →
          Gives (.moverReadGrant dt e) s (giveGrant e g cls { b with sched.deficits := d, sched.pointers := p })) ∧
        (strictLeaf b e = none → weightedLeaf b e = none → boundFuncs b e = [] → Gives (.moverReadGrant dt e) s b))) ∧
    (∀ (tag : Nat) (st : CplStatus) (poisoned : Bool) (data : List Byte),
      (findRead a f tag = none → Gives (.moverReadCompletion dt f tag st poisoned data) s (count1 (cPart (funcPart a f) 0) a)) ∧
      (∀ j c r, findRead a f tag = some (j, c, r) → let b := dropReadTag f tag (endRead j c r a)
        let gives (t : State) : Prop := Gives (.moverReadCompletion dt f tag st poisoned data) s (startTables f t)
        (q.dying = true ∨ j.error ≠ none → gives b) ∧
        (q.dying = false → j.error = none → (st ≠ .sc ∨ poisoned = true) → gives (jobFails f j.ctx 3 r.addr b)) ∧
        (q.dying = false → j.error = none → st = .sc → poisoned = false →
          gives (columnLanded f j.ctx (rereadLanded f j.ctx c.idx
            (modCol f j.ctx c.idx (fun c => { c with blocks := tput c.blocks r.key data }) b)))) ∧
        (r.at' + moverTimeout a (funcPart a f) ≤ a.now →
          Gives (.moverReadTimeout dt f tag) s (jobFails f j.ctx 4 r.addr (quarReadTag f tag (endRead j c r a)))) ∧
        (a.now < r.at' + moverTimeout a (funcPart a f) → Gives (.moverReadTimeout dt f tag) s a)) ∧
      (findRead a f tag = none → (∀ j ∈ jobsOf a f, tag ∉ j.tags) → Gives (.moverReadTimeout dt f tag) s a)) ∧
    (∀ j i, findJob a f ctx = some j →
      (j.cols.find? (fun x => x.idx == i) = none → Gives (.noticeTimeout dt f ctx i) s a) ∧
      (∀ c, j.cols.find? (fun x => x.idx == i) = some c →
        (c.issued = true → c.handedAt + 4 * ms ≤ a.now → Gives (.noticeTimeout dt f ctx i) s (settleColumn f ctx i
          (modCol f ctx i (fun k => { k with notices := k.notices ++
            (c.frames.filter fun x => !(c.notices.any fun n => n.1 == x.1 && n.2.1 == x.2.1)).map fun x => (x.1, x.2.1, 8) }) a))) ∧
        (c.issued = false ∨ a.now < c.handedAt + 4 * ms → Gives (.noticeTimeout dt f ctx i) s a)) ∧
      (∀ e, e < 4 → (j.engine ≠ some e → Gives (.engineResidueFault dt e f ctx i) s a) ∧
        (∀ c, j.engine = some e → j.cols.find? (fun x => x.idx == i) = some c →
          let b := modCol f ctx i (fun c => { c with residue := 1, forced := true }) (count1 (cEng e 3) a)
          (1 ≤ c.residue → Gives (.engineResidueFault dt e f ctx i) s (engineFault e (count1 (cEng e 3) a))) ∧
          (c.residue = 0 → c.issued = true ∨ q.dying = true → Gives (.engineResidueFault dt e f ctx i) s (settleColumn f ctx i b)) ∧
          (c.residue = 0 → c.issued = false → q.dying = false → Gives (.engineResidueFault dt e f ctx i) s
            (reissue f ctx i (freeStaging f (if c.reserved then c.need else 0) b))))))) ∧
  (∀ (s : State) (dt : Time) (lane : Nat) (n : Notice), let a := advance dt s; let w := n.tag
    lane < 8 →
    let b := count1 (cFunc w.func cfNotices) (if 1 ≤ n.cause ∧ n.cause ≤ 4 then echoAt 20 (64 + lane) a else a)
    (findJob a w.func w.ctx = none → Gives (.noticeReceived dt lane [n]) s (count1 (cFunc w.func cfStray) b)) ∧
    (∀ j, findJob a w.func w.ctx = some j →
      (j.cols.find? (fun x => x.idx == w.column) = none → Gives (.noticeReceived dt lane [n]) s (count1 (cFunc w.func cfStray) b)) ∧
      (∀ c, j.cols.find? (fun x => x.idx == w.column) = some c →
        let frame := c.frames.find? fun x => x.1 == w.shard && x.2.1 == w.frame
        let fits := j.ctxSeq = w.ctxSeq ∧ c.issued = true ∧ c.gen % 8 = w.gen ∧
          ∀ x ∈ c.notices, ¬ (x.1 = w.shard ∧ x.2.1 = w.frame)
        (¬ fits ∨ frame = none → Gives (.noticeReceived dt lane [n]) s (count1 (cFunc w.func cfStray) b)) ∧
        (∀ sh fr addr, fits → frame = some (sh, fr, addr) →
          let d := modCol w.func w.ctx w.column (fun c => { c with notices := c.notices ++ [(w.shard, w.frame, n.cause)] }) b
          (n.cause ∉ [6, 7, 9] → Gives (.noticeReceived dt lane [n]) s (settleColumn w.func w.ctx w.column d)) ∧
          (n.cause = 6 → Gives (.noticeReceived dt lane [n]) s (settleColumn w.func w.ctx w.column (jobFails w.func w.ctx 6 addr d))) ∧
          (n.cause = 7 → Gives (.noticeReceived dt lane [n]) s (settleColumn w.func w.ctx w.column (jobFails w.func w.ctx 5 addr d))) ∧
          (n.cause = 9 → Gives (.noticeReceived dt lane [n]) s (settleColumn w.func w.ctx w.column (jobFails w.func w.ctx 10 addr d))))))) ∧
  (∀ (b : State) (f ctx i : Nat) (j : Job) (c : Column),
    findJob b f ctx = some j → j.cols.find? (fun x => x.idx == i) = some c → c.issued = true →
    c.frames.length ≤ c.notices.length → j.error = none →
    ((c.forced = false → (∀ n ∈ c.notices, n.2.2 = 0) → settleColumn f ctx i b = endColumn f ctx i b) ∧
     ((∃ n ∈ c.notices, n.2.2 ≠ 0) → c.issues < 16 → settleColumn f ctx i b = reissue f ctx i b) ∧
     ((∃ n ∈ c.notices, n.2.2 ≠ 0) → 16 ≤ c.issues → settleColumn f ctx i b = endColumn f ctx i (jobFails f ctx 7 i b))))

/-- A job that has ended writes its completion entry at the queue's tail, advances the tail and, at its end, turns the phase, and signals
vector 0 when it asks for it; its context and staging are free again (R282, R283, R300). An entry waits while its ring is full.
ENGINE_TEST's drain ends in the self-test or in TIMEOUT, and the test's result is the engine's service (R304). -/
def Obligations.CompletionEntriesAndEngineTests : Prop :=
  (∀ (s : State) (dt : Time) (f ctx : Nat), let a := advance dt s; let q := a.func f; let size := 2 ^ q.cqLog2
     f < 576 →
     (findJob a f ctx = none → Gives (.completionEntryWrite dt f ctx) s a) ∧
     (∀ j, findJob a f ctx = some j →
       let may := (a.mover.ended.find? fun x => x.1 == f) = some (f, ctx) ∧ q.dying = false ∧ (q.cqTail + 1) % size ≠ q.cqHead ∧
         busReady a f = true
       (¬ may → Gives (.completionEntryWrite dt f ctx) s a) ∧
       (may →
         let b := modFunc f (fun q => { q with
             cqTail := (q.cqTail + 1) % size, cqPhase := if q.cqTail + 1 = size then !q.cqPhase else q.cqPhase })
           (issueWrite f (q.cqBase.toNat / 4096 * 4096 + 32 * q.cqTail)
             ((completionEntry j q.cqPhase).flatMap fun w => leBytes 8 w.toNat) (jClass j) a)
         let c := if jIrq j then funcMsix f 0 (jClass j) b else b
         let d := if within 1 6 (jOp j) then count1 (cFunc f (jOp j - 1)) c else c
         Gives (.completionEntryWrite dt f ctx) s (removeJob f ctx (freeStaging f (heldStaging j)
           (if (jobStatus j).1 = 0 then d else count1 (cFunc f cfNotOk) d))) ∧
         ∃ t : State, Gives (.completionEntryWrite dt f ctx) s t ∧ findJob t f ctx = none ∧ (f, ctx) ∉ t.mover.ended) ∧
       (∀ g : Job → Job, (g j).func = f → (g j).ctx = ctx → (f, ctx) ∉ a.mover.ended → jobEnds (g j) = true → (g j).loop = false →
         (modJob f ctx g a).mover.ended = a.mover.ended ++ [(f, ctx)]) ∧
       completionEntry j q.cqPhase = [quad [(63, 32, jId j), (31, 24, (jobStatus j).1), (15, 0, j.reissues)],
         BitVec.ofNat 64 (jobStatus j).2.1, BitVec.ofNat 64 (jobStatus j).2.2, quad [(63, 63, b2n q.cqPhase)]] ∧
       (∀ st x, j.error = some (st, x) → jobStatus j = (st, x, 0)) ∧ (j.error = none → jOp j < 5 → jobStatus j = (0, 0, 0)))) ∧
  (∀ (s : State) (dt : Time) (e : Nat), let a := advance dt s; let x := a.engine e
     let drains := x.drainMb ≠ none ∧ x.testing = false
     let ends (inService : Bool) (status : Nat) (pay : List Word64) (t : State) : State :=
       finishWait (((t.engine e).drainMb).getD nobody) waitEngine status (status == stOk) pay
         (modEngine e (fun _ => { inService := inService }) t)
     e < 4 →
     (drains → engineBusy a e = false → ∃ t : State, Gives (.engineDrainDone dt e) s t ∧
       t = modEngine e (fun x => { x with testing := true }) a ∧ t.engine e = { x with testing := true } ∧
       (∀ k, k ≠ e → t.engine k = a.engine k) ∧ t.mover.jobs = a.mover.jobs) ∧
     (¬ drains ∨ engineBusy a e = true → Gives (.engineDrainDone dt e) s a) ∧
     (∀ pass, x.testing = false → Gives (.engineSelfTestDone dt e pass) s a) ∧
     (x.testing = true → Gives (.engineSelfTestDone dt e true) s
       (ends true stOk [quad [(63, 63, 1)]] (count1 (cEng e 4) a))) ∧
     (x.testing = true → Gives (.engineSelfTestDone dt e false) s
       (ends false stOk [quad [(63, 63, 0)]]
         (record [] { devRec a 0x0603 2 0 0 with dstFunc := some e } (count1 (cEng e 4) a)))) ∧
     (let late := drains ∧ engineBusy a e = true ∧ x.drainUntil ≤ a.now
      (late → Gives (.engineDrainTimeout dt e) s (ends x.inService stTimeout [] a)) ∧
      (¬ late → Gives (.engineDrainTimeout dt e) s a) ∧
      (∀ (inService : Bool) (status : Nat) (pay : List Word64), (a.mb (x.drainMb.getD nobody)).waiting ≠ waitEngine →
        (ends inService status pay a).engine e = { inService := inService } ∧
        (ends inService status pay a).mgmt = a.mgmt)))

/-- Heartbeats and mastership (R427, R428, R543): a head sends its beat, hears its partner's, leaves the tandem when the roles do not match,
takes over after 800 µs of silence, offers and takes a handover at T_h, and a yielded master applies R428 again. Commands and responses of
the partner come in parts, in order of their offsets; the last part submits the command at mailbox 65 (R371, R372). -/
def Obligations.TandemHeads : Prop :=
  (∀ (s : State) (dt : Time), let a := advance dt s; let td := a.tandem
     let sends := coreRuns a = true ∧ inDeviceReset a = false ∧ td.configuredRole < 2
     let m : Out := .mgmt td.partner 0x0201 [a.dev, td.configuredRole, b2n a.ft.master, ownProto a, a.conf.epoch, digestPfx a.conf.digest]
     let offers := td.role = 0 ∧ td.returning = true ∧ a.ft.master = false ∧ a.ft.locked = true ∧ td.handoverAt = none
     (¬ sends → Gives (.heartbeatSend dt) s a) ∧
     (sends → ¬ offers → Gives (.heartbeatSend dt) s (post m (postTandem m a))) ∧
     (sends → offers → ∃ t : State, Gives (.heartbeatSend dt) s t ∧ t.tandem.handoverAt = some (a.ft.count + 10 * ms)) ∧
     (let silent := coreRuns a = true ∧ td.role = 1 ∧ a.ft.master = false ∧ a.ft.yielded = none ∧ td.lastBeat + 800 * us ≤ a.now
      (¬ silent → Gives (.heartbeatTimeout dt) s a) ∧
      (silent → ∃ t : State, Gives (.heartbeatTimeout dt) s t ∧ t.ft.master = true ∧ t.ft.count = a.ft.count ∧
        t.tandem = { td with returning := false, tHandover := a.ft.count })) ∧
     (let claims (u : Time) := coreRuns a = true ∧ td.role = 0 ∧ a.ft.master = false ∧ td.returning = false ∧ a.ft.yielded = none ∧
        u + 800 * us ≤ a.now
      (∀ u, td.firstSpokeUp = some u → claims u → ∃ t : State, Gives (.masterClaimTimeout dt) s t ∧
        t.ft.master = true ∧ t.ft.count = a.ft.count ∧ t.ft.ppm = 0) ∧
      ((∀ u, td.firstSpokeUp = some u → ¬ claims u) → Gives (.masterClaimTimeout dt) s a)) ∧
     (let takes (th : Nat) := coreRuns a = true ∧ td.role = 0 ∧ a.ft.locked = true ∧ a.ft.master = false ∧ a.ft.yielded = none ∧
        th ≤ a.ft.count
      (∀ th, td.handoverAt = some th → takes th → ∃ t : State, Gives (.handoverTime dt) s t ∧ t.ft.master = true ∧
        t.ft.count = a.ft.count ∧ t.tandem.tHandover = a.ft.count ∧ t.tandem.handoverAt = none) ∧
      ((∀ th, td.handoverAt = some th → ¬ takes th) → Gives (.handoverTime dt) s a)) ∧
     (∀ th, (coreRuns a = true → td.role = 1 → Gives (.tdmHandover dt th) s { a with tandem.handoverAt := some th }) ∧
       (coreRuns a = false ∨ td.role ≠ 1 → Gives (.tdmHandover dt th) s a)) ∧
     (∀ m, a.ft.yielded = some m → masterSeen a m + ms ≤ a.now → let b : State := { a with ft.yielded := none }
       (td.role = 0 → Gives (.masterYieldRelease dt) s { b with tandem.firstSpokeUp := some a.now, tandem.returning := false }) ∧
       (td.role = 1 → Gives (.masterYieldRelease dt) s b) ∧
       (2 ≤ td.role → Gives (.masterYieldRelease dt) s (becomeMaster b))) ∧
     ((∀ m, a.ft.yielded = some m → a.now < masterSeen a m + ms) → Gives (.masterYieldRelease dt) s a)) ∧
  (∀ (s : State) (dt : Time) (dev role ver epoch pfx : Nat) (m : Bool), let a := advance dt s; let td := a.tandem
     dev < 64 →
     let known := coreRuns a = true ∧ pfx < 2 ^ 64 ∧ td.configuredRole ≠ 2 ∧ dev = td.partner
     (¬ known → Gives (.tdmHeartbeat dt dev role m ver epoch pfx) s a) ∧
     (known → role + td.configuredRole ≠ 1 →
       Gives (.tdmHeartbeat dt dev role m ver epoch pfx) s (leaveTandem { a with tandem.partnerNamesUs := false })) ∧
     (known → role + td.configuredRole = 1 → ∃ t : State, Gives (.tdmHeartbeat dt dev role m ver epoch pfx) s t ∧
       t.tandem.role = td.configuredRole ∧ t.tandem.lastBeat = a.now ∧ t.tandem.heard = true ∧ t.tandem.partnerMaster = m ∧
       t.tandem.partnerVersion = ver ∧ t.tandem.partnerEpoch = epoch ∧
       (m = false → t.ft = a.ft ∧ t.tandem.returning = td.returning) ∧
       (m = true → td.configuredRole = 0 → t.ft = a.ft ∧ (a.ft.master = false → t.tandem.returning = true)) ∧
       (m = true → td.configuredRole = 1 → a.ft.master = true →
         (td.handoverAt = none → t.ft.master = false ∧ t.ft.locked = false ∧ t.tandem.tHandover = a.ft.count) ∧
         (∀ th, td.handoverAt = some th → th ≤ a.ft.count → t.ft.master = false ∧ t.ft.locked = true ∧
           t.ft.masterDev = td.partner ∧ t.tandem.handoverAt = none) ∧
         (∀ th, td.handoverAt = some th → a.ft.count < th → t.ft = a.ft)))) ∧
  (∀ (s : State) (dt : Time) (seq off : Nat) (last : Bool) (part : List Word64), let a := advance dt s
     let joined (old : List Word64) : List Word64 := if off = 0 then part else if off = 8 * old.length then old ++ part else old
     (coreRuns a = false ∨ 65536 ≤ seq → Gives (.tdmMailbox dt seq off last part) s a ∧ Gives (.tdmResponse dt seq off last part) s a) ∧
     (coreRuns a = true → seq < 65536 →
       (last = false → Gives (.tdmMailbox dt seq off last part) s { a with mgmt.tdmIn := joined a.mgmt.tdmIn }) ∧
       (last = true → let w := joined a.mgmt.tdmIn
         let r : Req := { mb := 65, hdr0 := w.getD 0 0, hdr1 := w.getD 1 0, pay := w.drop 2 }
         Gives (.tdmMailbox dt seq off last part) s (submit 65 (rOp r) (rSeq r) (some r) { a with mgmt.tdmIn := [] })) ∧
       (last = true ∨ part.length ≤ 512 →
         Gives (.tdmResponse dt seq off last part) s { a with mgmt.tdmResp := joined a.mgmt.tdmResp }) ∧
       (last = false → 512 < part.length → Gives (.tdmResponse dt seq off last part) s a)))

/-- Snapshots (R500 to R503): at T every counter's value is taken at once, the copy's end gives the snapshot its id and T_COPIED, and the
devices of a fabric snapshot answer or are timed out; one that is not time-locked takes none. Bandwidth windows and loop-back runs end
(R508, R509, R513, R514): a window completes its command with totals and busiest sub-windows, a lane checker without lock counts all ones,
a run that was given a duration ends with its counts. -/
def Obligations.SnapshotsWindowsAndRuns : Prop :=
  (∀ (s : State) (dt : Time), let a := advance dt s; let c := a.count
     ((∀ T, c.pending = some T → a.ft.count < T) → Gives (.snapshotTime dt) s a) ∧
     (∀ T, c.pending = some T → T ≤ a.ft.count →
       (c.snapFabric = false ∨ timeLocked a = true → Gives (.snapshotTime dt) s { a with
         count.pending := none, count.snap := c.live, count.snapInvalid := c.invalid, count.tSnap := T, count.tCopied := 0
         count.viewState := 1, count.copying := true }) ∧
       (c.snapFabric = true → timeLocked a = false →
         Gives (.snapshotTime dt) s (ownSnapAnswer none { a with count.pending := none }))) ∧
     (c.copying = false → Gives (.snapshotCopyDone dt) s a) ∧
     (c.copying = true → let n := (c.snapId + 1) % 2 ^ 32
       let b : State := raiseCauseAll 4 { a with
         count.copying := false, count.tCopied := a.ft.count, count.snapId := n, count.viewState := 2 }
       Gives (.snapshotCopyDone dt) s (ownSnapAnswer (some a.ft.count) b) ∧
       (∀ m, c.snapWait = [a.dev] → c.snapMb = some m → c.snapReply = none → c.snapStale = false →
         Gives (.snapshotCopyDone dt) s (finishWait m waitSnapshot stOk true
           [BitVec.ofNat 64 c.snapAt, BitVec.ofNat 64 (max c.snapLatest a.ft.count), quad [(31, 0, n)]]
           { b with count.snapWait := [], count.snapLatest := max c.snapLatest a.ft.count, count.snapStale := false
                    count.snapMb := none }))) ∧
     (∀ dev T, dev < 64 → let busy := c.pending ≠ none ∨ c.copying = true ∨ c.snapMb ≠ none
       (¬ busy → Gives (.snapReq dt dev T) s { a with
         count.pending := some T, count.snapFabric := true, count.snapReply := some dev, count.snapWait := []
         count.snapAt := T }) ∧
       (busy → Gives (.snapReq dt dev T) s a)) ∧
     (∀ dev (T : Option Nat), dev < 64 → let left := c.snapWait.filter (· != dev)
       let b : State := { a with
         count.snapWait := left, count.snapLatest := max c.snapLatest (T.getD 0), count.snapStale := c.snapStale || T.isNone }
       (dev ∉ c.snapWait → Gives (.snapDone dt dev T) s a) ∧
       (dev ∈ c.snapWait → left ≠ [] → Gives (.snapDone dt dev T) s b) ∧
       (dev ∈ c.snapWait → left = [] → ∀ m, c.snapMb = some m →
         Gives (.snapDone dt dev T) s (finishWait m waitSnapshot (if c.snapStale || T.isNone then stStale else stOk) true
           [BitVec.ofNat 64 c.snapAt, BitVec.ofNat 64 (max c.snapLatest (T.getD 0)), quad [(31, 0, c.snapId)]]
           { b with count.snapMb := none, count.snapWait := [] }))) ∧
     (let late := c.snapFabric = true ∧ c.pending = none ∧ c.snapAt + 10 * ms ≤ a.ft.count
      (∀ m, late → c.snapMb = some m → Gives (.snapshotFabricTimeout dt) s (finishWait m waitSnapshot stTimeout true
         [BitVec.ofNat 64 c.snapAt, BitVec.ofNat 64 c.snapLatest, quad [(31, 0, c.snapId)]]
         { a with count.snapMb := none, count.snapWait := [] })) ∧
      (¬ late ∨ c.snapMb = none → Gives (.snapshotFabricTimeout dt) s a))) ∧
  (∀ (s : State) (dt : Time) (i d e : Nat), let a := advance dt s
     (i < 8 →
       Gives (.bwWindowStart dt i) s { a with
         count.bw := tupd a.count.bw i fun u => if u.start ≤ a.ft.count then { u with started := true } else u } ∧
       (tfind a.count.bw i = none → Gives (.bwWindowEnd dt i) s a) ∧
       (∀ u, tfind a.count.bw i = some u → let ended := u.started = true ∧ u.start + u.winUs * us ≤ a.ft.count
         (¬ ended → Gives (.bwWindowEnd dt i) s a) ∧
         (ended → ∃ pay : List Word64,
           pay.take 3 = [BitVec.ofNat 64 u.start, BitVec.ofNat 64 (u.outBytes.map (·.2)).sum,
             BitVec.ofNat 64 (u.inBytes.map (·.2)).sum] ∧
           (∃ most, pay[3]? = some (BitVec.ofNat 64 most) ∧ (∀ x ∈ u.outBytes, x.2 ≤ most) ∧
             (u.outBytes ≠ [] → ∃ x ∈ u.outBytes, x.2 = most)) ∧
           Gives (.bwWindowEnd dt i) s (finishWait u.mb waitWindow stOk true pay { a with count.bw := tdel a.count.bw i })))) ∧
     (let found := a.count.loops.find? fun l => l.target == i && decide (l.depth ≤ 3) && l.state == 1
      (∀ l, found = some l → l.started + ms ≤ a.now →
        Gives (.loopbackLockTimeout dt i) s (endLoop l.depth i 0 (2 ^ 64 - 1) a)) ∧
      (∀ l, found = some l → a.now < l.started + ms → Gives (.loopbackLockTimeout dt i) s a) ∧
      (found = none → Gives (.loopbackLockTimeout dt i) s a)) ∧
     (∀ depth, (findLoop a (depth, i) = none → Gives (.loopbackDurationEnd dt depth i d e) s a) ∧
       (∀ l, findLoop a (depth, i) = some l →
         let ended := l.state = 1 ∧ l.duration ≠ 0 ∧ l.started + l.duration * us ≤ a.now
         (¬ ended → Gives (.loopbackDurationEnd dt depth i d e) s a) ∧
         (ended → depth ≤ 3 → Gives (.loopbackDurationEnd dt depth i d e) s (endLoop depth i d e a)) ∧
         (ended → 3 < depth → Gives (.loopbackDurationEnd dt depth i d e) s (endLoop depth i l.units l.errors a)))))

/-- The governor (R491) enters the highest stage whose temperature is reached at once and leaves a stage only after 1 s below its release; the
cap (R490) acts or undoes one step a window; the guard (R489) engages and releases. The VDD_CORE setpoint moves one step at a time toward
its target and stops at a refused write (R529); an alert reads STATUS_WORD. The wear ledger (R476, R477): each powered second charges a
die by its temperature, and a copy of the ledger goes to the store. A re-shim run starts after INTERVAL_D days of powered time, its ports
step down NOTICE_S after their notices, and the run ends once its actions have (R480, R483 to R485). The planer tests one region after
another (R486, R487). -/
def Obligations.PowerGovernorAndAgeing : Prop :=
  (∀ (s : State) (dt : Time) (tj : Int) (mw : Nat), let a := advance dt s; let w := a.power; let xt := a.chip.orderingXt
     (coreRuns a = false ∨ inDeviceReset a = true → Gives (.governorTick dt tj) s a) ∧
     (coreRuns a = true → inDeviceReset a = false →
       (∃ t : State, Gives (.governorTick dt tj) s t ∧
         let next := if w.stage < stageFor xt tj then stageFor xt tj
           else if w.stageAt + oneSec ≤ a.now then stageLeft xt tj w.stage else w.stage
         t.power = { w with tj := tj, stage := next, stageAt := if w.stage < next then a.now else w.stageAt } ∧
         t.chip.coreSlow = (w.guard || decide (3 ≤ max next w.capStage))) ∧
       (xt = false → 103 ≤ tj → tj < 105 → w.stage < 3 → ∃ t : State, Gives (.governorTick dt tj) s t ∧ t.power.stage = 3) ∧
       (xt = false → 105 ≤ tj → w.stage < 4 → ∃ t : State, Gives (.governorTick dt tj) s t ∧ t.power.stage = 4) ∧
       (xt = true → 110 ≤ tj → w.stage < 4 → ∃ t : State, Gives (.governorTick dt tj) s t ∧ t.power.stage = 4) ∧
       (tj < 97 → w.stageAt + oneSec ≤ a.now → w.stage ≤ 4 → ∃ t : State, Gives (.governorTick dt tj) s t ∧ t.power.stage = 0) ∧
       (tj < 97 → a.now < w.stageAt + oneSec → ∃ t : State, Gives (.governorTick dt tj) s t ∧ t.power.stage = w.stage)) ∧
     (coreRuns a = false ∨ w.capW = 0 → Gives (.powerCapWindow dt mw) s a) ∧
     (coreRuns a = true → w.capW ≠ 0 →
       (w.capW * 1000 < mw → w.capStage < 3 → Gives (.powerCapWindow dt mw) s (setPower (fun w => { w with capStage := w.capStage + 1 }) a)) ∧
       (w.capW * 1000 < mw → 3 ≤ w.capStage → Gives (.powerCapWindow dt mw) s { a with power.capMissed := w.capMissed + 1 }) ∧
       (mw * 100 < w.capW * 95000 → Gives (.powerCapWindow dt mw) s (setPower (fun w => { w with capStage := w.capStage - 1 }) a)) ∧
       (mw ≤ w.capW * 1000 → w.capW * 95000 ≤ mw * 100 → Gives (.powerCapWindow dt mw) s a)) ∧
     (coreRuns a = false → Gives (.currentGuardEngage dt) s a ∧ Gives (.currentGuardRelease dt) s a) ∧
     (coreRuns a = true → ∃ t u : State, Gives (.currentGuardEngage dt) s t ∧ t.power = { w with guard := true } ∧
       t.chip.coreSlow = true ∧ Gives (.currentGuardRelease dt) s u ∧ u.power = { w with guard := false } ∧
       u.chip.coreSlow = decide (3 ≤ max w.stage w.capStage))) ∧
  (∀ (s : State) (dt : Time) (fault : Bool) (word : BitVec 16), let a := advance dt s; let w := a.power
     let moves := coreRuns a = true ∧ w.vddStopped = false ∧ w.vddStep ≠ w.vddTarget
     let n := if w.vddStep < w.vddTarget then w.vddStep + 1 else w.vddStep - 1
     (∀ ack : Bool, ¬ moves → Gives (.vddSetpointStep dt ack fault word) s a) ∧
     (moves →
       (∃ t : State, Gives (.vddSetpointStep dt true fault word) s t ∧ t.power = { w with
         vddStep := n, statusWord := word, vddStopped := fault } ∧ t.out = a.out ++ [.pmbus 0x21 n, .pmbus 0x79 0]) ∧
       (∃ t : State, Gives (.vddSetpointStep dt false fault word) s t ∧ t.power = { w with vddStopped := true })) ∧
     (coreRuns a = false → Gives (.vrAlert dt word) s a) ∧
     (coreRuns a = true →
       ∃ t : State, Gives (.vrAlert dt word) s t ∧ t.power = { w with statusWord := word } ∧ t.chip = a.chip ∧
         t.out = a.out ++ [.pmbus 0x79 0])) ∧
  (∀ (s : State) (dt : Time) (temps : List Int), let a := advance dt s
     (∃ t : State, Gives (.wearCharge dt temps) s t ∧ ∀ d, let old := tget {} a.aging.wear d
       (∀ x, temps[d]? = some x → d < 6 → diePowered a d = true → tget {} t.aging.wear d = { old with
           charge := old.charge + (if x < 65 then 5 else if x < 75 then 10 else if x < 85 then 20 else if x < 95 then 36
             else if x ≤ 100 then 50 else 64)
           powered := old.powered + 1, hot := old.hot + (if 100 < x then 1 else 0), tMax := max old.tMax x }) ∧
       (temps[d]? = none ∨ 6 ≤ d ∨ diePowered a d = false → tget {} t.aging.wear d = old)) ∧
     (mcRuns a = false → Gives (.wearStoreWrite dt) s a) ∧
     (mcRuns a = true → ∃ t : State, Gives (.wearStoreWrite dt) s t ∧ t.aging.store.wear = a.aging.wear ∧
       t.aging.storeCopy = (a.aging.storeCopy + 1) % 16)) ∧
  (∀ (s : State) (dt : Time) (slow p : Nat), let a := advance dt s; let g := a.aging
     let due := mcRuns a = true ∧ g.running = false ∧ effStage a < 2 ∧ g.lastRun + g.intervalD * 86400 ≤ coreSeconds a
     (due → Gives (.reshimInterval dt slow) s (startReshim slow a)) ∧ (¬ due → Gives (.reshimInterval dt slow) s a) ∧
     (p < 128 →
       (tfind g.notices p = none → Gives (.reshimStep dt p) s a) ∧
       (∀ u, tfind g.notices p = some u → let ripe := g.allowStep = true ∧ u + g.noticeS * oneSec ≤ a.now
         (¬ ripe → Gives (.reshimStep dt p) s a) ∧
         (ripe → maySteps a p = false → Gives (.reshimStep dt p) s { a with aging.notices := tdel g.notices p }) ∧
         (ripe → maySteps a p = true →
           ∃ t : State, Gives (.reshimStep dt p) s t ∧ tfind t.aging.notices p = none ∧
             tget 0 t.aging.overlay.rates p = targetRate a p - 1 ∧
             ((a.port p).up = true → (t.port p).recovery = true ∧ (t.port p).rate = min (a.port p).rate (targetRate a p - 1)) ∧
             ((a.port p).up = false → t.port p = a.port p)))) ∧
     (mcRuns a = false ∨ g.running = false → Gives (.reshimComplete dt) s a) ∧
     (mcRuns a = true → g.running = true → let u := forAll g.retrain retrainOne a
       (u.aging.retrain ≠ [] ∨ (u.aging.allowStep = true ∧ u.aging.notices ≠ []) → Gives (.reshimComplete dt) s u) ∧
       (u.aging.retrain = [] → u.aging.notices = [] ∨ u.aging.allowStep = false → ∃ t : State, Gives (.reshimComplete dt) s t ∧
         t.aging.running = false ∧ t.aging.lastRun = coreSeconds u ∧ t.aging.store.vddOfs = u.aging.vddOfs ∧
         t.aging.store.overlay = u.aging.overlay))) ∧
  (∀ (s : State) (dt : Time) (n : Nat) (rows : List Nat), let a := advance dt s; let g := a.aging
     let due := coreRuns a = true ∧ g.planerEn = true ∧ g.inRegion = false ∧ effStage a < 2 ∧
       ∀ u, g.lastStart = some u → u + g.paceMs * ms ≤ a.now
     (due → Gives (.planerRegionStart dt) s { a with aging.inRegion := true, aging.lastStart := some a.now }) ∧
     (¬ due → Gives (.planerRegionStart dt) s a) ∧
     (coreRuns a = false ∨ g.inRegion = false → Gives (.planerRegionDone dt n rows) s a) ∧
     (coreRuns a = true → g.inRegion = true → g.region < 8304 →
       ∃ t : State, Gives (.planerRegionDone dt n rows) s t ∧ t.aging.inRegion = false ∧
         t.aging.region = (if g.region = 8303 then 0 else g.region + 1) ∧
         t.aging.passes = (if g.region = 8303 then (g.passes + 1) % 4096 else g.passes) ∧ (rows = [] → t.errs = a.errs)))
end

