-- ==== Sys2Proof/Laws/Tables.lean ====
section
/-! SUPPORT. Sparse tables: reading after writing, and the canonical form. The reading laws hold of every table, canonical or
not. -/

namespace Sys2Proof.Machine

@[simp] theorem tfind_tput {α : Type} (t : Tbl α) (i : Nat) (x : α) : tfind (tput t i x) i = some x := by
  induction t with
  | nil => simp [tput, tfind]
  | cons e r ih =>
    obtain ⟨k, w⟩ := e
    by_cases h : i < k <;> by_cases h2 : i = k <;> simp [tput, h, h2, ih, tfind]

theorem tfind_tput_ne {α : Type} (t : Tbl α) {i j : Nat} (x : α) (h : j ≠ i) : tfind (tput t i x) j = tfind t j := by
  induction t with
  | nil => simp [tput, tfind, h]
  | cons e r ih =>
    obtain ⟨k, w⟩ := e
    by_cases h1 : i < k
    · simp [tput, h1, tfind, h]
    · by_cases h2 : i = k
      · subst h2; simp [tput, tfind, h]
      · simp [tput, h1, h2, tfind, ih]

@[simp] theorem tfind_tdel {α : Type} (t : Tbl α) (i : Nat) : tfind (tdel t i) i = none := by
  induction t with
  | nil => rfl
  | cons e r ih =>
    obtain ⟨k, w⟩ := e
    by_cases h : k = i
    · simpa [tdel, h] using ih
    · simp only [tdel, List.filter_cons, bne_iff_ne, ne_eq, h, not_false_eq_true, if_true, tfind, Ne.symm h, if_false]
      exact ih

theorem tfind_tdel_ne {α : Type} (t : Tbl α) {i j : Nat} (h : j ≠ i) : tfind (tdel t i) j = tfind t j := by
  induction t with
  | nil => rfl
  | cons e r ih =>
    obtain ⟨k, w⟩ := e
    by_cases hk : k = i
    · subst hk
      simpa [tdel, tfind, h] using ih
    · simp only [tdel, List.filter_cons, bne_iff_ne, ne_eq, hk, not_false_eq_true, if_true, tfind]
      split
      · rfl
      · exact ih

@[simp] theorem tget_tset {α : Type} [DecidableEq α] (d : α) (t : Tbl α) (i : Nat) (v : α) : tget d (tset d t i v) i = v := by
  by_cases h : v = d <;> simp [tset, tget, h]

theorem tget_tset_ne {α : Type} [DecidableEq α] (d : α) (t : Tbl α) {i j : Nat} (v : α) (h : j ≠ i) :
    tget d (tset d t i v) j = tget d t j := by
  by_cases hv : v = d <;> simp [tset, tget, hv, tfind_tput_ne _ _ h, tfind_tdel_ne _ h]

@[simp] theorem tget_tmod {α : Type} [DecidableEq α] (d : α) (t : Tbl α) (i : Nat) (f : α → α) :
    tget d (tmod d t i f) i = f (tget d t i) := by simp [tmod]

theorem tget_tmod_ne {α : Type} [DecidableEq α] (d : α) (t : Tbl α) {i j : Nat} (f : α → α) (h : j ≠ i) :
    tget d (tmod d t i f) j = tget d t j := tget_tset_ne d t _ h

theorem tget_tmod_cases {α : Type} [DecidableEq α] (d : α) (t : Tbl α) (i j : Nat) (f : α → α) :
    tget d (tmod d t i f) j = if j = i then f (tget d t j) else tget d t j := by
  split
  · next h => subst h; simp
  · next h => exact tget_tmod_ne d t f h

/-- A second value put in replaces the first. -/
theorem tput_tput {α : Type} (t : Tbl α) (i : Nat) (x y : α) : tput (tput t i x) i y = tput t i y := by
  induction t with
  | nil => simp [tput]
  | cons e r ih =>
    obtain ⟨k, w⟩ := e
    by_cases h : i < k <;> by_cases h2 : i = k <;> simp [tput, h, h2, ih]

/-! Canonical form. -/

theorem rising_iff {α : Type} (t : Tbl α) : rising t = true ↔ t.Pairwise fun a b => a.1 < b.1 := by
  induction t with
  | nil => simp [rising]
  | cons e r ih =>
    cases r with
    | nil => simp [rising]
    | cons f q =>
      obtain ⟨k, v⟩ := e; obtain ⟨k', v'⟩ := f
      simp only [rising, Bool.and_eq_true, decide_eq_true_eq, ih, List.pairwise_cons, List.mem_cons, forall_eq_or_imp]
      constructor
      · rintro ⟨h, h2, h3⟩
        exact ⟨⟨h, fun x hx => lt_trans h (h2 x hx)⟩, h2, h3⟩
      · rintro ⟨⟨h, -⟩, h2, h3⟩
        exact ⟨h, h2, h3⟩

theorem mem_tput {α : Type} {t : Tbl α} {i : Nat} {v : α} {e : Nat × α} (h : e ∈ tput t i v) : e = (i, v) ∨ e ∈ t := by
  induction t with
  | nil => simpa [tput] using h
  | cons x r ih =>
    obtain ⟨k, w⟩ := x
    simp only [tput] at h
    split at h
    · simpa using h
    · split at h
      · rcases List.mem_cons.mp h with h | h
        · exact .inl h
        · exact .inr (List.mem_cons_of_mem _ h)
      · rcases List.mem_cons.mp h with h | h
        · exact .inr (h ▸ List.mem_cons_self)
        · exact (ih h).imp_right (List.mem_cons_of_mem _)

theorem rising_tput {α : Type} (t : Tbl α) (i : Nat) (v : α) (h : rising t = true) : rising (tput t i v) = true := by
  rw [rising_iff] at h ⊢
  induction t with
  | nil => simp [tput]
  | cons x r ih =>
    obtain ⟨k, w⟩ := x
    obtain ⟨h1, h2⟩ := List.pairwise_cons.mp h
    simp only [tput]
    split
    · next hi =>
      refine List.pairwise_cons.mpr ⟨?_, h⟩
      intro e he
      rcases List.mem_cons.mp he with he | he
      · subst he; exact hi
      · exact lt_trans hi (h1 e he)
    · split
      · next hi => subst hi; exact List.pairwise_cons.mpr ⟨h1, h2⟩
      · next hi hj =>
        refine List.pairwise_cons.mpr ⟨?_, ih h2⟩
        intro e he
        rcases mem_tput he with he | he
        · subst he; show k < i; omega
        · exact h1 e he

theorem rising_filter {α : Type} (t : Tbl α) (p : Nat × α → Bool) (h : rising t = true) : rising (t.filter p) = true := by
  rw [rising_iff] at h ⊢
  exact h.filter p

theorem tcanon_tset {α : Type} [DecidableEq α] (d : α) (t : Tbl α) (i : Nat) (v : α) (h : tcanon d t = true) :
    tcanon d (tset d t i v) = true := by
  simp only [tcanon, Bool.and_eq_true, List.all_eq_true] at h ⊢
  obtain ⟨h1, h2⟩ := h
  by_cases hv : v = d
  · simp only [tset, hv, if_true]
    exact ⟨rising_filter _ _ h1, fun e he => h2 e (List.mem_of_mem_filter he)⟩
  · simp only [tset, hv, if_false]
    refine ⟨rising_tput _ _ _ h1, fun e he => ?_⟩
    rcases mem_tput he with he | he
    · subst he; simpa using hv
    · exact h2 e he

theorem tcanon_tmod {α : Type} [DecidableEq α] (d : α) (t : Tbl α) (i : Nat) (f : α → α) (h : tcanon d t = true) :
    tcanon d (tmod d t i f) = true := tcanon_tset d t i _ h

theorem tcanon_tkeep {α : Type} [DecidableEq α] (d : α) (t : Tbl α) (p : Nat → α → Bool) (h : tcanon d t = true) :
    tcanon d (tkeep t p) = true := by
  simp only [tcanon, Bool.and_eq_true, List.all_eq_true] at h ⊢
  exact ⟨rising_filter _ _ h.1, fun e he => h.2 e (List.mem_of_mem_filter he)⟩

end Sys2Proof.Machine
end

