-- ==== Sys2Proof/Laws/State.lean ====
section
/-! SUPPORT. What the updates of the state change and leave: one lemma per update and field, so that no proof unfolds a record
update; and what reading an entry gives after an entry has been changed. -/

namespace Sys2Proof.Machine

variable (s : State)

@[simp] theorem advance_conf (dt : Time) : (advance dt s).conf = s.conf := rfl
@[simp] theorem advance_fw (dt : Time) : (advance dt s).fw = s.fw := rfl
@[simp] theorem advance_hub (dt : Time) : (advance dt s).hub = s.hub := rfl
@[simp] theorem advance_sched (dt : Time) : (advance dt s).sched = s.sched := rfl
@[simp] theorem advance_lanes (dt : Time) : (advance dt s).lanes = s.lanes := rfl
@[simp] theorem advance_pcie (dt : Time) : (advance dt s).pcie = s.pcie := rfl
@[simp] theorem advance_spokes (dt : Time) : (advance dt s).spokes = s.spokes := rfl
@[simp] theorem advance_bridge (dt : Time) : (advance dt s).bridge = s.bridge := rfl
@[simp] theorem advance_mover (dt : Time) : (advance dt s).mover = s.mover := rfl
@[simp] theorem advance_errs (dt : Time) : (advance dt s).errs = s.errs := rfl
@[simp] theorem advance_slot (dt : Time) : (advance dt s).slot = s.slot := rfl
@[simp] theorem advance_mgmt (dt : Time) : (advance dt s).mgmt = s.mgmt := rfl
@[simp] theorem advance_sec (dt : Time) : (advance dt s).sec = s.sec := rfl
@[simp] theorem advance_tandem (dt : Time) : (advance dt s).tandem = s.tandem := rfl
@[simp] theorem advance_aging (dt : Time) : (advance dt s).aging = s.aging := rfl
@[simp] theorem advance_power (dt : Time) : (advance dt s).power = s.power := rfl
@[simp] theorem advance_count (dt : Time) : (advance dt s).count = s.count := rfl
@[simp] theorem advance_out (dt : Time) : (advance dt s).out = s.out := rfl
@[simp] theorem advance_freeCtr (dt : Time) : (advance dt s).freeCtr = s.freeCtr := rfl
@[simp] theorem advance_pending (dt : Time) : (advance dt s).pending = s.pending := rfl

@[simp] theorem emit_chip (o : Out) : (emit o s).chip = s.chip := rfl
@[simp] theorem emit_ft (o : Out) : (emit o s).ft = s.ft := rfl
@[simp] theorem emit_conf (o : Out) : (emit o s).conf = s.conf := rfl
@[simp] theorem emit_fw (o : Out) : (emit o s).fw = s.fw := rfl
@[simp] theorem emit_hub (o : Out) : (emit o s).hub = s.hub := rfl
@[simp] theorem emit_sched (o : Out) : (emit o s).sched = s.sched := rfl
@[simp] theorem emit_lanes (o : Out) : (emit o s).lanes = s.lanes := rfl
@[simp] theorem emit_pcie (o : Out) : (emit o s).pcie = s.pcie := rfl
@[simp] theorem emit_spokes (o : Out) : (emit o s).spokes = s.spokes := rfl
@[simp] theorem emit_bridge (o : Out) : (emit o s).bridge = s.bridge := rfl
@[simp] theorem emit_mover (o : Out) : (emit o s).mover = s.mover := rfl
@[simp] theorem emit_errs (o : Out) : (emit o s).errs = s.errs := rfl
@[simp] theorem emit_slot (o : Out) : (emit o s).slot = s.slot := rfl
@[simp] theorem emit_mgmt (o : Out) : (emit o s).mgmt = s.mgmt := rfl
@[simp] theorem emit_sec (o : Out) : (emit o s).sec = s.sec := rfl
@[simp] theorem emit_tandem (o : Out) : (emit o s).tandem = s.tandem := rfl
@[simp] theorem emit_aging (o : Out) : (emit o s).aging = s.aging := rfl
@[simp] theorem emit_power (o : Out) : (emit o s).power = s.power := rfl
@[simp] theorem emit_count (o : Out) : (emit o s).count = s.count := rfl
@[simp] theorem emit_freeCtr (o : Out) : (emit o s).freeCtr = s.freeCtr := rfl
@[simp] theorem emit_pending (o : Out) : (emit o s).pending = s.pending := rfl

@[simp] theorem drew_chip : (drew s).chip = s.chip := rfl
@[simp] theorem drew_ft : (drew s).ft = s.ft := rfl
@[simp] theorem drew_conf : (drew s).conf = s.conf := rfl
@[simp] theorem drew_fw : (drew s).fw = s.fw := rfl
@[simp] theorem drew_hub : (drew s).hub = s.hub := rfl
@[simp] theorem drew_sched : (drew s).sched = s.sched := rfl
@[simp] theorem drew_lanes : (drew s).lanes = s.lanes := rfl
@[simp] theorem drew_pcie : (drew s).pcie = s.pcie := rfl
@[simp] theorem drew_spokes : (drew s).spokes = s.spokes := rfl
@[simp] theorem drew_bridge : (drew s).bridge = s.bridge := rfl
@[simp] theorem drew_mover : (drew s).mover = s.mover := rfl
@[simp] theorem drew_errs : (drew s).errs = s.errs := rfl
@[simp] theorem drew_slot : (drew s).slot = s.slot := rfl
@[simp] theorem drew_mgmt : (drew s).mgmt = s.mgmt := rfl
@[simp] theorem drew_sec : (drew s).sec = s.sec := rfl
@[simp] theorem drew_tandem : (drew s).tandem = s.tandem := rfl
@[simp] theorem drew_aging : (drew s).aging = s.aging := rfl
@[simp] theorem drew_power : (drew s).power = s.power := rfl
@[simp] theorem drew_count : (drew s).count = s.count := rfl
@[simp] theorem drew_out : (drew s).out = s.out := rfl
@[simp] theorem drew_pending : (drew s).pending = s.pending := rfl

@[simp] theorem countBy_chip (i n : Nat) : (countBy i n s).chip = s.chip := rfl
@[simp] theorem countBy_ft (i n : Nat) : (countBy i n s).ft = s.ft := rfl
@[simp] theorem countBy_conf (i n : Nat) : (countBy i n s).conf = s.conf := rfl
@[simp] theorem countBy_fw (i n : Nat) : (countBy i n s).fw = s.fw := rfl
@[simp] theorem countBy_hub (i n : Nat) : (countBy i n s).hub = s.hub := rfl
@[simp] theorem countBy_sched (i n : Nat) : (countBy i n s).sched = s.sched := rfl
@[simp] theorem countBy_lanes (i n : Nat) : (countBy i n s).lanes = s.lanes := rfl
@[simp] theorem countBy_pcie (i n : Nat) : (countBy i n s).pcie = s.pcie := rfl
@[simp] theorem countBy_spokes (i n : Nat) : (countBy i n s).spokes = s.spokes := rfl
@[simp] theorem countBy_bridge (i n : Nat) : (countBy i n s).bridge = s.bridge := rfl
@[simp] theorem countBy_mover (i n : Nat) : (countBy i n s).mover = s.mover := rfl
@[simp] theorem countBy_errs (i n : Nat) : (countBy i n s).errs = s.errs := rfl
@[simp] theorem countBy_slot (i n : Nat) : (countBy i n s).slot = s.slot := rfl
@[simp] theorem countBy_mgmt (i n : Nat) : (countBy i n s).mgmt = s.mgmt := rfl
@[simp] theorem countBy_sec (i n : Nat) : (countBy i n s).sec = s.sec := rfl
@[simp] theorem countBy_tandem (i n : Nat) : (countBy i n s).tandem = s.tandem := rfl
@[simp] theorem countBy_aging (i n : Nat) : (countBy i n s).aging = s.aging := rfl
@[simp] theorem countBy_power (i n : Nat) : (countBy i n s).power = s.power := rfl
@[simp] theorem countBy_out (i n : Nat) : (countBy i n s).out = s.out := rfl
@[simp] theorem countBy_freeCtr (i n : Nat) : (countBy i n s).freeCtr = s.freeCtr := rfl
@[simp] theorem countBy_pending (i n : Nat) : (countBy i n s).pending = s.pending := rfl

@[simp] theorem count1_chip (i : Nat) : (count1 i s).chip = s.chip := rfl
@[simp] theorem count1_ft (i : Nat) : (count1 i s).ft = s.ft := rfl
@[simp] theorem count1_conf (i : Nat) : (count1 i s).conf = s.conf := rfl
@[simp] theorem count1_fw (i : Nat) : (count1 i s).fw = s.fw := rfl
@[simp] theorem count1_hub (i : Nat) : (count1 i s).hub = s.hub := rfl
@[simp] theorem count1_sched (i : Nat) : (count1 i s).sched = s.sched := rfl
@[simp] theorem count1_lanes (i : Nat) : (count1 i s).lanes = s.lanes := rfl
@[simp] theorem count1_pcie (i : Nat) : (count1 i s).pcie = s.pcie := rfl
@[simp] theorem count1_spokes (i : Nat) : (count1 i s).spokes = s.spokes := rfl
@[simp] theorem count1_bridge (i : Nat) : (count1 i s).bridge = s.bridge := rfl
@[simp] theorem count1_mover (i : Nat) : (count1 i s).mover = s.mover := rfl
@[simp] theorem count1_errs (i : Nat) : (count1 i s).errs = s.errs := rfl
@[simp] theorem count1_slot (i : Nat) : (count1 i s).slot = s.slot := rfl
@[simp] theorem count1_mgmt (i : Nat) : (count1 i s).mgmt = s.mgmt := rfl
@[simp] theorem count1_sec (i : Nat) : (count1 i s).sec = s.sec := rfl
@[simp] theorem count1_tandem (i : Nat) : (count1 i s).tandem = s.tandem := rfl
@[simp] theorem count1_aging (i : Nat) : (count1 i s).aging = s.aging := rfl
@[simp] theorem count1_power (i : Nat) : (count1 i s).power = s.power := rfl
@[simp] theorem count1_out (i : Nat) : (count1 i s).out = s.out := rfl
@[simp] theorem count1_freeCtr (i : Nat) : (count1 i s).freeCtr = s.freeCtr := rfl
@[simp] theorem count1_pending (i : Nat) : (count1 i s).pending = s.pending := rfl

@[simp] theorem countUnits_chip (u i n : Nat) : (countUnits u i n s).chip = s.chip := rfl
@[simp] theorem countUnits_ft (u i n : Nat) : (countUnits u i n s).ft = s.ft := rfl
@[simp] theorem countUnits_conf (u i n : Nat) : (countUnits u i n s).conf = s.conf := rfl
@[simp] theorem countUnits_fw (u i n : Nat) : (countUnits u i n s).fw = s.fw := rfl
@[simp] theorem countUnits_hub (u i n : Nat) : (countUnits u i n s).hub = s.hub := rfl
@[simp] theorem countUnits_sched (u i n : Nat) : (countUnits u i n s).sched = s.sched := rfl
@[simp] theorem countUnits_lanes (u i n : Nat) : (countUnits u i n s).lanes = s.lanes := rfl
@[simp] theorem countUnits_pcie (u i n : Nat) : (countUnits u i n s).pcie = s.pcie := rfl
@[simp] theorem countUnits_spokes (u i n : Nat) : (countUnits u i n s).spokes = s.spokes := rfl
@[simp] theorem countUnits_bridge (u i n : Nat) : (countUnits u i n s).bridge = s.bridge := rfl
@[simp] theorem countUnits_mover (u i n : Nat) : (countUnits u i n s).mover = s.mover := rfl
@[simp] theorem countUnits_errs (u i n : Nat) : (countUnits u i n s).errs = s.errs := rfl
@[simp] theorem countUnits_slot (u i n : Nat) : (countUnits u i n s).slot = s.slot := rfl
@[simp] theorem countUnits_mgmt (u i n : Nat) : (countUnits u i n s).mgmt = s.mgmt := rfl
@[simp] theorem countUnits_sec (u i n : Nat) : (countUnits u i n s).sec = s.sec := rfl
@[simp] theorem countUnits_tandem (u i n : Nat) : (countUnits u i n s).tandem = s.tandem := rfl
@[simp] theorem countUnits_aging (u i n : Nat) : (countUnits u i n s).aging = s.aging := rfl
@[simp] theorem countUnits_power (u i n : Nat) : (countUnits u i n s).power = s.power := rfl
@[simp] theorem countUnits_out (u i n : Nat) : (countUnits u i n s).out = s.out := rfl
@[simp] theorem countUnits_freeCtr (u i n : Nat) : (countUnits u i n s).freeCtr = s.freeCtr := rfl
@[simp] theorem countUnits_pending (u i n : Nat) : (countUnits u i n s).pending = s.pending := rfl

@[simp] theorem countBytes_chip (i n : Nat) : (countBytes i n s).chip = s.chip := rfl
@[simp] theorem countBytes_ft (i n : Nat) : (countBytes i n s).ft = s.ft := rfl
@[simp] theorem countBytes_conf (i n : Nat) : (countBytes i n s).conf = s.conf := rfl
@[simp] theorem countBytes_fw (i n : Nat) : (countBytes i n s).fw = s.fw := rfl
@[simp] theorem countBytes_hub (i n : Nat) : (countBytes i n s).hub = s.hub := rfl
@[simp] theorem countBytes_sched (i n : Nat) : (countBytes i n s).sched = s.sched := rfl
@[simp] theorem countBytes_lanes (i n : Nat) : (countBytes i n s).lanes = s.lanes := rfl
@[simp] theorem countBytes_pcie (i n : Nat) : (countBytes i n s).pcie = s.pcie := rfl
@[simp] theorem countBytes_spokes (i n : Nat) : (countBytes i n s).spokes = s.spokes := rfl
@[simp] theorem countBytes_bridge (i n : Nat) : (countBytes i n s).bridge = s.bridge := rfl
@[simp] theorem countBytes_mover (i n : Nat) : (countBytes i n s).mover = s.mover := rfl
@[simp] theorem countBytes_errs (i n : Nat) : (countBytes i n s).errs = s.errs := rfl
@[simp] theorem countBytes_slot (i n : Nat) : (countBytes i n s).slot = s.slot := rfl
@[simp] theorem countBytes_mgmt (i n : Nat) : (countBytes i n s).mgmt = s.mgmt := rfl
@[simp] theorem countBytes_sec (i n : Nat) : (countBytes i n s).sec = s.sec := rfl
@[simp] theorem countBytes_tandem (i n : Nat) : (countBytes i n s).tandem = s.tandem := rfl
@[simp] theorem countBytes_aging (i n : Nat) : (countBytes i n s).aging = s.aging := rfl
@[simp] theorem countBytes_power (i n : Nat) : (countBytes i n s).power = s.power := rfl
@[simp] theorem countBytes_out (i n : Nat) : (countBytes i n s).out = s.out := rfl
@[simp] theorem countBytes_freeCtr (i n : Nat) : (countBytes i n s).freeCtr = s.freeCtr := rfl
@[simp] theorem countBytes_pending (i n : Nat) : (countBytes i n s).pending = s.pending := rfl

@[simp] theorem countTime_chip (i : Nat) (d : Time) : (countTime i d s).chip = s.chip := rfl
@[simp] theorem countTime_ft (i : Nat) (d : Time) : (countTime i d s).ft = s.ft := rfl
@[simp] theorem countTime_conf (i : Nat) (d : Time) : (countTime i d s).conf = s.conf := rfl
@[simp] theorem countTime_fw (i : Nat) (d : Time) : (countTime i d s).fw = s.fw := rfl
@[simp] theorem countTime_hub (i : Nat) (d : Time) : (countTime i d s).hub = s.hub := rfl
@[simp] theorem countTime_sched (i : Nat) (d : Time) : (countTime i d s).sched = s.sched := rfl
@[simp] theorem countTime_lanes (i : Nat) (d : Time) : (countTime i d s).lanes = s.lanes := rfl
@[simp] theorem countTime_pcie (i : Nat) (d : Time) : (countTime i d s).pcie = s.pcie := rfl
@[simp] theorem countTime_spokes (i : Nat) (d : Time) : (countTime i d s).spokes = s.spokes := rfl
@[simp] theorem countTime_bridge (i : Nat) (d : Time) : (countTime i d s).bridge = s.bridge := rfl
@[simp] theorem countTime_mover (i : Nat) (d : Time) : (countTime i d s).mover = s.mover := rfl
@[simp] theorem countTime_errs (i : Nat) (d : Time) : (countTime i d s).errs = s.errs := rfl
@[simp] theorem countTime_slot (i : Nat) (d : Time) : (countTime i d s).slot = s.slot := rfl
@[simp] theorem countTime_mgmt (i : Nat) (d : Time) : (countTime i d s).mgmt = s.mgmt := rfl
@[simp] theorem countTime_sec (i : Nat) (d : Time) : (countTime i d s).sec = s.sec := rfl
@[simp] theorem countTime_tandem (i : Nat) (d : Time) : (countTime i d s).tandem = s.tandem := rfl
@[simp] theorem countTime_aging (i : Nat) (d : Time) : (countTime i d s).aging = s.aging := rfl
@[simp] theorem countTime_power (i : Nat) (d : Time) : (countTime i d s).power = s.power := rfl
@[simp] theorem countTime_out (i : Nat) (d : Time) : (countTime i d s).out = s.out := rfl
@[simp] theorem countTime_freeCtr (i : Nat) (d : Time) : (countTime i d s).freeCtr = s.freeCtr := rfl
@[simp] theorem countTime_pending (i : Nat) (d : Time) : (countTime i d s).pending = s.pending := rfl

@[simp] theorem modLoop_chip (d k : Nat) (f : LoopRun → LoopRun) : (modLoop d k f s).chip = s.chip := rfl
@[simp] theorem modLoop_ft (d k : Nat) (f : LoopRun → LoopRun) : (modLoop d k f s).ft = s.ft := rfl
@[simp] theorem modLoop_conf (d k : Nat) (f : LoopRun → LoopRun) : (modLoop d k f s).conf = s.conf := rfl
@[simp] theorem modLoop_fw (d k : Nat) (f : LoopRun → LoopRun) : (modLoop d k f s).fw = s.fw := rfl
@[simp] theorem modLoop_hub (d k : Nat) (f : LoopRun → LoopRun) : (modLoop d k f s).hub = s.hub := rfl
@[simp] theorem modLoop_sched (d k : Nat) (f : LoopRun → LoopRun) : (modLoop d k f s).sched = s.sched := rfl
@[simp] theorem modLoop_lanes (d k : Nat) (f : LoopRun → LoopRun) : (modLoop d k f s).lanes = s.lanes := rfl
@[simp] theorem modLoop_pcie (d k : Nat) (f : LoopRun → LoopRun) : (modLoop d k f s).pcie = s.pcie := rfl
@[simp] theorem modLoop_spokes (d k : Nat) (f : LoopRun → LoopRun) : (modLoop d k f s).spokes = s.spokes := rfl
@[simp] theorem modLoop_bridge (d k : Nat) (f : LoopRun → LoopRun) : (modLoop d k f s).bridge = s.bridge := rfl
@[simp] theorem modLoop_mover (d k : Nat) (f : LoopRun → LoopRun) : (modLoop d k f s).mover = s.mover := rfl
@[simp] theorem modLoop_errs (d k : Nat) (f : LoopRun → LoopRun) : (modLoop d k f s).errs = s.errs := rfl
@[simp] theorem modLoop_slot (d k : Nat) (f : LoopRun → LoopRun) : (modLoop d k f s).slot = s.slot := rfl
@[simp] theorem modLoop_mgmt (d k : Nat) (f : LoopRun → LoopRun) : (modLoop d k f s).mgmt = s.mgmt := rfl
@[simp] theorem modLoop_sec (d k : Nat) (f : LoopRun → LoopRun) : (modLoop d k f s).sec = s.sec := rfl
@[simp] theorem modLoop_tandem (d k : Nat) (f : LoopRun → LoopRun) : (modLoop d k f s).tandem = s.tandem := rfl
@[simp] theorem modLoop_aging (d k : Nat) (f : LoopRun → LoopRun) : (modLoop d k f s).aging = s.aging := rfl
@[simp] theorem modLoop_power (d k : Nat) (f : LoopRun → LoopRun) : (modLoop d k f s).power = s.power := rfl
@[simp] theorem modLoop_out (d k : Nat) (f : LoopRun → LoopRun) : (modLoop d k f s).out = s.out := rfl
@[simp] theorem modLoop_freeCtr (d k : Nat) (f : LoopRun → LoopRun) : (modLoop d k f s).freeCtr = s.freeCtr := rfl
@[simp] theorem modLoop_pending (d k : Nat) (f : LoopRun → LoopRun) : (modLoop d k f s).pending = s.pending := rfl

@[simp] theorem countLoop_chip (d k u e : Nat) : (countLoop d k u e s).chip = s.chip := rfl
@[simp] theorem countLoop_ft (d k u e : Nat) : (countLoop d k u e s).ft = s.ft := rfl
@[simp] theorem countLoop_conf (d k u e : Nat) : (countLoop d k u e s).conf = s.conf := rfl
@[simp] theorem countLoop_fw (d k u e : Nat) : (countLoop d k u e s).fw = s.fw := rfl
@[simp] theorem countLoop_hub (d k u e : Nat) : (countLoop d k u e s).hub = s.hub := rfl
@[simp] theorem countLoop_sched (d k u e : Nat) : (countLoop d k u e s).sched = s.sched := rfl
@[simp] theorem countLoop_lanes (d k u e : Nat) : (countLoop d k u e s).lanes = s.lanes := rfl
@[simp] theorem countLoop_pcie (d k u e : Nat) : (countLoop d k u e s).pcie = s.pcie := rfl
@[simp] theorem countLoop_spokes (d k u e : Nat) : (countLoop d k u e s).spokes = s.spokes := rfl
@[simp] theorem countLoop_bridge (d k u e : Nat) : (countLoop d k u e s).bridge = s.bridge := rfl
@[simp] theorem countLoop_mover (d k u e : Nat) : (countLoop d k u e s).mover = s.mover := rfl
@[simp] theorem countLoop_errs (d k u e : Nat) : (countLoop d k u e s).errs = s.errs := rfl
@[simp] theorem countLoop_slot (d k u e : Nat) : (countLoop d k u e s).slot = s.slot := rfl
@[simp] theorem countLoop_mgmt (d k u e : Nat) : (countLoop d k u e s).mgmt = s.mgmt := rfl
@[simp] theorem countLoop_sec (d k u e : Nat) : (countLoop d k u e s).sec = s.sec := rfl
@[simp] theorem countLoop_tandem (d k u e : Nat) : (countLoop d k u e s).tandem = s.tandem := rfl
@[simp] theorem countLoop_aging (d k u e : Nat) : (countLoop d k u e s).aging = s.aging := rfl
@[simp] theorem countLoop_power (d k u e : Nat) : (countLoop d k u e s).power = s.power := rfl
@[simp] theorem countLoop_out (d k u e : Nat) : (countLoop d k u e s).out = s.out := rfl
@[simp] theorem countLoop_freeCtr (d k u e : Nat) : (countLoop d k u e s).freeCtr = s.freeCtr := rfl
@[simp] theorem countLoop_pending (d k u e : Nat) : (countLoop d k u e s).pending = s.pending := rfl

@[simp] theorem modPort_chip (i : Nat) (f : Port → Port) : (modPort i f s).chip = s.chip := rfl
@[simp] theorem modPort_ft (i : Nat) (f : Port → Port) : (modPort i f s).ft = s.ft := rfl
@[simp] theorem modPort_conf (i : Nat) (f : Port → Port) : (modPort i f s).conf = s.conf := rfl
@[simp] theorem modPort_fw (i : Nat) (f : Port → Port) : (modPort i f s).fw = s.fw := rfl
@[simp] theorem modPort_hub (i : Nat) (f : Port → Port) : (modPort i f s).hub = s.hub := rfl
@[simp] theorem modPort_sched (i : Nat) (f : Port → Port) : (modPort i f s).sched = s.sched := rfl
@[simp] theorem modPort_lanes (i : Nat) (f : Port → Port) : (modPort i f s).lanes = s.lanes := rfl
@[simp] theorem modPort_spokes (i : Nat) (f : Port → Port) : (modPort i f s).spokes = s.spokes := rfl
@[simp] theorem modPort_bridge (i : Nat) (f : Port → Port) : (modPort i f s).bridge = s.bridge := rfl
@[simp] theorem modPort_mover (i : Nat) (f : Port → Port) : (modPort i f s).mover = s.mover := rfl
@[simp] theorem modPort_errs (i : Nat) (f : Port → Port) : (modPort i f s).errs = s.errs := rfl
@[simp] theorem modPort_slot (i : Nat) (f : Port → Port) : (modPort i f s).slot = s.slot := rfl
@[simp] theorem modPort_mgmt (i : Nat) (f : Port → Port) : (modPort i f s).mgmt = s.mgmt := rfl
@[simp] theorem modPort_sec (i : Nat) (f : Port → Port) : (modPort i f s).sec = s.sec := rfl
@[simp] theorem modPort_tandem (i : Nat) (f : Port → Port) : (modPort i f s).tandem = s.tandem := rfl
@[simp] theorem modPort_aging (i : Nat) (f : Port → Port) : (modPort i f s).aging = s.aging := rfl
@[simp] theorem modPort_power (i : Nat) (f : Port → Port) : (modPort i f s).power = s.power := rfl
@[simp] theorem modPort_count (i : Nat) (f : Port → Port) : (modPort i f s).count = s.count := rfl
@[simp] theorem modPort_out (i : Nat) (f : Port → Port) : (modPort i f s).out = s.out := rfl
@[simp] theorem modPort_freeCtr (i : Nat) (f : Port → Port) : (modPort i f s).freeCtr = s.freeCtr := rfl
@[simp] theorem modPort_pending (i : Nat) (f : Port → Port) : (modPort i f s).pending = s.pending := rfl
@[simp] theorem modPort_pcie_aux (i : Nat) (f : Port → Port) : (modPort i f s).pcie.aux = s.pcie.aux := rfl
@[simp] theorem modPort_pcie_part (i : Nat) (f : Port → Port) : (modPort i f s).pcie.part = s.pcie.part := rfl
@[simp] theorem modPort_pcie_perstin (i : Nat) (f : Port → Port) : (modPort i f s).pcie.perstin = s.pcie.perstin := rfl
@[simp] theorem modPort_pcie_remWires (i : Nat) (f : Port → Port) : (modPort i f s).pcie.remWires = s.pcie.remWires := rfl
@[simp] theorem modPort_port_same (i : Nat) (f : Port → Port) : (modPort i f s).port i = f (s.port i) := by simp [modPort, State.port]
theorem modPort_port_ne {i j : Nat} (f : Port → Port) (h : j ≠ i) : (modPort i f s).port j = s.port j := tget_tmod_ne _ _ _ h
theorem modPort_port (i j : Nat) (f : Port → Port) : (modPort i f s).port j = if j = i then f (s.port j) else s.port j :=
  tget_tmod_cases _ _ _ _ _

@[simp] theorem modAux_chip (i : Nat) (f : PortAux → PortAux) : (modAux i f s).chip = s.chip := rfl
@[simp] theorem modAux_ft (i : Nat) (f : PortAux → PortAux) : (modAux i f s).ft = s.ft := rfl
@[simp] theorem modAux_conf (i : Nat) (f : PortAux → PortAux) : (modAux i f s).conf = s.conf := rfl
@[simp] theorem modAux_fw (i : Nat) (f : PortAux → PortAux) : (modAux i f s).fw = s.fw := rfl
@[simp] theorem modAux_hub (i : Nat) (f : PortAux → PortAux) : (modAux i f s).hub = s.hub := rfl
@[simp] theorem modAux_sched (i : Nat) (f : PortAux → PortAux) : (modAux i f s).sched = s.sched := rfl
@[simp] theorem modAux_lanes (i : Nat) (f : PortAux → PortAux) : (modAux i f s).lanes = s.lanes := rfl
@[simp] theorem modAux_spokes (i : Nat) (f : PortAux → PortAux) : (modAux i f s).spokes = s.spokes := rfl
@[simp] theorem modAux_bridge (i : Nat) (f : PortAux → PortAux) : (modAux i f s).bridge = s.bridge := rfl
@[simp] theorem modAux_mover (i : Nat) (f : PortAux → PortAux) : (modAux i f s).mover = s.mover := rfl
@[simp] theorem modAux_errs (i : Nat) (f : PortAux → PortAux) : (modAux i f s).errs = s.errs := rfl
@[simp] theorem modAux_slot (i : Nat) (f : PortAux → PortAux) : (modAux i f s).slot = s.slot := rfl
@[simp] theorem modAux_mgmt (i : Nat) (f : PortAux → PortAux) : (modAux i f s).mgmt = s.mgmt := rfl
@[simp] theorem modAux_sec (i : Nat) (f : PortAux → PortAux) : (modAux i f s).sec = s.sec := rfl
@[simp] theorem modAux_tandem (i : Nat) (f : PortAux → PortAux) : (modAux i f s).tandem = s.tandem := rfl
@[simp] theorem modAux_aging (i : Nat) (f : PortAux → PortAux) : (modAux i f s).aging = s.aging := rfl
@[simp] theorem modAux_power (i : Nat) (f : PortAux → PortAux) : (modAux i f s).power = s.power := rfl
@[simp] theorem modAux_count (i : Nat) (f : PortAux → PortAux) : (modAux i f s).count = s.count := rfl
@[simp] theorem modAux_out (i : Nat) (f : PortAux → PortAux) : (modAux i f s).out = s.out := rfl
@[simp] theorem modAux_freeCtr (i : Nat) (f : PortAux → PortAux) : (modAux i f s).freeCtr = s.freeCtr := rfl
@[simp] theorem modAux_pending (i : Nat) (f : PortAux → PortAux) : (modAux i f s).pending = s.pending := rfl
@[simp] theorem modAux_pcie_port (i : Nat) (f : PortAux → PortAux) : (modAux i f s).pcie.port = s.pcie.port := rfl
@[simp] theorem modAux_pcie_part (i : Nat) (f : PortAux → PortAux) : (modAux i f s).pcie.part = s.pcie.part := rfl
@[simp] theorem modAux_pcie_perstin (i : Nat) (f : PortAux → PortAux) : (modAux i f s).pcie.perstin = s.pcie.perstin := rfl
@[simp] theorem modAux_pcie_remWires (i : Nat) (f : PortAux → PortAux) : (modAux i f s).pcie.remWires = s.pcie.remWires := rfl
@[simp] theorem modAux_aux_same (i : Nat) (f : PortAux → PortAux) : (modAux i f s).aux i = f (s.aux i) := by simp [modAux, State.aux]
theorem modAux_aux_ne {i j : Nat} (f : PortAux → PortAux) (h : j ≠ i) : (modAux i f s).aux j = s.aux j := tget_tmod_ne _ _ _ h
theorem modAux_aux (i j : Nat) (f : PortAux → PortAux) : (modAux i f s).aux j = if j = i then f (s.aux j) else s.aux j :=
  tget_tmod_cases _ _ _ _ _

@[simp] theorem modPart_chip (i : Nat) (f : Part → Part) : (modPart i f s).chip = s.chip := rfl
@[simp] theorem modPart_ft (i : Nat) (f : Part → Part) : (modPart i f s).ft = s.ft := rfl
@[simp] theorem modPart_conf (i : Nat) (f : Part → Part) : (modPart i f s).conf = s.conf := rfl
@[simp] theorem modPart_fw (i : Nat) (f : Part → Part) : (modPart i f s).fw = s.fw := rfl
@[simp] theorem modPart_hub (i : Nat) (f : Part → Part) : (modPart i f s).hub = s.hub := rfl
@[simp] theorem modPart_sched (i : Nat) (f : Part → Part) : (modPart i f s).sched = s.sched := rfl
@[simp] theorem modPart_lanes (i : Nat) (f : Part → Part) : (modPart i f s).lanes = s.lanes := rfl
@[simp] theorem modPart_spokes (i : Nat) (f : Part → Part) : (modPart i f s).spokes = s.spokes := rfl
@[simp] theorem modPart_bridge (i : Nat) (f : Part → Part) : (modPart i f s).bridge = s.bridge := rfl
@[simp] theorem modPart_mover (i : Nat) (f : Part → Part) : (modPart i f s).mover = s.mover := rfl
@[simp] theorem modPart_errs (i : Nat) (f : Part → Part) : (modPart i f s).errs = s.errs := rfl
@[simp] theorem modPart_slot (i : Nat) (f : Part → Part) : (modPart i f s).slot = s.slot := rfl
@[simp] theorem modPart_mgmt (i : Nat) (f : Part → Part) : (modPart i f s).mgmt = s.mgmt := rfl
@[simp] theorem modPart_sec (i : Nat) (f : Part → Part) : (modPart i f s).sec = s.sec := rfl
@[simp] theorem modPart_tandem (i : Nat) (f : Part → Part) : (modPart i f s).tandem = s.tandem := rfl
@[simp] theorem modPart_aging (i : Nat) (f : Part → Part) : (modPart i f s).aging = s.aging := rfl
@[simp] theorem modPart_power (i : Nat) (f : Part → Part) : (modPart i f s).power = s.power := rfl
@[simp] theorem modPart_count (i : Nat) (f : Part → Part) : (modPart i f s).count = s.count := rfl
@[simp] theorem modPart_out (i : Nat) (f : Part → Part) : (modPart i f s).out = s.out := rfl
@[simp] theorem modPart_freeCtr (i : Nat) (f : Part → Part) : (modPart i f s).freeCtr = s.freeCtr := rfl
@[simp] theorem modPart_pending (i : Nat) (f : Part → Part) : (modPart i f s).pending = s.pending := rfl
@[simp] theorem modPart_pcie_port (i : Nat) (f : Part → Part) : (modPart i f s).pcie.port = s.pcie.port := rfl
@[simp] theorem modPart_pcie_aux (i : Nat) (f : Part → Part) : (modPart i f s).pcie.aux = s.pcie.aux := rfl
@[simp] theorem modPart_pcie_perstin (i : Nat) (f : Part → Part) : (modPart i f s).pcie.perstin = s.pcie.perstin := rfl
@[simp] theorem modPart_pcie_remWires (i : Nat) (f : Part → Part) : (modPart i f s).pcie.remWires = s.pcie.remWires := rfl
@[simp] theorem modPart_part_same (i : Nat) (f : Part → Part) : (modPart i f s).part i = f (s.part i) := by simp [modPart, State.part]
theorem modPart_part_ne {i j : Nat} (f : Part → Part) (h : j ≠ i) : (modPart i f s).part j = s.part j := tget_tmod_ne _ _ _ h
theorem modPart_part (i j : Nat) (f : Part → Part) : (modPart i f s).part j = if j = i then f (s.part j) else s.part j :=
  tget_tmod_cases _ _ _ _ _

@[simp] theorem modSpoke_chip (i : Nat) (f : Spoke → Spoke) : (modSpoke i f s).chip = s.chip := rfl
@[simp] theorem modSpoke_ft (i : Nat) (f : Spoke → Spoke) : (modSpoke i f s).ft = s.ft := rfl
@[simp] theorem modSpoke_conf (i : Nat) (f : Spoke → Spoke) : (modSpoke i f s).conf = s.conf := rfl
@[simp] theorem modSpoke_fw (i : Nat) (f : Spoke → Spoke) : (modSpoke i f s).fw = s.fw := rfl
@[simp] theorem modSpoke_hub (i : Nat) (f : Spoke → Spoke) : (modSpoke i f s).hub = s.hub := rfl
@[simp] theorem modSpoke_sched (i : Nat) (f : Spoke → Spoke) : (modSpoke i f s).sched = s.sched := rfl
@[simp] theorem modSpoke_lanes (i : Nat) (f : Spoke → Spoke) : (modSpoke i f s).lanes = s.lanes := rfl
@[simp] theorem modSpoke_pcie (i : Nat) (f : Spoke → Spoke) : (modSpoke i f s).pcie = s.pcie := rfl
@[simp] theorem modSpoke_bridge (i : Nat) (f : Spoke → Spoke) : (modSpoke i f s).bridge = s.bridge := rfl
@[simp] theorem modSpoke_mover (i : Nat) (f : Spoke → Spoke) : (modSpoke i f s).mover = s.mover := rfl
@[simp] theorem modSpoke_errs (i : Nat) (f : Spoke → Spoke) : (modSpoke i f s).errs = s.errs := rfl
@[simp] theorem modSpoke_slot (i : Nat) (f : Spoke → Spoke) : (modSpoke i f s).slot = s.slot := rfl
@[simp] theorem modSpoke_mgmt (i : Nat) (f : Spoke → Spoke) : (modSpoke i f s).mgmt = s.mgmt := rfl
@[simp] theorem modSpoke_sec (i : Nat) (f : Spoke → Spoke) : (modSpoke i f s).sec = s.sec := rfl
@[simp] theorem modSpoke_tandem (i : Nat) (f : Spoke → Spoke) : (modSpoke i f s).tandem = s.tandem := rfl
@[simp] theorem modSpoke_aging (i : Nat) (f : Spoke → Spoke) : (modSpoke i f s).aging = s.aging := rfl
@[simp] theorem modSpoke_power (i : Nat) (f : Spoke → Spoke) : (modSpoke i f s).power = s.power := rfl
@[simp] theorem modSpoke_count (i : Nat) (f : Spoke → Spoke) : (modSpoke i f s).count = s.count := rfl
@[simp] theorem modSpoke_out (i : Nat) (f : Spoke → Spoke) : (modSpoke i f s).out = s.out := rfl
@[simp] theorem modSpoke_freeCtr (i : Nat) (f : Spoke → Spoke) : (modSpoke i f s).freeCtr = s.freeCtr := rfl
@[simp] theorem modSpoke_pending (i : Nat) (f : Spoke → Spoke) : (modSpoke i f s).pending = s.pending := rfl
@[simp] theorem modSpoke_spokes_time (i : Nat) (f : Spoke → Spoke) : (modSpoke i f s).spokes.time = s.spokes.time := rfl
@[simp] theorem modSpoke_spokes_buckets (i : Nat) (f : Spoke → Spoke) : (modSpoke i f s).spokes.buckets = s.spokes.buckets := rfl
@[simp] theorem modSpoke_spokes_ctl (i : Nat) (f : Spoke → Spoke) : (modSpoke i f s).spokes.ctl = s.spokes.ctl := rfl
@[simp] theorem modSpoke_spoke_same (i : Nat) (f : Spoke → Spoke) : (modSpoke i f s).spoke i = f (s.spoke i) := by simp [modSpoke, State.spoke]
theorem modSpoke_spoke_ne {i j : Nat} (f : Spoke → Spoke) (h : j ≠ i) : (modSpoke i f s).spoke j = s.spoke j := tget_tmod_ne _ _ _ h
theorem modSpoke_spoke (i j : Nat) (f : Spoke → Spoke) : (modSpoke i f s).spoke j = if j = i then f (s.spoke j) else s.spoke j :=
  tget_tmod_cases _ _ _ _ _

@[simp] theorem modStime_chip (i : Nat) (f : SpokeTime → SpokeTime) : (modStime i f s).chip = s.chip := rfl
@[simp] theorem modStime_ft (i : Nat) (f : SpokeTime → SpokeTime) : (modStime i f s).ft = s.ft := rfl
@[simp] theorem modStime_conf (i : Nat) (f : SpokeTime → SpokeTime) : (modStime i f s).conf = s.conf := rfl
@[simp] theorem modStime_fw (i : Nat) (f : SpokeTime → SpokeTime) : (modStime i f s).fw = s.fw := rfl
@[simp] theorem modStime_hub (i : Nat) (f : SpokeTime → SpokeTime) : (modStime i f s).hub = s.hub := rfl
@[simp] theorem modStime_sched (i : Nat) (f : SpokeTime → SpokeTime) : (modStime i f s).sched = s.sched := rfl
@[simp] theorem modStime_lanes (i : Nat) (f : SpokeTime → SpokeTime) : (modStime i f s).lanes = s.lanes := rfl
@[simp] theorem modStime_pcie (i : Nat) (f : SpokeTime → SpokeTime) : (modStime i f s).pcie = s.pcie := rfl
@[simp] theorem modStime_bridge (i : Nat) (f : SpokeTime → SpokeTime) : (modStime i f s).bridge = s.bridge := rfl
@[simp] theorem modStime_mover (i : Nat) (f : SpokeTime → SpokeTime) : (modStime i f s).mover = s.mover := rfl
@[simp] theorem modStime_errs (i : Nat) (f : SpokeTime → SpokeTime) : (modStime i f s).errs = s.errs := rfl
@[simp] theorem modStime_slot (i : Nat) (f : SpokeTime → SpokeTime) : (modStime i f s).slot = s.slot := rfl
@[simp] theorem modStime_mgmt (i : Nat) (f : SpokeTime → SpokeTime) : (modStime i f s).mgmt = s.mgmt := rfl
@[simp] theorem modStime_sec (i : Nat) (f : SpokeTime → SpokeTime) : (modStime i f s).sec = s.sec := rfl
@[simp] theorem modStime_tandem (i : Nat) (f : SpokeTime → SpokeTime) : (modStime i f s).tandem = s.tandem := rfl
@[simp] theorem modStime_aging (i : Nat) (f : SpokeTime → SpokeTime) : (modStime i f s).aging = s.aging := rfl
@[simp] theorem modStime_power (i : Nat) (f : SpokeTime → SpokeTime) : (modStime i f s).power = s.power := rfl
@[simp] theorem modStime_count (i : Nat) (f : SpokeTime → SpokeTime) : (modStime i f s).count = s.count := rfl
@[simp] theorem modStime_out (i : Nat) (f : SpokeTime → SpokeTime) : (modStime i f s).out = s.out := rfl
@[simp] theorem modStime_freeCtr (i : Nat) (f : SpokeTime → SpokeTime) : (modStime i f s).freeCtr = s.freeCtr := rfl
@[simp] theorem modStime_pending (i : Nat) (f : SpokeTime → SpokeTime) : (modStime i f s).pending = s.pending := rfl
@[simp] theorem modStime_spokes_spoke (i : Nat) (f : SpokeTime → SpokeTime) : (modStime i f s).spokes.spoke = s.spokes.spoke := rfl
@[simp] theorem modStime_spokes_buckets (i : Nat) (f : SpokeTime → SpokeTime) : (modStime i f s).spokes.buckets = s.spokes.buckets := rfl
@[simp] theorem modStime_spokes_ctl (i : Nat) (f : SpokeTime → SpokeTime) : (modStime i f s).spokes.ctl = s.spokes.ctl := rfl
@[simp] theorem modStime_stime_same (i : Nat) (f : SpokeTime → SpokeTime) : (modStime i f s).stime i = f (s.stime i) := by simp [modStime, State.stime]
theorem modStime_stime_ne {i j : Nat} (f : SpokeTime → SpokeTime) (h : j ≠ i) : (modStime i f s).stime j = s.stime j := tget_tmod_ne _ _ _ h
theorem modStime_stime (i j : Nat) (f : SpokeTime → SpokeTime) : (modStime i f s).stime j = if j = i then f (s.stime j) else s.stime j :=
  tget_tmod_cases _ _ _ _ _

@[simp] theorem modFunc_chip (i : Nat) (f : Func → Func) : (modFunc i f s).chip = s.chip := rfl
@[simp] theorem modFunc_ft (i : Nat) (f : Func → Func) : (modFunc i f s).ft = s.ft := rfl
@[simp] theorem modFunc_conf (i : Nat) (f : Func → Func) : (modFunc i f s).conf = s.conf := rfl
@[simp] theorem modFunc_fw (i : Nat) (f : Func → Func) : (modFunc i f s).fw = s.fw := rfl
@[simp] theorem modFunc_hub (i : Nat) (f : Func → Func) : (modFunc i f s).hub = s.hub := rfl
@[simp] theorem modFunc_sched (i : Nat) (f : Func → Func) : (modFunc i f s).sched = s.sched := rfl
@[simp] theorem modFunc_lanes (i : Nat) (f : Func → Func) : (modFunc i f s).lanes = s.lanes := rfl
@[simp] theorem modFunc_pcie (i : Nat) (f : Func → Func) : (modFunc i f s).pcie = s.pcie := rfl
@[simp] theorem modFunc_spokes (i : Nat) (f : Func → Func) : (modFunc i f s).spokes = s.spokes := rfl
@[simp] theorem modFunc_bridge (i : Nat) (f : Func → Func) : (modFunc i f s).bridge = s.bridge := rfl
@[simp] theorem modFunc_errs (i : Nat) (f : Func → Func) : (modFunc i f s).errs = s.errs := rfl
@[simp] theorem modFunc_slot (i : Nat) (f : Func → Func) : (modFunc i f s).slot = s.slot := rfl
@[simp] theorem modFunc_mgmt (i : Nat) (f : Func → Func) : (modFunc i f s).mgmt = s.mgmt := rfl
@[simp] theorem modFunc_sec (i : Nat) (f : Func → Func) : (modFunc i f s).sec = s.sec := rfl
@[simp] theorem modFunc_tandem (i : Nat) (f : Func → Func) : (modFunc i f s).tandem = s.tandem := rfl
@[simp] theorem modFunc_aging (i : Nat) (f : Func → Func) : (modFunc i f s).aging = s.aging := rfl
@[simp] theorem modFunc_power (i : Nat) (f : Func → Func) : (modFunc i f s).power = s.power := rfl
@[simp] theorem modFunc_count (i : Nat) (f : Func → Func) : (modFunc i f s).count = s.count := rfl
@[simp] theorem modFunc_out (i : Nat) (f : Func → Func) : (modFunc i f s).out = s.out := rfl
@[simp] theorem modFunc_freeCtr (i : Nat) (f : Func → Func) : (modFunc i f s).freeCtr = s.freeCtr := rfl
@[simp] theorem modFunc_pending (i : Nat) (f : Func → Func) : (modFunc i f s).pending = s.pending := rfl
@[simp] theorem modFunc_mover_jobs (i : Nat) (f : Func → Func) : (modFunc i f s).mover.jobs = s.mover.jobs := rfl
@[simp] theorem modFunc_mover_engine (i : Nat) (f : Func → Func) : (modFunc i f s).mover.engine = s.mover.engine := rfl
@[simp] theorem modFunc_mover_nextOrder (i : Nat) (f : Func → Func) : (modFunc i f s).mover.nextOrder = s.mover.nextOrder := rfl
@[simp] theorem modFunc_func_same (i : Nat) (f : Func → Func) : (modFunc i f s).func i = f (s.func i) := by simp [modFunc, State.func]
theorem modFunc_func_ne {i j : Nat} (f : Func → Func) (h : j ≠ i) : (modFunc i f s).func j = s.func j := tget_tmod_ne _ _ _ h
theorem modFunc_func (i j : Nat) (f : Func → Func) : (modFunc i f s).func j = if j = i then f (s.func j) else s.func j :=
  tget_tmod_cases _ _ _ _ _

@[simp] theorem modEngine_chip (i : Nat) (f : Engine → Engine) : (modEngine i f s).chip = s.chip := rfl
@[simp] theorem modEngine_ft (i : Nat) (f : Engine → Engine) : (modEngine i f s).ft = s.ft := rfl
@[simp] theorem modEngine_conf (i : Nat) (f : Engine → Engine) : (modEngine i f s).conf = s.conf := rfl
@[simp] theorem modEngine_fw (i : Nat) (f : Engine → Engine) : (modEngine i f s).fw = s.fw := rfl
@[simp] theorem modEngine_hub (i : Nat) (f : Engine → Engine) : (modEngine i f s).hub = s.hub := rfl
@[simp] theorem modEngine_sched (i : Nat) (f : Engine → Engine) : (modEngine i f s).sched = s.sched := rfl
@[simp] theorem modEngine_lanes (i : Nat) (f : Engine → Engine) : (modEngine i f s).lanes = s.lanes := rfl
@[simp] theorem modEngine_pcie (i : Nat) (f : Engine → Engine) : (modEngine i f s).pcie = s.pcie := rfl
@[simp] theorem modEngine_spokes (i : Nat) (f : Engine → Engine) : (modEngine i f s).spokes = s.spokes := rfl
@[simp] theorem modEngine_bridge (i : Nat) (f : Engine → Engine) : (modEngine i f s).bridge = s.bridge := rfl
@[simp] theorem modEngine_errs (i : Nat) (f : Engine → Engine) : (modEngine i f s).errs = s.errs := rfl
@[simp] theorem modEngine_slot (i : Nat) (f : Engine → Engine) : (modEngine i f s).slot = s.slot := rfl
@[simp] theorem modEngine_mgmt (i : Nat) (f : Engine → Engine) : (modEngine i f s).mgmt = s.mgmt := rfl
@[simp] theorem modEngine_sec (i : Nat) (f : Engine → Engine) : (modEngine i f s).sec = s.sec := rfl
@[simp] theorem modEngine_tandem (i : Nat) (f : Engine → Engine) : (modEngine i f s).tandem = s.tandem := rfl
@[simp] theorem modEngine_aging (i : Nat) (f : Engine → Engine) : (modEngine i f s).aging = s.aging := rfl
@[simp] theorem modEngine_power (i : Nat) (f : Engine → Engine) : (modEngine i f s).power = s.power := rfl
@[simp] theorem modEngine_count (i : Nat) (f : Engine → Engine) : (modEngine i f s).count = s.count := rfl
@[simp] theorem modEngine_out (i : Nat) (f : Engine → Engine) : (modEngine i f s).out = s.out := rfl
@[simp] theorem modEngine_freeCtr (i : Nat) (f : Engine → Engine) : (modEngine i f s).freeCtr = s.freeCtr := rfl
@[simp] theorem modEngine_pending (i : Nat) (f : Engine → Engine) : (modEngine i f s).pending = s.pending := rfl
@[simp] theorem modEngine_mover_func (i : Nat) (f : Engine → Engine) : (modEngine i f s).mover.func = s.mover.func := rfl
@[simp] theorem modEngine_mover_jobs (i : Nat) (f : Engine → Engine) : (modEngine i f s).mover.jobs = s.mover.jobs := rfl
@[simp] theorem modEngine_mover_nextOrder (i : Nat) (f : Engine → Engine) : (modEngine i f s).mover.nextOrder = s.mover.nextOrder := rfl
@[simp] theorem modEngine_engine_same (i : Nat) (f : Engine → Engine) : (modEngine i f s).engine i = f (s.engine i) := by simp [modEngine, State.engine]
theorem modEngine_engine_ne {i j : Nat} (f : Engine → Engine) (h : j ≠ i) : (modEngine i f s).engine j = s.engine j := tget_tmod_ne _ _ _ h
theorem modEngine_engine (i j : Nat) (f : Engine → Engine) : (modEngine i f s).engine j = if j = i then f (s.engine j) else s.engine j :=
  tget_tmod_cases _ _ _ _ _

@[simp] theorem modChan_chip (i : Nat) (f : Chan → Chan) : (modChan i f s).chip = s.chip := rfl
@[simp] theorem modChan_ft (i : Nat) (f : Chan → Chan) : (modChan i f s).ft = s.ft := rfl
@[simp] theorem modChan_conf (i : Nat) (f : Chan → Chan) : (modChan i f s).conf = s.conf := rfl
@[simp] theorem modChan_fw (i : Nat) (f : Chan → Chan) : (modChan i f s).fw = s.fw := rfl
@[simp] theorem modChan_hub (i : Nat) (f : Chan → Chan) : (modChan i f s).hub = s.hub := rfl
@[simp] theorem modChan_sched (i : Nat) (f : Chan → Chan) : (modChan i f s).sched = s.sched := rfl
@[simp] theorem modChan_lanes (i : Nat) (f : Chan → Chan) : (modChan i f s).lanes = s.lanes := rfl
@[simp] theorem modChan_pcie (i : Nat) (f : Chan → Chan) : (modChan i f s).pcie = s.pcie := rfl
@[simp] theorem modChan_spokes (i : Nat) (f : Chan → Chan) : (modChan i f s).spokes = s.spokes := rfl
@[simp] theorem modChan_bridge (i : Nat) (f : Chan → Chan) : (modChan i f s).bridge = s.bridge := rfl
@[simp] theorem modChan_mover (i : Nat) (f : Chan → Chan) : (modChan i f s).mover = s.mover := rfl
@[simp] theorem modChan_errs (i : Nat) (f : Chan → Chan) : (modChan i f s).errs = s.errs := rfl
@[simp] theorem modChan_mgmt (i : Nat) (f : Chan → Chan) : (modChan i f s).mgmt = s.mgmt := rfl
@[simp] theorem modChan_sec (i : Nat) (f : Chan → Chan) : (modChan i f s).sec = s.sec := rfl
@[simp] theorem modChan_tandem (i : Nat) (f : Chan → Chan) : (modChan i f s).tandem = s.tandem := rfl
@[simp] theorem modChan_aging (i : Nat) (f : Chan → Chan) : (modChan i f s).aging = s.aging := rfl
@[simp] theorem modChan_power (i : Nat) (f : Chan → Chan) : (modChan i f s).power = s.power := rfl
@[simp] theorem modChan_count (i : Nat) (f : Chan → Chan) : (modChan i f s).count = s.count := rfl
@[simp] theorem modChan_out (i : Nat) (f : Chan → Chan) : (modChan i f s).out = s.out := rfl
@[simp] theorem modChan_freeCtr (i : Nat) (f : Chan → Chan) : (modChan i f s).freeCtr = s.freeCtr := rfl
@[simp] theorem modChan_pending (i : Nat) (f : Chan → Chan) : (modChan i f s).pending = s.pending := rfl
@[simp] theorem modChan_slot_aux (i : Nat) (f : Chan → Chan) : (modChan i f s).slot.aux = s.slot.aux := rfl
@[simp] theorem modChan_slot_feedA (i : Nat) (f : Chan → Chan) : (modChan i f s).slot.feedA = s.slot.feedA := rfl
@[simp] theorem modChan_slot_feedB (i : Nat) (f : Chan → Chan) : (modChan i f s).slot.feedB = s.slot.feedB := rfl
@[simp] theorem modChan_slot_inReset (i : Nat) (f : Chan → Chan) : (modChan i f s).slot.inReset = s.slot.inReset := rfl
@[simp] theorem modChan_slot_vpwrLost (i : Nat) (f : Chan → Chan) : (modChan i f s).slot.vpwrLost = s.slot.vpwrLost := rfl
@[simp] theorem modChan_slot_startedAt (i : Nat) (f : Chan → Chan) : (modChan i f s).slot.startedAt = s.slot.startedAt := rfl
@[simp] theorem modChan_slot_recordsLoaded (i : Nat) (f : Chan → Chan) : (modChan i f s).slot.recordsLoaded = s.slot.recordsLoaded := rfl
@[simp] theorem modChan_slot_reissue (i : Nat) (f : Chan → Chan) : (modChan i f s).slot.reissue = s.slot.reissue := rfl
@[simp] theorem modChan_slot_recs (i : Nat) (f : Chan → Chan) : (modChan i f s).slot.recs = s.slot.recs := rfl
@[simp] theorem modChan_slot_held (i : Nat) (f : Chan → Chan) : (modChan i f s).slot.held = s.slot.held := rfl
@[simp] theorem modChan_slot_tripFlag (i : Nat) (f : Chan → Chan) : (modChan i f s).slot.tripFlag = s.slot.tripFlag := rfl
@[simp] theorem modChan_chan_same (i : Nat) (f : Chan → Chan) : (modChan i f s).chan i = f (s.chan i) := by simp [modChan, State.chan]
theorem modChan_chan_ne {i j : Nat} (f : Chan → Chan) (h : j ≠ i) : (modChan i f s).chan j = s.chan j := tget_tmod_ne _ _ _ h
theorem modChan_chan (i j : Nat) (f : Chan → Chan) : (modChan i f s).chan j = if j = i then f (s.chan j) else s.chan j :=
  tget_tmod_cases _ _ _ _ _

@[simp] theorem modChanAux_chip (i : Nat) (f : ChanAux → ChanAux) : (modChanAux i f s).chip = s.chip := rfl
@[simp] theorem modChanAux_ft (i : Nat) (f : ChanAux → ChanAux) : (modChanAux i f s).ft = s.ft := rfl
@[simp] theorem modChanAux_conf (i : Nat) (f : ChanAux → ChanAux) : (modChanAux i f s).conf = s.conf := rfl
@[simp] theorem modChanAux_fw (i : Nat) (f : ChanAux → ChanAux) : (modChanAux i f s).fw = s.fw := rfl
@[simp] theorem modChanAux_hub (i : Nat) (f : ChanAux → ChanAux) : (modChanAux i f s).hub = s.hub := rfl
@[simp] theorem modChanAux_sched (i : Nat) (f : ChanAux → ChanAux) : (modChanAux i f s).sched = s.sched := rfl
@[simp] theorem modChanAux_lanes (i : Nat) (f : ChanAux → ChanAux) : (modChanAux i f s).lanes = s.lanes := rfl
@[simp] theorem modChanAux_pcie (i : Nat) (f : ChanAux → ChanAux) : (modChanAux i f s).pcie = s.pcie := rfl
@[simp] theorem modChanAux_spokes (i : Nat) (f : ChanAux → ChanAux) : (modChanAux i f s).spokes = s.spokes := rfl
@[simp] theorem modChanAux_bridge (i : Nat) (f : ChanAux → ChanAux) : (modChanAux i f s).bridge = s.bridge := rfl
@[simp] theorem modChanAux_mover (i : Nat) (f : ChanAux → ChanAux) : (modChanAux i f s).mover = s.mover := rfl
@[simp] theorem modChanAux_errs (i : Nat) (f : ChanAux → ChanAux) : (modChanAux i f s).errs = s.errs := rfl
@[simp] theorem modChanAux_mgmt (i : Nat) (f : ChanAux → ChanAux) : (modChanAux i f s).mgmt = s.mgmt := rfl
@[simp] theorem modChanAux_sec (i : Nat) (f : ChanAux → ChanAux) : (modChanAux i f s).sec = s.sec := rfl
@[simp] theorem modChanAux_tandem (i : Nat) (f : ChanAux → ChanAux) : (modChanAux i f s).tandem = s.tandem := rfl
@[simp] theorem modChanAux_aging (i : Nat) (f : ChanAux → ChanAux) : (modChanAux i f s).aging = s.aging := rfl
@[simp] theorem modChanAux_power (i : Nat) (f : ChanAux → ChanAux) : (modChanAux i f s).power = s.power := rfl
@[simp] theorem modChanAux_count (i : Nat) (f : ChanAux → ChanAux) : (modChanAux i f s).count = s.count := rfl
@[simp] theorem modChanAux_out (i : Nat) (f : ChanAux → ChanAux) : (modChanAux i f s).out = s.out := rfl
@[simp] theorem modChanAux_freeCtr (i : Nat) (f : ChanAux → ChanAux) : (modChanAux i f s).freeCtr = s.freeCtr := rfl
@[simp] theorem modChanAux_pending (i : Nat) (f : ChanAux → ChanAux) : (modChanAux i f s).pending = s.pending := rfl
@[simp] theorem modChanAux_slot_chan (i : Nat) (f : ChanAux → ChanAux) : (modChanAux i f s).slot.chan = s.slot.chan := rfl
@[simp] theorem modChanAux_slot_feedA (i : Nat) (f : ChanAux → ChanAux) : (modChanAux i f s).slot.feedA = s.slot.feedA := rfl
@[simp] theorem modChanAux_slot_feedB (i : Nat) (f : ChanAux → ChanAux) : (modChanAux i f s).slot.feedB = s.slot.feedB := rfl
@[simp] theorem modChanAux_slot_inReset (i : Nat) (f : ChanAux → ChanAux) : (modChanAux i f s).slot.inReset = s.slot.inReset := rfl
@[simp] theorem modChanAux_slot_vpwrLost (i : Nat) (f : ChanAux → ChanAux) : (modChanAux i f s).slot.vpwrLost = s.slot.vpwrLost := rfl
@[simp] theorem modChanAux_slot_startedAt (i : Nat) (f : ChanAux → ChanAux) : (modChanAux i f s).slot.startedAt = s.slot.startedAt := rfl
@[simp] theorem modChanAux_slot_recordsLoaded (i : Nat) (f : ChanAux → ChanAux) : (modChanAux i f s).slot.recordsLoaded = s.slot.recordsLoaded := rfl
@[simp] theorem modChanAux_slot_reissue (i : Nat) (f : ChanAux → ChanAux) : (modChanAux i f s).slot.reissue = s.slot.reissue := rfl
@[simp] theorem modChanAux_slot_recs (i : Nat) (f : ChanAux → ChanAux) : (modChanAux i f s).slot.recs = s.slot.recs := rfl
@[simp] theorem modChanAux_slot_held (i : Nat) (f : ChanAux → ChanAux) : (modChanAux i f s).slot.held = s.slot.held := rfl
@[simp] theorem modChanAux_slot_tripFlag (i : Nat) (f : ChanAux → ChanAux) : (modChanAux i f s).slot.tripFlag = s.slot.tripFlag := rfl
@[simp] theorem modChanAux_chanAux_same (i : Nat) (f : ChanAux → ChanAux) : (modChanAux i f s).chanAux i = f (s.chanAux i) := by simp [modChanAux, State.chanAux]
theorem modChanAux_chanAux_ne {i j : Nat} (f : ChanAux → ChanAux) (h : j ≠ i) : (modChanAux i f s).chanAux j = s.chanAux j := tget_tmod_ne _ _ _ h
theorem modChanAux_chanAux (i j : Nat) (f : ChanAux → ChanAux) : (modChanAux i f s).chanAux j = if j = i then f (s.chanAux j) else s.chanAux j :=
  tget_tmod_cases _ _ _ _ _

@[simp] theorem modMb_chip (i : Nat) (f : Mailbox → Mailbox) : (modMb i f s).chip = s.chip := rfl
@[simp] theorem modMb_ft (i : Nat) (f : Mailbox → Mailbox) : (modMb i f s).ft = s.ft := rfl
@[simp] theorem modMb_conf (i : Nat) (f : Mailbox → Mailbox) : (modMb i f s).conf = s.conf := rfl
@[simp] theorem modMb_fw (i : Nat) (f : Mailbox → Mailbox) : (modMb i f s).fw = s.fw := rfl
@[simp] theorem modMb_hub (i : Nat) (f : Mailbox → Mailbox) : (modMb i f s).hub = s.hub := rfl
@[simp] theorem modMb_sched (i : Nat) (f : Mailbox → Mailbox) : (modMb i f s).sched = s.sched := rfl
@[simp] theorem modMb_lanes (i : Nat) (f : Mailbox → Mailbox) : (modMb i f s).lanes = s.lanes := rfl
@[simp] theorem modMb_pcie (i : Nat) (f : Mailbox → Mailbox) : (modMb i f s).pcie = s.pcie := rfl
@[simp] theorem modMb_spokes (i : Nat) (f : Mailbox → Mailbox) : (modMb i f s).spokes = s.spokes := rfl
@[simp] theorem modMb_bridge (i : Nat) (f : Mailbox → Mailbox) : (modMb i f s).bridge = s.bridge := rfl
@[simp] theorem modMb_mover (i : Nat) (f : Mailbox → Mailbox) : (modMb i f s).mover = s.mover := rfl
@[simp] theorem modMb_errs (i : Nat) (f : Mailbox → Mailbox) : (modMb i f s).errs = s.errs := rfl
@[simp] theorem modMb_slot (i : Nat) (f : Mailbox → Mailbox) : (modMb i f s).slot = s.slot := rfl
@[simp] theorem modMb_sec (i : Nat) (f : Mailbox → Mailbox) : (modMb i f s).sec = s.sec := rfl
@[simp] theorem modMb_tandem (i : Nat) (f : Mailbox → Mailbox) : (modMb i f s).tandem = s.tandem := rfl
@[simp] theorem modMb_aging (i : Nat) (f : Mailbox → Mailbox) : (modMb i f s).aging = s.aging := rfl
@[simp] theorem modMb_power (i : Nat) (f : Mailbox → Mailbox) : (modMb i f s).power = s.power := rfl
@[simp] theorem modMb_count (i : Nat) (f : Mailbox → Mailbox) : (modMb i f s).count = s.count := rfl
@[simp] theorem modMb_out (i : Nat) (f : Mailbox → Mailbox) : (modMb i f s).out = s.out := rfl
@[simp] theorem modMb_freeCtr (i : Nat) (f : Mailbox → Mailbox) : (modMb i f s).freeCtr = s.freeCtr := rfl
@[simp] theorem modMb_pending (i : Nat) (f : Mailbox → Mailbox) : (modMb i f s).pending = s.pending := rfl
@[simp] theorem modMb_mgmt_lock (i : Nat) (f : Mailbox → Mailbox) : (modMb i f s).mgmt.lock = s.mgmt.lock := rfl
@[simp] theorem modMb_mgmt_prio (i : Nat) (f : Mailbox → Mailbox) : (modMb i f s).mgmt.prio = s.mgmt.prio := rfl
@[simp] theorem modMb_mgmt_prioNext (i : Nat) (f : Mailbox → Mailbox) : (modMb i f s).mgmt.prioNext = s.mgmt.prioNext := rfl
@[simp] theorem modMb_mgmt_oob (i : Nat) (f : Mailbox → Mailbox) : (modMb i f s).mgmt.oob = s.mgmt.oob := rfl
@[simp] theorem modMb_mgmt_serving (i : Nat) (f : Mailbox → Mailbox) : (modMb i f s).mgmt.serving = s.mgmt.serving := rfl
@[simp] theorem modMb_mgmt_restartAt (i : Nat) (f : Mailbox → Mailbox) : (modMb i f s).mgmt.restartAt = s.mgmt.restartAt := rfl
@[simp] theorem modMb_mgmt_restartCause (i : Nat) (f : Mailbox → Mailbox) : (modMb i f s).mgmt.restartCause = s.mgmt.restartCause := rfl
@[simp] theorem modMb_mgmt_tdmIn (i : Nat) (f : Mailbox → Mailbox) : (modMb i f s).mgmt.tdmIn = s.mgmt.tdmIn := rfl
@[simp] theorem modMb_mgmt_tdmResp (i : Nat) (f : Mailbox → Mailbox) : (modMb i f s).mgmt.tdmResp = s.mgmt.tdmResp := rfl
@[simp] theorem modMb_mgmt_pegWait (i : Nat) (f : Mailbox → Mailbox) : (modMb i f s).mgmt.pegWait = s.mgmt.pegWait := rfl
@[simp] theorem modMb_mb_same (i : Nat) (f : Mailbox → Mailbox) : (modMb i f s).mb i = f (s.mb i) := by simp [modMb, State.mb]
theorem modMb_mb_ne {i j : Nat} (f : Mailbox → Mailbox) (h : j ≠ i) : (modMb i f s).mb j = s.mb j := tget_tmod_ne _ _ _ h
theorem modMb_mb (i j : Nat) (f : Mailbox → Mailbox) : (modMb i f s).mb j = if j = i then f (s.mb j) else s.mb j :=
  tget_tmod_cases _ _ _ _ _

@[simp] theorem modLane_chip (i : Nat) (f : Lane → Lane) : (modLane i f s).chip = s.chip := rfl
@[simp] theorem modLane_ft (i : Nat) (f : Lane → Lane) : (modLane i f s).ft = s.ft := rfl
@[simp] theorem modLane_conf (i : Nat) (f : Lane → Lane) : (modLane i f s).conf = s.conf := rfl
@[simp] theorem modLane_fw (i : Nat) (f : Lane → Lane) : (modLane i f s).fw = s.fw := rfl
@[simp] theorem modLane_hub (i : Nat) (f : Lane → Lane) : (modLane i f s).hub = s.hub := rfl
@[simp] theorem modLane_sched (i : Nat) (f : Lane → Lane) : (modLane i f s).sched = s.sched := rfl
@[simp] theorem modLane_pcie (i : Nat) (f : Lane → Lane) : (modLane i f s).pcie = s.pcie := rfl
@[simp] theorem modLane_spokes (i : Nat) (f : Lane → Lane) : (modLane i f s).spokes = s.spokes := rfl
@[simp] theorem modLane_bridge (i : Nat) (f : Lane → Lane) : (modLane i f s).bridge = s.bridge := rfl
@[simp] theorem modLane_mover (i : Nat) (f : Lane → Lane) : (modLane i f s).mover = s.mover := rfl
@[simp] theorem modLane_errs (i : Nat) (f : Lane → Lane) : (modLane i f s).errs = s.errs := rfl
@[simp] theorem modLane_slot (i : Nat) (f : Lane → Lane) : (modLane i f s).slot = s.slot := rfl
@[simp] theorem modLane_mgmt (i : Nat) (f : Lane → Lane) : (modLane i f s).mgmt = s.mgmt := rfl
@[simp] theorem modLane_sec (i : Nat) (f : Lane → Lane) : (modLane i f s).sec = s.sec := rfl
@[simp] theorem modLane_tandem (i : Nat) (f : Lane → Lane) : (modLane i f s).tandem = s.tandem := rfl
@[simp] theorem modLane_aging (i : Nat) (f : Lane → Lane) : (modLane i f s).aging = s.aging := rfl
@[simp] theorem modLane_power (i : Nat) (f : Lane → Lane) : (modLane i f s).power = s.power := rfl
@[simp] theorem modLane_count (i : Nat) (f : Lane → Lane) : (modLane i f s).count = s.count := rfl
@[simp] theorem modLane_out (i : Nat) (f : Lane → Lane) : (modLane i f s).out = s.out := rfl
@[simp] theorem modLane_freeCtr (i : Nat) (f : Lane → Lane) : (modLane i f s).freeCtr = s.freeCtr := rfl
@[simp] theorem modLane_pending (i : Nat) (f : Lane → Lane) : (modLane i f s).pending = s.pending := rfl
@[simp] theorem modLane_lanes_store (i : Nat) (f : Lane → Lane) : (modLane i f s).lanes.store = s.lanes.store := rfl
@[simp] theorem modLane_lanes_cadTx (i : Nat) (f : Lane → Lane) : (modLane i f s).lanes.cadTx = s.lanes.cadTx := rfl
@[simp] theorem modLane_lanes_cadRec (i : Nat) (f : Lane → Lane) : (modLane i f s).lanes.cadRec = s.lanes.cadRec := rfl
@[simp] theorem modLane_lane_same (i : Nat) (f : Lane → Lane) : (modLane i f s).lane i = f (s.lane i) := by simp [modLane, State.lane]
theorem modLane_lane_ne {i j : Nat} (f : Lane → Lane) (h : j ≠ i) : (modLane i f s).lane j = s.lane j := tget_tmod_ne _ _ _ h
theorem modLane_lane (i j : Nat) (f : Lane → Lane) : (modLane i f s).lane j = if j = i then f (s.lane j) else s.lane j :=
  tget_tmod_cases _ _ _ _ _

/-! Entries through the other updates. -/

@[simp] theorem advance_port (dt : Time) (j : Nat) : (advance dt s).port j = s.port j := rfl
@[simp] theorem advance_aux (dt : Time) (j : Nat) : (advance dt s).aux j = s.aux j := rfl
@[simp] theorem advance_part (dt : Time) (j : Nat) : (advance dt s).part j = s.part j := rfl
@[simp] theorem advance_spoke (dt : Time) (j : Nat) : (advance dt s).spoke j = s.spoke j := rfl
@[simp] theorem advance_stime (dt : Time) (j : Nat) : (advance dt s).stime j = s.stime j := rfl
@[simp] theorem advance_func (dt : Time) (j : Nat) : (advance dt s).func j = s.func j := rfl
@[simp] theorem advance_engine (dt : Time) (j : Nat) : (advance dt s).engine j = s.engine j := rfl
@[simp] theorem advance_chan (dt : Time) (j : Nat) : (advance dt s).chan j = s.chan j := rfl
@[simp] theorem advance_chanAux (dt : Time) (j : Nat) : (advance dt s).chanAux j = s.chanAux j := rfl
@[simp] theorem advance_mb (dt : Time) (j : Nat) : (advance dt s).mb j = s.mb j := rfl
@[simp] theorem advance_lane (dt : Time) (j : Nat) : (advance dt s).lane j = s.lane j := rfl

@[simp] theorem emit_port (o : Out) (j : Nat) : (emit o s).port j = s.port j := rfl
@[simp] theorem emit_aux (o : Out) (j : Nat) : (emit o s).aux j = s.aux j := rfl
@[simp] theorem emit_part (o : Out) (j : Nat) : (emit o s).part j = s.part j := rfl
@[simp] theorem emit_spoke (o : Out) (j : Nat) : (emit o s).spoke j = s.spoke j := rfl
@[simp] theorem emit_stime (o : Out) (j : Nat) : (emit o s).stime j = s.stime j := rfl
@[simp] theorem emit_func (o : Out) (j : Nat) : (emit o s).func j = s.func j := rfl
@[simp] theorem emit_engine (o : Out) (j : Nat) : (emit o s).engine j = s.engine j := rfl
@[simp] theorem emit_chan (o : Out) (j : Nat) : (emit o s).chan j = s.chan j := rfl
@[simp] theorem emit_chanAux (o : Out) (j : Nat) : (emit o s).chanAux j = s.chanAux j := rfl
@[simp] theorem emit_mb (o : Out) (j : Nat) : (emit o s).mb j = s.mb j := rfl
@[simp] theorem emit_lane (o : Out) (j : Nat) : (emit o s).lane j = s.lane j := rfl
@[simp] theorem emit_now (o : Out) : (emit o s).now = s.now := rfl

@[simp] theorem drew_port (j : Nat) : (drew s).port j = s.port j := rfl
@[simp] theorem drew_aux (j : Nat) : (drew s).aux j = s.aux j := rfl
@[simp] theorem drew_part (j : Nat) : (drew s).part j = s.part j := rfl
@[simp] theorem drew_spoke (j : Nat) : (drew s).spoke j = s.spoke j := rfl
@[simp] theorem drew_stime (j : Nat) : (drew s).stime j = s.stime j := rfl
@[simp] theorem drew_func (j : Nat) : (drew s).func j = s.func j := rfl
@[simp] theorem drew_engine (j : Nat) : (drew s).engine j = s.engine j := rfl
@[simp] theorem drew_chan (j : Nat) : (drew s).chan j = s.chan j := rfl
@[simp] theorem drew_chanAux (j : Nat) : (drew s).chanAux j = s.chanAux j := rfl
@[simp] theorem drew_mb (j : Nat) : (drew s).mb j = s.mb j := rfl
@[simp] theorem drew_lane (j : Nat) : (drew s).lane j = s.lane j := rfl
@[simp] theorem drew_now : (drew s).now = s.now := rfl

@[simp] theorem countBy_port (i n : Nat) (j : Nat) : (countBy i n s).port j = s.port j := rfl
@[simp] theorem countBy_aux (i n : Nat) (j : Nat) : (countBy i n s).aux j = s.aux j := rfl
@[simp] theorem countBy_part (i n : Nat) (j : Nat) : (countBy i n s).part j = s.part j := rfl
@[simp] theorem countBy_spoke (i n : Nat) (j : Nat) : (countBy i n s).spoke j = s.spoke j := rfl
@[simp] theorem countBy_stime (i n : Nat) (j : Nat) : (countBy i n s).stime j = s.stime j := rfl
@[simp] theorem countBy_func (i n : Nat) (j : Nat) : (countBy i n s).func j = s.func j := rfl
@[simp] theorem countBy_engine (i n : Nat) (j : Nat) : (countBy i n s).engine j = s.engine j := rfl
@[simp] theorem countBy_chan (i n : Nat) (j : Nat) : (countBy i n s).chan j = s.chan j := rfl
@[simp] theorem countBy_chanAux (i n : Nat) (j : Nat) : (countBy i n s).chanAux j = s.chanAux j := rfl
@[simp] theorem countBy_mb (i n : Nat) (j : Nat) : (countBy i n s).mb j = s.mb j := rfl
@[simp] theorem countBy_lane (i n : Nat) (j : Nat) : (countBy i n s).lane j = s.lane j := rfl
@[simp] theorem countBy_now (i n : Nat) : (countBy i n s).now = s.now := rfl

@[simp] theorem count1_port (i : Nat) (j : Nat) : (count1 i s).port j = s.port j := rfl
@[simp] theorem count1_aux (i : Nat) (j : Nat) : (count1 i s).aux j = s.aux j := rfl
@[simp] theorem count1_part (i : Nat) (j : Nat) : (count1 i s).part j = s.part j := rfl
@[simp] theorem count1_spoke (i : Nat) (j : Nat) : (count1 i s).spoke j = s.spoke j := rfl
@[simp] theorem count1_stime (i : Nat) (j : Nat) : (count1 i s).stime j = s.stime j := rfl
@[simp] theorem count1_func (i : Nat) (j : Nat) : (count1 i s).func j = s.func j := rfl
@[simp] theorem count1_engine (i : Nat) (j : Nat) : (count1 i s).engine j = s.engine j := rfl
@[simp] theorem count1_chan (i : Nat) (j : Nat) : (count1 i s).chan j = s.chan j := rfl
@[simp] theorem count1_chanAux (i : Nat) (j : Nat) : (count1 i s).chanAux j = s.chanAux j := rfl
@[simp] theorem count1_mb (i : Nat) (j : Nat) : (count1 i s).mb j = s.mb j := rfl
@[simp] theorem count1_lane (i : Nat) (j : Nat) : (count1 i s).lane j = s.lane j := rfl
@[simp] theorem count1_now (i : Nat) : (count1 i s).now = s.now := rfl

@[simp] theorem countUnits_port (u i n : Nat) (j : Nat) : (countUnits u i n s).port j = s.port j := rfl
@[simp] theorem countUnits_aux (u i n : Nat) (j : Nat) : (countUnits u i n s).aux j = s.aux j := rfl
@[simp] theorem countUnits_part (u i n : Nat) (j : Nat) : (countUnits u i n s).part j = s.part j := rfl
@[simp] theorem countUnits_spoke (u i n : Nat) (j : Nat) : (countUnits u i n s).spoke j = s.spoke j := rfl
@[simp] theorem countUnits_stime (u i n : Nat) (j : Nat) : (countUnits u i n s).stime j = s.stime j := rfl
@[simp] theorem countUnits_func (u i n : Nat) (j : Nat) : (countUnits u i n s).func j = s.func j := rfl
@[simp] theorem countUnits_engine (u i n : Nat) (j : Nat) : (countUnits u i n s).engine j = s.engine j := rfl
@[simp] theorem countUnits_chan (u i n : Nat) (j : Nat) : (countUnits u i n s).chan j = s.chan j := rfl
@[simp] theorem countUnits_chanAux (u i n : Nat) (j : Nat) : (countUnits u i n s).chanAux j = s.chanAux j := rfl
@[simp] theorem countUnits_mb (u i n : Nat) (j : Nat) : (countUnits u i n s).mb j = s.mb j := rfl
@[simp] theorem countUnits_lane (u i n : Nat) (j : Nat) : (countUnits u i n s).lane j = s.lane j := rfl
@[simp] theorem countUnits_now (u i n : Nat) : (countUnits u i n s).now = s.now := rfl

@[simp] theorem countBytes_port (i n : Nat) (j : Nat) : (countBytes i n s).port j = s.port j := rfl
@[simp] theorem countBytes_aux (i n : Nat) (j : Nat) : (countBytes i n s).aux j = s.aux j := rfl
@[simp] theorem countBytes_part (i n : Nat) (j : Nat) : (countBytes i n s).part j = s.part j := rfl
@[simp] theorem countBytes_spoke (i n : Nat) (j : Nat) : (countBytes i n s).spoke j = s.spoke j := rfl
@[simp] theorem countBytes_stime (i n : Nat) (j : Nat) : (countBytes i n s).stime j = s.stime j := rfl
@[simp] theorem countBytes_func (i n : Nat) (j : Nat) : (countBytes i n s).func j = s.func j := rfl
@[simp] theorem countBytes_engine (i n : Nat) (j : Nat) : (countBytes i n s).engine j = s.engine j := rfl
@[simp] theorem countBytes_chan (i n : Nat) (j : Nat) : (countBytes i n s).chan j = s.chan j := rfl
@[simp] theorem countBytes_chanAux (i n : Nat) (j : Nat) : (countBytes i n s).chanAux j = s.chanAux j := rfl
@[simp] theorem countBytes_mb (i n : Nat) (j : Nat) : (countBytes i n s).mb j = s.mb j := rfl
@[simp] theorem countBytes_lane (i n : Nat) (j : Nat) : (countBytes i n s).lane j = s.lane j := rfl
@[simp] theorem countBytes_now (i n : Nat) : (countBytes i n s).now = s.now := rfl

@[simp] theorem countTime_port (i : Nat) (d : Time) (j : Nat) : (countTime i d s).port j = s.port j := rfl
@[simp] theorem countTime_aux (i : Nat) (d : Time) (j : Nat) : (countTime i d s).aux j = s.aux j := rfl
@[simp] theorem countTime_part (i : Nat) (d : Time) (j : Nat) : (countTime i d s).part j = s.part j := rfl
@[simp] theorem countTime_spoke (i : Nat) (d : Time) (j : Nat) : (countTime i d s).spoke j = s.spoke j := rfl
@[simp] theorem countTime_stime (i : Nat) (d : Time) (j : Nat) : (countTime i d s).stime j = s.stime j := rfl
@[simp] theorem countTime_func (i : Nat) (d : Time) (j : Nat) : (countTime i d s).func j = s.func j := rfl
@[simp] theorem countTime_engine (i : Nat) (d : Time) (j : Nat) : (countTime i d s).engine j = s.engine j := rfl
@[simp] theorem countTime_chan (i : Nat) (d : Time) (j : Nat) : (countTime i d s).chan j = s.chan j := rfl
@[simp] theorem countTime_chanAux (i : Nat) (d : Time) (j : Nat) : (countTime i d s).chanAux j = s.chanAux j := rfl
@[simp] theorem countTime_mb (i : Nat) (d : Time) (j : Nat) : (countTime i d s).mb j = s.mb j := rfl
@[simp] theorem countTime_lane (i : Nat) (d : Time) (j : Nat) : (countTime i d s).lane j = s.lane j := rfl
@[simp] theorem countTime_now (i : Nat) (d : Time) : (countTime i d s).now = s.now := rfl

@[simp] theorem modLoop_port (d k : Nat) (f : LoopRun → LoopRun) (j : Nat) : (modLoop d k f s).port j = s.port j := rfl
@[simp] theorem modLoop_aux (d k : Nat) (f : LoopRun → LoopRun) (j : Nat) : (modLoop d k f s).aux j = s.aux j := rfl
@[simp] theorem modLoop_part (d k : Nat) (f : LoopRun → LoopRun) (j : Nat) : (modLoop d k f s).part j = s.part j := rfl
@[simp] theorem modLoop_spoke (d k : Nat) (f : LoopRun → LoopRun) (j : Nat) : (modLoop d k f s).spoke j = s.spoke j := rfl
@[simp] theorem modLoop_stime (d k : Nat) (f : LoopRun → LoopRun) (j : Nat) : (modLoop d k f s).stime j = s.stime j := rfl
@[simp] theorem modLoop_func (d k : Nat) (f : LoopRun → LoopRun) (j : Nat) : (modLoop d k f s).func j = s.func j := rfl
@[simp] theorem modLoop_engine (d k : Nat) (f : LoopRun → LoopRun) (j : Nat) : (modLoop d k f s).engine j = s.engine j := rfl
@[simp] theorem modLoop_chan (d k : Nat) (f : LoopRun → LoopRun) (j : Nat) : (modLoop d k f s).chan j = s.chan j := rfl
@[simp] theorem modLoop_chanAux (d k : Nat) (f : LoopRun → LoopRun) (j : Nat) : (modLoop d k f s).chanAux j = s.chanAux j := rfl
@[simp] theorem modLoop_mb (d k : Nat) (f : LoopRun → LoopRun) (j : Nat) : (modLoop d k f s).mb j = s.mb j := rfl
@[simp] theorem modLoop_lane (d k : Nat) (f : LoopRun → LoopRun) (j : Nat) : (modLoop d k f s).lane j = s.lane j := rfl
@[simp] theorem modLoop_now (d k : Nat) (f : LoopRun → LoopRun) : (modLoop d k f s).now = s.now := rfl

@[simp] theorem countLoop_port (d k u e : Nat) (j : Nat) : (countLoop d k u e s).port j = s.port j := rfl
@[simp] theorem countLoop_aux (d k u e : Nat) (j : Nat) : (countLoop d k u e s).aux j = s.aux j := rfl
@[simp] theorem countLoop_part (d k u e : Nat) (j : Nat) : (countLoop d k u e s).part j = s.part j := rfl
@[simp] theorem countLoop_spoke (d k u e : Nat) (j : Nat) : (countLoop d k u e s).spoke j = s.spoke j := rfl
@[simp] theorem countLoop_stime (d k u e : Nat) (j : Nat) : (countLoop d k u e s).stime j = s.stime j := rfl
@[simp] theorem countLoop_func (d k u e : Nat) (j : Nat) : (countLoop d k u e s).func j = s.func j := rfl
@[simp] theorem countLoop_engine (d k u e : Nat) (j : Nat) : (countLoop d k u e s).engine j = s.engine j := rfl
@[simp] theorem countLoop_chan (d k u e : Nat) (j : Nat) : (countLoop d k u e s).chan j = s.chan j := rfl
@[simp] theorem countLoop_chanAux (d k u e : Nat) (j : Nat) : (countLoop d k u e s).chanAux j = s.chanAux j := rfl
@[simp] theorem countLoop_mb (d k u e : Nat) (j : Nat) : (countLoop d k u e s).mb j = s.mb j := rfl
@[simp] theorem countLoop_lane (d k u e : Nat) (j : Nat) : (countLoop d k u e s).lane j = s.lane j := rfl
@[simp] theorem countLoop_now (d k u e : Nat) : (countLoop d k u e s).now = s.now := rfl

@[simp] theorem modPort_aux (i : Nat) (f : Port → Port) (j : Nat) : (modPort i f s).aux j = s.aux j := rfl
@[simp] theorem modPort_part (i : Nat) (f : Port → Port) (j : Nat) : (modPort i f s).part j = s.part j := rfl
@[simp] theorem modPort_spoke (i : Nat) (f : Port → Port) (j : Nat) : (modPort i f s).spoke j = s.spoke j := rfl
@[simp] theorem modPort_stime (i : Nat) (f : Port → Port) (j : Nat) : (modPort i f s).stime j = s.stime j := rfl
@[simp] theorem modPort_func (i : Nat) (f : Port → Port) (j : Nat) : (modPort i f s).func j = s.func j := rfl
@[simp] theorem modPort_engine (i : Nat) (f : Port → Port) (j : Nat) : (modPort i f s).engine j = s.engine j := rfl
@[simp] theorem modPort_chan (i : Nat) (f : Port → Port) (j : Nat) : (modPort i f s).chan j = s.chan j := rfl
@[simp] theorem modPort_chanAux (i : Nat) (f : Port → Port) (j : Nat) : (modPort i f s).chanAux j = s.chanAux j := rfl
@[simp] theorem modPort_mb (i : Nat) (f : Port → Port) (j : Nat) : (modPort i f s).mb j = s.mb j := rfl
@[simp] theorem modPort_lane (i : Nat) (f : Port → Port) (j : Nat) : (modPort i f s).lane j = s.lane j := rfl
@[simp] theorem modPort_now (i : Nat) (f : Port → Port) : (modPort i f s).now = s.now := rfl

@[simp] theorem modAux_port (i : Nat) (f : PortAux → PortAux) (j : Nat) : (modAux i f s).port j = s.port j := rfl
@[simp] theorem modAux_part (i : Nat) (f : PortAux → PortAux) (j : Nat) : (modAux i f s).part j = s.part j := rfl
@[simp] theorem modAux_spoke (i : Nat) (f : PortAux → PortAux) (j : Nat) : (modAux i f s).spoke j = s.spoke j := rfl
@[simp] theorem modAux_stime (i : Nat) (f : PortAux → PortAux) (j : Nat) : (modAux i f s).stime j = s.stime j := rfl
@[simp] theorem modAux_func (i : Nat) (f : PortAux → PortAux) (j : Nat) : (modAux i f s).func j = s.func j := rfl
@[simp] theorem modAux_engine (i : Nat) (f : PortAux → PortAux) (j : Nat) : (modAux i f s).engine j = s.engine j := rfl
@[simp] theorem modAux_chan (i : Nat) (f : PortAux → PortAux) (j : Nat) : (modAux i f s).chan j = s.chan j := rfl
@[simp] theorem modAux_chanAux (i : Nat) (f : PortAux → PortAux) (j : Nat) : (modAux i f s).chanAux j = s.chanAux j := rfl
@[simp] theorem modAux_mb (i : Nat) (f : PortAux → PortAux) (j : Nat) : (modAux i f s).mb j = s.mb j := rfl
@[simp] theorem modAux_lane (i : Nat) (f : PortAux → PortAux) (j : Nat) : (modAux i f s).lane j = s.lane j := rfl
@[simp] theorem modAux_now (i : Nat) (f : PortAux → PortAux) : (modAux i f s).now = s.now := rfl

@[simp] theorem modPart_port (i : Nat) (f : Part → Part) (j : Nat) : (modPart i f s).port j = s.port j := rfl
@[simp] theorem modPart_aux (i : Nat) (f : Part → Part) (j : Nat) : (modPart i f s).aux j = s.aux j := rfl
@[simp] theorem modPart_spoke (i : Nat) (f : Part → Part) (j : Nat) : (modPart i f s).spoke j = s.spoke j := rfl
@[simp] theorem modPart_stime (i : Nat) (f : Part → Part) (j : Nat) : (modPart i f s).stime j = s.stime j := rfl
@[simp] theorem modPart_func (i : Nat) (f : Part → Part) (j : Nat) : (modPart i f s).func j = s.func j := rfl
@[simp] theorem modPart_engine (i : Nat) (f : Part → Part) (j : Nat) : (modPart i f s).engine j = s.engine j := rfl
@[simp] theorem modPart_chan (i : Nat) (f : Part → Part) (j : Nat) : (modPart i f s).chan j = s.chan j := rfl
@[simp] theorem modPart_chanAux (i : Nat) (f : Part → Part) (j : Nat) : (modPart i f s).chanAux j = s.chanAux j := rfl
@[simp] theorem modPart_mb (i : Nat) (f : Part → Part) (j : Nat) : (modPart i f s).mb j = s.mb j := rfl
@[simp] theorem modPart_lane (i : Nat) (f : Part → Part) (j : Nat) : (modPart i f s).lane j = s.lane j := rfl
@[simp] theorem modPart_now (i : Nat) (f : Part → Part) : (modPart i f s).now = s.now := rfl

@[simp] theorem modSpoke_port (i : Nat) (f : Spoke → Spoke) (j : Nat) : (modSpoke i f s).port j = s.port j := rfl
@[simp] theorem modSpoke_aux (i : Nat) (f : Spoke → Spoke) (j : Nat) : (modSpoke i f s).aux j = s.aux j := rfl
@[simp] theorem modSpoke_part (i : Nat) (f : Spoke → Spoke) (j : Nat) : (modSpoke i f s).part j = s.part j := rfl
@[simp] theorem modSpoke_stime (i : Nat) (f : Spoke → Spoke) (j : Nat) : (modSpoke i f s).stime j = s.stime j := rfl
@[simp] theorem modSpoke_func (i : Nat) (f : Spoke → Spoke) (j : Nat) : (modSpoke i f s).func j = s.func j := rfl
@[simp] theorem modSpoke_engine (i : Nat) (f : Spoke → Spoke) (j : Nat) : (modSpoke i f s).engine j = s.engine j := rfl
@[simp] theorem modSpoke_chan (i : Nat) (f : Spoke → Spoke) (j : Nat) : (modSpoke i f s).chan j = s.chan j := rfl
@[simp] theorem modSpoke_chanAux (i : Nat) (f : Spoke → Spoke) (j : Nat) : (modSpoke i f s).chanAux j = s.chanAux j := rfl
@[simp] theorem modSpoke_mb (i : Nat) (f : Spoke → Spoke) (j : Nat) : (modSpoke i f s).mb j = s.mb j := rfl
@[simp] theorem modSpoke_lane (i : Nat) (f : Spoke → Spoke) (j : Nat) : (modSpoke i f s).lane j = s.lane j := rfl
@[simp] theorem modSpoke_now (i : Nat) (f : Spoke → Spoke) : (modSpoke i f s).now = s.now := rfl

@[simp] theorem modStime_port (i : Nat) (f : SpokeTime → SpokeTime) (j : Nat) : (modStime i f s).port j = s.port j := rfl
@[simp] theorem modStime_aux (i : Nat) (f : SpokeTime → SpokeTime) (j : Nat) : (modStime i f s).aux j = s.aux j := rfl
@[simp] theorem modStime_part (i : Nat) (f : SpokeTime → SpokeTime) (j : Nat) : (modStime i f s).part j = s.part j := rfl
@[simp] theorem modStime_spoke (i : Nat) (f : SpokeTime → SpokeTime) (j : Nat) : (modStime i f s).spoke j = s.spoke j := rfl
@[simp] theorem modStime_func (i : Nat) (f : SpokeTime → SpokeTime) (j : Nat) : (modStime i f s).func j = s.func j := rfl
@[simp] theorem modStime_engine (i : Nat) (f : SpokeTime → SpokeTime) (j : Nat) : (modStime i f s).engine j = s.engine j := rfl
@[simp] theorem modStime_chan (i : Nat) (f : SpokeTime → SpokeTime) (j : Nat) : (modStime i f s).chan j = s.chan j := rfl
@[simp] theorem modStime_chanAux (i : Nat) (f : SpokeTime → SpokeTime) (j : Nat) : (modStime i f s).chanAux j = s.chanAux j := rfl
@[simp] theorem modStime_mb (i : Nat) (f : SpokeTime → SpokeTime) (j : Nat) : (modStime i f s).mb j = s.mb j := rfl
@[simp] theorem modStime_lane (i : Nat) (f : SpokeTime → SpokeTime) (j : Nat) : (modStime i f s).lane j = s.lane j := rfl
@[simp] theorem modStime_now (i : Nat) (f : SpokeTime → SpokeTime) : (modStime i f s).now = s.now := rfl

@[simp] theorem modFunc_port (i : Nat) (f : Func → Func) (j : Nat) : (modFunc i f s).port j = s.port j := rfl
@[simp] theorem modFunc_aux (i : Nat) (f : Func → Func) (j : Nat) : (modFunc i f s).aux j = s.aux j := rfl
@[simp] theorem modFunc_part (i : Nat) (f : Func → Func) (j : Nat) : (modFunc i f s).part j = s.part j := rfl
@[simp] theorem modFunc_spoke (i : Nat) (f : Func → Func) (j : Nat) : (modFunc i f s).spoke j = s.spoke j := rfl
@[simp] theorem modFunc_stime (i : Nat) (f : Func → Func) (j : Nat) : (modFunc i f s).stime j = s.stime j := rfl
@[simp] theorem modFunc_engine (i : Nat) (f : Func → Func) (j : Nat) : (modFunc i f s).engine j = s.engine j := rfl
@[simp] theorem modFunc_chan (i : Nat) (f : Func → Func) (j : Nat) : (modFunc i f s).chan j = s.chan j := rfl
@[simp] theorem modFunc_chanAux (i : Nat) (f : Func → Func) (j : Nat) : (modFunc i f s).chanAux j = s.chanAux j := rfl
@[simp] theorem modFunc_mb (i : Nat) (f : Func → Func) (j : Nat) : (modFunc i f s).mb j = s.mb j := rfl
@[simp] theorem modFunc_lane (i : Nat) (f : Func → Func) (j : Nat) : (modFunc i f s).lane j = s.lane j := rfl
@[simp] theorem modFunc_now (i : Nat) (f : Func → Func) : (modFunc i f s).now = s.now := rfl

@[simp] theorem modEngine_port (i : Nat) (f : Engine → Engine) (j : Nat) : (modEngine i f s).port j = s.port j := rfl
@[simp] theorem modEngine_aux (i : Nat) (f : Engine → Engine) (j : Nat) : (modEngine i f s).aux j = s.aux j := rfl
@[simp] theorem modEngine_part (i : Nat) (f : Engine → Engine) (j : Nat) : (modEngine i f s).part j = s.part j := rfl
@[simp] theorem modEngine_spoke (i : Nat) (f : Engine → Engine) (j : Nat) : (modEngine i f s).spoke j = s.spoke j := rfl
@[simp] theorem modEngine_stime (i : Nat) (f : Engine → Engine) (j : Nat) : (modEngine i f s).stime j = s.stime j := rfl
@[simp] theorem modEngine_func (i : Nat) (f : Engine → Engine) (j : Nat) : (modEngine i f s).func j = s.func j := rfl
@[simp] theorem modEngine_chan (i : Nat) (f : Engine → Engine) (j : Nat) : (modEngine i f s).chan j = s.chan j := rfl
@[simp] theorem modEngine_chanAux (i : Nat) (f : Engine → Engine) (j : Nat) : (modEngine i f s).chanAux j = s.chanAux j := rfl
@[simp] theorem modEngine_mb (i : Nat) (f : Engine → Engine) (j : Nat) : (modEngine i f s).mb j = s.mb j := rfl
@[simp] theorem modEngine_lane (i : Nat) (f : Engine → Engine) (j : Nat) : (modEngine i f s).lane j = s.lane j := rfl
@[simp] theorem modEngine_now (i : Nat) (f : Engine → Engine) : (modEngine i f s).now = s.now := rfl

@[simp] theorem modChan_port (i : Nat) (f : Chan → Chan) (j : Nat) : (modChan i f s).port j = s.port j := rfl
@[simp] theorem modChan_aux (i : Nat) (f : Chan → Chan) (j : Nat) : (modChan i f s).aux j = s.aux j := rfl
@[simp] theorem modChan_part (i : Nat) (f : Chan → Chan) (j : Nat) : (modChan i f s).part j = s.part j := rfl
@[simp] theorem modChan_spoke (i : Nat) (f : Chan → Chan) (j : Nat) : (modChan i f s).spoke j = s.spoke j := rfl
@[simp] theorem modChan_stime (i : Nat) (f : Chan → Chan) (j : Nat) : (modChan i f s).stime j = s.stime j := rfl
@[simp] theorem modChan_func (i : Nat) (f : Chan → Chan) (j : Nat) : (modChan i f s).func j = s.func j := rfl
@[simp] theorem modChan_engine (i : Nat) (f : Chan → Chan) (j : Nat) : (modChan i f s).engine j = s.engine j := rfl
@[simp] theorem modChan_chanAux (i : Nat) (f : Chan → Chan) (j : Nat) : (modChan i f s).chanAux j = s.chanAux j := rfl
@[simp] theorem modChan_mb (i : Nat) (f : Chan → Chan) (j : Nat) : (modChan i f s).mb j = s.mb j := rfl
@[simp] theorem modChan_lane (i : Nat) (f : Chan → Chan) (j : Nat) : (modChan i f s).lane j = s.lane j := rfl
@[simp] theorem modChan_now (i : Nat) (f : Chan → Chan) : (modChan i f s).now = s.now := rfl

@[simp] theorem modChanAux_port (i : Nat) (f : ChanAux → ChanAux) (j : Nat) : (modChanAux i f s).port j = s.port j := rfl
@[simp] theorem modChanAux_aux (i : Nat) (f : ChanAux → ChanAux) (j : Nat) : (modChanAux i f s).aux j = s.aux j := rfl
@[simp] theorem modChanAux_part (i : Nat) (f : ChanAux → ChanAux) (j : Nat) : (modChanAux i f s).part j = s.part j := rfl
@[simp] theorem modChanAux_spoke (i : Nat) (f : ChanAux → ChanAux) (j : Nat) : (modChanAux i f s).spoke j = s.spoke j := rfl
@[simp] theorem modChanAux_stime (i : Nat) (f : ChanAux → ChanAux) (j : Nat) : (modChanAux i f s).stime j = s.stime j := rfl
@[simp] theorem modChanAux_func (i : Nat) (f : ChanAux → ChanAux) (j : Nat) : (modChanAux i f s).func j = s.func j := rfl
@[simp] theorem modChanAux_engine (i : Nat) (f : ChanAux → ChanAux) (j : Nat) : (modChanAux i f s).engine j = s.engine j := rfl
@[simp] theorem modChanAux_chan (i : Nat) (f : ChanAux → ChanAux) (j : Nat) : (modChanAux i f s).chan j = s.chan j := rfl
@[simp] theorem modChanAux_mb (i : Nat) (f : ChanAux → ChanAux) (j : Nat) : (modChanAux i f s).mb j = s.mb j := rfl
@[simp] theorem modChanAux_lane (i : Nat) (f : ChanAux → ChanAux) (j : Nat) : (modChanAux i f s).lane j = s.lane j := rfl
@[simp] theorem modChanAux_now (i : Nat) (f : ChanAux → ChanAux) : (modChanAux i f s).now = s.now := rfl

@[simp] theorem modMb_port (i : Nat) (f : Mailbox → Mailbox) (j : Nat) : (modMb i f s).port j = s.port j := rfl
@[simp] theorem modMb_aux (i : Nat) (f : Mailbox → Mailbox) (j : Nat) : (modMb i f s).aux j = s.aux j := rfl
@[simp] theorem modMb_part (i : Nat) (f : Mailbox → Mailbox) (j : Nat) : (modMb i f s).part j = s.part j := rfl
@[simp] theorem modMb_spoke (i : Nat) (f : Mailbox → Mailbox) (j : Nat) : (modMb i f s).spoke j = s.spoke j := rfl
@[simp] theorem modMb_stime (i : Nat) (f : Mailbox → Mailbox) (j : Nat) : (modMb i f s).stime j = s.stime j := rfl
@[simp] theorem modMb_func (i : Nat) (f : Mailbox → Mailbox) (j : Nat) : (modMb i f s).func j = s.func j := rfl
@[simp] theorem modMb_engine (i : Nat) (f : Mailbox → Mailbox) (j : Nat) : (modMb i f s).engine j = s.engine j := rfl
@[simp] theorem modMb_chan (i : Nat) (f : Mailbox → Mailbox) (j : Nat) : (modMb i f s).chan j = s.chan j := rfl
@[simp] theorem modMb_chanAux (i : Nat) (f : Mailbox → Mailbox) (j : Nat) : (modMb i f s).chanAux j = s.chanAux j := rfl
@[simp] theorem modMb_lane (i : Nat) (f : Mailbox → Mailbox) (j : Nat) : (modMb i f s).lane j = s.lane j := rfl
@[simp] theorem modMb_now (i : Nat) (f : Mailbox → Mailbox) : (modMb i f s).now = s.now := rfl

@[simp] theorem modLane_port (i : Nat) (f : Lane → Lane) (j : Nat) : (modLane i f s).port j = s.port j := rfl
@[simp] theorem modLane_aux (i : Nat) (f : Lane → Lane) (j : Nat) : (modLane i f s).aux j = s.aux j := rfl
@[simp] theorem modLane_part (i : Nat) (f : Lane → Lane) (j : Nat) : (modLane i f s).part j = s.part j := rfl
@[simp] theorem modLane_spoke (i : Nat) (f : Lane → Lane) (j : Nat) : (modLane i f s).spoke j = s.spoke j := rfl
@[simp] theorem modLane_stime (i : Nat) (f : Lane → Lane) (j : Nat) : (modLane i f s).stime j = s.stime j := rfl
@[simp] theorem modLane_func (i : Nat) (f : Lane → Lane) (j : Nat) : (modLane i f s).func j = s.func j := rfl
@[simp] theorem modLane_engine (i : Nat) (f : Lane → Lane) (j : Nat) : (modLane i f s).engine j = s.engine j := rfl
@[simp] theorem modLane_chan (i : Nat) (f : Lane → Lane) (j : Nat) : (modLane i f s).chan j = s.chan j := rfl
@[simp] theorem modLane_chanAux (i : Nat) (f : Lane → Lane) (j : Nat) : (modLane i f s).chanAux j = s.chanAux j := rfl
@[simp] theorem modLane_mb (i : Nat) (f : Lane → Lane) (j : Nat) : (modLane i f s).mb j = s.mb j := rfl
@[simp] theorem modLane_now (i : Nat) (f : Lane → Lane) : (modLane i f s).now = s.now := rfl

end Sys2Proof.Machine
end

