-- ==== Sys2Proof/Laws/Ops.lean ====
section
/-! SUPPORT. The shared shape of the meanings: what `run` answers, and folds over lists of objects. -/

namespace Sys2Proof.Machine

/-- A meaning of the common shape always answers a next state. -/
theorem run_eq (dt : Time) (ok : Bool) (f : State → State) (s : State) :
    run dt ok f s = .next { (if ok then f (advance dt s) else advance dt s) with pending := s.pending } := rfl

/-- A meaning of the common shape whose operands exist gives its effect after the time has passed. -/
theorem run_gives {dt : Time} {ok : Bool} {f : State → State} {s t : State} (h : ok = true) (e : f (advance dt s) = t) :
    run dt ok f s = .next { t with pending := s.pending } := by
  subst e; simp [run, h]

/-- Where an operand names no object, only the time passes. -/
theorem run_nothing {dt : Time} {ok : Bool} {f : State → State} {s : State} (h : ok = false) : run dt ok f s = .next (advance dt s) := by
  subst h; rfl

/-- Inversion: a next state of a meaning of the common shape is its effect, or that of the time alone, the queue unchanged. -/
theorem run_next {dt : Time} {ok : Bool} {f : State → State} {s t : State} (h : run dt ok f s = .next t) :
    (ok = true ∧ t = { f (advance dt s) with pending := s.pending }) ∨ (ok = false ∧ t = advance dt s) := by
  cases ok
  · exact .inr ⟨rfl, (Host.Outcome.next.inj h).symm⟩
  · exact .inl ⟨rfl, (Host.Outcome.next.inj h).symm⟩

/-- A property that each step of a fold keeps holds after the fold. -/
theorem forAll_keeps {α : Type} (P : State → Prop) (f : α → State → State) (h : ∀ x s, P s → P (f x s)) (l : List α) (s : State)
    (hs : P s) : P (forAll l f s) := by
  induction l generalizing s with
  | nil => exact hs
  | cons x r ih => exact ih _ (h x s hs)

/-- A field that each step of a fold leaves is left by the fold. -/
theorem forAll_field {α β : Type} (g : State → β) (f : α → State → State) (h : ∀ x s, g (f x s) = g s) (l : List α) (s : State) :
    g (forAll l f s) = g s := forAll_keeps (fun t => g t = g s) f (fun x t ht => (h x t).trans ht) l s rfl

@[simp] theorem forAll_nil {α : Type} (f : α → State → State) (s : State) : forAll [] f s = s := rfl

@[simp] theorem forAll_cons {α : Type} (x : α) (r : List α) (f : α → State → State) (s : State) :
    forAll (x :: r) f s = forAll r f (f x s) := rfl

/-! Sending. -/

@[simp] theorem emit_out (o : Out) (s : State) : (emit o s).out = s.out ++ [o] := rfl

@[simp] theorem advance_now (dt : Time) (s : State) : (advance dt s).now = s.now + dt := rfl

theorem sendMsg_pcie_part (p : Nat) (m : MsgKind) (s : State) : (sendMsg p m s).pcie.part = s.pcie.part := by
  unfold sendMsg; split <;> [rfl; (split <;> rfl)]

theorem collapse_part (u : Nat) (s : State) (p : Nat) : (collapse u s).part p = s.part p := by
  unfold collapse
  exact forAll_field (fun s => s.part p) _ (by
    intro x t
    split
    · exact congrArg (tget {} · p) (sendMsg_pcie_part u _ t)
    · split
      · exact congrArg (tget {} · p) (sendMsg_pcie_part u _ t)
      · rfl) _ _

/-- After an update of the level, it is what R146 says of the registers. -/
theorem updateLevel_level (p : Nat) (s : State) : ((updateLevel p s).part p).level = intLevel (s.part p) := by
  unfold updateLevel
  dsimp only
  split
  · next h => exact h.symm
  · split
    · rw [collapse_part]; simp
    · simp

/-- An update of the level changes nothing else of the partition. -/
theorem updateLevel_part (p : Nat) (s : State) :
    (updateLevel p s).part p = { s.part p with level := intLevel (s.part p) } := by
  unfold updateLevel
  dsimp only
  split
  · next h => rw [h]
  · split
    · rw [collapse_part]; simp
    · simp

end Sys2Proof.Machine
end

