-- ==== Sys2Proof/Laws/Mailbox.lean ====
section
/-! SUPPORT. Emmel commands: what accepting a request and running its body answer. -/

namespace Sys2Proof.Machine

/-- What becomes of a body's answer: the command completes, or its mailbox waits. -/
def conclude (r : Req) (x : Answer × State) : State :=
  match x with
  | (.done st ex pay, s2) => finish r.mb st ex pay s2
  | (.waits why, s2) => modMb r.mb (fun m => if m.state = 1 then { m with waiting := why } else m) s2

/-- A request that the MC can take runs its body in the state in which it has been taken. -/
theorem accept_taken (r : Req) (a : State) (body : Handler) (h : Ready r a) :
    accept body r a = conclude r (body r (taken r a)) := by
  obtain ⟨_, _, _, _, _, h6, h7, _⟩ := h
  unfold accept
  simp only [h6, h7, Bool.false_eq_true, if_false]
  rfl

theorem command_taken (sp : Req → Bool) (body : Handler) (r : Req) (a : State) (h : Ready r a) (hs : sp r = true) :
    command sp body r a = conclude r (body r (taken r a)) := by
  rw [← accept_taken r a body h]
  obtain ⟨h1, h2, h3, ⟨h4, h5⟩, h6, h7, h8, h9⟩ := h
  have h0 : (decide ((a.mb r.mb).state = 1) && !(((a.mb r.mb).submittedAt.isSome || (a.mb r.mb).waiting == waitDma) &&
      (waitingReq a r.mb).hdr0 == r.hdr0)) = false := by
    by_cases e : (a.mb r.mb).state = 1
    · obtain ⟨x, y⟩ := h4 e
      simp only [x, y, beq_self_eq_true, Bool.and_self, Bool.not_true, Bool.and_false]
    · simp [e]
  have hm : ((a.mb r.mb).waiting != waitDma && mcBusyFor a r.mb) = false := by
    rcases h5 with ⟨x, -⟩ | ⟨-, x⟩ <;> simp [x]
  have hf : mustFetch r (a.mb r.mb) = false := by
    rcases h5 with ⟨-, x⟩ | ⟨x, y⟩ <;> simp [mustFetch, *]
  unfold command
  simp only [hs, h6, h2, h0, hm, hf, romAllows, h3, Bool.not_true, Bool.not_false, Bool.true_or, Option.isSome_none, Bool.or_self,
    Bool.false_eq_true, if_false]

/-- A command that its mailbox may send answers its body's conclusion. -/
theorem command_gives {c : Rule} {op : Nat} {body : Handler} {r : Req} {s t : State} {dt : Time} {sp : Req → Bool}
    (h : Sent c op r (advance dt s)) (hs : sp r = true) (e : conclude r (body r (taken r (advance dt s))) = t) :
    run dt (okReq r) (command sp (checkedBy c body) r) s = .next { t with pending := s.pending } := by
  obtain ⟨hr, ho, ha⟩ := h
  have h1 : okReq r = true := by simp [okReq, okMb, hr.1]
  have h8 := hr.2.2.2.2.2.2.2
  have ha' : allowed c r (taken r (advance dt s)) = true := ha
  refine run_gives h1 ?_
  rw [← e]
  simp [command_taken _ _ _ _ hr hs, checkedBy, h8, ha']

/-- The same of a command row that its opcode alone names. -/
theorem opcode_gives {c : Rule} {op : Nat} {body : Handler} {r : Req} {s t : State} {dt : Time}
    (h : Sent c op r (advance dt s)) (e : conclude r (body r (taken r (advance dt s))) = t) :
    run dt (okReq r) (command (isOp op) (checkedBy c body) r) s = .next { t with pending := s.pending } :=
  command_gives h (by simp [isOp, h.2.1]) e

end Sys2Proof.Machine
end

