-- ==== Sys2Proof/Laws/Records.lean ====
section
/-! SUPPORT. What the records in force say depends only on the configuration and the device number: two states that agree on
both agree on every field that a record names. -/

namespace Sys2Proof.Machine

/-- Two states are the same device under the same configuration. -/
def SameConf (b s : State) : Prop := b.conf.entries = s.conf.entries ∧ b.chip.devnum = s.chip.devnum

variable {b s : State}

theorem SameConf.cfg (h : SameConf b s) : b.cfg = s.cfg := by
  funext t a c; simp only [State.cfg, State.dev, h.1, h.2]
theorem SameConf.mine (h : SameConf b s) : b.mine = s.mine := by
  funext t; simp only [State.mine, State.dev, h.1, h.2]
theorem SameConf.portRec (h : SameConf b s) : portRec b = portRec s := by
  funext p; simp only [Machine.portRec, h.cfg]
theorem SameConf.portEn (h : SameConf b s) : portEn b = portEn s := by
  funext p; simp only [Machine.portEn, h.portRec]
theorem SameConf.portUp (h : SameConf b s) : portUp b = portUp s := by
  funext p; simp only [Machine.portUp, h.portRec]
theorem SameConf.portPart (h : SameConf b s) : portPart b = portPart s := by
  funext p; simp only [Machine.portPart, h.portRec]
theorem SameConf.partRec (h : SameConf b s) : partRec b = partRec s := by
  funext p; simp only [Machine.partRec, h.cfg]
theorem SameConf.partEn (h : SameConf b s) : partEn b = partEn s := by
  funext p; simp only [Machine.partEn, h.partRec]
theorem SameConf.partStrict (h : SameConf b s) : partStrict b = partStrict s := by
  funext p; simp only [Machine.partStrict, h.partEn, h.partRec]
theorem SameConf.partHome (h : SameConf b s) : partHome b = partHome s := by
  funext p; simp only [Machine.partHome, h.partRec]
theorem SameConf.stationMode (h : SameConf b s) : stationMode b = stationMode s := by
  funext p; simp only [Machine.stationMode, h.cfg]
theorem SameConf.spokeRec (h : SameConf b s) : spokeRec b = spokeRec s := by
  funext p; simp only [Machine.spokeRec, h.cfg]
theorem SameConf.spokePort (h : SameConf b s) : spokePort b = spokePort s := by
  funext p; simp only [Machine.spokePort, h.spokeRec]
theorem SameConf.spokeEn (h : SameConf b s) : spokeEn b = spokeEn s := by
  funext p; simp only [Machine.spokeEn, h.stationMode, h.cfg]
theorem SameConf.portSpoke (h : SameConf b s) : portSpoke b = portSpoke s := by
  funext p; simp only [Machine.portSpoke, h.spokeEn, h.spokePort]
theorem SameConf.portStation (h : SameConf b s) : portStation b = portStation s := by
  funext p; simp only [Machine.portStation, h.portSpoke, h.portRec]
theorem SameConf.stationPorts (h : SameConf b s) : stationPorts b = stationPorts s := by
  funext p; simp only [Machine.stationPorts, h.portStation, h.portEn, h.portSpoke]

end Sys2Proof.Machine
end

