-- ==== Sys2Proof/Tests/Live.lean ====
section
/-! SUPPORT. Small states of a device that runs, for the tests. -/

namespace Sys2Proof.Tests

open Sys2Proof.Machine

/-- A record of device 0. -/
def recd (typ a b : Nat) (fs : List (Nat × Nat × Nat)) : CfgEntry := ⟨0, typ, a, b, BitVec.ofNat 256 (pack fs)⟩

/-- Station 0 carries PCIe ports at granules 0, 4 and 6, station 1 two spokes. P0 is the upstream port and P1 a downstream port of
partition 3, whose home this device is; P2 is a downstream hot-plug port with channel 7. Spoke 2 is logical port 10, spoke 3 port 11.
Device 5 is reached over spoke 2. VF 9 belongs to partition 3. -/
def small : List CfgEntry := [
  recd 0x01 0 0 [(63, 62, 1), (59, 52, 81), (48, 47, 1), (46, 45, 1)],
  recd 0x01 1 0 [(63, 62, 2), (61, 60, 3), (59, 52, 1), (48, 47, 1), (46, 45, 1)],
  recd 0x04 0 0 [(63, 63, 1), (62, 62, 1), (61, 56, 3), (47, 45, 5), (42, 42, 1)],
  recd 0x04 1 0 [(63, 63, 1), (61, 56, 3), (50, 48, 4), (47, 45, 5), (42, 42, 1), (41, 37, 1)],
  recd 0x04 2 0 [(63, 63, 1), (61, 56, 3), (50, 48, 6), (47, 45, 5), (42, 42, 1), (41, 37, 2), (34, 34, 1), (33, 28, 7)],
  recd 0x06 2 0 [(63, 57, 10), (48, 48, 1), (47, 45, 6), (44, 44, 1), (43, 40, 4)],
  recd 0x06 3 0 [(63, 57, 11), (48, 48, 1), (47, 45, 6), (44, 44, 1), (43, 40, 4)],
  recd 0x10 3 0 [(31, 31, 1), (23, 19, 2)],
  recd 0x40 9 0 [(31, 31, 1), (30, 25, 3), (24, 22, 1)],
  recd 0x50 5 0 [(63, 63, 1), (60, 54, 10)]]

/-- A device whose boot is over, its MC serving, time-locked as master, with P0 and P1 up, spoke 2 up, the device lock with mailbox 64. -/
def live : State := { State.reset with
  conf.entries := small, chip.booting := false, chip.upTime := 100 * oneSec, chip.refALost := false, chip.refBLost := false
  mgmt.serving := true
  mgmt.lock := [(0, { owner := some 64 })], slot.recordsLoaded := true
  pcie.port := [(0, { up := true, width := 16, rate := 5, sec := 1, subBus := 3 }), (1, { up := true, width := 16, rate := 5 })]
  spokes.spoke := [(2, { state := 6 })], spokes.time := [(2, { inPlumb := true })], sec.seedLocked := true, sec.keyLoaded := true }

/-- A request of a mailbox: opcode, scope and its id, payload. -/
def ask (mb op scope id : Nat) (pay : List Nat) : Req :=
  { mb := mb, hdr0 := quad [(63, 48, op), (47, 32, 0x1234), (31, 30, scope), (29, 20, id), (19, 0, 8 * pay.length)]
    pay := pay.map (BitVec.ofNat 64) }

/-- The next state, when there is one. -/
def nextOf : Host.Outcome State Fault Refusal → Option State
  | .next t => some t
  | _ => none

/-- A request that the MC can take, as a Bool. -/
def sentB (c : Rule) (op : Nat) (r : Req) (a : State) : Bool :=
  decide (r.mb < 67) && a.mgmt.serving && !a.chip.romRecovery && decide (ItsTurn r a) && r.carried == none && !(a.mb r.mb).dirty &&
    r.dma == .ok && headerOk r && rOp r == op && allowed c r a
theorem sent {c : Rule} {op : Nat} {r : Req} {a : State} (h : sentB c op r a = true) : Sent c op r a := by
  simp only [sentB, Bool.and_eq_true, decide_eq_true_eq, Bool.not_eq_true', beq_iff_eq] at h
  obtain ⟨⟨⟨⟨⟨⟨⟨⟨⟨h1, h2⟩, h3⟩, h4⟩, h5⟩, h6⟩, h7⟩, h8⟩, h9⟩, h10⟩ := h
  exact ⟨⟨h1, h2, h3, h4, h5, h6, h7, h8⟩, h9, h10⟩

theorem test_small_is_canonical : cfgCanon small = true := by decide +kernel
theorem test_live_runs : mcRuns live = true ∧ timeLocked live = true ∧ slotUp live = true ∧ spokeUp live 2 = true ∧
    pciePort live 0 = true ∧ pciePort live 1 = true ∧ primaryUp live 3 = some 0 ∧ slotPort live 7 = some 2 ∧ portSpoke live 10 = some 2 := by
  decide +kernel

end Sys2Proof.Tests
end

