-- ==== Sys2Proof/Tests/Slice0.lean ====
section
/-! SUPPORT. Tests: what well-formedness refuses, and for each statement a state and operands that meet its hypotheses. -/

namespace Sys2Proof.Tests

open Sys2Proof.Machine

set_option Elab.async false

/-! WellFormed: an ill-formed term for each check, one past the last object, is refused; the last one is not. -/

theorem test_wf_port : (Instr.hotResetReceived 0 128).wf = false ∧ (Instr.hotResetReceived 0 127).wf = true := by decide
theorem test_wf_lane : (Instr.lossOfSignal 0 320).wf = false ∧ (Instr.lossOfSignal 0 319).wf = true := by decide
theorem test_wf_spoke : (Instr.cadenceLoss 0 40).wf = false ∧ (Instr.cadenceLoss 0 39).wf = true := by decide
theorem test_wf_spoke_opt : (Instr.bridgedCompletion 0 (some 40) 0 0 { kind := .completion .sc }).wf = false ∧
    (Instr.bridgedCompletion 0 none 71 2 { kind := .completion .sc }).wf = true := by decide
theorem test_wf_func : (Instr.ringDisable 0 576).wf = false ∧ (Instr.ringDisable 0 575).wf = true := by decide
theorem test_wf_func_opt : (Instr.registerWrite 0 0 (some 576) 0 32 0).wf = false ∧
    (Instr.registerWrite 0 63 none 0 32 0).wf = true := by decide
theorem test_wf_flr : (Instr.flr 0 576).wf = false ∧ (Instr.flr 0 1023).wf = false ∧ (Instr.flr 0 1088).wf = false ∧
    (Instr.flr 0 1087).wf = true := by decide
theorem test_wf_chan : (Instr.pgLost 0 64).wf = false ∧ (Instr.pgLost 0 63).wf = true := by decide
theorem test_wf_adc : (Instr.adcSample 0 66 0 0).wf = false ∧ (Instr.adcSample 0 65 0 0).wf = true := by decide
theorem test_wf_part : (Instr.d3hotEntry 0 64).wf = false ∧ (Instr.d3hotEntry 0 63).wf = true := by decide
theorem test_wf_dev : (Instr.ackBatch 0 64).wf = false ∧ (Instr.ackBatch 0 63).wf = true := by decide
theorem test_wf_mb : (Instr.mbDoorbellSubmit 0 67).wf = false ∧ (Instr.mbDoorbellSubmit 0 66).wf = true := by decide
theorem test_wf_req : (Instr.identify 0 (ask 67 0x0101 0 0 [])).wf = false ∧ (Instr.identify 0 (ask 66 0x0101 0 0 [])).wf = true := by
  decide +kernel
theorem test_wf_svc : (Instr.noticeReceived 0 8 []).wf = false ∧ (Instr.noticeReceived 0 7 []).wf = true := by decide
theorem test_wf_sub : (Instr.echoReceived 0 20 72).wf = false ∧ (Instr.echoReceived 0 20 71).wf = true := by decide
theorem test_wf_att : (Instr.echoReceived 0 21 0).wf = false ∧ (Instr.echoReceived 0 20 0).wf = true := by decide
theorem test_wf_engine : (Instr.moverReadGrant 0 4).wf = false ∧ (Instr.moverReadGrant 0 3).wf = true := by decide
theorem test_wf_station : (Instr.egressSelect 0 20 []).wf = false ∧ (Instr.egressSelect 0 19 []).wf = true := by decide
theorem test_wf_perstin : (Instr.perstinAssert 0 16).wf = false ∧ (Instr.perstinAssert 0 15).wf = true := by decide
theorem test_wf_bucket : (Instr.bucketMoveBack 0 0 16).wf = false ∧ (Instr.bucketMoveBack 0 63 15).wf = true := by decide
theorem test_wf_tag : (Instr.readTimeout 0 65536).wf = false ∧ (Instr.readTimeout 0 65535).wf = true := by decide
theorem test_wf_tracker : (Instr.trackerNoAnswer 0 32768).wf = false ∧ (Instr.trackerNoAnswer 0 32767).wf = true := by decide
theorem test_wf_unit : (Instr.bwWindowEnd 0 8).wf = false ∧ (Instr.bwWindowEnd 0 7).wf = true := by decide
theorem test_wf_pin : (Instr.intxMessageReceived 0 0 4 true).wf = false ∧ (Instr.intxMessageReceived 0 0 3 true).wf = true := by decide
theorem test_wf_wheel : (Instr.wheelRevolution 0 42).wf = false ∧ (Instr.wheelRevolution 0 41).wf = true := by decide
theorem test_wf_arbiter : (Instr.arbiterGrant 0 194).wf = false ∧ (Instr.arbiterGrant 0 193).wf = true := by decide
theorem test_wf_memory : (Instr.memSingleBitRead 0 9 0 true).wf = false ∧ (Instr.memSingleBitRead 0 8 0 true).wf = true := by decide
theorem test_wf_bank : (Instr.memUncorrectableRead 0 (.output 20 0)).wf = false ∧ (Instr.memUncorrectableRead 0 (.queueState 20)).wf = false ∧
    (Instr.memUncorrectableRead 0 (.moverStaging 576 0 0)).wf = false ∧ (Instr.memUncorrectableRead 0 (.tagTable 65536)).wf = false ∧
    (Instr.memUncorrectableRead 0 (.writeTracker 32768)).wf = false ∧ (Instr.memUncorrectableRead 0 (.scratchpad 0 64 0)).wf = false ∧
    (Instr.memUncorrectableRead 0 (.coefStore 40)).wf = false ∧ (Instr.memUncorrectableRead 0 (.pcieRetry 128)).wf = false ∧
    (Instr.memUncorrectableRead 0 (.spokeReplay 40)).wf = false ∧ (Instr.memUncorrectableRead 0 (.pcieRetry 127)).wf = true := by decide
theorem test_wf_debug : (Instr.debugAccess 0 (.memory 128 0 0 8 false)).wf = false ∧
    (Instr.debugAccess 0 (.memory 0 2 0 8 false)).wf = false ∧ (Instr.debugAccess 0 (.memory 127 1 0 8 false)).wf = true := by decide
theorem test_ill_formed_does_nothing : exec (.hotResetReceived 9 128) State.reset = .next (advance 9 State.reset) := by rfl

/-! The queue. -/

theorem test_idle : step State.reset = .next State.reset := by rfl
theorem test_front_runs : nextOf (step { live with pending := [.d3hotEntry 0 3, .d3hotExit 0 3] }) =
    some { modPart 3 (fun q => { q with f1D3 := true }) (advance 0 live) with pending := [.d3hotExit 0 3] } := by decide +kernel
theorem test_no_command_words : decodeTableWord 8 0 = none ∧ decodeTableWord 64 (2 ^ 64 - 1) = none := by decide

/-! Witnesses of the hypotheses, in the order of the statements. -/

theorem wit_StepsKeepOwnerFusesWhole : OwnerFusesWhole State.reset ∧ ∃ t, step State.reset = .next t :=
  ⟨by unfold OwnerFusesWhole; decide, _, rfl⟩
theorem wit_FusesAreNeverCleared : OwnerFusesWhole live ∧
    ∃ t, step { live with pending := [.fwConfirmation 0] } = .next t := ⟨by unfold OwnerFusesWhole; decide +kernel, _, rfl⟩
theorem wit_OnlyTwoCommandsProgramFuses : ∃ t, exec (.fwConfirmation 0) live = .next t := ⟨_, rfl⟩
theorem wit_LocalClockNeverRunsBack : ∃ t, step { live with pending := [.lifetimeSweep 1] } = .next t := ⟨_, rfl⟩
theorem wit_ConfigurationHoldsWhatIsPut : cfgCanon small = true ∧ cfgCanon [] = true := by decide +kernel
/-- Of three waiters of one priority the one with the smallest stamp, and of those the lowest requester, goes first. -/
theorem wit_ArbiterChoosesTheFirst : bestWaiter live [(65, 9, 0), (64, 7, 0), (3, 7, 0)] =
    bestWaiter live [(64, 7, 0), (3, 7, 0)] ∧ (bestWaiter live [(65, 9, 0), (64, 7, 0), (3, 7, 0)]).isSome = true := by decide +kernel
theorem wit_CompletionEntersDone : ((modMb 3 (fun m => { m with state := 1 }) live).mb 3).state = 1 ∧ (live.mb 66).state ≠ 1 := by
  decide +kernel
theorem wit_AttestRefusesAZeroNonce : let r := ask 64 0x0D02 0 0 [0, 0, 0, 0, 7]
    Sent everyone 0x0D02 r (advance 0 live) ∧ payloadBad r [2 ^ 64 - 1, 2 ^ 64 - 1, 2 ^ 64 - 1, 2 ^ 64 - 1, 7] = none ∧
      ((rPay r).take 4).all (· == 0) = true := by unfold Sent Ready; decide +kernel

/-- Partition 3 in strict isolation mode. -/
def strict : State := { live with conf.entries := cfgPut small (recd 0x10 3 0 [(31, 31, 1), (30, 30, 1), (23, 19, 2)]) }

theorem wit_StrictClosesDebugReads : anyStrict (advance 0 strict) = true ∧ okBank (.tagTable 65535) = true ∧
    okBank (.counterBank (7 * 2 ^ 24 + 16 * 575)) = true ∧ okBank (.moverStaging 575 0 0) = true := by decide +kernel

/-- A staging set of what is in force, at a stage of its life. -/
def setAt (prepared committed : Bool) : StagingSet := { openSet live with prepared := prepared, committed := committed }
def coord1 (decided committing : Bool) : Coord :=
  { epoch := 1, corrective := false, lock := 0, mb := 64, members := [0], votes := [], deadline := 100 * oneSec, committing := committing
    wait := 0, swapAt := ms, pfx := 0x77, armed := [], done := [], sealedBy := [], tSwap := 0, commitMb := some 64, decided := decided }
def prepared1 (armed : Option Nat) : Prepared :=
  { coord := 0, epoch := 1, base := 0, entries := small, digest := 0x77, voted := true, heldUntil := 160 * oneSec, armed := armed
    late := false, sig := 0, signed := false }
def withSet (x : StagingSet) : State := { live with conf.sets := [(0, x)] }

theorem wit_AbortDiscardsOrIsStale (epoch : Nat) (h : epoch = 0 ∨ epoch = 2 ^ 32 - 1) : let r := ask 64 0x0204 0 0 [epoch * 2 ^ 32]
    setLock (taken r (advance 0 live)) r = some 0 ∧ Sent ⟨true, true, true, false, false⟩ 0x0204 r (advance 0 live) ∧
      payloadBad r [2 ^ 64 - 2 ^ 32] = none := by
  unfold Sent Ready; rcases h with rfl | rfl <;> decide +kernel
theorem wit_AbortDiscards_open : let r := ask 64 0x0204 0 0 [0]; let x := stageSet (taken r (advance 0 live)) 0
    x.committed = false ∧ x.prepared = false ∧ pf r 0 63 32 = 0 := by decide +kernel
theorem wit_AbortDiscards_prepared : let s := { withSet (setAt true false) with conf.coord := some (coord1 true false) }
    let r := ask 64 0x0204 0 0 [2 ^ 32]; let b := taken r (advance 0 s)
    setLock b r = some 0 ∧ (stageSet b 0).committed = false ∧ (stageSet b 0).prepared = true ∧
      b.conf.coord.map (·.epoch) = some (pf r 0 63 32) := by decide +kernel
theorem wit_AbortDiscards_committed : let r := ask 64 0x0204 0 0 [0]
    (stageSet (taken r (advance 0 (withSet (setAt false true)))) 0).committed = true := by decide +kernel

/-- The core die after 91 days of powered time. -/
def aged : State := { live with aging.wear := [(0, { powered := 91 * 86400 })] }

theorem wit_ShimExhausts : 70 < 71 ∧ live.aging.vddOfs ≤ 12 ∧ ({ live with aging.vddOfs := 12 } : State).aging.vddOfs ≤ 12 ∧
    mcRuns (advance 0 aged) = true ∧ aged.aging.running = false ∧ effStage (advance 0 aged) < 2 ∧
    aged.aging.lastRun + aged.aging.intervalD * 86400 ≤ coreSeconds (advance 0 aged) := by decide +kernel

/-- A die whose charge lies one unit below a threshold of LIFE_USED. -/
def almost (k : Nat) : Wear := { charge := k * 28051200 / 1000 * 4500 - 1 }
theorem wit_WearThresholdsAreRecorded (k : Nat) (h : k = 80 ∨ k = 90 ∨ k = 100) : [65, 65, 65, 65, 65, (65 : Int)].length = 6 ∧
    diePowered (advance 0 live) 5 = true ∧ lifeUsed (almost k) < k ∧ k ≤ lifeUsed (wearOne 64 (almost k)) := by
  rcases h with rfl | rfl | rfl <;> decide +kernel
theorem wit_WearThresholds_none : lifeUsed (wearOne 64 (almost 79)) < 80 := by decide +kernel

theorem wit_SlotEventsLeaveTheCore : (∃ t, exec (.pgLost 0 63) live = .next t) ∧ (∃ t, exec (.slotRampDone 0 0 []) live = .next t) :=
  ⟨⟨_, rfl⟩, _, rfl⟩
theorem wit_PowerEventsLeaveTheDatapath : (∃ t, exec (.governorTick 0 105) live = .next t) ∧
    ∃ t, exec (.planerRegionDone 0 0 []) live = .next t := ⟨⟨_, rfl⟩, _, rfl⟩

/-! Commands: the requests are ready, allowed and well laid out. -/

/-- The requests of the statements about empty requests and status commands. -/
def reads : List (Rule × Nat × Req) := [
  (everyone, 0x0101, ask 3 0x0101 0 0 []), (everyone, 0x0102, ask 64 0x0102 0 0 []), (everyone, 0x0206, ask 63 0x0206 0 0 []),
  (everyone, 0x0E01, ask 65 0x0E01 0 0 []), (everyone, 0x0E03, ask 64 0x0E03 0 0 []), (operators, 0x0B03, ask 64 0x0B03 0 0 []),
  (operators, 0x0D04, ask 65 0x0D04 0 0 []), (⟨false, true, false, false, false⟩, 0x0C02, ask 64 0x0C02 0 0 []),
  (everyone, 0x0B01, ask 0 0x0B01 0 0 []), (devices, 0x0207, ask 64 0x0207 0 0 [2 ^ 63]), (devices, 0x0302, ask 64 0x0302 0 0 [319 * 2 ^ 55]),
  (devices, 0x0303, ask 64 0x0303 0 0 [39 * 2 ^ 58]), (devices, 0x0304, ask 65 0x0304 0 0 [39 * 2 ^ 58]),
  (everyone, 0x0307, ask 64 0x0307 0 0 [127 * 2 ^ 57]), (everyone, 0x0403, ask 64 0x0403 0 0 [63 * 2 ^ 58]),
  (everyone, 0x0605, ask 64 0x0605 0 0 [127 * 2 ^ 57 + 71 * 2 ^ 50 + 7 * 2 ^ 47]), (everyone, 0x0606, ask 64 0x0606 0 0 [6 * 2 ^ 61 + 575]),
  (everyone, 0x0703, ask 64 0x0703 0 0 [575 * 2 ^ 54]), (everyone, 0x0803, ask 64 0x0803 0 0 [63 * 2 ^ 58]),
  (everyone, 0x0307, ask 3 0x0307 0 0 [0]), (everyone, 0x0307, ask 3 0x0307 0 0 [127 * 2 ^ 57]),
  (everyone, 0x0403, ask 3 0x0403 0 0 [3 * 2 ^ 58]), (everyone, 0x0605, ask 3 0x0605 0 0 [3 * 2 ^ 50]),
  (everyone, 0x0703, ask 3 0x0703 0 0 [9 * 2 ^ 54])]
theorem wit_EmptyRequestsAnswer : ∀ x ∈ reads, Sent x.1 x.2.1 x.2.2 (advance 0 live) :=
  fun x hx => sent ((by decide +kernel : ∀ x ∈ reads, sentB x.1 x.2.1 x.2.2 (advance 0 live) = true) x hx)
theorem wit_EmptyRequests_rom : ∀ op ∈ [0x0101, 0x0D04], SentRom op (ask 64 op 0 0 []) (advance 0 { live with chip.romRecovery := true }) := by
  unfold SentRom; decide +kernel
theorem wit_EmptyRequests_empty : ∀ x ∈ reads.take 9, rLen x.2.2 = 0 := by decide +kernel
theorem wit_StatusCommandsAnswer_payloads : ∀ x ∈ [(ask 64 0x0207 0 0 [2 ^ 63], 2 ^ 63), (ask 64 0x0302 0 0 [319 * 2 ^ 55], 2 ^ 64 - 2 ^ 55),
    (ask 64 0x0303 0 0 [39 * 2 ^ 58], 2 ^ 64 - 2 ^ 58), (ask 65 0x0304 0 0 [39 * 2 ^ 58], 2 ^ 64 - 2 ^ 58),
    (ask 64 0x0307 0 0 [127 * 2 ^ 57], 2 ^ 64 - 2 ^ 57), (ask 3 0x0307 0 0 [0], 2 ^ 64 - 2 ^ 57), (ask 64 0x0403 0 0 [63 * 2 ^ 58], 2 ^ 64 - 2 ^ 58),
    (ask 3 0x0403 0 0 [3 * 2 ^ 58], 2 ^ 64 - 2 ^ 58), (ask 64 0x0605 0 0 [127 * 2 ^ 57 + 71 * 2 ^ 50 + 7 * 2 ^ 47], 2 ^ 64 - 2 ^ 47),
    (ask 64 0x0606 0 0 [7 * 2 ^ 61], 7 * 2 ^ 61 + (2 ^ 24 - 1)), (ask 64 0x0703 0 0 [575 * 2 ^ 54], 2 ^ 64 - 2 ^ 54),
    (ask 3 0x0703 0 0 [9 * 2 ^ 54], 2 ^ 64 - 2 ^ 54), (ask 64 0x0803 0 0 [63 * 2 ^ 58], 2 ^ 64 - 2 ^ 58)],
    payloadBad x.1 [x.2] = none := by decide +kernel
theorem wit_StatusCommandsAnswer_ranges : pf (ask 64 0x0302 0 0 [319 * 2 ^ 55]) 0 63 55 = 319 ∧
    pf (ask 64 0x0303 0 0 [39 * 2 ^ 58]) 0 63 58 = 39 ∧ pf (ask 64 0x0605 0 0 [127 * 2 ^ 57 + 71 * 2 ^ 50 + 7 * 2 ^ 47]) 0 56 50 = 71 ∧
    0 < shaperCount (pf (ask 64 0x0606 0 0 [6 * 2 ^ 61 + 575]) 0 63 61) ∧ pf (ask 64 0x0703 0 0 [575 * 2 ^ 54]) 0 63 54 = 575 ∧
    slotUp (advance 0 live) = true := by decide +kernel
theorem wit_StatusCommandsAnswer_own : let a := advance 0 live
    (portEn a 0 && portPart a 0 == 3) = true ∧ (portEn a 127 && portPart a 127 == 3) = false ∧
    pf (ask 3 0x0403 0 0 [3 * 2 ^ 58]) 0 63 58 = 3 ∧ pf (ask 3 0x0605 0 0 [3 * 2 ^ 50]) 0 56 50 = 3 ∧ vfEn a 9 = true ∧ funcPart a 9 = 3 := by
  decide +kernel

/-- PORT_SET of the record of P5: disabled, all other fields at reset; and one whose rate is out of range. -/
def goodEntry : List Nat := [0x04 * 2 ^ 56 + 5 * 2 ^ 40 + 2 ^ 16, 4 * 2 ^ 45 + 2 ^ 42]
def badEntry : List Nat := [0x04 * 2 ^ 56 + 6 * 2 ^ 40 + 2 ^ 16, 6 * 2 ^ 45]

theorem wit_RecordCommandsStage : let r := ask 64 0x0301 0 0 goodEntry; let b := taken r (advance 0 live)
    sentB (recordRule 0x0301) 0x0301 r (advance 0 live) = true ∧ (entriesOf r).length = 1 ∧
      (∀ e ∈ entriesOf r, entryLock b r.mb e = 0 ∧ entryOk b 0x0301 e = true ∧ entryPegged b e = false ∧
        (r.mb < 64 → entryDenied b r.mb e = false)) ∧
      holdsLock b r.mb 0 = true ∧ (stageSet b 0).prepared = false ∧ (stageSet b 0).committed = false := by
  decide +kernel
theorem wit_RecordCommandsRefuse : let r := ask 64 0x0301 0 0 (goodEntry ++ badEntry); let b := taken r (advance 0 live)
    sentB (recordRule 0x0301) 0x0301 r (advance 0 live) = true ∧ 64 ≤ r.mb ∧ (∀ e ∈ entriesOf r, entryLock b r.mb e = 0) ∧
      (entriesOf r)[1]?.map (entryOk b 0x0301) = some false ∧ (∀ x ∈ (entriesOf r).take 1, entryOk b 0x0301 x = true) := by
  decide +kernel
/-- One good entry of each other record command. -/
theorem wit_RecordCommands_each : let a := advance 0 live
    ∀ x ∈ [(0x0401, [0x10 * 2 ^ 56 + 4 * 2 ^ 40 + 2 ^ 16, 2 ^ 31]), (0x0402, [0x18 * 2 ^ 56 + 4 * 2 ^ 16, 0, 0, 0, 0]),
      (0x0501, [0x20 * 2 ^ 56 + 2 ^ 40 + 2 * 2 ^ 16, 0, 15 * 2 ^ 53]), (0x0601, [0x28 * 2 ^ 56 + 2 ^ 16, 6 * 2 ^ 24]),
      (0x0602, [0x31 * 2 ^ 56 + 2 ^ 16, 68]), (0x0603, [0x38 * 2 ^ 56 + 2 ^ 16, 15]), (0x0604, [0x3C * 2 ^ 56 + 2 * 2 ^ 16, 0, 0]),
      (0x0701, [0x40 * 2 ^ 56 + 2 ^ 16, 0]), (0x0802, [0x4A * 2 ^ 56 + 2 ^ 16, 16]), (0x0A03, [0x58 * 2 ^ 56 + 2 ^ 16, 2 ^ 16]),
      (0x0E02, [0x50 * 2 ^ 56 + 5 * 2 ^ 40 + 2 ^ 16, 0])],
      allowed (recordRule x.1) (ask 64 x.1 0 0 x.2) a = true ∧ headerOk (ask 64 x.1 0 0 x.2) = true ∧
        (entriesOf (ask 64 x.1 0 0 x.2)).length = 1 ∧
        ∀ e ∈ entriesOf (ask 64 x.1 0 0 x.2), entryLock a 64 e = 0 ∧ entryOk a x.1 e = true ∧ entryPegged a e = false := by
  decide +kernel

/-! Staging, commits and locks. -/

def zeroDigest : BitVec 256 := sha3 []
/-- The image of the empty configuration (R413). -/
def emptyImage : Tbl Word64 :=
  [(0, BitVec.ofNat 64 cfgMagic), (3, 2 ^ 32)] ++ (List.range 4).map fun i => (4 + i, (zeroDigest >>> (64 * i)).setWidth 64)
def stager : Rule := ⟨true, true, true, false, false⟩

theorem wit_StagingAndPreparing : let a := advance 0 live
    ∀ x ∈ [(0, [0]), (1, [2 ^ 60 + (8388608 - 8), 7]), (2, [2 ^ 61]), (3, [3 * 2 ^ 60])],
      let r := ask 64 0x0201 0 0 x.2; let b := taken r a
      sentB stager 0x0201 r a = true ∧ setLock b r = some 0 ∧ (stageSet b 0).prepared = false ∧ (stageSet b 0).committed = false ∧
        8 ≤ rLen r ∧ pf r 0 58 32 = 0 ∧ pf r 0 63 60 = x.1 ∧ pf r 0 31 0 + (rLen r - 8) ≤ 8388608 := by decide +kernel
theorem wit_StagingAndPreparing_end : checkImage live emptyImage = some ([], false, 0, 0) := by decide +kernel
theorem wit_StagingAndPreparing_slot : cfgSlotValid live
    { magic := true, header := true, digest := zeroDigest, sealWord := some 0 } = true := by decide +kernel
/-- A set without a route to another device, and one with the route to device 5. -/
theorem wit_StagingAndPreparing_prepare : let alone : State := { live with conf.entries := [] }
    (let r := ask 64 0x0202 0 0 [0]; let b := taken r (advance 0 alone); let x := stageSet b 0
     sentB stager 0x0202 r (advance 0 alone) = true ∧ setLock b r = some 0 ∧ x.prepared = false ∧ x.committed = false ∧
       x.conflicted = false ∧ b.conf.prepared = none ∧ b.conf.coord = none ∧ signedRequired b = false ∧
       payloadBad r [2 ^ 64 - 2 ^ 32 + 1] = none ∧ pf r 0 0 0 = 0 ∧ pf r 0 63 32 = b.conf.epoch ∧
       candidateStatus false false b.conf.epoch x.entries b = (stOk, noRec) ∧ (membersOf b x.entries).filter (· != b.dev) = []) := by
  decide +kernel
/-- One spoke and the route to device 5 over it. -/
def pair : List CfgEntry := [recd 0x01 1 0 [(63, 62, 2), (61, 60, 3), (59, 52, 1), (48, 47, 1), (46, 45, 1)],
  recd 0x06 2 0 [(63, 57, 10), (48, 48, 1), (47, 45, 6), (44, 44, 1), (43, 40, 4)],
  recd 0x06 3 0 [(63, 57, 11), (48, 48, 1), (47, 45, 6), (44, 44, 1), (43, 40, 4)],
  recd 0x50 5 0 [(63, 63, 1), (60, 54, 10)]]
theorem wit_StagingAndPreparing_others : let b := taken (ask 64 0x0202 0 0 [0]) (advance 0 { live with conf.entries := pair })
    candidateStatus false false b.conf.epoch pair b = (stOk, noRec) ∧ (membersOf b pair).filter (· != b.dev) = [5] := by decide +kernel

/-- A device whose configuration of epoch 1 is prepared for a commit through mailbox 64, or armed. -/
def preparing : State := { live with
  conf.sets := [(0, setAt true false)], conf.coord := some (coord1 true false), conf.prepared := some (prepared1 none) }
def armed (T : Nat) : State := { preparing with conf.prepared := some (prepared1 (some T)), ft.count := ms }
def slotOf (seq : Nat) : CfgSlot := { magic := true, header := true, seq := seq, digest := zeroDigest, sealWord := some seq }

theorem wit_CommitArmsSwapsAndSeals : let r := ask 64 0x0203 0 0 [2 ^ 32, 0x77, 0]; let b := taken r (advance 0 preparing)
    sentB stager 0x0203 r (advance 0 preparing) = true ∧ setLock b r = some 0 ∧ (stageSet b 0).committed = false ∧
      payloadBad r [2 ^ 64 - 2 ^ 32 + 3, 2 ^ 64 - 1, 2 ^ 64 - 1] = none ∧ pf r 0 1 0 ≠ 3 ∧ timeLocked b = true ∧
      b.ft.count + 100 * us ≤ b.ft.count + ms ∧ b.ft.count + ms ≤ b.ft.count + 10 * oneSec ∧ b.conf.coord = some (coord1 true false) ∧
      b.conf.prepared = some (prepared1 none) ∧ 1 = pf r 0 63 32 ∧ 0x77 = ((rPay r).getD 1 0).toNat ∧ b.now < 160 * oneSec := by
  decide +kernel
/-- A T at the far end of what CFG_COMMIT takes. -/
theorem wit_CommitArms_latest : let r := ask 64 0x0203 0 0 [2 ^ 32 + 2, 0x77, 10 * oneSec]
    payloadBad r [2 ^ 64 - 2 ^ 32 + 3, 2 ^ 64 - 1, 2 ^ 64 - 1] = none ∧ ((rPay r).getD 2 0).toNat ≤ live.ft.count + 10 * oneSec := by
  decide +kernel
theorem wit_SwapDrainAndSeal : let a := advance 0 (armed ms)
    a.conf.prepared = some (prepared1 (some ms)) ∧ (prepared1 (some ms)).armed = some ms ∧ ms ≤ a.ft.count ∧
      (advance 0 (armed (ms + 1))).ft.count < ms + 1 := by decide +kernel
theorem wit_SwapDrainAndSeal_write (sealing : Bool) : let a := advance 0 { live with
      conf.write := some (1, 1), conf.sealing := sealing, conf.cfgA := slotOf 0, conf.doneTo := some 5 }
    a.conf.write = some (b2n true, 1) ∧ a.conf.sealing = sealing ∧ mcRuns a = true ∧ newestCfg a = some false ∧ a.conf.doneTo = some 5 := by
  cases sealing <;> decide +kernel

/-- A member that has gathered an image of device 5 for epoch 1. -/
def member : State := { live with conf.incoming := pair, conf.entries := pair, conf.incomingOf := (5, 1) }
theorem wit_MembersAndCoordinator : let a := advance 0 member
    mcRuns a = true ∧ a.conf.incomingOf = (5, 1) ∧ 0 < cfgLength a.conf.incoming ∧ a.conf.prepared = none ∧
      cfgCanon a.conf.incoming = true ∧ candidateStatus false false 0 a.conf.incoming a = (stOk, noRec) := by decide +kernel
theorem wit_Members_prepared : let p := { prepared1 none with coord := 5 }
    let a := advance 0 { live with conf.prepared := some p }
    a.conf.prepared = some p ∧ p.coord = 5 ∧ p.epoch = 1 ∧ p.armed = none ∧ a.ft.count < 1 ∧ a.conf.coord = none := by decide +kernel
theorem wit_Members_holdEnds : let p := { prepared1 none with coord := 5, heldUntil := 100 * oneSec }
    p.heldUntil ≤ (advance 0 { live with conf.prepared := some p }).now := by decide +kernel
theorem wit_Coordinator_votes : let c := { coord1 false false with members := [0, 5, 6] }
    let a := advance 0 { preparing with conf.coord := some c }
    a.conf.coord = some c ∧ mcRuns a = true ∧ c.decided = false ∧ 5 ∈ c.members ∧ tfind c.votes 5 = none ∧
      tfind (tput c.votes 5 0) 6 = none ∧ c.deadline ≤ a.now ∧ (∀ e ∈ c.members, tget 0 c.votes e = 0) := by decide +kernel
theorem wit_Coordinator_lastVote : let c := { coord1 false false with members := [0, 5], votes := [(0, 0)] }
    tfind c.votes 5 = none ∧ (∀ e ∈ c.members, tfind (tput c.votes 5 0) e = some 0) ∧
      (advance 0 { preparing with conf.coord := some c }).conf.prepared = some (prepared1 none) := by decide +kernel
theorem wit_Coordinator_commits : let c := { coord1 true true with members := [0, 5], armed := [0] }
    let a := advance 0 { live with conf.coord := some c }
    a.conf.coord = some c ∧ c.committing = true ∧ 5 ∉ c.armed ∧ a.ft.count < c.swapAt ∧ a.conf.swapped = [] := by decide +kernel
theorem wit_Coordinator_waitEnds : let c := coord1 true true
    let a := advance 0 { live with conf.swapped := [c], ft.count := ms + 3 * oneSec }
    a.conf.swapped = [c] ∧ c.commitMb = some 64 ∧ c.swapAt + 3 * oneSec ≤ a.ft.count := by decide +kernel

/-- Mailbox 3 waits for partition lock 4. -/
def waitingForLock : State := { live with
  mgmt.lock := [(4, { owner := none, waiters := [(3, 0, 100 * oneSec)] })]
  mgmt.mailbox := [(3, { state := 1, waiting := waitLock, current := some (ask 3 0x0210 0 0 [4 * 2 ^ 56]) })] }
theorem wit_LocksAreAsked : let a := advance 0 live
    (let r := ask 64 0x0210 0 0 [0]; let b := taken r a
     sentB ⟨true, true, true, false, true⟩ 0x0210 r a = true ∧ mayLock r.mb 0 = true ∧
       payloadBad r [2 ^ 64 - 2 ^ 56 + (2 ^ 32 - 1)] = none ∧ (findLock b 0).owner = some r.mb) ∧
    (let r := ask 65 0x0210 0 0 [64 * 2 ^ 56 + 10000000]; let b := taken r a
     sentB ⟨true, true, true, false, true⟩ 0x0210 r a = true ∧ mayLock r.mb 64 = true ∧ pf r 0 63 56 = 64 ∧ pf r 0 31 0 = 10000000 ∧
       payloadBad r [2 ^ 64 - 2 ^ 56 + (2 ^ 32 - 1)] = none ∧ (findLock b 64).owner ≠ some r.mb) ∧
    (let r := ask 64 0x0211 0 0 [0]
     sentB ⟨true, true, true, false, true⟩ 0x0211 r a = true ∧ payloadBad r [2 ^ 64 - 2 ^ 55] = none ∧ pf r 0 55 55 = 0) ∧
    (let r := ask 64 0x0211 0 0 [64 * 2 ^ 56 + 2 ^ 55]
     sentB ⟨true, true, true, false, true⟩ 0x0211 r a = true ∧ payloadBad r [2 ^ 64 - 2 ^ 55] = none ∧ pf r 0 55 55 = 1) ∧
    (let r := ask 64 0x0212 0 0 [64 * 2 ^ 56 + 15]
     sentB operators 0x0212 r a = true ∧ payloadBad r [2 ^ 64 - 2 ^ 56 + 15] = none) ∧
    (let r := ask 3 0x0213 0 0 [4 * 2 ^ 56]
     sentB everyone 0x0213 r a = true ∧ payloadBad r [2 ^ 64 - 2 ^ 56] = none ∧ pf r 0 63 56 = 1 + r.mb) := by decide +kernel
theorem wit_LocksAreGranted : let a := advance 0 waitingForLock; let w : Nat × Nat × Time := (3, 0, 100 * oneSec)
    a.mgmt.prioNext = [] ∧ acquires a 3 = some 4 ∧ (findLock a 4).owner = none ∧ bestWaiter a (findLock a 4).waiters = some w ∧
      (let b := advance 0 { waitingForLock with mgmt.lock := [(4, { owner := some 64, waiters := [w] })] }
       acquires b 3 = some 4 ∧ b.mgmt.prioNext = [] ∧ b.mgmt.lock = [(4, findLock b 4)] ∧ (findLock b 4).owner ≠ none ∧
         (findLock b 4).waiters = [w] ∧ w.2.2 ≤ b.now) := by decide +kernel

/-! Device commands, records, measurements, firmware, identity and debug. -/

def five : Rule := ⟨true, true, true, false, true⟩
def two : Rule := ⟨true, true, false, false, false⟩
/-- Entries 0 to 63 of table 1 of P1 at device d. -/
def pegRange (d : Nat) : List Nat := [d * 2 ^ 58 + 1 * 2 ^ 51 + 2 ^ 50 + 63 * 2 ^ 38]
theorem wit_PegCommands : let a := advance 0 live
    ∀ d ∈ [0, 5], let r := ask 64 0x0502 0 0 (pegRange d); let b := taken r a
      sentB ⟨true, true, false, false, true⟩ 0x0502 r a = true ∧ payloadBad r [2 ^ 64 - 2 ^ 38] = none ∧ pf r 0 49 44 ≤ pf r 0 43 38 ∧
        pf r 0 63 58 = d ∧ (∀ i ∈ List.range' (pf r 0 49 44) (pf r 0 43 38 + 1 - pf r 0 49 44), mayPeg b r.mb d 1 1 i = true ∧
          (d = b.dev → preparedChanges b 1 1 i = false) ∧ (r.mb = 64 ∨ pegOf b 1 1 i ≠ 2)) ∧ (d = 5 → routeEn b d = true) := by decide +kernel
theorem wit_PegCommands_read : let a := advance 0 live
    ∀ d ∈ [0, 5], let r := ask 64 0x0503 0 0 (pegRange d); sentB everyone 0x0503 r a = true ∧ payloadBad r [2 ^ 64 - 2 ^ 38] = none := by
  decide +kernel
theorem wit_PegCommands_outcome : let a := advance 0 { live with mgmt.pegWait := [(66, 100 * oneSec)] }
    (66, 100 * oneSec) ∈ a.mgmt.pegWait ∧ 100 * oneSec ≤ a.now := by decide +kernel
theorem wit_DeviceCommands : let a := advance 0 live
    (let r := ask 64 0x0A02 1 3 [2 ^ 50]
     sentB five 0x0A02 r a = true ∧ rScope r = 1 ∧ payloadBad r [2 ^ 64 - 2 ^ 50] = none ∧ pf r 0 50 50 = 1) ∧
    (∀ act ∈ [0, 1, 2, 3], let r := ask 64 0x0801 0 0 [63 * 2 ^ 58 + act * 2 ^ 55]; let b := taken r a
     sentB two 0x0801 r a = true ∧ pf r 0 57 55 = act ∧ mayPower b r.mb act (pf r 0 63 58) = true ∧ slotUp b = true ∧
       payloadBad r [2 ^ 64 - 2 ^ 55] = none) ∧
    (let r := ask 64 0x0A04 1 3 []
     sentB ⟨false, true, false, false, false⟩ 0x0A04 r a = true ∧ rScope r = 1 ∧ partEn (taken r a) (rScopeId r) = true) ∧
    (∀ limit ∈ [1000, 10000000], let r := ask 64 0x0702 0 0 [3 * 2 ^ 62 + limit]; let b := taken r a
     sentB operators 0x0702 r a = true ∧ holdsLock b r.mb 0 = true ∧ (∀ i < 4, (b.engine i).drainMb = none ∧ (b.engine i).inService = true) ∧
       payloadBad r [2 ^ 64 - 2 ^ 62 + (2 ^ 32 - 1)] = none ∧ pf r 0 31 0 = limit) := by decide +kernel

/-- A device log of one record. -/
def logged : State := { live with errs.log := [{ cause := 0x0104, seq := 7 }], errs.seq := 8 }
theorem wit_LogIsReadInOrder : let a := advance 0 logged
    ∀ ack ∈ [0, 1], let r := ask 64 0x0A01 0 0 [7 * 2 ^ 32 + 62 * 2 ^ 24 + ack]; let b := taken r a
      let got := (b.errs.log.filter fun e => e.seq == pf r 0 63 32 || serialNewer e.seq (pf r 0 63 32)).take (pf r 0 31 24)
      sentB everyone 0x0A01 r a = true ∧ payloadBad r [2 ^ 64 - 2 ^ 24 + 1] = none ∧ pf r 0 31 24 = 62 ∧ pf r 0 0 0 = ack ∧
        got.getLast? = some { cause := 0x0104, seq := 7 } := by decide +kernel
theorem wit_RecordsAndCoefficients : let a := advance 0 live
    (let r := ask 64 0x0205 0 0 [0x04 * 2 ^ 56 + 127 * 2 ^ 40 + 2 ^ 16]
     sentB everyone 0x0205 r a = true ∧ payloadBad r [2 ^ 64 - 2 ^ 7] = none ∧ (recSpec (pf r 0 63 56)).isSome = true ∧ pf r 0 23 16 = 1 ∧
       pf r 0 15 14 = 0 ∧ pf r 0 13 7 ≤ 64 ∧ pf r 0 55 40 = 127 ∧ pf r 0 39 24 = 0) ∧
    (let r := ask 64 0x0205 0 0 [0x20 * 2 ^ 56 + 8191 * 2 ^ 40 + 127 * 2 ^ 24 + 2 ^ 16]
     sentB everyone 0x0205 r a = true ∧ payloadBad r [2 ^ 64 - 2 ^ 7] = none ∧ (recSpec 0x20).map (·.maxA) = some 8192) ∧
    (∀ k ∈ [39, 2], let r := ask 64 0x0305 0 0 ([k * 2 ^ 58, 0] ++ List.replicate 16 0); let b := taken r a
     sentB operators 0x0305 r a = true ∧ holdsLock b r.mb 0 = true ∧ payloadBad r importMasks = none ∧ pf r 0 63 58 = k ∧
       (if k = 39 then (b.spoke k).state < 3 else 3 ≤ (b.spoke k).state)) := by decide +kernel
theorem wit_RecordsAndCoefficients_readmit : let a := advance 0 { live with spokes.spoke := [(2, { laneMask := 127 })] }
    let r := ask 64 0x0306 0 0 [23 * 2 ^ 55]; let b := taken r a
    sentB operators 0x0306 r a = true ∧ holdsLock b r.mb 0 = true ∧ payloadBad r [2 ^ 64 - 2 ^ 55] = none ∧ pf r 0 63 55 = 23 ∧
      stationMode b (23 / 16) = 2 ∧ bit (b.spoke (23 / 8)).laneMask (23 % 8) = false := by decide +kernel

theorem wit_MeasureCommands : let a := advance 0 live
    (∀ T ∈ [0, 10 * oneSec], let r := ask 3 0x0901 1 3 [T, 0]; let b := taken r a
     sentB ⟨true, true, true, false, false⟩ 0x0901 r a = true ∧ snapBusy b = false ∧ snapTooSoon b r.mb = false ∧
       payloadBad r [2 ^ 64 - 1, 1] = none ∧ pf r 1 0 0 = 0 ∧ pf r 0 63 0 = T ∧ T ≤ b.ft.count + 10 * oneSec) ∧
    (let r := ask 64 0x0903 0 0 [0x01000000 * 2 ^ 32 + 500]
     sentB ⟨true, true, true, false, false⟩ 0x0903 r a = true ∧ payloadBad r [2 ^ 64 - 2 ^ 32 + 65535] = none ∧ pf r 0 15 0 = 500 ∧
       ∀ i < 500, isCounter (pf r 0 63 32 + i) = true) ∧
    (∀ win ∈ [1024, 9999360], let r := ask 64 0x0902 0 0 [127 * 2 ^ 57 + 10 * 2 ^ 51 + win, 1]; let b := taken r a
     sentB ⟨true, true, true, false, false⟩ 0x0902 r a = true ∧ tfree b.count.bw 0 8 = some 0 ∧ b.count.bw = [] ∧
       payloadBad r [2 ^ 64 - 2 ^ 51 + (2 ^ 24 - 1), 2 ^ 64 - 1] = none ∧ pf r 0 56 55 ≠ 3 ∧ pf r 0 54 51 = 10 ∧ pf r 0 23 0 = win ∧
       win % 2 ^ 10 = 0 ∧ b.ft.count ≤ pf r 1 63 0 ∧ pf r 1 63 0 ≠ 0) := by decide +kernel

/-- A run at a depth on a target. -/
def aRun (depth target : Nat) (duration : Nat) : LoopRun :=
  { depth := depth, target := target, pattern := 0, started := 90 * oneSec, duration := duration, units := 3, errors := 1, state := 1, mb := some 64 }
theorem wit_LoopbackCommands : let a := advance 0 live
    (∀ x ∈ [(4, 1, 0, 0), (5, 3, 0, 1), (4, 1, 1, 0), (5, 3, 2, 0)],
     let r := ask 64 0x0C01 0 0 [x.1 * 2 ^ 61 + x.2.1 * 2 ^ 52 + x.2.2.1 * 2 ^ 46 + x.2.2.2]; let b := taken r a
     sentB two 0x0C01 r a = true ∧ pf r 0 63 61 = x.1 ∧ holdsLock b r.mb 0 = true ∧ payloadBad r [2 ^ 64 - 2 ^ 46 + (2 ^ 32 - 1)] = none ∧
       loopTargetOk b r = true ∧ pf r 0 47 46 = x.2.2.1 ∧ loopBusy b r = false ∧ pf r 0 31 0 = x.2.2.2 ∧
       findLoop b (x.1, x.2.1) = none) := by decide +kernel
theorem wit_LoopbackCommands_running : let s : State := { live with count.loops := [aRun 4 1 0] }
    findLoop (taken (ask 64 0x0C01 0 0 [4 * 2 ^ 61 + 2 ^ 52 + 2 ^ 46]) (advance 0 s)) (4, 1) = some (aRun 4 1 0) ∧ (aRun 4 1 0).state = 1 := by
  decide +kernel

theorem wit_FirmwareCommands : let a := advance 0 live
    (∀ off ∈ [0, 16777216 - 4096], let r := ask 64 0x0D01 0 0 (off :: List.replicate 512 0); let b := taken r a
     sentB operators 0x0D01 r a = true ∧ holdsLock b r.mb 0 = true ∧ b.fw.busy = none ∧
       payloadBad r [2 ^ 64 - 2 ^ 58 + (2 ^ 32 - 1)] = none ∧ pf r 0 63 60 = 0 ∧ pf r 0 31 0 % 4096 = 0 ∧
       pf r 0 31 0 + (rLen r - 8) ≤ 16777216) ∧
    (∀ x ∈ [(1, 0), (2, 0), (2, 1), (3, 0)], let r := ask 64 0x0D01 0 0 [x.1 * 2 ^ 60 + x.2 * 2 ^ 58]
     sentB operators 0x0D01 r a = true ∧ payloadBad r [2 ^ 64 - 2 ^ 58 + (2 ^ 32 - 1)] = none ∧ pf r 0 63 60 = x.1 ∧ pf r 0 59 58 = x.2) ∧
    (taken (ask 64 0x0D01 0 0 [2 * 2 ^ 60]) (advance 0 { live with fw.verified := true })).fw.verified = true ∧ commitUnderWay a = false := by
  decide +kernel
theorem wit_FirmwareEvents : let a := advance 0 { live with fw.busy := some 64, fw.phase := 1, fw.firstStart := some (90 * oneSec) }
    a.fw.busy = some 64 ∧ a.fw.phase = 1 ∧ mcRuns a = true ∧ a.chip.romRecovery = false ∧ a.fw.firstStart = some (90 * oneSec) ∧
      90 * oneSec + 10 * oneSec ≤ a.now ∧ verifyStatus a shippedFirmware = stOk := by decide +kernel
theorem wit_FirmwareEvents_rollback : verifyStatus { live with sec.svnFuses := 1 } shippedFirmware = stDenied := by decide +kernel

theorem wit_AttestSignsTheReport : let a := advance 0 live; let r := ask 0 0x0D02 0 0 [0, 0, 0, 2 ^ 63, 7]
    sentB everyone 0x0D02 r a = true ∧ payloadBad r [2 ^ 64 - 1, 2 ^ 64 - 1, 2 ^ 64 - 1, 2 ^ 64 - 1, 7] = none ∧
      ((rPay r).take 4).all (· == 0) = false := by decide +kernel
theorem wit_SpdmRequests : let a := advance 0 { live with sec.spdm := [(3, 3)] }
    coreRuns a = true ∧ spdmTransport a 3 = true ∧ spdmTransport a 64 = true ∧ a.mgmt.serving = true ∧ a.chip.romRecovery = false ∧
      3 ≤ spdmState a 3 ∧ 0 ≤ Config.certChain.length := ⟨by decide +kernel, by decide +kernel, by decide +kernel, by decide +kernel,
        by decide +kernel, by decide +kernel, Nat.zero_le _⟩

/-- A device under a debug token with every grant, and an entry of P1's table 1 that lets every request pass. -/
def debugging : State := { live with
  sec.token := some (1, 31, 0, 100 * oneSec + 1)
  conf.entries := cfgPut small (recd 0x20 1 64 [(127, 127, 1), (122, 117, 52), (108, 105, 15)]) }
theorem wit_DebugTokenCommands : let a := advance 0 debugging
    (∀ act ∈ [0, 2], let r := ask 66 0x0D03 0 0 [act * 2 ^ 60]
     sentB ⟨true, true, true, true, false⟩ 0x0D03 r a = true ∧ payloadBad r [2 ^ 64 - 2 ^ 60] = none ∧ pf r 0 63 60 = act) ∧
    (let r : Req := { ask 66 0x0D03 0 0 (2 ^ 60 :: List.replicate 319 0) with hdr0 := quad [(63, 48, 0x0D03), (19, 0, 2556)] }
     rOp r = 0x0D03 ∧ headerOk r = true ∧ payloadBad r [2 ^ 64 - 2 ^ 60] = none ∧ pf r 0 63 60 = 1 ∧ rLen r = 2556) := by decide +kernel
theorem wit_DebugAccesses : let a := advance 0 debugging
    bit (tokenGrants a) 3 = true ∧ anyStrict a = false ∧ bit (tokenGrants (advance 0 live)) 3 = false ∧
      bit (tokenGrants a) 2 = true ∧ debugStop a 1 1 (2 ^ 52 - 8) 8 true = none ∧ (a.port 1).up = true := by decide +kernel
theorem wit_DebugAccesses_expiry : let a := advance 1 debugging
    a.sec.token = some (1, 31, 0, 100 * oneSec + 1) ∧ 100 * oneSec + 1 ≤ a.now := by decide +kernel

theorem wit_EnduranceCommands : let a := advance 0 live
    (let r := ask 64 0x0B02 0 0 [0]; let b := taken r a
     sentB operators 0x0B02 r a = true ∧ holdsLock b r.mb 0 = true ∧ pf r 0 0 0 = 0 ∧ b.aging.running = false ∧ effStage b < 2 ∧
       payloadBad r [1] = none) ∧
    (let r := ask 64 0x0B02 0 0 [1, 2047 * 2 ^ 48]
     pf r 0 0 0 = 1 ∧ payloadBad r [1, 2 ^ 60 - 2 ^ 32] = none ∧ pf r 1 58 48 ≠ 0) ∧
    (∀ w ∈ [0, 150, 385], ∀ n ∈ [1, 1000], let r := ask 64 0x0B04 0 0 [w * 2 ^ 23 + n * 2 ^ 13]
     sentB operators 0x0B04 r a = true ∧ payloadBad r [2 ^ 32 - 2 ^ 12] = none ∧ pf r 0 22 13 = n ∧ pf r 0 31 23 = w) ∧
    (∀ n ∈ [1, 10000], let r := ask 64 0x0B05 0 0 [2 ^ 63 + n * 2 ^ 34]
     sentB operators 0x0B05 r a = true ∧ payloadBad r [2 ^ 63 + (2 ^ 48 - 2 ^ 34)] = none ∧ pf r 0 47 34 = n) ∧
    (∀ role ∈ [0, 1, 2], let r := ask 64 0x0E04 0 0 [role * 2 ^ 62 + 5 * 2 ^ 56, 255]; let b := taken r a
     sentB operators 0x0E04 r a = true ∧ payloadBad r [2 ^ 64 - 2 ^ 56, 2 ^ 40 - 1] = none ∧ pf r 0 63 62 = role ∧
       pf r 0 61 56 ≠ b.dev ∧ popcount (pf r 1 39 0) 40 ≤ 8) := by decide +kernel

/-! Mailboxes and the out-of-band endpoint. -/

def mbIn (mb : Nat) (m : Mailbox) : State := { live with mgmt.mailbox := [(mb, m)] }
theorem wit_DoorbellsMoveTheMailbox : ((advance 0 live).mb 66).state ≠ 1 ∧ live.mgmt.serving = true ∧
    ((advance 0 (mbIn 63 { state := 1 })).mb 63).state = 1 ∧ ((advance 0 (mbIn 66 { state := 2 })).mb 66).state = 2 ∧
    ((advance 0 live).mb 0).state = 0 := by decide +kernel
/-- Two submits at the same time: the lower mailbox goes first. -/
theorem wit_AcceptanceIsBySubmitTime : let a := advance 0 { live with
      mgmt.mailbox := [(3, { state := 1, submittedAt := some 5 }), (4, { state := 1, submittedAt := some 5 })] }
    a.mgmt.serving = true ∧ a.chip.romRecovery = false ∧ mcHeld a = false ∧ (5, 3) ∈ submits a ∧
      (∀ x ∈ submits a, 5 < x.1 ∨ (5 = x.1 ∧ 3 ≤ x.2)) ∧ rDmaIn { waitingReq a 3 with mb := 3 } = false := by decide +kernel
theorem wit_WindowWrites : 4031 < 4032 ∧ ((advance 0 live).mb 66).state ≠ 1 ∧
    (let m := (advance 0 (mbIn 3 { state := 1 })).mb 3; m.state = 1 ∧ m.submittedAt = none) ∧
    (let m := (advance 0 (mbIn 3 { state := 1, submittedAt := some 9 })).mb 3; m.state = 1 ∧ m.submittedAt = some 9) := by decide +kernel
theorem wit_OtherWaysIntoAMailbox : (ask 64 0x0101 0 0 []).mb < 67 ∧ live.mgmt.serving = true ∧ ((advance 0 live).mb 64).state ≠ 1 ∧
    ((advance 0 (mbIn 64 { state := 1 })).mb 64).state = 1 ∧ ((advance 0 live).mb 66).state ≠ 1 ∧
    ((advance 0 (mbIn 64 { state := 1, waiting := waitDma })).mb 64).waiting = waitDma ∧
    (let a := advance 0 { live with tandem.linkDownAt := some (100 * oneSec - ms) }
     a.tandem.linkDownAt = some (100 * oneSec - ms) ∧ 100 * oneSec - ms + ms ≤ a.now ∧ tandemLinkUp a = false) := by decide +kernel
theorem wit_OutOfBandEndpoint : let a := advance 0 { live with
      mgmt.oob := { dynAddr := some 9, lastIbi := 100 * oneSec - 100 * ms }, errs.alertSeq := [7] }
    a.mgmt.oob.dynAddr = some 9 ∧ alertsPending a = true ∧ alertsPending (advance 0 live) = false ∧
      a.mgmt.oob.lastIbi + 100 * ms ≤ a.now ∧ (advance 0 { live with mgmt.oob := { alertLow := true } }).mgmt.oob.dynAddr = none ∧
      (advance 0 { live with mgmt.oob := { alertLow := true } }).mgmt.oob.alertLow = true := by decide +kernel

/-! Registers, resets, memory errors, the slot die. -/

/-- Partition 3 with an error ring that holds records 254 and 255. -/
def ringed : State := { live with pcie.part := [(3, { errHead := 254, errTail := 0 })] }
theorem wit_ErrorRingRegisters : let q := (advance 0 ringed).part 3
    modDist 256 0 q.errHead ≤ modDist 256 q.errTail q.errHead ∧ modDist 256 254 q.errHead ≤ modDist 256 q.errTail q.errHead ∧
      modDist 256 q.errTail q.errHead < modDist 256 1 q.errHead := by decide +kernel
theorem wit_BarRegisters : let a := advance 0 live
    partHome a 3 = a.dev ∧ partEn a 3 = true ∧ (a.func (512 + 3)).state = 0 ∧
      ((advance 0 { live with mover.func := [(515, { state := 1 })] }).func (512 + 3)).state ≠ 0 ∧
      ¬ within 0x1000 0x3007 0xFFF ∧ ¬ within 0x10000 0x103FF 0x10400 ∧ ¬ within 0x1000 0x3007 0x3008 ∧ 28 % 4 = 0 ∧ 28 < 32 := by
  decide +kernel
theorem wit_ProvisioningAndTest : let owned : State := { live with sec.ownerSet := true }
    corePowered (advance 0 live) = true ∧ (advance 0 live).sec.ownerSet = false ∧ (1 : BitVec 256) ≠ 0 ∧ (advance 0 owned).sec.ownerSet = true ∧
      (advance 0 { live with sec.provToken := true }).sec.provToken = true ∧ 65535 ≤ 65535 := by decide +kernel
/-- The device after reset, once both references are found to run. -/
def clocked : State := { State.reset with chip.refALost := false, chip.refBLost := false }
theorem wit_BootStartsAnImage : let a := advance 0 clocked
    canBoot a = true ∧ chooseFw (bootRom a) = some false ∧ chooseFw (bootRom (advance 0 { clocked with fw := {} })) = none ∧
      canBoot (advance 0 { clocked with fw := {} }) = true ∧ canBoot (advance 0 State.reset) = false := by decide +kernel
theorem wit_BootStartsAnImage_restart : let a := advance 0 { live with mgmt.restartAt := some 5 }
    a.mgmt.restartAt = some 5 ∧ corePowered a = true ∧ inDeviceReset a = false ∧ chooseFw a = some false ∧
      chooseFw (advance 0 { live with mgmt.restartAt := some 5, fw := {} }) = none := by decide +kernel
theorem wit_McRestartEvents : mcRuns (advance 0 live) = true := by decide +kernel

theorem wit_DeviceResetKeepsAndClears : let a := advance 0 { live with errs.c4 := true, errs.c4At := 100 * oneSec - 10 * ms
                                                                       conf.entries := cfgPut small (recd 0x58 0 0 [(31, 31, 1), (30, 30, 1), (23, 16, 10)]) }
    resetBegins a = true ∧ a.errs.c4 = true ∧ rb (a.cfg 0x58 0 0) 31 = true ∧ a.errs.c4At + 10 * ms ≤ a.now := by decide +kernel
theorem wit_DeviceReset_release : let a := advance 0 { live with chip.resetUntil := some (100 * oneSec + 1), chip.resetPin := true }
    a.chip.resetUntil = some (100 * oneSec + 1) ∧ a.now < 100 * oneSec + 1 ∧ inDeviceReset a = true ∧ 100 * oneSec + 1 ≤ (advance 1 a).now := by
  decide +kernel
theorem wit_PowerEventsClearTheCore : (advance 0 live).chip.railsOut = false ∧ (advance 0 live).chip.tripped = false ∧
    (advance 0 { live with chip.railsOut := true }).chip.railsOut = true := by decide +kernel
/-- Partition 9 has its home on device 5, and P3 here is a downstream port of it. -/
def visiting : State := { live with conf.entries := cfgPut small (recd 0x10 9 0 [(31, 31, 1), (29, 24, 5), (23, 19, 2)]) }
theorem wit_PartitionAndPortResets : let a := advance 0 live
    15 ∉ a.pcie.perstin ∧ (∀ p ∈ homeParts a, partPerst a p = 2 → (a.part p).perst = false) ∧
      partEn (advance 0 visiting) 9 = true ∧ partHome (advance 0 visiting) 9 ≠ (advance 0 visiting).dev ∧
      (let b := advance 0 { live with pcie.part := [(3, { readyAt := some 5 })] }
       (b.part 3).inReset = false ∧ (b.part 3).readyAt.isSome = true) ∧
      portEn a 0 = true ∧ portUp a 0 = true ∧ (a.port 0).up = true ∧ portEn a 1 = true ∧ portUp a 1 = false := by decide +kernel
theorem wit_PartitionAndPortResets_secondary : let a := advance 0 { live with
      conf.entries := cfgPut small (recd 0x04 3 0 [(63, 63, 1), (62, 62, 1), (61, 56, 3), (50, 48, 7), (47, 45, 5), (42, 42, 1), (36, 35, 3)]) }
    portEn a 3 = true ∧ portUp a 3 = true ∧ portVsw a 3 ≠ 0 := by decide +kernel

theorem wit_ReferenceEvents : true ≠ live.chip.refSel ∧ false = live.chip.refSel ∧ live.chip.holdover = false ∧
    (let a := advance 0 { live with chip.holdover := true, chip.refALost := true, chip.holdoverAt := 100 * oneSec - ms }
     a.chip.holdover = true ∧ refLost a (!a.chip.refSel) = false) ∧
    (let a := advance 0 { live with chip.holdover := true, chip.refBLost := true }
     a.chip.holdover = true ∧ refLost a (!a.chip.refSel) = true ∧ refLost a a.chip.refSel = false) ∧
    (let a := advance 0 { live with chip.holdover := true, chip.refALost := true, chip.refBLost := true, chip.holdoverAt := 100 * oneSec - ms }
     a.chip.holdover = true ∧ a.chip.refALost = true ∧ a.chip.refBLost = true ∧ a.chip.holdoverAt + ms ≤ a.now) := by decide +kernel
theorem wit_FatalEndsSwitching : inDeviceReset live = false ∧ corePowered live = true ∧ live.errs.c4 = false := by decide +kernel

/-- A TLP of 68 frame bytes from P0 to P1, as a frame at a place. -/
def aFrame (fid : Nat) (place : Place) : Frame :=
  { fid := fid, tlp := { kind := .memWrite, addr := 4096, len := 64, payload := 64, frameBytes := 68 }, issued := 4096, issuedRid := 256
    issuedTag := 0, rcv := false, svc := 1, sub := 3, colour := 0, mark := false, srcDev := 0, srcPort := 0, dstDev := 0, dstPort := 1
    outPort := 1, func := none, att := 0, origin := some 0, user := false, vf := none, window := none, stamp := 0, hops := 0, seq := 0
    work := none, tagEntry := none, tracker := none, epochStaged := 0, epochGuard := 0, place := place, region := .none, rxSpoke := none }
def holding (fs : List Frame) : State := { live with hub.frames := fs, hub.nextFid := 9 }

theorem wit_MemoryErrors : let a := advance 0 (holding [aFrame 1 .staged])
    (8, (2 ^ 20) / 512) ∉ a.errs.badRows ∧ 7 * 2 ^ 24 ∉ a.count.invalid ∧ a.count.copying = false ∧ a.mgmt.serving = true ∧
      findFrame a 1 = some (aFrame 1 .staged) ∧ (advance 0 { live with hub.stalled := true }).hub.stalled = true := by decide +kernel

/-- A slot die of one channel. -/
def slotted (ch : Nat) (c : Chan) : State := { live with slot.chan := [(ch, c)] }
theorem wit_SlotTicksRun : (1 : Nat) = 1 ∧ us ≤ (advance 0 live).now ∧ (advance 0 (slotted 63 { state := 2 })).slot.inReset = false ∧
    gateOn ((advance 0 (slotted 63 { state := 2 })).chan 63) = true ∧ gateOn ((advance 0 live).chan 63) = false ∧
    (advance 0 { live with slot.inReset := true }).slot.inReset = true := by decide +kernel
theorem wit_SlotTickRules_fault : let s := slotted 7 { state := 4, timer := some 4999 }; let c := s.chan 7; let r := limitsOf s 7
    gateOn c = true ∧ c.fast = false ∧ (if c.state = 2 then lInrush r else lLim r) * 100 ≤ 10000 ∧ lFault r * 100 ≤ c.timer.getD 0 + 1 ∧
      gateOn ((slotted 7 { state := 3, fast := true }).chan 7) = true ∧ ((slotted 7 { state := 3, fast := true }).chan 7).fast = true := by
  decide +kernel
theorem wit_SlotTickRules_ramp : let s := slotted 7 { state := 2 }; let c := s.chan 7; let r := limitsOf s 7
    c.state = 2 ∧ c.fast = false ∧ 3999 < lInrush r * 100 ∧ c.timer = none ∧
      (11699 + 300 < 12000 ∧ c.energy + (12000 - 11699) * 3999 ≤ lEnergy r * lSense r * 100000000) ∧
      (12000 ≤ 11700 + 300 ∧ 10799 < lPg r * 100 ∧ 11000 ≤ 10799 + 300 ∧ 0 < rf (dieRec s) 47 41) := by decide +kernel
theorem wit_SlotTickRules_qualify : let s := slotted 7 { state := 3, q := 998 }; let c := s.chan 7; let r := limitsOf s 7
    c.state = 3 ∧ c.fast = false ∧ 9999 < lLim r * 100 ∧ c.timer = none ∧ lPg r * 100 ≤ 10800 ∧ c.q + 1 < rf (dieRec s) 47 41 * 100 ∧
      10799 < lPg r * 100 := by decide +kernel
theorem wit_SlotFaultsWaitOrLatch : let low (c : Chan) : Nat := if c.vmax < 1000 then c.lowFails + 1 else 0
    let r := limitsOf live 7
    (∀ c ∈ [({ state := 2, lowFails := 1, vmax := 999 } : Chan)], gateOn c = true ∧ 2 ≤ low c) ∧
    (∀ c ∈ [({ state := 4, vmax := 1000, retries := 3 } : Chan)], gateOn c = true ∧ low c < 2 ∧ lRetry r ≠ 15 ∧ lRetry r ≤ c.retries) ∧
    (∀ c ∈ [({ state := 3, vmax := 0, retries := 2 } : Chan)], gateOn c = true ∧ low c < 2 ∧ c.retries < lRetry r) := by decide +kernel
theorem wit_SlotChannelEvents : let c := (advance 0 (slotted 63 { state := 4, onAt := 100 * oneSec - oneSec })).chan 63
    let a := advance 0 live
    c.state = 4 ∧ c.timer = none ∧ c.onAt + 100 * ms ≤ a.now ∧ c.onAt + oneSec ≤ a.now ∧ perstForwarded a 63 = false ∧ gateOn c = true ∧
      c.onAt + rf (slotRec a 0x4A 63) 15 8 * 100 * ms ≤ a.now ∧
      (let d : Chan := { state := 5, waitUntil := 100 * oneSec }
       d.state = 5 ∧ d.waitUntil ≤ a.now) ∧
      (let d : Chan := { checkDue := true, offAt := 100 * oneSec - 10 * ms, checked := true }
       d.checkDue = true ∧ d.offAt + 10 * ms ≤ a.now ∧ gateOn d = false ∧ d.checked = true ∧ d.state ≠ 7) ∧
      (a.chanAux 63).startCheck = true ∧ a.slot.inReset = false ∧ a.slot.startedAt + 10 * ms ≤ a.now ∧ 500 < 501 ∧ 500 ≤ 500 := by decide +kernel
theorem wit_SlotRequestsAndSamples : let a := advance 0 { live with slot.aux := [(63, { requests := [(0, some 64)], startCheck := false })] }
    slotUp a = true ∧ (a.chanAux 63).requests = (0, some 64) :: [] ∧
      slotPort (slotAction 0 63 (modChanAux 63 (fun x => { x with requests := [] }) a)).2 63 = none ∧
      ((slotted 63 { present := true }).chan 63).present = true ∧ (a.chan 63).present = false ∧ (a.chan 63).absentSince = none ∧
      slotUp (advance 0 { live with slot.inReset := true }) = false ∧ a.slot.inReset = false ∧ 4095 ≤ 4095 := by decide +kernel
/-- Channel 7 heads the inrush queue. -/
def queued7 : State := { live with slot.chan := [(7, { state := 1, present := true })], slot.aux := [(7, { startCheck := false })] }
theorem wit_InrushFitsTheBudget : inrushHead queued7 (inrushQueue queued7) = some 7 ∧
    10 * (chargesHeld queued7 + inrushCharge (slotRec queued7 0x48 7)) ≤ rf (dieRec queued7) 63 48 * senseScale ∧
    (let s := { queued7 with slot.recs := [(64, 19 * 2 ^ 48)] }
     inrushHead s (inrushQueue s) = some 7 ∧
       rf (dieRec s) 63 48 * senseScale < 10 * (chargesHeld s + inrushCharge (slotRec s 0x48 7))) := by decide +kernel
theorem wit_FeedsAndSlotDieResets : let a := advance 0 { live with slot.feedA := { lost := false, vNow := 3000, lastRev := some (99 * oneSec + 1) } }
    (a.feed false).lost = false ∧ (a.feed true).lost = true ∧ feedReady (a.feed false) = true ∧ feedReady (a.feed true) = false ∧ (a.feed false).lastRev = some (99 * oneSec + 1) ∧ a.now < 99 * oneSec + 1 + oneSec ∧
      (let b := advance 0 { live with slot.inReset := true }; b.slot.inReset = true ∧ b.slot.vpwrLost = false) ∧
      (advance 0 { live with slot.vpwrLost := true }).slot.vpwrLost = true ∧
      (let b := advance 0 { live with slot.recordsLoaded := false }
       coreRuns b = true ∧ b.slot.inReset = false ∧ b.slot.recordsLoaded = false) := by decide +kernel

/-! Links, interrupts, configuration space. -/

/-- `live` with P1 as given. -/
def p1 (q : Port) : State := { live with pcie.port := [(0, { up := true, width := 16, rate := 5, sec := 1, subBus := 3 }), (1, q)] }
theorem wit_LinkEvents : let a := advance 0 (p1 {})
    pciePort a 1 = true ∧ (a.port 1).up = false ∧ linkHeld a 1 = false ∧ (a.part (portPart a 1)).inReset = false ∧ portHp a 1 = false ∧
      portUp a 1 = false ∧ pciePort a 0 = true ∧ portUp a 0 = true := by decide +kernel
theorem wit_LinkEvents_down (dpc : Bool) : let a := advance 0 (p1 { up := true, dpcEnable := dpc })
    let b := record [portPart a 1] { devRec a 0x0103 2 0 0 with srcPort := 1 } a
    (a.port 1).up = true ∧ (b.port 1).dpcEnable = dpc ∧ (a.port 1).recovery = false := by cases dpc <;> decide +kernel
theorem wit_LinkEvents_ends : (((advance 0 (p1 { up := true, recovery := true })).port 1).recovery = true) ∧
    (let q := (advance 0 (p1 { dpcTriggered := true })).port 1; q.dpcTriggered = true ∧ q.dpcInt = false) := by decide +kernel
theorem wit_InterruptLevelFollowsCauses : let a := advance 0 { live with pcie.part := [(3, { msixEnable := true, intStatus := 1 })] }
    (a.part 3).msixEnable = true ∧ (∀ i < 32, ((0xFFFFFFFF : BitVec 32) &&& ~~~ (a.part 3).intMask &&& (a.part 3).intStatus).getLsbD i = decide (i = 0)) ∧
      (a.part 63).msixEnable = false ∧ portEn a 1 = true ∧ portUp a 1 = false ∧ upstreamPort a (portPart a 1) (portVsw a 1) = some (a.dev, 0) := by
  decide +kernel
theorem wit_InterruptLevel_next : (∃ t, exec (.intStatusWrite 0 63 1) live = .next t) ∧ ∃ t, exec (.interruptDisableWrite 0 0 true) live = .next t :=
  ⟨⟨_, rfl⟩, _, rfl⟩

theorem wit_ConfigurationSpaceAndFunctions : let a := advance 0 live
    pciePort a 0 = true ∧ a.errs.c4 = false ∧ portUp a 0 = true ∧ (a.port 0).sec = 1 ∧ portVsw a 0 = 0 ∧ portPart a 0 = 3 ∧
      portUp a 1 = false ∧ pciePort a 1 = true ∧ partHome a 3 = a.dev ∧ notReady a 3 = false ∧
      notReady (advance 0 { live with pcie.part := [(3, { inReset := true })] }) 3 = true ∧
      ((advance 0 { live with pcie.port := [(0, { up := true })] }).port 0).sec = 0 ∧
      notReady (advance 0 { live with pcie.port := [(0, { up := true })] }) 3 = false := by decide +kernel
theorem wit_ConfigurationSpace_bridge : let q : Port := { sec := 0 }
    rangesOf (bridgeWrite (.dpc true false) q) = rangesOf q ∧ rangesOf (bridgeWrite (.busNumbers 1 3) q) ≠ rangesOf q := by decide +kernel
theorem wit_ConfigurationSpace_events : let a := advance 0 live
    (pciePort a 2 = true ∧ portUp a 2 = false ∧ portHp a 2 = true) ∧
    (let b := advance 0 (p1 {})
     portEn b 0 = true ∧ portUp b 0 = true ∧ ((vswDown b (portPart b 0) (portVsw b 0)).filter fun q => (b.port q).up) = [] ∧
       ∀ i < 31, rb (b.cfg 0x11 (portPart b 0) i) 31 = false) ∧
    (let b := advance 0 { live with pcie.part := [(3, { pmeWait := [(0, 1)], nfHeld := true, nfLast := some 5 })] }
     portEn b 1 = true ∧ portUp b 1 = false ∧ upstreamPort b (portPart b 1) (portVsw b 1) = some (b.dev, 0) ∧
       (b.part (portPart b 0)).pmeWait = [(portVsw b 0, 1)] ∧ (b.part 3).nfHeld = true ∧ (b.part 3).nfLast = some 5 ∧
       5 + nfGap b ≤ b.now) := by decide +kernel

/-! Frames, shapers, the bridge. -/

theorem wit_SwapDrainAndSeal_drain : ∀ c ∈ [0, 5], let d : Drain := ⟨1, true, true, c, [1]⟩; let a := advance 0 { holding [{ aFrame 2 .bank with epochStaged := 7 }] with conf.drain := [d] }
    a.conf.drain = [d] ∧ (∀ f ∈ a.hub.frames, inHub f = true → f.fid ∉ d.frames) ∧
      (∃ f ∈ (holding [aFrame 1 .bank]).hub.frames, inHub f = true ∧ f.fid ∈ d.frames) ∧ (c = a.dev ∨ c = 5) ∧ 5 ≠ a.dev := by decide +kernel
theorem wit_FramesAreAdmitted : let a := advance 0 { holding [aFrame 1 .staged] with ft.count := ms }
    portEn a 0 = true ∧ portSpoke a 0 = none ∧ (aFrame 1 .staged).tlp.poisoned = false ∧ (aFrame 1 .staged).tlp.kind = .memWrite ∧
      a.errs.c4 = false ∧ findFrame a 1 = some (aFrame 1 .staged) ∧ ms ≤ age a (aFrame 1 .staged) ∧
      (∀ g ∈ a.hub.frames, g.att = (aFrame 1 .staged).att → portStation a g.outPort = portStation a (aFrame 1 .staged).outPort →
        g.place ≠ .bank ∧ (g.place = .staged → g.fid = 1)) ∧
      (let b := advance 0 { live with errs.c4 := true }; b.errs.c4 = true ∧ portUp b 0 = true ∧ isNp .memRead = true) := by decide +kernel
theorem wit_FramesAreAdmitted_stage : let f := { aFrame 1 .waiting with stamp := 100 * oneSec }; let a := advance 0 (holding [f])
    findFrame a 1 = some f ∧ f.epochStaged = a.conf.epoch ∧ fencedNow a f = false ∧ f.dstDev = a.dev ∧ holdOf a f = .ready := by decide +kernel
theorem wit_FramesAreAdmitted_assembled : let f := aFrame 1 .bank
    let g := { aFrame 1 .bank with dstDev := 5, dstPort := 4, outPort := 10 }
    let h := { aFrame 1 .bank with dstPort := 9, outPort := 9 }
    (let a := advance 0 (holding [g, { g with fid := 2, place := .queued }])
     findFrame a 1 = some g ∧ leavesHere a g = false ∧ queueFrames a g.outPort (qOf g) ≠ []) ∧
    (let a := advance 0 (holding [h]); findFrame a 1 = some h ∧ leavesHere a h = true ∧ (portClosed a h.dstPort).isSome = true) ∧
    f.test = false := by decide +kernel
/-- Records of the queue of P1 for subscriber 3, service 1, and of the subscriber: a minimum, a reserve, a shared region, strict. -/
def banked (min reserve : Nat) (extra : List CfgEntry) : State :=
  { live with conf.entries := (recd 0x28 1 (qOf (aFrame 1 .staged)) [(27, 24, 3), (13, 0, min)] ::
      recd 0x29 (portStation live 1) 3 [(15, 0, reserve)] :: extra).foldl cfgPut small }
theorem wit_FramesAreAdmitted_regions : let f := aFrame 1 .staged
    let q := qOf f
    let st := portStation live f.outPort
    let n := fcells f
    redHit live 1 q f.colour (updatedAvg live 1 q) = false ∧
    (0 + n ≤ rf ((banked 8 0 []).cfg 0x28 1 q) 13 0) ∧
    (rf ((banked 0 8 []).cfg 0x28 1 q) 13 0 < 0 + n ∧ 0 + n ≤ rf ((banked 0 8 []).cfg 0x29 st 3) 15 0) ∧
    (let s := banked 0 0 []
     rf (s.cfg 0x28 1 q) 13 0 < 0 + n ∧ rf (s.cfg 0x29 st 3) 15 0 < 0 + n ∧ subStrict s 3 = false ∧ regionUsed s st .shared + n ≤ sharedSize s st ∧
       (0 + n) * 64 ≤ 2 ^ rf (s.cfg 0x28 1 q) 27 24 * (sharedSize s st - regionUsed s st .shared)) ∧
    subStrict strict 3 = true ∧ f.rcv = false := by decide +kernel

/-- A frame of 68 bytes queued for P1, and its records of service: a guarantee of 100 Mb/s or none. -/
def served (g : Nat) : State := { holding [{ aFrame 1 .queued with stamp := 0 }] with
  conf.entries := cfgPut small (recd 0x30 1 (qOf (aFrame 1 .queued)) [(107, 88, g), (87, 80, 1), (63, 48, 100), (47, 32, 100)]) }
theorem wit_SelectionAndDeparture (g : Nat) (h : g = 0 ∨ g = 100) : let a := advance 0 (served g); let f := aFrame 1 .queued
    let b : State := { a with sched.pointers := tset 0 a.sched.pointers 0 2 }
    a.errs.c4 = false ∧ stationPorts a 0 = [0, 1, 2] ∧ [0, 1, 2].find? (qualifies a []) = some 1 ∧
      [0, 1, 2].find? (qualifies a [(1, 0)]) = none ∧ eligibleQueues b [] 1 = [qOf f] ∧ candidate b [] 1 (qOf f) = some f ∧
      age b f < ms ∧ f.epochGuard = b.conf.epoch ∧ f.srcDev = b.dev ∧
      (if g = 0 then guaranteePass b 1 [qOf f] = none ∧ (excessPass b [] 1 [qOf f]).map (·.1) = some (qOf f)
        else guaranteePass b 1 [qOf f] = some (qOf f)) := by rcases h with rfl | rfl <;> decide +kernel
theorem wit_SelectionAndDeparture_departs : let w : WorkTag := ⟨0, 515, 0, 0, 0, 0, 0, 0⟩
    let fs := [aFrame 1 .sending, { aFrame 2 .sending with work := some w, sub := 64 }, { aFrame 3 .sending with outPort := 10 }]
    let a := advance 0 (holding fs)
    (∀ f ∈ fs, findFrame a f.fid = some f ∧ f.place = .sending ∧ f.test = false) ∧ portSpoke a 1 = none ∧ portSpoke a 10 = some 2 := by
  decide +kernel
theorem wit_SelectionAndDeparture_batch : let x : Batch := ⟨100 * oneSec - 2 * us, [], 0⟩
    let a := advance 0 { live with hub.batches := [(7 * 128 + 127, x)] }
    a.hub.batches = [(7 * 128 + 127, x)] ∧ (7 * 128 + 127) % 128 = 127 ∧ (7 * 128 + 127) / 128 % 8 = 7 ∧ x.first + 2 * us ≤ a.now := by
  decide +kernel

/-- A guarantee of 1 Mb/s at the queue of P1, with a burst of 6,400 bytes and the given credit. -/
def credited (c : Int) : State := { served 1 with
  sched.shapers := [(shKey 1 (576 + qOf (aFrame 1 .queued)), { credit := c, last := 100 * oneSec })] }
theorem wit_ShapersWheelsAndEchoes : let k := shKey 1 (576 + qOf (aFrame 1 .queued))
    let s := credited (68 * creditUnit)
    let z := credited 0
    ((s.sh k).last ≤ s.now ∧ shRate s k ≠ 0 ∧ ((68 * creditUnit : Nat) : Int) ≤ creditNow s k) ∧
    (shRate z k ≠ 0 ∧ creditNow z k < (68 * creditUnit : Nat) ∧
      fineSlot z.now < eligibleSlot z k (creditNow z k - (68 * creditUnit : Nat))) := by decide +kernel
theorem wit_Shapers_wheels : let n := fineSlot live.now; let w : WheelEntry := ⟨(n / 4096 + 1) % 4096, 0, n⟩
    (let a := advance 0 { live with sched.fine := [(41, [w])] }; tget [] a.sched.fine 41 = [w] ∧ w.due ≤ fineSlot a.now) ∧
    (let v := { w with due := n + 1 }; let a := advance 0 { live with sched.fine := [(41, [v])] }
     tget [] a.sched.fine 41 = [v] ∧ fineSlot a.now < v.due) ∧
    (let a := advance 0 { live with sched.coarse := [(41, [w])] }
     tget [] a.sched.coarse 41 = [w] ∧ w.slot = (fineSlot a.now / 4096 + 1) % 4096) := by decide +kernel
/-- An ingress shaper of mover attachment 20, echo enabled, at 1,000 of its 100,000 Mb/s. -/
def echoing (d : Option Time) : State := { live with
  conf.entries := cfgPut small (recd 0x34 20 71 [(127, 108, 100000), (107, 88, 500), (87, 72, 10), (71, 68, 3), (67, 64, 3), (60, 60, 1)])
  sched.cur := [(20 * 72 + 71, ⟨1000, d, 90 * oneSec⟩)] }
theorem wit_Shapers_echoes : ingEcho (advance 0 { live with conf.entries := cfgPut small (recd 0x34 20 71 []) }) 20 71 = false ∧
    (∀ d ∈ [none, some (100 * oneSec - 8 * us), some (100 * oneSec - 8 * us + 1)], let a := advance 0 (echoing d)
      ingEcho a 20 71 = true ∧ ingressCeiling a 20 71 ≠ 0 ∧ tfind a.sched.cur (20 * 72 + 71) = some ⟨1000, d, 90 * oneSec⟩ ∧
        90 * oneSec + ingPeriod a 20 71 ≤ a.now) ∧
    (100 * oneSec - 8 * us + ingHold (echoing none) 20 71 ≤ live.now ∧ live.now < 100 * oneSec - 8 * us + 1 + ingHold (echoing none) 20 71) := by
  decide +kernel

/-- A tag table entry of a read by P0, or by a mover function, to device 5. -/
def anEntry (f : Option Nat) (isLive : Bool) : TagEntry :=
  { origRid := 256, origTag := 7, origPort := 0, srcPart := 3, func := f, asPart := 3, asRid := 256, wireTag := 9, remaining := 64
    issued := 99 * oneSec, issuedFt := 0, timeout := oneSec, dstDev := 5, dstPort := 4, window := none, live := isLive
    freeAt := 100 * oneSec, address := 4096 }
theorem wit_BridgeTimersAndWriteFailures : (∀ i ∈ [0, 65535],
    (let a := advance 0 { live with bridge.tags := [(i, anEntry none true)] }
     tfind a.bridge.tags i = some (anEntry none true) ∧ 99 * oneSec + oneSec ≤ a.now) ∧
    (let a := advance 0 { live with bridge.tags := [(i, anEntry none false)] }
     tfind a.bridge.tags i = some (anEntry none false) ∧ 100 * oneSec ≤ a.now) ∧
    (let a := advance 0 { live with bridge.tags := [(i, anEntry (some 515) true)] }
     (a.bridge.tags.find? fun x => x.2.live && (x.2.asPart == 3 && x.2.asRid == 256 && x.2.wireTag == 9)) = some (i, anEntry (some 515) true)))
    ∧ (anEntry (some 515) true).remaining ≤ 64 := by decide +kernel
def aTracker (isLive : Bool) : Tracker :=
  { addr := 4096, srcPart := 3, rid := 256, srcPort := 0, dstDev := 5, dstPort := 4, svc := 1, seq := 9, issued := 100 * oneSec - 8 * ms
    live := isLive, freeAt := 100 * oneSec, silent := false }
theorem wit_Bridge_trackers : ∀ i ∈ [0, 32767],
    (let a := advance 0 { live with bridge.trackers := [(i, aTracker true)] }
     tfind a.bridge.trackers i = some (aTracker true) ∧ (aTracker true).issued + 8 * ms ≤ a.now ∧
       ∀ nak ∈ [true, false], (a.bridge.trackers.find? fun x => x.2.live && answers
         { dstDev := 5, dstPort := 4, srcPort := 0, svc := 1, seq := 9, nak := nak, cause := 1, farTime := 0 } x.2) = some (i, aTracker true)) ∧
    (let a := advance 0 { live with bridge.trackers := [(i, aTracker false)] }
     tfind a.bridge.trackers i = some (aTracker false) ∧ (aTracker false).freeAt ≤ a.now) := by decide +kernel
theorem wit_Bridge_episodes : let r : ErrRec := { dstDev := 63, dstPort := 127 }
    let e : Episode := ⟨0, 63, 63, 127, 1, 99 * oneSec, r, true⟩
    findEpisode live 0 63 63 127 = none ∧ continues live 63 = false ∧ fenced live 63 63 127 = false ∧
      (record [63] { r with cause := 0x0401, cls := 1, fl := 2, count := 1 } (count1 (cPart 63 3) live)).bridge.episodes.length < 1024 ∧
      (let s := { live with bridge.episodes := [e] }
       findEpisode s 0 63 63 127 = some e ∧ closable (advance 0 s) e = true) := by decide +kernel
theorem wit_Bridge_messages : let b : AckBatch := ⟨100 * oneSec - us, []⟩
    let a := advance 0 { live with bridge.acks := [(63, b)] }
    tfind a.bridge.acks 63 = some b ∧ b.first + us ≤ a.now ∧ partHome a 63 = a.dev := by decide +kernel

/-- A sequence of P0 toward P4 of device 5. -/
def aSeq (locked : Bool) : LockSeq :=
  { dev := 0, port := 0, stamp := 7, part := 3, targetDev := 5, targetPort := 4, heldIngress := true, heldTarget := locked, locked := locked
    tlp := { kind := .memReadLocked } }
theorem wit_PortSemaphores : (live.sem 127).owner = none ∧
    (let a := advance 0 { live with bridge.sems := [(127, { owner := some (7, 5, 3), waiters := [(8, 6, 0)] })] }
     (a.sem 127).owner = some (7, 5, 3) ∧ older (9, 63, 0) (7, 5, 3) = false ∧ older (6, 63, 0) (7, 5, 3) = true ∧ 5 ≠ a.dev ∧
       (a.sem 127).waiters.filter (fun w => !(w.2.1 == 5 && w.2.2 == 3)) = (8, 6, 0) :: []) ∧
    (let a := advance 0 { live with bridge.seqs := [aSeq false] }
     a.bridge.seqs = [aSeq false] ∧ (0 : Nat) = a.dev ∧ (aSeq false).targetDev ≠ a.dev ∧ (aSeq false).heldIngress = true) ∧
    (let a := advance 0 { live with bridge.seqs := [aSeq true] }
     findSeq a 0 = some (aSeq true) ∧ (aSeq true).locked = true) ∧
    (let a := advance 0 { live with bridge.sems := [(127, { waiters := [(8, 6, 0)] })] }
     (a.sem 127).owner = none ∧ (a.sem 127).waiters = (8, 6, 0) :: []) := by decide +kernel
/-! Spokes. -/

/-- The first cell of a frame at a service, of 256 bytes. -/
def aCell (svc lseq : Nat) : Cell :=
  { hdr := { type := 1, pos := 1, svc := svc, rcv := false, colour := 0, mark := false, dstDev := 5, dstPort := 4, srcDev := 0, srcPort := 1
             subscriber := 3, hops := 0, streamSeq := 0, len := 256 }
    body := .tlp { kind := .memWrite, len := 512, payload := 512, frameBytes := 528 } none
    lseq := lseq, ackSeq := 0, ackV := false, ageStamp := 0 }
def oneCell (svc : Nat) : Cell := { aCell svc 0 with hdr := { (aCell svc 0).hdr with pos := 0 } }
/-- `live` with spoke 2 as given. -/
def spoke2 (x : Spoke) : State := { live with spokes.spoke := [(2, x)] }
/-- Credit of 16 slots in the posted pool of every service. -/
def lims : Tbl Nat := (List.range 8).map fun v => (4 * v, 16)
/-- A cell that carries all its data. -/
def fullCell (pos svc lseq len : Nat) : Cell :=
  { aCell svc lseq with hdr := { (aCell svc lseq).hdr with pos := pos, len := len }, data := List.replicate len 0x5A }
/-- Spoke 2 with what it sends; rows of characters as they arrive on it; a control beat of it. -/
def sending (t : SpokeTx) : Spoke := { state := 6, tx := t }
def coded (x : Spoke) (rows : List (List Sym)) : List Beat :=
  (codeBeats (activeLanes x) x.rx.rd rows).1.map fun b => b.map (BitVec.ofNat 10)
def ctl (x : Spoke) (octet d : Nat) : Beat := (coded x [controlBeat (laneCount x) octet d]).getD 0 []
theorem wit_CellsCrossSpokes : let x (t : SpokeTx) : Spoke := (nextTest 2 (advance 0 (spoke2 (sending t)))).spoke 2
    let lo : Going := ⟨fullCell 0 0 0 256, 0, false⟩
    let hi := fullCell 0 7 0 4
    ((nextTest 3 (advance 0 live)).spoke 3).state ≠ 6 ∧ live.errs.c4 = false ∧
      x { pre := some ⟨hi, 0, false⟩, cur := some lo } = sending { pre := some ⟨hi, 0, false⟩, cur := some lo } ∧
      (x { cur := some lo }).tx.cur = some lo ∧ preemptor (spoke2 (sending { cur := some lo })) 2 lo = none ∧
      preemptor (spoke2 (sending { cur := some lo, unsent := [hi], limit := lims })) 2 lo = some (0, hi) ∧
      preemptor (spoke2 (sending { cur := some { lo with again := true }, unsent := [hi], limit := lims })) 2 { lo with again := true } = none ∧
      (x { resend := [fullCell 0 0 0 4] }).tx.resend = fullCell 0 0 0 4 :: [] ∧
      replayRoom (x { replay := List.replicate 239 (fullCell 0 0 0 256) }) = true ∧
      replayRoom (x { replay := List.replicate 240 (fullCell 0 0 0 256) }) = false := by decide +kernel
theorem wit_CellsCrossSpokes_new : let x (t : SpokeTx) : Spoke := (nextTest 2 (advance 0 (spoke2 (sending t)))).spoke 2
    (x {}).tx.unsent = [] ∧ replayRoom (x {}) = true ∧ pickCell (x { unsent := [oneCell 0] }) (fun _ => true) [] [oneCell 0] 0 = none ∧
      pickCell (x { unsent := [fullCell 0 0 0 256], limit := lims }) (fun _ => true) [] [fullCell 0 0 0 256] 0 = some (0, fullCell 0 0 0 256) ∧
      (fullCell 0 0 0 256).data.length = (fullCell 0 0 0 256).hdr.len ∧ 16 + (fullCell 0 0 0 256).hdr.len ≤ 34 * max 1 (laneCount (x {})) ∧
      33 * max 1 (laneCount (x {})) < 16 + (fullCell 0 0 0 256).hdr.len ∧
      loopLink (nextTest 2 (advance 0 (spoke2 (sending {})))) 2 = false := by decide +kernel
/-- Spoke 2 once it has heard a cell's beats, some of them garbled. -/
def heard (x : Spoke) (c : Cell) (garble : List Beat → List Beat) : Spoke :=
  ((garble (coded x (dataBeats (laneCount x) (cellBytes c)))).foldl (takeBeat 2) (advance 0 (spoke2 x))).spoke 2
/-- What it reads of the cell, and the lanes that showed violations. -/
def readsOf (y : Spoke) (c : Cell) : (Cell × Bool) × Nat := (cellOf (laneCount y) y.rx.part.bytes c.body, y.rx.part.bad)
def waiting (fails : List Nat) (retry : Option Time) : Spoke := { state := 6, rx := { fails := fails, attempts := fails.length, lastRetry := retry } }
/-- The first code-group of the first beat is one that no character has. -/
def garbled (bs : List Beat) : List Beat := bs.zipIdx.map fun b => if b.2 = 0 then b.1.set 0 0 else b.1
theorem wit_CellsCrossSpokes_receive : let x : Spoke := { state := 6 }
    let c := fullCell 1 1 0 4
    let d := fullCell 1 1 5 4
    let e := fullCell 1 1 2047 4
    let ok (d : Cell) : Bool := let y := heard x d id; y.state == 6 && cellEnded y && readsOf y d == ((d, true), 0)
    let bad (d : Cell) : Bool := let r := readsOf (heard x d garbled) d; cellEnded (heard x d garbled) && cellFails r.1.1 r.1.2 r.2
    ok c = true ∧ cellFails c true 0 = false ∧ c.lseq = x.rx.expSeq ∧ x.rx.attempts = 0 ∧ c.ackV = false ∧ c.hdr.type < 5 ∧ c.hdr.pos = 1 ∧
      cellEnded (heard x c (·.take 1)) = false ∧ ok d = true ∧ x.rx.lastRetry = none ∧ 1024 < modDist 2048 x.rx.expSeq d.lseq ∧
      ok e = true ∧ modDist 2048 x.rx.expSeq e.lseq ≤ 1024 ∧ modDist 2048 0 1024 ≤ 1024 ∧ 1024 < modDist 2048 0 1023 ∧
      bad c = true ∧ bad d = true ∧
      loopLink (advance 0 (spoke2 { x with remoteLoop := true })) 2 = true ∧ loopLink (advance 0 (spoke2 x)) 2 = false := by decide +kernel
/-- A replay awaited since 100 s: a failing cell counts again when its LSEQ is the expected one, and, when its first lanes show violations,
1 µs after the last failure. -/
theorem wit_CellsCrossSpokes_again : let w (t : Time) : State := spoke2 { state := 6, rx := { lastRetry := some 0, failedAt := t } }
    failsAgain (w live.now) 2 (fullCell 1 1 0 4) 1 = true ∧ failsAgain (w live.now) 2 (fullCell 1 1 5 4) 0xFF = false ∧
      failsAgain (w (live.now - us)) 2 (fullCell 1 1 5 4) 0xFF = true ∧ failsAgain (w 0) 2 (fullCell 1 1 5 4) 0 = false := by decide +kernel
theorem wit_CellsCrossSpokes_beats : let x : Spoke := { state := 6 }; let s := spoke2 x
    leadsK (seenBeats s 2 [ctl x 0xDC 0]).syms = true ∧ leadsK (seenBeats s 2 ((coded x (dataBeats 8 (cellBytes (oneCell 0)))).take 1)).syms = false ∧
      ((s.spoke 2).rx.switch = none) ∧ (s.spoke 3).state ≠ 6 := by decide +kernel
theorem wit_CellsCrossSpokes_fifth :
    (waiting [1, 1, 1] none).rx.fails.length < 4 ∧ 4 ≤ (waiting [4, 4, 4, 4] (some 5)).rx.fails.length ∧
      laneCount (waiting [4, 4, 4, 4] (some 5)) = 8 ∧ culprit ([4, 4, 4, 4] ++ [4]) = some 2 ∧ culprit ([0, 0, 0, 0] ++ [0]) = none ∧
      laneCount { waiting [4, 4, 4, 4] none with active := 127 } ≠ 8 ∧ (waiting [4] (some 5)).rx.lastRetry ≠ none := by decide +kernel

theorem wit_ControlBeatsAndSpokeLoss : (∀ x ∈ [({ state := 6, rx := { lastRetry := some (100 * oneSec - us) } } : Spoke),
      { state := 6, rx := { owedAck := some (100 * oneSec - 128 * ns) } }, { state := 6, tx := { replay := [aCell 0 0] } },
      { state := 6, tx := { replay := [aCell 0 0], fires := 7 } }], ((advance 0 (spoke2 x)).spoke 2) = x) ∧
    (0 : Time) + 2 ^ rf (spokeRec live 2) 43 40 * 256 * ns ≤ live.now ∧ bit (live.spoke 2).active 7 = true ∧
    laneCount (live.spoke 2) = 8 ∧ (live.spoke 2).rx.idle % max 1 (laneCount (live.spoke 2)) = 0 := by decide +kernel
/-- The buckets of device 5: one that moves, and one that goes back. -/
theorem wit_ControlBeats_buckets : let m : Bucket := { spoke := some 2, movingSince := some (100 * oneSec - ms) }
    let w : Bucket := { spoke := some 3, backSince := some (99 * oneSec), readyAt := some (100 * oneSec - 2 * us) }
    let a := advance 0 { live with spokes.buckets := [(80, m), (95, w)] }
    a.bucket 5 0 = m ∧ homeSpoke a 5 0 = some 2 ∧ 2 ∈ routeSpokes a 5 ∧ spokeUp a 2 = true ∧ 100 * oneSec - ms + ms ≤ a.now ∧
      a.bucket 5 15 = w ∧ homeSpoke a 5 15 = some 2 ∧ 100 * oneSec - 2 * us + 2 * us ≤ a.now := by decide +kernel

theorem wit_BringUpAndLanes : (∀ k ∈ [0, 39], (live.spoke k).state = 0) ∧
    (∀ n ∈ [1, 2, 3, 4, 5, 6], let x : Spoke := { state := n, peerKnown := true, peerFlags := 8 }; (advance 0 (spoke2 x)).spoke 2 = x) ∧
    (onesBelow 255 8).filter (fun i => !bit 255 i) = [] ∧ rb (spokeRec live 2) 50 = false ∧ bit 8 2 = false ∧ bit 8 3 = true ∧
    7 ≤ popcount (255 &&& 127) 8 ∧ mayWarm (spoke2 { state := 3, peerKnown := true, peerMask := 127 }) 2 = false ∧
    ((advance 0 (spoke2 { nextTry := some (100 * oneSec) })).spoke 2).nextTry = some (100 * oneSec) ∧ bit 15 4 = false := by decide +kernel
theorem wit_BringUpAndLanes_truing : let a := advance 0 live
    (∀ l ∈ [0, 16], truingHeld a l = false ∧ (a.lane l).margining = false ∧ laneCarries a l = true) ∧ truingHeld a 319 = true ∧
      stationMode a (0 / 16) = 1 ∧ spokeUp a 2 = true ∧ (a.spoke 2).rx.lastError + ms ≤ a.now := by decide +kernel

/-- Spoke 2 after a TIME_REQ of the present count, with the device a slave or master. -/
def timing (master : Bool) (t : SpokeTime) : State := { live with ft.master := master, ft.count := ms, spokes.time := [(2, t)] }
theorem wit_TimeAndPlumb : upSpokes (advance 0 live) = [2] ∧ (∀ m ∈ [true, false],
    let a := advance 0 (timing m { seq := 255, t1 := some (ms - 10 * us), master := 63, masterAt := 100 * oneSec }); let x := a.stime 2
    spokeUp a 2 = true ∧ x.t1 = some (ms - 10 * us) ∧ x.seq = 255 ∧ (a.spoke 2).exchangeSpoiled = false ∧
      a.ft.count ≤ ms - 10 * us + 10 * us ∧ a.ft.master = m ∧ a.dev ≤ 63) := by decide +kernel
theorem wit_TimeAndPlumb_upstream : let a := advance 0 (timing false { seq := 255, t1 := some (ms - 10 * us) })
    let d : Int := (((a.ft.count : Int) - (ms - 10 * us : Nat)) - (us : Nat)) / 2
    chooseUpstream (modStime 2 (fun x => { x with t1 := none, locked := true, hops := 0, master := 7, masterAt := a.now })
      (modSpoke 2 (fun x => { x with pathDelay := min (2 ^ 32 - 1) (d.toNat / 16) }) a)) = some 2 := by decide +kernel
theorem wit_TimeAndPlumb_loss : let a := advance 0 { live with ft.master := false, ft.locked := true, ft.lastValid := 100 * oneSec - ms }
    a.ft.master = false ∧ a.ft.locked = true ∧ a.ft.lastValid + ms ≤ a.now := by decide +kernel
theorem wit_TimeAndPlumb_mismatch : let a := advance 0 (timing true { mismatches := 1 })
    1 ≤ (a.stime 2).mismatches ∧ (a.stime 3).mismatches = 0 ∧ (0 : Nat) = a.conf.epoch ∧
      max (a.spoke 2).upAt (a.stime 2).plumbAt + 30 * ms ≤ a.now := by decide +kernel

/-! The mover. -/

/-- The function of partition 3 with an enabled ring, and jobs. -/
def moving (q : Func) (js : List Job) : State := { live with mover.func := [(515, q)], mover.jobs := js }
theorem wit_MoverRingsAndJobs : let q : Func := { state := 1, ringEn := true, sqLog2 := 4, cqLog2 := 12, sqTail := 15 }
    let a := advance 0 (moving q [])
    a.func 515 = q ∧ (a.part (funcPart a 515)).f1D3 = false ∧ (qf 15 11 0 < 2 ^ q.sqLog2 ∧ 2 ^ q.sqLog2 ≤ qf 16 11 0) ∧
      qf 4095 11 0 < 2 ^ q.cqLog2 ∧ (a.func 0).state ≠ 1 ∧ (a.func 0).ringEn = false ∧ (a.func 0).state = 0 ∧ jobsOf a 515 = [] ∧
      q.sqHead ≠ q.sqTail ∧ busReady a 515 = true ∧
      (List.range (funcContexts 515)).find? (fun c => (findJob a 515 c).isNone) = some 0 ∧ (freeReadTag a 515).isSome = true := by decide +kernel
/-- A descriptor of an operation on 4,096 bytes, width 1, and a job in a phase. -/
def descOf (op : Nat) : List Word64 :=
  [quad [(63, 56, op)], quad [(58, 56, 1), (30, 0, 4096)], 0x100000, 0x200000] ++ List.replicate 12 0
def aJob (phase : JobPhase) (cols : List Column) : Job :=
  { func := 515, ctx := 0, ctxSeq := 0, order := 0, slot := 0, phase := phase, desc := descOf 1, cols := cols }
theorem wit_MoverRings_jobs : let q : Func := { state := 1, ringEn := true }; let j := { aJob .fetching [] with tags := [5] }
    (advance 0 (moving q [j])).mover.jobs = [j] ∧ q.dying = false ∧ jobsOf (advance 0 (moving q [j])) 515 ≠ [] ∧
      (let k := seeded { j with desc := (descOf 1).take 16, tags := [] }; descOk k = true ∧ jCoded k = false) ∧
      (let k := seeded { j with desc := (descOf 0).take 16, tags := [] }; descOk k = false) ∧
      (let k := { aJob .tableRead [] with tags := [5] }; k.phase = .tableRead ∧ tableOk { k with tags := [], table := ([] : List Byte).take 384 } = true) ∧
      (aJob .ready []).error = none ∧ (aJob .ready []).engine = none ∧ leastLoaded (advance 0 (moving q [aJob .ready []])) = some 0 := by decide +kernel

theorem wit_ColumnsAreMoved : let c : Column := { idx := 0, need := 4096 }; let j := { aJob .bound [c] with coefReady := true }
    let a := advance 0 (moving { state := 1, staging := 262144 - 4096 } [j])
    findJob a 515 0 = some j ∧ j.error = none ∧ j.cols.find? (fun c => !c.reserved && !c.issued) = some c ∧
      j.cols.find? (fun x => x.idx == c.idx) = some c ∧ (a.func 515).staging + c.need ≤ funcShare 515 ∧
      funcShare 515 < (262144 - 4095) + c.need := by decide +kernel
/-- A column with a read to grant. -/
def granting (f : Nat) : Job :=
  { aJob .bound [{ idx := 0, reserved := true, toRead := [(0, 0x100000, 512)] }] with func := f, engine := some 3 }
theorem wit_ColumnsAreMoved_grants : let a := advance 0 { moving { state := 1 } [granting 515] with
      sched.pointers := [(ptrClass 3 0, 515)], sched.deficits := [(defClass 3 0, 4096), (defLeaf 3 0 515, 512)] }
    strictLeaf (idleDeficits 3 a) 3 = none ∧ (weightedLeaf (idleDeficits 3 a) 3).map (fun x => (x.1, x.2.1)) = some (515, 0) ∧
      (let b := advance 0 { strict with mover.jobs := [granting 9], mover.func := [(9, { state := 1 })] }
       strictLeaf (idleDeficits 3 b) 3 = some (9, 0)) := by decide +kernel
theorem wit_ColumnsAreMoved_reads : let r : ReadReq := { tag := 5, key := 0, addr := 0x100000, at' := 0 }
    let c : Column := { idx := 0, reserved := true, reading := [r] }; let j := aJob .bound [c]; let a := advance 0 (moving { state := 1 } [j])
    findRead a 515 5 = some (j, c, r) ∧ j.error = none ∧ r.at' + moverTimeout a (funcPart a 515) ≤ a.now := by decide +kernel
def issuedCol (notices : List (Nat × Nat × Nat)) (issues residue : Nat) : Column :=
  { idx := 0, issued := true, frames := [(0, 0, 0)], notices := notices, issues := issues, residue := residue, handedAt := 0 }
theorem wit_ColumnsAreMoved_notices : (∀ residue ∈ [0, 1], let c := issuedCol [] 1 residue; let j := { aJob .bound [c] with engine := some 3 }
    let a := advance 0 (moving { state := 1 } [j])
    findJob a 515 0 = some j ∧ j.cols.find? (fun x => x.idx == 0) = some c ∧ c.handedAt + 4 * ms ≤ a.now ∧ c.gen % 8 = 0) ∧
    (∀ x ∈ [(0, 1), (1, 15), (1, 16)], let c := issuedCol [(0, 0, x.1)] x.2 0; let j := aJob .bound [c]; let b := moving { state := 1 } [j]
      findJob b 515 0 = some j ∧ j.cols.find? (fun x => x.idx == 0) = some c ∧ c.frames.length ≤ c.notices.length ∧ c.forced = false) := by
  decide +kernel

theorem wit_CompletionEntriesAndEngineTests : let j := { aJob .bound [] with nextCol := 1 }
    let q : Func := { state := 1, cqLog2 := 4, cqTail := 15, cqHead := 7 }
    let a := advance 0 { moving q [j] with mover.ended := [(515, 0)] }
    findJob a 515 0 = some j ∧ jobEnds j = true ∧ j.loop = false ∧ q.dying = false ∧ busReady a 515 = true ∧
      (a.mover.ended.find? fun x => x.1 == 515) = some (515, 0) ∧ (515, 0) ∉ (moving q [j]).mover.ended ∧
      (q.cqTail + 1) % 2 ^ q.cqLog2 ≠ q.cqHead ∧ jIrq j = false := by decide +kernel
theorem wit_Completion_engines : (let a := advance 0 { live with mover.engine := [(3, { drainMb := some 64 })] }
     (a.engine 3).drainMb = some 64 ∧ (a.engine 3).testing = false ∧ engineBusy a 3 = false) ∧
    (let a := advance 0 { live with mover.engine := [(3, { drainMb := some 64 })], mover.jobs := [granting 515] }
     engineBusy a 3 = true ∧ (a.engine 3).drainUntil ≤ a.now) ∧
    (let a := advance 0 { live with mover.engine := [(3, { drainMb := some 64, testing := true })] }
     (a.engine 3).drainMb = some 64 ∧ (a.engine 3).testing = true) := by decide +kernel

/-! The tandem, measurement, endurance. -/

/-- Device 0 of a pair with device 1: its role, whether it is master, and the tandem's state. -/
def paired (master : Bool) (t : Tandem) : State := { live with
  ft.master := master, tandem := { t with configuredRole := t.role, partner := 1 } }
theorem wit_TandemHeads : let a := advance 0 (paired false { role := 1, lastBeat := 100 * oneSec - 800 * us })
    coreRuns a = true ∧ inDeviceReset a = false ∧ a.tandem.configuredRole = 1 ∧ a.tandem.role = 1 ∧ a.tandem.partner = 1 ∧
      a.ft.master = false ∧ serialNewer 0 a.conf.epoch = false ∧ a.ft.yielded = none ∧ a.tandem.lastBeat + 800 * us ≤ a.now ∧
      (63 : Nat) ≠ a.tandem.partner := by decide +kernel
theorem wit_TandemHeads_claims : let a := advance 0 (paired false { role := 0, firstSpokeUp := some (100 * oneSec - 800 * us) })
    let b := advance 0 { paired false { role := 0, handoverAt := some 7 } with ft.locked := true, ft.count := 7 }
    (a.ft.yielded = none ∧ a.tandem.role = 0 ∧ a.ft.master = false ∧ a.tandem.returning = false ∧
      a.tandem.firstSpokeUp = some (100 * oneSec - 800 * us) ∧ 100 * oneSec - 800 * us + 800 * us ≤ a.now) ∧
    (b.ft.yielded = none ∧ b.tandem.role = 0 ∧ b.ft.master = false ∧ b.ft.locked = true ∧ b.tandem.handoverAt = some 7 ∧ 7 ≤ b.ft.count) := by
  decide +kernel
theorem wit_TandemHeads_yields : ∀ role ∈ [1, 2], let a := advance 0 { paired false { role := role } with ft.yielded := some 0 }
    coreRuns a = true ∧ a.ft.yielded = some 0 ∧ masterSeen a 0 + ms ≤ a.now ∧ a.tandem.role = role := by decide +kernel
theorem wit_TandemHeads_parts : let a := advance 0 { live with mgmt.tdmIn := [1, 2], mgmt.tdmResp := [3] }
    coreRuns a = true ∧ a.mgmt.tdmIn ≠ [] ∧ 2 ≤ a.mgmt.tdmIn.length ∧ a.mgmt.tdmResp ≠ [] ∧ (List.replicate 512 (0 : Word64)).length ≤ 512 := by
  decide +kernel

theorem wit_SnapshotsWindowsAndRuns : let a := advance 0 { live with count.pending := some 7, ft.count := 7 }
    let b := advance 0 { live with count.copying := true, count.snapWait := [0], count.snapMb := some 66 }
    let c := advance 0 { live with count.snapWait := [63, 0] }
    let d := advance 0 { live with count.snapFabric := true, count.snapMb := some 66, ft.count := 10 * ms }
    (a.count.pending = some 7 ∧ 7 ≤ a.ft.count ∧ a.count.snapFabric = false) ∧
    (b.count.copying = true ∧ b.count.snapWait = [b.dev] ∧ b.count.snapMb = some 66 ∧ b.count.snapReply = none ∧ b.count.snapStale = false) ∧
    (c.count.pending = none ∧ c.count.copying = false ∧ c.count.snapMb = none ∧ 63 ≠ c.dev ∧ c.count.snapWait = [63, c.dev] ∧
      5 ≠ c.dev ∧ 5 ∉ c.count.snapWait) ∧
    (d.count.snapFabric = true ∧ d.count.snapMb = some 66 ∧ d.count.pending = none ∧ d.count.snapAt + 10 * ms ≤ d.ft.count) := by
  decide +kernel
theorem wit_Windows : ∀ started ∈ [true, false], ∀ i ∈ [0, 7], let u : BwUnit := { mb := 64, port := 1, start := 7, winUs := 1024, started := started, outBytes := [(0, 5)], dir := 2, subLog2 := 0, inBytes := [] }
    let a := advance 0 { live with count.bw := [(i, u)], ft.count := 7 + 1024 * us }
    a.count.bw = [(i, u)] ∧ u.start ≤ a.ft.count ∧ u.start + u.winUs * us ≤ a.ft.count ∧ (advance 0 live).ft.count < u.start := by
  decide +kernel
theorem wit_Runs : ∀ x ∈ [(1, 16, 1), (4, 1, 1), (3, 319, 0)], let l := aRun x.1 x.2.1 x.2.2; let a := advance 0 { live with count.loops := [l] }
    a.count.loops = [l] ∧ l.state = 1 ∧ l.started + ms ≤ a.now ∧ l.started + l.duration * us ≤ a.now := by decide +kernel

theorem wit_PowerGovernorAndAgeing : let a := advance 0 { live with power.capW := 400, power.capStage := 3, power.vddTarget := 3 }
    coreRuns a = true ∧ inDeviceReset a = false ∧ a.chip.orderingXt = false ∧ a.power.stage < 3 ∧ a.power.stageAt + oneSec ≤ a.now ∧
      (advance 0 { live with power.stageAt := 100 * oneSec }).now < 100 * oneSec + oneSec ∧ a.power.capW ≠ 0 ∧ a.power.capW * 1000 < 400001 ∧
      a.power.capStage = 3 ∧ (advance 0 live).power.capStage < 3 ∧ 379999 * 100 < a.power.capW * 95000 ∧
      400000 ≤ a.power.capW * 1000 ∧ a.power.capW * 95000 ≤ 380000 * 100 ∧
      a.power.vddStopped = false ∧ a.power.vddStep < a.power.vddTarget ∧
      (advance 0 { live with power.vddStopped := true }).power.vddStopped = true ∧ corePowered a = true ∧ a.slot.vpwrLost = false ∧
      mcRuns a = true := by decide +kernel
/-- A re-shim run that has given notice of P1, whose eye lies below its step level or not. -/
def noticed (eye : Nat) : State := { live with
  aging.running := true, aging.notices := [(1, 50 * oneSec)], aging.noticeS := 50
  lanes.lane := [(8, { eyeH := eye, eyeValid := true })] }
theorem wit_Ageing_runs : let a := advance 0 aged
    (mcRuns a = true ∧ a.aging.running = false ∧ effStage a < 2 ∧ a.aging.lastRun + a.aging.intervalD * 86400 ≤ coreSeconds a) ∧
    (let b := advance 0 live; coreSeconds b < b.aging.lastRun + b.aging.intervalD * 86400) ∧
    (∀ eye ∈ [7, 8], let b := advance 0 (noticed eye)
      tfind b.aging.notices 1 = some (50 * oneSec) ∧ b.aging.allowStep = true ∧ 50 * oneSec + b.aging.noticeS * oneSec ≤ b.now ∧
        maySteps { b with aging.notices := tdel b.aging.notices 1 } 1 = decide (eye < 8) ∧ (b.port 1).up = true) ∧
    (let b := advance 0 { live with aging.running := true }
     b.aging.running = true ∧ b.aging.retrain = [] ∧ b.aging.notices = []) := by decide +kernel
theorem wit_Ageing_planer : let a := advance 0 live; let b := advance 0 { live with aging.inRegion := true, aging.region := 8303 }
    (coreRuns a = true ∧ a.aging.planerEn = true ∧ a.aging.inRegion = false ∧ effStage a < 2 ∧ a.aging.lastStart = none) ∧
    (advance 0 { live with aging.lastStart := some (100 * oneSec) }).now < 100 * oneSec + a.aging.paceMs * ms ∧
    (b.aging.inRegion = true ∧ b.aging.region < 8304) := by decide +kernel

end Sys2Proof.Tests
end

