-- ==== Sys2Proof/Tests/Clauses.lean ====
section
/-! SUPPORT. For each clause of the statements that Slice0 does not meet: a state and operands that meet its hypotheses, at the boundary
values of the times and ranges it names. -/

namespace Sys2Proof.Tests

open Sys2Proof.Machine

set_option Elab.async false

/-! Commands and their mailboxes. -/

theorem wit_StatusCommandsAnswer_owned : let a := advance 0 live
    sentB everyone 0x0606 (ask 3 0x0606 0 0 [0 * 2 ^ 61 + 9]) a = true ∧ sentB everyone 0x0803 (ask 3 0x0803 0 0 [7 * 2 ^ 58]) a = true ∧
      sentB everyone 0x0803 (ask 64 0x0803 0 0 [0]) (advance 0 { live with slot.inReset := true }) = true ∧
      slotUp (advance 0 { live with slot.inReset := true }) = false ∧ ((partPorts a 3).any fun q => portSlot a q == 7) = true ∧
      ((partPorts a 3).any fun q => portSlot a q == 8) = false ∧
      payloadBad (ask 3 0x0606 0 0 [7 * 2 ^ 61]) [7 * 2 ^ 61 + (2 ^ 24 - 1)] = none ∧
      (List.range 7).all (fun k => decide (0 < shaperCount k)) = true := by decide +kernel
/-- A partition's mailbox writes an access control entry of its own port, under its own lock. -/
theorem wit_RecordCommands_partition : let s : State := { live with mgmt.lock := [(4, { owner := some 3 })] }
    let r := ask 3 0x0501 1 3 [0x20 * 2 ^ 56 + 1 * 2 ^ 40 + 5 * 2 ^ 24 + 2 * 2 ^ 16, 0, 15 * 2 ^ 53]
    let b := taken r (advance 0 s)
    sentB (recordRule 0x0501) 0x0501 r (advance 0 s) = true ∧ (entriesOf r).length = 1 ∧
      (∀ e ∈ entriesOf r, entryLock b 3 e = 4 ∧ entryOk b 0x0501 e = true ∧ entryPegged b e = false ∧ entryDenied b 3 e = false) ∧
      holdsLock b 3 4 = true := by decide +kernel
theorem wit_StagingAndPreparing_corrective : let alone : State := { live with conf.entries := [] }
    let r := ask 64 0x0202 0 0 [1]
    let b := taken r (advance 0 alone)
    let x := stageSet b 0
    (pf r 0 0 0 == 1 && x.changed.isEmpty && x.entries == b.conf.entries) = true ∧ payloadBad r [2 ^ 64 - 2 ^ 32 + 1] = none ∧
      candidateStatus true false b.conf.epoch x.entries b = (stOk, noRec) := by decide +kernel
theorem wit_SwapDrainAndSeal_otherwise : let d : Drain := ⟨1, true, true, 0, [1]⟩
    let a := advance 0 { holding [aFrame 1 .staged] with conf.drain := [d] }
    (∀ x ∈ a.conf.drain, ∃ f ∈ a.hub.frames, inHub f = true ∧ f.fid ∈ x.frames) ∧ live.conf.prepared = none ∧
      (prepared1 none).armed = none := by decide +kernel
theorem wit_Coordinator_done : let c := { coord1 true true with members := [0, 5], wait := 1, done := [(0, 7)] }
    let e := { coord1 true true with members := [0, 5], wait := 2 }
    let p := { prepared1 none with coord := 5 }
    (∀ d ∈ c.members, (tfind (tput c.done 5 9) d).isSome = true) ∧ c.commitMb = some 64 ∧ (5 : Nat) ∉ e.sealedBy ∧
      (∃ d ∈ e.members, d ≠ 5 ∧ d ∉ e.sealedBy) ∧ p.armed = none ∧ (0 : Nat) ≤ live.ft.count ∧ (member.conf.incomingOf = (5, 1)) ∧
      (5 : Nat) < 64 := by decide +kernel
/-- A request that has been given up, a wait that ends on a free lock, and one that has time left. -/
theorem wit_Locks_expiry : let w (t : Time) : Nat × Nat × Time := (3, 0, t)
    let s (o : Option Nat) (t : Time) (m : Mailbox) : State := { live with mgmt.lock := [(4, { owner := o, waiters := [w t] })], mgmt.mailbox := [(3, m)] }
    let r := ask 64 0x0212 0 0 [65 * 2 ^ 56 + 15]
    acquires (advance 0 (s none 0 {})) 3 ≠ some 4 ∧ bestWaiter (settlePrio (advance 0 (s none 0 {}))) [w 0] = some (w 0) ∧
      (let b := grantLock 4 (advance 0 (s none 0 {})); (findLock b 4).waiters = []) ∧
      tfind (advance 0 (s none 0 {})).mgmt.lock 4 = some { owner := none, waiters := [w 0] } ∧ live.now < (w (100 * oneSec + 1)).2.2 ∧
      (findLock (settlePrio (advance 0 live)) 0).owner ≠ none ∧ sentB operators 0x0212 r (advance 0 live) = true ∧
      payloadBad r [2 ^ 64 - 2 ^ 56 + 15] = none ∧ pf r 0 63 56 = 65 ∧
      (∀ e ∈ live.mgmt.lock, ∀ x ∈ e.2.waiters, x.1 ≠ 66) := by decide +kernel
theorem wit_DeviceCommands_partition : let a := advance 0 live
    let r := ask 3 0x0503 0 0 (pegRange 0)
    let w := ask 64 0x0702 0 0 [1000]
    let off : State := { live with mover.engine := [(0, { inService := false })] }
    recPart (taken r a) 0x20 (0 * 128 + 1) = some r.mb ∧ sentB everyone 0x0503 r a = true ∧
      sentB operators 0x0702 w (advance 0 off) = true ∧
      (∀ i < 4, ((taken w (advance 0 off)).engine i).drainMb = none ∧ (i ≠ pf w 0 63 62 → ((taken w (advance 0 off)).engine i).inService = true)) ∧
      stTimeout ≠ stOk ∧
      (65, 100 * oneSec + 1) ∈ ({ live with mgmt.pegWait := [(65, 100 * oneSec + 1)] } : State).mgmt.pegWait := by decide +kernel
/-- A partition's mailbox reads its own records and configuration; a log read of more than 62 records goes to host memory; a set that is not prepared. -/
theorem wit_Records_partition : let a := advance 0 logged
    let r := ask 3 0x0205 0 0 [0x20 * 2 ^ 56 + 1 * 2 ^ 40 + 25 * 2 ^ 24 + 2 ^ 16 + 2 ^ 14 + 4 * 2 ^ 7]
    let e : Req := { ask 3 0x0A01 0 0 [255 * 2 ^ 24] with hdr1 := 0x1002 }
    sentB everyone 0x0205 r a = true ∧ payloadBad r [2 ^ 64 - 2 ^ 7] = none ∧ mayRead (taken r a) 3 0x20 1 = true ∧ pf r 0 15 14 = 1 ∧
      pf r 0 13 7 = 1 + r.mb ∧ sentB everyone 0x0A01 e a = true ∧ pf e 0 31 24 = 255 ∧ rDmaOut e = true ∧ a.conf.prepared = none ∧
      (advance 0 (armed 5)).conf.prepared.isSome = true := by decide +kernel
theorem wit_Records_readmit_up : let r := ask 64 0x0306 0 0 [16 * 2 ^ 55]; let b := taken r (advance 0 live)
    sentB operators 0x0306 r (advance 0 live) = true ∧ stationMode b (pf r 0 63 55 / 16) = 2 ∧
      bit (b.spoke (pf r 0 63 55 / 8)).laneMask (pf r 0 63 55 % 8) = true := by decide +kernel
theorem wit_MeasureCommands_others : let a := advance 0 live
    let f := ask 65 0x0901 0 0 [0, 1]
    let c := ask 3 0x0903 0 0 [cPart 3 0 * 2 ^ 32 + 1]
    let w := ask 3 0x0902 1 3 [1 * 2 ^ 57 + 1, 0]
    sentB everyone 0x0903 c a = true ∧ isCounter (pf c 0 63 32) = true ∧ inView (taken c a) 3 (pf c 0 63 32) = true ∧
      sentB ⟨true, true, true, false, false⟩ 0x0901 f a = true ∧ snapBusy (taken f a) = false ∧ timeLocked (taken f a) = true ∧
      pf f 1 0 0 = 1 ∧ sentB ⟨true, true, true, false, false⟩ 0x0902 w a = true ∧
      (portEn (taken w a) (pf w 0 63 57) = true ∧ portPart (taken w a) (pf w 0 63 57) = w.mb) ∧ pf w 1 63 0 = 0 ∧
      (taken w a).ft.count ≤ ((taken w a).ft.count / us + 1) * us := by decide +kernel
theorem wit_Loopback_lanes : let s (l : LoopRun) : State := { live with count.loops := [l] }
    let r := ask 64 0x0C01 0 0 [3 * 2 ^ 61 + 319 * 2 ^ 52 + 2 ^ 46]
    let d := ask 3 0x0C01 2 9 [6 * 2 ^ 61]
    findLoop (taken r (advance 0 (s (aRun 3 319 0)))) (3, 319) = some (aRun 3 319 0) ∧
      sentB two 0x0C01 r (advance 0 (s (aRun 3 319 0))) = true ∧ loopTargetOk (taken r (advance 0 (s (aRun 3 319 0)))) r = true ∧
      sentB two 0x0C01 d (advance 0 live) = true ∧ rScope d = 2 ∧ loopTargetOk (taken d (advance 0 live)) d = true ∧
      loopBusy (taken d (advance 0 live)) d = false ∧
      (let l := { aRun 4 1 0 with state := 2 }; findLoop (s l) (4, 1) = some l ∧ l.state ≠ 1) := by decide +kernel
theorem wit_Firmware_others : let rom : State := { live with chip.romRecovery := true }
    let s (p : Nat) : State := { live with fw.busy := some 64, fw.phase := p }
    (ask 64 0x0D01 0 0 [3 * 2 ^ 60]).mb = 64 ∧ sentB everyone 0x0D01 (ask 64 0x0D01 0 0 [3 * 2 ^ 60]) (advance 0 rom) = false ∧
      headerOk (ask 64 0x0D01 0 0 [3 * 2 ^ 60]) = true ∧ (advance 0 rom).chip.romRecovery = true ∧ ((advance 0 rom).mb 64).state ≠ 1 ∧
      (advance 0 (s 0)).fw.phase = 0 ∧ verifyStatus live {} = stInvalid ∧ live.fw.busy = none ∧
      (advance 0 { live with fw.firstStart := some (90 * oneSec + 1) }).now < 90 * oneSec + 1 + 10 * oneSec ∧
      mcRuns (advance 0 live) = true := by decide +kernel
theorem wit_SpdmRequests_otherwise : let off : State := { live with mgmt.serving := false }
    (advance 0 off).mgmt.serving = false ∧ coreRuns (advance 0 off) = true ∧ spdmTransport (advance 0 off) 64 = true ∧
      spdmState (advance 0 live) 64 = 0 ∧ (0 : Nat) < 1 ∧ (4 : Nat) ≠ 255 := by decide +kernel
theorem wit_DebugAccesses_otherwise : let a := advance 0 debugging
    sidePortOpen a (.counterBank (cDev cdDebug)) = true ∧ sidePortOpen a (.tagTable 65535) = true ∧ okBank (.tagTable 65535) = true ∧
      bit (tokenGrants a) 1 = true ∧
      (debugStop (advance 0 { live with sec.token := some (1, 31, 0, 100 * oneSec + 1) }) 1 1 0 8 true).isSome = true ∧
      live.sec.token = none ∧ (advance 0 debugging).now < 100 * oneSec + 1 ∧ bit (tokenGrants (advance 0 live)) 2 = false := by decide +kernel
theorem wit_Mailboxes_otherwise : let a (m : Mailbox) : State := advance 0 { live with mgmt.mailbox := [(3, m)] }
    let r := { ask 3 0x0101 0 0 [] with hdr1 := 0x1001, hdr0 := quad [(63, 48, 0x0501), (31, 30, 1), (29, 20, 3), (19, 0, 8)] }
    let x : Mailbox := { state := 1, submittedAt := some 5, window := [(0, r.hdr0), (1, r.hdr1)] }
    let rom : State := { live with chip.romRecovery := true, mgmt.mailbox := [(3, x)] }
    (advance 0 (mbIn 64 { state := 1 })).mb 64 = { state := 1 } ∧ ((advance 0 (mbIn 65 { state := 1 })).mb 65).state = 1 ∧
      (advance 0 { live with mgmt.serving := false }).mgmt.serving = false ∧ submits (a x) = [(5, 3)] ∧
      (let q := { waitingReq (a x) 3 with mb := 3 }; romAllows (a x) q && rDmaIn q && headerOk q && (handlerOf (rOp q)).isSome && !((a x).mb 3).dirty) = true ∧
      romAllows (advance 0 rom) { waitingReq (advance 0 rom) 3 with mb := 3 } = false ∧ mcHeld (advance 0 live) = false ∧
      submits (advance 0 live) = [] ∧ (4032 : Nat) ≤ 4032 := by decide +kernel
theorem wit_OtherEndpoints_otherwise : let t (o : Oob) (d : Option Time) : State := advance 0 { live with mgmt.oob := o, tandem.linkDownAt := d }
    (t {} (some (100 * oneSec - ms + 1))).now < 100 * oneSec - ms + 1 + ms ∧ (t {} none).tandem.linkDownAt = none ∧
      (t { dynAddr := some 9 } none).mgmt.oob.dynAddr ≠ none ∧ (t {} none).mgmt.oob.alertLow = false ∧
      ((advance 0 live).mb 64).waiting ≠ waitDma ∧ (6 : Nat) ≠ 5 ∧ (255 : Nat) < 256 ∧ (127 : Nat) < 128 := by decide +kernel
theorem wit_BarRegisters_reads : let a := advance 0 live
    let b := advance 0 { live with mgmt.mailbox := [(3, { lost := 2 ^ 32 - 1, ignored := 2 ^ 32 - 1 })] };
      ((b.mb 3).lost < 2 ^ 32 ∧ (b.mb 3).ignored < 2 ^ 32 ∧ (b.part 3).errTail < 2 ^ 32 ∧ (b.part 3).errHead < 2 ^ 32 ∧ (b.part 3).errLost < 2 ^ 32) ∧
      funcPart a 515 = 3 ∧ (funcPart a 9 = 3 ∧ vfEn a 9 = true) ∧ partEn a 63 = false ∧
      partHome (advance 0 visiting) 9 ≠ (advance 0 visiting).dev ∧ (2 ^ 31 : Word64).getLsbD 31 = true := by decide +kernel
theorem wit_Boot_otherwise : let a := advance 0 { live with mgmt.restartAt := some 0, chip.railsOut := true }
    (advance 0 live).mgmt.restartAt = none ∧ corePowered a = false ∧
      mcRuns (advance 0 { live with mgmt.restartAt := some 0, mgmt.serving := false }) = false := by decide +kernel
theorem wit_Resets_otherwise : let held : State := { live with chip.resetPin := true, chip.resetUntil := some (100 * oneSec) }
    resetBegins (advance 0 held) = false ∧ inDeviceReset (advance 0 live) = false ∧ inDeviceReset (advance 0 held) = true ∧
      (∀ T, (advance 0 held).chip.resetUntil = some T → T ≤ (advance 0 held).now) ∧ live.errs.c4 = false ∧
      (advance 0 { live with errs.c4 := true, errs.c4At := 100 * oneSec - 10 * ms + 1 }).now < 100 * oneSec - 10 * ms + 1 + 10 * ms ∧
      rb ((advance 0 live).cfg 0x58 0 0) 31 = false ∧ (advance 0 { live with chip.tripped := true }).chip.tripped = true := by decide +kernel
theorem wit_PartitionAndPortResets_otherwise : let v : State := advance 0 { visiting with pcie.part := [(9, { perst := true })] }
    let vsw : State := advance 0 { p1 { up := true } with conf.entries := cfgPut small (recd 0x04 1 0 [(63, 63, 1), (62, 62, 1), (61, 56, 3), (50, 48, 4), (47, 45, 5), (42, 42, 1), (36, 35, 3)]) }
    15 ∈ (advance 0 { live with pcie.perstin := [15] }).pcie.perstin ∧
      (partEn v 9 = true ∧ partHome v 9 ≠ v.dev ∧ (v.part 9).perst = true) ∧ ((advance 0 visiting).part 9).perst = false ∧
      partEn (advance 0 live) 9 = false ∧ partHome (advance 0 live) 3 = (advance 0 live).dev ∧
      ((advance 0 { live with pcie.part := [(3, { inReset := true })] }).part 3).inReset = true ∧ ((advance 0 live).part 3).readyAt = none ∧
      (portEn vsw 1 = true ∧ portUp vsw 1 = true ∧ portVsw vsw 1 ≠ 0 ∧ (vsw.port 1).up = true) ∧
      ((advance 0 { live with pcie.port := [] }).port 0).up = false ∧ portEn (advance 0 live) 127 = false ∧
      (∀ p ∈ homeParts (advance 0 live), partPerst (advance 0 live) p = 2) := by decide +kernel
theorem wit_MemoryErrors_banks : let spent : State := { live with aging.spares := [(8, spareRows 8)] }
    let bad : State := { live with errs.badRows := [(8, 0)] }
    (8, 0) ∈ (advance 0 bad).errs.badRows ∧
      tget 0 (count1 (cDev cdRepairs) (count1 (cDev 8) (advance 0 live))).aging.spares 8 < spareRows 8 ∧
      spareRows 8 ≤ tget 0 (count1 (cDev cdRepairs) (count1 (cDev 8) (advance 0 spent))).aging.spares 8 ∧ findFrame live 1 = none ∧
      7 ∈ ({ live with count.invalid := [7] } : State).count.invalid ∧ okTag 65535 = true ∧ okTracker 32767 = true ∧ portUp live 0 = true ∧
      portUp live 1 = false ∧ live.hub.stalled = false ∧ live.mgmt.serving = true := by decide +kernel
theorem wit_Holdover_otherwise : let a (h : Bool) (t : Time) : State := advance 0 { live with chip.holdover := h, chip.holdoverAt := t, chip.refALost := true, chip.refBLost := true }
    (a true (100 * oneSec - ms + 1)).now < 100 * oneSec - ms + 1 + ms ∧ (a false 0).chip.holdover = false ∧
      (a true 0).chip.holdover = true ∧ live.chip.refALost = false := by decide +kernel

/-! Slots, links, configuration space. -/

/-- Energy one unit beyond the limit, and the last tick of the power-good time. -/
theorem wit_SlotTickRules_ends : let s := slotted 7 { state := 2, energy := 1 }
    let c := s.chan 7
    let r := limitsOf s 7
    let t := slotted 7 { state := 3, q := 999 }
    let e := lEnergy r * lSense r * 100000000
    c.timer = none ∧ 0 < lInrush r * 100 ∧ e < ({ c with energy := e + 1 } : Chan).energy + (12000 - 0) * 0 ∧
      rf (dieRec t) 47 41 * 100 ≤ (t.chan 7).q + 1 ∧ lPg (limitsOf t 7) * 100 ≤ 10800 ∧ gateOn (live.chan 7) = false := by decide +kernel
theorem wit_SlotChannelEvents_otherwise : let a (c : Chan) : State := advance 0 (slotted 63 c)
    let n := live.now
    let fwd : State := { slotted 7 { state := 4 } with conf.entries := cfgPut small (recd 0x10 3 0 [(31, 31, 1), (23, 19, 2), (18, 18, 1)]), pcie.part := [(3, { perst := true })] }
    ((a { state := 3 }).chan 63).state ≠ 4 ∧ ((a { state := 4, timer := some 1 }).chan 63).timer ≠ none ∧
      n < ((a { state := 4, onAt := n - 100 * ms + 1 }).chan 63).onAt + 100 * ms ∧
      n < ((a { state := 5, waitUntil := n + 1 }).chan 63).waitUntil ∧ ((a {}).chan 63).checkDue = false ∧
      n < ((a { checkDue := true, offAt := n - 10 * ms + 1 }).chan 63).offAt + 10 * ms ∧
      (let c : Chan := { state := 6, offAt := n }; gateOn c = false ∧ c.offAt / us = n / us) ∧
      (let c : Chan := { state := 6, offAt := 0 }; c.offAt / us ≠ n / us) ∧ gateOn ((a { state := 7, checked := true }).chan 63) = false ∧
      perstForwarded (advance 0 fwd) 7 = true ∧ n < ((a { state := 4, onAt := n - oneSec + 1 }).chan 63).onAt + oneSec ∧
      ((advance 0 { live with slot.aux := [(63, { startCheck := false })] }).chanAux 63).startCheck = false ∧ (501 : Nat) > 500 ∧
      (advance 0 { live with slot.startedAt := n - 10 * ms + 1 }).now < n - 10 * ms + 1 + 10 * ms := by decide +kernel
theorem wit_SlotRequests_otherwise : let on : State := advance 0 { live with slot.chan := [(7, { present := true, state := 4 })], slot.aux := [(7, { requests := [(1, none)], startCheck := false })] }
    let x := slotAction 1 7 (modChanAux 7 (fun x => { x with requests := [] }) on)
    let gone (t : Time) : State := advance 0 { live with slot.chan := [(7, { absentSince := some t })] }
    slotUp on = true ∧ (on.chanAux 7).requests = (1, none) :: [] ∧ slotPort x.2 7 = some 2 ∧ x.1 = true ∧
      (slotAction 0 7 (slotted 7 { state := 7, present := true })).1 = false ∧
      ((gone (100 * oneSec - ms)).chan 7).absentSince = some (100 * oneSec - ms) ∧ 100 * oneSec - ms + ms ≤ (gone 0).now ∧
      (gone 0).now < 100 * oneSec - ms + 1 + ms ∧ lPresOff (limitsOf live 7) = true ∧
      lPresOff (limitsOf { live with slot.recs := [(7, 0)] } 7) = false := by decide +kernel
theorem wit_Feeds_otherwise : let a (f : Feed) : State := advance 0 { live with slot.feedA := f }
    ((a { lost := true }).feed false).lost = true ∧ ((a {}).feed false).lastRev = none ∧
      99 * oneSec + oneSec ≤ (a { lastRev := some (99 * oneSec) }).now ∧ (advance 0 live).slot.inReset = false ∧
      (advance 0 live).slot.vpwrLost = false ∧ coreRuns (advance 0 { live with chip.booting := true }) = false ∧
      ((slotted 7 { state := 7 }).chan 7).state = 7 := by decide +kernel
theorem wit_LinkEvents_otherwise : let a (q : Port) : State := advance 0 (p1 q)
    let m : State := { p1 { up := true, errEn := 7 } with pcie.aux := [(1, { corMask := 2 ^ 13, uncMask := 2 ^ 20, uncSev := 2 ^ 4 })] }
    linkWidth 3 (portWidth (a {}) 1) = 2 ∧ linkWidth 0 (portWidth (a {}) 1) = 0 ∧ linkHeld (a { dpcTriggered := true }) 1 = true ∧
      ((a { up := true }).port 1).up = true ∧ primaryUp (a {}) 3 = some 0 ∧
      ((advance 0 { p1 {} with pcie.part := [(3, { inReset := true })] }).part 3).inReset = true ∧ portHp (advance 0 live) 2 = true ∧
      ((a { up := true }).port 1).recovery = false ∧ bit (m.aux 1).corMask 13 = true ∧ bit (m.port 1).errEn 0 = true ∧
      bit (m.aux 1).uncMask 20 = true ∧ bit (m.aux 1).uncMask 4 = false ∧ bit (m.aux 1).uncSev 4 = true ∧
      ((a { dpcEnable := true }).port 1).dpcEnable = true ∧ pciePort (advance 0 live) 3 = false ∧ ((a {}).port 1).dpcTriggered = false ∧
      portUp (a {}) 0 = true ∧ portVsw (a {}) 0 = 0 := by decide +kernel
theorem wit_Interrupt_wires : let a (on : Nat) : State := advance 0 { live with pcie.aux := [(1, { wires := on })] }
    let wired := modAux 1 (fun x => { x with wires := putBit x.wires 0 true }) (a 0)
    let same := modAux 1 (fun x => { x with wires := putBit x.wires 0 true }) (a 16)
    let far : State := { live with conf.entries := cfgPut (cfgPut visiting.conf.entries ⟨5, 0x04, 4, 0, BitVec.ofNat 256 (pack [(63, 63, 1), (62, 62, 1), (61, 56, 9)])⟩) (recd 0x04 1 0 [(63, 63, 1), (61, 56, 9), (50, 48, 4)]) }
    pinOn (wired.aux 1).wires 0 ≠ pinOn ((a 0).aux 1).wires 0 ∧ pinOn (same.aux 1).wires 0 = pinOn ((a 16).aux 1).wires 0 ∧
      upstreamPort far (portPart far 1) (portVsw far 1) = some (5, 4) ∧ (5 : Nat) ≠ far.dev ∧ portEn far 1 = true ∧ portEn live 127 = false ∧
      upstreamPort { live with conf.entries := cfgPut small (recd 0x04 1 0 [(63, 63, 1), (61, 56, 9), (50, 48, 4)]) } 9 0 = none := by decide +kernel
/-- `live` with P4 of device 5 as a remote bridge at device number 9 of the internal bus, its part as given. -/
def remoted (q : Part) : State := { live with
  conf.entries := cfgPut small (recd 0x11 3 0 [(31, 31, 1), (30, 25, 5), (24, 18, 4), (17, 13, 9)]), pcie.part := [(3, q)] }
theorem wit_ConfigurationSpace_cases : let a := advance 0 (remoted {})
    let far := advance 0 { visiting with conf.entries := cfgPut visiting.conf.entries (recd 0x04 1 0 [(63, 63, 1), (61, 56, 9), (50, 48, 4)]) }
    let q := (a.port 0)
    let vf : State := advance 0 { live with pcie.part := [(3, { vfEnable := true, numVfs := 1 })], pcie.port := [(0, { up := true, width := 16, rate := 5, sec := 1, subBus := 3 })] }
    (pciePort far 1 = true ∧ portUp far 1 = false ∧ partHome far (portPart far 1) ≠ far.dev) ∧ q.sec ≠ 0 ∧
      remoteEntry a 3 0 9 = some (5, 4) ∧ remoteEntry a 3 0 8 = none ∧ notReady a 3 = false ∧ routeEn a 5 = true ∧ routeDead a 5 = false ∧
      routeDead (advance 0 { remoted {} with spokes.spoke := [] }) 5 = true ∧ routeEn a 6 = false ∧
      notReady (advance 0 (remoted { inReset := true })) 3 = true ∧ ((vswDown a 3 0).find? fun b => portDevNum a b == 1) = some 1 ∧
      ((vswDown a 3 0).find? fun b => portDevNum a b == 9) = none ∧ pciePort a 3 = false ∧
      (advance 0 { live with errs.c4 := true }).errs.c4 = true ∧ vfOfRid vf 3 512 = some 9 ∧ vfOfRid vf 3 513 = none ∧
      ((vf.part 3).vfEnable && decide (512 < (vf.port 0).sec * 256 + 256 + (vf.part 3).numVfs) && portVsw vf 0 == 0) = true ∧ q.sec < 2 ∧
      2 ≤ q.subBus := by decide +kernel
theorem wit_ConfigurationSpace_pme : let a (w : List (Nat × Nat)) : State := advance 0 { live with pcie.part := [(3, { pmeWait := w, nfLast := some (100 * oneSec) })] }
    let far : State := advance 0 (remoted {})
    upstreamPort (a []) 3 0 = some (0, 0) ∧ ((0, 1) ∉ ((a []).part 3).pmeWait) ∧ ((0, 1) ∈ ((a [(0, 1), (0, 2)]).part 3).pmeWait) ∧
      [(0, 1), (0, 2)].filter (· != ((0 : Nat), (1 : Nat))) = [(0, 2)] ∧ [(0, 1), (1, 2)].filter (· != ((0 : Nat), (1 : Nat))) = [(1, 2)] ∧
      ((List.range 31).map fun i => far.cfg 0x11 3 i).filter (fun e => rb e 31 && rf e 12 11 == 0) ≠ [] ∧
      ((vswDown live 3 0).filter fun q => (live.port q).up) ≠ [] ∧ portHp (advance 0 live) 1 = false ∧
      ((a []).part 3).nfLast = some (100 * oneSec) ∧ live.now < 100 * oneSec + nfGap live ∧ ((a []).part 3).nfHeld = false ∧
      portEn live 127 = false := by decide +kernel

/-! Frames and the bridge. -/

/-- A TLP at a port that is off, at one whose bridge blocks it, and at one that a failed ECRC takes into DPC. -/
theorem wit_FramesAreAdmitted_checks : let t : Tlp := { kind := .memWrite, addr := 4096, rid := 0x500, ecrc := 2 }
    let a (q : Port) : State := advance 0 (p1 q)
    let c := portUncorrectable 1 19 (a { up := true, ecrcCheck := true, dpcEnable := true })
    pciePort (advance 0 live) 3 = false ∧ acsViolates (a { up := true, acs := 1 }) 1 t = true ∧
      acsViolates (a { up := true }) 1 t = false ∧ pciePort (a {}) 1 = true ∧ (c.port 1).dpcTriggered = true ∧
      (c.port 0).dpcTriggered = false ∧ ((a { up := true, dpcTriggered := true }).port 1).dpcTriggered = true := by decide +kernel
theorem wit_FramesAreAdmitted_kinds : let held : State := holding [aFrame 1 .waiting]
    portEn live 127 = false ∧ portEn live 1 = true ∧ portSpoke live 1 = none ∧ live.errs.c4 = false ∧
      bridgeTakes (.message .pmeToAck) = true ∧ streamWaits held 0 0 = true ∧ streamWaits live 0 0 = false ∧
      bridgeTakes .memRead = false := by decide +kernel
/-- Waiting frames: refused under a new epoch, fenced, without a route, for the bridge, and held by an earlier one. -/
theorem wit_FramesAreAdmitted_waits : let a (fs : List Frame) (f : State → State) : State := advance 0 (f (holding fs))
    let w := { aFrame 1 .waiting with stamp := 100 * oneSec }
    let far := { w with dstDev := 5, dstPort := 4, outPort := 10 }
    let cut (s : State) : State := { s with spokes.spoke := [] }
    (let b := relookup w (a [w] (fun s => { s with conf.epoch := 1 })); w.epochStaged ≠ (1 : Nat) ∧ findFrame b 1 = none) ∧
      (let b := a [w] (fun s => { s with bridge.fences := [(3, 0, 1)] }); fencedNow b (reroute b w) = true) ∧
      (let b := a [far] cut; fencedNow b (reroute b far) = false ∧ pathDead b (reroute b far) = true) ∧
      (let f := { w with ends := some .bridge }; let b := a [f] id; pathDead b (reroute b f) = false ∧ holdOf b (reroute b f) = .ready) ∧
      (let g := { w with fid := 2 }; let b := a [w, g] id; findFrame b 2 = some g ∧ holdOf b (reroute b g) ≠ .ready) ∧
      findFrame live 1 = none := by decide +kernel
/-- Of two frames from one attachment the first one sends its cells; of two attachments the one with the higher service is admitted first. -/
theorem wit_FramesAreAdmitted_turns : let f := aFrame 1 .staged
    let g := { aFrame 2 .staged with att := 3, svc := 7 }
    let a (fs : List Frame) : State := advance 0 { holding fs with ft.count := 4096 }
    let turn (fs : List Frame) : Option Nat := (admitFirst (a fs) ((servedNow (a fs) (portStation (a fs) 1)).filter fun g => g.place == .staged)).map (·.fid)
    turn [f] = some 1 ∧ turn [f, { f with fid := 2 }] = some 1 ∧ turn [f, g] = some 2 ∧ age (a [f]) f < ms ∧ f.att < 21 := by decide +kernel
/-- Assembled frames that leave here: too long for the port, blocked, denied by the guard, and completions. -/
theorem wit_FramesAreAdmitted_leaving : let f := { aFrame 1 .bank with tlp := { (aFrame 1 .bank).tlp with addr := 4096 } }
    let a (q : Port) : State := advance 0 { p1 q with hub.frames := [f] }
    let opened : State := { a { up := true } with conf.entries := cfgPut small (recd 0x20 1 64 [(127, 127, 1), (122, 117, 52), (108, 105, 15)]) }
    leavesHere (a { up := true }) f = true ∧ portClosed (a { up := true }) f.dstPort = none ∧
      ((a { up := true, mps := 32 }).port 1).mps < f.tlp.payload ∧ f.tlp.payload ≤ ((a { up := true }).port 1).mps ∧
      (guardFrame (a { up := true }) { f with sub := 4 }).isSome = true ∧ guardFrame opened f = none ∧
      ((a { up := true, atomicBlock := true }).port 1).atomicBlock = true ∧ f.place = .bank ∧
      aFrame 1 .queued ≠ aFrame 1 .bank := by decide +kernel
/-- A RED hit; a queue beyond its share of the shared region; and a full bank with and without frames to push out. -/
theorem wit_FramesAreAdmitted_full : let big (svc : Nat) : Frame := { aFrame 2 .queued with rcv := true, svc := svc, region := .shared, tlp := { (aFrame 1 .queued).tlp with frameBytes := 64 * 45056 } }
    let s (fs : List Frame) : State := { holding fs with conf.entries := (banked 0 0 [recd 0x39 0 0 []]).conf.entries }
    let q := qOf (aFrame 1 .staged)
    redHit (s []) 1 q 0 (updatedAvg (s []) 1 q) = true ∧ sharedSize (s []) (portStation (s []) 1) = 45056 ∧
      cellsOf ((seenFrames (s [big 1]) 0).filter fun g => g.region == .shared) = 45056 ∧
      (pushoutVictims (s [big 0]) 0 1 2).map (·.fid) = [2] ∧ pushoutVictims (s [big 1]) 0 1 2 = [] ∧
      ¬ (0 + 2) * 64 ≤ 2 ^ rf ((banked 0 0 []).cfg 0x28 1 q) 27 24 * 15 := by decide +kernel
theorem wit_SelectionAndDeparture_otherwise : let f := { aFrame 1 .queued with stamp := 0 }
    let a := advance 0 { served 0 with ft.count := ms }
    let n : State := { served 0 with conf.epoch := 1 }
    ms ≤ age a f ∧
      (let g := { f with sub := 4 }; leavesHere n g && !g.test && g.epochGuard != n.conf.epoch && (guardFrame n g).isSome) = true ∧
      age n f < ms ∧ leavesHere n { f with srcDev := 5 } = true ∧ f.rcv = false ∧ f.tlp.kind = .memWrite ∧
      (advance 0 { live with errs.c4 := true }).errs.c4 = true ∧ findFrame live 1 = none ∧ ({ f with test := true } : Frame).test = true ∧
      f.place ≠ .sending := by decide +kernel
/-- Entries before their time, a completion too long for its port, and one that no entry has. -/
theorem wit_Bridge_otherwise : let e := anEntry none true
    let q := anEntry none false
    let a (e : TagEntry) : State := advance 0 { live with bridge.tags := [(65535, e)] }
    let key (s : State) (isLive : Bool) : Option (Nat × TagEntry) := s.bridge.tags.find? fun x => x.2.live == isLive && (x.2.asPart == 3 && x.2.asRid == 256 && x.2.wireTag == 9)
    let tr := { aTracker true with issued := 100 * oneSec - 8 * ms + 1 }
    live.now < ({ e with issued := 99 * oneSec + 1 } : TagEntry).issued + e.timeout ∧
      live.now < ({ q with freeAt := 100 * oneSec + 1 } : TagEntry).freeAt ∧ tfind live.bridge.tags 65535 = none ∧
      tfind live.bridge.trackers 32767 = none ∧ live.now < tr.issued + 8 * ms ∧
      live.now < ({ aTracker false with freeAt := 100 * oneSec + 1 } : Tracker).freeAt ∧ streamOf (.completion .sc) = 2 ∧
      streamOf .memRead ≠ 2 ∧ key (a e) true = some (65535, e) ∧ key (a q) true = none ∧ key (a q) false = some (65535, q) ∧ e.func = none ∧
      ((a e).port 0).mps < 256 ∧ ¬ ((a e).port 0).mps < 64 ∧ 64 < ({ e with remaining := 128 } : TagEntry).remaining ∧ e.remaining ≤ 64 ∧
      TlpKind.completion .ur ≠ .completion .sc := by decide +kernel
theorem wit_Bridge_answers : let r : AckRec := { dstDev := 5, dstPort := 4, srcPort := 0, svc := 1, seq := 9, nak := false, cause := 0, farTime := 0 }
    let s (isLive : Bool) : State := { live with bridge.trackers := [(32767, aTracker isLive)] }
    (s true).bridge.trackers.find? (fun x => x.2.live && answers r x.2) = some (32767, aTracker true) ∧
      tfind (s true).bridge.trackers 32767 = some (aTracker true) ∧
      (s false).bridge.trackers.find? (fun x => x.2.live && answers r x.2) = none ∧
      partHome (advance 0 visiting) 9 ≠ (advance 0 visiting).dev ∧ findEpisode live 0 63 63 127 = none ∧
      (let e : Episode := ⟨0, 63, 63, 127, 1, 100 * oneSec, {}, true⟩; closable { live with bridge.episodes := [e] } e = false) := by decide +kernel
/-- A grant that waits for the other semaphore; a yield of one that holds both, one or none; the last waiter, and a release that owns nothing. -/
theorem wit_PortSemaphores_otherwise : let a (q : LockSeq) : State := advance 0 { live with bridge.seqs := [q] }
    let h (i t : Bool) : LockSeq := { aSeq false with heldIngress := i, heldTarget := t }
    let m (x : Sem) : Sem := (advance 0 { live with bridge.sems := [(127, x)] }).sem 127
    let left (x : Sem) := (m x).waiters.filter fun w => !(w.2.1 == 5 && w.2.2 == 3)
    (∀ i : Bool, ∀ t : Bool, findSeq (a (h i t)) 0 = some (h i t) ∧ (h i t).locked = false) ∧ findSeq live 0 = none ∧
      (a (h false false)).bridge.seqs = [h false false] ∧ (h true false).targetDev ≠ live.dev ∧
      ({ aSeq false with targetDev := 0 } : LockSeq).targetPort ≠ (0 : Nat) ∧ left { owner := some (7, 5, 3) } = [] ∧
      (m { owner := some (7, 5, 3) }).owner = some (7, 5, 3) ∧ (m { owner := some (7, 6, 3) }).owner ≠ some (7, 5, 3) ∧
      (m { waiters := [(8, 6, 0)] }).owner = none ∧ (m { waiters := [(8, 6, 0)] }).waiters = (8, 6, 0) :: [] ∧ (m {}).waiters = [] ∧
      older (6, live.dev, 0) (7, live.dev, 3) = true ∧ (7, live.dev, 3).2.1 = live.dev ∧ portEn live 127 = false := by decide +kernel
/-- A locked read that finds its way to P1, one that finds none, and one while a sequence is open. -/
theorem wit_PortSemaphores_arrival : let q : Port := { up := true, memEnable := true, memLimit := 8191 }
    let t : Tlp := { kind := .memReadLocked, addr := 4096, len := 64, rid := 256 }
    let goes (s : State) (t : Tlp) : Option (Nat × Nat) := match lookup s (.pcie 0) t with
      | .go d p _ _ => some (d, p)
      | _ => none
    pciePort (advance 0 (p1 q)) 0 = true ∧ ((advance 0 (p1 q)).port 0).ecrcCheck = false ∧ t.ecrc ≠ 2 ∧
      acsViolates (advance 0 (p1 q)) 0 t = false ∧ goes (advance 0 (p1 q)) t = some (0, 1) ∧
      goes (advance 0 (p1 q)) { t with addr := 8192 } = none ∧ findSeq (advance 0 (p1 q)) 0 = none ∧
      findSeq (advance 0 { p1 q with bridge.seqs := [aSeq false] }) 0 ≠ none ∧
      ((received 0 t (advance 0 (p1 q))).hub.frames.any fun f => decide ((advance 0 (p1 q)).hub.nextFid ≤ f.fid) && f.srcPort == 0) = true := by decide +kernel

/-! Spokes: control beats, bring-up, fabric time. -/

/-- The octet and D[39:0] that spoke 2 reads of a beat, and whether it is good. -/
def readCtl (x : Spoke) (v : Beat) : Nat × Nat × Bool :=
  let c := ctlBeat (settleSwitch 2 (advance 0 (spoke2 x))) 2 v; (c.octet, c.d, c.good)
/-- The beats of Table 6.1 on 8 and on 7 lanes, with the all-ones D[39:0]; one with a lane's code-group wrong, and a data beat. -/
theorem wit_ControlBeats_beats : let x : Spoke := { state := 6 }
    let y : Spoke := { state := 6, active := 0xFE }
    let big := 2 ^ 40 - 1
    (∀ o ∈ [0x1C, 0x5C, 0x7C, 0x9C, 0xDC, 0xFB], readCtl x (ctl x o big) = (o, big, true) ∧ readCtl y (ctl y o 0) = (o, 0, true)) ∧
      (readCtl x ((ctl x 0x1C big).set 3 0)).2.2 = false ∧ (readCtl x ((coded x (dataBeats 8 (List.replicate 8 7))).getD 0 [])).2.2 = false ∧
      ((advance 0 (spoke2 { state := 4 })).spoke 2).state = 4 ∧ ((advance 0 live).spoke 3).state < 2 := by decide +kernel
theorem wit_ControlBeats_retire : let x : Spoke := { state := 6 }
    let c (phase copy : Nat) : Nat × Nat × Bool := readCtl x (ctl x 0xFB (beatData 7 (2 * 7 + phase) copy))
    let sw (n : Nat) : Spoke := { state := 6, rx := { switch := some (7, n) } };
      (∀ copy ∈ [0, 3], (c 0 copy).2.2 = true ∧ bits (c 0 copy).2.1 39 37 = 7 ∧ bit (c 0 copy).2.1 36 = false ∧ bits (c 0 copy).2.1 35 34 = copy) ∧
      bit (c 1 0).2.1 36 = true ∧ bit x.active 7 = true ∧ x.rx.switch = none ∧ laneCount { x with active := 0xFE } ≠ 8 ∧ bit 0xFE 7 = true ∧
      bit 0xFE 0 = false ∧ (sw 1).rx.switch = some (7, 1) ∧ (sw 2).rx.switch = some (7, 2) := by decide +kernel
theorem wit_ControlBeats_timers : let r (x : Spoke) : Spoke := (advance 0 (spoke2 x)).spoke 2
    let t := 2 ^ rf (spokeRec live 2) 43 40 * 256 * ns
    let w (p f : Nat) : Spoke := { state := 6, tx := { replay := [aCell 0 0], progress := p, fires := f } }
    r { state := 6, rx := { lastRetry := some (100 * oneSec - us) } } = { state := 6, rx := { lastRetry := some (100 * oneSec - us) } } ∧
      100 * oneSec - us + us ≤ live.now ∧ live.now < 100 * oneSec - us + 1 + us ∧
      (r { state := 6, rx := { owedAck := some (100 * oneSec - 128 * ns) } }).rx.owedAck = some (100 * oneSec - 128 * ns) ∧
      live.now < 100 * oneSec - 128 * ns + 1 + 128 * ns ∧ (r (w (live.now - t) 6)).tx.replay = aCell 0 0 :: [] ∧
      (w (live.now - t) 6).tx.fires < 7 ∧ (w (live.now - t) 6).tx.progress + t ≤ live.now ∧ 7 ≤ (w 0 7).tx.fires ∧
      live.now < (w (live.now - t + 1) 0).tx.progress + t ∧ 5 ≤ (r { state := 5 }).state ∧ (r { state := 4 }).state < 5 ∧
      (0x600 : Nat) ≤ 0xFFFF ∧ ((advance 0 live).spoke 3).state = 0 ∧ (r { state := 1 }).state ≠ 6 := by decide +kernel
/-- A bucket that ends its move without any spoke, one that stays, and one whose way back is not clear or not due. -/
theorem wit_ControlBeats_bucketsEnd : let m (x : Bucket) (f : State → State) : State := advance 0 (f { live with spokes.buckets := [(80, x)] })
    let w (t : Nat) : Bucket := { spoke := some 3, backSince := some (99 * oneSec), readyAt := some t }
    let mv : Bucket := { spoke := some 2, movingSince := some (100 * oneSec - ms) }
    routeDead (putBucket 5 0 { mv with movingSince := none } (m mv (fun s => { s with spokes.spoke := [] }))) 5 = true ∧
      routeDead (putBucket 5 0 { mv with movingSince := none } (m mv id)) 5 = false ∧
      (let x : Bucket := { mv with spoke := some 3 }; let u := putBucket 5 0 { x with movingSince := none } (m x id); homeSpoke u 5 0 = some 2 ∧ spokeUp u 2 = true ∧ x.spoke ≠ some 2) ∧
      ((live.bucket 5 0).movingSince = none) ∧ live.now < 100 * oneSec - ms + 1 + ms ∧
      bucketClear (m (w (100 * oneSec - 2 * us)) id) 5 0 = true ∧ live.now < 100 * oneSec - 2 * us + 1 + 2 * us ∧
      bucketClear (m (w 0) (fun s => { s with spokes.spoke := [(2, { state := 6 }), (3, { state := 6, tx := { lastSent := [(80 * 32, 3)] } })] })) 5 0 = false ∧
      homeSpoke live 5 0 = some 2 ∧ homeSpoke live 6 0 = none := by decide +kernel
/-- Alignment with no, one and two lanes missing of 8 and of 7; identity with a partner the record names or not, and with 6 and 7 common lanes; the other ends of the steps. -/
theorem wit_BringUp_steps : let missing (active aligned : Nat) : List Nat := (onesBelow active 8).filter fun i => !bit aligned i
    let checked : State := { spoke2 { state := 3, peerKnown := true, peerDev := 9 } with conf.entries := cfgPut small (recd 0x06 2 0 [(63, 57, 10), (56, 51, 8), (50, 50, 1), (48, 48, 1), (47, 45, 6)]) }
    missing 255 255 = [] ∧ missing 255 127 = 7 :: [] ∧ missing 255 63 = 6 :: 7 :: [] ∧ missing 127 63 ≠ [] ∧
      laneCount { active := 127 } ≠ 8 ∧ laneCount ({ state := 2, localDone := false } : Spoke) = 8 ∧ rb (spokeRec checked 2) 50 = true ∧
      (checked.spoke 2).peerDev ≠ rf (spokeRec checked 2) 56 51 ∧ popcount (255 &&& 63) 8 < 7 ∧ 7 ≤ popcount (255 &&& 254) 8 ∧
      (∀ w : Bool, ((advance 0 (spoke2 { state := 4, localWarm := w })).spoke 2).localWarm = w) ∧ bit 4 2 = true ∧ bit 3 2 = false ∧
      bit 7 3 = false ∧ bit 8 3 = true ∧ ((advance 0 (spoke2 { state := 6, nextTry := some 0 })).spoke 2).state ≠ 0 ∧
      live.now < 100 * oneSec + 1 := by decide +kernel
/-- What spoke 2 reads of a TRAIN message. -/
def readTrain (x : Spoke) (t : Train) (garble : List Beat → List Beat) : Option Train :=
  (partsOf 9 0 3 (ctlBeats (settleSwitch 2 (advance 0 (spoke2 x))) 2
    (garble (coded x ((partData 0 (trainValues t)).map (controlBeat 8 0xFE)))))).map trainOf
theorem wit_BringUp_train : let t (flags : Nat) : Train := ⟨2 ^ 48 - 1, 255, flags, 63, 7, 15, 8⟩
    let looped : State := { spoke2 { state := 3 } with count.loops := [aRun 5 2 0] }
    let s : State := { spoke2 { state := 3, peerMask := 255, peerSn := 9, peerKnown := true, localWarm := false } with lanes.store := [(2, { mask := 255, sn := 9 })] }
    (∀ n ∈ [2, 3, 4, 5, 6], readTrain { state := n } (t 31) id = some (t 31)) ∧
      readTrain { state := 2 } (t 0) (fun bs => bs.drop 1) = none ∧
      readTrain { state := 2 } (t 0) (fun bs => bs.map fun b => b.set 5 0) = none ∧ bit (t 31).flags 4 = true ∧
      loopRuns (advance 0 looped) 5 2 = true ∧ loopRuns (advance 0 live) 5 2 = false ∧ mayWarm s 2 ≠ (s.spoke 2).localWarm ∧
      bit (t 15).flags 4 = false ∧ bit (t 14).flags 0 = false ∧ bit (t 31).flags 2 = true ∧ bit (t 3).flags 2 = false ∧
      bit (t 31).flags 3 = true ∧ bit (t 7).flags 3 = false := by decide +kernel
theorem wit_Lanes_otherwise : let a := advance 0 { live with lanes.lane := [(0, { margining := true, truedAt := some (100 * oneSec) })], spokes.spoke := [(2, { state := 6, rx := { lastError := 100 * oneSec } })] }
    let m : MarginStep := { start := true, voltage := true, steps := -64 }
    truingHeld a 0 = false ∧ live.now < 100 * oneSec + truingInterval a 0 ∧ (∀ t, ((advance 0 live).lane 0).truedAt = some t → False) ∧
      (a.lane 0).margining = true ∧ worstEye true [] = none ∧ lanePam4 a 0 = true ∧ worstEye true [(8, 3), (7, 9), (7, 1)] = some (7, 9, 1) ∧
      lanePam4 a 16 = false ∧ worstEye false [(8, 3)] = some (8, 3, 0) ∧ laneCarries a 319 = false ∧ stationMode a (0 / 16) = 1 ∧
      m.steps.natAbs ≤ 64 ∧ ¬ (65 : Int).natAbs ≤ 64 ∧ stationMode a (16 / 16) ≠ 1 ∧ live.now < (a.spoke 2).rx.lastError + ms ∧
      ((advance 0 live).spoke 2).copiedAt = none := by decide +kernel
/-- The VALUE fields that spoke 2 reads of a control message. -/
def readParts (s : State) (octet kind sub n : Nat) (vs : List Nat) : Option (List Nat) :=
  let e := settleSwitch 2 (advance 0 s)
  partsOf kind sub n (ctlBeats e 2 (coded (e.spoke 2) ((partData sub vs).map (controlBeat (laneCount (e.spoke 2)) octet))))
theorem wit_TimeAndPlumb_messages : let top := 2 ^ 32 - 1
    let seven : State := spoke2 { state := 6, active := 0xFE }
    let q (seq : Nat) : List Nat := timeReqValues (2 ^ 64 - 1) seq
    let r := timeRespValues (ms - 5 * us) (2 ^ 32 - 1) 255 63 7 true
    readParts live 0xF7 6 1 3 (q 255) = some (q 255) ∧ readParts seven 0xF7 6 1 3 (q 0) = some (q 0) ∧
      readParts live 0xF7 6 2 4 r = some r ∧ readParts live 0xFD 8 0 3 [top, top, top] = some [top, top, top] ∧
      readParts live 0xF7 6 2 4 (q 0) = none ∧ ((advance 0 live).spoke 3).state < 2 ∧ spokeUp (advance 0 (spoke2 { state := 4 })) 2 = false ∧
      bits (r.getD 3 0) 31 24 = 255 ∧ bits (r.getD 3 0) 23 18 = 63 ∧ bit (r.getD 3 0) 11 = true := by decide +kernel
/-- A yield to a lower master, the steering of the upstream, and exchanges that count for nothing. -/
theorem wit_TimeAndPlumb_exchange : let x : SpokeTime := { seq := 255, t1 := some (ms - 10 * us) }
    let a (m : Bool) : State := advance 0 (timing m x)
    let s (o : Int) : Int := |o|
    (a true).dev ≤ 0 ∧ (0 : Nat) < (({ live with chip.devnum := 5 } : State).dev) ∧ (254 : Nat) ≠ x.seq ∧
      ms - 10 * us - 1 + 10 * us < (a true).ft.count ∧ ((spoke2 { state := 6, exchangeSpoiled := true }).spoke 2).exchangeSpoiled = true ∧
      s (us : Int) ≤ (us : Int) ∧ (us : Int) < us + 1 ∧ -(us : Int) - 1 < -(us : Int) ∧ s (-2 * ns : Int) ≤ 2 * (ns : Int) ∧
      50 * (ns : Int) < s (-50 * ns - 1 : Int) := by decide +kernel
theorem wit_TimeAndPlumb_plumb : let d := digestPfx live.conf.digest
    (0 : Nat) = live.conf.epoch ∧ (2 ^ 32 - 1 : Nat) ≠ live.conf.epoch ∧ d / 2 ^ 32 * 2 ^ 32 + d % 2 ^ 32 = digestPfx live.conf.digest ∧
      max ((spoke2 { state := 6, upAt := live.now - 30 * ms + 1 }).spoke 2).upAt (live.stime 2).plumbAt + 30 * ms = live.now + 1 ∧
      spokeUp (advance 0 live) 3 = false ∧ upSpokes (advance 0 { live with spokes.spoke := [] }) = [] ∧
      (advance 0 { live with ft.master := false, ft.locked := true, ft.lastValid := 100 * oneSec - ms + 1 }).now < 100 * oneSec - ms + 1 + ms ∧
      live.ft.master = true := by decide +kernel

/-! The mover, the tandem, measurement, endurance. -/

theorem wit_MoverRings_otherwise : let sleepy : State := { moving { state := 1 } [] with pcie.part := [(3, { f1D3 := true })] }
    let q : Func := { state := 1, ringEn := true, sqTail := 1 }
    let a := advance 0 (moving q ((List.range (funcContexts 515)).map fun c => { aJob .bound [] with ctx := c }))
    let b := advance 0 (moving { q with tagsBusy := List.range (funcTags 515) } [])
    ((advance 0 sleepy).part (funcPart sleepy 515)).f1D3 = true ∧ ((advance 0 (moving { state := 3 } [])).func 515).state = 3 ∧
      ((advance 0 (moving { state := 2 } [])).func 515).state ≠ 0 ∧ jobsOf a 515 ≠ [] ∧ a.func 515 = q ∧
      (List.range (funcContexts 515)).find? (fun c => (findJob a 515 c).isNone) = none ∧ busReady a 515 = true ∧ freeReadTag b 515 = none ∧
      (findJob b 515 0).isNone = true ∧ busReady b 515 = true := by decide +kernel
/-- A coded job of 2 shards whose source shards lie at an address. -/
def coding (src : Nat) : Job := { aJob .tableRead [] with
  desc := [quad [(63, 56, 3), (50, 50, 1)], quad [(63, 59, 1), (58, 56, 1), (55, 51, 12), (30, 0, 4096)], 0x100000, 0x200000] ++ List.replicate 12 0
  table := (List.range 16).flatMap fun _ => leBytes 8 src ++ leBytes 8 0x300000 }
/-- Jobs that fail in a phase, that are coded, that end with their function, and an ordered one behind an older one. -/
theorem wit_MoverRings_jobsEnd : let d (q : Func) (js : List Job) : State := advance 0 (moving q js)
    let f := { aJob .fetching [] with tags := [5] }
    let o := { aJob .ready [] with order := 1, desc := [quad [(63, 56, 1), (52, 52, 1)]] }
    findJob (d { dying := true } [f]) 515 0 = some f ∧ f.phase = .fetching ∧ findJob (advance 0 live) 515 0 = none ∧ CplStatus.ca ≠ .sc ∧
      JobPhase.bound ∉ [JobPhase.fetching, .tableRead, .ready] ∧ descOk (seeded (coding 0x1000)) = true ∧ jCoded (coding 0x1000) = true ∧
      (freeReadTag (d {} []) 515).isSome = true ∧ tableOk { coding 0x1000 with table := (coding 0x1000).table.take 384 } = true ∧
      tableOk { coding 0x1008 with table := (coding 0x1008).table.take 384 } = false ∧
      leastLoaded (advance 0 { moving {} [] with mover.engine := (List.range 4).map fun e => (e, { inService := false }) }) = none ∧
      jOrder o = true ∧ jobsOf (d {} [aJob .ready [], o]) 515 = [aJob .ready [], o] ∧ (aJob .ready []).order < o.order := by decide +kernel
/-- A job's first column with and without room for it, a job with no column left, and a job and column that are not there. -/
theorem wit_ColumnsAreMoved_otherwise : let j := { aJob .bound [] with coefReady := true }
    let a (q : Func) (j : Job) : State := advance 0 (moving q [j])
    findJob (a {} j) 515 0 = some j ∧ j.cols.find? (fun c => !c.reserved && !c.issued) = none ∧ j.nextCol < numCols j ∧
      0 + colNeed j 0 ≤ funcShare 515 ∧ funcShare 515 < 262144 + colNeed j 0 ∧ ((a { staging := 262144 } j).func 515).staging = 262144 ∧
      numCols j ≤ ({ j with nextCol := numCols j } : Job).nextCol ∧ (aJob .bound []).coefReady = false ∧ boundFuncs (advance 0 live) 3 = [] ∧
      strictLeaf (advance 0 live) 3 = none ∧ weightedLeaf (advance 0 live) 3 = none ∧
      live.now < ((advance 0 { live with mover.engine := [(3, { grantedTo := 100 * oneSec + 1 })] }).engine 3).grantedTo ∧
      findRead (a {} j) 515 5 = none ∧ (aJob .bound []).cols.find? (fun x => x.idx == 0) = none ∧ (aJob .bound []).engine ≠ some 3 ∧
      ({ aJob .bound [] with error := some (7, 0) } : Job).error ≠ none ∧ (issuedCol [] 1 0).issued = true ∧
      live.now < ({ issuedCol [] 1 0 with handedAt := live.now - 4 * ms + 1 } : Column).handedAt + 4 * ms ∧
      ({ issuedCol [] 1 0 with issued := false } : Column).issued = false := by decide +kernel
/-- A notice that fits its frame, and ones that do not. -/
theorem wit_ColumnsAreMoved_stray : let w : WorkTag := ⟨0, 515, 0, 0, 0, 0, 0, 0⟩
    let c := issuedCol [] 1 0
    let a := advance 0 (moving { state := 1 } [aJob .bound [c]])
    findJob a w.func w.ctx = some (aJob .bound [c]) ∧ (aJob .bound [c]).ctxSeq = w.ctxSeq ∧ c.issued = true ∧ c.gen % 8 = w.gen ∧
      c.notices = [] ∧ c.frames.find? (fun x => x.1 == w.shard && x.2.1 == w.frame) = some (0, 0, 0) ∧
      c.frames.find? (fun x => x.1 == 1 && x.2.1 == w.frame) = none ∧ (0 : Nat) ∉ [6, 7, 9] ∧
      findJob (advance 0 live) w.func w.ctx = none := by decide +kernel
theorem wit_Completion_otherwise : let j := { aJob .bound [] with nextCol := 1 }
    let q : Func := { state := 1, cqLog2 := 4, cqTail := 15, cqHead := 0 }
    let e (x : Engine) : Engine := (advance 0 { live with mover.engine := [(3, x)], mover.jobs := [granting 515] }).engine 3
    ((advance 0 (moving q [j])).func 515) = q ∧ (q.cqTail + 1) % 2 ^ q.cqLog2 = q.cqHead ∧ jobEnds (aJob .bound []) = false ∧
      (jobStatus { j with error := some (7, 9) }) = (7, 9, 0) ∧ jOp j < 5 ∧ (e {}).drainMb = none ∧
      (e { drainMb := some 64, drainUntil := 100 * oneSec + 1 }).drainUntil = live.now + 1 ∧ (e { testing := true }).testing = true ∧
      (e { drainMb := some 64 }).testing = false := by decide +kernel
theorem wit_TandemHeads_otherwise : let t (m : Bool) (x : Tandem) : State := advance 0 (paired m x)
    let back : Tandem := { role := 0, returning := true }
    let beat : Tandem := { role := 1, handoverAt := some 7 }
    (t false { role := 2 }).tandem.configuredRole = 2 ∧ coreRuns (t false back) = true ∧ inDeviceReset (t false back) = false ∧
      (t false back).tandem.configuredRole < 2 ∧
      ((advance 0 { paired false back with ft.locked := true }).tandem.returning = true ∧ (advance 0 { paired false back with ft.locked := true }).tandem.handoverAt = none) ∧
      (t false back).ft.master = false ∧ live.now < ({ role := 1, lastBeat := live.now - 800 * us + 1 } : Tandem).lastBeat + 800 * us ∧
      live.now < live.now - 800 * us + 1 + 800 * us ∧ (t true beat).ft.master = true ∧ (t true beat).tandem.handoverAt = some 7 ∧
      (advance 0 { paired true beat with ft.count := 6 }).ft.count < 7 ∧ 7 ≤ (advance 0 { paired true beat with ft.count := 7 }).ft.count ∧
      0 + 1 = 1 ∧ (1 : Nat) + 1 ≠ 1 ∧ (t false beat).tandem.partner = 1 ∧ (0 : Nat) < 2 ^ 64 ∧ (t false { role := 0 }).tandem.role ≠ 1 ∧
      (advance 0 { paired false back with ft.yielded := some 0 }).now < (100 * oneSec + 1) ∧ live.ft.yielded = none ∧ (65535 : Nat) < 65536 ∧
      512 < (List.replicate 513 (0 : Word64)).length := by decide +kernel
theorem wit_Snapshots_otherwise : let s (c : Count) : State := advance 0 { live with count := c, ft.count := 10 * ms }
    (s { pending := some (10 * ms + 1) }).ft.count < 10 * ms + 1 ∧
      (s { pending := some (10 * ms), snapFabric := true }).count.snapFabric = true ∧ timeLocked (s { snapFabric := true }) = true ∧
      timeLocked (advance 0 { live with ft.master := false }) = false ∧ (s {}).count.copying = false ∧
      (s { copying := true }).count.copying = true ∧ (s { snapMb := some 66 }).count.snapMb ≠ none ∧
      (s { snapWait := [63], snapMb := some 66 }).count.snapWait.filter (· != 63) = [] ∧
      (s { snapFabric := true, snapMb := some 66, snapAt := 1 }).ft.count < 1 + 10 * ms ∧
      (s { snapFabric := true, pending := some 0 }).count.pending ≠ none := by decide +kernel
theorem wit_Windows_otherwise : let u : BwUnit := { mb := 64, port := 1, start := 7, winUs := 1, started := true, outBytes := [(0, 5), (1, 9)], dir := 2, subLog2 := 0, inBytes := [] }
    let a (l : LoopRun) : State := advance 0 { live with count.loops := [l] }
    let young (d : Nat) : LoopRun := { aRun d 1 9 with started := 100 * oneSec }
    (advance 0 { live with count.bw := [(7, u)], ft.count := 7 + us - 1 }).ft.count < u.start + u.winUs * us ∧
      tfind live.count.bw 7 = none ∧ u.outBytes ≠ [] ∧ findLoop (a (young 4)) (4, 1) = some (young 4) ∧
      (a (young 1)).count.loops.find? (fun l => l.target == 1 && decide (l.depth ≤ 3) && l.state == 1) = some (young 1) ∧
      live.now < (young 1).started + ms ∧ live.now < (young 4).started + (young 4).duration * us ∧ (aRun 4 1 0).duration = 0 ∧
      findLoop live (4, 1) = none ∧ (aRun 4 1 1).started + (aRun 4 1 1).duration * us ≤ live.now ∧ 3 < (aRun 4 1 1).depth ∧
      (aRun 3 1 1).depth ≤ 3 := by decide +kernel
theorem wit_Power_otherwise : let a (p : Power) : State := advance 0 { live with power := p }
    let hot : State := { live with chip.orderingXt := true }
    coreRuns (advance 0 { live with chip.booting := true }) = false ∧
      inDeviceReset (advance 0 { live with chip.resetPin := true }) = true ∧ (advance 0 hot).chip.orderingXt = true ∧
      coreRuns (advance 0 hot) = true ∧ (a { stage := 4, stageAt := 99 * oneSec }).power.stage ≤ 4 ∧
      (a { stage := 4, stageAt := 99 * oneSec }).power.stageAt + oneSec ≤ live.now ∧
      live.now < (a { stage := 4, stageAt := 99 * oneSec + 1 }).power.stageAt + oneSec ∧ live.power.capW = 0 ∧
      (a {}).power.vddStep = (a {}).power.vddTarget ∧
      (a { vddTarget := 0, vddStep := 3 }).power.vddTarget < (a { vddTarget := 0, vddStep := 3 }).power.vddStep ∧
      coreRuns (advance 0 live) = true ∧ mcRuns (advance 0 { live with mgmt.restartAt := some 0, mgmt.serving := false }) = false ∧
      [(64 : Int), 65, 101].length = 3 := by decide +kernel
theorem wit_Ageing_otherwise : let n (g : Aging) : State := advance 0 { live with aging := g }
    coreSeconds (n {}) < (n {}).aging.lastRun + (n {}).aging.intervalD * 86400 ∧ tfind (n {}).aging.notices 1 = none ∧
      live.now < 100 * oneSec + 1 * oneSec ∧ (n { notices := [(1, 100 * oneSec)], noticeS := 1 }).aging.noticeS = 1 ∧
      (n { running := true, notices := [(1, 0)], allowStep := false }).aging.allowStep = false ∧
      (n { running := true, notices := [(1, 0)], allowStep := true }).aging.allowStep = true ∧
      maySteps (n { notices := [(1, 0)] }) 3 = false ∧ ((n {}).port 2).up = false ∧
      (n { inRegion := true, region := 8302 }).aging.region < 8304 ∧ (n { inRegion := true, region := 8302 }).aging.region ≠ 8303 ∧
      (n {}).aging.inRegion = false ∧ live.now < 100 * oneSec + 1 + (n {}).aging.paceMs * ms := by decide +kernel

/-! Clauses over more than one object: turns, orders, and what waits for another. -/

/-- Revoked grants of the device lock and of the last partition's, and a free lock that goes to the other of two requests. -/
theorem wit_Locks_revoked : let r (l : Nat) : Req := ask 64 0x0211 0 0 [l * 2 ^ 56 + 2 ^ 55]
    let s : State := { live with mgmt.lock := [(4, { waiters := [(3, 0, 0), (5, 1, 0)] })] }
    (∀ l ∈ [0, 64], sentB five 0x0211 (r l) (advance 0 live) = true ∧ payloadBad (r l) [2 ^ 64 - 2 ^ 55] = none ∧ pf (r l) 0 63 56 = l ∧
      pf (r l) 0 55 55 = 1) ∧ (64 : Nat) = 1 + 63 ∧
      (let k := findLock (grantLock 4 (advance 0 s)) 4; k.owner = some 3 ∧ k.waiters = [(5, 1, 0)]) ∧
      acquires (grantLock 4 (advance 0 ({ s with
        mgmt.mailbox := [(5, { waiting := waitLock, state := 1, current := some (ask 5 0x0210 0 0 [4 * 2 ^ 56]) })] }))) 5 = some 4 := by decide +kernel
/-- A peg that another device carries here: applied, refused by the owner's peg, and one of its operator over it. -/
theorem wit_DeviceCommands_carried : let r (mb : Nat) : Req := { ask mb 0x0502 0 0 [1 * 2 ^ 51] with carried := some 5 }
    let a := advance 0 live
    let p := advance 0 { live with bridge.pegs := [(pegKey 1 0 0, 2)] }
    (∀ mb ∈ [3, 64], rOp (r mb) = 0x0502 ∧ payloadBad (r mb) [2 ^ 64 - 2 ^ 38] = none ∧ pf (r mb) 0 63 58 = a.dev ∧
      mayPeg a mb 0 1 0 0 = true ∧ preparedChanges a 1 0 0 = false) ∧ coreRuns a = true ∧
      pegOf a 1 0 0 ≠ 2 ∧ pegOf p 1 0 0 = 2 ∧ mayPeg p 3 0 1 0 0 = true := by decide +kernel
/-- A slot header that waits for its SEAL, and an update while nothing is committed. -/
theorem wit_Firmware_seal : let s : State := advance 0 { live with conf.write := some (0, 1), conf.sealing := true }
    s.conf.sealing = true ∧ mcRuns s = true ∧ s.conf.write.isSome = true ∧ (advance 0 live).conf.sealing = false ∧
      commitUnderWay (advance 0 live) = false ∧ (advance 0 live).chip.romRecovery = false := by decide +kernel
/-- Payloads in host memory that may and may not be read, opcodes with a handler and without one, and answers at once and later. -/
theorem wit_Mailboxes_handled : let a (m : Mailbox) : State := advance 0 { live with mgmt.mailbox := [(3, m)] }
    let hold (r : Req) : Mailbox := { state := 1, submittedAt := some 5, window := writeWindow [] 0 ([r.hdr0, r.hdr1] ++ r.pay) }
    let plain := hold (ask 3 0x0101 0 0 [])
    let odd := hold (ask 3 0x0FFF 0 0 [])
    let asked (m : Mailbox) : Req := { waitingReq (a m) 3 with mb := 3 }
    let fetch : Req := { ask 3 0x0501 1 3 [] with hdr1 := 0x1001, hdr0 := quad [(63, 48, 0x0501), (31, 30, 1), (29, 20, 3), (19, 0, 4096)] }
    let done : Answer → Bool := fun o => match o with
      | .done _ _ _ => true
      | .waits _ => false
    submits (a plain) = [(5, 3)] ∧ (asked plain).dma = .ok ∧ plain.dirty = false ∧ handlerOf (rOp (asked odd)) = none ∧
      rOp (asked plain) = 0x0101 ∧ mustFetch (asked plain) plain = false ∧
      ((handlerOf 0x0101).map fun h => done (h (asked plain) (taken (asked plain) (a plain))).1) = some true ∧
      ((handlerOf 0x0210).map fun h => done (h (ask 3 0x0210 1 3 [4 * 2 ^ 56]) (taken (ask 3 0x0210 1 3 [4 * 2 ^ 56]) (advance 0 live))).1) = some false ∧
      mustFetch (asked (hold fetch)) (hold fetch) = true ∧ fetchDenied (a (hold fetch)) fetch = false ∧
      fetchDenied { live with conf.entries := cfgPut small (recd 0x20 0 0 [(127, 127, 1), (122, 117, 52)]) } fetch = true ∧
      4088 < bufBytes 63 ∧ 65528 < bufBytes 65 ∧ bufBytes 66 ≤ 0 ∧ ((a { state := 2 }).mb 3).state = 2 := by decide +kernel
theorem wit_OtherEndpoints_message : let a := advance 0 live
    oobTakes a {} = true ∧ oobTakes a { msgType := 0x7E } = false ∧ oobTakes (advance 0 (mbIn 64 { state := 1 })) {} = true ∧
      ((advance 0 (mbIn 66 { state := 1 })).mb 66).state = 1 := by decide +kernel

/-- A frame that waits for its turn behind an earlier one of its stream, one whose route a commit has taken away, and a frame alone in staging. -/
theorem wit_FramesAreAdmitted_turn : let held : State := holding [aFrame 1 .waiting]
    let f := { aFrame 1 .staged with stamp := 100 * oneSec }
    let a := advance 0 (holding [f])
    let t : Tlp := { kind := .memWrite, addr := 4096, len := 64, payload := 64, frameBytes := 68, rid := 256 }
    (advance 0 { live with hub.stalled := true }).hub.stalled = true ∧ streamWaits held 0 0 = true ∧
      holdsRoom (emit (.ibi 1) held) 9 = false ∧ holdsRoom held 1 = true ∧ streamOf t.kind = 0 ∧
      routeGone (advance 0 (holding [])) { f with dstDev := 6 } = true ∧ routeGone (advance 0 (holding [])) { f with dstDev := 5 } = false ∧
      (let g := { aFrame 1 .waiting with ends := some .turn, stamp := 100 * oneSec }; holdOf (advance 0 (holding [g])) g = .ready) ∧
      f.place = .staged ∧ f.att < 21 ∧ xoffHolds a f = false ∧ 0 < fcells f ∧ (∀ g ∈ a.hub.frames, inStaging g = true → g = f) := by decide +kernel
/-- A selection in the tick of a commit, and one after it. -/
theorem wit_SelectionAndDeparture_commit : let a (n : Nat) : State := advance 0 { served 0 with conf.before := some (n, small) }
    let n := coreTick (advance 0 (served 0))
    (a n).conf.before = some (coreTick (a n), small) ∧ (∀ x, (a (n - 1)).conf.before = some x → x.1 ≠ coreTick (a (n - 1))) := by decide +kernel
/-- Episodes of the debug mailbox; a peg record that contains its partition, and one of a contained one. -/
theorem wit_Bridge_records : let e : Episode := ⟨0x0501, 64, 63, 127, 1, 99 * oneSec, {}, true⟩
    let r : ErrRec := { cause := 0x0B04 }
    findEpisode (advance 0 { live with bridge.episodes := [e] }) 0x0501 64 63 127 = some e ∧ closable { live with bridge.episodes := [e] } e = true ∧
      r.cause = 0x0B04 ∧ ((advance 0 live).part 3).contained = false ∧ partHome (advance 0 live) 3 = (advance 0 live).dev ∧
      ((advance 0 { live with pcie.part := [(3, { contained := true })] }).part 3).contained = true := by decide +kernel
/-- Releases at the owner's device, with and without an Unlock; a read that joins its sequence and one after its Unlock. -/
theorem wit_PortSemaphores_release : let a (u : Option Nat) : State := advance 0 { live with bridge.seqs := [{ aSeq true with unlock := u }] }
    let found (s : State) := s.bridge.seqs.find? fun q => seqAt s 0 q && q.targetPort == 4 && q.targetDev != s.dev
    found (a none) = some (aSeq true) ∧ found (advance 0 live) = none ∧ (aSeq true).unlock = none ∧
      found (a (some 2)) = some { aSeq true with unlock := some 2 } ∧ lastSeq (a none) 0 = some (aSeq true) ∧
      (lastSeq (a (some 2)) 0).map (·.unlock) = some (some 2) := by decide +kernel

/-- Feeds at 50 mV of each other, one step beyond, one that has turned off and one that is lost. -/
theorem wit_Feeds_compared : let a (x y : Feed) : State := advance 0 { live with slot.feedA := x, slot.feedB := y }
    let f (v : Nat) : Feed := { lost := false, vNow := v }
    feedReady ((a (f 3000) (f 3012)).feed false) = true ∧ feedReady ((a (f 3000) (f 3012)).feed true) = true ∧
      ¬ 50 < 4 * (3012 - 3000) ∧ 50 < 4 * (3013 - 3000) ∧ ((a { f 3000 with reversed := true } {}).feed false).reversed = true ∧
      feedReady ((a (f 3000) { lost := true }).feed true) = false ∧ ((a (f 3000) { lost := true }).feed true).lost = true := by decide +kernel
/-- A grant held since its channel's entry into ON, at its time and before it. -/
theorem wit_SlotChannels_held : let a (t : Time) : State := advance 0 { live with slot.aux := [(63, { onSince := some t })] }
    let hold := rf (slotRec live 0x4A 63) 15 8 * 100 * ms
    ((a (live.now - hold)).chanAux 63).onSince = some (live.now - hold) ∧ live.now - hold + hold ≤ (a 0).now ∧
      (a 0).now < live.now - hold + 1 + hold ∧ ((advance 0 live).chanAux 63).onSince = none := by decide +kernel
/-- Words of rows that no spare replaced: one that holds a frame, one that holds nothing; a table word in the tick of a swap. -/
theorem wit_MemoryErrors_held : let s (fs : List Frame) : State := { holding fs with errs.badRows := [(7, 0), (3, 0)] }
    let n := coreTick (advance 0 live)
    (7, 0) ∈ (advance 0 (s [])).errs.badRows ∧ heldAt 7 511 (advance 0 (s [])) = none ∧
      heldAt 3 511 (advance 0 (s [])) = some (.counterBank 63) ∧ 511 / 512 = 0 ∧
      swappedNow (advance 0 { live with conf.before := some (n, small) }) = true ∧ swappedNow (advance 0 live) = false ∧
      (pciePort (advance 0 (p1 { up := true })) 1 = true ∧ portUp (advance 0 (p1 {})) 1 = false ∧ portUp (advance 0 live) 0 = true) := by decide +kernel
/-- A host's request behind one that waits, at a link and at a tunnelled bridge. -/
theorem wit_ConfigurationSpace_turn : let held : State := advance 0 (holding [{ aFrame 1 .waiting with tlp := { kind := .memRead } }])
    cfgFromLink held 0 = true ∧ streamWaits held 0 1 = true ∧ holdsRoom (emit (.ibi 1) held) held.hub.nextFid = false ∧
      holdsRoom held 1 = true ∧ streamWaits (advance 0 live) 0 1 = false ∧ cfgFromLink (advance 0 live) 3 = false ∧
      (let s := advance 0 { visiting with conf.entries := cfgPut visiting.conf.entries (recd 0x04 1 0 [(63, 63, 1), (61, 56, 9), (50, 48, 4)]) }
       pciePort s 1 = true ∧ cfgFromLink s 1 = false) := by decide +kernel
/-- A PREEMPT between two parts of a cell, and IDLE beats in and out of their place. -/
theorem wit_ControlBeats_between : let x : Spoke := { state := 6 }
    let part := (coded x (dataBeats 8 (cellBytes (fullCell 0 0 0 4)))).take 1
    let u := settleSwitch 2 (part.foldl (takeBeat 2) (advance 0 (spoke2 x)))
    let c := ctlBeat u 2 (ctl (u.spoke 2) 0x5C (beatData 2 7 0))
    let idle (n : Nat) : Nat := idleWrong (activeLanes x) n (seenBeats (spoke2 x) 2 ((coded x [idleBeat 8 0]).take 1)).syms
    6 ≤ (u.spoke 2).state ∧ (u.spoke 2).rx.part.bytes ≠ [] ∧ c.good = true ∧ c.octet = 0x5C ∧ bits c.d 39 37 = 7 ∧ idle 0 = 0 ∧ idle 1 ≠ 0 := by decide +kernel
/-- A prepared configuration whose time has come before its swap is the one that PLUMB messages are held against. -/
theorem wit_TimeAndPlumb_own : let s (t : Nat) : State := advance 0 { armed t with ft.count := ms }
    (s ms).conf.prepared = some (prepared1 (some ms)) ∧ ms ≤ (s ms).ft.count ∧ (s (ms + 1)).ft.count < ms + 1 ∧
      (1, digestPfx 0x77) = ownPlumb (s ms) ∧ ownPlumb (s (ms + 1)) ≠ ownPlumb (s ms) ∧
      1 ≤ ((advance 0 (timing true { mismatches := 1 })).stime 2).mismatches := by decide +kernel
/-- A table read that has its tags and one that waits for them; empty completions; and a descriptor's that is not for a fetch. -/
theorem wit_MoverRings_tables : let j := { coding 0x1000 with phase := .tableWait }
    let a (q : Func) : State := advance 0 (moving q [j])
    let free (q : Func) : Nat := ((List.range (funcTags 515)).filter (tagFree (a q) 515)).length
    j.phase = .tableWait ∧ busReady (a {}) 515 = true ∧ (tableCuts (a {}) j).length ≤ free {} ∧ 0 < (tableCuts (a {}) j).length ∧
      free { tagsBusy := List.range (funcTags 515) } = 0 ∧ CplStatus.sc = .sc ∧ ([] : List Word64) = [] ∧
      (aJob .ready []).phase ≠ .fetching ∧ ({ state := 1 } : Func).state = 1 ∧ ({ state := 2 } : Func).state ≠ 1 := by decide +kernel
/-- Of a coded job's columns the lowest that has its reads issues next; a column that waits for its own, and one behind it that is read. -/
theorem wit_ColumnsAreMoved_order : let c (n : Nat) (r : List ReadReq) : Column := { idx := n, reserved := true, reading := r }
    let r : ReadReq := { tag := 5, key := 0, addr := 0x100000, at' := 0 }
    let j (cs : List Column) : Job := { aJob .bound cs with desc := descOf 1 }
    nextIssue (j [c 0 [], c 1 []]) = some (c 0 []) ∧ nextIssue (j [c 0 [r], c 1 []]) = none ∧ jOp (j []) ∉ [2, 5, 6] ∧
      jOp { aJob .bound [] with desc := descOf 2 } = 2 ∧ busReady (advance 0 (moving { state := 1 } [j []])) 515 = true := by decide +kernel
/-- An entry that must wait for an older one; an answer that its mailbox no longer awaits. -/
theorem wit_Completion_waits : let j := { aJob .bound [] with nextCol := 1 }
    let a := advance 0 { moving { state := 1, cqLog2 := 4 } [j, { j with ctx := 1 }] with mover.ended := [(515, 1), (515, 0)] }
    (a.mover.ended.find? fun x => x.1 == 515) ≠ some (515, 0) ∧ findJob a 515 0 = some j ∧
      ((advance 0 { live with mover.engine := [(3, { drainMb := some 64 })] }).mb 64).waiting ≠ waitEngine ∧
      (let g : Job → Job := fun k => { k with nextCol := numCols k }; jobEnds (g (aJob .bound [])) = true) := by decide +kernel

end Sys2Proof.Tests
end

