-- ==== Sys2Proof/Tests/Examples.lean ====
section
/-! SUPPORT. Tests: values of the manual's worked examples and tables. -/

namespace Sys2Proof.Tests

open Sys2Proof.Machine

set_option Elab.async false

/-- *Lanes*, the row's return: START 0b0101_0001 gives ports of 4, 2 and 2 granules; 0b0000_0101 would give granule 2 six. -/
theorem test_start_mask : [0, 4, 6].map (granuleWidth 0x51) = [4, 2, 2] ∧ granuleWidth 0x05 2 = 6 ∧
    recOk 0x01 (BitVec.ofNat 256 (pack [(63, 62, 1), (59, 52, 0x51), (48, 47, 1), (46, 45, 1)])) = true ∧
    recOk 0x01 (BitVec.ofNat 256 (pack [(63, 62, 1), (59, 52, 0x05), (48, 47, 1), (46, 45, 1)])) = false := by decide +kernel
/-- *Hub*, sizing a bank: 64 queues of 16 cells at P0 and two reserves of 2,048 cells leave 39,936 shared cells. -/
theorem test_shared_size : sharedSize { live with conf.entries := small ++ (List.range 64).map (fun q => recd 0x28 0 q [(13, 0, 16)]) ++
    [recd 0x29 0 5 [(15, 0, 2048)], recd 0x29 0 6 [(15, 0, 2048)]] } 0 = 39936 := by decide +kernel
/-- *Scheduling*, an ingest host pulled back: echoes at 944,000 Mb/s with MD 4, at 0, 5 and 12 µs, each of which starts the recovery timer. -/
def host : State := { live with conf.entries := cfgPut small (recd 0x34 0 3 [(107, 88, 1000), (87, 72, 1000), (71, 68, 3), (67, 64, 3), (63, 61, 4), (60, 60, 1), (15, 0, 68)]) }
def curRate (o : Host.Outcome State Fault Refusal) : Option Nat := (nextOf o).bind fun t => (tfind t.sched.cur 3).map (·.cur)
theorem test_echo : ingressCeiling host 0 3 = 944000 ∧ curRate (exec (.echoReceived 0 0 3) host) = some 708000 ∧
    curRate (exec (.echoReceived (5 * us) 0 3) { host with sched.cur := [(3, ⟨708000, some (100 * oneSec), 100 * oneSec⟩)] }) = some 708000 ∧
    curRate (exec (.echoReceived (12 * us) 0 3) { host with sched.cur := [(3, ⟨708000, some (100 * oneSec), 100 * oneSec + 5 * us⟩)] }) = some 531000 := by
  decide +kernel
/-- *Data Mover*: C[0][0] = inverse(4) = 0x47, and the coefficients of the degraded read of a 12+3 stripe. -/
theorem test_generator : cauchy 0 0 = 0x47 ∧ gfMul 4 0x47 = 1 ∧ gfMul 8 (cauchy 0 0) = 2 := by decide +kernel
/-- *Data Mover*, a 12+3 stripe: 32 rows, 1,024 columns of 48 KiB, 15 shards. -/
def encode12 : Job := { func := 77, ctx := 0, ctxSeq := 0, order := 0, slot := 0, desc := [quad [(63, 56, 3)], quad [(63, 59, 12), (58, 56, 3), (55, 51, 17), (50, 48, 5), (30, 0, 50331648)]] ++ List.replicate 14 0 }
theorem test_encode : descOk encode12 = true ∧ jRows encode12 = 32 ∧ numCols encode12 = 1024 ∧ colNeed encode12 0 = 49152 ∧
    (writeShards encode12).length = 15 := by decide +kernel
/-- *Data Mover*: the rebuild of shard 4 takes 8 times P0 and 0x02 times shard 0. -/
def rebuildDesc : List Word64 := [quad [(63, 56, 4)], quad [(63, 59, 12), (58, 56, 3), (55, 51, 17), (50, 48, 5), (30, 0, 1572864)]] ++
  List.replicate 7 0 ++ [quad [(39, 20, 16), (19, 0, 0x1FEF)]] ++ List.replicate 6 0
def rebuild4 : Job := { encode12 with desc := rebuildDesc }
theorem test_rebuild : descOk rebuild4 = true ∧ numCols rebuild4 = 32 ∧
    (jobCoefs rebuild4).map (fun r => (r.length, r.head?, r.getLast?)) = [(12, some 2, some 8)] := by decide +kernel
/-- *Spokes*: a parity shard frame of 4,112 bytes with its work tag takes 549 beats on 8 lanes and 630 on 7. -/
def shard : Frame := { fid := 0, tlp := { kind := .memWrite, len := 4096, payload := 4096, frameBytes := 4112 }, issued := 0, issuedRid := 0
                       issuedTag := 0, rcv := true, svc := 1, sub := 64, colour := 0, mark := false, srcDev := 0, srcPort := 0, dstDev := 4, dstPort := 0
                       outPort := 10, func := none, att := 20, origin := none, user := true, vf := none, window := none, stamp := 0, hops := 0
                       seq := 0, work := none, tagEntry := none, tracker := none, epochStaged := 0, epochGuard := 0, place := .sending
                       region := .none, rxSpoke := none }
theorem test_beats : ((cellsFor shard).map (cellBeats {})).sum = 549 ∧ ((cellsFor shard).map (cellBeats { active := 127 })).sum = 630 := by
  decide +kernel
/-- *Slot Power*, a shorted slot: at 12 V and 2.5 A into 0 V the energy budget of 50 mJ holds for 1,666 ticks and not for 1,667. -/
def shelfLimits : Rec := BitVec.ofNat 256 (pack [(63, 63, 1), (61, 54, 80), (53, 46, 50), (45, 38, 20), (37, 30, 12), (29, 22, 50), (21, 13, 50),
  (12, 9, 3), (8, 2, 108)])
def shortChan : Chan := { state := 2, present := true, gateAt := 100 * oneSec - 1665 * us, timer := some 1665, energy := 1665 * 12000 * 5000,
                          limits := some shelfLimits }
def shorted : State := { live with slot.chan := [(30, shortChan)] }
def afterShort (n : Nat) : Option (Nat × Nat × Nat) :=
  (nextOf (exec (.slotRampDone (n * us) 30 [⟨n, 5000, 12000, 0⟩]) shorted)).map fun t => ((t.chan 30).state, (t.chan 30).trigger, (t.chan 30).waitUntil)
theorem test_short : afterShort 1 = some (2, 0, 0) ∧ afterShort 2 = some (5, 2, 100 * oneSec + 2 * us + 100 * ms) := by decide +kernel
/-- *Commands*, capping one tenant: the header of MOVER_VF_SET and its entry. -/
def capping : Req := { mb := 5, hdr0 := 0x0701004240500010, pay := [0x4100280000010000, 0x01F4000000000040] }
theorem test_header : rOp capping = 0x0701 ∧ rSeq capping = 0x42 ∧ rScope capping = 1 ∧ rScopeId capping = 5 ∧ rLen capping = 16 ∧
    headerOk capping = true ∧ (entriesOf capping).map (fun e => (e.typ, e.a, e.words, rf e.data 63 44, rf e.data 15 0)) = [(0x41, 40, 1, 8000, 64)] := by
  decide +kernel
/-- *Containment*, a cache drive contained: quadwords 1 and 5 of the FIRST and the LAST record. -/
theorem test_records : let r : ErrRec := { seq := 0x1A2B, cause := 0x0402, cls := 1, fl := 2, epoch := 0x113, count := 1 }
    ((recordQuads r)[1]?, (recordQuads r)[5]?) = (some 0x00001A2B04023000, some 0x0000011300000001) ∧
    (let l := { r with seq := 0x1A2F, fl := 1, count := 52 }
     ((recordQuads l)[1]?, (recordQuads l)[5]?) = (some 0x00001A2F04022800, some 0x0000011300000034)) := by decide +kernel
/-- *PCIe Ports*, PT5: INTA below device 3 maps to INTD, below device 4 to INTA. -/
theorem test_wires : mappedWires 1 3 = 8 ∧ mappedWires 1 4 = 1 := by decide +kernel
/-- *Access Control*: a write that ends in the read-only rings is denied by guard entry 1, a read passes. -/
def guarded : State := { live with conf.entries := (recd 0x20 0 64 [(127, 127, 1), (122, 117, 30), (116, 109, 0x80), (106, 105, 3), (104, 103, 1), (102, 97, 3), (63, 15, 0x100000000 / 32768)] ::
  [recd 0x20 0 65 [(127, 127, 1), (122, 117, 27), (106, 106, 1), (63, 15, 0x138000000 / 32768)]]).foldl cfgPut small }
def drive (w : Bool) : Access :=
  { needR := !w, needW := w, user := true, srcPart := some 3, vf := none, debug := false, own := false }
theorem test_guard : guardDecide guarded 0 0x137FFFF00 512 (drive true) = some 1 ∧ guardDecide guarded 0 0x137FFFF00 512 (drive false) = none ∧
    guardDecide guarded 0 0x137FFFF00 256 (drive true) = none := by decide +kernel
/-- *Crossing*, the write stream: a window translates the address and the requester ID 0xF000. -/
def windowed : State := { live with conf.entries := (recd 0x18 12 0 [(255, 255, 1), (254, 249, 3), (248, 243, 9), (242, 237, 34), (191, 140, 0x8000000000 / 4096),
    (127, 76, 0x1000000000 / 4096)] :: recd 0x12 9 0 [(63, 56, 0xF0)] :: recd 0x10 9 0 [(31, 31, 1), (29, 24, 5), (23, 19, 2)] :: []).foldl cfgPut small }
theorem test_window : windowMatch windowed 3 0x8240001000 = some 12 ∧ windowMatch windowed 3 0x8400000000 = none ∧
    windowMatch windowed 9 0x8240001000 = none ∧ proxyId windowed 9 = 0xF000 := by decide +kernel
/-- *Management*, a lock under contest: at 10 µs mailbox 65 at priority 8, at 12 µs mailbox 64 at 12; then 65 at 15; then both at 12. -/
def contest (p65 : Nat) : Option Nat :=
  (bestWaiter { live with mgmt.prio := [(64, 12), (65, p65)] } [(65, 10 * us, 0), (64, 12 * us, 0)]).map (·.1)
theorem test_contest : contest 8 = some 64 ∧ contest 15 = some 65 ∧ contest 12 = some 65 := by decide +kernel
/-- *Endurance*, a year's wear: 8,000 h at 80 °C, 700 h at 90 °C and 66 h above 100 °C are 9,471.2 equivalent hours. -/
theorem test_wear : eqHours { charge := 3600 * (8000 * wearFactor 80 + 700 * wearFactor 90 + 66 * wearFactor 101) } = 94712 * 16 / 10 := by
  decide +kernel
/-- *Lanes*: L117 belongs to ST7 and is local lane 5, of half 0. -/
theorem test_lane : 117 / 16 = 7 ∧ spokeLane 14 5 = 117 := by decide
/-- The check values of CRC-32C and CRC-64 of the nine digits (their published definitions), and the SHA3-256 of no bytes. -/
def digits : List Byte := [0x31, 0x32, 0x33, 0x34, 0x35, 0x36, 0x37, 0x38, 0x39]
theorem test_crc : crc32c digits = 0xE3069283 ∧ crc64More 0 digits = 0x6C40DF5F0B497347 := by decide +kernel
theorem test_sha3 : sha3 [] = BitVec.ofNat 256 (ofLeBytes ([0xA7, 0xFF, 0xC6, 0xF8, 0xBF, 0x1E, 0xD7, 0x66, 0x51, 0xC1, 0x47, 0x56, 0xA0, 0x61, 0xD6, 0x62,
    0xF5, 0x80, 0xFF, 0x4D, 0xE4, 0x3B, 0x49, 0xFA, 0x82, 0xD8, 0x0A, 0x4B, 0x80, 0xF8, 0x43, 0x4A].map (BitVec.ofNat 8))) := by decide +kernel

end Sys2Proof.Tests
end

namespace Sys2Proof.Machine

/-! Quiet updates. Most updates of the state leave the records in force, the clock, the ports and the reset state of every partition as
they were, and only add to what is sent. -/

/-- The reset state of a partition: what its reset, hold, release and containment are about. -/
def resetState (q : Part) : Bool × Bool × Bool × Option Time × Bool := (q.perst, q.inReset, q.ready, q.readyAt, q.contained)

/-- From `s` to `t` the records, the chip, PERSTIN_N, the ports and each partition's reset state stay, and outputs are only added. -/
structure Quiet (s t : State) : Prop where
  conf : t.conf.entries = s.conf.entries
  chip : t.chip = s.chip
  perstin : t.pcie.perstin = s.pcie.perstin
  port : t.pcie.port = s.pcie.port
  part : ∀ k, resetState (t.part k) = resetState (s.part k)
  out : s.out ⊆ t.out

/-- The fields that `Quiet` speaks of. -/
def quietView (s : State) : List CfgEntry × Chip × List Nat × Tbl Port × Tbl Part × List Out :=
  (s.conf.entries, s.chip, s.pcie.perstin, s.pcie.port, s.pcie.part, s.out)

section
variable {a s t : State}

theorem Quiet.refl (s : State) : Quiet s s := ⟨rfl, rfl, rfl, rfl, fun _ => rfl, fun _ => id⟩

/-- An update of other fields is quiet. -/
theorem Quiet.same (h : Quiet a s) (e : quietView t = quietView s) : Quiet a t := by
  simp only [quietView, Prod.mk.injEq] at e
  obtain ⟨econf, echip, eperstin, eport, epart, eout⟩ := e
  refine ⟨econf.trans h.conf, echip.trans h.chip, eperstin.trans h.perstin, eport.trans h.port, fun k => ?_, eout ▸ h.out⟩
  rw [← h.part k, State.part, State.part, epart]

/-! The shapes of an update: a fold, a condition, an output, a partition's register. -/

theorem forAll_quiet {α : Type} {f : α → State → State} {l : List α} (hf : ∀ x s, Quiet a s → Quiet a (f x s)) (h : Quiet a s) :
    Quiet a (forAll l f s) := forAll_keeps (Quiet a) f hf l s h

theorem ite_quiet {c : Prop} [Decidable c] (hs : Quiet a s) (ht : Quiet a t) : Quiet a (if c then s else t) := by
  split
  · exact hs
  · exact ht

theorem onlyIf_quiet {b : Bool} {f : State → State} (hf : ∀ s, Quiet a s → Quiet a (f s)) (h : Quiet a s) :
    Quiet a (onlyIf b f s) := ite_quiet (hf s h) h

theorem emit_quiet {o : Out} (h : Quiet a s) : Quiet a (emit o s) :=
  { conf := h.conf, chip := h.chip, perstin := h.perstin, port := h.port, part := h.part
    out := fun _ hx => List.mem_append_left _ (h.out hx) }




theorem modPart_quiet {p : Nat} {f : Part → Part} (hf : ∀ q, resetState (f q) = resetState q) (h : Quiet a s) :
    Quiet a (modPart p f s) := by
  refine { conf := h.conf, chip := h.chip, perstin := h.perstin, port := h.port, part := fun k => ?_, out := h.out }
  rw [← h.part k, modPart_part]
  split
  · exact hf _
  · rfl

/-! Counters, tables and messages. -/

theorem modAux_quiet {p : Nat} {f : PortAux → PortAux} (h : Quiet a s) : Quiet a (modAux p f s) := h.same rfl
theorem modSpoke_quiet {k : Nat} {f : Spoke → Spoke} (h : Quiet a s) : Quiet a (modSpoke k f s) := h.same rfl
theorem modLane_quiet {l : Nat} {f : Lane → Lane} (h : Quiet a s) : Quiet a (modLane l f s) := h.same rfl
theorem modMb_quiet {m : Nat} {f : Mailbox → Mailbox} (h : Quiet a s) : Quiet a (modMb m f s) := h.same rfl
theorem countBy_quiet {i n : Nat} (h : Quiet a s) : Quiet a (countBy i n s) := h.same rfl
theorem count1_quiet {i : Nat} (h : Quiet a s) : Quiet a (count1 i s) := h.same rfl
theorem countTime_quiet {i : Nat} {d : Time} (h : Quiet a s) : Quiet a (countTime i d s) := h.same rfl
theorem countLost_quiet {i : Nat} (h : Quiet a s) : Quiet a (countLost i s) := h.same rfl

theorem routeCells_quiet {d srcDev srcPort dstPort svc : Nat} {cs : List Cell} (h : Quiet a s) :
    Quiet a (routeCells d srcDev srcPort dstPort svc cs s) := by
  unfold routeCells
  split
  · exact countLost_quiet h
  · extract_lets
    split
    · exact h.same rfl
    · split
      · exact modSpoke_quiet h
      · exact h

theorem post_quiet {o : Out} (h : Quiet a s) : Quiet a (post o s) := by
  unfold post
  extract_lets s1
  have h1 : Quiet a s1 := emit_quiet h
  split
  · split
    · exact h1
    · extract_lets k n s2
      have h2 : Quiet a s2 := ite_quiet (h1.same rfl) h1
      exact routeCells_quiet h2
  · exact h1

theorem sendMsg_quiet {p : Nat} {m : MsgKind} (h : Quiet a s) : Quiet a (sendMsg p m s) :=
  ite_quiet (modAux_quiet h) (ite_quiet (emit_quiet h) h)

theorem collapse_quiet {u : Nat} (h : Quiet a s) : Quiet a (collapse u s) :=
  forAll_quiet (fun _ _ h => ite_quiet (sendMsg_quiet h) (ite_quiet (sendMsg_quiet h) h)) (modAux_quiet h)

theorem updateLevel_quiet {p : Nat} (h : Quiet a s) : Quiet a (updateLevel p s) := by
  unfold updateLevel
  extract_lets l s1
  have h1 : Quiet a s1 := modPart_quiet (fun _ => rfl) h
  split
  · exact h
  · split
    · exact collapse_quiet h1
    · exact h1

/-! Error records, and the interrupts and messages they cause. -/

theorem raiseAlert_quiet {n : Option Nat} (h : Quiet a s) : Quiet a (raiseAlert n s) := by
  unfold raiseAlert
  extract_lets _ s1 _ _ s2
  have h1 : Quiet a s1 := by
    cases n
    · exact h.same rfl
    · exact h.same rfl
  have h2 : Quiet a s2 := ite_quiet h1 (emit_quiet (h1.same rfl))
  split
  · exact emit_quiet (h2.same rfl)
  · exact h2

theorem func0Msg_quiet {p : Nat} {m : MsgKind} (h : Quiet a s) : Quiet a (func0Msg p m s) := by
  unfold func0Msg
  split
  · exact sendMsg_quiet h
  · exact h

theorem func0Err_quiet {p b : Nat} {m : MsgKind} (h : Quiet a s) : Quiet a (func0Err p b m s) := ite_quiet (func0Msg_quiet h) h

theorem sendNonFatal_quiet {p : Nat} (h : Quiet a s) : Quiet a (sendNonFatal p s) :=
  ite_quiet (func0Err_quiet (modPart_quiet (fun _ => rfl) h)) (modPart_quiet (fun _ => rfl) h)

theorem signalRecord_quiet {p : Nat} {r : ErrRec} (h : Quiet a s) : Quiet a (signalRecord p r s) := by
  have hmark (f : FnAer → FnAer) : Quiet a (modPart p (modAer 0 f) s) := modPart_quiet (fun _ => rfl) h
  unfold signalRecord
  split
  · exact ite_quiet (hmark _) (func0Err_quiet (hmark _))
  · exact ite_quiet h (sendNonFatal_quiet (hmark _))
  · exact ite_quiet (sendNonFatal_quiet (hmark _)) h
  · exact h

theorem enterLog_quiet {r : ErrRec} (h : Quiet a s) : Quiet a (enterLog r s) := by
  unfold enterLog
  exact h.same (by simp only [quietView])

theorem logOnly_quiet {r : ErrRec} (h : Quiet a s) : Quiet a (logOnly r s) :=
  ite_quiet (raiseAlert_quiet (enterLog_quiet h)) (enterLog_quiet h)

theorem extendEpisode_quiet {cause part dev port : Nat} (h : Quiet a s) : Quiet a (extendEpisode cause part dev port s) := h.same rfl

theorem countDeny_quiet {port : Option Nat} {entry : Nat} (h : Quiet a s) : Quiet a (countDeny port entry s) := by
  unfold countDeny
  split
  · exact ite_quiet (count1_quiet h) (count1_quiet h)
  · exact h

section
/-! A ring write raises an interrupt, and the denial of an interrupt's write is itself recorded: each takes the other as a parameter. -/

variable {raise denied : Nat → Nat → State → State} (hraise : ∀ p i s, Quiet a s → Quiet a (raise p i s))
  (hdenied : ∀ p i s, Quiet a s → Quiet a (denied p i s))

include hraise in
theorem ringCopyBy_quiet {p : Nat} {r : ErrRec} (h : Quiet a s) : Quiet a (ringCopyBy raise p r s) := by
  have hring : Quiet a (ringWriteBy raise p r s) :=
    ite_quiet (hraise _ _ _ (modPart_quiet (fun _ => rfl) h)) (hraise _ _ _ (modPart_quiet (fun _ => rfl) h))
  exact ite_quiet h (ite_quiet (signalRecord_quiet hring) (post_quiet h))

include hraise in
theorem recordBy_quiet {ps : List Nat} {r : ErrRec} (h : Quiet a s) : Quiet a (recordBy raise ps r s) :=
  forAll_quiet (fun _ _ => ringCopyBy_quiet hraise) ((logOnly_quiet h).same rfl)

include hraise in
theorem writeFailureBy_quiet {cause part : Nat} {r : ErrRec} (h : Quiet a s) : Quiet a (writeFailureBy raise cause r part s) := by
  unfold writeFailureBy
  extract_lets s r s1 _ s2
  have hs : Quiet a s := count1_quiet h
  have h1 : Quiet a s1 := recordBy_quiet hraise hs
  have h2 : Quiet a s2 := ite_quiet h1 (h1.same rfl)
  split
  · exact extendEpisode_quiet hs
  · exact ite_quiet (h2.same rfl) (recordBy_quiet hraise h2)

include hdenied in
theorem sendMsixBy_quiet {p i : Nat} (h : Quiet a s) : Quiet a (sendMsixBy denied p i s) := by
  unfold sendMsixBy sendVectorBy
  extract_lets addr
  split
  · exact modPart_quiet (fun _ => rfl) h
  · split
    · exact emit_quiet h
    · exact hdenied _ _ _ (countDeny_quiet h)

include hdenied in
theorem raiseBy_quiet {p i : Nat} {b : Bool} (h : Quiet a s) :
    Quiet a (updateLevel p (onlyIf b (sendMsixBy denied p i) (setCause p i s))) :=
  updateLevel_quiet (onlyIf_quiet (fun _ => sendMsixBy_quiet hdenied) (modPart_quiet (fun _ => rfl) h))

end

theorem raiseQuiet_quiet {p i : Nat} (h : Quiet a s) : Quiet a (raiseQuiet p i s) := raiseBy_quiet (fun _ _ _ => id) h

theorem msixDenied_quiet {p addr : Nat} (h : Quiet a s) : Quiet a (msixDenied p addr s) :=
  writeFailureBy_quiet (fun _ _ _ => raiseQuiet_quiet) h

theorem raiseCause_quiet {p i : Nat} (h : Quiet a s) : Quiet a (raiseCause p i s) := raiseBy_quiet (fun _ _ _ => msixDenied_quiet) h

theorem record_quiet {ps : List Nat} {r : ErrRec} (h : Quiet a s) : Quiet a (record ps r s) :=
  recordBy_quiet (fun _ _ _ => raiseCause_quiet) h

theorem writeFailure_quiet {cause part : Nat} {r : ErrRec} (h : Quiet a s) : Quiet a (writeFailure cause r part s) :=
  writeFailureBy_quiet (fun _ _ _ => raiseCause_quiet) h

theorem closeEpisode_quiet {e : Episode} (h : Quiet a s) : Quiet a (closeEpisode e s) := record_quiet h

theorem episodeRecord_quiet {toRing : Bool} {part : Nat} {r : ErrRec} (h : Quiet a s) : Quiet a (episodeRecord toRing part r s) := by
  unfold episodeRecord
  extract_lets ps
  split
  · exact extendEpisode_quiet h
  · exact ite_quiet ((record_quiet h).same rfl) (record_quiet h)

theorem fencedDiscard_quiet {part dev port : Nat} (h : Quiet a s) : Quiet a (fencedDiscard part dev port s) := by
  unfold fencedDiscard
  extract_lets s
  have hs : Quiet a s := count1_quiet h
  split
  · exact extendEpisode_quiet hs
  · exact count1_quiet hs

theorem endFences_quiet {p : Nat × Nat × Nat → Bool} (h : Quiet a s) : Quiet a (endFences p s) := by
  refine forAll_quiet (fun k s h => ?_) (h.same rfl)
  split
  · exact closeEpisode_quiet (h.same rfl)
  · exact h

end
end Sys2Proof.Machine

namespace Sys2Proof.Machine

/-! Quiet updates of spoke beats, shapers, frames, the bridge and locks. -/

section
variable {a s : State}

/-! Beats of a spoke. -/

theorem putBeats_quiet {k : Nat} {rows : List (List Sym)} (h : Quiet a s) : Quiet a (putBeats k rows s) :=
  emit_quiet (modSpoke_quiet h)

theorem sendRows_quiet {k : Nat} {rows : List (List Sym)} (h : Quiet a s) : Quiet a (sendRows k rows s) :=
  putBeats_quiet (onlyIf_quiet (fun _ h => modSpoke_quiet (putBeats_quiet h)) h)

theorem sendBeat_quiet {k kind x y : Nat} (h : Quiet a s) : Quiet a (sendBeat k kind x y s) := sendRows_quiet (emit_quiet h)

theorem sendTrain_quiet {k : Nat} (h : Quiet a s) : Quiet a (sendTrain k s) := ite_quiet (sendRows_quiet (emit_quiet h)) h

/-! Shapers. -/

theorem putSh_quiet {k : Nat} {v : Shaper} (h : Quiet a s) : Quiet a (putSh k v s) := h.same rfl
theorem wheelRemove_quiet {k : Nat} (h : Quiet a s) : Quiet a (wheelRemove k s) := h.same rfl

theorem refundSh_quiet {k : Nat} {L : Int} (h : Quiet a s) : Quiet a (refundSh k L s) :=
  ite_quiet h (putSh_quiet (wheelRemove_quiet h))

theorem resetSh_quiet {k : Nat} (h : Quiet a s) : Quiet a (resetSh k s) := putSh_quiet (wheelRemove_quiet h)

theorem resetShapers_quiet {p : Nat → Bool} (h : Quiet a s) : Quiet a (resetShapers p s) :=
  forAll_quiet (fun _ _ => resetSh_quiet) h

theorem resetIngress_quiet {att sub : Nat} (h : Quiet a s) : Quiet a (resetIngress att sub s) := resetSh_quiet (h.same rfl)

/-! Frames leave: room, credits and notices. -/

theorem dropFrame_quiet {fid : Nat} (h : Quiet a s) : Quiet a (dropFrame fid s) := h.same rfl
theorem noteGone_quiet {f : Frame} (h : Quiet a s) : Quiet a (noteGone f s) := h.same rfl
theorem clearAverages_quiet {p : Nat} (h : Quiet a s) : Quiet a (clearAverages p s) := h.same rfl

theorem clearXoff_quiet {key : Nat} (h : Quiet a s) : Quiet a (clearXoff key s) := by
  unfold clearXoff
  split
  · exact h
  · exact emit_quiet (countTime_quiet (h.same rfl))

theorem settleXoff_quiet {st : Nat} (h : Quiet a s) : Quiet a (settleXoff st s) := by
  have hfreed : Quiet a { s with
      hub.bankXoff := s.hub.bankXoff.filter (· != st), hub.bankXoffAt := tput s.hub.bankXoffAt st s.now } := h.same rfl
  exact forAll_quiet (fun _ _ h => ite_quiet (clearXoff_quiet h) h)
    (ite_quiet (forAll_quiet (fun _ _ h => ite_quiet h (emit_quiet h)) hfreed) h)

theorem noteEmpty_quiet {port q : Nat} (h : Quiet a s) : Quiet a (noteEmpty port q s) := by
  unfold noteEmpty
  split
  · exact h
  · split
    · exact h.same rfl
    · exact h

theorem dropEmptyDeficits_quiet {port : Nat} (h : Quiet a s) : Quiet a (dropEmptyDeficits port s) := h.same rfl

theorem takeOut_quiet {f : Frame} (h : Quiet a s) : Quiet a (takeOut f s) :=
  ite_quiet (settleXoff_quiet (noteEmpty_quiet (dropEmptyDeficits_quiet (dropFrame_quiet h)))) (dropFrame_quiet h)

theorem removeFrame_quiet {f : Frame} (h : Quiet a s) : Quiet a (removeFrame f s) :=
  takeOut_quiet (ite_quiet (noteGone_quiet h) h)

theorem freeFrame_quiet {f : Frame} (h : Quiet a s) : Quiet a (freeFrame f s) := by
  unfold freeFrame
  split
  · exact h
  · split
    · exact sendBeat_quiet (modSpoke_quiet h)
    · exact ite_quiet h (emit_quiet h)

theorem sendNotices_quiet {dev sub : Nat} {ns : List Notice} (h : Quiet a s) : Quiet a (sendNotices dev sub ns s) := post_quiet h

theorem dropNotice_quiet {f : Frame} {cause : Nat} (h : Quiet a s) : Quiet a (dropNotice f cause s) := by
  unfold dropNotice
  split
  · exact h
  · have hq := count1_quiet (i := cQueue f.outPort (qOf f) 3) h
    exact sendNotices_quiet (ite_quiet (count1_quiet hq) (ite_quiet (count1_quiet hq) hq))

/-! Tags and trackers end. -/

theorem quarTag_quiet {i : Nat} (h : Quiet a s) : Quiet a (quarTag i s) := h.same rfl

theorem freeTag_quiet {i : Nat} (h : Quiet a s) : Quiet a (freeTag i s) := by
  unfold freeTag
  split
  · exact h
  · exact h.same rfl

theorem answerEntry_quiet {e : TagEntry} {st : CplStatus} (h : Quiet a s) : Quiet a (answerEntry e st s) := by
  unfold answerEntry
  split
  · exact emit_quiet h
  · exact emit_quiet h

theorem timeoutTag_quiet {i detailB : Nat} (h : Quiet a s) : Quiet a (timeoutTag i detailB s) := by
  unfold timeoutTag
  split
  · exact h
  · exact ite_quiet (quarTag_quiet (episodeRecord_quiet (answerEntry_quiet (count1_quiet h)))) h

theorem endTag_quiet {i : Nat} {st : CplStatus} (h : Quiet a s) : Quiet a (endTag i st s) := by
  unfold endTag
  split
  · exact h
  · exact ite_quiet (freeTag_quiet (answerEntry_quiet h)) h

theorem failTracker_quiet {i cause : Nat} {quar : Bool} (h : Quiet a s) : Quiet a (failTracker i cause quar s) := by
  unfold failTracker
  split
  · exact h
  · exact ite_quiet (writeFailure_quiet (ite_quiet (h.same rfl) (h.same rfl))) h

theorem sendCpl_quiet {port rid tag : Nat} {st : CplStatus} (h : Quiet a s) : Quiet a (sendCpl port rid tag st s) := emit_quiet h

theorem answerNp_quiet {f : Frame} {st : CplStatus} (h : Quiet a s) : Quiet a (answerNp f st s) := by
  unfold answerNp
  split
  · exact endTag_quiet h
  · split
    · split
      · exact emit_quiet h
      · exact sendCpl_quiet h
    · exact post_quiet h

theorem failWrite_quiet {f : Frame} {cause : Nat} (h : Quiet a s) : Quiet a (failWrite f cause s) := by
  unfold failWrite
  split
  · exact failTracker_quiet h
  · exact ite_quiet (writeFailure_quiet h) (post_quiet h)

/-! A frame is discarded. -/

theorem countLoop_quiet {depth target units errors : Nat} (h : Quiet a s) : Quiet a (countLoop depth target units errors s) := h.same rfl

theorem issueTest_quiet {port : Nat} (h : Quiet a s) : Quiet a (issueTest port s) := ite_quiet (h.same rfl) h

theorem discardOutcome_quiet {f : Frame} {w : Why} (h : Quiet a s) : Quiet a (discardOutcome f w s) := by
  unfold discardOutcome
  split
  · exact issueTest_quiet (countLoop_quiet h)
  · split
    · exact dropNotice_quiet h
    · extract_lets aged s lost s1
      have hs : Quiet a s := ite_quiet (count1_quiet h) h
      have hlost : Quiet a lost := onlyIf_quiet (fun _ => countLost_quiet) hs
      have h1 : Quiet a s1 := answerNp_quiet hs
      split
      · exact failWrite_quiet hs
      · split
        · exact episodeRecord_quiet hlost
        · exact hlost
      · split
        · exact episodeRecord_quiet hlost
        · exact hlost
      · split
        · exact episodeRecord_quiet h1
        · exact h1

theorem discard_quiet {f : Frame} {w : Why} (h : Quiet a s) : Quiet a (discard f w s) := discardOutcome_quiet (removeFrame_quiet h)

theorem unselect_quiet {f : Frame} (h : Quiet a s) : Quiet a (unselect f s) := by
  unfold unselect
  split
  · split
    · exact h
    · extract_lets L s1
      have h1 : Quiet a s1 := forAll_quiet (fun _ _ => refundSh_quiet) h
      exact ite_quiet h1 (h1.same rfl)
  · exact h

theorem flushWhere_quiet {p : Frame → Bool} {w : Why} (h : Quiet a s) : Quiet a (flushWhere p w s) :=
  forAll_quiet (fun _ _ h => discard_quiet (unselect_quiet h)) h

theorem emptyPort_quiet {p : Nat} {w : Why} (h : Quiet a s) : Quiet a (emptyPort p w s) :=
  clearAverages_quiet (flushWhere_quiet (h.same rfl))

/-! A request is admitted or refused. -/

theorem colourOf_quiet {att sub B : Nat} {pre : Option Nat} (h : Quiet a s) : Quiet a (colourOf att sub B pre s).2 := by
  unfold colourOf
  extract_lets
  split
  · exact h
  · exact h.same rfl

theorem newFrame_quiet {f : Frame} (h : Quiet a s) : Quiet a (newFrame f s) :=
  have hcoloured := colourOf_quiet (att := f.att) (sub := f.sub) (B := f.tlp.frameBytes)
    (pre := if f.rxSpoke.isSome then some f.colour else none) h
  hcoloured.same rfl

theorem refuseNp_quiet {e : Entry} {t : Tlp} {st : CplStatus} (h : Quiet a s) : Quiet a (refuseNp e t st s) := by
  unfold refuseNp
  split
  · exact sendCpl_quiet h
  · exact emit_quiet h

theorem reachDenied_quiet {e : Entry} {t : Tlp} {entry dev port : Nat} (h : Quiet a s) : Quiet a (reachDenied e t entry dev port s) := by
  unfold reachDenied
  extract_lets s1
  have h1 : Quiet a s1 := countDeny_quiet h
  split
  · exact refuseNp_quiet (episodeRecord_quiet h1)
  · split
    · exact writeFailure_quiet h1
    · exact h1

theorem formError_quiet {e : Entry} {t : Tlp} {dev port : Nat} (h : Quiet a s) : Quiet a (formError e t dev port s) := by
  unfold formError
  split
  · exact refuseNp_quiet h
  · split
    · exact writeFailure_quiet h
    · exact writeFailure_quiet h
    · exact h

theorem pathLost_quiet {e : Entry} {t : Tlp} {dev port : Nat} (h : Quiet a s) : Quiet a (pathLost e t dev port s) := by
  unfold pathLost
  split
  · exact refuseNp_quiet (episodeRecord_quiet h)
  · split
    · exact writeFailure_quiet h
    · exact countLost_quiet h

theorem lateCompletion_quiet {sub rid tag : Nat} {issued : Option Nat} (h : Quiet a s) :
    Quiet a (lateCompletion sub rid tag issued s) := episodeRecord_quiet (count1_quiet h)

theorem matchCompletion_quiet {f : Frame} (h : Quiet a s) : Quiet a (matchCompletion f s) := by
  unfold matchCompletion
  extract_lets key old
  split
  · exact lateCompletion_quiet h
  · split
    · exact quarTag_quiet (answerEntry_quiet (episodeRecord_quiet (count1_quiet h)))
    · exact newFrame_quiet (ite_quiet (freeTag_quiet h) (h.same rfl))

theorem applyVerdict_quiet {e : Entry} {t : Tlp} {mk : Tlp → Nat → Nat → Option Nat → Frame} {v : Verdict} (h : Quiet a s) :
    Quiet a (applyVerdict e t mk v s) := by
  unfold applyVerdict
  split
  · split
    · exact refuseNp_quiet h
    · exact refuseNp_quiet h
    · exact newFrame_quiet h
  · exact reachDenied_quiet h
  · exact reachDenied_quiet h
  · exact formError_quiet h
  · exact countLost_quiet h
  · exact lateCompletion_quiet h
  · exact matchCompletion_quiet h
  · extract_lets f write
    split
    · exact fencedDiscard_quiet h
    · split
      · exact ite_quiet (dropNotice_quiet h) (pathLost_quiet h)
      · split
        · split
          · exact discardOutcome_quiet h
          · exact newFrame_quiet h
        · exact newFrame_quiet h

theorem issueMc_quiet {p : Nat} {t : Tlp} (h : Quiet a s) : Quiet a (issueMc p t s) := by
  unfold issueMc
  exact applyVerdict_quiet h

/-! Wires and slot status of a bridge. -/

theorem wireMessage_quiet {p wire : Nat} {on : Bool} (h : Quiet a s) : Quiet a (wireMessage p wire on s) := by
  unfold wireMessage
  split
  · exact h
  · extract_lets part pin s1 level
    have h1 : Quiet a s1 := modAux_quiet h
    split
    · exact ite_quiet (collapse_quiet h1) (ite_quiet h1 (ite_quiet (newFrame_quiet h1) (countLost_quiet h1)))
    · exact h1

theorem dropWires_quiet {p : Nat} (h : Quiet a s) : Quiet a (dropWires p s) := forAll_quiet (fun _ _ => wireMessage_quiet) h

theorem noteStatus_quiet {p : Nat} {f : PortAux → PortAux} (h : Quiet a s) : Quiet a (noteStatus p f s) := by
  unfold noteStatus settleInt
  extract_lets s1
  have h1 : Quiet a s1 := modAux_quiet h
  have hcount := onlyIf_quiet (b := portHp s p) (fun _ => countBy_quiet (i := cPort p 21)
    (n := slotEvents (s1.aux p) - slotEvents (s.aux p))) h1
  exact ite_quiet hcount (wireMessage_quiet hcount)

theorem clearSlotStatus_quiet {p : Nat} (h : Quiet a s) : Quiet a (clearSlotStatus p s) := modAux_quiet h

/-! Locks of ports. -/

theorem putSem_quiet {p : Nat} {m : Sem} (h : Quiet a s) : Quiet a (putSem p m s) := h.same rfl
theorem modSeq_quiet {q : LockSeq} {f : LockSeq → LockSeq} (h : Quiet a s) : Quiet a (modSeq q f s) := h.same rfl

theorem granted_quiet {port targetDev targetPort : Nat} (h : Quiet a s) : Quiet a (granted port targetDev targetPort s) := by
  have hlock {q : LockSeq} {s : State} (h : Quiet a s) : Quiet a (lockIfHeld q s) :=
    ite_quiet (ite_quiet (putSem_quiet (modSeq_quiet h)) (modSeq_quiet h)) h
  unfold granted
  extract_lets
  split
  · exact h
  · exact hlock (modSeq_quiet h)

theorem grantSem_quiet {p : Nat} {r : LockReq} (h : Quiet a s) : Quiet a (grantSem p r s) :=
  ite_quiet (granted_quiet (count1_quiet (putSem_quiet h))) (post_quiet (count1_quiet (putSem_quiet h)))

theorem passSem_quiet {p : Nat} (h : Quiet a s) : Quiet a (passSem p s) := by
  unfold passSem
  split
  · exact putSem_quiet h
  · exact grantSem_quiet (putSem_quiet h)

theorem dropReq_quiet {p : Nat} {r : LockReq} (h : Quiet a s) : Quiet a (dropReq p r s) := ite_quiet (passSem_quiet h) (putSem_quiet h)

theorem endSeq_quiet {q : LockSeq} (h : Quiet a s) : Quiet a (endSeq q s) := by
  have habort : Quiet a (abortWaiting q s) :=
    forAll_quiet (fun _ _ h => answerNp_quiet (freeFrame_quiet (dropFrame_quiet h))) h
  exact ite_quiet (dropReq_quiet (dropReq_quiet (habort.same rfl))) (post_quiet (dropReq_quiet (habort.same rfl)))

theorem endSeqsWhere_quiet {p : LockSeq → Bool} (h : Quiet a s) : Quiet a (endSeqsWhere p s) := forAll_quiet (fun _ _ => endSeq_quiet) h

theorem endLockedReads_quiet {port dstDev dstPort : Nat} (h : Quiet a s) : Quiet a (endLockedReads port dstDev dstPort s) :=
  forAll_quiet (fun _ _ h => quarTag_quiet (answerEntry_quiet h)) h

theorem releasePortSem_quiet {p : Nat} (h : Quiet a s) : Quiet a (releasePortSem p s) :=
  forAll_quiet (fun _ _ => post_quiet) (putSem_quiet (endSeqsWhere_quiet h))

end
end Sys2Proof.Machine

namespace Sys2Proof.Machine

/-! Quiet updates of spokes, mailboxes and the mover. -/

section
variable {a s : State}

/-! A spoke goes down or starts its bring-up. -/

theorem clearEyes_quiet {ls : List Nat} (h : Quiet a s) : Quiet a (clearEyes ls s) := forAll_quiet (fun _ _ => modLane_quiet) h

theorem noteTandem_quiet {was : Bool} (h : Quiet a s) : Quiet a (noteTandem was s) := ite_quiet h (h.same rfl)

theorem setUpstream_quiet (h : Quiet a s) : Quiet a (setUpstream s) := by
  unfold setUpstream
  split
  · exact h.same rfl
  · split
    · exact h.same rfl
    · exact h.same rfl

theorem modStime_quiet {k : Nat} {f : SpokeTime → SpokeTime} (h : Quiet a s) : Quiet a (modStime k f s) := h.same rfl
theorem settlePlumb_quiet (h : Quiet a s) : Quiet a (settlePlumb s) := h.same rfl
theorem putBucket_quiet {d b : Nat} {x : Bucket} (h : Quiet a s) : Quiet a (putBucket d b x s) := h.same rfl

theorem reassign_quiet {d : Nat} {hold : Bool} {bs : List Nat} {i : Nat} (h : Quiet a s) : Quiet a (reassign d hold s bs i) := by
  induction bs generalizing s i with
  | nil => exact h
  | cons b r ih => exact ih (putBucket_quiet h)

theorem releaseCtl_quiet {d b : Nat} (h : Quiet a s) : Quiet a (releaseCtl d b s) := by
  unfold releaseCtl
  extract_lets mine _ s1 out
  have h1 : Quiet a s1 := h.same rfl
  clear_value out
  cases out with
  | some k => exact modSpoke_quiet h1
  | none => exact forAll_quiet (fun _ _ => countLost_quiet) h1

theorem moveBuckets_quiet {k : Nat} (h : Quiet a s) : Quiet a (moveBuckets k s) :=
  forAll_quiet (fun _ _ h => countBy_quiet (reassign_quiet (forAll_quiet (fun _ _ h => releaseCtl_quiet (putBucket_quiet h)) h))) h

theorem loseFrame_quiet {k : Nat} {f : Frame} (h : Quiet a s) : Quiet a (loseFrame k f s) := by
  unfold loseFrame
  split
  · exact dropNotice_quiet (count1_quiet h)
  · split
    · exact failTracker_quiet h
    · exact ite_quiet (timeoutTag_quiet h) h
    · exact h

theorem loseCell_quiet {k : Nat} {c : Cell} (h : Quiet a s) : Quiet a (loseCell k c s) := by
  unfold loseCell
  split
  · split
    · split
      · exact sendNotices_quiet (count1_quiet h)
      · exact h
    · split
      · exact h
      · split
        · split
          · exact failTracker_quiet h
          · exact h
        · split
          · split
            · exact timeoutTag_quiet h
            · exact h
          · exact h
  · exact h

theorem dropLink_quiet {k next : Nat} (h : Quiet a s) : Quiet a (dropLink k next s) := by
  unfold dropLink
  extract_lets tx lostCells p lost wasTandem gone _ s1 s2 s3 s4 s6
  have h1 : Quiet a s1 := h.same rfl
  have h2 : Quiet a s2 := moveBuckets_quiet (forAll_quiet (fun _ _ => removeFrame_quiet) h1)
  have h3 : Quiet a s3 := forAll_quiet (fun _ _ => loseFrame_quiet) (forAll_quiet (fun _ _ => loseCell_quiet) h2)
  have h6 : Quiet a s6 := clearAverages_quiet (noteTandem_quiet (setUpstream_quiet (modStime_quiet h3)))
  exact sendTrain_quiet (count1_quiet (settlePlumb_quiet (clearEyes_quiet h6)))

theorem spokeReset_quiet {k : Nat} (h : Quiet a s) : Quiet a (spokeReset k s) := by
  unfold spokeReset spokeDown startBringUp
  split
  · exact dropLink_quiet (record_quiet h)
  · exact ite_quiet (sendTrain_quiet (modSpoke_quiet h)) h

/-! Commands end. -/

theorem postTandem_quiet {o : Out} (h : Quiet a s) : Quiet a (postTandem o s) := by
  unfold postTandem
  split
  · exact modSpoke_quiet (emit_quiet h)
  · exact h

theorem tandemParts_quiet {code seq : Nat} {ws : List Word64} (h : Quiet a s) : Quiet a (tandemParts code seq ws s) :=
  forAll_quiet (fun _ _ => postTandem_quiet) h

theorem respond_quiet {mb status : Nat} {executed : Bool} {pay : List Word64} (h : Quiet a s) :
    Quiet a (respond mb status executed pay s) := by
  unfold respond
  extract_lets m hdr
  split
  · exact emit_quiet h
  · split
    · exact tandemParts_quiet h
    · split
      · exact modMb_quiet (forAll_quiet (fun _ _ => issueMc_quiet) (modMb_quiet h))
      · exact modMb_quiet h

theorem finish_quiet {mb status : Nat} {executed : Bool} {pay : List Word64} (h : Quiet a s) :
    Quiet a (finish mb status executed pay s) := by
  unfold finish
  extract_lets m st s1 s2
  have h1 : Quiet a s1 := respond_quiet h
  have h2 : Quiet a s2 := modMb_quiet (count1_quiet h1)
  exact ite_quiet h (ite_quiet (raiseCause_quiet h2) h2)

theorem finishWait_quiet {mb why status : Nat} {executed : Bool} {pay : List Word64} (h : Quiet a s) :
    Quiet a (finishWait mb why status executed pay s) := ite_quiet (finish_quiet h) h

theorem settleLoops_quiet (h : Quiet a s) : Quiet a (settleLoops s) := forAll_quiet (fun _ _ => finishWait_quiet) (h.same rfl)

/-! Locks and staging sets of a mailbox. -/

theorem putLock_quiet {l : Nat} {k : Lock} (h : Quiet a s) : Quiet a (putLock l k s) := h.same rfl

theorem abortPrepare_quiet (h : Quiet a s) : Quiet a (abortPrepare s) := by
  unfold abortPrepare
  split
  · split
    · exact h
    · exact (forAll_quiet (fun _ _ => post_quiet) h).same rfl
  · exact h

theorem dropSet_quiet {l : Nat} (h : Quiet a s) : Quiet a (dropSet l s) := by
  unfold dropSet
  split
  · split
    · exact h
    · extract_lets _ s1
      have h1 : Quiet a s1 := h.same rfl
      split
      · exact ite_quiet h1 (ite_quiet (abortPrepare_quiet h1) (finishWait_quiet (abortPrepare_quiet h1)))
      · exact h1
  · exact h

theorem dropMailbox_quiet {p : Nat} (h : Quiet a s) : Quiet a (dropMailbox p s) := by
  have hforget : Quiet a (forgetMb p s) := h.same rfl
  exact forAll_quiet (fun _ _ h => ite_quiet (dropSet_quiet (putLock_quiet (putLock_quiet h))) (putLock_quiet h)) (modMb_quiet hforget)

/-! Function-level resets. -/

theorem startFlr_quiet {f : Nat} (h : Quiet a s) : Quiet a (startFlr f s) := by
  have hstart {f : Nat} {s : State} (h : Quiet a s) : Quiet a (startFlr1 f s) := h.same rfl
  unfold startFlr
  extract_lets s1 _ s2
  have h1 : Quiet a s1 := ite_quiet h (modPart_quiet (fun _ => rfl) h)
  have h2 : Quiet a s2 := h1.same rfl
  exact forAll_quiet (fun _ _ => hstart) h2

theorem flrFunction0_quiet {p : Nat} (h : Quiet a s) : Quiet a (flrFunction0 p s) :=
  updateLevel_quiet (modPart_quiet (fun _ => rfl) (dropMailbox_quiet h))

/-! The parts of a port or partition reset that leave the links and the partitions. -/

theorem resetPortSched_quiet {p : Nat} (h : Quiet a s) : Quiet a (resetPortSched p s) := (resetShapers_quiet h).same rfl

theorem resetPartSched_quiet {p : Nat} (h : Quiet a s) : Quiet a (resetPartSched p s) :=
  forAll_quiet (fun _ _ => resetIngress_quiet) ((resetShapers_quiet h).same rfl)

theorem resetPartBridge_quiet {p : Nat} (h : Quiet a s) : Quiet a (resetPartBridge p s) :=
  endSeqsWhere_quiet ((forAll_quiet (fun _ _ => quarTag_quiet) h).same rfl)

theorem closePartEpisodes_quiet {p : Nat} (h : Quiet a s) : Quiet a (closePartEpisodes p s) :=
  forAll_quiet (fun _ _ => closeEpisode_quiet) ((endFences_quiet h).same rfl)

theorem tellReset_quiet {p : Nat} (h : Quiet a s) : Quiet a (tellReset p s) := forAll_quiet (fun _ _ => post_quiet) h

theorem sendHotReset_quiet {p : Nat} (h : Quiet a s) : Quiet a (sendHotReset p s) := ite_quiet (emit_quiet h) h

theorem resetFarPorts_quiet {p v : Nat} (h : Quiet a s) : Quiet a (resetFarPorts p v s) := forAll_quiet (fun _ _ => emit_quiet) h

/-! The pins of a slot. -/

theorem modPins_quiet {ch : Nat} {f : Chan → Chan} (h : Quiet a s) : Quiet a (modPins ch f s) :=
  have hmod : Quiet a (modChan ch f s) := h.same rfl
  onlyIf_quiet (fun _ => emit_quiet) (onlyIf_quiet (fun _ => emit_quiet) hmod)

theorem releasePerst_quiet {ch : Nat} (h : Quiet a s) : Quiet a (releasePerst ch s) := ite_quiet (modPins_quiet h) h

end
end Sys2Proof.Machine

namespace Sys2Proof.Machine

/-! What a reset of a port or a partition does to the links and to the reset state of the partitions. -/

section
variable {a s t u : State} {ps qs : List Nat}

theorem SameConf.trans (h : SameConf t s) (k : SameConf u t) : SameConf u s := ⟨k.1.trans h.1, k.2.trans h.2⟩
theorem SameConf.portVsw (h : SameConf t s) : portVsw t = portVsw s := by
  funext p; simp only [Machine.portVsw, h.portRec]
theorem SameConf.partPorts (h : SameConf t s) : partPorts t = partPorts s := by
  funext p; simp only [Machine.partPorts, h.portEn, h.portPart]
theorem SameConf.vswDown (h : SameConf t s) : vswDown t = vswDown s := by
  funext p v; simp only [Machine.vswDown, h.partPorts, h.portUp, h.portVsw]
theorem SameConf.pciePort (h : SameConf t s) : pciePort t = pciePort s := by
  funext p; simp only [Machine.pciePort, h.portEn, h.portSpoke]

/-- What every reset keeps. -/
structure Steady (s t : State) : Prop where
  same : SameConf t s
  now : t.now = s.now
  perstin : t.pcie.perstin = s.pcie.perstin
  out : s.out ⊆ t.out

/-- From `s` to `t` only the partitions `ps` change their reset state, the links `qs` are down and uncontained, and the other ports
stay. -/
structure Resets (ps qs : List Nat) (s t : State) : Prop extends Steady s t where
  part : ∀ k, k ∉ ps → resetState (t.part k) = resetState (s.part k)
  down : ∀ q ∈ qs, (t.port q).up = false ∧ (t.port q).contained = false
  port : ∀ q, q ∉ qs → t.port q = s.port q

theorem Steady.refl (s : State) : Steady s s := ⟨⟨rfl, rfl⟩, rfl, rfl, fun _ => id⟩

theorem Steady.trans (h : Steady s t) (k : Steady t u) : Steady s u :=
  ⟨h.same.trans k.same, k.now.trans h.now, k.perstin.trans h.perstin, fun _ hx => k.out (h.out hx)⟩

theorem Quiet.resets (h : Quiet s t) : Resets [] [] s t where
  same := ⟨h.conf, congrArg Chip.devnum h.chip⟩
  now := congrArg Chip.upTime h.chip
  perstin := h.perstin
  out := h.out
  part k _ := h.part k
  down _ hq := absurd hq List.not_mem_nil
  port q _ := by rw [State.port, State.port, h.port]

theorem Resets.trans {ps' qs' : List Nat} (h : Resets ps qs s t) (k : Resets ps' qs' t u) : Resets (ps ++ ps') (qs ++ qs') s u where
  toSteady := h.toSteady.trans k.toSteady
  part x hx := by
    rw [List.mem_append, not_or] at hx
    exact (k.part x hx.2).trans (h.part x hx.1)
  down q hq := by
    by_cases hk : q ∈ qs'
    · exact k.down q hk
    · rw [k.port q hk]
      exact h.down q ((List.mem_append.mp hq).resolve_right hk)
  port q hq := by
    rw [List.mem_append, not_or] at hq
    exact (k.port q hq.2).trans (h.port q hq.1)

/-- Quiet updates before and after a reset do not change what it does. -/
theorem Resets.quiet (h : Resets ps qs s t) (k : Quiet t u) : Resets ps qs s u := by
  simpa only [List.append_nil] using h.trans k.resets

theorem Quiet.then (h : Quiet s t) (k : Resets ps qs t u) : Resets ps qs s u := h.resets.trans k

/-- The reset state of a partition that is not reset, field by field. -/
theorem Resets.part_eq (h : Resets ps qs s t) {k : Nat} (hk : k ∉ ps) :
    (t.part k).perst = (s.part k).perst ∧ (t.part k).inReset = (s.part k).inReset ∧ (t.part k).ready = (s.part k).ready ∧
      (t.part k).readyAt = (s.part k).readyAt ∧ (t.part k).contained = (s.part k).contained := by
  simpa only [resetState, Prod.mk.injEq] using h.part k hk

/-- A link that is down stays down. -/
theorem Resets.stays_down (h : Resets ps qs s t) {q : Nat} (hq : (s.port q).up = false) : (t.port q).up = false := by
  by_cases hm : q ∈ qs
  · exact (h.down q hm).1
  · rw [h.port q hm]
    exact hq

/-- A fold of resets of links, under the records of `a`. -/
theorem forAll_resets {g : Nat → List Nat} {f : Nat → State → State} {l : List Nat} (hf : ∀ x s, SameConf s a → Resets [] (g x) s (f x s))
    (hl : l.flatMap g = qs) (hs : SameConf s a) : Resets [] qs s (forAll l f s) := by
  subst hl
  induction l generalizing s with
  | nil => exact (Quiet.refl s).resets
  | cons x r ih =>
    have hx := hf x s hs
    exact hx.trans (ih (hs.trans hx.same))

/-- A fold gives what the step for one of its elements gives and every step keeps, under an invariant `I`. -/
theorem forAll_reaches {I P : State → Prop} {f : Nat → State → State} {l : List Nat} {x : Nat} (hx : x ∈ l)
    (hI : ∀ y s, I s → I (f y s)) (hf : ∀ s, I s → P (f x s)) (hP : ∀ y s, I s → P s → P (f y s)) {s : State} (hs : I s) :
    P (forAll l f s) := by
  induction l generalizing s with
  | nil => exact absurd hx List.not_mem_nil
  | cons y r ih =>
    rcases List.mem_cons.mp hx with rfl | hr
    · exact (forAll_keeps (fun s => I s ∧ P s) f (fun y s h => ⟨hI y s h.1, hP y s h.1 h.2⟩) r _ ⟨hI x s hs, hf s hs⟩).2
    · exact ih hr (hI y s hs)

/-! Ports. -/

/-- A port whose link is down. -/
def unlinked (q : Port) : Port := { q with up := false, recovery := false, width := 0, rate := 0, reversed := false }

theorem linkDown_quiet (p : Nat) (s : State) : Quiet (modPort p unlinked s) (linkDown p s) := by
  have hdown := dropWires_quiet (p := p) (modAux_quiet (p := p)
    (f := fun a => { a with heldMsgs := [], ptmTime := none, ptmAsked := none }) (Quiet.refl (modPort p unlinked s)))
  exact clearEyes_quiet (ite_quiet (count1_quiet (noteStatus_quiet hdown)) hdown)

theorem modPort_steady (p : Nat) (f : Port → Port) (s : State) : Steady s (modPort p f s) := ⟨⟨rfl, rfl⟩, rfl, rfl, fun _ => id⟩

/-- The link of a reset port is down and its containment over. -/
theorem linkDown_resetPortRegs (p : Nat) (above : Bool) (s : State) : Resets [] [p] s (linkDown p (resetPortRegs p above s)) := by
  have hregs : Steady s (resetPortRegs p above s) := (modPort_steady p _ s).trans (modAux_quiet (Quiet.refl _)).resets.toSteady
  refine Resets.quiet ⟨hregs.trans (modPort_steady p unlinked _), ?_, ?_, ?_⟩ (linkDown_quiet p (resetPortRegs p above s))
  · intro k _
    simp [resetPortRegs]
  · intro q hq
    obtain rfl := List.mem_singleton.mp hq
    simp [resetPortRegs, unlinked]
  · intro q hq
    have hne : q ≠ p := fun h => hq (List.mem_singleton.mpr h)
    simp [resetPortRegs, modPort_port, hne]

/-- The link that a reset of a port takes down: none when the port is a spoke's. -/
def linkOf (s : State) (p : Nat) : List Nat := if (portSpoke s p).isNone then [p] else []

theorem SameConf.linkOf (h : SameConf t s) : linkOf t = linkOf s := by
  funext p; simp only [Machine.linkOf, h.portSpoke]

theorem mem_linkOf_self {p : Nat} (h : pciePort s p = true) : p ∈ linkOf s p := by
  have hnone := (Bool.and_eq_true_iff.mp h).2
  simp [linkOf, hnone]

theorem eq_of_mem_linkOf {p q : Nat} (h : q ∈ linkOf s p) : q = p := by
  unfold linkOf at h
  split at h
  · exact List.mem_singleton.mp h
  · exact absurd h List.not_mem_nil

theorem portReset_resets (p : Nat) (above : Bool) (s : State) : Resets [] (linkOf s p) s (portReset p above s) := by
  unfold portReset linkOf
  cases portSpoke s p with
  | some k => exact (resetPortSched_quiet (spokeReset_quiet (Quiet.refl s))).resets
  | none =>
    have hempty := emptyPort_quiet (p := p) (w := .port) (Quiet.refl (linkDown p (resetPortRegs p above s)))
    exact (linkDown_resetPortRegs p above s).quiet (onlyIf_quiet (fun _ => clearSlotStatus_quiet)
      (resetIngress_quiet (resetPortSched_quiet (releasePortSem_quiet hempty))))

theorem hotPortReset_resets (p : Nat) (above : Bool) (s : State) : Resets [] (linkOf s p) s (hotPortReset p above s) := by
  have hhot : Quiet s (sendHotReset p s) := sendHotReset_quiet (Quiet.refl s)
  rw [← hhot.resets.same.linkOf]
  exact hhot.then (portReset_resets p above _)

/-- A link that is up receives hot reset. -/
theorem hotReset_mem_hotPortReset {p : Nat} {above : Bool} (h : (s.port p).up = true) :
    Out.hotReset p ∈ (hotPortReset p above s).out := by
  refine (portReset_resets p above (sendHotReset p s)).out ?_
  simp [sendHotReset, h]

/-! Partitions. -/

theorem resetPartPorts_resets (p : Nat) (s : State) : Resets [] (partPorts s p) s (resetPartPorts p s) := by
  unfold resetPartPorts
  extract_lets ps s1
  have h1 : Quiet s s1 := forAll_quiet (fun _ _ => modAux_quiet) (Quiet.refl s)
  refine h1.then (forAll_resets (a := s1) (g := fun q => [q]) (fun q s _ => ?_) (List.flatMap_singleton' ps) ⟨rfl, rfl⟩)
  have hempty := emptyPort_quiet (p := q) (w := .partition) (Quiet.refl (linkDown q (resetPortRegs q true s)))
  exact (linkDown_resetPortRegs q true s).quiet
    (clearSlotStatus_quiet (releasePortSem_quiet (forAll_quiet (fun _ _ => endLockedReads_quiet) hempty)))

theorem partResetHere_resets (p : Nat) (s : State) : Resets [] (partPorts s p) s (partResetHere p s) := by
  have hbridge : Quiet (resetPartPorts p s) (resetPartBridge p (resetPartSched p (resetPartPorts p s))) :=
    resetPartBridge_quiet (resetPartSched_quiet (Quiet.refl _))
  have hpegs {s : State} : Quiet s (dropHostPegs p s) := (Quiet.refl s).same rfl
  exact ((resetPartPorts_resets p s).quiet hbridge).quiet (closePartEpisodes_quiet hpegs)

theorem modPart_resets (p : Nat) (f : Part → Part) (s : State) : Resets [p] [] s (modPart p f s) where
  same := ⟨rfl, rfl⟩
  now := rfl
  perstin := rfl
  out _ := id
  part k hk := by rw [modPart_part, if_neg (fun h => hk (List.mem_singleton.mpr h))]
  down _ hq := absurd hq List.not_mem_nil
  port _ _ := rfl

/-- A partition's registers after its reset. -/
def freshPart (q : Part) : Part := { inReset := true, perst := q.perst, lastSnap := q.lastSnap }

theorem resetPartHome_quiet (p : Nat) (s : State) :
    Quiet (modPart p freshPart (startFlr (512 + p) (dropSet (1 + p) (dropMailbox p s)))) (resetPartHome p s) :=
  (Quiet.refl _).same rfl

theorem resetPartHome_resets (p : Nat) (s : State) :
    Resets [p] [] s (resetPartHome p s) ∧ ((resetPartHome p s).part p).inReset = true := by
  have hflr : Quiet s (startFlr (512 + p) (dropSet (1 + p) (dropMailbox p s))) :=
    startFlr_quiet (dropSet_quiet (dropMailbox_quiet (Quiet.refl s)))
  have hquiet := resetPartHome_quiet p s
  refine ⟨(hflr.then (modPart_resets p freshPart _)).quiet hquiet, ?_⟩
  rw [(hquiet.resets.part_eq List.not_mem_nil).2.1, modPart_part_same]
  rfl

theorem partitionReset_resets (p : Nat) (s : State) : Resets [p] (partPorts s p) s (partitionReset p s) ∧
    ((partitionReset p s).part p).inReset = true := by
  obtain ⟨hhome, hreset⟩ := resetPartHome_resets p s
  have hhere := partResetHere_resets p (resetPartHome p s)
  rw [hhome.same.partPorts] at hhere
  have hrest := hhere.quiet (tellReset_quiet (p := p) (settleLoops_quiet (Quiet.refl (partResetHere p (resetPartHome p s)))))
  exact ⟨hhome.trans hrest, (hrest.part_eq List.not_mem_nil).2.1.trans hreset⟩

/-- A partition is held in reset, the links `qs` down. -/
structure Held (p : Nat) (qs : List Nat) (s : State) : Prop where
  perst : (s.part p).perst = true
  inReset : (s.part p).inReset = true
  down : ∀ q ∈ qs, (s.port q).up = false

/-- A partition is released and will be ready by `d`. -/
structure Released (p : Nat) (d : Time) (s : State) : Prop where
  perst : (s.part p).perst = false
  inReset : (s.part p).inReset = false
  ready : (s.part p).ready = false
  readyAt : (s.part p).readyAt = some d

theorem Resets.held (h : Resets ps qs s t) {p : Nat} {l : List Nat} (hp : p ∉ ps) (hs : Held p l s) : Held p l t := by
  obtain ⟨hperst, hreset, -⟩ := h.part_eq hp
  exact ⟨hperst.trans hs.perst, hreset.trans hs.inReset, fun q hq => h.stays_down (hs.down q hq)⟩

theorem Resets.released (h : Resets ps qs s t) {p : Nat} {d : Time} (hp : p ∉ ps) (hs : Released p d s) : Released p d t := by
  obtain ⟨hperst, hreset, hready, hat, -⟩ := h.part_eq hp
  exact ⟨hperst.trans hs.perst, hreset.trans hs.inReset, hready.trans hs.ready, hat.trans hs.readyAt⟩

theorem holdPart_resets (p : Nat) (s : State) : Resets [p] [] s (holdPart p s) ∧
    ((holdPart p s).part p).perst = true ∧ ((holdPart p s).part p).inReset = true := by
  have hmod := modPart_resets p (fun q => { q with perst := true, inReset := true }) s
  have hpins : Quiet (modPart p (fun q => { q with perst := true, inReset := true }) s) (holdPart p s) :=
    ite_quiet (forAll_quiet (fun _ _ => modPins_quiet) (Quiet.refl _)) (Quiet.refl _)
  obtain ⟨hperst, hreset, -⟩ := hpins.resets.part_eq (k := p) List.not_mem_nil
  rw [modPart_part_same] at hperst hreset
  exact ⟨hmod.quiet hpins, hperst, hreset⟩

/-- A reset whose partition is then held keeps its links down. -/
theorem holdPart_held {p : Nat} (h : Resets ps qs s t) : Resets (ps ++ [p]) qs s (holdPart p t) ∧ Held p qs (holdPart p t) := by
  obtain ⟨hhold, hperst, hreset⟩ := holdPart_resets p t
  exact ⟨by simpa only [List.append_nil] using h.trans hhold,
    hperst, hreset, fun q hq => hhold.stays_down (h.down q hq).1⟩

theorem unholdPart_released (p : Nat) (s : State) :
    Resets [p, p] [] s (unholdPart p s) ∧ Released p (s.now + 100 * ms) (unholdPart p s) := by
  have hheld := modPart_resets p (fun q => { q with perst := false }) s
  have hmod := hheld.trans (modPart_resets p (fun q => { q with inReset := false, ready := false, readyAt := some (s.now + 100 * ms) }) _)
  have hpins : Quiet (partReleased p (modPart p (fun q => { q with perst := false }) s)) (unholdPart p s) :=
    forAll_quiet (fun _ _ => releasePerst_quiet) (Quiet.refl _)
  refine ⟨hmod.quiet hpins, hpins.resets.released List.not_mem_nil ?_⟩
  constructor <;> simp [partReleased]

end
end Sys2Proof.Machine

namespace Sys2Proof.Machine

/-! The resets as whole commands (R160 to R162, Table 5.9). -/

section
variable {s t : State}

/-! PERSTIN_N. -/

theorem holdReset_held (p : Nat) (s : State) : Resets [p, p] (partPorts s p) s (holdPart p (partitionReset p s)) ∧
    Held p (partPorts s p) (holdPart p (partitionReset p s)) := holdPart_held (partitionReset_resets p s).1

theorem tellUnhold_released (p : Nat) (s : State) : Resets [p, p] [] s (tellReset p (unholdPart p s)) ∧
    Released p (s.now + 100 * ms) (tellReset p (unholdPart p s)) := by
  obtain ⟨hresets, hreleased⟩ := unholdPart_released p s
  have htell : Quiet (unholdPart p s) (tellReset p (unholdPart p s)) := tellReset_quiet (Quiet.refl _)
  exact ⟨hresets.quiet htell, htell.resets.released List.not_mem_nil hreleased⟩

theorem perstAssert_low {i : Nat} (hi : i ∈ s.pcie.perstin) : perstAssert i s = s := if_pos (List.contains_iff_mem.mpr hi)

theorem perstAssert_high {i : Nat} (hi : i ∉ s.pcie.perstin) : perstAssert i s =
    forAll ((homeParts s).filter fun p => partPerst s p == i) (fun p s => holdPart p (partitionReset p s))
      { s with pcie.perstin := s.pcie.perstin ++ [i] } := if_neg (fun h => hi (List.contains_iff_mem.mp h))

/-- An input that goes low holds every partition at home that selects it. -/
theorem perstAssert_held {i : Nat} (hi : i ∉ s.pcie.perstin) : i ∈ (perstAssert i s).pcie.perstin ∧
    ∀ p ∈ homeParts s, partPerst s p = i → Held p (partPorts s p) (perstAssert i s) := by
  rw [perstAssert_high hi]
  have hstep (y : Nat) (t : State) (h : Steady { s with pcie.perstin := s.pcie.perstin ++ [i] } t) :=
    h.trans (holdReset_held y t).1.toSteady
  constructor
  · rw [(forAll_keeps _ _ hstep _ _ (Steady.refl _)).perstin]
    simp
  · intro p hp hsel
    have hmem : p ∈ (homeParts s).filter fun p => partPerst s p == i := by simp [hp, hsel]
    have hown (t : State) (h : Steady { s with pcie.perstin := s.pcie.perstin ++ [i] } t) :
        Held p (partPorts s p) (holdPart p (partitionReset p t)) := by
      have hports : partPorts t p = partPorts s p := congrFun (SameConf.partPorts (s := s) h.same) p
      exact hports ▸ (holdReset_held p t).2
    refine forAll_reaches hmem hstep hown (fun y t h ht => ?_) (Steady.refl _)
    by_cases hy : p = y
    · exact hy ▸ hown t h
    · exact (holdReset_held y t).1.held (by simp [hy]) ht

/-- An input that is released frees every partition at home that it held. -/
theorem perstRelease_released (i : Nat) (s : State) : i ∉ (perstRelease i s).pcie.perstin ∧
    ∀ p ∈ homeParts s, partPerst s p = i → (s.part p).perst = true → Released p (s.now + 100 * ms) (perstRelease i s) := by
  unfold perstRelease
  have hstep (y : Nat) (t : State) (h : Steady { s with pcie.perstin := s.pcie.perstin.filter (· != i) } t) :=
    h.trans (tellUnhold_released y t).1.toSteady
  constructor
  · rw [(forAll_keeps _ _ hstep _ _ (Steady.refl _)).perstin]
    simp
  · intro p hp hsel hperst
    have hmem : p ∈ (homeParts s).filter fun p => partPerst s p == i && (s.part p).perst := by simp [hp, hsel, hperst]
    have hown (t : State) (h : Steady { s with pcie.perstin := s.pcie.perstin.filter (· != i) } t) :
        Released p (s.now + 100 * ms) (tellReset p (unholdPart p t)) := by
      have hnow : t.now = s.now := h.now
      exact hnow ▸ (tellUnhold_released p t).2
    refine forAll_reaches hmem hstep hown (fun y t h ht => ?_) (Steady.refl _)
    by_cases hy : p = y
    · exact hy ▸ hown t h
    · exact (tellUnhold_released y t).1.released (by simp [hy]) ht

/-! The notice of a reset by the partition's home. -/

theorem resetNotice_home {p : Nat} {held : Bool} (h : partEn s p = false ∨ partHome s p = s.dev) : resetNotice p held s = s := by
  rcases h with h | h <;> simp [resetNotice, h]

section
variable {p : Nat} (hen : partEn s p = true) (haway : partHome s p ≠ s.dev)
include hen haway

theorem resetNotice_hold : resetNotice p true s = holdPart p (partResetHere p (modPart p (fun q => { q with contained := false }) s)) := by
  simp [resetNotice, hen, haway]

theorem resetNotice_release (hperst : (s.part p).perst = true) : resetNotice p false s = unholdPart p s := by
  simp [resetNotice, hen, haway, hperst]

theorem resetNotice_hot (hperst : (s.part p).perst = false) : resetNotice p false s =
    partResetHere p (forAll (partPorts s p) sendHotReset (modPart p (fun q => { q with contained := false }) s)) := by
  simp only [resetNotice, hen, haway, hperst, Bool.not_true, Bool.and_false, Bool.or_false, decide_false, Bool.false_eq_true, if_false]
  rfl

end

/-- A reset of a partition's ports here is the same after a hot reset of their links. -/
theorem hotPartReset_resets (p : Nat) (s : State) :
    Resets [] (partPorts s p) s (partResetHere p (forAll (partPorts s p) sendHotReset s)) := by
  have hhot : Quiet s (forAll (partPorts s p) sendHotReset s) := forAll_quiet (fun _ _ => sendHotReset_quiet) (Quiet.refl s)
  have hhere := partResetHere_resets p (forAll (partPorts s p) sendHotReset s)
  rw [hhot.resets.same.partPorts] at hhere
  exact hhot.then hhere

/-! Upstream ports. -/

/-- A reset of the primary upstream port is its partition's. -/
theorem upstreamReset_primary {u : Nat} (h : portVsw s u = 0) : ((upstreamReset u s).part (portPart s u)).inReset = true ∧
    ∀ x ∈ partPorts s (portPart s u), ((upstreamReset u s).port x).up = false := by
  have hreset : upstreamReset u s = hotPartitionReset (portPart s u) s := if_pos h
  have hhot : Quiet s (forAll ((partPorts s (portPart s u)).filter fun q => !portUp s q) sendHotReset s) :=
    forAll_quiet (fun _ _ => sendHotReset_quiet) (Quiet.refl s)
  obtain ⟨hpart, hin⟩ := partitionReset_resets (portPart s u)
    (forAll ((partPorts s (portPart s u)).filter fun q => !portUp s q) sendHotReset s)
  rw [hhot.resets.same.partPorts] at hpart
  rw [hreset]
  exact ⟨hin, fun x hx => (hpart.down x hx).1⟩

/-- A fold of port resets takes the links of its PCIe ports down. -/
theorem forAll_portReset_resets {f : Nat → State → State} (hf : ∀ x s, Resets [] (linkOf s x) s (f x s)) (l : List Nat) (s : State) :
    Resets [] (l.flatMap (linkOf s)) s (forAll l f s) :=
  forAll_resets (a := s) (fun x t ht => ht.linkOf ▸ hf x t) rfl ⟨rfl, rfl⟩

theorem mem_flatMap_linkOf {l : List Nat} {x : Nat} (hx : x ∈ l) (h : pciePort s x = true) : x ∈ l.flatMap (linkOf s) :=
  List.mem_flatMap.mpr ⟨x, hx, mem_linkOf_self h⟩

/-- A reset of another upstream port is its virtual switch's. -/
theorem upstreamReset_switch {u : Nat} (h : portVsw s u ≠ 0) :
    ∀ x ∈ u :: vswDown s (portPart s u) (portVsw s u), pciePort s x = true →
      ((upstreamReset u s).port x).up = false ∧ ((upstreamReset u s).port x).contained = false := by
  have hreset : upstreamReset u s = resetFarPorts (portPart s u) (portVsw s u)
      (forAll (u :: vswDown s (portPart s u) (portVsw s u)) (fun q => portReset q true) s) := if_neg h
  have hports := (forAll_portReset_resets (fun x => portReset_resets x true) (u :: vswDown s (portPart s u) (portVsw s u)) s).quiet
    (resetFarPorts_quiet (p := portPart s u) (v := portVsw s u) (Quiet.refl _))
  rw [hreset]
  exact fun x hx hp => hports.down x (mem_flatMap_linkOf hx hp)

/-- A reset of the ports of a list with hot reset reaches each of its links that is up. -/
theorem hotReset_mem_forAll {l : List Nat} {x : Nat} (hx : x ∈ l) (hup : (s.port x).up = true) :
    Out.hotReset x ∈ (forAll l (fun x => hotPortReset x true) s).out := by
  have hstep (y : Nat) (t : State) (h : (t.port x).up = true ∨ Out.hotReset x ∈ t.out) :
      ((hotPortReset y true t).port x).up = true ∨ Out.hotReset x ∈ (hotPortReset y true t).out := by
    have hy := hotPortReset_resets y true t
    rcases h with h | h
    · by_cases hxy : x ∈ linkOf t y
      · obtain rfl := eq_of_mem_linkOf hxy
        exact .inr (hotReset_mem_hotPortReset h)
      · exact .inl (by rw [hy.port x hxy, h])
    · exact .inr (hy.out h)
  refine forAll_reaches hx hstep (fun t h => ?_) (fun y t _ h => (hotPortReset_resets y true t).out h) (.inl hup)
  exact h.elim hotReset_mem_hotPortReset fun h => (hotPortReset_resets x true t).out h

end

end Sys2Proof.Machine

namespace Sys2Proof

open Machine

/-! What the reset commands give (R13, R160 to R162, R471). -/

section
variable {dt : Time} {s : State}

theorem perstinAssert_gives {i : Nat} (h : i < 16) : Gives (.perstinAssert dt i) s (perstAssert i (advance dt s)) :=
  run_gives (decide_eq_true h) rfl

theorem perstinRelease_gives {i : Nat} (h : i < 16) : Gives (.perstinRelease dt i) s (perstRelease i (advance dt s)) :=
  run_gives (decide_eq_true h) rfl

theorem partitionResetNotice_gives {p : Nat} {held : Bool} (h : p < 64) :
    Gives (.partitionResetNotice dt p held) s (resetNotice p held (advance dt s)) := run_gives (decide_eq_true h) rfl

section
variable {p : Nat} (hp : p < 64)
include hp

theorem partitionReady_gives (hreset : ((advance dt s).part p).inReset = false) (hat : ((advance dt s).part p).readyAt.isSome = true) :
    Gives (.partitionReady dt p) s (modPart p (fun q => { q with ready := true }) (advance dt s)) :=
  run_gives (decide_eq_true hp) (if_pos (by rw [hreset, hat]; rfl))

theorem partitionReady_early (h : ((advance dt s).part p).inReset = true ∨ ((advance dt s).part p).readyAt = none) :
    Gives (.partitionReady dt p) s (advance dt s) :=
  run_gives (decide_eq_true hp) (if_neg (by rcases h with h | h <;> rw [h] <;> simp))

end

section
variable {u : Nat} (hu : u < 128)
include hu

/-- At an enabled upstream port. -/
theorem upstreamPort_gives (hen : portEn (advance dt s) u = true) (hup : portUp (advance dt s) u = true) :
    Gives (.hotResetReceived dt u) s (upstreamReset u (advance dt s)) ∧
    Gives (.secondaryBusResetUpstream dt u) s
      (let p := portPart (advance dt s) u
       let below := resetFarPorts p (portVsw (advance dt s) u)
         (forAll (vswDown (advance dt s) p (portVsw (advance dt s) u)) (fun q => hotPortReset q true) (advance dt s))
       if portVsw (advance dt s) u = 0 then settleLoops (startFlr (512 + p) (flrFunction0 p below)) else below) ∧
    Gives (.secondaryBusResetDownstream dt u) s (advance dt s) :=
  ⟨run_gives (decide_eq_true hu) (if_pos (by simp [hen, hup])), run_gives (decide_eq_true hu) (if_pos (by simp [hen, hup])),
    run_gives (decide_eq_true hu) (if_neg (by simp [hup]))⟩

theorem upstreamDlDown_gives (hen : portEn (advance dt s) u = true) (hup : portUp (advance dt s) u = true)
    (hlink : ((advance dt s).port u).up = true) :
    Gives (.upstreamDlDown dt u) s (upstreamReset u (record [portPart (advance dt s) u]
      { devRec (advance dt s) 0x0104 (if portVsw (advance dt s) u = 0 then 3 else 2) 0 0 with srcPort := u } (advance dt s))) :=
  run_gives (decide_eq_true hu) (if_pos (by rw [hen, hup, hlink]; rfl))

theorem upstreamDlDown_already (hlink : ((advance dt s).port u).up = false) : Gives (.upstreamDlDown dt u) s (advance dt s) :=
  run_gives (decide_eq_true hu) (if_neg (by rw [hlink]; simp))

theorem secondaryBusResetDownstream_gives (hen : portEn (advance dt s) u = true) (hup : portUp (advance dt s) u = false) :
    Gives (.secondaryBusResetDownstream dt u) s (hotPortReset u false (advance dt s)) :=
  run_gives (decide_eq_true hu) (if_pos (by simp [hen, hup]))

/-- The commands of an upstream port do nothing at another. -/
theorem upstreamCommands_elsewhere (h : portEn (advance dt s) u = false ∨ portUp (advance dt s) u = false) :
    ∀ c ∈ [Instr.hotResetReceived dt u, .upstreamDlDown dt u, .secondaryBusResetUpstream dt u], Gives c s (advance dt s) := by
  have hnot (b : Bool) : ¬ (portEn (advance dt s) u && portUp (advance dt s) u && b) = true := by
    rcases h with h | h <;> simp [h]
  have hnot' : ¬ (portEn (advance dt s) u && portUp (advance dt s) u) = true := by simpa using hnot true
  simp only [List.forall_mem_cons, List.not_mem_nil, false_implies, implies_true, and_true]
  exact ⟨run_gives (decide_eq_true hu) (if_neg hnot'), run_gives (decide_eq_true hu) (if_neg (hnot _)),
    run_gives (decide_eq_true hu) (if_neg hnot')⟩

theorem secondaryBusResetDownstream_disabled (h : portEn (advance dt s) u = false) :
    Gives (.secondaryBusResetDownstream dt u) s (advance dt s) := run_gives (decide_eq_true hu) (if_neg (by simp [h]))

end

/-- The link of an upstream port falls with the reset of its partition or virtual switch. -/
theorem upstreamReset_falls (a t : State) (u : Nat) (ha : Quiet a t) :
    (portVsw a u = 0 → ((upstreamReset u t).part (portPart a u)).inReset = true ∧
      ∀ x ∈ partPorts a (portPart a u), ((upstreamReset u t).port x).up = false) ∧
    (portVsw a u ≠ 0 → ∀ x ∈ u :: vswDown a (portPart a u) (portVsw a u), pciePort a x = true →
      ((upstreamReset u t).port x).up = false ∧ ((upstreamReset u t).port x).contained = false) := by
  have hsame := ha.resets.same
  rw [← hsame.portVsw, ← hsame.portPart, ← hsame.partPorts, ← hsame.vswDown, ← hsame.pciePort]
  exact ⟨upstreamReset_primary, upstreamReset_switch⟩

end

/-- A secondary bus reset of an upstream port takes the links below down, those that were up with a hot reset. -/
theorem secondaryBusReset_falls (a : State) (u : Nat) :
    let p := portPart a u
    let below := resetFarPorts p (portVsw a u) (forAll (vswDown a p (portVsw a u)) (fun q => hotPortReset q true) a)
    let t := if portVsw a u = 0 then settleLoops (startFlr (512 + p) (flrFunction0 p below)) else below
    ∀ x ∈ vswDown a p (portVsw a u), pciePort a x = true → (t.port x).up = false ∧ (t.port x).contained = false ∧
      ((a.port x).up = true → Out.hotReset x ∈ t.out) := by
  intro p below t x hx hpcie
  have hfar : Quiet (forAll (vswDown a p (portVsw a u)) (fun q => hotPortReset q true) a) below := resetFarPorts_quiet (Quiet.refl _)
  have ht : Quiet (forAll (vswDown a p (portVsw a u)) (fun q => hotPortReset q true) a) t :=
    ite_quiet (settleLoops_quiet (startFlr_quiet (flrFunction0_quiet hfar))) hfar
  have hports := (forAll_portReset_resets (fun x => hotPortReset_resets x true) (vswDown a p (portVsw a u)) a).quiet ht
  obtain ⟨hdown, hfree⟩ := hports.down x (mem_flatMap_linkOf hx hpcie)
  exact ⟨hdown, hfree, fun hup => ht.out (hotReset_mem_forAll hx hup)⟩

/-- Settles O38: each reset command gives the model's reset of its partitions or ports, and the reset keeps what it does not name, so
that the reset of the next partition or port does not undo it. -/
theorem partitionAndPortResets : Obligations.PartitionAndPortResets := by
  refine ⟨?perstin, ?notice, ?ports⟩
  case perstin =>
    intro s dt i a hi
    obtain ⟨hfree, hreleased⟩ := perstRelease_released i a
    refine ⟨fun hlow => ?_, fun hlow => ?_, _, perstinRelease_gives hi, rfl, hfree, fun p hp hsel hperst => ?_⟩
    · obtain ⟨hin, hheld⟩ := perstAssert_held hlow
      refine ⟨_, perstinAssert_gives hi, perstAssert_high hlow, hin, fun p hp hsel => ?_⟩
      obtain ⟨hperst, hreset, hdown⟩ := hheld p hp hsel
      exact ⟨hperst, hreset, hdown⟩
    · have hgives := perstinAssert_gives (dt := dt) (s := s) hi
      rwa [perstAssert_low hlow] at hgives
    · obtain ⟨hheld, hreset, hready, hat⟩ := hreleased p hp hsel hperst
      exact ⟨hheld, hreset, hready, hat⟩
  case notice =>
    intro s dt p a hp
    have hgives (held : Bool) := partitionResetNotice_gives (dt := dt) (s := s) (held := held) hp
    refine ⟨fun hen haway => ?_, fun hhome held => ?_, fun hreset hat => ?_, partitionReady_early hp⟩
    · intro b
      refine ⟨⟨_, hgives true, resetNotice_hold hen haway, ?_⟩, fun hperst => ⟨_, hgives false, resetNotice_release hen haway hperst, ?_⟩,
        fun hperst => ⟨_, hgives false, resetNotice_hot hen haway hperst, ?_⟩⟩
      · rw [resetNotice_hold hen haway]
        obtain ⟨hheld, hreset, hdown⟩ := (holdPart_held (partResetHere_resets p b)).2
        exact ⟨hheld, hreset, hdown⟩
      · rw [resetNotice_release hen haway hperst]
        obtain ⟨hheld, hreset, -, hat⟩ := (unholdPart_released p a).2
        exact ⟨hheld, hreset, hat⟩
      · rw [resetNotice_hot hen haway hperst]
        have hhot := hotPartReset_resets p b
        obtain ⟨-, -, -, -, hcontained⟩ := hhot.part_eq (k := p) List.not_mem_nil
        exact ⟨hcontained.trans (by rw [modPart_part_same]), hhot.down⟩
    · have h := hgives held
      rwa [resetNotice_home hhome] at h
    · exact ⟨_, partitionReady_gives hp hreset hat, rfl, by rw [modPart_part_same], fun k hk => by rw [modPart_part, if_neg hk]⟩
  case ports =>
    intro s dt u a hu
    refine ⟨fun hen hup => ?_, fun hen hup => ⟨?_, upstreamCommands_elsewhere hu (.inr hup)⟩, fun hen => ?_⟩
    · intro q v fallen
      obtain ⟨hhot, hbus, hdownstream⟩ := upstreamPort_gives hu hen hup
      refine ⟨⟨_, hhot, rfl, upstreamReset_falls a _ u (Quiet.refl a)⟩,
        fun hlink => ⟨_, upstreamDlDown_gives hu hen hup hlink, rfl, upstreamReset_falls a _ u (record_quiet (Quiet.refl a))⟩,
        upstreamDlDown_already hu, ⟨_, hbus, rfl, secondaryBusReset_falls a u⟩, hdownstream⟩
    · have hresets := hotPortReset_resets u false a
      refine ⟨_, secondaryBusResetDownstream_gives hu hen hup, rfl, fun hpcie => ?_, hotReset_mem_hotPortReset⟩
      exact hresets.down u (mem_linkOf_self hpcie)
    · have hup := upstreamCommands_elsewhere hu (.inl hen)
      simp only [List.forall_mem_cons, List.not_mem_nil, false_implies, implies_true, and_true] at hup ⊢
      obtain ⟨hhot, hdl, hbus⟩ := hup
      exact ⟨hhot, hdl, hbus, secondaryBusResetDownstream_disabled hu hen⟩

end Sys2Proof

namespace Sys2Proof.Machine

/-! Reports. A record, with its copies to rings of partitions, the interrupts and the messages that it causes, reaches only the log, the
ports' and partitions' registers, the spokes, the counters, the alert and the episodes and fences of failed writes. -/

/-- The state with nothing in what a report may reach. -/
def unreported (s : State) : State :=
  { s with
    errs := {}, pcie := {}, spokes := {}, count := {}, out := [], mgmt.oob := {}, bridge.episodes := [], bridge.fences := [] }

/-- The counter of MC restarts. -/
def restartCount (s : State) : Nat := tget 0 s.count.live (cDev cdRestarts)

/-- From `s` to `t` only what a report reaches has changed, and no restart is counted. -/
structure Reported (s t : State) : Prop where
  rest : unreported t = unreported s
  restarts : restartCount t = restartCount s

section
variable {a s t : State}

theorem Reported.refl (s : State) : Reported s s := ⟨rfl, rfl⟩

/-- An update of other things that a report reaches. -/
theorem Reported.same (h : Reported a s) (e : unreported t = unreported s) (c : t.count.live = s.count.live) : Reported a t :=
  ⟨e.trans h.rest, (congrArg (tget 0 · (cDev cdRestarts)) c).trans h.restarts⟩

/-! The fields that a report leaves. -/

theorem Reported.chip (h : Reported s t) : t.chip = s.chip := (congrArg State.chip h.rest :)
theorem Reported.conf (h : Reported s t) : t.conf = s.conf := (congrArg State.conf h.rest :)
theorem Reported.fw (h : Reported s t) : t.fw = s.fw := (congrArg State.fw h.rest :)
theorem Reported.hub (h : Reported s t) : t.hub = s.hub := (congrArg State.hub h.rest :)
theorem Reported.slot (h : Reported s t) : t.slot = s.slot := (congrArg State.slot h.rest :)
theorem Reported.sec (h : Reported s t) : t.sec = s.sec := (congrArg State.sec h.rest :)
theorem Reported.restartAt (h : Reported s t) : t.mgmt.restartAt = s.mgmt.restartAt := (congrArg (·.mgmt.restartAt) h.rest :)
theorem Reported.serving (h : Reported s t) : t.mgmt.serving = s.mgmt.serving := (congrArg (·.mgmt.serving) h.rest :)
theorem Reported.restartCause (h : Reported s t) : t.mgmt.restartCause = s.mgmt.restartCause :=
  (congrArg (·.mgmt.restartCause) h.rest :)
theorem Reported.mailbox (h : Reported s t) : t.mgmt.mailbox = s.mgmt.mailbox := (congrArg (·.mgmt.mailbox) h.rest :)
theorem Reported.mb (h : Reported s t) : t.mb = s.mb := by funext m; rw [State.mb, h.mailbox, State.mb]
theorem Reported.now (h : Reported s t) : t.now = s.now := congrArg Chip.upTime h.chip

/-! The shapes of an update. -/

theorem forAll_reported {α : Type} {f : α → State → State} {l : List α} (hf : ∀ x s, Reported a s → Reported a (f x s))
    (h : Reported a s) : Reported a (forAll l f s) := forAll_keeps (Reported a) f hf l s h

theorem ite_reported {c : Prop} [Decidable c] (hs : Reported a s) (ht : Reported a t) : Reported a (if c then s else t) := by
  split
  · exact hs
  · exact ht

theorem onlyIf_reported {b : Bool} {f : State → State} (hf : ∀ s, Reported a s → Reported a (f s)) (h : Reported a s) :
    Reported a (onlyIf b f s) := ite_reported (hf s h) h

theorem emit_reported {o : Out} (h : Reported a s) : Reported a (emit o s) := h.same rfl rfl
theorem modAux_reported {p : Nat} {f : PortAux → PortAux} (h : Reported a s) : Reported a (modAux p f s) := h.same rfl rfl
theorem modPart_reported {p : Nat} {f : Part → Part} (h : Reported a s) : Reported a (modPart p f s) := h.same rfl rfl
theorem modSpoke_reported {k : Nat} {f : Spoke → Spoke} (h : Reported a s) : Reported a (modSpoke k f s) := h.same rfl rfl
theorem countLost_reported {i : Nat} (h : Reported a s) : Reported a (countLost i s) := h.same rfl rfl

theorem countBy_reported {i n : Nat} (hi : cDev cdRestarts ≠ i) (h : Reported a s) : Reported a (countBy i n s) :=
  ⟨h.rest, (tget_tset_ne 0 s.count.live _ hi).trans h.restarts⟩

theorem count1_reported {i : Nat} (hi : cDev cdRestarts ≠ i) (h : Reported a s) : Reported a (count1 i s) := countBy_reported hi h

/-! Messages. -/

theorem routeCells_reported {d srcDev srcPort dstPort svc : Nat} {cs : List Cell} (h : Reported a s) :
    Reported a (routeCells d srcDev srcPort dstPort svc cs s) := by
  unfold routeCells
  split
  · exact countLost_reported h
  · extract_lets
    split
    · exact h.same rfl rfl
    · split
      · exact modSpoke_reported h
      · exact h

/-- The copy of a record for a ring elsewhere is no completion: it is counted in no flow. -/
theorem post_errRec_reported {d p : Nat} {r : ErrRec} (h : Reported a s) : Reported a (post (.errRec d p r) s) :=
  ite_reported (emit_reported h) (routeCells_reported (emit_reported h))

theorem sendMsg_reported {p : Nat} {m : MsgKind} (h : Reported a s) : Reported a (sendMsg p m s) :=
  ite_reported (modAux_reported h) (ite_reported (emit_reported h) h)

theorem collapse_reported {u : Nat} (h : Reported a s) : Reported a (collapse u s) :=
  forAll_reported (fun _ _ h => ite_reported (sendMsg_reported h) (ite_reported (sendMsg_reported h) h)) (modAux_reported h)

theorem updateLevel_reported {p : Nat} (h : Reported a s) : Reported a (updateLevel p s) := by
  unfold updateLevel
  extract_lets l s1
  have h1 : Reported a s1 := modPart_reported h
  split
  · exact h
  · split
    · exact collapse_reported h1
    · exact h1

/-! The log and its alerts. -/

theorem raiseAlert_reported {n : Option Nat} (h : Reported a s) : Reported a (raiseAlert n s) := by
  unfold raiseAlert
  extract_lets _ s1 _ _ s2
  have h1 : Reported a s1 := by cases n <;> exact h.same rfl rfl
  have h2 : Reported a s2 := ite_reported h1 (emit_reported (h1.same rfl rfl))
  split
  · exact emit_reported (h2.same rfl rfl)
  · exact h2

theorem enterLog_reported {r : ErrRec} (h : Reported a s) : Reported a (enterLog r s) := by
  unfold enterLog
  exact h.same (by simp only [unreported]) rfl

theorem logOnly_reported {r : ErrRec} (h : Reported a s) : Reported a (logOnly r s) :=
  ite_reported (raiseAlert_reported (enterLog_reported h)) (enterLog_reported h)

theorem func0Err_reported {p b : Nat} {m : MsgKind} (h : Reported a s) : Reported a (func0Err p b m s) := by
  unfold func0Err func0Msg
  refine ite_reported ?_ h
  split
  · exact sendMsg_reported h
  · exact h

theorem sendNonFatal_reported {p : Nat} (h : Reported a s) : Reported a (sendNonFatal p s) :=
  ite_reported (func0Err_reported (modPart_reported h)) (modPart_reported h)

theorem signalRecord_reported {p : Nat} {r : ErrRec} (h : Reported a s) : Reported a (signalRecord p r s) := by
  unfold signalRecord
  split
  · exact ite_reported (modPart_reported h) (func0Err_reported (modPart_reported h))
  · exact ite_reported h (sendNonFatal_reported (modPart_reported h))
  · exact ite_reported (sendNonFatal_reported (modPart_reported h)) h
  · exact h

theorem extendEpisode_reported {cause part dev port : Nat} (h : Reported a s) : Reported a (extendEpisode cause part dev port s) :=
  h.same rfl rfl

/-! A denied interrupt is counted at a port's table or at the port. -/

theorem primaryUp_lt {p u : Nat} (h : primaryUp s p = some u) : u < 128 :=
  List.mem_range.mp (List.mem_filter.mp (List.mem_of_find?_eq_some h)).1

theorem decideAt_entry_le (s : State) (port table lo : Nat) (x : Access) : (decideAt s port table lo x).2 ≤ 64 := by
  unfold decideAt
  extract_lets hit
  have hentry (y : Bool × Nat) (hy : hit = some y) : y.2 ≤ 64 := by
    obtain ⟨e, -, he⟩ := List.exists_of_findSome?_eq_some hy
    have hmod : e.b % 64 ≤ 64 := (Nat.mod_lt _ (by decide)).le
    dsimp only at he
    split_ifs at he
    · cases he; exact hmod
    · cases he; exact hmod
  clear_value hit
  cases hit with
  | some y => exact hentry y rfl
  | none =>
    dsimp only
    split
    · exact le_rfl
    · exact le_rfl

theorem msixReach_entry_le (s : State) (p addr : Nat) : (msixReach s p addr).2 ≤ 64 := by
  unfold msixReach
  split
  · exact decideAt_entry_le ..
  · exact le_rfl

theorem countDeny_reported {p i : Nat} (hi : i ≤ 64) (h : Reported a s) : Reported a (countDeny (primaryUp s p) i s) := by
  unfold countDeny
  split
  next u hu =>
    have hlt := primaryUp_lt hu
    refine ite_reported (count1_reported ?_ h) (count1_reported ?_ h)
    · simp only [cDev, cPort, cId, cdRestarts]; omega
    · simp only [cDev, cAct, cId, cdRestarts]; omega
  · exact h

/-! Records and the interrupts that they raise. -/

section
variable {raise denied : Nat → Nat → State → State} (hraise : ∀ p i s, Reported a s → Reported a (raise p i s))
  (hdenied : ∀ p i s, Reported a s → Reported a (denied p i s))

include hraise in
theorem ringCopyBy_reported {p : Nat} {r : ErrRec} (h : Reported a s) : Reported a (ringCopyBy raise p r s) := by
  have hring : Reported a (ringWriteBy raise p r s) :=
    ite_reported (hraise _ _ _ (modPart_reported h)) (hraise _ _ _ (modPart_reported h))
  exact ite_reported h (ite_reported (signalRecord_reported hring) (post_errRec_reported h))

include hraise in
theorem recordBy_reported {ps : List Nat} {r : ErrRec} (h : Reported a s) : Reported a (recordBy raise ps r s) :=
  forAll_reported (fun _ _ => ringCopyBy_reported hraise) ((logOnly_reported h).same rfl rfl)

include hraise in
theorem writeFailureBy_reported {cause part : Nat} {r : ErrRec} (hc : cause = 0xA) (h : Reported a s) :
    Reported a (writeFailureBy raise cause r part s) := by
  unfold writeFailureBy
  extract_lets s r s1 _ s2
  have hs : Reported a s := count1_reported (by subst hc; simp only [cDev, cPart, cId, cdRestarts]; omega) h
  have h1 : Reported a s1 := recordBy_reported hraise hs
  have h2 : Reported a s2 := ite_reported h1 (h1.same rfl rfl)
  split
  · exact extendEpisode_reported hs
  · exact ite_reported (h2.same rfl rfl) (recordBy_reported hraise h2)

include hdenied in
theorem sendMsixBy_reported {p i : Nat} (h : Reported a s) : Reported a (sendMsixBy denied p i s) := by
  unfold sendMsixBy sendVectorBy
  extract_lets addr
  split
  · exact modPart_reported h
  · have hle := msixReach_entry_le s p addr
    split
    · exact emit_reported h
    next i hi =>
      rw [hi] at hle
      exact hdenied _ _ _ (countDeny_reported hle h)

include hdenied in
theorem raiseBy_reported {p i : Nat} {b : Bool} (h : Reported a s) :
    Reported a (updateLevel p (onlyIf b (sendMsixBy denied p i) (setCause p i s))) :=
  updateLevel_reported (onlyIf_reported (fun _ => sendMsixBy_reported hdenied) (modPart_reported h))

end

theorem raiseQuiet_reported {p i : Nat} (h : Reported a s) : Reported a (raiseQuiet p i s) := raiseBy_reported (fun _ _ _ => id) h

theorem msixDenied_reported {p addr : Nat} (h : Reported a s) : Reported a (msixDenied p addr s) :=
  writeFailureBy_reported (fun _ _ _ => raiseQuiet_reported) rfl h

theorem raiseCause_reported {p i : Nat} (h : Reported a s) : Reported a (raiseCause p i s) :=
  raiseBy_reported (fun _ _ _ => msixDenied_reported) h

theorem record_reported {ps : List Nat} {r : ErrRec} (h : Reported a s) : Reported a (record ps r s) :=
  recordBy_reported (fun _ _ _ => raiseCause_reported) h

theorem deviceRecord_reported {cause cls x y : Nat} (h : Reported a s) : Reported a (deviceRecord cause cls x y s) := record_reported h

end
end Sys2Proof.Machine

namespace Sys2Proof.Machine

/-! The slot die's events. They reach the slot die, the clock outputs of its channels and what a report reaches; a frame enters the hub only
for a port whose upstream port is on another device (R150). -/

/-- The upstream port of a port's virtual switch, where there is one, is on this device. -/
def upstreamHere (s : State) (p : Nat) : Prop :=
  ∀ d u, upstreamPort s (portPart s p) (portVsw s p) = some (d, u) → d = s.dev

/-- The port that names a channel has its upstream port on this device. -/
def channelHere (s : State) (ch : Nat) : Prop := ∀ q, slotPort s ch = some q → upstreamHere s q

section
variable {s t : State} {ch : Nat}

theorem SameConf.slotPort (h : SameConf t s) : slotPort t = slotPort s := by
  funext c; simp only [Machine.slotPort, portHp, portSlot, h.portEn, h.portRec]

theorem SameConf.upstreamHere (h : SameConf t s) : upstreamHere t = upstreamHere s := by
  funext p; simp only [Machine.upstreamHere, upstreamPort, devEntries, State.dev, h.1, h.2, h.partHome, h.portPart, h.portVsw]

end

/-- The state with nothing in what the slot die's events may reach, and no queue of commands. -/
def slotCore (s : State) : State :=
  { unreported s with
    hub := {}, lanes := {}, pending := [], slot := { s.slot with chan := [], aux := [], feedA := {}, feedB := {}, held := [] } }

/-- From `s` to `t` only what slot events reach has changed: of the channels those in `C`, and the hub only where `L` does not hold. -/
structure SlotKept (L : Prop) (C : Nat → Prop) (s t : State) : Prop where
  core : slotCore t = slotCore s
  chan : ∀ k, ¬ C k → t.chan k = s.chan k
  hub : L → t.hub = s.hub

section
variable {L : Prop} {C : Nat → Prop} {a s t : State} {ch : Nat}

theorem SlotKept.refl (s : State) : SlotKept L C s s := ⟨rfl, fun _ _ => rfl, fun _ => rfl⟩

/-- An update of other things that slot events reach. -/
theorem SlotKept.same (h : SlotKept L C a s) (core : slotCore t = slotCore s) (chan : t.slot.chan = s.slot.chan)
    (hub : t.hub = s.hub) : SlotKept L C a t :=
  ⟨core.trans h.core, fun k hk => by rw [State.chan, chan]; exact h.chan k hk, fun hl => hub.trans (h.hub hl)⟩

theorem SlotKept.report (h : SlotKept L C a s) (r : Reported s t) : SlotKept L C a t :=
  h.same (congrArg slotCore r.rest :) (congrArg SlotDie.chan r.slot) r.hub

/-! The fields that slot events leave. -/

theorem SlotKept.chip (h : SlotKept L C s t) : t.chip = s.chip := (congrArg State.chip h.core :)
theorem SlotKept.conf (h : SlotKept L C s t) : t.conf = s.conf := (congrArg State.conf h.core :)
theorem SlotKept.fw (h : SlotKept L C s t) : t.fw = s.fw := (congrArg State.fw h.core :)
theorem SlotKept.sec (h : SlotKept L C s t) : t.sec = s.sec := (congrArg State.sec h.core :)
theorem SlotKept.restartAt (h : SlotKept L C s t) : t.mgmt.restartAt = s.mgmt.restartAt := (congrArg (·.mgmt.restartAt) h.core :)

theorem SlotKept.sameConf (h : SlotKept L C s t) : SameConf t s := ⟨congrArg Conf.entries h.conf, congrArg Chip.devnum h.chip⟩

/-! The shapes of an update. -/

theorem forAll_kept {α : Type} {f : α → State → State} {l : List α} (hf : ∀ x s, SlotKept L C a s → SlotKept L C a (f x s))
    (h : SlotKept L C a s) : SlotKept L C a (forAll l f s) := forAll_keeps (SlotKept L C a) f hf l s h

theorem ite_kept {c : Prop} [Decidable c] (hs : SlotKept L C a s) (ht : SlotKept L C a t) : SlotKept L C a (if c then s else t) := by
  split
  · exact hs
  · exact ht

theorem onlyIf_kept {b : Bool} {f : State → State} (hf : ∀ s, SlotKept L C a s → SlotKept L C a (f s)) (h : SlotKept L C a s) :
    SlotKept L C a (onlyIf b f s) := ite_kept (hf s h) h

theorem emit_kept {o : Out} (h : SlotKept L C a s) : SlotKept L C a (emit o s) := h.same rfl rfl rfl
theorem modAux_kept {p : Nat} {f : PortAux → PortAux} (h : SlotKept L C a s) : SlotKept L C a (modAux p f s) := h.same rfl rfl rfl
theorem countBy_kept {i n : Nat} (h : SlotKept L C a s) : SlotKept L C a (countBy i n s) := h.same rfl rfl rfl
theorem count1_kept {i : Nat} (h : SlotKept L C a s) : SlotKept L C a (count1 i s) := countBy_kept h
theorem modChanAux_kept {k : Nat} {f : ChanAux → ChanAux} (h : SlotKept L C a s) : SlotKept L C a (modChanAux k f s) := h.same rfl rfl rfl
theorem record_kept {ps : List Nat} {r : ErrRec} (h : SlotKept L C a s) : SlotKept L C a (record ps r s) :=
  h.report (record_reported (Reported.refl s))
theorem collapse_kept {u : Nat} (h : SlotKept L C a s) : SlotKept L C a (collapse u s) := h.report (collapse_reported (Reported.refl s))

theorem modFeed_kept {b : Bool} {f : Feed → Feed} (h : SlotKept L C a s) : SlotKept L C a (modFeed b f s) :=
  ite_kept (h.same rfl rfl rfl) (h.same rfl rfl rfl)

theorem settleFeeds_kept (h : SlotKept L C a s) : SlotKept L C a (settleFeeds s) :=
  onlyIf_kept (fun _ => emit_kept) (onlyIf_kept (fun _ => emit_kept) (h.same rfl rfl rfl))

theorem settleCad_kept (h : SlotKept L C a s) : SlotKept L C a (settleCad s) :=
  forAll_kept (fun _ _ h => ite_kept h (emit_kept (h.same rfl rfl rfl))) h

/-! Hot-plug status and its interrupt. -/

theorem newFrame_kept {f : Frame} (hl : ¬ L) (h : SlotKept L C a s) : SlotKept L C a (newFrame f s) := by
  have hcolour : SlotKept L C a (colourOf f.att f.sub f.tlp.frameBytes (if f.rxSpoke.isSome then some f.colour else none) s).2 := by
    unfold colourOf
    extract_lets
    split
    · exact h
    · exact ⟨h.core, h.chan, fun l => absurd l hl⟩
  exact ⟨hcolour.core, hcolour.chan, fun l => absurd l hl⟩

theorem tunnel_kept {p dev port : Nat} {m : MsgKind} (hl : ¬ L) (h : SlotKept L C a s) : SlotKept L C a (tunnel p dev port m s) :=
  ite_kept (newFrame_kept hl h) (h.same rfl rfl rfl)

theorem wireMessage_kept {p wire : Nat} {on : Bool} (hl : L → upstreamHere a p) (h : SlotKept L C a s) :
    SlotKept L C a (wireMessage p wire on s) := by
  unfold wireMessage
  split
  · exact h
  · extract_lets part pin s1 level
    have h1 : SlotKept L C a s1 := modAux_kept h
    split
    next d u hup =>
      split
      · exact collapse_kept h1
      next hd =>
        have hnot : ¬ L := fun l => hd ((h.sameConf.upstreamHere ▸ hl l : upstreamHere s p) d u hup)
        exact ite_kept h1 (tunnel_kept hnot h1)
    · exact h1

theorem noteStatus_kept {p : Nat} {f : PortAux → PortAux} (hl : L → upstreamHere a p) (h : SlotKept L C a s) :
    SlotKept L C a (noteStatus p f s) := by
  unfold noteStatus settleInt
  extract_lets s1
  have h1 : SlotKept L C a s1 := modAux_kept h
  have hcount := onlyIf_kept (b := portHp s p) (fun _ => countBy_kept (i := cPort p 21)
    (n := slotEvents (s1.aux p) - slotEvents (s.aux p))) h1
  exact ite_kept hcount (wireMessage_kept hl hcount)

section
variable (hl : L → channelHere a ch)
include hl

/-- The status of the port that names the channel. -/
theorem channelStatus_kept {f : PortAux → PortAux} (h : SlotKept L C a s) :
    ∀ q, slotPort s ch = some q → SlotKept L C a (noteStatus q f s) :=
  fun q hq => noteStatus_kept (fun l => hl l q (h.sameConf.slotPort ▸ hq)) h

theorem powerFault_kept (h : SlotKept L C a s) : SlotKept L C a (powerFault ch s) := by
  unfold powerFault
  split
  next q hq => exact channelStatus_kept hl h q hq
  · exact h

theorem presenceShown_kept (h : SlotKept L C a s) : SlotKept L C a (presenceShown ch s) := by
  unfold presenceShown
  split
  next q hq => exact channelStatus_kept hl h q hq
  · exact h

end

/-! Events and faults of a channel. -/

theorem slotEvent_kept {cls code trig : Nat} (h : SlotKept L C a s) : SlotKept L C a (slotEvent ch cls code trig s) :=
  ite_kept (record_kept h) (h.same rfl rfl rfl)

section
variable (hc : C ch)
include hc

theorem modChan_kept {f : Chan → Chan} (h : SlotKept L C a s) : SlotKept L C a (modChan ch f s) where
  core := h.core
  chan k hk := by
    have hne : k ≠ ch := fun e => hk (e ▸ hc)
    exact (modChan_chan_ne s f hne).trans (h.chan k hk)
  hub := h.hub

theorem modPins_kept {f : Chan → Chan} (h : SlotKept L C a s) : SlotKept L C a (modPins ch f s) :=
  onlyIf_kept (fun _ => emit_kept) (onlyIf_kept (fun _ => emit_kept) (modChan_kept hc h))

theorem releasePerst_kept (h : SlotKept L C a s) : SlotKept L C a (releasePerst ch s) := ite_kept (modPins_kept hc h) h

theorem gateOff_kept {next : Nat} {moment : Time} (h : SlotKept L C a s) : SlotKept L C a (gateOff ch next moment s) :=
  have hpins := modChanAux_kept (modPins_kept hc h)
  settleCad_kept (ite_kept (emit_kept (emit_kept hpins)) hpins)

theorem enqueue_kept (h : SlotKept L C a s) : SlotKept L C a (enqueue ch s) := modChanAux_kept (modChan_kept hc h)

theorem requestOff_kept (h : SlotKept L C a s) : SlotKept L C a (requestOff ch s) := ite_kept (gateOff_kept hc (modChan_kept hc h)) h

theorem unlatch_kept (h : SlotKept L C a s) : SlotKept L C a (unlatch ch s) := ite_kept (modChan_kept hc h) h

theorem enterOn_kept {moment : Time} (h : SlotKept L C a s) : SlotKept L C a (enterOn ch moment s) :=
  have hon := modChanAux_kept (modPins_kept hc h)
  settleCad_kept (ite_kept (slotEvent_kept hon) hon)

theorem tickQualify_kept {moment : Time} {x : SlotSample} (h : SlotKept L C a s) : SlotKept L C a (tickQualify ch moment x s) :=
  ite_kept (ite_kept (enterOn_kept hc (modChan_kept hc h)) (modChan_kept hc h)) h

variable (hl : L → channelHere a ch)
include hl

theorem noteFault_kept {code trig : Nat} (h : SlotKept L C a s) : SlotKept L C a (noteFault ch code trig s) :=
  have hnoted := modChan_kept hc (count1_kept h)
  ite_kept (powerFault_kept hl hnoted) hnoted

theorem unusable_kept {code : Nat} (h : SlotKept L C a s) : SlotKept L C a (unusable ch code s) :=
  ite_kept (noteFault_kept hc hl h) (slotEvent_kept (noteFault_kept hc hl (gateOff_kept hc h)))

theorem chanFault_kept {trig : Nat} {moment : Time} (h : SlotKept L C a s) : SlotKept L C a (chanFault ch trig moment s) := by
  unfold chanFault
  extract_lets c r code low tf s1
  have h1 : SlotKept L C a s1 := modChan_kept hc (noteFault_kept hc hl h)
  have hlatch {code : Nat} : SlotKept L C a (slotEvent ch 2 code trig (noteFault ch code trig (gateOff ch 6 moment s1))) :=
    slotEvent_kept (noteFault_kept hc hl (gateOff_kept hc h1))
  exact ite_kept hlatch (ite_kept hlatch (modChan_kept hc (gateOff_kept hc h1)))

/-! The tick. -/

theorem tickRamp_kept {moment : Time} {x : SlotSample} (h : SlotKept L C a s) : SlotKept L C a (tickRamp ch moment x s) :=
  have hramp := modChan_kept hc h
  ite_kept (ite_kept (chanFault_kept hc hl hramp) (ite_kept (modChan_kept hc hramp) hramp)) h

theorem slotTick_kept {moment : Time} {x : SlotSample} (h : SlotKept L C a s) : SlotKept L C a (slotTick ch moment x s) := by
  unfold slotTick
  extract_lets c s0 r lim above timer1 under1 timer2 timer3 s1
  have h0 : SlotKept L C a s0 := modChan_kept hc h
  have h1 : SlotKept L C a s1 := modChan_kept hc h0
  exact ite_kept h (ite_kept (chanFault_kept hc hl h0)
    (ite_kept (chanFault_kept hc hl h1) (tickQualify_kept hc (tickRamp_kept hc hl h1))))

theorem slotTicks_kept {x : SlotSample} {n : Nat} {moment : Time} (h : SlotKept L C a s) :
    SlotKept L C a (slotTicks ch x n moment s).1 := by
  induction n generalizing moment s with
  | zero => exact h
  | succ n ih => exact ih (slotTick_kept hc hl h)

theorem foldTicks_kept {xs : List SlotSample} {moment : Time} (h : SlotKept L C a s) :
    SlotKept L C a (xs.foldl (fun (y : State × Time) x => slotTicks ch x x.ticks y.2 y.1) (s, moment)).1 := by
  induction xs generalizing s moment with
  | nil => exact h
  | cons x r ih => exact ih (slotTicks_kept hc hl h)

theorem runTicks_kept {xs : List SlotSample} (h : SlotKept L C a s) : SlotKept L C a (runTicks ch xs s) :=
  ite_kept h (foldTicks_kept hc hl h)

theorem presenceChange_kept {on : Bool} (h : SlotKept L C a s) : SlotKept L C a (presenceChange ch on s) := by
  unfold presenceChange
  extract_lets away s1 s2
  have h1 : SlotKept L C a s1 := modChan_kept hc h
  have h2 : SlotKept L C a s2 := ite_kept (ite_kept (unlatch_kept hc h1) h1) (ite_kept (requestOff_kept hc h1) h1)
  exact ite_kept h (ite_kept (presenceShown_kept hl h2) h2)

end

/-! Whole commands. -/

theorem run_kept {dt : Time} {ok : Bool} {f : State → State} (h : run dt ok f a = .next t)
    (hf : SlotKept L C (advance dt a) (f (advance dt a))) : SlotKept L C (advance dt a) t := by
  rcases run_next h with ⟨-, rfl⟩ | ⟨-, rfl⟩
  · exact hf.same rfl rfl rfl
  · exact SlotKept.refl _

/-- A check of a channel's pass device, its note taken. -/
theorem fetCheck_kept {vout : Nat} (hc : C ch) (hl : L → channelHere a ch) (h : SlotKept L C a s) :
    SlotKept L C a (if 500 < vout then unusable ch 4 s else modChan ch (fun c => { c with checked := true }) s) :=
  ite_kept (unusable_kept hc hl h) (modChan_kept hc h)

section
variable {dt : Time} {sense vout : Nat} {xs : List SlotSample} {on : Bool}

theorem execSpinHoldExpiry_kept (h : execSpinHoldExpiry dt ch a = .next t) : SlotKept L C (advance dt a) t := by
  unfold execSpinHoldExpiry at h
  refine run_kept h ?_
  have hr : SlotKept L C (advance dt a) (advance dt a) := SlotKept.refl _
  split
  · exact ite_kept (modChanAux_kept hr) hr
  · exact hr

theorem execAdcSample_kept (h : execAdcSample dt ch sense vout a = .next t) : SlotKept L C (advance dt a) t := by
  unfold execAdcSample at h
  exact run_kept h (ite_kept (modChanAux_kept (SlotKept.refl _)) (settleFeeds_kept (modFeed_kept (SlotKept.refl _))))

section
variable (hc : C ch)
include hc

theorem execSlotPerstRelease_kept (h : execSlotPerstRelease dt ch a = .next t) : SlotKept L C (advance dt a) t :=
  run_kept h (releasePerst_kept hc (SlotKept.refl _))

theorem execRetryWaitEnd_kept (h : execRetryWaitEnd dt ch a = .next t) : SlotKept L C (advance dt a) t :=
  run_kept h (ite_kept (enqueue_kept hc (modChan_kept hc (count1_kept (SlotKept.refl _)))) (SlotKept.refl _))

theorem execRetryCountClear_kept (h : execRetryCountClear dt ch a = .next t) : SlotKept L C (advance dt a) t :=
  run_kept h (ite_kept (modChan_kept hc (SlotKept.refl _)) (SlotKept.refl _))

variable (hl : L → channelHere (advance dt a) ch)
include hl

/-- The four events of the tick. -/
theorem execTicks_kept (h : run dt (okChan ch) (runTicks ch xs) a = .next t) : SlotKept L C (advance dt a) t :=
  run_kept h (runTicks_kept hc hl (SlotKept.refl _))

theorem execSlotFastTrip_kept (h : execSlotFastTrip dt ch xs a = .next t) : SlotKept L C (advance dt a) t :=
  run_kept h (ite_kept (runTicks_kept hc hl (modChan_kept hc (SlotKept.refl _))) (SlotKept.refl _))

theorem execPgLost_kept (h : execPgLost dt ch a = .next t) : SlotKept L C (advance dt a) t :=
  run_kept h (ite_kept (slotEvent_kept (noteFault_kept hc hl (settleCad_kept (modPins_kept hc (SlotKept.refl _))))) (SlotKept.refl _))

theorem execDischargeEnd_kept (h : execDischargeEnd dt ch vout a = .next t) : SlotKept L C (advance dt a) t :=
  run_kept h (ite_kept (fetCheck_kept hc hl (modChan_kept hc (SlotKept.refl _))) (SlotKept.refl _))

theorem execStartupFetShortCheck_kept (h : execStartupFetShortCheck dt ch vout a = .next t) : SlotKept L C (advance dt a) t :=
  run_kept h (ite_kept (fetCheck_kept hc hl (modChanAux_kept (SlotKept.refl _))) (SlotKept.refl _))

theorem execGateStuck_kept (h : execGateStuck dt ch a = .next t) : SlotKept L C (advance dt a) t :=
  run_kept h (ite_kept (unusable_kept hc hl (SlotKept.refl _)) (SlotKept.refl _))

theorem execFetLeak_kept (h : execFetLeak dt ch a = .next t) : SlotKept L C (advance dt a) t :=
  run_kept h (ite_kept (unusable_kept hc hl (SlotKept.refl _)) (SlotKept.refl _))

theorem execPresenceChange_kept (h : execPresenceChange dt ch on a = .next t) : SlotKept L C (advance dt a) t :=
  run_kept h (presenceChange_kept hc hl (SlotKept.refl _))

/-- The events of one channel's slot power. -/
theorem slotEvents_kept :
    ∀ c ∈ [Instr.slotFastTrip dt ch xs, .slotFaultTimerExpiry dt ch xs, .slotEnergyExceeded dt ch xs, .slotRampDone dt ch xs,
      .slotPowerGoodQualify dt ch xs, .pgLost dt ch, .slotPerstRelease dt ch, .retryWaitEnd dt ch, .dischargeEnd dt ch vout,
      .gateStuck dt ch, .fetLeak dt ch, .retryCountClear dt ch, .spinHoldExpiry dt ch, .presenceChange dt ch on,
      .startupFetShortCheck dt ch vout, .adcSample dt ch sense vout],
    exec c a = .next t → SlotKept L C (advance dt a) t := by
  simp only [List.forall_mem_cons, List.not_mem_nil, false_implies, implies_true, and_true]
  exact ⟨execSlotFastTrip_kept hc hl, execTicks_kept hc hl, execTicks_kept hc hl, execTicks_kept hc hl, execTicks_kept hc hl,
    execPgLost_kept hc hl, execSlotPerstRelease_kept hc, execRetryWaitEnd_kept hc, execDischargeEnd_kept hc hl,
    execGateStuck_kept hc hl, execFetLeak_kept hc hl, execRetryCountClear_kept hc, execSpinHoldExpiry_kept,
    execPresenceChange_kept hc hl, execStartupFetShortCheck_kept hc hl, execAdcSample_kept⟩

end
end
end
end Sys2Proof.Machine

namespace Sys2Proof

open Machine

/-- Settles O16: every step of a slot event reaches only the slot die, the clock outputs and what a report reaches. -/
theorem slotEventsLeaveTheCore : Obligations.SlotEventsLeaveTheCore := by
  intro s t dt ch sense vout xs on a c hc ht
  have hkept : SlotKept (channelHere a ch) (· = ch) a t := slotEvents_kept rfl id c hc ht
  have hfield {β : Type} (g : State → β) : g (slotCore t) = g (slotCore a) := congrArg g hkept.core
  refine ⟨hkept.chip, hfield State.ft, hkept.conf, hkept.fw, hfield State.mover, hkept.sec, hfield State.tandem, hfield State.aging,
    hfield State.power, hfield (·.slot.recs), hkept.chan, fun hhere => ⟨hkept.hub ?_, hfield State.sched, ?_⟩⟩
  · exact fun q hq d u => hhere q d u hq
  · exact congrArg (fun b : Bridge => { b with episodes := t.bridge.episodes, fences := t.bridge.fences }) (hfield State.bridge)

end Sys2Proof

namespace Sys2Proof.Machine

/-! An MC restart (R24, R358, R370). -/

/-- What an MC restart completes: the mailbox of a BUSY command, an answer owed for it. -/
def cutMailbox (m : Nat) (s : State) : State := modMb m (fun x => { x with owed := true }) (cutOff m (forgetMb m s))

/-- From `s` to `t` the hub, the entries in force, the clock and the count of restarts stay. -/
structure RunsOn (s t : State) : Prop where
  hub : t.hub = s.hub
  entries : t.conf.entries = s.conf.entries
  now : t.now = s.now
  restarts : restartCount t = restartCount s

section
variable {a s t : State}

theorem RunsOn.trans {u : State} (h : RunsOn s t) (k : RunsOn t u) : RunsOn s u :=
  ⟨k.hub.trans h.hub, k.entries.trans h.entries, k.now.trans h.now, k.restarts.trans h.restarts⟩

theorem RunsOn.report (h : RunsOn a s) (r : Reported s t) : RunsOn a t :=
  h.trans ⟨r.hub, congrArg Conf.entries r.conf, r.now, r.restarts⟩

theorem RunsOn.same (h : RunsOn a s) (e : (t.hub, t.conf.entries, t.chip, t.count.live) = (s.hub, s.conf.entries, s.chip, s.count.live)) :
    RunsOn a t := by
  simp only [Prod.mk.injEq] at e
  obtain ⟨ehub, eentries, echip, elive⟩ := e
  exact h.trans ⟨ehub, eentries, congrArg Chip.upTime echip, congrArg (tget 0 · (cDev cdRestarts)) elive⟩

theorem mem_of_tfind {α : Type} {l : Tbl α} {i : Nat} {v : α} (h : tfind l i = some v) : (i, v) ∈ l := by
  induction l with
  | nil => cases h
  | cons e r ih =>
    obtain ⟨k, w⟩ := e
    unfold tfind at h
    split at h
    next hk =>
      cases h
      exact hk ▸ List.mem_cons_self
    · exact List.mem_cons_of_mem _ (ih h)

/-- A BUSY mailbox is one that a restart finds in the table. -/
theorem mem_busy {m : Nat} (h : (s.mb m).state = 1) : m ∈ (s.mgmt.mailbox.filter fun e => e.2.state == 1).map (·.1) := by
  unfold State.mb tget at h
  cases hm : tfind s.mgmt.mailbox m with
  | none => simp [hm] at h
  | some x =>
    rw [hm] at h
    exact List.mem_map.mpr ⟨(m, x), List.mem_filter.mpr ⟨mem_of_tfind hm, beq_iff_eq.mpr h⟩, rfl⟩

theorem cutOff_spec (m : Nat) (s : State) : RunsOn s (cutOff m s) ∧ ((cutOff m s).mb m).state = 2 ∧
    ∀ k, k ≠ m → (cutOff m s).mb k = s.mb k := by
  unfold cutOff
  extract_lets s1
  have hcut : Reported s1 (if m < 64 then raiseCause m 0 s1 else s1) :=
    ite_reported (raiseCause_reported (Reported.refl s1)) (Reported.refl s1)
  rw [hcut.mb]
  exact ⟨RunsOn.report (s := s1) ⟨rfl, rfl, rfl, rfl⟩ hcut, congrArg Mailbox.state (modMb_mb_same s m _),
    fun k hk => modMb_mb_ne s _ hk⟩

theorem cutMailbox_spec (m : Nat) (s : State) : RunsOn s (cutMailbox m s) ∧ ((cutMailbox m s).mb m).state = 2 ∧
    ∀ k, k ≠ m → (cutMailbox m s).mb k = s.mb k := by
  obtain ⟨hruns, hdone, hothers⟩ := cutOff_spec m (forgetMb m s)
  unfold cutMailbox
  have hforget : RunsOn s (cutOff m (forgetMb m s)) := ⟨hruns.hub, hruns.entries, hruns.now, hruns.restarts⟩
  refine ⟨hforget.same rfl, ?_, fun k hk => (modMb_mb_ne _ _ hk).trans (hothers k hk)⟩
  rw [modMb_mb_same]
  exact hdone

theorem forAll_cutMailbox_spec (l : List Nat) (s : State) : RunsOn s (forAll l cutMailbox s) ∧
    ∀ m ∈ l, ((forAll l cutMailbox s).mb m).state = 2 := by
  constructor
  · refine forAll_keeps (RunsOn s) cutMailbox (fun m u hu => ?_) l s ⟨rfl, rfl, rfl, rfl⟩
    obtain ⟨hstep, -⟩ := cutMailbox_spec m u
    exact hu.trans hstep
  · intro m hm
    have hdone (u : State) : ((cutMailbox m u).mb m).state = 2 := by
      obtain ⟨-, hstate, -⟩ := cutMailbox_spec m u
      exact hstate
    refine forAll_reaches (I := fun _ => True) (P := fun u => (u.mb m).state = 2) hm (fun _ _ _ => trivial) (fun u _ => hdone u)
      (fun y u _ hu => ?_) trivial
    by_cases hy : m = y
    · exact hy ▸ hdone u
    · obtain ⟨-, -, hothers⟩ := cutMailbox_spec y u
      rw [hothers m hy]
      exact hu

theorem forAll_restarted_spec (l : List Nat) (s : State) :
    let t := forAll l (fun p s => modMb p (fun m => { m with restarted := true }) s) s
    RunsOn s t ∧ ∀ m, (t.mb m).state = (s.mb m).state := by
  refine forAll_keeps (fun t => RunsOn s t ∧ ∀ m, (t.mb m).state = (s.mb m).state) _ (fun p u hu => ?_) l s
    ⟨⟨rfl, rfl, rfl, rfl⟩, fun _ => rfl⟩
  obtain ⟨hruns, hstate⟩ := hu
  refine ⟨hruns.same rfl, fun m => ?_⟩
  rw [← hstate m, modMb_mb]
  split
  · rfl
  · rfl

/-- An MC restart completes the BUSY commands, stops serving and is counted; the datapath and the configuration run on. -/
structure McRestarted (cause : Nat) (s t : State) : Prop where
  serving : t.mgmt.serving = false
  restartAt : t.mgmt.restartAt = some s.now
  cause : t.mgmt.restartCause = cause
  done : ∀ m, (s.mb m).state = 1 → (t.mb m).state = 2
  hub : t.hub = s.hub
  entries : t.conf.entries = s.conf.entries
  counted : restartCount t = (restartCount s + 1) % 2 ^ 64

theorem mcRestart_spec (cause : Nat) (s : State) : McRestarted cause s (mcRestart cause s) := by
  unfold mcRestart
  extract_lets busy s0 s1 s2 _ _ _ _ _ s3
  obtain ⟨hcut, hbusy⟩ : RunsOn s s0 ∧ ∀ m ∈ busy, (s0.mb m).state = 2 := forAll_cutMailbox_spec busy s
  obtain ⟨hmark, hstate⟩ : RunsOn s0 s1 ∧ ∀ m, (s1.mb m).state = (s0.mb m).state := forAll_restarted_spec _ s0
  have hraise : Reported s1 s2 := forAll_reported (fun _ _ => raiseCause_reported) (Reported.refl s1)
  have hrecord : Reported s3 (deviceRecord 0x0901 0 0 0 s3) := deviceRecord_reported (Reported.refl s3)
  have hraised : RunsOn s s2 := hcut.trans (hmark.report hraise)
  have hruns : RunsOn s s3 := hraised.same rfl
  exact {
    serving := hrecord.serving
    restartAt := hrecord.restartAt.trans (congrArg some hraised.now)
    cause := hrecord.restartCause
    done := fun m hm => by
      have hmb : (deviceRecord 0x0901 0 0 0 s3).mb m = s1.mb m := (congrFun hrecord.mb m).trans (congrFun hraise.mb m)
      change ((deviceRecord 0x0901 0 0 0 s3).mb m).state = 2
      rw [hmb, hstate m]
      exact hbusy m (mem_busy hm)
    hub := hrecord.hub.trans hruns.hub
    entries := (congrArg Conf.entries hrecord.conf).trans hruns.entries
    counted := by
      rw [restartCount, count1, countBy, tget_tset]
      change (restartCount (deviceRecord 0x0901 0 0 0 s3) + 1) % 2 ^ 64 = _
      rw [hrecord.restarts, hruns.restarts] }

/-! The boot ROM starts an image (R439, R440). -/

theorem startFw_reported (b : Bool) (s : State) :
    Reported { s with sec.mFw := (s.fwSlot b).digest, fw := (startFw b s).fw } (startFw b s) := by
  unfold startFw
  extract_lets f new s1
  have h1 : Reported s s1 := ite_reported (deviceRecord_reported (Reported.refl s)) (Reported.refl s)
  refine ⟨?_, h1.restarts⟩
  exact (congrArg (fun u : State => { u with sec.mFw := f.digest, fw := (startFw b s).fw }) h1.rest :)

theorem reportTrip_spec (s : State) : (reportTrip s).chip = s.chip ∧ (reportTrip s).fw = s.fw ∧ (reportTrip s).sec = s.sec ∧
    (reportTrip s).slot.tripFlag = false := by
  unfold reportTrip
  split
  · have hlog {r : ErrRec} {u : State} : Reported u (logOnly r u) := logOnly_reported (Reported.refl u)
    exact ⟨hlog.chip, hlog.fw, hlog.sec, congrArg SlotDie.tripFlag hlog.slot⟩
  next h => exact ⟨rfl, rfl, rfl, Bool.eq_false_iff.mpr h⟩

theorem chooseFw_congr (hfw : t.fw = s.fw) (hsec : t.sec = s.sec) : chooseFw t = chooseFw s := by
  unfold chooseFw fwQualifies fusedSvn
  rw [hfw, hsec]

/-- What starting an image at a boot leaves of the boot ROM's state. -/
theorem bootImage_spec (b : Bool) (s : State) : let u := bootMaster (reportTrip (loadWearStore (startFw b s)))
    u.fw.running = b2n b ∧ u.sec = { s.sec with mFw := (s.fwSlot b).digest } ∧ u.chip = s.chip ∧
      u.ft.master = (u.tandem.role != 1) ∧ u.slot.tripFlag = false := by
  have hstart := startFw_reported b s
  obtain ⟨hchip, hfw, hsec, htrip⟩ := reportTrip_spec (loadWearStore (startFw b s))
  exact ⟨congrArg Firmware.running hfw, hsec.trans hstart.sec, hchip.trans hstart.chip, rfl, htrip⟩

theorem bootComplete_starts {b : Bool} (hboot : canBoot s = true) (h : chooseFw (bootRom s) = some b) :
    bootComplete s = startDevice b (bootRom s) := by
  simp only [bootComplete, hboot, if_true, h]

theorem bootComplete_rom (hboot : canBoot s = true) (h : chooseFw (bootRom s) = none) :
    bootComplete s = { bootRom s with chip.romRecovery := true, mgmt.serving := true } := by
  simp only [bootComplete, hboot, if_true, h]

theorem bootComplete_waits (h : canBoot s = false) : bootComplete s = s := by
  simp only [bootComplete, h, Bool.false_eq_true, if_false]

theorem booting_of_canBoot (h : canBoot s = true) : s.chip.booting = true := by
  simp only [canBoot, Bool.and_eq_true, and_assoc] at h
  exact h.1

/-! The MC serves again after a restart. -/

theorem postTandem_reported {o : Out} (h : Reported a s) : Reported a (postTandem o s) := by
  unfold postTandem
  split
  · exact modSpoke_reported (emit_reported h)
  · exact h

theorem answerRestart_reported {m : Nat} (h : Reported a s) : Reported a (answerRestart m s) :=
  ite_reported (emit_reported h) (ite_reported (forAll_reported (fun _ _ => postTandem_reported) h) h)

theorem journal_spec (s : State) : (journal s).chip = s.chip ∧ (journal s).fw = s.fw ∧ (journal s).sec = s.sec := by
  unfold journal
  extract_lets owes
  have howes {u : State} : Reported u (forAll owes answerRestart u) := forAll_reported (fun _ _ => answerRestart_reported) (Reported.refl u)
  exact ⟨howes.chip, howes.fw, howes.sec⟩

/-- A record stamped with another time. -/
theorem recordAt_kept {L : Prop} {C : Nat → Prop} {ps : List Nat} {r : ErrRec} (n : Nat) (h : SlotKept L C a s) :
    SlotKept L C a { record ps r { s with ft.count := n } with ft.count := s.ft.count } := by
  have hrecord : Reported { s with ft.count := n } (record ps r { s with ft.count := n }) := record_reported (Reported.refl _)
  exact h.same (congrArg (fun u : State => slotCore { u with ft.count := s.ft.count }) hrecord.rest :)
    (congrArg SlotDie.chan hrecord.slot) hrecord.hub

theorem writeHeld_kept (h : SlotKept False (fun _ => True) a s) : SlotKept False (fun _ => True) a (writeHeld s) := by
  unfold writeHeld
  extract_lets _ s2
  have h2 : SlotKept False (fun _ => True) a s2 :=
    forAll_kept (fun e s h => ite_kept (powerFault_kept False.elim (recordAt_kept _ h)) (recordAt_kept _ h)) (h.same rfl rfl rfl)
  exact forAll_kept (fun ch s => onlyIf_kept fun s h => powerFault_kept False.elim (modChan_kept trivial h)) h2

theorem mcRestartDone_idle (h : s.mgmt.restartAt = none ∨ corePowered s = false ∨ inDeviceReset s = true) : mcRestartDone s = s := by
  unfold mcRestartDone
  rcases h with h | h | h
  · simp [h]
  · simp [h]
  · simp [h]

/-- The restart is over and its journal read. -/
def resumed (s : State) : State := { journal s with mgmt.restartAt := none }

theorem resumed_spec (s : State) : (resumed s).chip = s.chip ∧ (resumed s).fw = s.fw ∧ (resumed s).sec = s.sec ∧
    (resumed s).mgmt.restartAt = none := by
  obtain ⟨hchip, hfw, hsec⟩ := journal_spec s
  exact ⟨hchip, hfw, hsec, rfl⟩

theorem chooseFw_resumed (s : State) : chooseFw (resumed s) = chooseFw s := by
  obtain ⟨-, hfw, hsec, -⟩ := resumed_spec s
  exact chooseFw_congr hfw hsec

/-- The image `b` has started after a restart, and what the slot die reported meanwhile is written. -/
def restartedImage (b : Bool) (s : State) : State := onlyIf (slotListens (resumed s)) writeHeld (startFw b (resumed s))

section
variable {r : Time} (hat : s.mgmt.restartAt = some r) (hpower : corePowered s = true) (hreset : inDeviceReset s = false)
include hat hpower hreset

theorem mcRestartDone_active : mcRestartDone s = match chooseFw (resumed s) with
    | some b => { restartedImage b s with
        chip.romRecovery := false
        mgmt.serving := !(restartedImage b s).chip.booting
        fw.fallback := (restartedImage b s).fw.fallback || tooManyRestarts s }
    | none => { resumed s with chip.romRecovery := true, mgmt.serving := true } := if_pos (by simp [hat, hpower, hreset])

theorem mcRestartDone_rom (h : chooseFw s = none) :
    mcRestartDone s = { resumed s with chip.romRecovery := true, mgmt.serving := true } := by
  rw [mcRestartDone_active hat hpower hreset, chooseFw_resumed, h]

theorem mcRestartDone_starts {b : Bool} (h : chooseFw s = some b) : mcRestartDone s = { restartedImage b s with
    chip.romRecovery := false
    mgmt.serving := !(restartedImage b s).chip.booting
    fw.fallback := (restartedImage b s).fw.fallback || tooManyRestarts s } := by
  rw [mcRestartDone_active hat hpower hreset, chooseFw_resumed, h]

end

theorem restartedImage_spec (b : Bool) (s : State) : (restartedImage b s).chip = s.chip ∧ (restartedImage b s).mgmt.restartAt = none ∧
    (restartedImage b s).fw.running = b2n b ∧ (restartedImage b s).sec.mFw = (s.fwSlot b).digest := by
  obtain ⟨hchip, hfw, -, hat⟩ := resumed_spec s
  have hstart := startFw_reported b (resumed s)
  have hheld : SlotKept False (fun _ => True) (startFw b (resumed s)) (restartedImage b s) :=
    onlyIf_kept (fun _ => writeHeld_kept) (SlotKept.refl _)
  have hslot : (resumed s).fwSlot b = s.fwSlot b := by rw [State.fwSlot, hfw, State.fwSlot]
  refine ⟨hheld.chip.trans (hstart.chip.trans hchip), hheld.restartAt.trans (hstart.restartAt.trans hat),
    congrArg Firmware.running hheld.fw, ?_⟩
  rw [← hslot]
  exact congrArg Security.mFw (hheld.sec.trans hstart.sec)

end
end Sys2Proof.Machine

namespace Sys2Proof

open Machine

/-- Settles O36: the boot ROM's choice of an image decides the end of a boot and of an MC restart, and an MC restart reaches the
mailboxes, the MC and what a report reaches. -/
theorem bootAndMcRestart : Obligations.BootAndMcRestart := by
  refine ⟨?boot, ?restart⟩
  case boot =>
    intro s dt a
    refine ⟨fun hboot => ⟨fun b hb => ?_, fun hnone => ?_⟩, fun hboot => run_gives rfl (bootComplete_waits hboot),
      fun hidle => run_gives rfl (mcRestartDone_idle hidle),
      fun r hat hpower hreset hnone => run_gives rfl (mcRestartDone_rom hat hpower hreset hnone),
      fun r b hat hpower hreset hb => ?_⟩
    · intro u v
      obtain ⟨hrunning, hsec, hchip, hmaster, htrip⟩ := bootImage_spec b (bootRom a)
      exact ⟨_, run_gives rfl (bootComplete_starts hboot hb), rfl, hrunning, congrArg Security.mFw hsec, congrArg Security.mFuse hsec,
        congrArg Security.keyLoaded hsec, congrArg Security.seedLocked hsec, congrArg Chip.devnum hchip, hmaster, htrip⟩
    · exact ⟨_, run_gives rfl (bootComplete_rom hboot hnone), rfl, booting_of_canBoot (s := a) hboot⟩
    · obtain ⟨hchip, hat', hrunning, hdigest⟩ := restartedImage_spec b a
      exact ⟨_, run_gives rfl (mcRestartDone_starts hat hpower hreset hb), congrArg (!·) (congrArg Chip.booting hchip), hat', hrunning,
        hdigest, rfl⟩
  case restart =>
    intro s dt a
    refine ⟨fun hmc => ?_, fun hmc => ?_, fun _ cause _ => ?_, fun hmc => ⟨?_, ?_⟩⟩
    · have h := mcRestart_spec 1 a
      exact ⟨_, run_gives rfl (if_pos hmc), rfl, h.serving, h.restartAt, h.cause⟩
    · have h := mcRestart_spec 2 a
      exact ⟨_, run_gives rfl (if_pos hmc), rfl, h.serving, h.restartAt, h.cause⟩
    · have h := mcRestart_spec cause a
      exact ⟨h.serving, h.done, h.restartAt, h.cause, congrArg Hub.frames h.hub, h.entries, h.counted⟩
    · exact run_gives rfl (if_neg (Bool.eq_false_iff.mp hmc))
    · exact run_gives rfl (if_neg (Bool.eq_false_iff.mp hmc))

end Sys2Proof

namespace Sys2Proof.Machine

/-! A TLP at a port: the checks of its bridge (R314), and the turn in which it takes effect (R39, R41). -/

section
variable {p : Nat} {t : Tlp} {f act : State → State} {s : State}

/-- The state after the ECRC check of a TLP. -/
def ecrcChecked (p : Nat) (t : Tlp) (s : State) : State :=
  if (s.port p).ecrcCheck && t.ecrc == 2 then portUncorrectable p ecrcBit s else s

theorem checkTlp_notPcie (h : pciePort s p = false) : checkTlp p t f s = f s := if_pos (by rw [h]; rfl)

theorem checkTlp_c4 (h : s.errs.c4 = true) : checkTlp p t f s = f s := if_pos (by rw [h, Bool.or_true])

section
variable (hp : pciePort s p = true) (hc4 : s.errs.c4 = false)
include hp hc4

/-- The checks that a PCIe port outside C4 makes. -/
theorem checkTlp_checks : checkTlp p t f s =
    if acsViolates (ecrcChecked p t s) p t then
      portUncorrectable p acsBit (onlyIf (isNp t.kind) (sendCpl p t.rid t.tag .ca)
        (emit (.pcieCredit p (streamOf t.kind) (ceilDiv t.payload 16)) (ecrcChecked p t s)))
    else if ((ecrcChecked p t s).port p).dpcTriggered && !(s.port p).dpcTriggered then ecrcChecked p t s
    else f (ecrcChecked p t s) := if_neg (by rw [hp, hc4]; decide)

theorem checkTlp_acsViolation (ha : acsViolates (ecrcChecked p t s) p t = true) : checkTlp p t f s =
    portUncorrectable p acsBit (onlyIf (isNp t.kind) (sendCpl p t.rid t.tag .ca)
      (emit (.pcieCredit p (streamOf t.kind) (ceilDiv t.payload 16)) (ecrcChecked p t s))) :=
  (checkTlp_checks hp hc4).trans (if_pos ha)

theorem checkTlp_contained (ha : acsViolates (ecrcChecked p t s) p t = false) (hafter : ((ecrcChecked p t s).port p).dpcTriggered = true)
    (hbefore : (s.port p).dpcTriggered = false) : checkTlp p t f s = ecrcChecked p t s := by
  rw [checkTlp_checks hp hc4, if_neg (Bool.eq_false_iff.mp ha), if_pos (by rw [hafter, hbefore]; rfl)]

theorem checkTlp_passes (ha : acsViolates (ecrcChecked p t s) p t = false)
    (hdpc : ((ecrcChecked p t s).port p).dpcTriggered = false ∨ (s.port p).dpcTriggered = true) :
    checkTlp p t f s = f (ecrcChecked p t s) := by
  rw [checkTlp_checks hp hc4, if_neg (Bool.eq_false_iff.mp ha), if_neg]
  rcases hdpc with h | h
  · simp [h]
  · simp [h]

end

theorem tlpReceived_notPcie (h : pciePort s p = false) : tlpReceived p t s = s := by
  refine if_pos ?_
  simp only [pciePort, Bool.and_eq_false_iff] at h
  rcases h with h | h
  · simp [h]
  · cases hspoke : portSpoke s p with
    | none => simp [hspoke] at h
    | some k => simp

theorem tlpReceived_c4 (hp : pciePort s p = true) (hc4 : s.errs.c4 = true) : tlpReceived p t s = c4Answer p t s := by
  obtain ⟨hen, hspoke⟩ := Bool.and_eq_true_iff.mp hp
  simp_all [tlpReceived]

/-- The state in which a TLP is taken: a poisoned one has been recorded (R316). -/
def poisonNoted (p : Nat) (t : Tlp) (s : State) : State :=
  if t.poisoned then
    record [portPart s p] { devRec s 0x0105 0 0 0 with srcPort := p, reqId := t.rid, tag := t.tag, address := t.addr } s
  else s

theorem tlpReceived_takes (hen : portEn s p = true) (hspoke : portSpoke s p = none) (hc4 : s.errs.c4 = false) :
    tlpReceived p t s = takeTlp p t (poisonNoted p t s) := by
  simp [tlpReceived, poisonNoted, hen, hspoke, hc4]

/-! The turn. -/

/-- A TLP may not take effect now: the tables stand still (R313), or it would overtake an earlier one of its stream (R41). -/
theorem inTurn_waits (h : s.hub.stalled = true ∨ (streamWaits s p (streamOf t.kind) = true ∧ holdsRoom (act s) s.hub.nextFid = false)) :
    inTurn p t act s = awaitTurn p t s := by
  refine if_pos ?_
  rcases h with hstall | ⟨hwaits, hroom⟩
  · rw [hstall, Bool.true_or]
  · rw [hwaits, hroom]; simp

theorem inTurn_acts (hstall : s.hub.stalled = false)
    (h : streamWaits s p (streamOf t.kind) = false ∨ holdsRoom (act s) s.hub.nextFid = true) :
    inTurn p t act s = creditBack p t s.hub.nextFid (act s) := by
  refine if_neg ?_
  rcases h with hwaits | hroom
  · simp [hstall, hwaits]
  · simp [hstall, hroom]

/-! What a TLP does, by its kind. -/

theorem actTlp_memReadLocked (h : t.kind = .memReadLocked) : actTlp p t s = admitMrdlk p t s := by simp [actTlp, h]

theorem actTlp_unlock (h : t.kind = .message .unlock) : actTlp p t s = unlockArrives p t s := by simp [actTlp, h]

theorem actTlp_cast (h : t.kind = .message .obff ∨ t.kind = .message .vdmOther) :
    actTlp p t s = if portUp s p then castDown p t s else admitTlp p t s := by
  rcases h with h | h
  · simp [actTlp, h]
  · simp [actTlp, h]

theorem actTlp_bridge (h : bridgeTakes t.kind = true) : actTlp p t s = bridgeAct p t.kind s := by
  unfold actTlp
  split
  case h_1 hk => simp [hk, bridgeTakes] at h
  case h_2 hk => simp [hk, bridgeTakes] at h
  case h_3 hk => simp [hk, bridgeTakes] at h
  case h_4 hk => simp [hk, bridgeTakes] at h
  case h_5 => exact if_pos h

theorem actTlp_admits (h : bridgeTakes t.kind = false) (hlk : t.kind ≠ .memReadLocked) (hunlock : t.kind ≠ .message .unlock)
    (hobff : t.kind ≠ .message .obff) (hvdm : t.kind ≠ .message .vdmOther) : actTlp p t s = admitTlp p t s := by
  unfold actTlp
  split
  case h_1 hk => exact absurd hk hlk
  case h_2 hk => exact absurd hk hunlock
  case h_3 hk => exact absurd hk hobff
  case h_4 hk => exact absurd hk hvdm
  case h_5 => exact if_neg (Bool.eq_false_iff.mp h)

end
end Sys2Proof.Machine

namespace Sys2Proof.Machine

/-! A frame that waits at its link, and one that has been assembled. -/

section
variable {turn : Frame → State → State} {fid : Nat} {f g : Frame} {s : State}

/-- The state after the second lookup of a frame, due under a new epoch (R221). -/
def lookedUp (f : Frame) (s : State) : State := if f.epochStaged = s.conf.epoch then s else relookup f s

/-- What becomes of a waiting frame whose lookup stands. -/
def leaveLink (turn : Frame → State → State) (fid : Nat) (f : Frame) (s : State) : State :=
  let gone := freeFrame f (dropFrame fid s)
  if fencedNow s f then fencedDiscard (srcPartOf s f) f.dstDev f.dstPort gone
  else if routeGone s f then denyRoute f gone
  else if pathDead s f then loseWaiting f gone
  else match holdOf s f with
    | .ready => if f.ends == some .bridge then bridgeTurn f s else if f.ends == some .turn then takeTurn turn f s else stage f s
    | h => countHold f h s

theorem frameStage_absent (h : findFrame s fid = none) : frameStage turn fid s = s := by simp only [frameStage, h]

theorem frameStage_notWaiting (hf : findFrame s fid = some f) (hplace : f.place ≠ .waiting) : frameStage turn fid s = s := by
  simp [frameStage, hf, hplace]

section
variable (hf : findFrame s fid = some f) (hplace : f.place = .waiting)
include hf hplace

theorem frameStage_looksUp : frameStage turn fid s = (findFrame (lookedUp f s) fid).elim (lookedUp f s)
    fun g => leaveLink turn fid (reroute (lookedUp f s) g) (lookedUp f s) := by
  have hlookup : (if f.epochStaged != s.conf.epoch then relookup f s else s) = lookedUp f s := by
    by_cases h : f.epochStaged = s.conf.epoch
    · simp [lookedUp, h]
    · simp [lookedUp, h]
  have hwaits : (f.place != Place.waiting) = false := by rw [hplace]; rfl
  simp only [frameStage, hf, hwaits, hlookup, Bool.false_eq_true, if_false]
  cases findFrame (lookedUp f s) fid with
  | none => rfl
  | some g => rfl

/-- A waiting frame that its second lookup has ended. -/
theorem frameStage_ended (hg : findFrame (lookedUp f s) fid = none) : frameStage turn fid s = lookedUp f s := by
  rw [frameStage_looksUp hf hplace, hg]; rfl

theorem frameStage_leaves (hg : findFrame (lookedUp f s) fid = some g) :
    frameStage turn fid s = leaveLink turn fid (reroute (lookedUp f s) g) (lookedUp f s) := by
  rw [frameStage_looksUp hf hplace, hg]; rfl

end

theorem leaveLink_fenced (h : fencedNow s f = true) : leaveLink turn fid f s =
    fencedDiscard (srcPartOf s f) f.dstDev f.dstPort (freeFrame f (dropFrame fid s)) := if_pos h

section
variable (hfence : fencedNow s f = false)
include hfence

theorem leaveLink_routeGone (h : routeGone s f = true) : leaveLink turn fid f s = denyRoute f (freeFrame f (dropFrame fid s)) := by
  simp [leaveLink, hfence, h]

variable (hroute : routeGone s f = false)
include hroute

theorem leaveLink_pathDead (h : pathDead s f = true) : leaveLink turn fid f s = loseWaiting f (freeFrame f (dropFrame fid s)) := by
  simp [leaveLink, hfence, hroute, h]

variable (hpath : pathDead s f = false)
include hpath

theorem leaveLink_held (h : holdOf s f ≠ .ready) : leaveLink turn fid f s = countHold f (holdOf s f) s := by
  simp only [leaveLink, hfence, hroute, hpath, Bool.false_eq_true, if_false]

variable (hready : holdOf s f = .ready)
include hready

theorem leaveLink_bridge (h : f.ends = some .bridge) : leaveLink turn fid f s = bridgeTurn f s := by
  simp [leaveLink, hfence, hroute, hpath, hready, h]

theorem leaveLink_turn (h : f.ends = some .turn) : leaveLink turn fid f s = takeTurn turn f s := by
  simp [leaveLink, hfence, hroute, hpath, hready, h]

theorem leaveLink_stage (h : actsAtLink f = false) : leaveLink turn fid f s = stage f s := by
  obtain ⟨hbridge, hturn⟩ := Bool.or_eq_false_iff.mp h
  simp [leaveLink, hfence, hroute, hpath, hready, hbridge, hturn]

end

/-! The frame at its target egress (R46, R254, R265, R316). -/

/-- An assembled frame enters its queue: one that was empty is backlogged from now. -/
def enqueueFrame (f : Frame) (s : State) : State :=
  let was := s.hub.frames.any fun g => g.place == .queued && g.outPort == f.outPort && qOf g == qOf f
  let k := f.outPort * 576 + qOf f
  let s1 : State := if was then s
    else { s with sched.backlogSince := tput s.sched.backlogSince k s.now, sched.behind := tput s.sched.behind k (0, s.now) }
  { s1 with hub.frames := (s1.hub.frames.filter fun g => g.fid != f.fid) ++ [{ f with
      place := .queued, epochGuard := s.conf.epoch }] }

/-- The target port blocks a frame as poisoned (R316). -/
def poisonStops (s : State) (f : Frame) : Bool := !portUp s f.dstPort && (s.port f.dstPort).poisonBlock && f.tlp.poisoned

section
variable {signal : Nat → Nat → State → State}

/-- A frame for elsewhere or of a test passes unchecked. -/
theorem reassembled_unchecked (h : leavesHere s f = false ∨ f.test = true) : reassembled signal f s = enqueueFrame f s := by
  refine if_pos ?_
  rcases h with h | h
  · rw [h]; rfl
  · rw [h, Bool.or_true]

variable (hhere : leavesHere s f = true) (htest : f.test = false)
include hhere htest

theorem reassembled_closed {why : Why} (h : portClosed s f.dstPort = some why) : reassembled signal f s = discard f why s := by
  simp [reassembled, hhere, htest, h]

variable (hopen : portClosed s f.dstPort = none)
include hopen

theorem reassembled_completion {cs : CplStatus} (hkind : f.tlp.kind = .completion cs) : reassembled signal f s =
    if (s.port f.dstPort).mps < f.tlp.payload then cplTooLong f s
    else if poisonStops s f then signal f.dstPort poisonBlockedBit (discard f .blocked s)
    else enqueueFrame f s := by
  simp [reassembled, hhere, htest, hopen, hkind, poisonStops, enqueueFrame]

theorem reassembled_request (hkind : ∀ cs, f.tlp.kind ≠ .completion cs) : reassembled signal f s =
    if (s.port f.dstPort).mps < f.tlp.payload then discard f .size s
    else if poisonStops s f then signal f.dstPort poisonBlockedBit (discard f .blocked s)
    else if (s.port f.dstPort).atomicBlock = true ∧ f.tlp.kind = .atomic then discard f .blocked s
    else (guardFrame s f).elim (enqueueFrame f s) fun i => guardDenied f i s := by
  cases hk : f.tlp.kind
  case completion cs => exact absurd hk (hkind cs)
  all_goals cases hguard : guardFrame s f <;> simp [reassembled, hhere, htest, hopen, hk, hguard, poisonStops, enqueueFrame]

theorem reassembled_poisoned (hshort : ¬(s.port f.dstPort).mps < f.tlp.payload) (hstops : poisonStops s f = true) :
    reassembled signal f s = signal f.dstPort poisonBlockedBit (discard f .blocked s) := by
  by_cases hkind : ∃ cs, f.tlp.kind = .completion cs
  · obtain ⟨cs, hkind⟩ := hkind
    rw [reassembled_completion hhere htest hopen hkind, if_neg hshort, if_pos hstops]
  · rw [reassembled_request hhere htest hopen (not_exists.mp hkind), if_neg hshort, if_pos hstops]

end
end
end Sys2Proof.Machine

namespace Sys2Proof.Machine

/-! The only frame in staging is the next that its bank admits (R40, R44, R52). -/

section
variable {s : State} {f : Frame} {st : Nat} {fs : List Frame}

theorem findFrame_mem {fid : Nat} (h : findFrame s fid = some f) : f ∈ s.hub.frames := List.mem_of_find?_eq_some h

theorem findFrame_fid {fid : Nat} (h : findFrame s fid = some f) : f.fid = fid := by
  simpa using List.find?_some h

/-- Each of the 21 attachments has its place in the order. -/
theorem mem_attachmentOrder {att : Nat} (h : att < 21) : att ∈ attachmentOrder s := by
  refine List.mem_map.mpr ⟨(att + 21 - coreTick s % 21) % 21, List.mem_range.mpr (by omega), ?_⟩
  omega

/-- Only frames that were offered take cells. -/
theorem mem_of_mem_takeTurns {used : Tbl Nat} {room : Nat} {g : Frame} (h : g ∈ (takeTurns used room fs).1) : g ∈ fs := by
  induction fs generalizing used room with
  | nil => simp [takeTurns] at h
  | cons x r ih =>
    simp only [takeTurns] at h
    split at h
    · exact List.mem_cons_of_mem _ (ih h)
    · rcases List.mem_cons.mp h with h | h
      · exact h ▸ List.mem_cons_self
      · exact List.mem_cons_of_mem _ (ih h)

/-- The first frame that an idle bank is offered sends. -/
theorem mem_takeTurns_head (hcells : 0 < fcells f) : f ∈ (takeTurns [] 4 (f :: fs)).1 := by
  have hrate : 0 < attachmentRate f.att := by
    unfold attachmentRate
    split
    · decide
    · decide
  have hsends : min 4 (min (attachmentRate f.att - tget 0 ([] : Tbl Nat) f.att) (fcells f)) ≠ 0 := by
    have hnone : tget 0 ([] : Tbl Nat) f.att = 0 := rfl
    omega
  simp only [takeTurns]
  rw [if_neg hsends]
  exact List.mem_cons_self

/-- A bank for which no frame holds cells takes none. -/
theorem serveBank_idle {used : Tbl Nat} (h : ∀ g ∈ s.hub.frames, forBank s st g = false) : serveBank s used st = ([], used) := by
  have hnone (att : Nat) : sending s st att = none := by
    have hempty : (s.hub.frames.filter fun f => f.att == att && forBank s st f) = [] := by
      refine List.filter_eq_nil_iff.mpr fun g hg => ?_
      simp [h g hg]
    simp only [sending, hempty]
    rfl
  simp [serveBank, hnone, takeTurns]

/-- Of copies of one frame, that frame is admitted first. -/
theorem admitFirst_sole (hatt : f.att < 21) (hf : f ∈ fs) (hsole : ∀ g ∈ fs, g = f) : admitFirst s fs = some f := by
  have hfound (att : Nat) {g : Frame} (h : fs.find? (fun f => f.att == att) = some g) : g = f := hsole g (List.mem_of_find?_eq_some h)
  have hhere : fs.find? (fun g => g.att == f.att) = some f := by
    cases h : fs.find? fun g => g.att == f.att with
    | none => simpa using List.find?_eq_none.mp h f hf
    | some g => rw [hfound _ h]
  have hmem : f ∈ (attachmentOrder s).filterMap fun a => fs.find? fun f => f.att == a :=
    List.mem_filterMap.mpr ⟨f.att, mem_attachmentOrder hatt, hhere⟩
  have hall : ∀ g ∈ (attachmentOrder s).filterMap (fun a => fs.find? fun f => f.att == a), g = f := by
    intro g hg
    obtain ⟨a, -, ha⟩ := List.mem_filterMap.mp hg
    exact hfound a ha
  unfold admitFirst
  generalize (attachmentOrder s).filterMap (fun a => fs.find? fun f => f.att == a) = l at hmem hall
  cases l with
  | nil => cases hmem
  | cons x r =>
    have hx : x = f := hall x List.mem_cons_self
    subst hx
    refine List.foldlRecOn (motive := (· = some x)) r _ rfl fun b hb g hg => ?_
    rw [hb, hall g (List.mem_cons_of_mem _ hg)]
    simp

section
variable (hsole : ∀ g ∈ s.hub.frames, inStaging g = true → g = f)
include hsole

/-- The banks before the frame's have taken no cells of any attachment. -/
theorem servedNow_sole : servedNow s (portStation s f.outPort) = (serveBank s [] (portStation s f.outPort)).1 := by
  have hidle {b : Nat} (hb : b ≠ portStation s f.outPort) : ∀ g ∈ s.hub.frames, forBank s b g = false := by
    intro g hg
    cases hstaging : inStaging g with
    | false => simp [forBank, hstaging]
    | true => rw [hsole g hg hstaging]; simp [forBank, hb.symm]
  have hused : ((bankOrder s).takeWhile fun b => b != portStation s f.outPort).foldl (fun u b => (serveBank s u b).2) [] = [] := by
    refine List.foldlRecOn (motive := (· = [])) _ _ rfl fun u hu b hb => ?_
    have hne : b ≠ portStation s f.outPort := by simpa using List.mem_takeWhile_imp hb
    rw [serveBank_idle (hidle hne)]; exact hu
  simp only [servedNow, hused]

variable (hf : f ∈ s.hub.frames) (hplace : f.place = .staged)
include hf hplace

/-- The attachment of the only staged frame offers it to its bank, and no other attachment offers one. -/
theorem sending_sole (hxoff : xoffHolds s f = false) (att : Nat) :
    sending s (portStation s f.outPort) att = if att = f.att then some f else none := by
  have hstaged : inStaging f = true := by simp [inStaging, hplace]
  have hsame : ∀ g ∈ s.hub.frames.filter (fun g => g.att == att && forBank s (portStation s f.outPort) g), g = f ∧ g.att = att := by
    intro g hg
    obtain ⟨hmem, hq⟩ := List.mem_filter.mp hg
    simp only [forBank, Bool.and_eq_true, beq_iff_eq] at hq
    exact ⟨hsole g hmem hq.2.1, hq.1⟩
  have hmine (h : att = f.att) : f ∈ s.hub.frames.filter fun g => g.att == att && forBank s (portStation s f.outPort) g :=
    List.mem_filter.mpr ⟨hf, by simp [forBank, hstaged, h]⟩
  unfold sending
  generalize s.hub.frames.filter (fun g => g.att == att && forBank s (portStation s f.outPort) g) = l at hsame hmine
  have hsent : l.find? (fun g => g.place == .bank) = none := by
    refine List.find?_eq_none.mpr fun g hg => ?_
    rw [(hsame g hg).1, hplace]; decide
  simp only [hsent]
  cases l with
  | nil => rw [if_neg fun h => absurd (hmine h) List.not_mem_nil]; rfl
  | cons x r =>
    obtain ⟨rfl, hatt⟩ := hsame x List.mem_cons_self
    rw [if_pos hatt.symm]
    simp [hxoff]

/-- The only frame in staging, which no xoff holds, is the next that its bank admits. -/
theorem admitFirst_servedNow_sole (hatt : f.att < 21) (hxoff : xoffHolds s f = false) (hcells : 0 < fcells f) :
    admitFirst s ((servedNow s (portStation s f.outPort)).filter fun g => g.place == .staged) = some f := by
  have hsend := sending_sole hsole hf hplace hxoff
  rw [servedNow_sole hsole, serveBank]
  generalize hl : List.filterMap (sending s (portStation s f.outPort)) _ = l
  have hall : ∀ g ∈ l, g = f := by
    intro g hg
    rw [← hl] at hg
    obtain ⟨att, -, h⟩ := List.mem_filterMap.mp hg
    rw [hsend] at h
    split at h
    · exact (Option.some.inj h).symm
    · cases h
  have hmem : f ∈ l := by
    rw [← hl]
    refine List.mem_filterMap.mpr ⟨f.att, ?_, by rw [hsend, if_pos rfl]⟩
    have hord : f.att ∈ attachmentOrder s := mem_attachmentOrder hatt
    simp only [List.mem_append, List.mem_filter, hord, true_and]
    exact (Bool.eq_false_or_eq_true _).imp_right fun h => by simp [h]
  cases l with
  | nil => cases hmem
  | cons x r =>
    obtain rfl : x = f := hall x List.mem_cons_self
    refine admitFirst_sole hatt (List.mem_filter.mpr ⟨mem_takeTurns_head hcells, by rw [hplace]; rfl⟩) fun g hg => ?_
    exact hall g (mem_of_mem_takeTurns (List.mem_of_mem_filter hg))

end

/-! The turn of a staged frame at its bank. -/

variable {fid : Nat}

theorem egressAdmission_absent (h : findFrame s fid = none) : egressAdmission fid s = s := by simp only [egressAdmission, h]

section
variable (hf : findFrame s fid = some f)
include hf

theorem egressAdmission_turn (hc4 : s.errs.c4 = false)
    (h : (admitFirst s ((servedNow s (portStation s f.outPort)).filter fun g => g.place == .staged)).map (·.fid) = some fid) :
    egressAdmission fid s = admission f s := by
  simp only [egressAdmission, hf]
  exact if_neg (by rw [hc4, h]; simp)

theorem egressAdmission_waits (h : s.errs.c4 = true ∨
      (admitFirst s ((servedNow s (portStation s f.outPort)).filter fun g => g.place == .staged)).map (·.fid) ≠ some fid) :
    egressAdmission fid s = s := by
  simp only [egressAdmission, hf]
  refine if_pos ?_
  rcases h with h | h
  · rw [h, Bool.true_or]
  · simp [bne_iff_ne.mpr h]

end
end
end Sys2Proof.Machine

namespace Sys2Proof.Machine

/-! The admission procedure (R50), step by step. -/

theorem SameConf.subStrict {b s : State} (h : SameConf b s) : subStrict b = subStrict s := by
  funext sub; simp only [Machine.subStrict, h.partStrict]

section
variable {s : State} {f : Frame} {st q : Nat}

/-- The RED draw of a frame hits (R59). -/
def redHits (f : Frame) (s : State) : Bool := redHit s f.outPort (qOf f) f.colour (updatedAvg s f.outPort (qOf f))

/-- The state in which the average is up to date and RED has been drawn (R58, R59). -/
def redDrawn (f : Frame) (s : State) : State :=
  drew { s with hub.avg := tput s.hub.avg (f.outPort * 576 + qOf f) (updatedAvg s f.outPort (qOf f), s.now) }

/-- The frame after its draw: a hit marks it (R61). -/
def redMarked (f : Frame) (s : State) : Frame := if redHits f s then { f with mark := true } else f

/-- The state after the draw of a frame that is not dropped: a hit is counted and sends an echo (R61). -/
def redEchoed (f : Frame) (s : State) : State :=
  if redHits f s then emit (.echo f.att f.sub) (count1 (cQueue f.outPort (qOf f) 2) (redDrawn f s)) else redDrawn f s

theorem redEchoed_sameConf : SameConf (redEchoed f s) s := by
  unfold redEchoed
  split
  · exact ⟨rfl, rfl⟩
  · exact ⟨rfl, rfl⟩

/-- The draw changes at most the mark of a frame. -/
theorem redMarked_eq (f : Frame) (s : State) : ∃ m, redMarked f s = { f with mark := m } := by
  unfold redMarked
  split
  · exact ⟨true, rfl⟩
  · exact ⟨f.mark, rfl⟩

/-- The cells of a queue in one region, and those of a subscriber's reserve, that an admission at a bank sees in use. -/
def queueCells (f : Frame) (s : State) (st q : Nat) (r : Region) : Nat :=
  cellsOf ((seenFrames s st).filter fun g => g.outPort == f.outPort && qOf g == q && g.region == r)
def reserveCells (f : Frame) (s : State) (st : Nat) : Nat :=
  cellsOf ((seenFrames s st).filter fun g => g.sub == f.sub && g.region == .reserve)
/-- The cells of the shared region in use. -/
def sharedCells (s : State) (st : Nat) : Nat := cellsOf ((seenFrames s st).filter fun g => g.region == .shared)

/-- The regions in the order in which a frame is charged to them. -/
def admitRegions (f : Frame) (st q : Nat) (s : State) : State :=
  if queueCells f s st q .minimum + fcells f ≤ rf (s.cfg 0x28 f.outPort q) 13 0 then
    charge f .minimum (count1 (cPair f.outPort f.svc 0) s)
  else if reserveCells f s st + fcells f ≤ rf (s.cfg 0x29 st f.sub) 15 0 then charge f .reserve (count1 (cPair f.outPort f.svc 1) s)
  else admitShared f st q s

/-- RED drops a recoverable frame. -/
theorem admission_redDrop (hrcv : f.rcv = true) (hhit : redHits f s = true) : admission f s = dropAt f 0x1 (redDrawn f s) := by
  have hdrop : (f.rcv && redHits f s) = true := by rw [hrcv, hhit]; rfl
  exact if_pos hdrop

/-- A frame that RED does not drop is charged, marked by a hit. -/
theorem admission_regions (h : f.rcv = false ∨ redHits f s = false) :
    admission f s = admitRegions (redMarked f s) (portStation s f.outPort) (qOf f) (redEchoed f s) := by
  simp only [redHits] at h
  rcases Bool.eq_false_or_eq_true (redHit s f.outPort (qOf f) f.colour (updatedAvg s f.outPort (qOf f))) with hhit | hhit
  · have hrcv : f.rcv = false := by simpa [hhit] using h
    simp only [admission, redMarked, redEchoed, redHits, hhit, hrcv, Bool.false_and, Bool.false_eq_true, if_false, if_true]
    rfl
  · simp only [admission, redMarked, redEchoed, redHits, hhit, Bool.and_false, Bool.false_eq_true, if_false]
    rfl

theorem admitRegions_minimum (h : queueCells f s st q .minimum + fcells f ≤ rf (s.cfg 0x28 f.outPort q) 13 0) :
    admitRegions f st q s = charge f .minimum (count1 (cPair f.outPort f.svc 0) s) := if_pos h

section
variable (hmin : rf (s.cfg 0x28 f.outPort q) 13 0 < queueCells f s st q .minimum + fcells f)
include hmin

theorem admitRegions_reserve (h : reserveCells f s st + fcells f ≤ rf (s.cfg 0x29 st f.sub) 15 0) :
    admitRegions f st q s = charge f .reserve (count1 (cPair f.outPort f.svc 1) s) := by
  rw [admitRegions, if_neg (Nat.not_le.mpr hmin), if_pos h]

theorem admitRegions_shared (h : rf (s.cfg 0x29 st f.sub) 15 0 < reserveCells f s st + fcells f) :
    admitRegions f st q s = admitShared f st q s := by
  rw [admitRegions, if_neg (Nat.not_le.mpr hmin), if_neg (Nat.not_le.mpr h)]

end

/-- A frame for which no region has room is dropped, or charged to headroom with its pair's xoff (R50, R53). -/
def noRoom (f : Frame) (s : State) : State :=
  if f.rcv then dropAt f 0x2 s else assertXoff f.outPort f.svc (charge f .headroom (count1 (cPair f.outPort f.svc 3) s))

theorem admitShared_strict (h : subStrict s f.sub = true) : admitShared f st q s = noRoom f s := if_pos h

section
variable (hstrict : subStrict s f.sub = false)
include hstrict

section
variable (hroom : sharedCells s st + fcells f ≤ sharedSize s st)
include hroom

theorem admitShared_fits (h : (queueCells f s st q .shared + fcells f) * 64 ≤
      2 ^ rf (s.cfg 0x28 f.outPort q) 27 24 * (sharedSize s st - sharedCells s st)) :
    admitShared f st q s = charge f .shared (count1 (cPair f.outPort f.svc 2) s) :=
  (if_neg (Bool.eq_false_iff.mp hstrict)).trans ((if_pos hroom).trans (if_pos h))

theorem admitShared_overShare (h : ¬ (queueCells f s st q .shared + fcells f) * 64 ≤
      2 ^ rf (s.cfg 0x28 f.outPort q) 27 24 * (sharedSize s st - sharedCells s st)) : admitShared f st q s = noRoom f s :=
  (if_neg (Bool.eq_false_iff.mp hstrict)).trans ((if_pos hroom).trans (if_neg h))

end

section
variable (hroom : sharedSize s st < sharedCells s st + fcells f)
include hroom

theorem admitShared_noVictims (h : pushoutVictims s st f.svc (sharedCells s st + fcells f - sharedSize s st) = []) :
    admitShared f st q s = noRoom f s := by
  refine (if_neg (Bool.eq_false_iff.mp hstrict)).trans ((if_neg (Nat.not_le.mpr hroom)).trans ?_)
  rw [sharedCells] at h
  simp only [h]
  rfl

theorem admitShared_pushout (h : pushoutVictims s st f.svc (sharedCells s st + fcells f - sharedSize s st) ≠ []) :
    admitShared f st q s = charge f .shared (count1 (cPair f.outPort f.svc 2)
      (forAll (pushoutVictims s st f.svc (sharedCells s st + fcells f - sharedSize s st))
        (fun v s => dropNotice v 0x3 (count1 (cPair f.outPort f.svc 11) (takeOut v s))) s)) := by
  refine (if_neg (Bool.eq_false_iff.mp hstrict)).trans ((if_neg (Nat.not_le.mpr hroom)).trans ?_)
  rw [sharedCells] at h ⊢
  split
  · next hnil => exact absurd hnil h
  · rfl

end
end

/-! A pair's xoff, or its clearing, reaches an attachment (R55). -/

/-- What the attachment has then seen of the pair. -/
def xoffReached (att port svc : Nat) (s : State) : State :=
  let k := att * 1024 + port * 8 + svc
  let seen := s.hub.xoffSeen
  { s with hub.xoffSeen := if !pairXoff s port svc then tdel seen k else if (tfind seen k).isSome then seen else tput seen k (coreTick s) }

theorem xoffReached_seen (att port svc : Nat) (s : State) :
    (tfind (xoffReached att port svc s).hub.xoffSeen (att * 1024 + port * 8 + svc)).isSome = pairXoff s port svc := by
  simp only [xoffReached]
  cases hxoff : pairXoff s port svc with
  | false => simp
  | true =>
    cases hseen : (tfind s.hub.xoffSeen (att * 1024 + port * 8 + svc)).isSome with
    | false => simp
    | true => simpa using hseen

end
end Sys2Proof.Machine

namespace Sys2Proof.Machine

/-! The commands of a frame whose effects have no name of their own in the model. -/

section
variable {fid : Nat} {f : Frame} {s : State}

/-- What STAGING_LIFETIME_EXPIRY does (R68). -/
def expireStaged (fid : Nat) (s : State) : State := match findFrame s fid with
  | some f => if f.place == .staged && decide (ms ≤ age s f) then discard f .lifetime s else s
  | none => s

/-- What FRAME_REASSEMBLED does (R313). -/
def assembleFrame (fid : Nat) (s : State) : State := match findFrame s fid with
  | some f => if f.place == .bank && !s.hub.stalled then reassembled signalUncorrectable f s else s
  | none => s

theorem execStagingLifetimeExpiry_eq (dt : Time) : execStagingLifetimeExpiry dt fid s = run dt true (expireStaged fid) s := rfl

theorem execFrameReassembled_eq (dt : Time) : execFrameReassembled dt fid s = run dt true (assembleFrame fid) s := rfl

theorem expireStaged_absent (h : findFrame s fid = none) : expireStaged fid s = s := by simp only [expireStaged, h]

theorem assembleFrame_absent (h : findFrame s fid = none) : assembleFrame fid s = s := by simp only [assembleFrame, h]

section
variable (hf : findFrame s fid = some f)
include hf

theorem expireStaged_discards (hplace : f.place = .staged) (hage : ms ≤ age s f) : expireStaged fid s = discard f .lifetime s := by
  simp [expireStaged, hf, hplace, hage]

theorem expireStaged_keeps (h : f.place ≠ .staged ∨ age s f < ms) : expireStaged fid s = s := by
  rcases h with h | h
  · simp [expireStaged, hf, h]
  · simp [expireStaged, hf, Nat.not_le.mpr h]

theorem assembleFrame_reassembles (hplace : f.place = .bank) (hstall : s.hub.stalled = false) :
    assembleFrame fid s = reassembled signalUncorrectable f s := by
  simp [assembleFrame, hf, hplace, hstall]

theorem assembleFrame_early (h : f.place ≠ .bank ∨ s.hub.stalled = true) : assembleFrame fid s = s := by
  rcases h with h | h
  · simp [assembleFrame, hf, h]
  · simp [assembleFrame, hf, h]

end
end
end Sys2Proof.Machine

namespace Sys2Proof

open Machine

section
variable {s t : State} {dt : Time} {fid : Nat}

theorem stagingLifetimeExpiry_gives (h : expireStaged fid (advance dt s) = t) : Gives (.stagingLifetimeExpiry dt fid) s t :=
  (execStagingLifetimeExpiry_eq dt).trans (run_gives rfl h)

theorem frameReassembled_gives (h : assembleFrame fid (advance dt s) = t) : Gives (.frameReassembled dt fid) s t :=
  (execFrameReassembled_eq dt).trans (run_gives rfl h)

/-- A command that names no frame changes nothing. -/
theorem frameCommands_absent (h : findFrame (advance dt s) fid = none) {c : Instr}
    (hc : c ∈ [Instr.frameStage dt fid, .stagingLifetimeExpiry dt fid, .egressAdmission dt fid, .frameReassembled dt fid]) :
    Gives c s (advance dt s) := by
  simp only [List.mem_cons, List.not_mem_nil, or_false] at hc
  rcases hc with rfl | rfl | rfl | rfl
  · exact run_gives rfl (frameStage_absent h)
  · exact stagingLifetimeExpiry_gives (expireStaged_absent h)
  · exact run_gives rfl (egressAdmission_absent h)
  · exact frameReassembled_gives (assembleFrame_absent h)

end

/-- Settles O46: each check of a TLP, hold of a waiting frame, stop at the target and region of a bank has its equation, which the
conditions choose; the only frame in staging is found to be its bank's next. -/
theorem framesAreAdmitted : Obligations.FramesAreAdmitted := by
  refine ⟨?checks, ?kinds, ?frames, ?sweeps, ?admission⟩
  case checks =>
    intro s dt port t a gives c hport
    have gives_of {b : State} (h : checkTlp port t (tlpReceived port t) a = b) : gives b := run_gives (decide_eq_true hport) h
    refine ⟨fun hp => gives_of ((checkTlp_notPcie hp).trans (tlpReceived_notPcie hp)),
      fun hp hc4 => gives_of ((checkTlp_c4 hc4).trans (tlpReceived_c4 hp hc4)),
      fun hp hc4 => ⟨fun hacs => gives_of (checkTlp_acsViolation hp hc4 hacs),
        fun hacs => ⟨fun hafter hbefore => gives_of (checkTlp_contained hp hc4 hacs hafter hbefore),
          fun hdpc => gives_of (checkTlp_passes hp hc4 hacs hdpc)⟩⟩⟩
  case kinds =>
    intro s port t hen hspoke hc4 b acts
    have hacts {x : State} (h : actTlp port t b = x) : acts x := by
      subst h
      have htakes : tlpReceived port t s = takeTlp port t b := tlpReceived_takes hen hspoke hc4
      exact ⟨fun hwaits => htakes.trans (inTurn_waits hwaits), fun hstall hturn => htakes.trans (inTurn_acts hstall hturn)⟩
    exact ⟨fun h => hacts (actTlp_memReadLocked h), fun h => hacts (actTlp_unlock h), fun h => hacts (actTlp_cast h),
      fun h => hacts (actTlp_bridge h),
      fun hbridge hlk hunlock hobff hvdm => hacts (actTlp_admits hbridge hlk hunlock hobff hvdm)⟩
  case frames =>
    intro s dt fid a
    refine ⟨fun hnone c hc => frameCommands_absent hnone hc, fun f hf => ?_⟩
    intro st
    refine ⟨?notWaiting, ?waiting, ?expires, ?lives, ?turns, ?sole, ?assembled⟩
    case notWaiting => exact fun hplace => run_gives rfl (frameStage_notWaiting hf hplace)
    case waiting =>
      intro hplace b
      refine ⟨fun hended => run_gives rfl (frameStage_ended hf hplace hended), fun g hg => ?_⟩
      intro h gone
      have gives_of {t : State} (hleaves : leaveLink turnAct fid h b = t) : Gives (.frameStage dt fid) s t :=
        run_gives rfl ((frameStage_leaves hf hplace hg).trans hleaves)
      refine ⟨fun hfence => gives_of (leaveLink_fenced hfence), fun hfence hroute => gives_of (leaveLink_routeGone hfence hroute),
        fun hfence hroute hpath => gives_of (leaveLink_pathDead hfence hroute hpath), fun hfence hroute hpath =>
        ⟨fun hready hbridge => gives_of (leaveLink_bridge hfence hroute hpath hready hbridge),
          fun hready hturn => gives_of (leaveLink_turn hfence hroute hpath hready hturn),
          fun hready hlink => gives_of (leaveLink_stage hfence hroute hpath hready hlink),
          fun hheld => gives_of (leaveLink_held hfence hroute hpath hheld)⟩⟩
    case expires => exact fun hplace hage => stagingLifetimeExpiry_gives (expireStaged_discards hf hplace hage)
    case lives => exact fun h => stagingLifetimeExpiry_gives (expireStaged_keeps hf h)
    case turns =>
      exact ⟨fun hc4 hturn => run_gives rfl (egressAdmission_turn hf hc4 hturn), fun hwaits => run_gives rfl (egressAdmission_waits hf hwaits)⟩
    case sole =>
      intro hplace hatt hc4 hxoff hcells hsole
      refine run_gives rfl (egressAdmission_turn hf hc4 ?_)
      rw [admitFirst_servedNow_sole hsole (findFrame_mem hf) hplace hatt hxoff hcells, ← findFrame_fid hf]
      rfl
    case assembled =>
      intro was k b queued assembled long poison blocked signalled
      have checked_gives {t : State} (hplace : f.place = .bank) (hstall : a.hub.stalled = false)
          (h : reassembled signalUncorrectable f a = t) : assembled t :=
        frameReassembled_gives ((assembleFrame_reassembles hf hplace hstall).trans h)
      refine ⟨fun hearly => frameReassembled_gives (assembleFrame_early hf hearly),
        fun hplace hstall hpass => checked_gives hplace hstall (reassembled_unchecked hpass), fun hplace hstall hhere htest =>
        ⟨fun why hclosed => checked_gives hplace hstall (reassembled_closed hhere htest hclosed), fun hopen => ?_⟩⟩
      have gives_of {t : State} (h : reassembled signalUncorrectable f a = t) : assembled t := checked_gives hplace hstall h
      have hpoison : poison ↔ poisonStops a f = true := by simp [poison, poisonStops, and_assoc]
      rw [hpoison]
      have completes {cs : CplStatus} (hkind : f.tlp.kind = .completion cs) :=
        reassembled_completion (signal := signalUncorrectable) hhere htest hopen hkind
      have requests (hkind : ∀ cs, f.tlp.kind ≠ .completion cs) :=
        reassembled_request (signal := signalUncorrectable) hhere htest hopen hkind
      refine ⟨fun hshort hstops => ?poisoned, fun cs hkind => ⟨?_, ?_⟩, fun hkind => ⟨?_, ?_, fun hshort hclean hatomic => ?checked⟩⟩
      case poisoned => exact gives_of (reassembled_poisoned hhere htest hopen hshort hstops)
      case checked =>
        have hchecked := (requests hkind).trans ((if_neg hshort).trans ((if_neg hclean).trans (if_neg hatomic)))
        exact ⟨fun i hguard => gives_of (hchecked.trans (by rw [hguard]; rfl)),
          fun hguard => gives_of (hchecked.trans (by rw [hguard]; rfl))⟩
      · exact fun hlong => gives_of ((completes hkind).trans (if_pos hlong))
      · exact fun hshort hclean => gives_of ((completes hkind).trans ((if_neg hshort).trans (if_neg hclean)))
      · exact fun hlong => gives_of ((requests hkind).trans (if_pos hlong))
      · exact fun hshort hclean hatomic =>
          gives_of ((requests hkind).trans ((if_neg hshort).trans ((if_neg hclean).trans (if_pos hatomic))))
  case sweeps =>
    intro s dt a
    refine ⟨run_gives rfl rfl, fun att port svc hatt hport hsvc =>
      ⟨xoffReached att port svc a, run_gives (f := xoffReached att port svc) ?_ rfl, xoffReached_seen att port svc a⟩⟩
    simp [okAtt, okPort, okSvc, hatt, hport, hsvc]
  case admission =>
    intro s f q st n avg drawnState hit g b minUsed reserved shared U S fits full
    have hcfg : b.cfg = s.cfg := (redEchoed_sameConf (f := f)).cfg
    have hstrict : subStrict b = subStrict s := (redEchoed_sameConf (f := f)).subStrict
    obtain ⟨m, hm⟩ := redMarked_eq f s
    have hmark : g = { f with mark := m } := hm
    refine ⟨fun hrcv hhit => admission_redDrop hrcv hhit, fun hkept => ?_⟩
    have hadmits : admission f s = admitRegions g st q b := admission_regions hkept
    clear_value g b
    subst hmark
    simp only [fits, ← hcfg, ← hstrict]
    refine ⟨fun hmin => hadmits.trans (admitRegions_minimum hmin),
      fun hmin hres => hadmits.trans (admitRegions_reserve hmin hres), fun hmin hres => ?_⟩
    replace hadmits := hadmits.trans (admitRegions_shared hmin hres)
    have hfull (h : admitShared { f with mark := m } st q b = noRoom { f with mark := m } b) : full := by
      show if f.rcv then _ else _
      split
      · next hrcv => exact (hadmits.trans h).trans (if_pos hrcv)
      · next hrcv => exact (hadmits.trans h).trans (if_neg hrcv)
    refine ⟨fun hsub hroom hshare => hadmits.trans (admitShared_fits hsub hroom hshare), fun h => hfull ?_, fun hsub hroom =>
      ⟨fun hnone => hfull (admitShared_noVictims hsub hroom hnone), fun hsome => hadmits.trans (admitShared_pushout hsub hroom hsome)⟩⟩
    cases hsub : subStrict b f.sub with
    | true => exact admitShared_strict hsub
    | false =>
      obtain ⟨hroom, hshare⟩ := h.resolve_left (Bool.eq_false_iff.mp hsub)
      exact admitShared_overShare hsub hroom hshare

end Sys2Proof

namespace Sys2Proof.Machine

/-! Shapers: credit over time (R74, R75), and what a charge and an opening leave. -/

section
variable {s : State} {k : Nat} {L : Int}

@[simp] theorem putSh_sh (k : Nat) (v : Shaper) (s : State) : (putSh k v s).sh k = v := by simp [putSh, State.sh]

theorem putSh_sh_ne {j : Nat} {v : Shaper} (h : j ≠ k) : (putSh k v s).sh j = s.sh j := by
  simp [putSh, State.sh, tfind_tput_ne _ _ h]

/-- A core clock without spread is the local clock (R465). -/
theorem vco_eq_now (h : spreadPpm s.chip.coreSsc = 0) : s.vco = s.now := by simp [State.vco, h]

/-- Credit grows with time at the rate, up to the burst. -/
theorem creditNow_advance (dt : Time) (hssc : spreadPpm s.chip.coreSsc = 0) (hlast : (s.sh k).last ≤ s.now) :
    creditNow (advance dt s) k =
      min ((s.sh k).credit + (shRate s k * (s.now - (s.sh k).last) + shRate s k * dt : Nat)) (shBurst s k) := by
  have hclock : (advance dt s).vco = s.now + dt := vco_eq_now hssc
  have hgrown : shRate s k * (s.now + dt - (s.sh k).last) = shRate s k * (s.now - (s.sh k).last) + shRate s k * dt := by
    rw [← Nat.mul_add, Nat.sub_add_comm hlast]
  rw [← hgrown, ← hclock]
  rfl

/-- The credit that a unit of charged length `L` leaves (R74, R77). -/
def creditAfter (s : State) (k : Nat) (L : Int) : Int := kept (min (creditNow s k - L * creditUnit) (shBurst s k))

theorem chargeSh_unlimited (h : shRate s k = 0) : chargeSh k L s = s := if_pos h

/-- A shaper whose credit covers the unit keeps the rest. -/
theorem chargeSh_covers (hrate : shRate s k ≠ 0) (hc : 0 ≤ creditAfter s k L) :
    (chargeSh k L s).sh k = { s.sh k with credit := creditAfter s k L, last := s.vco } := by
  have hput : chargeSh k L s = putSh k { s.sh k with credit := creditAfter s k L, last := s.vco } s :=
    (if_neg hrate).trans (if_neg (Int.not_lt.mpr hc))
  rw [hput, putSh_sh]

end

/-! The wheels (R79 to R81). -/

section
variable {s t u : State} {inst k E : Nat}

/-- An open shaper is left as it is, any other is put in as open. -/
theorem openSh_cases (k : Nat) (s : State) :
    ((s.sh k).isOpen = true ∧ openSh k s = s) ∨ ∃ v : Shaper, v.isOpen = true ∧ openSh k s = putSh k v s := by
  by_cases h : (s.sh k).isOpen = true
  · exact .inl ⟨h, if_pos h⟩
  · exact .inr ⟨_, rfl, if_neg h⟩

theorem openSh_isOpen (k : Nat) (s : State) : ((openSh k s).sh k).isOpen = true := by
  obtain ⟨hopen, h⟩ | ⟨v, hopen, h⟩ := openSh_cases k s
  · rw [h]; exact hopen
  · rw [h, putSh_sh]; exact hopen

/-- Opening one shaper closes no other. -/
theorem openSh_stays_open {j : Nat} (hj : (s.sh j).isOpen = true) : ((openSh k s).sh j).isOpen = true := by
  by_cases hjk : j = k
  · exact hjk ▸ openSh_isOpen k s
  · obtain ⟨-, h⟩ | ⟨v, -, h⟩ := openSh_cases k s
    · rw [h]; exact hj
    · rw [h, putSh_sh_ne hjk]; exact hj

/-- The opening of a shaper touches the table of shapers alone. -/
theorem openSh_eq (k : Nat) (s : State) : ∃ ts, openSh k s = { s with sched.shapers := ts } := by
  obtain ⟨-, h⟩ | ⟨v, -, h⟩ := openSh_cases k s
  · exact ⟨_, h⟩
  · exact ⟨_, h⟩

theorem openSh_fine (k : Nat) (s : State) : (openSh k s).sched.fine = s.sched.fine := by
  obtain ⟨_, h⟩ := openSh_eq k s
  rw [h]

theorem wheelInsert_due (h : E ≤ slotNow s) : wheelInsert inst k E s = openSh k s := if_pos h

/-- An E of the current or the coming revolution goes into the fine wheel. -/
theorem wheelInsert_near (hlate : slotNow s < E) (hrev : E / 4096 ≤ slotNow s / 4096 + 1) : wheelInsert inst k E s =
    { s with sched.fine := tput s.sched.fine inst (tget [] s.sched.fine inst ++ [⟨E % 4096, k, E⟩]) } :=
  (if_neg (Nat.not_le.mpr hlate)).trans (if_pos hrev)

/-- A later E goes into a slot of the coarse wheel. -/
theorem wheelInsert_far (hlate : slotNow s < E) (hrev : slotNow s / 4096 + 1 < E / 4096) : ∃ slot, wheelInsert inst k E s =
    { s with sched.coarse := tput s.sched.coarse inst (tget [] s.sched.coarse inst ++ [⟨slot, k, E⟩]) } :=
  ⟨_, (if_neg (Nat.not_le.mpr hlate)).trans (if_neg (Nat.not_le.mpr hrev))⟩

/-- A shaper that waits in a wheel is as it was. -/
theorem wheelInsert_waits (hlate : slotNow s < E) (j : Nat) : (wheelInsert inst k E s).sh j = s.sh j := by
  rcases Nat.lt_or_ge (slotNow s / 4096 + 1) (E / 4096) with hrev | hrev
  · obtain ⟨slot, h⟩ := wheelInsert_far (inst := inst) (k := k) hlate hrev
    rw [h]; rfl
  · rw [wheelInsert_near hlate hrev]; rfl

/-- The state in which a shaper has closed at the credit that a unit leaves, and has left the wheels. -/
def closedBy (s : State) (k : Nat) (L : Int) : State :=
  putSh k { s.sh k with credit := creditAfter s k L, last := s.vco, isOpen := false } (wheelRemove k s)

/-- A unit that a shaper's credit does not cover closes it until its E (R74). -/
theorem chargeSh_closes {L : Int} (hrate : shRate s k ≠ 0) (hc : creditAfter s k L < 0)
    (hlate : slotNow s < eligibleSlot s k (creditAfter s k L)) :
    (chargeSh k L s).sh k = { s.sh k with credit := creditAfter s k L, last := s.vco, isOpen := false } := by
  have hwait : chargeSh k L s = wheelInsert (wheelOf s k) k (eligibleSlot s k (creditAfter s k L)) (closedBy s k L) :=
    (if_neg hrate).trans (if_pos hc)
  rw [hwait, wheelInsert_waits (s := closedBy s k L) hlate, closedBy, putSh_sh]

/-- What is put in behind a wheel's entries leaves them there. -/
theorem subset_tget_append {α : Type} (t : Tbl (List α)) (i : Nat) (r : List α) :
    tget [] t i ⊆ tget [] (tput t i (tget [] t i ++ r)) i := by
  have happended : tget [] (tput t i (tget [] t i ++ r)) i = tget [] t i ++ r := by simp [tget]
  rw [happended]
  exact List.subset_append_left _ r

/-- From `s` to `t` open shapers stay open, entries stay in the pair of wheels `inst`, and no time passes. -/
structure WheelsGrow (inst : Nat) (s t : State) : Prop where
  slot : slotNow t = slotNow s
  opened : ∀ j, (s.sh j).isOpen = true → (t.sh j).isOpen = true
  fine : tget [] s.sched.fine inst ⊆ tget [] t.sched.fine inst
  coarse : tget [] s.sched.coarse inst ⊆ tget [] t.sched.coarse inst

theorem WheelsGrow.refl (inst : Nat) (s : State) : WheelsGrow inst s s := ⟨rfl, fun _ => id, fun _ => id, fun _ => id⟩

theorem WheelsGrow.trans (h : WheelsGrow inst s t) (h' : WheelsGrow inst t u) : WheelsGrow inst s u :=
  ⟨h'.slot.trans h.slot, fun j hj => h'.opened j (h.opened j hj), fun _ hx => h'.fine (h.fine hx), fun _ hx => h'.coarse (h.coarse hx)⟩

theorem openSh_grows (inst k : Nat) (s : State) : WheelsGrow inst s (openSh k s) := by
  obtain ⟨ts, h⟩ := openSh_eq k s
  refine ⟨?_, fun _ => openSh_stays_open, ?_, ?_⟩
  · rw [h]; rfl
  · rw [h]; exact fun _ => id
  · rw [h]; exact fun _ => id

theorem wheelInsert_grows (inst k E : Nat) (s : State) : WheelsGrow inst s (wheelInsert inst k E s) := by
  rcases Nat.lt_or_ge (slotNow s) E with hlate | hdue
  case inr => exact wheelInsert_due hdue ▸ openSh_grows inst k s
  have hopened (j : Nat) (hj : (s.sh j).isOpen = true) : ((wheelInsert inst k E s).sh j).isOpen = true := by
    rw [wheelInsert_waits hlate]; exact hj
  rcases Nat.lt_or_ge (slotNow s / 4096 + 1) (E / 4096) with hrev | hrev
  · obtain ⟨slot, h⟩ := wheelInsert_far (inst := inst) (k := k) hlate hrev
    exact ⟨by rw [h]; rfl, hopened, by rw [h]; exact fun _ => id, by rw [h]; exact subset_tget_append _ _ _⟩
  · have h := wheelInsert_near (inst := inst) (k := k) hlate hrev
    exact ⟨by rw [h]; rfl, hopened, by rw [h]; exact subset_tget_append _ _ _, by rw [h]; exact fun _ => id⟩

/-- In a fold of steps that make the wheels grow, each element has its step at one of the states between. -/
theorem forAll_grows {α : Type} {f : α → State → State} {l : List α} {x : α} (hx : x ∈ l) (hf : ∀ y s, WheelsGrow inst s (f y s)) :
    ∃ u, WheelsGrow inst s u ∧ WheelsGrow inst (f x u) (forAll l f s) := by
  have hrest (r : List α) (u : State) : WheelsGrow inst u (forAll r f u) :=
    forAll_keeps (WheelsGrow inst u) f (fun y s h => h.trans (hf y s)) r u (.refl inst u)
  obtain ⟨before, after, rfl⟩ := List.append_of_mem hx
  refine ⟨forAll before f s, hrest before s, ?_⟩
  simp only [forAll, List.foldl_append, List.foldl_cons]
  exact hrest after _

/-- The first 32 due entries of a fine wheel. -/
def dueNow (inst : Nat) (s : State) : List WheelEntry := ((tget [] s.sched.fine inst).filter fun w => decide (w.due ≤ slotNow s)).take 32

theorem releaseDue_opens {w : WheelEntry} (h : w ∈ dueNow inst s) : ((releaseDue inst s).sh w.key).isOpen = true := by
  obtain ⟨u, -, hafter⟩ := forAll_grows (inst := inst) h fun w s => openSh_grows inst w.key s
  exact hafter.opened _ (openSh_isOpen w.key u)

/-- The entries that have not been released stay. -/
theorem releaseDue_fine (inst : Nat) (s : State) : tget [] (releaseDue inst s).sched.fine inst =
    (tget [] s.sched.fine inst).filter fun w => !(dueNow inst s).contains w := by
  have hfine := forAll_field (fun s => s.sched.fine) (fun (w : WheelEntry) => openSh w.key) (fun w s => openSh_fine w.key s) (dueNow inst s)
    { s with sched.fine := tset [] s.sched.fine inst ((tget [] s.sched.fine inst).filter fun w => !(dueNow inst s).contains w) }
  exact (congrArg (tget [] · inst) hfine).trans (tget_tset _ _ _ _)

/-- The slot of the coarse wheel that the start of a revolution empties. -/
def comingSlot (s : State) : Nat := (slotNow s / 4096 + 1) % 4096

/-- The state in which the entries of the coming revolution have been taken from the coarse wheel. -/
def coarseTaken (inst : Nat) (s : State) : State :=
  { s with sched.coarse := tset [] s.sched.coarse inst ((tget [] s.sched.coarse inst).filter fun w => w.slot != comingSlot s) }

section
variable {w : WheelEntry} (hw : w ∈ tget [] s.sched.coarse inst)
include hw

/-- The entries of later revolutions stay in the coarse wheel. -/
theorem moveCoarse_keeps (h : w.slot ≠ comingSlot s) : w ∈ tget [] (moveCoarse inst s).sched.coarse inst := by
  have hgrown : WheelsGrow inst (coarseTaken inst s) (moveCoarse inst s) :=
    forAll_keeps (WheelsGrow inst (coarseTaken inst s)) _ (fun w _ h => h.trans (wheelInsert_grows inst w.key w.due _)) _ _ (.refl inst _)
  refine hgrown.coarse ?_
  rw [coarseTaken, tget_tset]
  exact List.mem_filter.mpr ⟨hw, bne_iff_ne.mpr h⟩

variable (hslot : w.slot = comingSlot s)
include hslot

/-- Each entry of the coming revolution is inserted again. -/
theorem moveCoarse_inserts : ∃ u, slotNow u = slotNow s ∧ WheelsGrow inst (wheelInsert inst w.key w.due u) (moveCoarse inst s) := by
  have hcoming : w ∈ (tget [] s.sched.coarse inst).filter fun w => w.slot == comingSlot s := by simp [hw, hslot]
  obtain ⟨u, hbefore, hafter⟩ := forAll_grows (s := coarseTaken inst s) hcoming fun w s => wheelInsert_grows inst w.key w.due s
  exact ⟨u, hbefore.slot, hafter⟩

theorem moveCoarse_opens (hdue : w.due ≤ slotNow s) : ((moveCoarse inst s).sh w.key).isOpen = true := by
  obtain ⟨u, hclock, hafter⟩ := moveCoarse_inserts hw hslot
  refine hafter.opened _ ?_
  rw [wheelInsert_due (hclock ▸ hdue)]
  exact openSh_isOpen w.key u

theorem moveCoarse_moves (hlate : slotNow s < w.due) (hrev : w.due / 4096 ≤ slotNow s / 4096 + 1) :
    (⟨w.due % 4096, w.key, w.due⟩ : WheelEntry) ∈ tget [] (moveCoarse inst s).sched.fine inst := by
  obtain ⟨u, hclock, hafter⟩ := moveCoarse_inserts hw hslot
  refine hafter.fine ?_
  rw [wheelInsert_near (hclock ▸ hlate) (hclock ▸ hrev)]
  simp [tget]

end
end
end Sys2Proof.Machine

namespace Sys2Proof.Machine

/-! The ingress response (R93): echoes and recovery steps. -/

section
variable {s b : State} {att sub : Nat} {c : IngRate}

theorem wheelInsert_cur (inst k E : Nat) (s : State) : (wheelInsert inst k E s).sched.cur = s.sched.cur := by
  have hopen : (openSh k s).sched.cur = s.sched.cur := by
    obtain ⟨_, h⟩ := openSh_eq k s
    rw [h]
  unfold wheelInsert
  dsimp only
  split
  · exact hopen
  · split
    · rfl
    · rfl

/-- A rebased shaper leaves every CUR_RATE. -/
theorem rebaseSh_cur (k : Nat) (old : Int) (s : State) : (rebaseSh k old s).sched.cur = s.sched.cur := by
  unfold rebaseSh
  dsimp only
  split
  · rfl
  · split
    · exact wheelInsert_cur _ _ _ _
    · obtain ⟨_, h⟩ := openSh_eq k (putSh k { s.sh k with credit := kept (min old (shBurst s k)), last := s.vco } (wheelRemove k s))
      rw [h]; rfl

theorem curRate_of_tfind (h : tfind s.sched.cur (att * 72 + sub) = some c) : curRate s att sub = c.cur := by simp only [curRate, h]

theorem curRate_setCurRate (att sub : Nat) (c : IngRate) (s : State) : curRate (setCurRate att sub c s) att sub = c.cur :=
  curRate_of_tfind (by rw [setCurRate, rebaseSh_cur]; exact tfind_tput _ _ _)

theorem recoveryStep_absent (h : tfind s.sched.cur (att * 72 + sub) = none) : recoveryStep att sub s = s := by
  simp only [recoveryStep, h]

/-- The rate after a recovery step. -/
def recovered (s : State) (att sub : Nat) (c : IngRate) : IngRate :=
  { c with cur := min (ingressCeiling s att sub) (c.cur + ingStep s att sub), timer := c.timer + ingPeriod s att sub }

section
variable (hc : tfind s.sched.cur (att * 72 + sub) = some c)
include hc

theorem recoveryStep_due (hecho : ingEcho s att sub = true) (hdue : c.timer + ingPeriod s att sub ≤ s.now) :
    recoveryStep att sub s = setCurRate att sub (recovered s att sub c) s := by
  simp [recoveryStep, hc, hecho, State.since, hdue, recovered]

theorem recoveryStep_waits (h : ingEcho s att sub = false ∨ s.now < c.timer + ingPeriod s att sub) : recoveryStep att sub s = s := by
  rcases h with h | h
  · simp [recoveryStep, hc, h]
  · simp [recoveryStep, hc, State.since, Nat.not_le.mpr h]

end

/-- The rate and timers that an echo finds: the ceiling before the first. -/
def echoRate (s : State) (att sub : Nat) : IngRate :=
  (tfind s.sched.cur (att * 72 + sub)).getD ⟨ingressCeiling s att sub, none, s.now⟩

/-- The rate after a decrease. -/
def decreased (s : State) (att sub : Nat) (c : IngRate) : IngRate :=
  ⟨max (ingFloor s att sub) (c.cur * (8 + ingMd s att sub) / 16), some s.now, s.now⟩

/-- The state in which an echo has restarted the recovery timer and nothing else. -/
def timerRestarted (s : State) (att sub : Nat) : State :=
  { s with sched.cur := tput s.sched.cur (att * 72 + sub) { echoRate s att sub with timer := s.now } }

theorem curRate_timerRestarted (s : State) (att sub : Nat) : curRate (timerRestarted s att sub) att sub = (echoRate s att sub).cur :=
  curRate_of_tfind (c := { echoRate s att sub with timer := s.now }) (tfind_tput _ _ _)

/-! `b` is the state in which the echo has been counted and a due recovery step made (R101). -/

section
variable (hb : recoveryStep att sub (count1 (cSub att sub 3) s) = b)
include hb

theorem echoAt_ignored (h : ingEcho b att sub = false ∨ ingressCeiling b att sub = 0) : echoAt att sub s = b := by
  subst hb
  refine if_pos ?_
  rcases h with h | h
  · rw [h]; rfl
  · simp [h]

variable (hecho : ingEcho b att sub = true) (hceil : ingressCeiling b att sub ≠ 0)
include hecho hceil

/-- Outside the hold an echo lowers the rate. -/
theorem echoAt_decreases (h : ∀ t, (echoRate b att sub).lastDecrease = some t → t + ingHold b att sub ≤ b.now) :
    echoAt att sub s = setCurRate att sub (decreased b att sub (echoRate b att sub)) b := by
  subst hb
  refine (if_neg (by simp [hecho, hceil])).trans (if_neg ?_)
  unfold echoRate at h
  split
  · next t ht => simpa [State.since] using h t ht
  · simp

/-- Within the hold it restarts the recovery timer only. -/
theorem echoAt_held {t : Time} (ht : (echoRate b att sub).lastDecrease = some t) (hheld : b.now < t + ingHold b att sub) :
    echoAt att sub s = timerRestarted b att sub := by
  subst hb
  refine (if_neg (by simp [hecho, hceil])).trans (if_pos ?_)
  unfold echoRate at ht
  simp [ht, State.since, hheld]

end
end
end Sys2Proof.Machine

namespace Sys2Proof

open Machine

/-- Settles O48: a charge, a wheel's turn and an echo each have their equation; wheels only grow while entries are released or moved, so
each entry's opening or new place is still there at the end. -/
theorem shapersWheelsAndEchoes : Obligations.ShapersWheelsAndEchoes := by
  refine ⟨?shapers, ?wheels, ?ingress⟩
  case shapers =>
    exact fun s dt k L => ⟨min_le_right _ _, creditNow_advance dt, chargeSh_unlimited, chargeSh_covers, chargeSh_closes, openSh_isOpen k s⟩
  case wheels =>
    intro s dt inst a hinst
    have hwheel : okWheel inst = true := decide_eq_true hinst
    exact ⟨⟨releaseDue inst a, run_gives hwheel rfl, rfl, fun w => releaseDue_opens, releaseDue_fine inst a⟩,
      moveCoarse inst a, run_gives hwheel rfl, rfl, fun w hw => moveCoarse_keeps hw, fun w hw hslot =>
        ⟨moveCoarse_opens hw hslot, moveCoarse_moves hw hslot⟩⟩
  case ingress =>
    intro s dt att sub a k hatt hsub b
    have hok : (okAtt att && okSub sub) = true := by simp [okAtt, okSub, hatt, hsub]
    have echo_gives {t : State} (h : echoAt att sub a = t) : Gives (.echoReceived dt att sub) s t := run_gives hok h
    have step_gives {t : State} (h : recoveryStep att sub a = t) : Gives (.shaperRecoveryStep dt att sub) s t := run_gives hok h
    refine ⟨fun hoff => echo_gives (echoAt_ignored rfl hoff), fun hecho hceil => ⟨fun hfree => ?lowered, fun ⟨t, ht, hheld⟩ => ?held⟩,
      fun c hc => ⟨fun hecho hdue => ?raised, fun hwait => step_gives (recoveryStep_waits hc hwait)⟩,
      fun hnone => step_gives (recoveryStep_absent hnone)⟩
    case lowered =>
      exact ⟨_, echo_gives (echoAt_decreases rfl hecho hceil hfree), rfl, curRate_setCurRate att sub _ b⟩
    case held =>
      exact ⟨_, echo_gives (echoAt_held rfl hecho hceil ht hheld), rfl, curRate_timerRestarted b att sub⟩
    case raised =>
      exact ⟨_, step_gives (recoveryStep_due hc hecho hdue), rfl, curRate_setCurRate att sub _ a⟩

end Sys2Proof

namespace Sys2Proof.Machine

/-! Selection at an egress port (R82 to R87). -/

section
variable {st p q : Nat} {no : List (Nat × Nat)} {f : Frame} {s : State}

/-- The state in which the ports of a station have dropped the deficits of their idle nodes (R85). -/
def idleDropped (st : Nat) (no : List (Nat × Nat)) (s : State) : State := forAll (stationPorts s st) (dropIdle no) s

/-- The ports of a station in turn: from its pointer on, then those before it. -/
def portsInTurn (s : State) (st ptr : Nat) : List Nat :=
  ((stationPorts s st).filter fun p => decide (ptr ≤ p)) ++ (stationPorts s st).filter fun p => decide (p < ptr)

/-- The port that a selection serves: the first in turn that qualifies. -/
def servedPort (st : Nat) (no : List (Nat × Nat)) (s : State) : Option Nat :=
  (portsInTurn s st (tget 0 (idleDropped st no s).sched.pointers st)).find? (qualifies (idleDropped st no s) no)

/-- The state in which the pointer of a station has passed a port. -/
def pointerPast (st p : Nat) (s : State) : State := { s with sched.pointers := tset 0 s.sched.pointers st (p + 1) }

theorem selectOne_idle (h : servedPort st no s = none) : selectOne st no s = idleDropped st no s := by
  unfold servedPort at h
  simp only [selectOne]
  split
  · rfl
  · next p hp => exact absurd (hp.symm.trans h) (by simp)

theorem selectOne_serves (h : servedPort st no s = some p) :
    selectOne st no s = selectAt no p (pointerPast st p (idleDropped st no s)) := by
  unfold servedPort at h
  simp only [selectOne]
  split
  · next hp => exact absurd (hp.symm.trans h) (by simp)
  · next p' hp =>
    obtain rfl : p' = p := Option.some.inj (hp.symm.trans h)
    rfl

/-- The guarantee pass comes first (R84). -/
theorem selectAt_guarantee (hq : guaranteePass s p (eligibleQueues s no p) = some q) (hf : candidate s no p q = some f) :
    selectAt no p s = transmit f true [] [] s := by simp only [selectAt, hq, hf]

theorem selectAt_excess {d : Tbl Int} {ptr : Tbl Nat} (hnone : guaranteePass s p (eligibleQueues s no p) = none)
    (hq : excessPass s no p (eligibleQueues s no p) = some (q, d, ptr)) (hf : candidate s no p q = some f) :
    selectAt no p s = transmit f false d ptr s := by simp only [selectAt, hnone, hq, hf]

theorem egressSelect_c4 (h : s.errs.c4 = true) : egressSelect st no s = s := if_pos h

section
variable (hc4 : s.errs.c4 = false)
include hc4

theorem egressSelect_inCommitTick {old : List CfgEntry} (h : s.conf.before = some (coreTick s, old)) :
    egressSelect st no s = underOld old (selectOne st no) s := by simp [egressSelect, hc4, h]

theorem egressSelect_usual (h : ∀ x, s.conf.before = some x → x.1 ≠ coreTick s) : egressSelect st no s = selectOne st no s := by
  cases hb : s.conf.before with
  | none => simp [egressSelect, hc4, hb]
  | some x => simp [egressSelect, hc4, hb, h x hb]

end

/-! Transmission (R68, R86, R231, R273). -/

/-- A check under the epoch now in force denies the frame, which was checked under another. -/
def deniedNow (s : State) (f : Frame) : Bool := leavesHere s f && !f.test && f.epochGuard != s.conf.epoch && (guardFrame s f).isSome

variable {byGuarantee : Bool} {d : Tbl Int} {ptr : Tbl Nat}

/-- The state in which a selected frame's path has been charged, and the excess pass has set its deficits and pointers. -/
def pathCharged (f : Frame) (byGuarantee : Bool) (d : Tbl Int) (ptr : Tbl Nat) (s : State) : State :=
  let s1 := chargePath f byGuarantee s
  if byGuarantee then s1 else { s1 with sched.deficits := d, sched.pointers := ptr }

/-- The state in which the charged frame is being sent. -/
def nowSending (f : Frame) (byGuarantee : Bool) (d : Tbl Int) (ptr : Tbl Nat) (s : State) : State :=
  dropIdle [] f.outPort (modFrame f.fid (fun g => { g with place := .sending, picked := some (coreTick s, byGuarantee) })
    (countShort f (pathCharged f byGuarantee d ptr s)))

/-- A write that crossed from another device and leaves here, which is acknowledged. -/
def bridgedWrite (s : State) (f : Frame) : Prop := leavesHere s f = true ∧ f.srcDev ≠ s.dev ∧ f.rcv = false ∧ f.tlp.kind = .memWrite

theorem transmit_expired (h : ms ≤ age s f) : transmit f byGuarantee d ptr s = discard f .lifetime s := if_pos h

section
variable (hage : age s f < ms)
include hage

theorem transmit_denied (h : deniedNow s f = true) :
    transmit f byGuarantee d ptr s = guardDenied f ((guardFrame s f).getD 64) s := (if_neg (Nat.not_le.mpr hage)).trans (if_pos h)

variable (hguard : deniedNow s f = false)
include hguard

theorem transmit_sends (h : ¬ bridgedWrite s f) : transmit f byGuarantee d ptr s = nowSending f byGuarantee d ptr s := by
  refine (if_neg (Nat.not_le.mpr hage)).trans ((if_neg (Bool.eq_false_iff.mp hguard)).trans (if_neg fun hfar => h ?_))
  simp only [Bool.and_eq_true, bne_iff_ne, Bool.not_eq_true'] at hfar
  obtain ⟨⟨⟨hhere, hdev⟩, hrcv⟩, hkind⟩ := hfar
  refine ⟨hhere, hdev, hrcv, ?_⟩
  split at hkind
  · assumption
  · cases hkind

theorem transmit_acknowledges (h : bridgedWrite s f) : transmit f byGuarantee d ptr s =
    pushAck f (ackRecOf (nowSending f byGuarantee d ptr s) f false 0) (nowSending f byGuarantee d ptr s) := by
  obtain ⟨hhere, hdev, hrcv, hkind⟩ := h
  exact (if_neg (Nat.not_le.mpr hage)).trans ((if_neg (Bool.eq_false_iff.mp hguard)).trans (if_pos (by simp [hhere, hdev, hrcv, hkind])))

end
end
end Sys2Proof.Machine

namespace Sys2Proof.Machine

/-! Departure (R65, R66). -/

section
variable {fid : Nat} {f : Frame} {s : State}

/-- The state in which the last byte of a frame has left its queue. -/
def leftQueue (f : Frame) (s : State) : State :=
  countBytes (cQueue f.outPort (qOf f) 1) f.tlp.frameBytes (count1 (cQueue f.outPort (qOf f) 0) (removeFrame f s))

/-- The state in which that frame has been counted at its port. -/
def leftPort (f : Frame) (s : State) : State :=
  let k := streamOf f.tlp.kind
  bwAdd f.outPort true f.tlp.frameBytes (countBytes (cPort f.outPort (6 + 2 * k + 1)) f.tlp.frameBytes
    (count1 (cPort f.outPort (6 + 2 * k)) (leftQueue f s)))

/-- The state in which that frame is on its port's link. -/
def onLink (f : Frame) (s : State) : State := emit (.tlp f.outPort f.tlp) (leftPort f s)

theorem frameDepart_absent (h : findFrame s fid = none) : frameDepart fid s = s := by simp only [frameDepart, h]

section
variable (hf : findFrame s fid = some f)
include hf

theorem frameDepart_notSending (h : f.place ≠ .sending) : frameDepart fid s = s := by simp [frameDepart, hf, h]

variable (hplace : f.place = .sending)
include hplace

theorem frameDepart_test (h : f.test = true) :
    frameDepart fid s = issueTest f.outPort (countLoop 4 f.outPort testCells 0 (leftQueue f s)) := by
  simp [frameDepart, hf, hplace, h, leftQueue]

variable (htest : f.test = false)
include htest

theorem frameDepart_spoke {sp : Nat} (h : portSpoke s f.outPort = some sp) : frameDepart fid s =
    modSpoke sp (fun x => { x with tx := { x.tx with unsent := x.tx.unsent ++ cellsFor f } }) (leftPort f s) := by
  simp [frameDepart, hf, hplace, htest, h, leftPort, leftQueue]

variable (hlink : portSpoke s f.outPort = none)
include hlink

theorem frameDepart_batched {w : WorkTag} (h : f.work = some w) : frameDepart fid s = batchDeparture f w (onLink f s) := by
  simp [frameDepart, hf, hplace, htest, hlink, h, onLink, leftPort, leftQueue]

variable (hwork : f.work = none)
include hwork

theorem frameDepart_unlock (h : f.tlp.kind = .message .unlock) : frameDepart fid s = unlockHandedOff f (onLink f s) := by
  simp [frameDepart, hf, hplace, htest, hlink, hwork, h, onLink, leftPort, leftQueue]

theorem frameDepart_plain (h : f.tlp.kind ≠ .message .unlock) : frameDepart fid s = onLink f s := by
  simp [frameDepart, hf, hplace, htest, hlink, hwork, onLink, leftPort, leftQueue]

end

/-- A batch of a mover lane and egress port whose first departure lies 2 µs back. -/
def batchExpired (lane p : Nat) (s : State) (e : Nat × Batch) : Bool :=
  e.1 % 128 == p && e.1 / 128 % 8 == lane && decide (e.2.first + 2 * us ≤ s.now)

/-- The expired batches of a mover lane and egress port are sent. -/
def sendExpired (lane p : Nat) (s : State) : State :=
  forAll (s.hub.batches.filter (batchExpired lane p s))
    (fun e s => sendNotices e.2.dev (64 + lane) e.2.ns { s with hub.batches := tdel s.hub.batches e.1 }) s

theorem noticeBatchTimer_eq (dt : Time) (lane p : Nat) (s : State) :
    execNoticeBatchTimer dt lane p s = run dt (okSvc lane && okPort p) (sendExpired lane p) s := rfl

end
end Sys2Proof.Machine

namespace Sys2Proof

open Machine

/-- Settles O47: each outcome of a selection, a transmission and a departure has its equation, which the conditions choose. -/
theorem selectionAndDeparture : Obligations.SelectionAndDeparture := by
  refine ⟨?selection, ?transmission, ?departure⟩
  case selection =>
    intro s dt st no c a from' order usual hst
    have select_gives {t : State} (h : egressSelect st no c = t) : Gives (.egressSelect dt st no) s t :=
      run_gives (decide_eq_true hst) h
    refine ⟨fun hc4 => select_gives (egressSelect_c4 hc4),
      fun hc4 old hold => select_gives (egressSelect_inCommitTick hc4 hold),
      fun hc4 husual hnone => select_gives ((egressSelect_usual hc4 husual).trans (selectOne_idle hnone)),
      fun p f hc4 husual hsome => ?served⟩
    intro b
    have serves : egressSelect st no c = selectAt no p b := (egressSelect_usual hc4 husual).trans (selectOne_serves hsome)
    exact ⟨fun q hq hf => select_gives (serves.trans (selectAt_guarantee hq hf)),
      fun q d ptr hnone hq hf => select_gives (serves.trans (selectAt_excess hnone hq hf))⟩
  case transmission =>
    exact fun s f byGuarantee d ptr => ⟨transmit_expired, transmit_denied, fun hage hguard =>
      ⟨transmit_sends hage hguard, transmit_acknowledges hage hguard⟩⟩
  case departure =>
    intro s dt fid lane p a
    have depart_gives {t : State} (h : frameDepart fid a = t) : Gives (.frameDepart dt fid) s t := run_gives rfl h
    refine ⟨fun habsent => depart_gives (frameDepart_absent habsent), fun f hf => ⟨fun hplace =>
      depart_gives (frameDepart_notSending hf hplace), fun hplace => ⟨fun htest => depart_gives (frameDepart_test hf hplace htest),
        fun htest => ⟨fun sp hspoke => depart_gives (frameDepart_spoke hf hplace htest hspoke), fun hlink => ?linked⟩⟩⟩, ?batches⟩
    case linked =>
      exact ⟨fun w hwork => depart_gives (frameDepart_batched hf hplace htest hlink hwork),
        fun hwork hunlock => depart_gives (frameDepart_unlock hf hplace htest hlink hwork hunlock),
        fun hwork hplain => depart_gives (frameDepart_plain hf hplace htest hlink hwork hplain)⟩
    case batches =>
      intro hlane hp
      have hok : (okSvc lane && okPort p) = true := by simp [okSvc, okPort, hlane, hp]
      exact (noticeBatchTimer_eq dt lane p s).trans (run_gives hok rfl)

end Sys2Proof

namespace Sys2Proof.Machine

/-! A link comes up, and ends its recovery (R103, R129, R147, R152). -/

section
variable {p width rate : Nat} {s : State}

section
variable {x : LinkResult}

/-- The state in which a link has come up, its lanes as training left them and its port's status showing it. -/
def linkTrained (p width rate : Nat) (x : LinkResult) (s : State) : State :=
  let r := min rate (targetRate s p)
  noteStatus p (fun y => { y with dllChanged := true }) (count1 (cPort p 14) (equalise true p r x.eq (notePolarity p x.inverted
    (modPort p (fun q => { q with
      up := true, recovery := false, width := linkWidth width (portWidth s p), rate := r, reversed := x.reversed
      contained := (s.part (portPart s p)).contained }) s))))

/-- The state in which the slot of a downstream hot-plug port has its power limit too. -/
def slotLimited (p width rate : Nat) (x : LinkResult) (s : State) : State :=
  if portHp s p && !portUp s p then
    emit (.message p (.setSlotPowerLimit (rf (portRec s p) 11 4) (rf (portRec s p) 13 12))) (linkTrained p width rate x s)
  else linkTrained p width rate x s

/-- What keeps DL_UP from taking effect. -/
theorem linkStays_iff : (!pciePort s p || (s.port p).up || linkHeld s p || linkWidth width (portWidth s p) == 0) = true ↔
    pciePort s p = false ∨ (s.port p).up = true ∨ linkHeld s p = true ∨ linkWidth width (portWidth s p) = 0 := by
  simp [or_assoc]

theorem dlUp_stays
    (h : pciePort s p = false ∨ (s.port p).up = true ∨ linkHeld s p = true ∨ linkWidth width (portWidth s p) = 0) :
    dlUp p width rate x s = s := if_pos (linkStays_iff.mpr h)

theorem dlUp_trains (hpcie : pciePort s p = true) (hdown : (s.port p).up = false) (hfree : linkHeld s p = false)
    (hw : linkWidth width (portWidth s p) ≠ 0) : dlUp p width rate x s =
      let part := portPart s p
      let b := slotLimited p width rate x s
      if primaryUp b part = some p ∧ (b.part part).inReset = true then partReleased part b else b := by
  have hstays : ¬ (pciePort s p = false ∨ (s.port p).up = true ∨ linkHeld s p = true ∨ linkWidth width (portWidth s p) = 0) := by
    simp [hpcie, hdown, hfree, hw]
  exact (if_neg (linkStays_iff.not.mpr hstays)).trans (if_congr (by rw [Bool.and_eq_true, decide_eq_true_iff]; rfl) rfl rfl)

end

variable {eq : List Coef}

/-- The state in which a link has left recovery and the messages that it held have been sent. -/
def heldSent (p rate : Nat) (eq : List Coef) (s : State) : State :=
  let r := min rate (targetRate s p)
  forAll (s.aux p).heldMsgs (fun m => emit (.message p m)) (equalise false p r eq
    (modPort p (fun q => { q with recovery := false, rate := r }) (modAux p (fun y => { y with heldMsgs := [] }) s)))

theorem recoveryExit_none (h : (s.port p).recovery = false) : recoveryExit p rate eq s = s := if_pos (by rw [h]; rfl)

section
variable (hrec : (s.port p).recovery = true)
include hrec

theorem recoveryExit_other (h : portUp s p = false ∨ portVsw s p ≠ 0) : recoveryExit p rate eq s = heldSent p rate eq s := by
  have hprimary : ¬ (portUp s p && portVsw s p == 0) = true := by
    rcases h with h | h <;> simp [h]
  exact (if_neg (by rw [hrec]; decide)).trans (if_neg hprimary)

theorem recoveryExit_primary (hup : portUp s p = true) (hvsw : portVsw s p = 0) : recoveryExit p rate eq s =
    forAll ((onesBelow (s.aux p).collapsed 4).filter fun x => !leavesAsserted (s.aux p).heldMsgs x)
      (fun x => emit (.message p (.assertIntx x))) (heldSent p rate eq s) :=
  (if_neg (by rw [hrec]; decide)).trans (if_pos (by rw [hup, hvsw]; rfl))

end
end
end Sys2Proof.Machine

namespace Sys2Proof.Machine

/-! Errors of a port and a link that is lost (R151, R157, R163, R314, R325). -/

section
variable {p e : Nat} {s : State}

theorem portCorrectable_notPcie (h : pciePort s p = false) : portCorrectable p e s = s := if_pos (by rw [h]; rfl)

theorem portUncorrectable_notPcie (h : pciePort s p = false) : portUncorrectable p e s = s := if_pos (by rw [h]; rfl)

/-- The state in which a correctable error is in the status register, recorded and counted. -/
def correctableNoted (p e : Nat) (s : State) : State :=
  count1 (cPort p 18) (record [portPart s p] { devRec s 0x0101 0 0 0 with srcPort := p }
    (modAux p (fun y => { y with aerCor := setBit y.aerCor (e % 32) }) s))

/-- The state in which an uncorrectable error is recorded and counted. -/
def uncorrectableNoted (p : Nat) (s : State) : State :=
  count1 (cPort p 19) (record [portPart s p] { devRec s 0x0102 2 0 0 with srcPort := p } s)

/-- The state in which an uncorrectable error is in the status register. -/
def uncorrectableShown (p b : Nat) (s : State) : State := modAux p (fun y => { y with aerUnc := setBit y.aerUnc b }) s

section
variable (hpcie : pciePort s p = true)
include hpcie

theorem portCorrectable_silent (h : bit (s.aux p).corMask (e % 32) = true ∨ bit (s.port p).errEn 0 = false) :
    portCorrectable p e s = correctableNoted p e s := by
  have hsilent : (bit (s.aux p).corMask (e % 32) || !bit (s.port p).errEn 0) = true := by
    rcases h with h | h <;> simp [h]
  exact (if_neg (by rw [hpcie]; decide)).trans (if_pos hsilent)

theorem portCorrectable_sends (hmask : bit (s.aux p).corMask (e % 32) = false) (hen : bit (s.port p).errEn 0 = true) :
    portCorrectable p e s = bridgeSends p .errCor (correctableNoted p e s) :=
  (if_neg (by rw [hpcie]; decide)).trans (if_neg (by rw [hmask, hen]; decide))

theorem portUncorrectable_signals : portUncorrectable p e s = signalUncorrectable p (e % 32) (uncorrectableNoted p s) :=
  if_neg (by rw [hpcie]; decide)

end

section
variable {b : Nat}

theorem aerSignal_masked (h : bit (s.aux p).uncMask b = true) : aerSignal p b s = uncorrectableShown p b s :=
  if_neg (by simp [h])

theorem aerSignal_unmasked (h : bit (s.aux p).uncMask b = false) : aerSignal p b s =
    let isFatal := bit (s.aux p).uncSev b
    if bit (s.port p).errEn (if isFatal then 2 else 1) then
      bridgeSends p (if isFatal then .errFatal else .errNonFatal) (uncorrectableShown p b s)
    else uncorrectableShown p b s := if_congr (by rw [h, Bool.not_false, Bool.true_and]) rfl rfl

theorem signalUncorrectable_masked (h : bit (s.aux p).uncMask b = true) : signalUncorrectable p b s = uncorrectableShown p b s :=
  (if_neg (by simp [h])).trans (aerSignal_masked h)

section
variable (hmask : bit (s.aux p).uncMask b = false)
include hmask

theorem signalUncorrectable_triggers (hup : portUp s p = false) (hdpc : (s.port p).dpcEnable = true) :
    signalUncorrectable p b s = dpcTrigger p 0 (uncorrectableShown p b s) := if_pos (by rw [hmask, hup, hdpc]; rfl)

theorem signalUncorrectable_sends (h : portUp s p = true ∨ (s.port p).dpcEnable = false) : signalUncorrectable p b s =
    let isFatal := bit (s.aux p).uncSev b
    if bit (s.port p).errEn (if isFatal then 2 else 1) then
      bridgeSends p (if isFatal then .errFatal else .errNonFatal) (uncorrectableShown p b s)
    else uncorrectableShown p b s := by
  have hnoDpc : ¬ (!bit (s.aux p).uncMask b && !portUp s p && (s.port p).dpcEnable) = true := by
    rcases h with h | h <;> simp [h]
  exact (if_neg hnoDpc).trans (aerSignal_unmasked hmask)

end
end

/-- The state in which SURPRISE_DOWN is recorded. -/
def surpriseNoted (p : Nat) (s : State) : State := record [portPart s p] { devRec s 0x0103 2 0 0 with srcPort := p } s

theorem surpriseDown_dpc (h : ((surpriseNoted p s).port p).dpcEnable = true) :
    surpriseDown p s = dpcTrigger p 0 (uncorrectableShown p surpriseBit (surpriseNoted p s)) := if_pos h

theorem surpriseDown_signals (h : ((surpriseNoted p s).port p).dpcEnable = false) : surpriseDown p s =
    aerSignal p surpriseBit (releasePortSem p (flushPort p .linkDown (linkDown p (surpriseNoted p s)))) :=
  if_neg (Bool.eq_false_iff.mp h)

end
end Sys2Proof.Machine

namespace Sys2Proof

open Machine

section
variable {s t : State} {dt : Time} {p : Nat} (hp : p < 128)
include hp

theorem downstreamDlDown_gives (hpcie : pciePort (advance dt s) p = true) (hdown : portUp (advance dt s) p = false)
    (hlink : ((advance dt s).port p).up = true) (h : surpriseDown p (advance dt s) = t) : Gives (.downstreamDlDown dt p) s t :=
  run_gives (decide_eq_true hp) ((if_pos (by rw [hpcie, hdown, hlink]; rfl)).trans h)

theorem downstreamDlDown_elsewhere (h : pciePort (advance dt s) p = false ∨ portUp (advance dt s) p = true ∨
    ((advance dt s).port p).up = false) : Gives (.downstreamDlDown dt p) s (advance dt s) := by
  refine run_gives (decide_eq_true hp) (if_neg ?_)
  generalize advance dt s = a at h ⊢
  rcases h with h | h | h <;> simp [h]

theorem linkRecoveryEntry_gives (hlink : ((advance dt s).port p).up = true) (hrec : ((advance dt s).port p).recovery = false) :
    Gives (.linkRecoveryEntry dt p) s
      (count1 (cPort p 16) (modPort p (fun q => { q with recovery := true }) (advance dt s))) :=
  run_gives (decide_eq_true hp) (if_pos (by rw [hlink, hrec]; rfl))

theorem linkRecoveryEntry_stays (h : ((advance dt s).port p).up = false ∨ ((advance dt s).port p).recovery = true) :
    Gives (.linkRecoveryEntry dt p) s (advance dt s) := by
  refine run_gives (decide_eq_true hp) (if_neg ?_)
  generalize advance dt s = a at h ⊢
  rcases h with h | h <;> simp [h]

theorem dpcStatusClear_gives (h : ((advance dt s).port p).dpcTriggered = true) :
    Gives (.dpcStatusClear dt p) s (settleInt p (modPort p (fun q => { q with
      dpcTriggered := false, dpcReason := 0
      contained := ((advance dt s).part (portPart (advance dt s) p)).contained }) (advance dt s))) :=
  run_gives (decide_eq_true hp) (if_pos h)

theorem dpcStatusClear_untriggered (h : ((advance dt s).port p).dpcTriggered = false) :
    Gives (.dpcStatusClear dt p) s (advance dt s) := run_gives (decide_eq_true hp) (if_neg (Bool.eq_false_iff.mp h))

end

/-- Settles O43: each way that training, recovery, a lost link and an error can end has its equation, which the conditions choose. -/
theorem linkEvents : Obligations.LinkEvents := by
  intro s dt p a q hp
  have dlUp_gives {width rate : Nat} {x : LinkResult} {t : State} (h : dlUp p width rate x a = t) :
      Gives (.dlUp dt p width rate x) s t := run_gives (decide_eq_true hp) h
  have exit_gives {rate : Nat} {eq : List Coef} {t : State} (h : recoveryExit p rate eq a = t) :
      Gives (.linkRecoveryExit dt p rate eq) s t := run_gives (decide_eq_true hp) h
  have correctable_gives {e : Nat} {t : State} (h : portCorrectable p e a = t) : Gives (.pcieCorrectableError dt p e) s t :=
    run_gives (decide_eq_true hp) h
  have uncorrectable_gives {e : Nat} {t : State} (h : portUncorrectable p e a = t) : Gives (.pcieUncorrectableError dt p e) s t :=
    run_gives (decide_eq_true hp) h
  refine ⟨?training, ?surprise, downstreamDlDown_elsewhere hp, linkRecoveryEntry_gives hp, linkRecoveryEntry_stays hp, ?recovery,
    ?correctable, ?uncorrectable, ?notPcie, dpcStatusClear_gives hp, dpcStatusClear_untriggered hp⟩
  case training =>
    exact fun width rate x => ⟨fun hpcie hdown hfree hw => dlUp_gives (dlUp_trains hpcie hdown hfree hw), fun h => dlUp_gives (dlUp_stays h)⟩
  case surprise =>
    intro hpcie hdown hlink
    exact ⟨fun hdpc => downstreamDlDown_gives hp hpcie hdown hlink (surpriseDown_dpc hdpc),
      fun hdpc => downstreamDlDown_gives hp hpcie hdown hlink (surpriseDown_signals hdpc)⟩
  case recovery =>
    exact fun rate eq => ⟨fun hrec => ⟨fun h => exit_gives (recoveryExit_other hrec h),
      fun hup hvsw => exit_gives (recoveryExit_primary hrec hup hvsw)⟩, fun hrec => exit_gives (recoveryExit_none hrec)⟩
  case correctable =>
    intro e b hpcie
    exact ⟨fun h => correctable_gives (portCorrectable_silent hpcie h),
      fun hmask hen => correctable_gives (portCorrectable_sends hpcie hmask hen)⟩
  case uncorrectable =>
    intro e b m isFatal masked hpcie
    have signal_gives {t : State} (h : signalUncorrectable p (e % 32) b = t) : Gives (.pcieUncorrectableError dt p e) s t :=
      uncorrectable_gives ((portUncorrectable_signals hpcie).trans h)
    exact ⟨fun hmask => signal_gives (signalUncorrectable_masked hmask),
      fun hmask hup hdpc => signal_gives (signalUncorrectable_triggers hmask hup hdpc),
      fun hmask h => signal_gives (signalUncorrectable_sends hmask h)⟩
  case notPcie =>
    exact fun e h => ⟨correctable_gives (portCorrectable_notPcie h), uncorrectable_gives (portUncorrectable_notPcie h)⟩

end Sys2Proof

namespace Sys2Proof.Machine

/-! The interrupt block of function 0 (R146, R148, R365). -/

section
variable {s t : State} {p : Nat}

theorem intLevel_iff (q : Part) :
    intLevel q = true ↔ q.intStatus &&& q.intMask ≠ 0 ∧ q.intDisable = false ∧ q.msixEnable = false := by
  simp [intLevel, and_assoc]

/-- After an update of the level, L is what R146 says of the registers that the update leaves. -/
theorem updateLevel_intLevel (p : Nat) (s : State) :
    ((updateLevel p s).part p).level = intLevel ((updateLevel p s).part p) := by
  rw [updateLevel_part]; rfl

theorem writeMask_intx (v : BitVec 32) (h : (s.part p).msixEnable = false) :
    writeMask p v s = updateLevel p (modPart p (fun q => { q with intMask := v &&& 0xFF }) s) :=
  congrArg (updateLevel p) (if_neg (Bool.eq_false_iff.mp h))

theorem writeMask_msix (v : BitVec 32) (h : (s.part p).msixEnable = true) :
    writeMask p v s = updateLevel p (forAll ((List.range 32).filter fun i =>
        (v &&& 0xFF).getLsbD i && !(s.part p).intMask.getLsbD i && (s.part p).intStatus.getLsbD i) (sendCauseMsix p)
      (modPart p (fun q => { q with intMask := v &&& 0xFF }) s)) :=
  congrArg (updateLevel p) (if_pos h)

end

/-! An INTx wire of a bridge (R146, R150). -/

section
variable {s : State} {p u d wire pin : Nat} {on : Bool}

/-- The state in which a bridge's wire is as its message says. -/
def wireSet (p wire : Nat) (on : Bool) (s : State) : State := modAux p (fun a => { a with wires := putBit a.wires wire on }) s

theorem wireMessage_ignored (h : portEn s p = false ∨ portUp s p = true) : wireMessage p wire on s = s :=
  if_pos (by rcases h with h | h <;> simp [h])

section
variable (hen : portEn s p = true) (hdown : portUp s p = false)
include hen hdown

theorem wireMessage_alone (h : upstreamPort s (portPart s p) (portVsw s p) = none) :
    wireMessage p wire on s = wireSet p wire on s := by
  simp only [wireMessage, hen, hdown, h]
  rfl

theorem wireMessage_collapses (h : upstreamPort s (portPart s p) (portVsw s p) = some (s.dev, u)) :
    wireMessage p wire on s = collapse u (wireSet p wire on s) := by
  simp only [wireMessage, hen, hdown, h]
  rfl

section
variable (hup : upstreamPort s (portPart s p) (portVsw s p) = some (d, u)) (hfar : d ≠ s.dev) (hpin : wire % 4 = pin)
include hup hfar hpin

theorem wireMessage_far : wireMessage p wire on s =
    if pinOn ((wireSet p wire on s).aux p).wires pin == pinOn (s.aux p).wires pin then wireSet p wire on s
    else tunnel p d u (if pinOn ((wireSet p wire on s).aux p).wires pin then .assertIntx pin else .deassertIntx pin)
      (wireSet p wire on s) := by
  simp only [wireMessage, hen, hdown, hup, hfar, hpin]
  rfl

end
end
end
end Sys2Proof.Machine

namespace Sys2Proof

open Machine

section
variable {s t u : State} {dt : Time} {p : Nat} {c : Instr}

/-- A command that ends with an update of the level leaves L as R146 says. -/
theorem Gives.intLevel (h : Gives c s (updateLevel p u)) (hnext : exec c s = .next t) : (t.part p).level = intLevel (t.part p) := by
  obtain rfl := Host.Outcome.next.inj (hnext.symm.trans h)
  exact updateLevel_intLevel p u

section
variable (hp : p < 64)
include hp

theorem intStatusWrite_gives (v : BitVec 32) : Gives (.intStatusWrite dt p v) s (clearStatus p v (advance dt s)) :=
  run_gives (decide_eq_true hp) rfl

theorem intMaskWrite_gives (v : BitVec 32) : Gives (.intMaskWrite dt p v) s (writeMask p v (advance dt s)) :=
  run_gives (decide_eq_true hp) rfl

theorem msixEnableWrite_gives (on : Bool) : Gives (.msixEnableWrite dt p on) s
    (updateLevel p (modPart p (fun q => { q with msixEnable := on }) (advance dt s))) :=
  run_gives (f := fun s => updateLevel p (modPart p (fun q => { q with msixEnable := on }) s)) (decide_eq_true hp) rfl

theorem interruptDisableWrite_gives (on : Bool) : Gives (.interruptDisableWrite dt p on) s
    (updateLevel p (modPart p (fun q => { q with intDisable := on }) (advance dt s))) :=
  run_gives (f := fun s => updateLevel p (modPart p (fun q => { q with intDisable := on }) s)) (decide_eq_true hp) rfl

end
end

/-- Settles O44: each write of the block ends with an update of the level, which leaves L as R146 says; a bridge's wire goes where
the bridge's upstream port stands. -/
theorem interruptLevelFollowsCauses : Obligations.InterruptLevelFollowsCauses := by
  refine ⟨?writes, ?wires, ?level⟩
  case writes =>
    intro s dt p v on a q hp
    have hmask := intMaskWrite_gives (s := s) (dt := dt) hp v
    exact ⟨intStatusWrite_gives hp v, ⟨fun h => writeMask_intx v h ▸ hmask, fun h => writeMask_msix v h ▸ hmask⟩,
      msixEnableWrite_gives hp on, interruptDisableWrite_gives hp on⟩
  case wires =>
    intro s dt port pin on a wired is was hport hpin
    have gives_of {t : State} (h : wireMessage port pin on a = t) : Gives (.intxMessageReceived dt port pin on) s t :=
      run_gives (by simp [okPort, okPin, hport, hpin]) h
    refine ⟨fun h => gives_of (wireMessage_ignored h), fun hen hdown =>
      ⟨fun u h => gives_of (wireMessage_collapses hen hdown h), fun d u h hfar => ?_, fun h => gives_of (wireMessage_alone hen hdown h)⟩⟩
    have hmessage := wireMessage_far (on := on) hen hdown h hfar (Nat.mod_eq_of_lt hpin)
    exact ⟨fun hsame => gives_of (hmessage.trans (if_pos (beq_iff_eq.mpr hsame))),
      fun hchange => gives_of (hmessage.trans (if_neg (mt beq_iff_eq.mp hchange)))⟩
  case level =>
    intro s t dt p v on c hp hc hnext
    rw [← intLevel_iff, Bool.coe_iff_coe]
    simp only [List.mem_cons, List.not_mem_nil, or_false] at hc
    rcases hc with rfl | rfl | rfl | rfl
    · exact (intStatusWrite_gives hp v).intLevel hnext
    · exact (intMaskWrite_gives hp v).intLevel hnext
    · exact (msixEnableWrite_gives hp on).intLevel hnext
    · exact (interruptDisableWrite_gives hp on).intLevel hnext

end Sys2Proof

namespace Sys2Proof.Machine

/-! A configuration request takes its turn in the non-posted stream (R41, R313). -/

/-- The TLP of a configuration request. -/
def cfgTlp (k : CfgAsk) : Tlp :=
  { kind := (match k.access with
      | .read _ => TlpKind.cfgRead
      | .write _ => .cfgWrite)
    rid := k.rid, tag := k.tag, targetId := k.bus * 256 + k.dev * 8 + k.fn, len := 4 }

/-- What a configuration request does at its port. -/
def cfgAct (k : CfgAsk) : State → State := configRequest k.port k.rid k.tag k.bus k.dev k.fn k.access

section
variable {k : CfgAsk} {s : State}

theorem takeConfig_tunnelled (h : cfgFromLink s k.port = false) : takeConfig k s = cfgAct k s := if_pos (by rw [h]; rfl)

theorem takeConfig_waits (hlink : cfgFromLink s k.port = true) (h : s.hub.stalled = true ∨
    (streamWaits s k.port 1 = true ∧ holdsRoom (cfgAct k s) s.hub.nextFid = false)) :
    takeConfig k s = addWaiting { freshFrame s (cfgTlp k) (cfgTlp k) (portStation s k.port) (portPart s k.port) (svcOf s k.port 0)
      k.port s.dev k.port none with ends := some .turn, ask := some k } s := by
  refine (if_neg (by rw [hlink]; decide)).trans (if_pos ?_)
  rcases h with hstall | ⟨hwait, hroom⟩
  · rw [hstall, Bool.true_or]
  · rw [hwait, Bool.true_and]
    exact Bool.or_eq_true_iff.mpr (.inr (congrArg not hroom))

theorem takeConfig_acts (hlink : cfgFromLink s k.port = true) (hstall : s.hub.stalled = false)
    (h : streamWaits s k.port 1 = false ∨ holdsRoom (cfgAct k s) s.hub.nextFid = true) :
    takeConfig k s = creditBack k.port (cfgTlp k) s.hub.nextFid (cfgAct k s) := by
  refine (if_neg (by rw [hlink]; decide)).trans (if_neg ?_)
  rw [hstall, Bool.false_or]
  rcases h with hwait | hroom
  · rw [hwait, Bool.false_and]; exact Bool.false_ne_true
  · exact fun hheld => absurd hroom (by simpa [cfgAct] using (Bool.and_eq_true_iff.mp hheld).2)

end

/-! Where a configuration request goes (R139 to R143, R162). -/

/-- The routing ID of a VF below an upstream port answers: VF Enable is set and NumVFs reaches it (R143). -/
def vfReached (s : State) (p id : Nat) : Bool :=
  (s.part (portPart s p)).vfEnable && decide (id < (s.port p).sec * 256 + 256 + (s.part (portPart s p)).numVfs) && portVsw s p == 0

section
variable {s : State} {p rid tag bus dev fn : Nat} {x : CfgAccess}

theorem configRequest_notPcie (h : pciePort s p = false) : configRequest p rid tag bus dev fn x s = s := if_pos (by rw [h]; rfl)

section
variable (hpcie : pciePort s p = true)
include hpcie

theorem configRequest_c4 (hc4 : s.errs.c4 = true) : configRequest p rid tag bus dev fn x s = sendCpl p rid tag .ur s :=
  (if_neg (by rw [hpcie]; decide)).trans (if_pos hc4)

section
variable (hc4 : s.errs.c4 = false)
include hc4

section
variable (hdown : portUp s p = false)
include hdown

/-- A request that reaches a downstream port is one of the partition's home device, or it is unsupported (assumption 51). -/
theorem configRequest_downstream : configRequest p rid tag bus dev fn x s =
    if partHome s (portPart s p) = s.dev then sendCpl p rid tag .ur s else tunnelledConfig p rid tag fn x s :=
  (if_neg (by rw [hpcie]; decide)).trans ((if_neg (Bool.eq_false_iff.mp hc4)).trans (if_pos (by rw [hdown]; rfl)))

end

section
variable (hup : portUp s p = true)
include hup

/-- At an upstream port the request's bus decides. -/
theorem configRequest_upstream : configRequest p rid tag bus dev fn x s =
    if (s.port p).sec != 0 && bus == (s.port p).sec then internalBus p rid tag dev fn (cfgTlp ⟨p, rid, tag, bus, dev, fn, x⟩) x s
    else if (s.port p).sec != 0 && decide ((s.port p).sec < bus) && decide (bus ≤ (s.port p).subBus) then
      match vfOfRid s (portPart s p) (bus * 256 + dev * 8 + fn) with
      | some v =>
        if vfReached s p (bus * 256 + dev * 8 + fn) then functionAccess p rid tag (2 + v) x s
        else if notReady s (portPart s p) then sendCpl p rid tag .crs s
        else sendCpl p rid tag .ur s
      | none => admitTlp p (cfgTlp ⟨p, rid, tag, bus, dev, fn, x⟩) s
    else if dev = 0 ∧ fn = 0 then bridgeAnswers p rid tag p x s
    else sendCpl p rid tag .ur s :=
  (if_neg (by rw [hpcie]; decide)).trans ((if_neg (Bool.eq_false_iff.mp hc4)).trans (if_neg (by rw [hup]; decide)))

theorem configRequest_internal (hsec : (s.port p).sec ≠ 0) (hbus : bus = (s.port p).sec) : configRequest p rid tag bus dev fn x s =
    internalBus p rid tag dev fn (cfgTlp ⟨p, rid, tag, bus, dev, fn, x⟩) x s :=
  (configRequest_upstream hpcie hc4 hup).trans (if_pos (by simp [hsec, hbus]))

section
variable (hsec : (s.port p).sec ≠ 0) (habove : (s.port p).sec < bus) (hbelow : bus ≤ (s.port p).subBus)
include hsec habove hbelow

theorem configRequest_below (h : vfOfRid s (portPart s p) (bus * 256 + dev * 8 + fn) = none) :
    configRequest p rid tag bus dev fn x s = admitTlp p (cfgTlp ⟨p, rid, tag, bus, dev, fn, x⟩) s := by
  rw [configRequest_upstream hpcie hc4 hup, if_neg (by simp [habove.ne']), if_pos (by simp [hsec, habove, hbelow]), h]

theorem configRequest_vf {v : Nat} (h : vfOfRid s (portPart s p) (bus * 256 + dev * 8 + fn) = some v) :
    configRequest p rid tag bus dev fn x s =
      if vfReached s p (bus * 256 + dev * 8 + fn) then functionAccess p rid tag (2 + v) x s
      else sendCpl p rid tag (if notReady s (portPart s p) then .crs else .ur) s := by
  rw [configRequest_upstream hpcie hc4 hup, if_neg (by simp [habove.ne']), if_pos (by simp [hsec, habove, hbelow]), h,
    apply_ite (sendCpl p rid tag · s)]

end

/-- A request of another bus is for the port's own bridge. -/
theorem configRequest_own (hrange : (s.port p).sec = 0 ∨ bus < (s.port p).sec ∨ (s.port p).subBus < bus)
    (hbus : bus ≠ (s.port p).sec ∨ (s.port p).sec = 0) : configRequest p rid tag bus dev fn x s =
    if dev = 0 ∧ fn = 0 then bridgeAnswers p rid tag p x s else sendCpl p rid tag .ur s := by
  have hinternal : ¬ ((s.port p).sec != 0 && bus == (s.port p).sec) = true := by simpa [imp_iff_not_or, or_comm] using hbus
  have hbelow : ¬ ((s.port p).sec != 0 && decide ((s.port p).sec < bus) && decide (bus ≤ (s.port p).subBus)) = true := by
    simp only [Bool.and_eq_true, bne_iff_ne, decide_eq_true_eq]
    omega
  rw [configRequest_upstream hpcie hc4 hup, if_neg hinternal, if_neg hbelow]

end
end
end
end

/-! The internal bus of a virtual switch (R140). -/

section
variable {s : State} {u rid tag d fn : Nat} {t : Tlp} {x : CfgAccess}

theorem internalBus_zero : internalBus u rid tag 0 fn t x s =
    if portVsw s u = 0 ∧ fn < 2 then functionAccess u rid tag fn x s else sendCpl u rid tag .ur s := rfl

section
variable (hd : d ≠ 0)
include hd

/-- A bridge has only function 0. -/
theorem internalBus_noFunction (hfn : fn ≠ 0) : internalBus u rid tag d fn t x s = sendCpl u rid tag .ur s :=
  (if_neg hd).trans (if_pos hfn)

theorem internalBus_here {q : Nat} (h : (vswDown s (portPart s u) (portVsw s u)).find? (fun q => portDevNum s q == d) = some q) :
    internalBus u rid tag d 0 t x s = bridgeAnswers u rid tag q x s := by
  simp only [internalBus, hd, h]
  rfl

section
variable (hnone : (vswDown s (portPart s u) (portVsw s u)).find? (fun q => portDevNum s q == d) = none)
include hnone

theorem internalBus_absent (h : remoteEntry s (portPart s u) (portVsw s u) d = none) :
    internalBus u rid tag d 0 t x s = sendCpl u rid tag .ur s := by
  simp only [internalBus, hd, hnone, h]
  rfl

/-- A remote bridge gets the request over the fabric, when the partition is ready and a route stands. -/
theorem internalBus_remote {rd rp : Nat} (h : remoteEntry s (portPart s u) (portVsw s u) d = some (rd, rp)) :
    internalBus u rid tag d 0 t x s =
      if notReady s (portPart s u) then sendCpl u rid tag .crs s
      else if routeEn s rd then
        if routeDead s rd then lostRead (.pcie u) t rd rp s
        else newFrame { freshFrame s t t (portStation s u) (portPart s u) (svcOf s u 0) u rd rp none with fixed := true } s
      else sendCpl u rid tag .ur s := by
  simp only [internalBus, hd, hnone, h]
  rfl

end
end
end

/-! A write of a bridge (R316, R318). -/

theorem bridgeConfig_eq (b : Nat) (w : CfgWrite) (s : State) :
    bridgeConfig b w s =
      let c := settleInt b (modAux b (bridgeAuxWrite w) (modPort b (bridgeWrite w) s))
      let d := if primaryUp s (portPart s b) = some b ∧ (s.port b).sec = 0 ∧ (c.port b).sec ≠ 0 then wakeMover (portPart s b) c else c
      if portUp s b && downstreamOnly w then s
      else if w = .dpcSoftwareTrigger then (if (s.port b).dpcEnable then dpcTrigger b 7 s else s)
      else if rangesOf (c.port b) = rangesOf (s.port b) then d else sendRanges b d := by
  simp only [bridgeConfig, onlyIf, beq_iff_eq, bne_iff_ne, Bool.and_eq_true, and_assoc]

/-! A bridge of a partition at home elsewhere answers the tunnelled request (R140). -/

section
variable {a s : State} {p : Nat}

theorem settleInt_quiet (h : Quiet a s) : Quiet a (settleInt p s) := ite_quiet h (wireMessage_quiet h)

theorem flushPort_quiet {w : Why} (h : Quiet a s) : Quiet a (flushPort p w s) := flushWhere_quiet (h.same rfl)

theorem sendRanges_quiet (h : Quiet a s) : Quiet a (sendRanges p s) := forAll_quiet (fun _ _ => post_quiet) h

/-- A trigger of DPC keeps what every reset keeps. -/
theorem dpcTrigger_steady (p reason : Nat) (s : State) : Steady s (dpcTrigger p reason s) := by
  unfold dpcTrigger
  extract_lets held mark s1
  have hmark (x : State) : Steady x (mark x) := modPort_steady p _ x
  have h1 : Steady s s1 := (hmark s).trans ((modPort_steady p unlinked _).trans
    (flushPort_quiet (linkDown_quiet p (mark s))).resets.toSteady)
  split
  · exact Steady.refl s
  · exact ((h1.trans (portReset_resets p false s1).toSteady).trans (hmark _)).trans
      (settleInt_quiet (count1_quiet (Quiet.refl _))).resets.toSteady

theorem portUp_of_primaryUp {k : Nat} (h : primaryUp s k = some p) : portUp s p = true := by
  have hfound := List.find?_some h
  exact (Bool.and_eq_true_iff.mp hfound).1

/-- A write of a downstream bridge, which makes no bus number of a partition known, keeps what every reset keeps. -/
theorem bridgeConfig_steady (hdown : portUp s p = false) (w : CfgWrite) : Steady s (bridgeConfig p w s) := by
  rw [bridgeConfig_eq]
  extract_lets c d
  have hc : Steady s c := (modPort_steady p _ s).trans (settleInt_quiet (modAux_quiet (Quiet.refl _))).resets.toSteady
  have hd : d = c := if_neg fun h => absurd (portUp_of_primaryUp h.1) (Bool.eq_false_iff.mp hdown)
  rw [hd]
  split
  · exact Steady.refl s
  · split
    · split
      · exact dpcTrigger_steady p 7 s
      · exact Steady.refl s
    · split
      · exact hc
      · exact hc.trans (sendRanges_quiet (Quiet.refl c)).resets.toSteady

/-- The completion of a tunnelled request goes to the partition's home device. -/
def farAnswer (p rid tag : Nat) (st : CplStatus) (vs : List Nat) (s : State) : Out :=
  .farCpl (partHome s (portPart s p)) (portPart s p) (svcOf s p 0) rid tag st vs

variable {rid tag fn : Nat}

theorem tunnelledConfig_noFunction {x : CfgAccess} (h : fn ≠ 0) :
    tunnelledConfig p rid tag fn x s = post (farAnswer p rid tag .ur [] s) s := if_pos h

theorem tunnelledConfig_read (r : CfgReg) :
    tunnelledConfig p rid tag 0 (.read r) s = post (farAnswer p rid tag .sc (bridgeRead s p r) s) s := rfl

/-- The write leaves the records that name the home device and the service. -/
theorem tunnelledConfig_write (hdown : portUp s p = false) (w : CfgWrite) :
    tunnelledConfig p rid tag 0 (.write w) s = post (farAnswer p rid tag .sc [] s) (bridgeConfig p w s) := by
  have hsame : SameConf (bridgeConfig p w s) s := (bridgeConfig_steady hdown w).same
  simp only [tunnelledConfig, farAnswer, svcOf, hsame.partHome, hsame.cfg]
  rfl

end

/-! PME_Turn_Off and PME_TO_Ack (Table 5.1). -/

section
variable {s : State} {u p key : Nat}

/-- The downstream links of an upstream port's virtual switch that are up. -/
def linksBelow (s : State) (u : Nat) : List Nat := (vswDown s (portPart s u) (portVsw s u)).filter fun q => (s.port q).up

/-- The remote entries of an upstream port's virtual switch. -/
def remoteBelow (s : State) (u : Nat) : List Rec :=
  ((List.range 31).map fun i => s.cfg 0x11 (portPart s u) i).filter fun e => rb e 31 && rf e 12 11 == portVsw s u

/-- The state in which an upstream port waits for the acknowledgements of all below it. -/
def awaitsAcks (u : Nat) (s : State) : State :=
  modPart (portPart s u) (fun q => { q with pmeWait := q.pmeWait.filter (fun x => x.1 != portVsw s u) ++
    ((linksBelow s u).map (fun q => (portVsw s u, q)) ++
      (remoteBelow s u).map fun e => (portVsw s u, 128 * (rf e 30 25 + 1) + rf e 24 18)) }) s

theorem pmeOff_elsewhere (h : portEn s u = false ∨ portUp s u = false) : pmeOff u s = s :=
  if_pos (by rcases h with h | h <;> simp [h])

section
variable (hen : portEn s u = true) (hup : portUp s u = true)
include hen hup

theorem pmeOff_alone (hhere : linksBelow s u = []) (haway : remoteBelow s u = []) :
    pmeOff u s = sendMsg u .pmeToAck (awaitsAcks u s) :=
  (if_neg (by rw [hen, hup]; decide)).trans (if_pos (by
    simp only [linksBelow, remoteBelow] at hhere haway
    rw [hhere, haway]; rfl))

theorem pmeOff_spreads (h : linksBelow s u ≠ [] ∨ remoteBelow s u ≠ []) : pmeOff u s =
    forAll (remoteBelow s u) (fun e => tunnel u (rf e 30 25) (rf e 24 18) .pmeTurnOff)
      (forAll (linksBelow s u) (fun q => sendMsg q .pmeTurnOff) (awaitsAcks u s)) :=
  (if_neg (by rw [hen, hup]; decide)).trans (if_neg (by
    simp only [linksBelow, remoteBelow] at h
    rw [List.isEmpty_iff, List.append_eq_nil_iff, List.map_eq_nil_iff, List.map_eq_nil_iff]
    tauto))

end

theorem pmeAck_elsewhere (h : portEn s p = false ∨ portUp s p = true) : pmeAck p s = s :=
  if_pos (by rcases h with h | h <;> simp [h])

theorem pmeAck_alone (h : upstreamPort s (portPart s p) (portVsw s p) = none) : pmeAck p s = s := by
  simp only [pmeAck, h, ite_self]

section
variable (hen : portEn s p = true) (hdown : portUp s p = false) {d : Nat}
  (hu : upstreamPort s (portPart s p) (portVsw s p) = some (d, u))
include hen hdown hu

theorem pmeAck_goes : pmeAck p s = if d = s.dev then ackTurnOff u p s else tunnel p d u .pmeToAck s := by
  simp only [pmeAck, hen, hdown, hu]
  rfl

end

/-- The acknowledgements that an upstream port waits for after one has come. -/
def acksLeft (s : State) (u key : Nat) : List (Nat × Nat) := (s.part (portPart s u)).pmeWait.filter (· != (portVsw s u, key))

/-- The state in which an acknowledgement has come. -/
def ackNoted (u key : Nat) (s : State) : State := modPart (portPart s u) (fun q => { q with pmeWait := acksLeft s u key }) s

theorem ackTurnOff_unawaited (h : (portVsw s u, key) ∉ (s.part (portPart s u)).pmeWait) : ackTurnOff u key s = s :=
  if_neg (by simpa using h)

theorem any_acksLeft :
    ((acksLeft s u key).any fun x => x.1 == portVsw s u) = true ↔ ∃ x ∈ acksLeft s u key, x.1 = portVsw s u := by
  simp only [List.any_eq_true, beq_iff_eq]

section
variable (hwait : (portVsw s u, key) ∈ (s.part (portPart s u)).pmeWait)
include hwait

theorem ackTurnOff_waits (h : ∃ x ∈ acksLeft s u key, x.1 = portVsw s u) : ackTurnOff u key s = ackNoted u key s :=
  (if_pos (List.contains_iff_mem.mpr hwait)).trans (if_pos (any_acksLeft.mpr h))

theorem ackTurnOff_last (h : ∀ x ∈ acksLeft s u key, x.1 ≠ portVsw s u) :
    ackTurnOff u key s = sendMsg u .pmeToAck (ackNoted u key s) :=
  (if_pos (List.contains_iff_mem.mpr hwait)).trans (if_neg (mt any_acksLeft.mp fun ⟨x, hx, heq⟩ => h x hx heq))

end
end

/-! The end of NF_GAP (R325). -/

section
variable {s : State} {p : Nat}

/-- What NF_GAP_EXPIRY does to a partition. -/
def nfGapEnd (p : Nat) (s : State) : State :=
  match (s.part p).nfLast with
  | some t =>
    if (s.part p).nfHeld && s.since t (nfGap s) then
      func0Err p 1 .errNonFatal (modPart p (fun q => { q with nfHeld := false, nfLast := some s.now }) s)
    else s
  | none => s

theorem execNfGapExpiry_eq (dt : Time) (p : Nat) (s : State) : execNfGapExpiry dt p s = run dt (okPart p) (nfGapEnd p) s := rfl

/-- The gap since a partition's last message has passed. -/
def nfGapOver (s : State) (p : Nat) : Prop := ∃ t, (s.part p).nfLast = some t ∧ t + nfGap s ≤ s.now

theorem nfGapEnd_sends (hheld : (s.part p).nfHeld = true) (h : nfGapOver s p) : nfGapEnd p s =
    func0Err p 1 .errNonFatal (modPart p (fun q => { q with nfLast := some s.now, nfHeld := false }) s) := by
  obtain ⟨t, hlast, hdue⟩ := h
  have hsince : s.since t (nfGap s) = true := decide_eq_true hdue
  simp only [nfGapEnd, hlast, hheld, hsince, Bool.and_self, if_true]

theorem nfGapEnd_waits (h : (s.part p).nfHeld = false ∨ ¬ nfGapOver s p) : nfGapEnd p s = s := by
  unfold nfGapEnd
  split
  · next t hlast =>
    refine if_neg fun hends => ?_
    obtain ⟨hheld, hdue⟩ := Bool.and_eq_true_iff.mp hends
    exact h.elim (fun hfree => absurd hheld (Bool.eq_false_iff.mp hfree)) fun hearly => hearly ⟨t, hlast, of_decide_eq_true hdue⟩
  · rfl

end
end Sys2Proof.Machine

namespace Sys2Proof

open Machine

section
variable {s t : State} {dt : Time} {p port : Nat}

theorem okFlr_mover {f : Nat} (h : f < 576) : okFlr f = true := by simp [okFlr, h]

theorem okFlr_function0 (h : p < 64) : okFlr (1024 + p) = true := by
  simp only [okFlr, Bool.or_eq_true, Bool.and_eq_true, decide_eq_true_eq]
  omega

theorem powerControllerControlWrite_gives (hport : port < 128) (hpcie : pciePort (advance dt s) port = true)
    (hdown : portUp (advance dt s) port = false) (hhp : portHp (advance dt s) port = true) (off : Bool) :
    Gives (.powerControllerControlWrite dt port off) s (modChanAux (portSlot (advance dt s) port)
      (fun x => { x with requests := x.requests ++ [(b2n off, none)] })
      (modAux port (fun x => { x with powerOff := off }) (advance dt s))) :=
  run_gives (decide_eq_true hport) (if_pos (by rw [hpcie, hdown, hhp]; rfl))

theorem powerControllerControlWrite_elsewhere (hport : port < 128) (off : Bool) (h : pciePort (advance dt s) port = false ∨
    portUp (advance dt s) port = true ∨ portHp (advance dt s) port = false) :
    Gives (.powerControllerControlWrite dt port off) s (advance dt s) := by
  refine run_gives (decide_eq_true hport) (if_neg ?_)
  generalize advance dt s = a at h ⊢
  rcases h with h | h | h <;> simp [h]

theorem vfEnableClear_gives (hp : p < 64) : Gives (.vfEnableClear dt p) s (settleLoops (forAll (partVfs (advance dt s) p) startFlr
    (modPart p (fun q => { q with vfEnable := false }) (advance dt s)))) :=
  run_gives (f := fun s => settleLoops (forAll (partVfs s p) startFlr (modPart p (fun q => { q with vfEnable := false }) s)))
    (decide_eq_true hp) rfl

section
variable {f : Nat}

theorem flr_gives (hok : okFlr f = true) : Gives (.flr dt f) s
    (if f < 576 then settleLoops (startFlr f (advance dt s)) else flrFunction0 (f - 1024) (advance dt s)) :=
  run_gives (f := fun s => if f < 576 then settleLoops (startFlr f s) else flrFunction0 (f - 1024) s) hok rfl

theorem flr_gives_mover (h : f < 576) : Gives (.flr dt f) s (settleLoops (startFlr f (advance dt s))) := by
  have hflr := flr_gives (s := s) (dt := dt) (okFlr_mover h)
  rwa [if_pos h] at hflr

theorem flrComplete_gives_mover (h : f < 576) : Gives (.flrComplete dt f) s
    (forAll ((flrScope (advance dt s) f).filter fun f => ((advance dt s).func f).dying && (jobsOf (advance dt s) f).all jobIdle) finishFlr
      (advance dt s)) := run_gives (okFlr_mover h) (if_pos h)

theorem flr_gives_function0 (hp : p < 64) : Gives (.flr dt (1024 + p)) s (flrFunction0 p (advance dt s)) := by
  have hflr := flr_gives (s := s) (dt := dt) (okFlr_function0 hp)
  rwa [if_neg (by omega), Nat.add_sub_cancel_left] at hflr

theorem flrComplete_gives_function0 (hp : p < 64) : Gives (.flrComplete dt (1024 + p)) s (advance dt s) :=
  run_gives (okFlr_function0 hp) (if_neg (show ¬ 1024 + p < 576 by omega))

end

theorem nfGapExpiry_sends (hp : p < 64) (hheld : ((advance dt s).part p).nfHeld = true) (h : nfGapOver (advance dt s) p) :
    Gives (.nfGapExpiry dt p) s (func0Err p 1 .errNonFatal
      (modPart p (fun q => { q with nfLast := some (advance dt s).now, nfHeld := false }) (advance dt s))) :=
  (execNfGapExpiry_eq dt p s).trans (run_gives (decide_eq_true hp) (nfGapEnd_sends hheld h))

theorem nfGapExpiry_waits (hp : p < 64) (h : ((advance dt s).part p).nfHeld = false ∨ ¬ nfGapOver (advance dt s) p) :
    Gives (.nfGapExpiry dt p) s (advance dt s) :=
  (execNfGapExpiry_eq dt p s).trans (run_gives (decide_eq_true hp) (nfGapEnd_waits h))

end

/-- Settles O45: where a configuration request goes, its bridge or function and what answers there each have their equation, which the
conditions choose; so has each slot and function control. -/
theorem configurationSpaceAndFunctions : Obligations.ConfigurationSpaceAndFunctions := by
  refine ⟨?requests, ?controls⟩
  case requests =>
    intro s dt p rid tag bus dev fn x a q part t ask now gives answers bridge function hp
    have hok : okPort p = true := decide_eq_true hp
    have gives_of {y : State} (h : configRequest p rid tag bus dev fn x a = y) : gives y := by
      subst h
      exact ⟨fun hfar => run_gives hok (takeConfig_tunnelled hfar),
        fun hlink hstall hturn => run_gives hok (takeConfig_acts hlink hstall hturn)⟩
    have answered (rd : State → CfgReg → List Nat) (wr : CfgWrite → State → State) :
        functionAnswers p rid tag x rd wr a = answers (rd a) fun w => wr w a := by cases x <;> rfl
    have function_answered (n : Nat) : functionAccess p rid tag n x a = function n :=
      answered (fun s r => functionRead s part n r) fun w => modPart part (functionWrite n w)
    have bridge_answered (b : Nat) : bridgeAnswers p rid tag b x a = answers (bridgeRead a b) (bridge b) :=
      (answered (fun s r => bridgeRead s b r) (bridgeConfig b)).trans
        (congrArg (answers (bridgeRead a b)) (funext fun w => bridgeConfig_eq b w a))
    refine ⟨fun hlink h => run_gives hok (takeConfig_waits hlink h), fun h => gives_of (configRequest_notPcie h),
      fun hpcie hc4 => gives_of (configRequest_c4 hpcie hc4), fun hpcie hc4 => ⟨?home, ?away, ?internal, ?bridges, ?below, ?own⟩⟩
    case home => exact fun hdown hhome => gives_of ((configRequest_downstream hpcie hc4 hdown).trans (if_pos hhome))
    case away =>
      intro hdown hhome far
      have tunnelled := (configRequest_downstream (rid := rid) (tag := tag) (bus := bus) (dev := dev) (fn := fn) (x := x)
        hpcie hc4 hdown).trans (if_neg hhome)
      refine ⟨fun hfn => gives_of (tunnelled.trans (tunnelledConfig_noFunction hfn)), ?_⟩
      rintro rfl
      cases x with
      | read r => exact gives_of (tunnelled.trans (tunnelledConfig_read r))
      | write w => exact gives_of (tunnelled.trans ((tunnelledConfig_write hdown w).trans (congrArg (post _) (bridgeConfig_eq p w a))))
    case internal =>
      rintro hup hsec hbus rfl
      have inside := (configRequest_internal (rid := rid) (tag := tag) (fn := fn) (x := x) hpcie hc4 hup hsec hbus).trans internalBus_zero
      refine ⟨fun hvsw hfn => gives_of (inside.trans ((if_pos ⟨hvsw, hfn⟩).trans (function_answered fn))),
        fun h => gives_of (inside.trans (if_neg ?_))⟩
      rintro ⟨hvsw, hfn⟩
      omega
    case bridges =>
      intro hup hsec hbus hdev found
      have inside := configRequest_internal (rid := rid) (tag := tag) (dev := dev) (fn := fn) (x := x) hpcie hc4 hup hsec hbus
      refine ⟨fun hfn => gives_of (inside.trans (internalBus_noFunction hdev hfn)), ?here, ?absent, ?remote⟩
      case here =>
        rintro b rfl hb
        exact gives_of (inside.trans ((internalBus_here hdev hb).trans (bridge_answered b)))
      case absent =>
        rintro rfl hnone hentry
        exact gives_of (inside.trans (internalBus_absent hdev hnone hentry))
      case remote =>
        rintro rd rp rfl hnone hentry
        have sent := inside.trans (internalBus_remote hdev hnone hentry)
        have routed (hready : notReady a part = false) := sent.trans (if_neg (Bool.eq_false_iff.mp hready))
        exact ⟨fun hcrs => gives_of (sent.trans (if_pos hcrs)),
          fun hready hroute => gives_of ((routed hready).trans (if_neg (Bool.eq_false_iff.mp hroute))),
          fun hready hroute hdead => gives_of ((routed hready).trans ((if_pos hroute).trans (if_pos hdead))),
          fun hready hroute hlive => gives_of ((routed hready).trans ((if_pos hroute).trans (if_neg (Bool.eq_false_iff.mp hlive))))⟩
    case below =>
      intro hup hsec habove hbelow
      refine ⟨fun hnone => gives_of (configRequest_below hpcie hc4 hup hsec habove hbelow hnone), fun v hv => ?_⟩
      have reached := configRequest_vf (rid := rid) (tag := tag) (x := x) hpcie hc4 hup hsec habove hbelow hv
      exact ⟨fun hen => gives_of (reached.trans ((if_pos hen).trans (function_answered (2 + v)))),
        fun hoff => gives_of (reached.trans (if_neg (Bool.eq_false_iff.mp hoff)))⟩
    case own =>
      intro hup hrange hbus
      have owned := configRequest_own (rid := rid) (tag := tag) (dev := dev) (fn := fn) (x := x) hpcie hc4 hup hrange hbus
      refine ⟨fun hdev hfn => gives_of (owned.trans ((if_pos ⟨hdev, hfn⟩).trans (bridge_answered p))),
        fun h => gives_of (owned.trans (if_neg ?_))⟩
      rintro ⟨hdev, hfn⟩
      omega
  case controls =>
    intro s dt p port a home v hp hport
    have hokPart : okPart p = true := decide_eq_true hp
    have off_gives {t : State} (h : pmeOff port a = t) : Gives (.pmeTurnOff dt port) s t := run_gives (decide_eq_true hport) h
    have ack_gives {t : State} (h : pmeAck port a = t) : Gives (.pmeToAck dt port) s t := run_gives (decide_eq_true hport) h
    refine ⟨fun off => ⟨fun hpcie hdown hhp => powerControllerControlWrite_gives hport hpcie hdown hhp off,
        powerControllerControlWrite_elsewhere hport off⟩,
      run_gives hokPart rfl, run_gives hokPart rfl, fun num => run_gives hokPart rfl, vfEnableClear_gives hp,
      fun f hf => ⟨flr_gives_mover hf, flrComplete_gives_mover hf⟩, flr_gives_function0 hp, flrComplete_gives_function0 hp,
      ?turnOff, fun h => off_gives (pmeOff_elsewhere h), ?ack, ?ackElsewhere, nfGapExpiry_sends hp, nfGapExpiry_waits hp⟩
    case turnOff =>
      intro hen hup here away keys b
      exact ⟨fun hhere haway => off_gives (pmeOff_alone hen hup hhere haway), fun h => off_gives (pmeOff_spreads hen hup h)⟩
    case ack =>
      intro d u hen hdown hu
      have goes := pmeAck_goes hen hdown hu
      refine ⟨fun hfar => ack_gives (goes.trans (if_neg hfar)), fun hhere => ?_⟩
      replace goes := goes.trans (if_pos hhere)
      exact ⟨fun hout => ack_gives (goes.trans (ackTurnOff_unawaited hout)),
        fun hwait hleft => ack_gives (goes.trans (ackTurnOff_waits hwait hleft)),
        fun hwait hlast => ack_gives (goes.trans (ackTurnOff_last hwait hlast))⟩
    case ackElsewhere =>
      rintro (hen | hup | hnone)
      · exact ack_gives (pmeAck_elsewhere (.inl hen))
      · exact ack_gives (pmeAck_elsewhere (.inr hup))
      · exact ack_gives (pmeAck_alone hnone)

end Sys2Proof

namespace Sys2Proof.Machine

/-! The line of a spoke (R164 to R171). What is read from it, or sent on it, reaches only the line state that the spoke keeps, the counters
and the outputs. -/

/-- A spoke without what its receiver keeps of the line. -/
def deaf (x : Spoke) : Spoke := { x with rx := { x.rx with rd := 0, lastError := 0 } }

/-- A spoke without what its transmitter keeps of the line. -/
def mute (x : Spoke) : Spoke := { x with tx := { x.tx with rd := 0, idleCount := 0, sinceIdle := 0 } }

/-- From `s` to `t` each spoke stays as far as `v` shows it, and all else but counters and outputs stays. -/
structure OnLine (v : Spoke → Spoke) (s t : State) : Prop where
  rest : { t with spokes.spoke := [], count.live := [], out := [] } = { s with spokes.spoke := [], count.live := [], out := [] }
  spoke : ∀ k, v (t.spoke k) = v (s.spoke k)

section
variable {v : Spoke → Spoke} {a s t u : State} {k : Nat}

theorem OnLine.refl (s : State) : OnLine v s s := ⟨rfl, fun _ => rfl⟩

theorem OnLine.trans (h : OnLine v s t) (h' : OnLine v t u) : OnLine v s u :=
  ⟨h'.rest.trans h.rest, fun k => (h'.spoke k).trans (h.spoke k)⟩

/-! What stays. -/

theorem OnLine.stime (h : OnLine v s t) (k : Nat) : t.stime k = s.stime k := (congrArg (·.stime k) h.rest :)
theorem OnLine.ft (h : OnLine v s t) : t.ft = s.ft := (congrArg State.ft h.rest :)
theorem OnLine.dev (h : OnLine v s t) : t.dev = s.dev := (congrArg State.dev h.rest :)
theorem OnLine.hub (h : OnLine v s t) : t.hub = s.hub := (congrArg State.hub h.rest :)
theorem OnLine.errs (h : OnLine v s t) : t.errs = s.errs := (congrArg State.errs h.rest :)
theorem OnLine.time (h : OnLine v s t) : t.spokes.time = s.spokes.time := (congrArg (·.spokes.time) h.rest :)
theorem OnLine.loopRuns (h : OnLine v s t) (d k : Nat) : loopRuns t d k = loopRuns s d k :=
  (congrArg (Machine.loopRuns · d k) h.rest :)
theorem OnLine.spokeEn (h : OnLine v s t) : spokeEn t = spokeEn s := (congrArg Machine.spokeEn h.rest :)

/-! The shapes of an update. -/

theorem OnLine.emit {o : Out} (h : OnLine v a s) : OnLine v a (emit o s) := ⟨h.rest, h.spoke⟩
theorem OnLine.countBy {i n : Nat} (h : OnLine v a s) : OnLine v a (countBy i n s) := ⟨h.rest, h.spoke⟩
theorem OnLine.count1 {i : Nat} (h : OnLine v a s) : OnLine v a (count1 i s) := h.countBy

theorem OnLine.modSpoke {f : Spoke → Spoke} (hf : ∀ x, v (f x) = v x) (h : OnLine v a s) : OnLine v a (modSpoke k f s) := by
  refine ⟨h.rest, fun j => ?_⟩
  rw [modSpoke_spoke]
  split
  · exact (hf _).trans (h.spoke j)
  · exact h.spoke j

theorem OnLine.forAll {α : Type} {f : α → State → State} {l : List α} (hf : ∀ x s, OnLine v a s → OnLine v a (f x s))
    (h : OnLine v a s) : OnLine v a (forAll l f s) := forAll_keeps (OnLine v a) f hf l s h

theorem OnLine.onlyIf {b : Bool} {f : State → State} (hf : ∀ s, OnLine v a s → OnLine v a (f s)) (h : OnLine v a s) :
    OnLine v a (onlyIf b f s) := by
  cases b
  · exact h
  · exact hf s h

/-! What a receiver keeps. -/

theorem OnLine.heard_state (h : OnLine deaf s t) (k : Nat) : (t.spoke k).state = (s.spoke k).state :=
  (congrArg Spoke.state (h.spoke k) :)
theorem OnLine.heard_tx (h : OnLine deaf s t) (k : Nat) : (t.spoke k).tx = (s.spoke k).tx := (congrArg Spoke.tx (h.spoke k) :)
theorem OnLine.heard_active (h : OnLine deaf s t) (k : Nat) : (t.spoke k).active = (s.spoke k).active :=
  (congrArg Spoke.active (h.spoke k) :)
theorem OnLine.heard_switch (h : OnLine deaf s t) (k : Nat) : (t.spoke k).rx.switch = (s.spoke k).rx.switch :=
  (congrArg (·.rx.switch) (h.spoke k) :)
theorem OnLine.heard_exchangeSpoiled (h : OnLine deaf s t) (k : Nat) :
    (t.spoke k).exchangeSpoiled = (s.spoke k).exchangeSpoiled := (congrArg Spoke.exchangeSpoiled (h.spoke k) :)
theorem OnLine.heard_loopLink (h : OnLine deaf s t) (k : Nat) : loopLink t k = loopLink s k :=
  congrArg₂ or (congrArg Spoke.remoteLoop (h.spoke k) :) (h.loopRuns 5 k)
theorem OnLine.heard_spokeUp (h : OnLine deaf s t) (k : Nat) : spokeUp t k = spokeUp s k := by
  simp only [Machine.spokeUp, h.spokeEn, h.heard_state, h.heard_loopLink]

/-! Reading (R166, R189). -/

theorem countViolations_heard {code disp : Nat} (h : OnLine deaf a s) : OnLine deaf a (countViolations k code disp s) := by
  unfold countViolations
  split
  · exact h
  · exact .forAll (fun _ _ h => h.count1) (.forAll (fun _ _ h => h.count1) (h.modSpoke fun _ => rfl))

theorem tookBeats_heard {more : Nat} {y : Seen} (h : OnLine deaf a s) : OnLine deaf a (tookBeats k more y s) :=
  countViolations_heard (h.modSpoke fun _ => rfl)

theorem tookCtl_heard {b : Beat} (h : OnLine deaf a s) : OnLine deaf a (tookCtl k b s) := tookBeats_heard h

theorem tookCtls_heard {bs : List Beat} (h : OnLine deaf a s) : OnLine deaf a (tookCtls k bs s) := by
  induction bs generalizing s with
  | nil => exact h
  | cons b r ih => exact ih (tookCtl_heard h)

theorem tookBeats_out (k more : Nat) (y : Seen) (s : State) : (tookBeats k more y s).out = s.out := by
  unfold tookBeats countViolations
  split
  · rfl
  · exact (forAll_field State.out (fun l => count1 (cLane (spokeLane k l) 0)) (fun _ _ => rfl) _ _).trans
      (forAll_field State.out (fun l => count1 (cLane (spokeLane k l) 1)) (fun _ _ => rfl) _ _)

/-! Sending (R165, R168). -/

theorem putBeats_spoken {rows : List (List Sym)} (h : OnLine mute a s) : OnLine mute a (putBeats k rows s) :=
  .emit (.modSpoke (fun _ => rfl) h)

theorem sendRows_spoken {rows : List (List Sym)} (h : OnLine mute a s) : OnLine mute a (sendRows k rows s) :=
  putBeats_spoken (.onlyIf (fun _ h => .modSpoke (fun _ => rfl) (putBeats_spoken h)) h)

theorem sendBeat_spoken {kind x y : Nat} (h : OnLine mute a s) : OnLine mute a (sendBeat k kind x y s) := sendRows_spoken h.emit

theorem sendRetire_spoken {lane phase : Nat} (h : OnLine mute a s) : OnLine mute a (sendRetire k lane phase s) :=
  sendRows_spoken (.forAll (fun _ _ h => h.emit) h)

theorem sendTrain_spoken (h : OnLine mute a s) : OnLine mute a (sendTrain k s) := by
  unfold sendTrain
  split
  · exact sendRows_spoken h.emit
  · exact h

theorem sendAsk_spoken {ask : Nat × Nat × Nat} (h : OnLine mute a s) : OnLine mute a (sendAsk k ask s) := by
  unfold sendAsk
  extract_lets
  split
  · exact sendRows_spoken h.emit
  · exact h

/-! What a transmitter keeps. -/

theorem OnLine.spoken_state (h : OnLine mute s t) (k : Nat) : (t.spoke k).state = (s.spoke k).state :=
  (congrArg Spoke.state (h.spoke k) :)
theorem OnLine.spoken_localDone (h : OnLine mute s t) (k : Nat) : (t.spoke k).localDone = (s.spoke k).localDone :=
  (congrArg Spoke.localDone (h.spoke k) :)
theorem OnLine.spoken_peerFlags (h : OnLine mute s t) (k : Nat) : (t.spoke k).peerFlags = (s.spoke k).peerFlags :=
  (congrArg Spoke.peerFlags (h.spoke k) :)
theorem OnLine.spoken_active (h : OnLine mute s t) (k : Nat) : (t.spoke k).active = (s.spoke k).active :=
  (congrArg Spoke.active (h.spoke k) :)
theorem OnLine.spoken_rx (h : OnLine mute s t) (k : Nat) : (t.spoke k).rx = (s.spoke k).rx := (congrArg Spoke.rx (h.spoke k) :)
theorem OnLine.spoken_unsent (h : OnLine mute s t) (k : Nat) : (t.spoke k).tx.unsent = (s.spoke k).tx.unsent :=
  (congrArg (·.tx.unsent) (h.spoke k) :)
theorem OnLine.spoken_replay (h : OnLine mute s t) (k : Nat) : (t.spoke k).tx.replay = (s.spoke k).tx.replay :=
  (congrArg (·.tx.replay) (h.spoke k) :)
theorem OnLine.spoken_nextSeq (h : OnLine mute s t) (k : Nat) : (t.spoke k).tx.nextSeq = (s.spoke k).tx.nextSeq :=
  (congrArg (·.tx.nextSeq) (h.spoke k) :)
theorem OnLine.spoken_sent (h : OnLine mute s t) (k : Nat) : (t.spoke k).tx.sent = (s.spoke k).tx.sent :=
  (congrArg (·.tx.sent) (h.spoke k) :)
theorem OnLine.spoken_loopLink (h : OnLine mute s t) (k : Nat) : loopLink t k = loopLink s k :=
  congrArg₂ or (congrArg Spoke.remoteLoop (h.spoke k) :) (h.loopRuns 5 k)

/-! Only the spoke that sends is reached. -/

theorem putBeats_spoke_ne {rows : List (List Sym)} {l : Nat} (h : l ≠ k) : (putBeats k rows s).spoke l = s.spoke l :=
  modSpoke_spoke_ne s _ h

theorem sendRows_spoke_ne {rows : List (List Sym)} {l : Nat} (h : l ≠ k) : (sendRows k rows s).spoke l = s.spoke l := by
  refine (putBeats_spoke_ne h).trans ?_
  unfold Machine.onlyIf
  split
  · exact (modSpoke_spoke_ne _ _ h).trans (putBeats_spoke_ne h)
  · rfl

end
end Sys2Proof.Machine

namespace Sys2Proof.Machine

/-! Messages of several control beats (R169, R171). -/

/-- The state in which the beats of a message have been read, and the bad ones counted. -/
def partsTaken (k : Nat) (bs : List Beat) (s : State) : State :=
  countBy (cSpoke k ckBadBeat) ((ctlBeats s k bs).filter fun c => !c.good).length (tookCtls k bs s)

theorem partsTaken_heard (k : Nat) (bs : List Beat) (s : State) : OnLine deaf s (partsTaken k bs s) :=
  (tookCtls_heard (.refl s)).countBy

section
variable {k lowest kind sub n : Nat} {bs : List Beat} {f : List Nat → State → State} {s : State}

theorem onParts_noLink (h : ((settleSwitch k s).spoke k).state < 2) : onParts k lowest kind sub n bs f s = settleSwitch k s := if_pos h

section
variable (hlink : 2 ≤ ((settleSwitch k s).spoke k).state)
include hlink

theorem onParts_incomplete (h : partsOf kind sub n (ctlBeats (settleSwitch k s) k bs) = none) :
    onParts k lowest kind sub n bs f s = partsTaken k bs (settleSwitch k s) := by
  refine (if_neg (Nat.not_lt.mpr hlink)).trans ?_
  rw [h]
  rfl

theorem onParts_early (h : ((settleSwitch k s).spoke k).state < lowest) :
    onParts k lowest kind sub n bs f s = partsTaken k bs (settleSwitch k s) := by
  refine (if_neg (Nat.not_lt.mpr hlink)).trans ?_
  split
  · exact if_pos h
  · rfl

theorem onParts_complete {vs : List Nat} (hlow : lowest ≤ ((settleSwitch k s).spoke k).state)
    (h : partsOf kind sub n (ctlBeats (settleSwitch k s) k bs) = some vs) :
    onParts k lowest kind sub n bs f s = f vs (partsTaken k bs (settleSwitch k s)) := by
  refine (if_neg (Nat.not_lt.mpr hlink)).trans ?_
  rw [h]
  exact if_neg (Nat.not_lt.mpr hlow)

end
end

theorem spokeUp_state {s : State} {k : Nat} (h : spokeUp s k = true) : (s.spoke k).state = 6 := by
  simp only [spokeUp, Bool.and_eq_true, beq_iff_eq] at h
  exact h.1.2

/-- A message that takes effect on a spoke that is up. -/
theorem onParts_up {k kind sub n : Nat} {bs : List Beat} {f : List Nat → State → State} {s : State} {vs : List Nat}
    (hup : spokeUp (settleSwitch k s) k = true) (h : partsOf kind sub n (ctlBeats (settleSwitch k s) k bs) = some vs) :
    onParts k 6 kind sub n bs f s = f vs (partsTaken k bs (settleSwitch k s)) := by
  have hstate := spokeUp_state hup
  exact onParts_complete (by omega) (by omega) h

/-- A message that is incomplete, or whose effect needs a spoke that is up, changes nothing more on a spoke that is not. -/
theorem onParts_nothing {k kind sub n : Nat} {bs : List Beat} {f : List Nat → State → State} {s : State}
    (hlink : 2 ≤ ((settleSwitch k s).spoke k).state) (hf : ∀ vs t, spokeUp t k = false → f vs t = t)
    (h : partsOf kind sub n (ctlBeats (settleSwitch k s) k bs) = none ∨ spokeUp (settleSwitch k s) k = false) :
    onParts k 6 kind sub n bs f s = partsTaken k bs (settleSwitch k s) := by
  rcases h with hnone | hdown
  · exact onParts_incomplete hlink hnone
  cases hparts : partsOf kind sub n (ctlBeats (settleSwitch k s) k bs) with
  | none => exact onParts_incomplete hlink hparts
  | some vs =>
    rcases Nat.lt_or_ge ((settleSwitch k s).spoke k).state 6 with hearly | hlow
    · exact onParts_early hlink hearly
    · refine (onParts_complete hlink hlow hparts).trans (hf vs _ ?_)
      rw [(partsTaken_heard k bs _).heard_spokeUp, hdown]

end Sys2Proof.Machine

namespace Sys2Proof.Machine

/-! TIME exchanges (R199 to R202, R543). -/

/-- A fold that keeps the lesser of two elements answers a least one of the list. -/
theorem foldl_least {α : Type} {f : Option α → α → Option α} {le : α → α → Prop} (hrefl : ∀ x, le x x)
    (htrans : ∀ x y z, le x y → le y z → le x z) (hnone : ∀ x, f none x = some x)
    (hsome : ∀ b x, (f (some b) x = some x ∧ le x b) ∨ (f (some b) x = some b ∧ le b x)) {l : List α} {m : α}
    (h : l.foldl f none = some m) : m ∈ l ∧ ∀ x ∈ l, le m x := by
  have from_some (l : List α) (b : α) (h : l.foldl f (some b) = some m) : m ∈ b :: l ∧ ∀ x ∈ b :: l, le m x := by
    induction l generalizing b with
    | nil =>
      cases h
      simpa using hrefl m
    | cons y r ih =>
      simp only [List.mem_cons, forall_eq_or_imp] at ih ⊢
      rw [List.foldl_cons] at h
      rcases hsome b y with ⟨hy, hle⟩ | ⟨hb, hle⟩
      · rw [hy] at h
        obtain ⟨hm, hmy, hr⟩ := ih y h
        exact ⟨.inr hm, htrans _ _ _ hmy hle, hmy, hr⟩
      · rw [hb] at h
        obtain ⟨hm, hmb, hr⟩ := ih b h
        exact ⟨hm.imp_right .inr, hmb, htrans _ _ _ hmb hle, hr⟩
  cases l with
  | nil => cases h
  | cons y r => exact from_some r y (by rwa [List.foldl_cons, hnone] at h)

/-- Spoke `k` is no worse an upstream than `j`: it has fewer hops, or as many and no higher port (R200). -/
def AsNear (s : State) (k j : Nat) : Prop :=
  (s.stime k).hops < (s.stime j).hops ∨ ((s.stime k).hops = (s.stime j).hops ∧ spokePort s k ≤ spokePort s j)

theorem chooseUpstream_nearest {s : State} {k : Nat} (h : chooseUpstream s = some k) :
    (k ∈ upSpokes s ∧ (s.stime k).locked = true) ∧ ∀ j, j ∈ upSpokes s ∧ (s.stime j).locked = true → AsNear s k j := by
  have hleast := foldl_least (le := AsNear s) (fun x => .inr ⟨rfl, le_rfl⟩) (fun x y z => ?trans) (fun x => rfl) (fun b x => ?step) h
  case trans => simp only [AsNear]; omega
  case step =>
    dsimp only
    split
    next hnear => exact .inl ⟨rfl, by simp only [AsNear]; omega⟩
    next hfar => exact .inr ⟨rfl, by simp only [AsNear]; omega⟩
  simpa only [List.mem_filter] using hleast

theorem deviceRecord_ft (cause cls x y : Nat) (s : State) : (deviceRecord cause cls x y s).ft = s.ft :=
  (congrArg State.ft (deviceRecord_reported (.refl s)).rest :)

theorem yieldMastership_master (m : Nat) (s : State) : (yieldMastership m s).ft.master = false :=
  congrArg FabTime.master (deviceRecord_ft ..)

section
variable {k seq : Nat} {s : State}

theorem answerTime_up (h : spokeUp s k = true) : answerTime k seq s =
    let m := if s.ft.master then s.dev else s.ft.masterDev
    let h := if s.ft.master then 0 else s.ft.hops
    sendParts k 6 2 (timeRespValues s.ft.count 0 seq m h (timeLocked s))
      (emit (.timeResp k s.ft.count 0 seq m h (timeLocked s)) s) := if_pos h

theorem answerTime_down (h : spokeUp s k = false) : answerTime k seq s = s := if_neg (Bool.eq_false_iff.mp h)

variable {t2 t3 master hops : Nat} {locked : Bool}

theorem timeResp_invalid (h : spokeUp s k = false ∨ ∀ t1, (s.stime k).t1 = some t1 →
      seq ≠ (s.stime k).seq ∨ (s.spoke k).exchangeSpoiled = true ∨ t1 + 10 * us < s.ft.count) :
    timeResp k t2 t3 seq master hops locked s = s := by
  simp only [timeResp]
  split
  · rfl
  next t1 ht1 =>
    refine if_pos ?_
    simp only [Bool.or_eq_true, Bool.not_eq_true', bne_iff_ne, decide_eq_true_eq, or_assoc]
    exact h.imp_right (· t1 ht1)

/-- The path delay that an exchange measures (R199). -/
def exchangeDelay (t1 t3 t4 : Nat) : Int := (((t4 : Int) - t1) - t3) / 2

/-- The offset that an exchange measures (R199). -/
def exchangeOffset (t1 t2 t3 t4 : Nat) : Int := (((t2 : Int) - t1) - ((t4 : Int) - ((t2 : Int) + t3))) / 2

/-- The state in which the spoke holds what a valid exchange has shown of its responder. -/
def respNoted (k master hops : Nat) (locked : Bool) (d : Int) (s : State) : State :=
  modStime k (fun x => { x with t1 := none, locked := locked, hops := hops, master := master, masterAt := s.now })
    (modSpoke k (fun x => { x with pathDelay := min (2 ^ 32 - 1) (d.toNat / 16) }) s)

/-- The count is steered by an exchange with the chosen upstream (R200, R201). -/
def steered (k : Nat) (locked : Bool) (o : Int) (s : State) : State :=
  let w := setUpstream (if locked then { s with ft.lastValid := s.now } else s)
  if w.ft.upstream = some k then disciplined o w else w

section
variable {t1 t4 : Nat} (ht1 : (s.stime k).t1 = some t1) (hup : spokeUp s k = true) (hseq : seq = (s.stime k).seq)
  (hclean : (s.spoke k).exchangeSpoiled = false) (ht4 : s.ft.count = t4) (hsoon : t4 ≤ t1 + 10 * us)
include ht1 hup hseq hclean ht4 hsoon

theorem timeResp_valid : timeResp k t2 t3 seq master hops locked s =
    let s1 := respNoted k master hops locked (exchangeDelay t1 t3 t4) s
    let s2 := if s1.ft.master && decide (master < s1.dev) then yieldMastership master s1 else s1
    if s2.ft.master then s2 else steered k locked (exchangeOffset t1 t2 t3 t4) s2 := by
  subst ht4
  simp only [timeResp, ht1]
  refine if_neg ?_
  simp [hup, hseq, hclean, hsoon]

theorem timeResp_master (hmaster : s.ft.master = true) (hlow : s.dev ≤ master) :
    timeResp k t2 t3 seq master hops locked s = respNoted k master hops locked (exchangeDelay t1 t3 t4) s := by
  refine (timeResp_valid ht1 hup hseq hclean ht4 hsoon).trans ?_
  extract_lets s1 s2
  have hstays : s2 = s1 := if_neg (by
    rw [Bool.and_eq_true, decide_eq_true_eq]
    exact fun h => Nat.not_lt.mpr hlow h.2)
  rw [hstays]
  exact if_pos hmaster

theorem timeResp_yields (hmaster : s.ft.master = true) (hlow : master < s.dev) :
    timeResp k t2 t3 seq master hops locked s = steered k locked (exchangeOffset t1 t2 t3 t4)
      (yieldMastership master (respNoted k master hops locked (exchangeDelay t1 t3 t4) s)) := by
  refine (timeResp_valid ht1 hup hseq hclean ht4 hsoon).trans ?_
  extract_lets s1 s2
  have hyields : s2 = yieldMastership master s1 := if_pos (by
    rw [Bool.and_eq_true, decide_eq_true_eq]
    exact ⟨hmaster, hlow⟩)
  rw [hyields]
  exact if_neg (Bool.eq_false_iff.mp (yieldMastership_master master s1))

theorem timeResp_follows (hmaster : s.ft.master = false) :
    timeResp k t2 t3 seq master hops locked s = steered k locked (exchangeOffset t1 t2 t3 t4)
      (respNoted k master hops locked (exchangeDelay t1 t3 t4) s) := by
  refine (timeResp_valid ht1 hup hseq hclean ht4 hsoon).trans ?_
  extract_lets s1 s2
  have hstays : s2 = s1 := if_neg (by
    rw [Bool.and_eq_true]
    exact fun h => Bool.eq_false_iff.mp hmaster h.1)
  rw [hstays]
  exact if_neg (Bool.eq_false_iff.mp hmaster)

end
end
end Sys2Proof.Machine

namespace Sys2Proof.Machine

/-! The count follows the measured offset, and the device locks (R201, R202). -/

/-- Fabric time after an offset, before a lock that no longer holds is given up. -/
def corrected (o : Int) (f : FabTime) : FabTime :=
  let good := if |o| ≤ 2 * (ns : Int) then f.good + 1 else 0
  { adjust o f with good := good, locked := f.locked || decide (8 ≤ good) }

/-- Fabric time when lock is lost. -/
def unlocked (f : FabTime) : FabTime := { f with locked := false, good := 0, ppm := 0 }

theorem loseTimeLock_ft (s : State) : (loseTimeLock s).ft = unlocked s.ft := by
  unfold loseTimeLock
  extract_lets s1
  split
  · exact deviceRecord_ft ..
  · rfl

section
variable {o : Int} {s : State} {f : FabTime}

theorem disciplined_ft : (disciplined o s).ft = if (corrected o s.ft).locked && decide (50 * (ns : Int) < |o|) then
    unlocked (corrected o s.ft) else corrected o s.ft := by
  unfold disciplined
  extract_lets good _ s1
  split
  next hlost => exact (loseTimeLock_ft s1).trans (if_pos hlost).symm
  next hkept => exact (if_neg hkept).symm

/-- The count and the hold after an offset do not depend on the lock. -/
theorem disciplined_count : (disciplined o s).ft.count = (adjust o s.ft).count ∧ (disciplined o s).ft.holdBack = (adjust o s.ft).holdBack := by
  rw [disciplined_ft]
  split
  · exact ⟨rfl, rfl⟩
  · exact ⟨rfl, rfl⟩

theorem disciplined_near (h : |o| ≤ 2 * (ns : Int)) : (disciplined o s).ft = corrected o s.ft := by
  refine disciplined_ft.trans (if_neg fun hlost => ?_)
  obtain ⟨-, hfar⟩ := Bool.and_eq_true_iff.mp hlost
  rw [decide_eq_true_eq, ns] at hfar
  rw [ns] at h
  omega

theorem corrected_locks (h : |o| ≤ 2 * (ns : Int)) (hseven : 7 ≤ f.good) : (corrected o f).locked = true := by
  simp only [corrected, if_pos h, Bool.or_eq_true, decide_eq_true_eq]
  omega

theorem disciplined_far (h : 50 * (ns : Int) < |o|) : (disciplined o s).ft.locked = false := by
  rw [disciplined_ft]
  split
  · rfl
  next hkept => simpa [h] using hkept

theorem adjust_forward (h : (us : Int) < o) : adjust o f = { f with count := f.count + o.toNat, ppm := 0, holdBack := 0 } := if_pos h

theorem adjust_backward (h : o < -(us : Int)) : adjust o f = { f with holdBack := (-o).toNat, ppm := 0 } := by
  have hback : ¬ (us : Int) < o := by simp only [us] at h ⊢; omega
  exact (if_neg hback).trans (if_pos (.inl h))

/-- An offset of up to 1 µs leaves the count, and the rate that removes it is at most 200 ppm. -/
theorem adjust_rate (h : |o| ≤ (us : Int)) :
    (adjust o f).count = f.count ∧ -200 ≤ (adjust o f).ppm ∧ (adjust o f).ppm ≤ 200 := by
  unfold adjust
  split
  next hforward => exact absurd (abs_le.mp h).2 (not_le.mpr hforward)
  · split
    · exact ⟨rfl, (by decide : (-200 : Int) ≤ 0), (by decide : (0 : Int) ≤ 200)⟩
    · exact ⟨rfl, le_max_left .., max_le (by decide) (min_le_left ..)⟩

theorem disciplined_rate (h : |o| ≤ (us : Int)) : -200 ≤ (disciplined o s).ft.ppm ∧ (disciplined o s).ft.ppm ≤ 200 := by
  obtain ⟨-, hlow, hhigh⟩ := adjust_rate (f := s.ft) h
  rw [disciplined_ft]
  split
  · exact ⟨(by decide : (-200 : Int) ≤ 0), (by decide : (0 : Int) ≤ 200)⟩
  · exact ⟨hlow, hhigh⟩

end
end Sys2Proof.Machine

namespace Sys2Proof.Machine

/-! PLUMB messages (R203, R204, R211). -/

section
variable {k n pfx : Nat} {s : State}

theorem ownPlumb_waits (h : ∀ p t, s.conf.prepared = some p → p.armed = some t → s.ft.count < t) :
    ownPlumb s = (s.conf.epoch, digestPfx s.conf.digest) := by
  unfold ownPlumb
  cases hp : s.conf.prepared with
  | none => rfl
  | some p =>
    cases ht : p.armed with
    | none => simp [Option.filter, ht]
    | some t => simp [Option.filter, ht, (h p t hp ht).not_ge]

theorem ownPlumb_due {p : Prepared} {t : Nat} (hp : s.conf.prepared = some p) (ht : p.armed = some t) (h : t ≤ s.ft.count) :
    ownPlumb s = (p.epoch, digestPfx p.digest) := by
  simp [ownPlumb, Option.filter, hp, ht, h]

/-- The state in which a PLUMB message has been noted. -/
def plumbNoted (k n pfx : Nat) (s : State) : State := modStime k (fun x => { x with plumbAt := s.now, peerEpoch := n, peerPrefix := pfx }) s

theorem plumbArrives_down (h : spokeUp s k = false) : plumbArrives k n pfx s = s := if_pos (by rw [h]; rfl)

section
variable (hup : spokeUp s k = true)
include hup

theorem plumbArrives_match (h : (n, pfx) = ownPlumb s) : plumbArrives k n pfx s =
    sawEpoch n (setPlumb k true (modStime k (fun x => { x with mismatches := 0 }) (plumbNoted k n pfx s))) :=
  (if_neg (by rw [hup]; decide)).trans (congrArg (sawEpoch n) (if_pos (beq_iff_eq.mpr h)))

theorem plumbArrives_mismatch (h : (n, pfx) ≠ ownPlumb s) : plumbArrives k n pfx s =
    let d := modStime k (fun x => { x with mismatches := (s.stime k).mismatches + 1 }) (plumbNoted k n pfx s)
    sawEpoch n (if 1 ≤ (s.stime k).mismatches then setPlumb k false d else d) := by
  refine (if_neg (by rw [hup]; decide)).trans (congrArg (sawEpoch n) ((if_neg (beq_iff_eq.not.mpr h)).trans ?_))
  have hcount : ((plumbNoted k n pfx s).stime k).mismatches = (s.stime k).mismatches := by simp [plumbNoted]
  dsimp only
  rw [← plumbNoted, hcount]
  exact if_congr (by omega) rfl rfl

end
end
end Sys2Proof.Machine

namespace Sys2Proof

open Machine


section
variable {s t : State} {dt : Time} {k : Nat}

/-- A command of the common shape whose operands exist gives its effect after the time has passed. -/
theorem Gives.of_run {c : Instr} {ok : Bool} {f : State → State} (hc : exec c s = run dt ok f s) (hok : ok = true)
    (h : f (advance dt s) = t) : Gives c s t := hc.trans (run_gives hok h)

theorem since_iff {u d : Time} : s.since u d = true ↔ u + d ≤ s.now := decide_eq_true_iff

/-- A TIME REQ is sent on a spoke (R199). -/
def timeReqTo (k : Nat) (s : State) : State :=
  let q := ((s.stime k).seq + 1) % 256
  sendParts k 6 1 (timeReqValues s.ft.count q) (emit (.timeReq k s.ft.count q)
    (modSpoke k (fun x => { x with exchangeSpoiled := false })
      (modStime k (fun x => { x with seq := q, t1 := some s.ft.count }) s)))

/-- A PLUMB message is sent on a spoke (R203). -/
def plumbTo (k : Nat) (s : State) : State :=
  sendParts k 8 0 (plumbValues s.conf.epoch (digestPfx s.conf.digest)) (emit (.plumb k s.conf.epoch (digestPfx s.conf.digest)) s)

theorem timeReqTimer_gives {l : List Nat} (h : upSpokes (advance dt s) = l) :
    Gives (.timeReqTimer dt) s (forAll l timeReqTo (advance dt s)) := by
  subst h
  exact run_gives rfl rfl

theorem plumbTimer_gives {l : List Nat} (h : upSpokes (advance dt s) = l) :
    Gives (.plumbTimer dt) s (forAll l plumbTo (advance dt s)) := by
  subst h
  exact run_gives rfl rfl

/-- What the timeout of the time lock does (R202). -/
def lockTimeout (s : State) : State := if !s.ft.master && s.ft.locked && s.since s.ft.lastValid ms then loseTimeLock s else s

/-- No exchange has been valid for 1 ms on a device that is locked to another. -/
def lockStale (s : State) : Prop := s.ft.master = false ∧ s.ft.locked = true ∧ s.ft.lastValid + ms ≤ s.now

theorem lockStale_iff : (!s.ft.master && s.ft.locked && s.since s.ft.lastValid ms) = true ↔ lockStale s := by
  simp only [lockStale, Bool.and_eq_true, Bool.not_eq_true', since_iff, and_assoc]

theorem timeLockLossTimeout_gives (h : lockTimeout (advance dt s) = t) : Gives (.timeLockLossTimeout dt) s t :=
  .of_run (f := lockTimeout) rfl rfl h

/-- What the timeout of a spoke's PLUMB messages does (R204). -/
def plumbWatch (k : Nat) (s : State) : State :=
  if spokeUp s k && s.since (max (s.spoke k).upAt (s.stime k).plumbAt) (30 * ms) then setPlumb k false s else s

/-- A PLUMB message is overdue on a spoke (R204). -/
def plumbLate (s : State) (k : Nat) : Prop := spokeUp s k = true ∧ max (s.spoke k).upAt (s.stime k).plumbAt + 30 * ms ≤ s.now

theorem plumbLate_iff : (spokeUp s k && s.since (max (s.spoke k).upAt (s.stime k).plumbAt) (30 * ms)) = true ↔ plumbLate s k := by
  rw [Bool.and_eq_true, since_iff, plumbLate]

theorem plumbTimeout_gives (hk : k < 40) (h : plumbWatch k (advance dt s) = t) : Gives (.plumbTimeout dt k) s t :=
  .of_run (f := plumbWatch k) rfl (decide_eq_true hk) h

/-! Messages (R199, R203). -/

section
variable {bs : List Beat} (hk : k < 40)
include hk

theorem timeReqReceived_gives
    (h : onParts k 6 6 1 3 bs (fun vs => answerTime k (bits (vs.getD 2 0) 31 24)) (advance dt s) = t) :
    Gives (.timeReqReceived dt k bs) s t := run_gives (decide_eq_true hk) h

/-- What a complete TIME RESP does (Table 6.10). -/
def respArrives (k : Nat) (vs : List Nat) : State → State :=
  let v := vs.getD 3 0
  timeResp k (vs.getD 0 0 * 2 ^ 32 + vs.getD 1 0) (vs.getD 2 0) (bits v 31 24) (bits v 23 18) (bits v 17 12) (bit v 11)

theorem timeRespReceived_gives (h : onParts k 6 6 2 4 bs (respArrives k) (advance dt s) = t) :
    Gives (.timeRespReceived dt k bs) s t := run_gives (decide_eq_true hk) h

theorem plumbReceived_gives
    (h : onParts k 6 8 0 3 bs (fun vs => plumbArrives k (vs.getD 0 0) (vs.getD 1 0 * 2 ^ 32 + vs.getD 2 0)) (advance dt s) = t) :
    Gives (.plumbReceived dt k bs) s t := run_gives (decide_eq_true hk) h

end
end

/-- Settles O54: each timer and each message has its equation; the chosen upstream is a least one of a fold, and the rest is arithmetic of
the correction. -/
theorem timeAndPlumb : Obligations.TimeAndPlumb := by
  refine ⟨?timers, ?messages, ?upstream, ?steering⟩
  case timers =>
    intro s dt k a x q valid
    exact ⟨fun hnone => ⟨timeReqTimer_gives hnone, plumbTimer_gives hnone⟩,
      fun hone => ⟨timeReqTimer_gives hone, plumbTimer_gives hone⟩,
      fun h => timeLockLossTimeout_gives (if_pos (lockStale_iff.mpr h)), fun h => timeLockLossTimeout_gives (if_neg (lockStale_iff.not.mpr h)),
      fun hk => ⟨fun h => plumbTimeout_gives hk (if_pos (plumbLate_iff.mpr h)), fun h => plumbTimeout_gives hk (if_neg (plumbLate_iff.not.mpr h))⟩⟩
  case messages =>
    intro s dt k bs e x cs b hk
    have hheard : OnLine deaf e b := partsTaken_heard k bs e
    have hstime : b.stime k = x := hheard.stime k
    refine ⟨fun hlink => ?noLink, fun hlink => ?incomplete, fun hup => ?_⟩
    case noLink =>
      exact ⟨timeReqReceived_gives hk (onParts_noLink hlink), timeRespReceived_gives hk (onParts_noLink hlink),
        plumbReceived_gives hk (onParts_noLink hlink)⟩
    case incomplete =>
      exact ⟨fun h => timeReqReceived_gives hk (onParts_nothing hlink (fun _ _ => answerTime_down) h),
        fun h => timeRespReceived_gives hk (onParts_nothing hlink (fun _ _ hdown => timeResp_invalid (.inl hdown)) h),
        fun h => plumbReceived_gives hk (onParts_nothing hlink (fun _ _ => plumbArrives_down) h)⟩
    have hupb : spokeUp b k = true := (hheard.heard_spokeUp k).trans hup
    refine ⟨?request, ?response, ?plumb⟩
    case request =>
      intro vs hvs
      exact timeReqReceived_gives hk ((onParts_up hup hvs).trans (answerTime_up hupb))
    case response =>
      intro vs hvs v t2 t3 m
      have resp_gives {u : State} (h : respArrives k vs b = u) : Gives (.timeRespReceived dt k bs) s u :=
        timeRespReceived_gives hk ((onParts_up hup hvs).trans h)
      have hspoiled : (b.spoke k).exchangeSpoiled = (e.spoke k).exchangeSpoiled := hheard.heard_exchangeSpoiled k
      have hcount : b.ft.count = e.ft.count := congrArg FabTime.count hheard.ft
      have hmaster : b.ft.master = e.ft.master := congrArg FabTime.master hheard.ft
      refine ⟨fun t1 ht1 hseq hclean hsoon => ?valid, fun h => resp_gives (timeResp_invalid (.inr ?invalid))⟩
      case valid =>
        have ht1b : (b.stime k).t1 = some t1 := hstime ▸ ht1
        have hseqb : bits v 31 24 = (b.stime k).seq := hstime ▸ hseq
        have hcleanb := hspoiled.trans hclean
        exact ⟨fun hm hlow => resp_gives (timeResp_master ht1b hupb hseqb hcleanb hcount hsoon (hmaster.trans hm) (hheard.dev ▸ hlow)),
          fun hm hlow => resp_gives (timeResp_yields ht1b hupb hseqb hcleanb hcount hsoon (hmaster.trans hm) (hheard.dev ▸ hlow)),
          fun hm => resp_gives (timeResp_follows ht1b hupb hseqb hcleanb hcount hsoon (hmaster.trans hm))⟩
      case invalid =>
        rw [hstime, hspoiled, hcount]
        exact h
    case plumb =>
      intro vs hvs n pfx c
      have plumb_gives {u : State} (h : plumbArrives k n pfx b = u) : Gives (.plumbReceived dt k bs) s u :=
        plumbReceived_gives hk ((onParts_up hup hvs).trans h)
      refine ⟨ownPlumb_waits, fun p t => ownPlumb_due, fun h => plumb_gives (plumbArrives_match hupb h), fun h => ?mismatch⟩
      have hmiss := plumbArrives_mismatch hupb h
      rw [hstime] at hmiss
      exact ⟨fun hfirst => plumb_gives (hmiss.trans (congrArg (sawEpoch n) (if_neg (by omega)))),
        fun hagain => plumb_gives (hmiss.trans (congrArg (sawEpoch n) (if_pos hagain)))⟩
  case upstream =>
    intro s k h
    obtain ⟨⟨hup, hlocked⟩, hnear⟩ := chooseUpstream_nearest h
    exact ⟨hup, hlocked, fun j hj hl => hnear j ⟨hj, hl⟩⟩
  case steering =>
    intro s o t
    refine ⟨fun h => ?small, fun h => ?forward, fun h => ?backward, fun h => ?near, disciplined_far⟩
    case small =>
      obtain ⟨hlow, hhigh⟩ := disciplined_rate (s := s) h
      exact ⟨hlow, hhigh, disciplined_count.1.trans (adjust_rate h).1⟩
    case forward => exact disciplined_count.1.trans (congrArg FabTime.count (adjust_forward h))
    case backward =>
      obtain ⟨hcount, hhold⟩ := disciplined_count (o := o) (s := s)
      rw [adjust_backward h] at hcount hhold
      exact ⟨hcount, hhold⟩
    case near =>
      have hft : t.ft = corrected o s.ft := disciplined_near h
      rw [hft]
      have hgood : (corrected o s.ft).good = s.ft.good + 1 := if_pos h
      exact ⟨hgood, corrected_locks h⟩

end Sys2Proof

namespace Sys2Proof.Machine

/-! What the sender of cells does next (R182, R183, R185, R188). -/

section
variable {k n : Nat} {s : State}

/-- Where the sender of a spoke can send. -/
def canSend (k n : Nat) (s : State) : Prop :=
  let x := limitsNow s (s.spoke k)
  x.state = 6 ∧ s.errs.c4 = false ∧ n ≠ 0 ∧ x.rx.switch = none

theorem sendCellOn_stays (h : (limitsNow s (s.spoke k)).state ≠ 6 ∨ s.errs.c4 = true ∨ n = 0 ∨
    (limitsNow s (s.spoke k)).rx.switch.isSome = true) : sendCellOn k n s = s := if_pos h

section
variable (hsend : canSend k n s)
include hsend

theorem canSend_not : ¬ ((limitsNow s (s.spoke k)).state ≠ 6 ∨ s.errs.c4 = true ∨ n = 0 ∨
    (limitsNow s (s.spoke k)).rx.switch.isSome = true) := by
  obtain ⟨hstate, hc4, hn, hswitch⟩ := hsend
  simp [hstate, hc4, hn, hswitch]

theorem sendCellOn_pre {g : Going} (h : (limitsNow s (s.spoke k)).tx.pre = some g) : sendCellOn k n s = sendPre k n g s := by
  simp only [sendCellOn, if_neg (canSend_not hsend), h]

section
variable (hpre : (limitsNow s (s.spoke k)).tx.pre = none)
include hpre

theorem sendCellOn_cur {g : Going} (hcur : (limitsNow s (s.spoke k)).tx.cur = some g) (h : preemptor s k g = none) :
    sendCellOn k n s = sendCur k n g s := by
  simp only [sendCellOn, if_neg (canSend_not hsend), hpre, hcur, h]

theorem sendCellOn_preempts {g : Going} {i : Nat} {b : Cell} (hcur : (limitsNow s (s.spoke k)).tx.cur = some g)
    (h : preemptor s k g = some (i, b)) :
    sendCellOn k n s = sendPre k n ⟨b, 0, false⟩ (sendBeat k 2 b.hdr.svc 0 (takeUnsent k i s)) := by
  simp only [sendCellOn, if_neg (canSend_not hsend), hpre, hcur, h]

variable (hcur : (limitsNow s (s.spoke k)).tx.cur = none)
include hcur

theorem sendCellOn_resends {c : Cell} {r : List Cell} (h : (limitsNow s (s.spoke k)).tx.resend = c :: r) :
    sendCellOn k n s = sendCur k n ⟨c, 0, true⟩ (modSpoke k (fun x => { x with tx := { x.tx with resend := r } }) s) := by
  simp only [sendCellOn, if_neg (canSend_not hsend), hpre, hcur, h]

variable (hresend : (limitsNow s (s.spoke k)).tx.resend = [])
include hresend

theorem sendCellOn_full (h : replayRoom (limitsNow s (s.spoke k)) = false) : sendCellOn k n s = s := by
  simp only [sendCellOn, if_neg (canSend_not hsend), hpre, hcur, hresend, h, Bool.not_false, if_true]

variable (hroom : replayRoom (limitsNow s (s.spoke k)) = true)
include hroom

theorem sendCellOn_starts {i : Nat} {c : Cell}
    (h : pickCell (limitsNow s (s.spoke k)) (fun _ => true) [] (limitsNow s (s.spoke k)).tx.unsent 0 = some (i, c)) :
    sendCellOn k n s = sendCur k n ⟨c, 0, false⟩ (takeUnsent k i s) := by
  simp only [sendCellOn, if_neg (canSend_not hsend), hpre, hcur, hresend, hroom, Bool.not_true, Bool.false_eq_true, if_false, h]

variable (hpick : pickCell (limitsNow s (s.spoke k)) (fun _ => true) [] (limitsNow s (s.spoke k)).tx.unsent 0 = none)
include hpick

theorem sendCellOn_nothing (h : (limitsNow s (s.spoke k)).tx.unsent = []) : sendCellOn k n s = s := by
  rw [h] at hpick
  simp only [sendCellOn, if_neg (canSend_not hsend), hpre, hcur, hresend, hroom, Bool.not_true, Bool.false_eq_true, if_false, h, hpick]

theorem sendCellOn_stalls {c : Cell} {r : List Cell} (h : (limitsNow s (s.spoke k)).tx.unsent = c :: r) :
    sendCellOn k n s = count1 (cSpoke k (ckStall + cellPool c.hdr.type)) s := by
  rw [h] at hpick
  simp only [sendCellOn, if_neg (canSend_not hsend), hpre, hcur, hresend, hroom, Bool.not_true, Bool.false_eq_true, if_false, h, hpick]

end
end
end
end Sys2Proof.Machine

namespace Sys2Proof.Machine

/-! A new cell starts (R172, R185, R186). -/

theorem length_beNat (n v : Nat) : (beNat n v).length = n := by rw [beNat, List.length_map, List.length_range]

theorem length_cellBytes (c : Cell) : (cellBytes c).length = 16 + c.data.length := by
  simp only [cellBytes, crcBytes, List.length_append, length_beNat, List.length_map]
  omega

/-- The width of a spoke's beats. -/
def beatWidth (x : Spoke) : Nat := max 1 (laneCount x)

/-- A new cell as it starts, with its link sequence and the acknowledgement of this moment. -/
def sealedNew (x : Spoke) (c : Cell) : Cell :=
  { c with lseq := x.tx.nextSeq, ackSeq := (x.rx.expSeq + 2047) % 2048, ackV := x.rx.accepted }

/-- The state in which the first beats of a cell have gone out. -/
def beatsGone (k n : Nat) (c : Cell) (s : State) : State :=
  let piece := (cellBytes c).take (n * beatWidth (s.spoke k))
  countBy (cSpoke k ckBeatsTx) (ceilDiv piece.length (beatWidth (s.spoke k))) (sendRows k (dataBeats (beatWidth (s.spoke k)) piece) s)

section
variable {k n l : Nat} {c : Cell} {s : State} {again : Bool}

theorem beatsGone_spoken (k n : Nat) (c : Cell) (s : State) : OnLine mute s (beatsGone k n c s) := (sendRows_spoken (.refl s)).countBy

theorem beatsGone_spoke_ne (h : l ≠ k) : (beatsGone k n c s).spoke l = s.spoke l := sendRows_spoke_ne h

/-! What a cell that has been sent to its end changes. -/

theorem cellSent_out : (cellSent k c again s).out = s.out ++ [.cell k c] := rfl

theorem cellSent_spoke_ne (h : l ≠ k) : (cellSent k c again s).spoke l = s.spoke l := modSpoke_spoke_ne s _ h

theorem cellSent_unsent : ((cellSent k c false s).spoke k).tx.unsent = (s.spoke k).tx.unsent :=
  congrArg (·.tx.unsent) (modSpoke_spoke_same s k _)

theorem cellSent_replay (h : loopLink s k = false) : ((cellSent k c false s).spoke k).tx.replay = (s.spoke k).tx.replay ++ [c] :=
  (congrArg (·.tx.replay) (modSpoke_spoke_same s k _)).trans (if_neg (Bool.eq_false_iff.mp h))

theorem cellSent_nextSeq : ((cellSent k c false s).spoke k).tx.nextSeq = ((s.spoke k).tx.nextSeq + 1) % 2048 :=
  congrArg (·.tx.nextSeq) (modSpoke_spoke_same s k _)

theorem cellSent_owedAck : ((cellSent k c again s).spoke k).rx.owedAck = none := congrArg (·.rx.owedAck) (modSpoke_spoke_same s k _)

theorem cellSent_sent : ((cellSent k c false s).spoke k).tx.sent =
    tset 0 (s.spoke k).tx.sent (poolKey c) ((tget 0 (s.spoke k).tx.sent (poolKey c) + 1) % 65536) :=
  congrArg (·.tx.sent) (modSpoke_spoke_same s k _)

/-- The piece of a new cell that goes out first. -/
def firstPiece (n : Nat) (c : Cell) (x : Spoke) : List Nat := (cellBytes (sealedNew x c)).take (n * beatWidth x)

theorem sendPiece_new : sendPiece k n ⟨c, 0, false⟩ s =
    if 16 + c.hdr.len ≤ (firstPiece n c (s.spoke k)).length then
      (none, n - ceilDiv (firstPiece n c (s.spoke k)).length (beatWidth (s.spoke k)),
        cellSent k (sealedNew (s.spoke k) c) false (beatsGone k n (sealedNew (s.spoke k) c) s))
    else (some ⟨sealedNew (s.spoke k) c, (firstPiece n c (s.spoke k)).length, false⟩, 0, beatsGone k n (sealedNew (s.spoke k) c) s) := by
  simp only [sendPiece, Nat.zero_le, if_true, List.drop_zero, Nat.zero_add]
  rfl

section
variable (hlen : c.data.length = c.hdr.len)
include hlen

theorem length_firstPiece (x : Spoke) : (firstPiece n c x).length = min (n * beatWidth x) (16 + c.hdr.len) := by
  rw [firstPiece, List.length_take, length_cellBytes, ← hlen]
  rfl

/-- A new cell that fits into the beats is sent to its end. -/
theorem sendCur_whole (h : 16 + c.hdr.len ≤ n * beatWidth (s.spoke k)) : sendCur k n ⟨c, 0, false⟩ s =
    modSpoke k (fun x => { x with tx := { x.tx with cur := none } })
      (cellSent k (sealedNew (s.spoke k) c) false (beatsGone k n (sealedNew (s.spoke k) c) s)) := by
  rw [sendCur, sendPiece_new, length_firstPiece hlen, if_pos (le_min h le_rfl)]

/-- A new cell that does not fit into the beats goes on later. -/
theorem sendCur_part (h : n * beatWidth (s.spoke k) < 16 + c.hdr.len) : sendCur k n ⟨c, 0, false⟩ s =
    modSpoke k (fun x => { x with tx := { x.tx with cur := some ⟨sealedNew (s.spoke k) c, n * beatWidth (s.spoke k), false⟩ } })
      (beatsGone k n (sealedNew (s.spoke k) c) s) := by
  rw [sendCur, sendPiece_new, length_firstPiece hlen, min_eq_left h.le, if_neg (not_le.mpr h)]

theorem newCell_unsent : ((sendCur k n ⟨c, 0, false⟩ s).spoke k).tx.unsent = (s.spoke k).tx.unsent := by
  have hgone := beatsGone_spoken k n (sealedNew (s.spoke k) c) s
  rcases Nat.lt_or_ge (n * beatWidth (s.spoke k)) (16 + c.hdr.len) with h | h
  · simp only [sendCur_part hlen h, modSpoke_spoke_same, hgone.spoken_unsent]
  · simp only [sendCur_whole hlen h, modSpoke_spoke_same, cellSent_unsent, hgone.spoken_unsent]

theorem newCell_spoke_ne (hl : l ≠ k) : (sendCur k n ⟨c, 0, false⟩ s).spoke l = s.spoke l := by
  rcases Nat.lt_or_ge (n * beatWidth (s.spoke k)) (16 + c.hdr.len) with h | h
  · rw [sendCur_part hlen h, modSpoke_spoke_ne _ _ hl, beatsGone_spoke_ne hl]
  · rw [sendCur_whole hlen h, modSpoke_spoke_ne _ _ hl, cellSent_spoke_ne hl, beatsGone_spoke_ne hl]

/-- A new cell that is sent to its end takes its sequence and waits in the replay buffer. -/
theorem newCell_whole (h : 16 + c.hdr.len ≤ n * beatWidth (s.spoke k)) (hloop : loopLink s k = false) :
    let x := s.spoke k
    let t := sendCur k n ⟨c, 0, false⟩ s
    t.out.getLast? = some (.cell k (sealedNew x c)) ∧ (t.spoke k).tx.replay = x.tx.replay ++ [sealedNew x c] ∧
      (t.spoke k).tx.cur = none ∧ (t.spoke k).tx.nextSeq = (x.tx.nextSeq + 1) % 2048 ∧ (t.spoke k).rx.owedAck = none ∧
      tget 0 (t.spoke k).tx.sent (poolKey c) = (tget 0 x.tx.sent (poolKey c) + 1) % 65536 ∧
      ∀ key, key ≠ poolKey c → tget 0 (t.spoke k).tx.sent key = tget 0 x.tx.sent key := by
  have hgone := beatsGone_spoken k n (sealedNew (s.spoke k) c) s
  have hpool : poolKey (sealedNew (s.spoke k) c) = poolKey c := rfl
  simp only [sendCur_whole hlen h, modSpoke_spoke_same, modSpoke_out, cellSent_out, List.getLast?_concat,
    cellSent_replay ((hgone.spoken_loopLink k).trans hloop), cellSent_nextSeq, cellSent_owedAck, cellSent_sent, hpool,
    hgone.spoken_replay, hgone.spoken_nextSeq, hgone.spoken_sent, tget_tset, true_and]
  exact fun key hkey => tget_tset_ne _ _ _ hkey

/-- A new cell that has not been sent to its end holds no place in the replay buffer yet. -/
theorem newCell_part (h : n * beatWidth (s.spoke k) < 16 + c.hdr.len) :
    let x := s.spoke k
    let t := sendCur k n ⟨c, 0, false⟩ s
    (t.spoke k).tx.cur = some ⟨sealedNew x c, n * beatWidth x, false⟩ ∧ (t.spoke k).tx.replay = x.tx.replay ∧
      (t.spoke k).tx.nextSeq = x.tx.nextSeq := by
  have hgone := beatsGone_spoken k n (sealedNew (s.spoke k) c) s
  simp only [sendCur_part hlen h, modSpoke_spoke_same, hgone.spoken_replay, hgone.spoken_nextSeq, and_self]

end
end

theorem takeUnsent_spoke (k i : Nat) (s : State) : (takeUnsent k i s).spoke k =
    { s.spoke k with tx := { (s.spoke k).tx with unsent := (s.spoke k).tx.unsent.eraseIdx i } } := modSpoke_spoke_same ..

theorem takeUnsent_loopLink (k i : Nat) (s : State) : loopLink (takeUnsent k i s) k = loopLink s k := by
  simp only [loopLink, takeUnsent_spoke]
  rfl

end Sys2Proof.Machine

namespace Sys2Proof.Machine

/-! A cell that has been received (R173, R186, R187, R190, R191). -/

section
variable {k bad : Nat} {c : Cell} {crcOk : Bool} {s : State}

/-- A spoke whose expected cell has come (R186). -/
def expectedCame (now : Time) (x : Spoke) : Spoke :=
  { x with rx := { x.rx with
    expSeq := (x.rx.expSeq + 1) % 2048, accepted := true, fails := [], attempts := 0, retired := false, lastRetry := none
    lastError := if x.rx.attempts = 0 then x.rx.lastError else now
    owedAck := if x.rx.owedAck.isSome then x.rx.owedAck else some now } }

theorem takeCell_first (h : c.hdr.pos = 1) : takeCell k c s =
    modSpoke k (fun x => { x with rx := { x.rx with cells := (s.spoke k).rx.cells ++ [c] } }) s := if_neg (by rw [h]; decide)

section
variable (hup : (s.spoke k).state = 6)
include hup

theorem receiveCell_loop (h : loopLink s k = true) : receiveCell k c crcOk bad s = loopCell k c crcOk bad s :=
  (if_neg (not_not.mpr hup)).trans (if_pos h)

variable (hloop : loopLink s k = false)
include hloop

theorem receiveCell_failing (h : cellFails c crcOk bad = true) : receiveCell k c crcOk bad s =
    if (s.spoke k).rx.lastRetry.isSome && !failsAgain s k c bad then s else failedReception k (bad % 256) s :=
  (if_neg (not_not.mpr hup)).trans ((if_neg (Bool.eq_false_iff.mp hloop)).trans (if_pos h))

variable (hgood : cellFails c crcOk bad = false)
include hgood

theorem receiveCell_outOfTurn (h : c.lseq ≠ (s.spoke k).rx.expSeq) : receiveCell k c crcOk bad s =
    if (s.spoke k).rx.lastRetry.isSome || decide (modDist 2048 (s.spoke k).rx.expSeq c.lseq ≤ 1024) then s else failedReception k 0 s :=
  (if_neg (not_not.mpr hup)).trans ((if_neg (Bool.eq_false_iff.mp hloop)).trans
    ((if_neg (Bool.eq_false_iff.mp hgood)).trans (if_pos (bne_iff_ne.mpr h))))

theorem receiveCell_expected (h : c.lseq = (s.spoke k).rx.expSeq) (hfirst : (s.spoke k).rx.attempts = 0) (hack : c.ackV = false) :
    receiveCell k c crcOk bad s = takeCell k c (count1 (cSpoke k ckCellsRx) (modSpoke k (expectedCame s.now) s)) := by
  refine (if_neg (not_not.mpr hup)).trans ((if_neg (Bool.eq_false_iff.mp hloop)).trans
    ((if_neg (Bool.eq_false_iff.mp hgood)).trans ((if_neg (by simp [h])).trans ?_)))
  simp only [hfirst, hack, Nat.lt_irrefl, decide_false, Bool.false_and, Bool.false_eq_true, if_false]
  rfl

end

/-- The first cell of a frame that comes in its turn is kept, and its acknowledgement is owed. -/
theorem expectedCell_kept (hpos : c.hdr.pos = 1) : let x := s.spoke k
    let t := takeCell k c (count1 (cSpoke k ckCellsRx) (modSpoke k (expectedCame s.now) s))
    (t.spoke k).rx.expSeq = (x.rx.expSeq + 1) % 2048 ∧ (t.spoke k).rx.accepted = true ∧ (t.spoke k).rx.cells = x.rx.cells ++ [c] ∧
      (t.spoke k).rx.owedAck.isSome = true ∧ (t.spoke k).tx = x.tx ∧ t.hub = s.hub ∧ t.out = s.out := by
  have howed : (if (s.spoke k).rx.owedAck.isSome then (s.spoke k).rx.owedAck else some s.now).isSome = true := by
    split
    next h => exact h
    · rfl
  simp only [takeCell_first hpos, modSpoke_spoke_same, count1_spoke, expectedCame, howed, modSpoke_hub, modSpoke_out, count1_hub,
    count1_out, and_self]

/-! Failed receptions. -/

/-- The state in which a failed reception has been noted and RETRY_REQ sent. -/
def retryAsked (k lanes : Nat) (s : State) : State :=
  sendRetry k (modSpoke k (fun x => { x with
    rx := { x.rx with fails := x.rx.fails ++ [lanes], attempts := x.rx.attempts + 1, held := none, part := {}, failedAt := s.now } }) s)

theorem sendRetry_fails (k : Nat) (s : State) : ((sendRetry k s).spoke k).rx.fails = (s.spoke k).rx.fails := by
  rw [sendRetry, (sendBeat_spoken (.refl _)).spoken_rx]
  simp only [count1_spoke, modSpoke_spoke_same]

theorem sendRetry_active (k : Nat) (s : State) : ((sendRetry k s).spoke k).active = (s.spoke k).active := by
  rw [sendRetry, (sendBeat_spoken (.refl _)).spoken_active]
  simp only [count1_spoke, modSpoke_spoke_same]

section
variable {lanes : Nat}

theorem retryAsked_fails : ((retryAsked k lanes s).spoke k).rx.fails = (s.spoke k).rx.fails ++ [lanes] := by
  rw [retryAsked, sendRetry_fails, modSpoke_spoke_same]

theorem retryAsked_laneCount : laneCount ((retryAsked k lanes s).spoke k) = laneCount (s.spoke k) := by
  rw [laneCount, retryAsked, sendRetry_active, modSpoke_spoke_same, laneCount]

theorem failedReception_few (h : (s.spoke k).rx.fails.length < 4) : failedReception k lanes s = retryAsked k lanes s := by
  rw [failedReception, ← retryAsked]
  rw [retryAsked_fails, List.length_append, List.length_singleton, if_pos (by omega)]

section
variable (h : 4 ≤ (s.spoke k).rx.fails.length)
include h

theorem failedReception_retires {l : Nat} (hwide : laneCount (s.spoke k) = 8)
    (hl : culprit ((s.spoke k).rx.fails ++ [lanes]) = some l) :
    failedReception k lanes s = retireLane k l (sendRetire k l 0 (retryAsked k lanes s)) := by
  rw [failedReception, ← retryAsked]
  rw [retryAsked_fails, retryAsked_laneCount, hl, List.length_append, List.length_singleton, if_neg (by omega), if_pos hwide]

theorem failedReception_down (hnone : laneCount (s.spoke k) ≠ 8 ∨ culprit ((s.spoke k).rx.fails ++ [lanes]) = none) :
    failedReception k lanes s = spokeDown k 1 (retryAsked k lanes s) := by
  rw [failedReception, ← retryAsked]
  rw [retryAsked_fails, retryAsked_laneCount, List.length_append, List.length_singleton, if_neg (by omega)]
  by_cases hwide : laneCount (s.spoke k) = 8
  · rw [if_pos hwide, hnone.resolve_left (not_not.mpr hwide)]
  · exact if_neg hwide

end
end
end
end Sys2Proof.Machine

namespace Sys2Proof.Machine

/-! The beats of a cell (R166, R170, R172, R184). -/

section
variable {k : Nat} {bs : List Beat} {v : Beat} {body : CellBody} {s : State}

theorem takeBeat_noLink (h : (s.spoke k).state ≠ 6) : takeBeat k s v = s := if_pos h

section
variable (hup : (s.spoke k).state = 6)
include hup

theorem takeBeat_control (h : leadsK (seenBeats s k [v]).syms = true) : takeBeat k s v = takeBetween k v s :=
  (if_neg (not_not.mpr hup)).trans (if_pos h)

theorem takeBeat_data (h : leadsK (seenBeats s k [v]).syms = false) : takeBeat k s v = takeData k v s :=
  (if_neg (not_not.mpr hup)).trans (if_neg (Bool.eq_false_iff.mp h))

end

theorem settleSwitch_none (h : (s.spoke k).rx.switch = none) : settleSwitch k s = s := by
  unfold settleSwitch
  rw [h]

/-- A data beat changes the receiver of its spoke only, where its bytes join the cell. -/
theorem takeData_adds (h : (s.spoke k).rx.switch = none) : let x := s.spoke k; let y := seenBeats s k [v]; let t := takeData k v s
    (t.spoke k).rx.part.bytes = x.rx.part.bytes ++ y.syms.map octetOf ∧
      (t.spoke k).rx.part.bad = x.rx.part.bad ||| ((y.code ||| y.disp ||| dataWrong (activeLanes x) y.syms) % 256) ∧
      (t.spoke k).tx = x.tx ∧ (t.spoke k).rx.cells = x.rx.cells ∧ t.hub = s.hub ∧ t.out = s.out := by
  intro x y t
  have hheard (more : Nat) (y : Seen) : OnLine deaf s (tookBeats k more y s) := tookBeats_heard (.refl s)
  have hpart (more : Nat) (y : Seen) : ((tookBeats k more y s).spoke k).rx.part = x.rx.part := congrArg (·.rx.part) ((hheard more y).spoke k)
  have hcells (more : Nat) (y : Seen) : ((tookBeats k more y s).spoke k).rx.cells = x.rx.cells :=
    congrArg (·.rx.cells) ((hheard more y).spoke k)
  simp only [t, y, takeData, settleSwitch_none h, modSpoke_spoke_same, count1_spoke, modSpoke_hub, modSpoke_out, count1_hub, count1_out,
    hpart, hcells, (hheard _ _).heard_tx, (hheard _ _).hub, tookBeats_out, x, and_self]

/-- The state in which the bytes received have been handed over as a cell. -/
def partHandedOver (k : Nat) (s : State) : State := modSpoke k (fun x => { x with rx := { x.rx with part := {} } }) s

theorem partHandedOver_state : ((partHandedOver k s).spoke k).state = (s.spoke k).state := by
  simp only [partHandedOver, modSpoke_spoke_same]

theorem partHandedOver_loopLink : loopLink (partHandedOver k s) k = loopLink s k := by
  simp only [partHandedOver, loopLink, modSpoke_spoke_same]
  rfl

section
variable {e : State} (he : e = bs.foldl (takeBeat k) s)
include he

theorem receiveBeats_goesOn (h : (e.spoke k).state ≠ 6 ∨ cellEnded (e.spoke k) = false) : receiveBeats k bs body s = e := by
  subst he
  rcases h with h | h
  · exact if_pos (by simp [h])
  · exact if_pos (by simp [h])

theorem receiveBeats_hands {c : Cell} {crcOk : Bool} (hup : (e.spoke k).state = 6) (hend : cellEnded (e.spoke k) = true)
    (hcell : cellOf (laneCount (e.spoke k)) (e.spoke k).rx.part.bytes body = (c, crcOk)) :
    receiveBeats k bs body s = receiveCell k c crcOk (e.spoke k).rx.part.bad (partHandedOver k e) := by
  subst he
  refine (if_neg (by simp [hup, hend])).trans ?_
  rw [hcell]
  rfl

end
end
end Sys2Proof.Machine

namespace Sys2Proof

open Machine

section
variable {s t : State} {dt : Time} {k : Nat} (hk : k < 40)
include hk

theorem spokeCellSend_gives {n : Nat} (h : sendCellOn k n (nextTest k (advance dt s)) = t) : Gives (.spokeCellSend dt k n) s t :=
  run_gives (f := fun s => sendCellOn k n (nextTest k s)) (decide_eq_true hk) h

theorem spokeCellReceive_gives {beats : List Beat} {body : CellBody} (h : receiveBeats k beats body (advance dt s) = t) :
    Gives (.spokeCellReceive dt k beats body) s t := run_gives (decide_eq_true hk) h

end

/-- Settles O51: each choice of the sender and each outcome of a reception has its equation; a new cell is followed through its beats to the
replay buffer, or to the place from which it goes on. -/
theorem cellsCrossSpokes : Obligations.CellsCrossSpokes := by
  refine ⟨?sending, ?receiving, ?beats⟩
  case sending =>
    intro s dt k n a x hk
    have send_gives {t : State} (h : sendCellOn k n a = t) : Gives (.spokeCellSend dt k n) s t := spokeCellSend_gives hk h
    refine ⟨fun h => send_gives (sendCellOn_stays h), fun hstate hc4 hn hswitch => ?_⟩
    have hsend : canSend k n a := ⟨hstate, hc4, hn, hswitch⟩
    refine ⟨fun g hg => send_gives (sendCellOn_pre hsend hg), fun hpre => ⟨fun g hg => ⟨fun h => send_gives (sendCellOn_cur hsend hpre hg h),
      fun i b h => send_gives (sendCellOn_preempts hsend hpre hg h)⟩, fun hcur => ⟨fun c r hr => send_gives
      (sendCellOn_resends hsend hpre hcur hr), fun hr hfull => send_gives (sendCellOn_full hsend hpre hcur hr hfull), ?idle, ?new⟩⟩⟩
    case idle =>
      exact fun hr hroom hpick => ⟨fun h => send_gives (sendCellOn_nothing hsend hpre hcur hr hroom hpick h),
        fun c r h => send_gives (sendCellOn_stalls hsend hpre hcur hr hroom hpick h)⟩
    case new =>
      intro hr hroom i c hpick hlen w sent
      have hu := takeUnsent_spoke k i a
      refine ⟨_, send_gives (sendCellOn_starts hsend hpre hcur hr hroom hpick), ?unsent, ?others, ?whole, ?part⟩
      case unsent => rw [newCell_unsent hlen, hu]; rfl
      case others => exact fun l hl => (newCell_spoke_ne hlen hl).trans (modSpoke_spoke_ne _ _ hl)
      case whole =>
        intro hfit hloop
        have hwhole := newCell_whole (s := takeUnsent k i a) (k := k) hlen (by rw [hu]; exact hfit) ((takeUnsent_loopLink k i a).trans hloop)
        rw [hu] at hwhole
        exact hwhole
      case part =>
        intro hrest
        have hpart := newCell_part (s := takeUnsent k i a) (k := k) hlen (by rw [hu]; exact hrest)
        rw [hu] at hpart
        exact hpart
  case receiving =>
    intro s dt k beats body e b x c crcOk bad he hb hx hcell hbad hk
    have hbe : b = partHandedOver k e := hb
    have hbs : (b.spoke k).state = (e.spoke k).state := hbe ▸ partHandedOver_state
    have hbl : loopLink b k = loopLink e k := hbe ▸ partHandedOver_loopLink
    have hhub : b.hub = e.hub := by rw [hbe]; rfl
    have hout : b.out = e.out := by rw [hbe]; rfl
    refine ⟨fun h => spokeCellReceive_gives hk (receiveBeats_goesOn he h), fun hup hend hloop => ?looped, fun hup hend hloop => ?_⟩
    case looped =>
      rw [hbe]
      subst hbad
      exact spokeCellReceive_gives hk ((receiveBeats_hands he hup hend hcell).trans
        (receiveCell_loop (partHandedOver_state.trans hup) (partHandedOver_loopLink.trans hloop)))
    have cell_gives {t : State} (h : receiveCell k c crcOk bad b = t) : Gives (.spokeCellReceive dt k beats body) s t :=
      spokeCellReceive_gives hk ((receiveBeats_hands he hup hend hcell).trans (by rw [← hbad, ← hbe]; exact h))
    have hbup := hbs.trans hup
    have hbloop := hbl.trans hloop
    subst hx
    refine ⟨fun hgood hseq hfirst hack htype hpos => ?expected, fun hgood hseq h => ?outOfTurn, fun hfail hwait h => ?ignored, ?failed⟩
    case expected =>
      obtain ⟨hexp, hacc, hcells, howed, htx, hthub, htout⟩ := expectedCell_kept (s := b) (k := k) hpos
      exact ⟨_, cell_gives (receiveCell_expected hbup hbloop hgood hseq hfirst hack), hexp, hacc, hcells, howed, htx, hthub.trans hhub,
        htout.trans hout⟩
    case outOfTurn =>
      refine cell_gives ((receiveCell_outOfTurn hbup hbloop hgood hseq).trans (if_pos ?_))
      rw [Bool.or_eq_true, decide_eq_true_iff, Option.isSome_iff_ne_none]
      exact h
    case ignored =>
      refine cell_gives ((receiveCell_failing hbup hbloop hfail).trans (if_pos ?_))
      rw [h, Option.isSome_iff_ne_none.mpr hwait]
      rfl
    case failed =>
      intro h lanes f
      have hreception : receiveCell k c crcOk bad b = failedReception k lanes b := by
        rcases h with ⟨hfail, h⟩ | ⟨hgood, hseq, hwait, hfar⟩
        · refine (receiveCell_failing hbup hbloop hfail).trans ((if_neg ?_).trans ?_)
          · rcases h with hwait | hagain
            · simp [hwait]
            · simp [hagain]
          · rw [show lanes = bad % 256 from if_pos hfail]
        · refine (receiveCell_outOfTurn hbup hbloop hgood hseq).trans ((if_neg ?_).trans ?_)
          · simp [hwait, hfar]
          · rw [show lanes = 0 from if_neg (Bool.eq_false_iff.mp hgood)]
      exact ⟨fun hfew => cell_gives (hreception.trans (failedReception_few hfew)),
        fun hfour hwide l hl => cell_gives (hreception.trans (failedReception_retires hfour hwide hl)),
        fun hfour hnone => cell_gives (hreception.trans (failedReception_down hfour hnone))⟩
  case beats =>
    intro s k v x y
    exact ⟨takeBeat_noLink, takeBeat_control, fun hup hdata hswitch => takeBeat_data hup hdata ▸ takeData_adds hswitch⟩

end Sys2Proof

namespace Sys2Proof.Machine

/-! Bits of a lane mask, and the lane that is retired (R191). -/

theorem bit_clrBit_same (x i : Nat) : bit (clrBit x i) i = false := by
  unfold clrBit
  split
  next h =>
    have hodd : x / 2 ^ i % 2 = 1 := by simpa [bit] using h
    have hsub : (x - 2 ^ i) / 2 ^ i = x / 2 ^ i - 1 := by simpa using Nat.sub_mul_div x (2 ^ i) 1
    simp only [bit, hsub, beq_eq_false_iff_ne]
    omega
  next h => exact Bool.eq_false_iff.mpr h

theorem not_both {p q : Bool} (h : p = false ∨ q = false) : ¬ (p = true ∧ q = true) := by
  rintro ⟨rfl, rfl⟩
  exact h.elim Bool.noConfusion Bool.noConfusion

theorem bit_of_popcount {x n i : Nat} (h : popcount x n = n) (hi : i < n) : bit x i = true := by
  have hall := List.length_filter_eq_length_iff.mp ((show ((List.range n).filter (bit x)).length = n from h).trans List.length_range.symm)
  exact hall i (List.mem_range.mpr hi)

theorem popcount_clrBit_ne {x n i : Nat} (hi : i < n) : popcount (clrBit x i) n ≠ n := fun h =>
  Bool.noConfusion ((bit_clrBit_same x i).symm.trans (bit_of_popcount h hi))

theorem bit_mod_32 {x i : Nat} (hi : i < 5) : bit (x % 32) i = bit x i := by
  simp only [bit]
  interval_cases i <;> congr 1 <;> omega

section
variable {k l : Nat} {s : State}

theorem modSpoke_congr {f g : Spoke → Spoke} (h : f (s.spoke k) = g (s.spoke k)) : modSpoke k f s = modSpoke k g s := by
  rw [State.spoke] at h
  rw [modSpoke, modSpoke, tmod, tmod, h]

theorem raiseAlert_spokes (n : Option Nat) (s : State) : (raiseAlert n s).spokes = s.spokes := by
  unfold raiseAlert
  extract_lets _ s1 _ _ s2
  have h1 : s1.spokes = s.spokes := by cases n <;> rfl
  have h2 : s2.spokes = s1.spokes := by
    unfold s2
    split
    · rfl
    · rfl
  split
  · exact h2.trans h1
  · exact h2.trans h1

theorem enterLog_spokes (r : ErrRec) (s : State) : (enterLog r s).spokes = s.spokes := by rw [enterLog]

/-- A record that goes to no ring reaches no spoke. -/
theorem record_nil_spokes (r : ErrRec) (s : State) : (record [] r s).spokes = s.spokes := by
  have hlog : (logOnly r s).spokes = s.spokes := by
    rw [logOnly, apply_ite State.spokes, raiseAlert_spokes, enterLog_spokes, ite_self]
  exact hlog

theorem clearEyes_spokes (ls : List Nat) (s : State) : (clearEyes ls s).spokes = s.spokes := by
  rw [clearEyes, forAll_field State.spokes]
  exact fun _ _ => rfl

theorem retireLane_active (k l : Nat) (s : State) : ((retireLane k l s).spoke k).active = clrBit (s.spoke k).active l := by
  rw [retireLane, State.spoke, record_nil_spokes, clearEyes_spokes]
  exact congrArg Spoke.active (modSpoke_spoke_same ..)

/-- After a lane of a spoke of eight is retired, it is not a spoke of eight any more. -/
theorem retireLane_laneCount_ne (hl : l < 8) : laneCount ((retireLane k l s).spoke k) ≠ 8 := by
  rw [laneCount, retireLane_active]
  exact popcount_clrBit_ne hl

end
end Sys2Proof.Machine

namespace Sys2Proof.Machine

/-! Bring-up: alignment (R118, R195, R196, R198). -/

section
variable {k : Nat} {r : StepResult} {s : State}

/-- The state in which alignment has found the polarity of each lane and the lane order. -/
def wiringFound (k : Nat) (r : StepResult) (s : State) : State :=
  modSpoke k (fun x => { x with rxReversed := r.reversed })
    (forAll (List.range 8) (fun i => modLane (spokeLane k i) (fun x => { x with rxInv := bit r.inverted i })) s)

/-- The lanes in use that have not aligned. -/
def missingLanes (k : Nat) (r : StepResult) (s : State) : List Nat := (activeLanes (s.spoke k)).filter fun i => !bit r.aligned i

/-- The state in which this end has finished its step and said so. -/
def stepFinished (k : Nat) (s : State) : State := sendTrain k (modSpoke k (fun x => { x with localDone := true }) s)

theorem wiringFound_active : ((wiringFound k r s).spoke k).active = (s.spoke k).active := by
  have hlanes := forAll_field (State.spoke · k) (fun i => modLane (spokeLane k i) fun x => { x with rxInv := bit r.inverted i })
    (fun _ _ => rfl) (List.range 8) s
  simp only [wiringFound, modSpoke_spoke_same]
  exact congrArg Spoke.active hlanes

theorem missingLanes_lt {l : Nat} (h : l ∈ missingLanes k r s) : l < 8 :=
  List.mem_range.mp (List.mem_of_mem_filter (List.mem_of_mem_filter h))

theorem alignDone_aligned {t : State} (h : alignLanes k (missingLanes k r s) (wiringFound k r s) = (true, t)) :
    alignDone k r s = identityNext k (stepFinished k t) := by
  rw [alignDone, ← missingLanes, ← wiringFound, h, if_pos rfl, ← stepFinished]

theorem alignDone_fails {t : State} (h : alignLanes k (missingLanes k r s) (wiringFound k r s) = (false, t)) :
    alignDone k r s = failAttempt k t := by
  rw [alignDone, ← missingLanes, ← wiringFound, h, if_neg Bool.false_ne_true]

theorem alignDone_all (h : missingLanes k r s = []) : alignDone k r s = identityNext k (stepFinished k (wiringFound k r s)) :=
  alignDone_aligned (by rw [h, alignLanes])

theorem alignDone_narrow (h : missingLanes k r s ≠ []) (hcount : laneCount (s.spoke k) ≠ 8) :
    alignDone k r s = failAttempt k (wiringFound k r s) := by
  obtain ⟨l, rest, hlist⟩ := List.exists_cons_of_ne_nil h
  refine alignDone_fails ?_
  rw [hlist, alignLanes, if_neg]
  rwa [laneCount, wiringFound_active]

section
variable {l : Nat} (hcount : laneCount (s.spoke k) = 8)
include hcount

theorem alignLanes_retires (rest : List Nat) : alignLanes k (l :: rest) (wiringFound k r s) =
    alignLanes k rest (retireLane k l (wiringFound k r s)) := by
  rw [alignLanes, if_pos]
  rwa [laneCount, wiringFound_active]

theorem alignDone_one (h : missingLanes k r s = [l]) :
    alignDone k r s = identityNext k (stepFinished k (retireLane k l (wiringFound k r s))) :=
  alignDone_aligned (by rw [h, alignLanes_retires hcount, alignLanes])

theorem alignDone_two {m : Nat} {rest : List Nat} (h : missingLanes k r s = l :: m :: rest) :
    alignDone k r s = failAttempt k (retireLane k l (wiringFound k r s)) := by
  have hl : l < 8 := missingLanes_lt (h ▸ List.mem_cons_self)
  exact alignDone_fails (by rw [h, alignLanes_retires hcount, alignLanes, if_neg (retireLane_laneCount_ne hl)])

end
end

/-! Identity, equalisation and credits (R193, R196 to R198). -/

section
variable {k : Nat} {s : State}

/-- The partner's identity is not the one that the spoke's record asks for. -/
def wrongPartner (s : State) (k : Nat) : Prop := rb (spokeRec s k) 50 = true ∧ (s.spoke k).peerDev ≠ rf (spokeRec s k) 56 51

theorem identityDone_unknown (h : (s.spoke k).peerKnown = false) : identityDone k s = s := if_pos (by rw [h]; rfl)

section
variable (hknown : (s.spoke k).peerKnown = true)
include hknown

theorem identityDone_wrong (h : wrongPartner s k) : identityDone k s = modSpoke k (fun x => { x with idFailRec := true }) (failAttempt k
    (if (s.spoke k).idFailRec then s else record [] { devRec s 0x0202 2 6 0 with srcPort := spokePort s k } s)) :=
  (if_neg (by rw [hknown]; decide)).trans (if_pos (by rw [Bool.and_eq_true, bne_iff_ne]; exact h))

variable (hright : ¬ wrongPartner s k)
include hright

theorem identityDone_right : identityDone k s =
    if popcount ((s.spoke k).laneMask &&& (s.spoke k).peerMask) 8 < 7 then failAttempt k s
    else
      let warm := mayWarm s k && bit (s.spoke k).peerFlags 0
      let u := modSpoke k (fun x => { x with
        state := 4, localDone := false, localWarm := warm, active := (s.spoke k).laneMask &&& (s.spoke k).peerMask }) s
      sendTrain k (if warm then loadStore k u else loadPresets k u) :=
  (if_neg (by rw [hknown]; decide)).trans (if_neg (by rw [Bool.and_eq_true, bne_iff_ne]; exact hright))

end

theorem identityNext_other (h : (s.spoke k).state ≠ 2) : identityNext k s = s := if_neg fun hnext => h hnext.1

theorem bringUpNext_early (h : (s.spoke k).state < 4) : bringUpNext k s = identityNext k s :=
  (if_neg fun hnext => by omega).trans (if_neg fun hnext => by omega)

theorem bringUpNext_equalised (h : (s.spoke k).state = 4) : bringUpNext k s =
    if (s.spoke k).localDone = true ∧ bit (s.spoke k).peerFlags 2 = true then sendTrain k (enterCredits k s) else s := by
  have hother : identityNext k s = s := identityNext_other (by rw [h]; decide)
  simp only [bringUpNext, h, hother, true_and, Nat.reduceEqDiff, false_and, if_false]

theorem bringUpNext_credited (h : (s.spoke k).state = 5) : bringUpNext k s =
    if (s.spoke k).localDone = true ∧ bit (s.spoke k).peerFlags 3 = true then linkUp k s else s := by
  have hother : identityNext k s = s := identityNext_other (by rw [h]; decide)
  simp only [bringUpNext, h, hother, true_and, Nat.reduceEqDiff, false_and, if_false]

theorem stepFinished_spoken : OnLine mute (modSpoke k (fun x => { x with localDone := true }) s) (stepFinished k s) :=
  sendTrain_spoken (.refl _)

theorem stepFinished_state : ((stepFinished k s).spoke k).state = (s.spoke k).state :=
  (stepFinished_spoken.spoken_state k).trans (by rw [modSpoke_spoke_same])
theorem stepFinished_localDone : ((stepFinished k s).spoke k).localDone = true :=
  (stepFinished_spoken.spoken_localDone k).trans (by rw [modSpoke_spoke_same])
theorem stepFinished_peerFlags : ((stepFinished k s).spoke k).peerFlags = (s.spoke k).peerFlags :=
  (stepFinished_spoken.spoken_peerFlags k).trans (by rw [modSpoke_spoke_same])

/-- This end has finished equalisation: the spoke goes on when the partner has too. -/
theorem finishStep_equalised (h : (s.spoke k).state = 4) : finishStep k s =
    if bit (s.spoke k).peerFlags 2 then sendTrain k (enterCredits k (stepFinished k s)) else stepFinished k s := by
  refine (bringUpNext_equalised (stepFinished_state.trans h)).trans ?_
  simp only [stepFinished_localDone, stepFinished_peerFlags, true_and]

theorem finishStep_credited (h : (s.spoke k).state = 5) : finishStep k s =
    if bit (s.spoke k).peerFlags 3 then linkUp k (stepFinished k s) else stepFinished k s := by
  refine (bringUpNext_credited (stepFinished_state.trans h)).trans ?_
  simp only [stepFinished_localDone, stepFinished_peerFlags, true_and]

theorem loadFound_spoke (found : List Coef) : (loadFound k found s).spoke = s.spoke :=
  forAll_field State.spoke _ (fun i t => by split <;> rfl) _ _

theorem loadPresets_spoke : (loadPresets k s).spoke = s.spoke := by
  rw [loadPresets, forAll_field State.spoke]
  exact fun _ _ => rfl

theorem refreshCredit_spoken : OnLine mute s (refreshCredit k s) := .forAll (fun _ _ => sendBeat_spoken) (.refl s)

end
end Sys2Proof.Machine

namespace Sys2Proof.Machine

/-! BRINGUP_STEP_DONE by the step that this end has finished (Table 6.8). -/

section
variable {k : Nat} {r : StepResult} {s : State}

/-- The state in which the junction temperature at the end of the step is noted. -/
def stepNoted (k : Nat) (r : StepResult) (s : State) : State := modSpoke k (fun x => { x with temp := r.temp }) s

theorem stepNoted_spoke : (stepNoted k r s).spoke k = { s.spoke k with temp := r.temp } := modSpoke_spoke_same ..

theorem stepDone_none (h : (s.spoke k).state = 0 ∨ 6 ≤ (s.spoke k).state) : stepDone k r s = stepNoted k r s := by
  have hstate : ((stepNoted k r s).spoke k).state = (s.spoke k).state := by rw [stepNoted_spoke]
  rw [stepDone, ← stepNoted]
  split
  iterate 5 omega
  rfl

theorem stepDone_clock (h : (s.spoke k).state = 1) :
    stepDone k r s = loadReceive k (modSpoke k (fun x => { x with state := 2 }) (stepNoted k r s)) := by
  simp only [stepDone, modSpoke_spoke_same, h, stepNoted]

theorem stepDone_align (h : (s.spoke k).state = 2) :
    stepDone k r s = if (s.spoke k).localDone then stepNoted k r s else alignDone k r (stepNoted k r s) := by
  simp only [stepDone, modSpoke_spoke_same, h, stepNoted]

theorem stepDone_identity (h : (s.spoke k).state = 3) : stepDone k r s = identityDone k (stepNoted k r s) := by
  simp only [stepDone, modSpoke_spoke_same, h, stepNoted]

/-- The state in which cold equalisation has found the receive settings; a warm start has them already. -/
def equalised (k : Nat) (r : StepResult) (s : State) : State :=
  if (s.spoke k).localWarm then stepNoted k r s else loadFound k r.found (forAll r.asks (sendAsk k) (stepNoted k r s))

theorem asked_spoken : OnLine mute s (forAll r.asks (sendAsk k) s) := .forAll (fun _ _ => sendAsk_spoken) (.refl s)

theorem equalised_state : ((equalised k r s).spoke k).state = (s.spoke k).state := by
  unfold equalised
  split
  · rw [stepNoted_spoke]
  · rw [loadFound_spoke, asked_spoken.spoken_state, stepNoted_spoke]

theorem equalised_peerFlags : ((equalised k r s).spoke k).peerFlags = (s.spoke k).peerFlags := by
  unfold equalised
  split
  · rw [stepNoted_spoke]
  · rw [loadFound_spoke, asked_spoken.spoken_peerFlags, stepNoted_spoke]

theorem stepDone_equalise (h : (s.spoke k).state = 4) : stepDone k r s =
    if (s.spoke k).localWarm && !r.clean then goCold k (stepNoted k r s) else finishStep k (equalised k r s) := by
  have hstate : ((stepNoted k r s).spoke k).state = 4 := by rw [stepNoted_spoke, ← h]
  have hwarm : ((stepNoted k r s).spoke k).localWarm = (s.spoke k).localWarm := by rw [stepNoted_spoke]
  have hfound : onlyIf (!(s.spoke k).localWarm) (fun s => loadFound k r.found (forAll r.asks (sendAsk k) s)) (stepNoted k r s)
      = equalised k r s := by
    unfold equalised
    cases (s.spoke k).localWarm
    · rfl
    · rfl
  rw [stepDone, ← stepNoted]
  simp only [hstate, hwarm, hfound]

/-- The state in which credits have been sent and the loop time is noted. -/
def credited (k : Nat) (r : StepResult) (s : State) : State :=
  refreshCredit k (modSpoke k (fun x => { x with loopNs := r.loopNs % 4096 }) (stepNoted k r s))

theorem stepDone_credits (h : (s.spoke k).state = 5) : stepDone k r s = finishStep k (credited k r s) := by
  simp only [stepDone, modSpoke_spoke_same, h, credited, stepNoted]

end
end Sys2Proof.Machine

namespace Sys2Proof.Machine

/-! A spoke comes up: what moves the buckets home leaves the spokes and their clocks (R198, R207, R208). -/

section
variable {k : Nat} {s : State}

/-- The spokes without the buckets that use them. -/
def lineSide (s : State) : Spokes := { s.spokes with buckets := [] }

theorem noteBuckets_lineSide (s : State) : lineSide (noteBuckets s) = lineSide s := by
  rw [noteBuckets, forAll_field lineSide]
  exact fun _ _ => rfl

theorem startBack_lineSide (d b : Nat) (s : State) : lineSide (startBack d b s) = lineSide s := noteBuckets_lineSide _

theorem homeBuckets_lineSide (k : Nat) (s : State) : lineSide (homeBuckets k s) = lineSide s := by
  refine forAll_field lineSide _ (fun d u => forAll_field lineSide _ (fun b u => ?_) _ u) _ s
  dsimp only
  split
  · rfl
  · split
    · split
      · split
        · rfl
        · rfl
      · rfl
    · split
      · exact startBack_lineSide d b u
      · split
        · split
          · rfl
          · rfl
        · rfl

theorem noteTandem_lineSide (was : Bool) (s : State) : lineSide (noteTandem was s) = lineSide s := by
  rw [noteTandem]
  split
  · rfl
  · rfl

/-- The spoke that has come up. -/
def upSpoke (k : Nat) (s : State) : State := modSpoke k (fun x => { x with
  state := 6, upAt := s.now, lastWarm := x.localWarm, idFailRec := false, exchangeSpoiled := true, remoteLoop := bit x.peerFlags 4
  tx := { x.tx with progress := s.now }, rx := { x.rx with lastError := s.now } }) s

theorem linkUp_lineSide : lineSide (linkUp k s) =
    lineSide (modStime k (fun x => { x with inPlumb := true, mismatches := 0, plumbAt := s.now }) (upSpoke k s)) := by
  rw [linkUp, homeBuckets_lineSide, ← upSpoke]
  refine Eq.trans ?_ (noteTandem_lineSide (tandemLinkUp s) _)
  split
  · rfl
  · rfl

theorem linkUp_spoke : (linkUp k s).spoke k = (upSpoke k s).spoke k := 
  (congrArg (fun l : Spokes => tget ({} : Spoke) l.spoke k) (linkUp_lineSide (k := k) (s := s)) :)

theorem linkUp_stime : (linkUp k s).stime k =
    (modStime k (fun x => { x with inPlumb := true, mismatches := 0, plumbAt := s.now }) (upSpoke k s)).stime k :=
  (congrArg (fun l : Spokes => tget ({} : SpokeTime) l.time k) (linkUp_lineSide (k := k) (s := s)) :)

theorem linkUp_state : ((linkUp k s).spoke k).state = 6 := by rw [linkUp_spoke, upSpoke, modSpoke_spoke_same]
theorem linkUp_remoteLoop : ((linkUp k s).spoke k).remoteLoop = bit (s.spoke k).peerFlags 4 := by
  rw [linkUp_spoke, upSpoke, modSpoke_spoke_same]
theorem linkUp_inPlumb : ((linkUp k s).stime k).inPlumb = true := by rw [linkUp_stime, modStime_stime_same]

end
end Sys2Proof.Machine

namespace Sys2Proof.Machine

/-! A TRAIN message of the partner, by the step of bring-up (R196 to R198). -/

section
variable {k : Nat} {t : Train} {s : State}

/-- The state in which what the partner says of itself is noted. -/
def partnerNoted (k : Nat) (t : Train) (s : State) : State := modSpoke k (fun x => { x with
  peerSn := t.serial % 2 ^ 48, peerDev := t.devnum % 64, peerKnown := true, peerMask := t.mask % 256, peerFlags := t.flags % 32 }) s

theorem partnerNoted_state : ((partnerNoted k t s).spoke k).state = (s.spoke k).state := by rw [partnerNoted, modSpoke_spoke_same]
theorem partnerNoted_localDone : ((partnerNoted k t s).spoke k).localDone = (s.spoke k).localDone := by
  rw [partnerNoted, modSpoke_spoke_same]

theorem partnerNoted_flag {i : Nat} (hi : i < 5) : bit ((partnerNoted k t s).spoke k).peerFlags i = bit t.flags i := by
  simp only [partnerNoted, modSpoke_spoke_same, bit_mod_32 hi]

theorem eqRequest_spoke : (eqRequest k t s).spoke = s.spoke := by
  rw [eqRequest]
  split
  · rfl
  · rfl

theorem eqRequest_other (h : (s.spoke k).state ≠ 4) : eqRequest k t s = s := if_neg fun hstep => h hstep.1

theorem goCold_state : ((goCold k s).spoke k).state = (s.spoke k).state := by
  rw [goCold, (sendTrain_spoken (.refl _)).spoken_state, loadPresets_spoke, modSpoke_spoke_same]

theorem goCold_localDone : ((goCold k s).spoke k).localDone = false := by
  rw [goCold, (sendTrain_spoken (.refl _)).spoken_localDone, loadPresets_spoke, modSpoke_spoke_same]

/-- A cold start has this end's step to do again. -/
theorem bringUpNext_goCold (h : (s.spoke k).state = 4) : bringUpNext k (goCold k s) = goCold k s := by
  rw [bringUpNext_equalised (goCold_state.trans h), goCold_localDone]
  exact if_neg fun hnext => Bool.noConfusion hnext.1

theorem bringUpNext_identity (h : (s.spoke k).state = 3) : bringUpNext k (eqRequest k t s) = s := by
  rw [eqRequest_other (by rw [h]; decide)]
  exact (bringUpNext_early (by rw [h]; decide)).trans (identityNext_other (by rw [h]; decide))

theorem trainArrives_up (h : (s.spoke k).state = 6) : trainArrives k t s = spokeDown k 4 s := if_pos h

section
variable (hlow : 2 ≤ (s.spoke k).state) (hhigh : (s.spoke k).state < 6)
include hlow hhigh

theorem trainArrives_looped (hflag : bit t.flags 4 = true) (hruns : loopRuns s 5 k = true) :
    trainArrives k t s = failAttempt k (modLoop 5 k (fun l => { l with state := 3 }) s) := by
  rw [trainArrives, if_neg (by omega), if_neg (by omega), if_pos (by rw [hflag, hruns]; rfl)]

end

section
variable (hloop : bit t.flags 4 = false ∨ loopRuns s 5 k = false)
include hloop

theorem trainArrives_step {n : Nat} (h : (s.spoke k).state = n) (hlow : 2 ≤ n) (hhigh : n < 6) : trainArrives k t s =
    bringUpNext k (onlyIf (n == 4 && (s.spoke k).localWarm && !bit t.flags 0) (goCold k) (eqRequest k t
      (if n = 3 ∧ mayWarm (partnerNoted k t s) k ≠ (s.spoke k).localWarm then
        sendTrain k (modSpoke k (fun x => { x with localWarm := mayWarm (partnerNoted k t s) k }) (partnerNoted k t s))
      else partnerNoted k t s))) := by
  have hgo : ¬ (bit t.flags 4 && loopRuns s 5 k) = true := by
    rw [Bool.and_eq_true]
    exact not_both hloop
  rw [trainArrives, if_neg (by omega), if_neg (by omega), if_neg hgo, ← partnerNoted, h]

/-- Unless a warm start hears of a cold one. -/
theorem trainArrives_kept {n : Nat} (h : (s.spoke k).state = n) (hlow : 2 ≤ n) (hhigh : n < 6)
    (hwarm : (n == 4 && (s.spoke k).localWarm && !bit t.flags 0) = false) : trainArrives k t s =
    bringUpNext k (eqRequest k t (if n = 3 ∧ mayWarm (partnerNoted k t s) k ≠ (s.spoke k).localWarm then
        sendTrain k (modSpoke k (fun x => { x with localWarm := mayWarm (partnerNoted k t s) k }) (partnerNoted k t s))
      else partnerNoted k t s)) := by
  rw [trainArrives_step hloop h hlow hhigh, hwarm]
  rfl

theorem trainArrives_align (h : (s.spoke k).state = 2) : trainArrives k t s = identityNext k (partnerNoted k t s) := by
  have hstate := (partnerNoted_state (t := t)).trans h
  rw [trainArrives_kept hloop h (by decide) (by decide) rfl, if_neg fun hnew => by omega, eqRequest_other (by rw [hstate]; decide)]
  exact bringUpNext_early (by rw [hstate]; decide)

theorem trainArrives_identity (h : (s.spoke k).state = 3) (hwarm : mayWarm (partnerNoted k t s) k = (s.spoke k).localWarm) :
    trainArrives k t s = partnerNoted k t s := by
  rw [trainArrives_kept hloop h (by decide) (by decide) rfl, if_neg fun hnew => hnew.2 hwarm]
  exact bringUpNext_identity (partnerNoted_state.trans h)

theorem trainArrives_rewarmed (h : (s.spoke k).state = 3) (hwarm : mayWarm (partnerNoted k t s) k ≠ (s.spoke k).localWarm) :
    trainArrives k t s =
      sendTrain k (modSpoke k (fun x => { x with localWarm := mayWarm (partnerNoted k t s) k }) (partnerNoted k t s)) := by
  rw [trainArrives_kept hloop h (by decide) (by decide) rfl, if_pos ⟨rfl, hwarm⟩]
  refine bringUpNext_identity ?_
  rw [(sendTrain_spoken (.refl _)).spoken_state, modSpoke_spoke_same]
  exact partnerNoted_state.trans h

theorem trainArrives_cold (h : (s.spoke k).state = 4) (hwarm : (s.spoke k).localWarm = true) (hflag : bit t.flags 0 = false) :
    trainArrives k t s = goCold k (eqRequest k t (partnerNoted k t s)) := by
  rw [trainArrives_step hloop h (by decide) (by decide), if_neg fun hnew => by omega, hwarm, hflag]
  refine bringUpNext_goCold ?_
  rw [eqRequest_spoke]
  exact partnerNoted_state.trans h

theorem trainArrives_equalised (h : (s.spoke k).state = 4) (hwarm : (s.spoke k).localWarm = false ∨ bit t.flags 0 = true) :
    trainArrives k t s = if (s.spoke k).localDone = true ∧ bit t.flags 2 = true then
      sendTrain k (enterCredits k (eqRequest k t (partnerNoted k t s))) else eqRequest k t (partnerNoted k t s) := by
  have hkeep : (4 == 4 && (s.spoke k).localWarm && !bit t.flags 0) = false := by
    rcases hwarm with hcold | hflag
    · rw [hcold]; rfl
    · rw [hflag, Bool.not_true, Bool.and_false]
  rw [trainArrives_kept hloop h (by decide) (by decide) hkeep, if_neg fun hnew => by omega]
  refine (bringUpNext_equalised (by rw [eqRequest_spoke]; exact partnerNoted_state.trans h)).trans ?_
  rw [eqRequest_spoke, partnerNoted_localDone, partnerNoted_flag (by decide)]

theorem trainArrives_credited (h : (s.spoke k).state = 5) : trainArrives k t s =
    if (s.spoke k).localDone = true ∧ bit t.flags 3 = true then linkUp k (partnerNoted k t s) else partnerNoted k t s := by
  have hstate := (partnerNoted_state (t := t)).trans h
  rw [trainArrives_kept hloop h (by decide) (by decide) rfl, if_neg fun hnew => by omega, eqRequest_other (by rw [hstate]; decide)]
  refine (bringUpNext_credited hstate).trans ?_
  rw [partnerNoted_localDone, partnerNoted_flag (by decide)]

end
end
end Sys2Proof.Machine

namespace Sys2Proof.Machine

/-- Less than `d` has passed since the time noted. -/
def tooEarly (o : Option Time) (d : Time) (s : State) : Bool := match o with
  | some t => !s.since t d
  | none => false

theorem tooEarly_eq_false {o : Option Time} {d : Time} {s : State} : tooEarly o d s = false ↔ ∀ t, o = some t → t + d ≤ s.now := by
  cases o with
  | none => simp [tooEarly]
  | some t => simp [tooEarly, since_iff]

/-! Truing (R112, R113). -/

section
variable {l : Nat} {err : Int} {dec : List Int} {s : State}

/-- A tap moves within its limit, whatever it was. -/
theorem trueTap_abs_le (lim : Nat) (tap err dec : Int) : |trueTap lim tap err dec| ≤ lim := by
  rw [trueTap, abs_le]
  omega

theorem trueTaps_abs_le {lim : Nat × Nat × Nat} {taps : List Int} {i : Nat} (hi : i < 12) :
    |(trueTaps lim err dec taps).getD i 0| ≤ (tapLimit lim i : Int) := by
  have htap : (trueTaps lim err dec taps).getD i 0 = trueTap (tapLimit lim i) (taps.getD i 0) err (dec.getD i 0) := by
    simp [trueTaps, List.getD_eq_getElem?_getD, hi]
  rw [htap]
  exact trueTap_abs_le ..

/-- Truing is not held, and its last update is an interval ago. -/
def truingDue (l : Nat) (s : State) : Prop :=
  truingHeld s l = false ∧ ∀ t, (s.lane l).truedAt = some t → t + truingInterval s l ≤ s.now

/-- The lane with each of its taps trued. -/
def lanesTrued (l : Nat) (err : Int) (dec : List Int) (s : State) : State := modLane l (fun x => { x with
  truedAt := some s.now, coef := { x.coef with dfe := trueTaps (truingLimits s (l / 16)) err dec (s.lane l).coef.dfe } }) s

theorem truingDue_iff : (truingHeld s l || tooEarly (s.lane l).truedAt (truingInterval s l) s) = false ↔ truingDue l s := by
  rw [Bool.or_eq_false_iff, tooEarly_eq_false, truingDue]

theorem truingStep_waits (h : ¬ truingDue l s) : truingStep l err dec s = s :=
  if_pos (Bool.not_eq_false _ ▸ mt truingDue_iff.mp h)

theorem truingStep_due (h : truingDue l s) : truingStep l err dec s =
    onlyIf (atLimit (truingLimits s (l / 16)) (trueTaps (truingLimits s (l / 16)) err dec (s.lane l).coef.dfe) &&
      !atLimit (truingLimits s (l / 16)) (s.lane l).coef.dfe) (count1 (cLane l 3)) (lanesTrued l err dec s) :=
  if_neg (Bool.eq_false_iff.mp (truingDue_iff.mpr h))

theorem truingStep_lane (h : truingDue l s) (m : Nat) : (truingStep l err dec s).lane m = (lanesTrued l err dec s).lane m := by
  rw [truingStep_due h, onlyIf]
  split
  · rfl
  · rfl

theorem lanesTrued_same : (lanesTrued l err dec s).lane l = { s.lane l with truedAt := some s.now, coef := { (s.lane l).coef with
    dfe := trueTaps (truingLimits s (l / 16)) err dec (s.lane l).coef.dfe } } := modLane_lane_same ..

theorem lanesTrued_ne {m : Nat} (h : m ≠ l) : (lanesTrued l err dec s).lane m = s.lane m := modLane_lane_ne _ _ h

end

/-! The eye that a record reports (R115). -/

section
variable {pam4 : Bool} {eyes : List (Nat × Nat)} {h w i : Nat}

/-- The eye reported is one of the lane's, and none of them is less in height. -/
theorem worstEye_least (hworst : worstEye pam4 eyes = some (h, w, i)) : (i < (if pam4 then 3 else 1) ∧ eyes[i]? = some (h, w)) ∧
    ∀ j < (if pam4 then 3 else 1), ∀ e, eyes[j]? = some e → h ≤ e.1 := by
  have hleast := foldl_least (le := fun e b : Nat × Nat × Nat => e.1 ≤ b.1) (fun _ => le_rfl) (fun _ _ _ => le_trans) (fun _ => rfl)
    (fun b e => ?step) hworst
  case step =>
    dsimp only
    split
    next hless => exact .inl ⟨rfl, hless.le⟩
    next hmore => exact .inr ⟨rfl, not_lt.mp hmore⟩
  obtain ⟨hin, hmin⟩ := hleast
  simp only [List.mem_filterMap, List.mem_range, Option.map_eq_some_iff, Prod.mk.injEq] at hin hmin
  obtain ⟨j, hj, e, he, hh, hw, rfl⟩ := hin
  exact ⟨⟨hj, by rw [he, ← hh, ← hw]⟩, fun m hm e' he' => hmin (e'.1, e'.2, m) ⟨m, hm, e', he', rfl⟩⟩

end

/-! The coefficient store (R126). -/

section
variable {k : Nat} {temp : Int} {s : State}

/-- The spoke is up, has had no lane error for 1 ms, and its coefficients were last stored 1 ms ago. -/
def copyDue (k : Nat) (s : State) : Prop := spokeLinked s k = true ∧ (s.spoke k).rx.lastError + ms ≤ s.now ∧
  ∀ t, (s.spoke k).copiedAt = some t → t + ms ≤ s.now

theorem copyDue_iff :
    (spokeLinked s k && s.since (s.spoke k).rx.lastError ms && !tooEarly (s.spoke k).copiedAt ms s) = true ↔ copyDue k s := by
  simp only [copyDue, Bool.and_eq_true, and_assoc, since_iff, Bool.not_eq_true', tooEarly_eq_false]

theorem coefCopy_waits (h : ¬ copyDue k s) : coefCopy k temp s = s := if_neg fun hgo => h (copyDue_iff.mp hgo)

theorem coefCopy_due (h : copyDue k s) : coefCopy k temp s = modSpoke k (fun x => { x with copiedAt := some s.now })
    { s with lanes.store := tset {} s.lanes.store k (storeEntryOf s k temp) } := if_pos (copyDue_iff.mpr h)

end
end Sys2Proof.Machine

namespace Sys2Proof.Machine

/-! The rest of bring-up, by the notes of the step (Table 6.8). -/

section
variable {k : Nat} {r : StepResult} {s : State}

theorem missingLanes_noted :
    missingLanes k r (stepNoted k r s) = (onesBelow (s.spoke k).active 8).filter fun i => !bit r.aligned i := by
  rw [missingLanes, stepNoted_spoke]
  rfl

theorem laneCount_noted : laneCount ((stepNoted k r s).spoke k) = laneCount (s.spoke k) := by
  rw [stepNoted_spoke]
  rfl

theorem wrongPartner_noted : wrongPartner (stepNoted k r s) k ↔ wrongPartner s k := by
  rw [wrongPartner, stepNoted_spoke]
  rfl

theorem stepDone_unknown (h : (s.spoke k).state = 3) (hunknown : (s.spoke k).peerKnown = false) : stepDone k r s = stepNoted k r s :=
  (stepDone_identity h).trans (identityDone_unknown (by rw [stepNoted_spoke]; exact hunknown))

section
variable (h : (s.spoke k).state = 3) (hknown : (s.spoke k).peerKnown = true)
include h hknown

theorem stepDone_wrong (hwrong : wrongPartner s k) : stepDone k r s = modSpoke k (fun x => { x with idFailRec := true }) (failAttempt k
    (if (s.spoke k).idFailRec then stepNoted k r s else
      record [] { devRec (stepNoted k r s) 0x0202 2 6 0 with srcPort := spokePort s k } (stepNoted k r s))) := by
  rw [stepDone_identity h, identityDone_wrong (by rw [stepNoted_spoke]; exact hknown) (wrongPartner_noted.mpr hwrong), stepNoted_spoke]
  rfl

variable (hright : ¬ wrongPartner s k)
include hright

theorem stepDone_right : stepDone k r s =
    if popcount ((s.spoke k).laneMask &&& (s.spoke k).peerMask) 8 < 7 then failAttempt k (stepNoted k r s)
    else
      let warm := mayWarm (stepNoted k r s) k && bit (s.spoke k).peerFlags 0
      let u := modSpoke k (fun x => { x with
        state := 4, localDone := false, localWarm := warm, active := x.laneMask &&& x.peerMask }) (stepNoted k r s)
      sendTrain k (if warm then loadStore k u else loadPresets k u) := by
  rw [stepDone_identity h, identityDone_right (by rw [stepNoted_spoke]; exact hknown) (mt wrongPartner_noted.mp hright)]
  simp only [stepNoted_spoke]
  refine if_congr Iff.rfl rfl (congrArg (sendTrain k) ?_)
  rw [modSpoke_congr]
  rw [stepNoted_spoke]

end

theorem credited_spoken : OnLine mute (modSpoke k (fun x => { x with loopNs := r.loopNs % 4096 }) (stepNoted k r s)) (credited k r s) :=
  refreshCredit_spoken

theorem credited_state : ((credited k r s).spoke k).state = (s.spoke k).state := by
  rw [credited_spoken.spoken_state, modSpoke_spoke_same, stepNoted_spoke]

theorem credited_peerFlags : ((credited k r s).spoke k).peerFlags = (s.spoke k).peerFlags := by
  rw [credited_spoken.spoken_peerFlags, modSpoke_spoke_same, stepNoted_spoke]

theorem stepDone_cold (h : (s.spoke k).state = 4) (hwarm : (s.spoke k).localWarm = true) (hclean : r.clean = false) :
    stepDone k r s = goCold k (stepNoted k r s) :=
  (stepDone_equalise h).trans (if_pos (by rw [hwarm, hclean]; rfl))

theorem stepDone_equalised (h : (s.spoke k).state = 4) (hkeep : (s.spoke k).localWarm = false ∨ r.clean = true) : stepDone k r s =
    if bit (s.spoke k).peerFlags 2 then sendTrain k (enterCredits k (stepFinished k (equalised k r s)))
    else stepFinished k (equalised k r s) := by
  have hgo : ¬ ((s.spoke k).localWarm && !r.clean) = true := by
    rw [Bool.and_eq_true]
    exact not_both (hkeep.imp_right fun hclean => by rw [hclean]; rfl)
  rw [stepDone_equalise h, if_neg hgo, finishStep_equalised (equalised_state.trans h), equalised_peerFlags]

theorem stepDone_credited (h : (s.spoke k).state = 5) : stepDone k r s =
    if bit (s.spoke k).peerFlags 3 then linkUp k (stepFinished k (credited k r s)) else stepFinished k (credited k r s) := by
  rw [stepDone_credits h, finishStep_credited (credited_state.trans h), credited_peerFlags]

/-- The effect of the partner's clock (R195). -/
def clockAppears (k : Nat) (s : State) : State :=
  let s1 := modSpoke k (fun x => { x with cadence := true }) s
  if (s1.spoke k).state = 0 then startBringUp k s1 else s1

theorem clockAppears_eq : clockAppears k s = if (s.spoke k).state = 0 then startBringUp k (modSpoke k (fun x => { x with cadence := true }) s)
    else modSpoke k (fun x => { x with cadence := true }) s := by
  rw [clockAppears, modSpoke_spoke_same]

/-- The effect of the time of the next attempt (R195). -/
def tryAgain (k : Nat) (s : State) : State := match (s.spoke k).nextTry with
  | some t => if (s.spoke k).state = 0 ∧ t ≤ s.now then startBringUp k s else s
  | none => s

theorem tryAgain_due {n : Time} (h : (s.spoke k).nextTry = some n) (hdue : n ≤ s.now) (hstate : (s.spoke k).state = 0) :
    tryAgain k s = startBringUp k s := by
  rw [tryAgain, h]
  exact if_pos ⟨hstate, hdue⟩

theorem tryAgain_waits (h : ∀ n, (s.spoke k).nextTry = some n → s.now < n ∨ (s.spoke k).state ≠ 0) : tryAgain k s = s := by
  rw [tryAgain]
  split
  next n hn => exact if_neg fun hgo => (h n hn).elim hgo.2.not_gt (· hgo.1)
  next => rfl

end

/-! What the commands of a lane do (R113, R115, R116). -/

section
variable {l : Nat} {s : State}

/-- The effect of the loss of a lane's signal. -/
def signalLost (l : Nat) (s : State) : State :=
  (if truingHeld s l then id else count1 (cLane l 2)) (modLane l (fun x => { x with los := true }) s)

theorem signalLost_truing (h : truingHeld s l = false) :
    signalLost l s = count1 (cLane l 2) (modLane l (fun x => { x with los := true }) s) :=
  congrFun (if_neg (Bool.eq_false_iff.mp h)) _

theorem signalLost_held (h : truingHeld s l = true) : signalLost l s = modLane l (fun x => { x with los := true }) s :=
  congrFun (if_pos h) _

/-- The effect of a measurement of a lane's eyes. -/
def eyesMeasured (l : Nat) (eyes : List (Nat × Nat)) (s : State) : State :=
  if (s.lane l).margining || !laneCarries s l then s
  else match worstEye (lanePam4 s l) eyes with
    | some e => modLane l (fun x => { x with
        eyeH := min 255 e.1, eyeW := min 64 e.2.1, eyeId := e.2.2, eyeValid := true, eyeAt := some s.now }) s
    | none => s

section
variable {eyes : List (Nat × Nat)}

theorem eyesMeasured_paused
    (h : (s.lane l).margining = true ∨ laneCarries s l = false ∨ worstEye (lanePam4 s l) eyes = none) : eyesMeasured l eyes s = s := by
  rw [eyesMeasured]
  split
  next => rfl
  next hgo =>
    rw [Bool.or_eq_true, Bool.not_eq_true', not_or] at hgo
    rw [(h.resolve_left hgo.1).resolve_left hgo.2]

theorem eyesMeasured_records {e : Nat × Nat × Nat} (hmargin : (s.lane l).margining = false) (hlink : laneCarries s l = true)
    (hworst : worstEye (lanePam4 s l) eyes = some e) : eyesMeasured l eyes s = modLane l (fun x => { x with
      eyeH := min 255 e.1, eyeW := min 64 e.2.1, eyeId := e.2.2, eyeValid := true, eyeAt := some s.now }) s := by
  rw [eyesMeasured, if_neg (by rw [hmargin, hlink]; decide), hworst]

end

section
variable {m : MarginStep}

/-- A step of margining takes effect on a lane of a PCIe port, in its range. -/
def marginTaken (l : Nat) (m : MarginStep) (s : State) : Prop :=
  stationMode s (l / 16) = 1 ∧ m.steps.natAbs ≤ (if m.voltage then 64 else 32)

theorem marginTaken_iff : (stationMode s (l / 16) != 1 || !marginFits m) = false ↔ marginTaken l m s := by
  rw [Bool.or_eq_false_iff, bne_eq_false_iff_eq, Bool.not_eq_false', marginFits, decide_eq_true_iff, marginTaken]

theorem laneMargining_refused (h : ¬ marginTaken l m s) : laneMargining l m s = s :=
  if_pos (Bool.not_eq_false _ ▸ mt marginTaken_iff.mp h)

theorem laneMargining_taken (h : marginTaken l m s) :
    laneMargining l m s = modLane l (fun x => { x with margining := m.start, margin := if m.start then m else x.margin }) s :=
  if_neg (Bool.eq_false_iff.mp (marginTaken_iff.mpr h))

theorem laneMargining_starts (h : marginTaken l m s) (hstart : m.start = true) :
    laneMargining l m s = modLane l (fun x => { x with margining := true, margin := m }) s := by
  rw [laneMargining_taken h, hstart]
  rfl

theorem laneMargining_ends (h : marginTaken l m s) (hstart : m.start = false) :
    laneMargining l m s = modLane l (fun x => { x with margining := false }) s := by
  rw [laneMargining_taken h, hstart]
  rfl

end
end
end Sys2Proof.Machine

namespace Sys2Proof

open Machine

section
variable {s t : State} {dt : Time} {k : Nat}

theorem cadenceAppear_gives (hk : k < 40) (h : clockAppears k (advance dt s) = t) : Gives (.cadenceAppear dt k) s t :=
  Gives.of_run (f := clockAppears k) rfl (decide_eq_true hk) h

theorem bringupRetry_gives (hk : k < 40) (h : tryAgain k (advance dt s) = t) : Gives (.bringupRetry dt k) s t :=
  Gives.of_run (f := tryAgain k) rfl (decide_eq_true hk) h

theorem bringupStepDone_gives {r : StepResult} (hk : k < 40) (h : stepDone k r (advance dt s) = t) :
    Gives (.bringupStepDone dt k r) s t := run_gives (decide_eq_true hk) h

/-- The effect of a TRAIN message whose beats are all in. -/
def trainHeard (k : Nat) (vs : List Nat) (s : State) : State := settleLoops (trainArrives k (trainOf vs) s)

theorem trainReceived_gives {bs : List Beat} (hk : k < 40) (h : onParts k 2 9 0 3 bs (trainHeard k) (advance dt s) = t) :
    Gives (.trainReceived dt k bs) s t := run_gives (decide_eq_true hk) h

variable {l : Nat}

theorem truingUpdate_gives {err : Int} {dec : List Int} (hl : l < 320) (h : truingStep l err dec (advance dt s) = t) :
    Gives (.truingUpdate dt l err dec) s t := run_gives (decide_eq_true hl) h

theorem lossOfSignal_gives (hl : l < 320) (h : signalLost l (advance dt s) = t) : Gives (.lossOfSignal dt l) s t :=
  Gives.of_run (f := signalLost l) rfl (decide_eq_true hl) h

theorem eyeMeasurement_gives {eyes : List (Nat × Nat)} (hl : l < 320) (h : eyesMeasured l eyes (advance dt s) = t) :
    Gives (.eyeMeasurement dt l eyes) s t := Gives.of_run (f := eyesMeasured l eyes) rfl (decide_eq_true hl) h

theorem laneMargining_gives {m : MarginStep} (hl : l < 320) (h : laneMargining l m (advance dt s) = t) :
    Gives (.laneMargining dt l m) s t := run_gives (decide_eq_true hl) h

theorem coefStoreCopy_gives {temp : Int} (hk : k < 40) (h : coefCopy k temp (advance dt s) = t) :
    Gives (.coefStoreCopy dt k temp) s t := run_gives (decide_eq_true hk) h

end

/-- Settles O53: by the step that bring-up stands at; truing, eyes, margining and the coefficient store lane by lane. -/
theorem bringUpAndLanes : Obligations.BringUpAndLanes := by
  unfold Obligations.BringUpAndLanes
  refine ⟨?steps, ?up, ?train, ?lanes⟩
  case steps =>
    intro s dt k r a x b done hk
    have gives {t : State} (h : stepDone k r a = t) : Gives (.bringupStepDone dt k r) s t := bringupStepDone_gives hk h
    refine ⟨fun h => cadenceAppear_gives hk (clockAppears_eq.trans (if_pos h)),
      fun h => cadenceAppear_gives hk (clockAppears_eq.trans (if_neg h)),
      fun n hn hdue h => bringupRetry_gives hk (tryAgain_due hn hdue h),
      fun h => bringupRetry_gives hk (tryAgain_waits h),
      fun h => gives (stepDone_none h), fun h => gives (stepDone_clock h),
      fun h hdone => gives ((stepDone_align h).trans (if_pos hdone)), ?align,
      fun h hunknown => gives (stepDone_unknown h hunknown), ?identity,
      fun h hwarm hclean => gives (stepDone_cold h hwarm hclean), ?equalise, ?credits⟩
    case align =>
      intro h hdone u missing
      have hmissing : missingLanes k r b = missing := missingLanes_noted
      have hcount (n : Nat) : laneCount x = n → laneCount (b.spoke k) = n := laneCount_noted.trans
      have galign {t : State} (ht : alignDone k r b = t) : Gives (.bringupStepDone dt k r) s t :=
        gives ((stepDone_align h).trans ((if_neg (Bool.eq_false_iff.mp hdone)).trans ht))
      exact ⟨fun hall => galign (alignDone_all (hmissing.trans hall)),
        fun l hone h8 => galign (alignDone_one (hcount 8 h8) (hmissing.trans hone)),
        fun hsome hnarrow => galign (alignDone_narrow (hmissing ▸ hsome) fun h8 => hnarrow (laneCount_noted.symm.trans h8)),
        fun l m rest htwo h8 => galign (alignDone_two (hcount 8 h8) (hmissing.trans htwo))⟩
    case identity =>
      intro h hknown wrong
      exact ⟨fun hwrong => gives (stepDone_wrong h hknown hwrong),
        fun hright hfew => gives ((stepDone_right h hknown hright).trans (if_pos hfew)),
        fun hright hmany => gives ((stepDone_right h hknown hright).trans (if_neg hmany.not_gt))⟩
    case equalise =>
      intro h hkeep u
      exact ⟨fun hflag => gives ((stepDone_equalised h hkeep).trans (if_pos hflag)),
        fun hflag => gives ((stepDone_equalised h hkeep).trans (if_neg (Bool.eq_false_iff.mp hflag)))⟩
    case credits =>
      intro h u
      exact ⟨fun hflag => gives ((stepDone_credited h).trans (if_pos hflag)),
        fun hflag => gives ((stepDone_credited h).trans (if_neg (Bool.eq_false_iff.mp hflag)))⟩
  case up => exact fun s k => ⟨linkUp_state, linkUp_inPlumb, linkUp_remoteLoop⟩
  case train =>
    intro s dt k bs e x cs b hk
    have hheard : OnLine deaf e b := partsTaken_heard k bs e
    have hstate : (b.spoke k).state = x.state := hheard.heard_state k
    have hwarm : (b.spoke k).localWarm = x.localWarm := (congrArg Spoke.localWarm (hheard.spoke k) :)
    have hdone : (b.spoke k).localDone = x.localDone := (congrArg Spoke.localDone (hheard.spoke k) :)
    have hruns : loopRuns b 5 k = loopRuns e 5 k := hheard.loopRuns 5 k
    refine ⟨fun h => trainReceived_gives hk (onParts_noLink h), fun h hnone => trainReceived_gives hk (onParts_incomplete h hnone), ?_⟩
    intro vs hvs t u
    have gives {w : State} (hlow : 2 ≤ x.state) (h : trainArrives k t b = w) : Gives (.trainReceived dt k bs) s (settleLoops w) :=
      trainReceived_gives hk ((onParts_complete hlow hlow hvs).trans (congrArg settleLoops h))
    refine ⟨fun h => gives (by omega) (trainArrives_up (hstate.trans h)),
      fun hlow hhigh hflag hloop => gives hlow (trainArrives_looped (by omega) (by omega) hflag (hruns.trans hloop)), fun hloop => ?_⟩
    rw [← hruns] at hloop
    refine ⟨fun h => gives (by omega) (trainArrives_align hloop (hstate.trans h)),
      fun h hsame => gives (by omega) (trainArrives_identity hloop (hstate.trans h) (hsame.trans hwarm.symm)),
      fun h hnew => gives (by omega) (trainArrives_rewarmed hloop (hstate.trans h) (hwarm ▸ hnew)), fun h => ?_, fun h => ?_⟩
    · intro v
      refine ⟨fun hx hflag => gives (by omega) (trainArrives_cold hloop (hstate.trans h) (hwarm.trans hx) hflag), fun hkeep => ?_⟩
      have hequal := trainArrives_equalised hloop (hstate.trans h) (hwarm ▸ hkeep)
      rw [hdone] at hequal
      exact ⟨fun hx hflag => gives (by omega) (hequal.trans (if_pos ⟨hx, hflag⟩)),
        fun hwait => gives (by omega) (hequal.trans (if_neg (not_both hwait)))⟩
    · have hcredit := trainArrives_credited hloop (hstate.trans h)
      rw [hdone] at hcredit
      exact ⟨fun hx hflag => gives (by omega) (hcredit.trans (if_pos ⟨hx, hflag⟩)),
        fun hwait => gives (by omega) (hcredit.trans (if_neg (not_both hwait)))⟩
  case lanes =>
    intro s dt l err dec a lim due hl
    refine ⟨fun hwait => truingUpdate_gives hl (truingStep_waits hwait), fun hdue => ?true,
      fun h => lossOfSignal_gives hl (signalLost_truing h), fun h => lossOfSignal_gives hl (signalLost_held h),
      run_gives (decide_eq_true hl) rfl, fun eyes => ?eyes, ?margin, ?store⟩
    case true =>
      have hlane (m : Nat) : (truingStep l err dec a).lane m = (lanesTrued l err dec a).lane m := truingStep_lane hdue m
      refine ⟨truingStep l err dec a, truingUpdate_gives hl rfl, ?_, ?_, fun i hi => ?_, fun m hm => (hlane m).trans (lanesTrued_ne hm)⟩
      · rw [hlane, lanesTrued_same]
      · rw [hlane, lanesTrued_same]
      · rw [hlane, lanesTrued_same]
        exact trueTaps_abs_le hi
    case eyes =>
      refine ⟨fun h => eyeMeasurement_gives hl (eyesMeasured_paused h), fun hmargin hlink h w i hworst => ?_⟩
      obtain ⟨⟨hlt, hat⟩, hleast⟩ := worstEye_least hworst
      refine ⟨eyeMeasurement_gives hl (eyesMeasured_records hmargin hlink hworst), hat, fun hpam => ?_, fun hnrz => ?_⟩
      · rw [hpam] at hlt hleast
        exact ⟨hlt, hleast⟩
      · rw [hnrz] at hlt
        exact Nat.lt_one_iff.mp hlt
    case margin =>
      intro m fits
      exact ⟨fun h => laneMargining_gives hl (laneMargining_refused h),
        fun h hstart => laneMargining_gives hl (laneMargining_starts h hstart),
        fun h hend => laneMargining_gives hl (laneMargining_ends h hend)⟩
    case store =>
      intro k hk temp due
      exact ⟨fun h => coefStoreCopy_gives hk (coefCopy_due h), fun h => coefStoreCopy_gives hk (coefCopy_waits h)⟩

end Sys2Proof

namespace Sys2Proof.Machine

/-! What the spokes keep while a lost link is cleared away. Records, notices of lost frames and cells, and moves of buckets put cells on spokes
that are up and raise alerts; of the line state of a spoke and of the alerts that stand they take nothing (R193, R207). -/

/-- The state of a spoke's link, its receiver, and its cells to replay. -/
def lineState (x : Spoke) : Nat × SpokeRx × List Cell := (x.state, x.rx, x.tx.replay)

/-- From `s` to `t` the line state and the clock of each spoke stay, and alerts are only added. -/
structure LinesKept (s t : State) : Prop where
  spoke : ∀ k, lineState (t.spoke k) = lineState (s.spoke k)
  time : t.spokes.time = s.spokes.time
  alerts : s.errs.alertSeq ⊆ t.errs.alertSeq

/-- The fields that `LinesKept` speaks of. -/
def linesView (s : State) : Tbl Spoke × Tbl SpokeTime × List Nat := (s.spokes.spoke, s.spokes.time, s.errs.alertSeq)

section
variable {a s t : State}

theorem LinesKept.refl (s : State) : LinesKept s s := ⟨fun _ => rfl, rfl, fun _ => id⟩

theorem LinesKept.same (h : LinesKept a s) (e : linesView t = linesView s) : LinesKept a t := by
  simp only [linesView, Prod.mk.injEq] at e
  obtain ⟨espoke, etime, ealert⟩ := e
  refine ⟨fun k => ?_, etime.trans h.time, ealert ▸ h.alerts⟩
  rw [← h.spoke k, State.spoke, State.spoke, espoke]

/-- An update that leaves the spokes and adds alerts. -/
theorem LinesKept.spokes (h : LinesKept a s) (e : t.spokes = s.spokes) (halerts : s.errs.alertSeq ⊆ t.errs.alertSeq) :
    LinesKept a t := by
  refine ⟨fun k => ?_, (congrArg Spokes.time e).trans h.time, fun x hx => halerts (h.alerts hx)⟩
  rw [State.spoke, e]
  exact h.spoke k

theorem LinesKept.stime (h : LinesKept s t) (k : Nat) : t.stime k = s.stime k := congrArg (tget ({} : SpokeTime) · k) h.time

/-! The shapes of an update. -/

theorem forAll_lines {α : Type} {f : α → State → State} {l : List α} (hf : ∀ x s, LinesKept a s → LinesKept a (f x s))
    (h : LinesKept a s) : LinesKept a (forAll l f s) := forAll_keeps (LinesKept a) f hf l s h

theorem ite_lines {c : Prop} [Decidable c] (hs : LinesKept a s) (ht : LinesKept a t) : LinesKept a (if c then s else t) := by
  split
  · exact hs
  · exact ht

theorem onlyIf_lines {b : Bool} {f : State → State} (hf : ∀ s, LinesKept a s → LinesKept a (f s)) (h : LinesKept a s) :
    LinesKept a (onlyIf b f s) := ite_lines (hf s h) h

theorem modSpoke_lines {k : Nat} {f : Spoke → Spoke} (hf : ∀ x, lineState (f x) = lineState x) (h : LinesKept a s) :
    LinesKept a (modSpoke k f s) := by
  refine ⟨fun j => ?_, h.time, h.alerts⟩
  rw [modSpoke_spoke]
  split
  · exact (hf _).trans (h.spoke j)
  · exact h.spoke j

theorem emit_lines {o : Out} (h : LinesKept a s) : LinesKept a (emit o s) := h.same rfl
theorem modAux_lines {p : Nat} {f : PortAux → PortAux} (h : LinesKept a s) : LinesKept a (modAux p f s) := h.same rfl
theorem modPart_lines {p : Nat} {f : Part → Part} (h : LinesKept a s) : LinesKept a (modPart p f s) := h.same rfl
theorem countBy_lines {i n : Nat} (h : LinesKept a s) : LinesKept a (countBy i n s) := h.same rfl
theorem count1_lines {i : Nat} (h : LinesKept a s) : LinesKept a (count1 i s) := h.same rfl
theorem countLost_lines {i : Nat} (h : LinesKept a s) : LinesKept a (countLost i s) := h.same rfl

/-! Messages. -/

theorem routeCells_lines {d srcDev srcPort dstPort svc : Nat} {cs : List Cell} (h : LinesKept a s) :
    LinesKept a (routeCells d srcDev srcPort dstPort svc cs s) := by
  unfold routeCells
  split
  · exact countLost_lines h
  · extract_lets
    split
    · exact h.same rfl
    · split
      · exact modSpoke_lines (fun _ => rfl) h
      · exact h

theorem post_lines {o : Out} (h : LinesKept a s) : LinesKept a (post o s) := by
  unfold post
  extract_lets s1
  have h1 : LinesKept a s1 := emit_lines h
  split
  · split
    · exact h1
    · exact routeCells_lines (ite_lines (h1.same rfl) h1)
  · exact h1

theorem sendMsg_lines {p : Nat} {m : MsgKind} (h : LinesKept a s) : LinesKept a (sendMsg p m s) :=
  ite_lines (modAux_lines h) (ite_lines (emit_lines h) h)

theorem collapse_lines {u : Nat} (h : LinesKept a s) : LinesKept a (collapse u s) :=
  forAll_lines (fun _ _ h => ite_lines (sendMsg_lines h) (ite_lines (sendMsg_lines h) h)) (modAux_lines h)

theorem updateLevel_lines {p : Nat} (h : LinesKept a s) : LinesKept a (updateLevel p s) := by
  unfold updateLevel
  extract_lets l s1
  have h1 : LinesKept a s1 := modPart_lines h
  split
  · exact h
  · split
    · exact collapse_lines h1
    · exact h1

/-! The log and its alerts. -/

/-- An alert of a record stands. -/
theorem raiseAlert_some (n : Nat) (s : State) : (raiseAlert (some n) s).errs.alertSeq = s.errs.alertSeq ++ [n] := by
  unfold raiseAlert
  extract_lets _ s1 _ _ s2
  have h2 : s2.errs.alertSeq = s.errs.alertSeq ++ [n] := by
    unfold s2
    split
    · rfl
    · rfl
  split
  · exact h2
  · exact h2

theorem raiseAlert_lines {n : Nat} (h : LinesKept a s) : LinesKept a (raiseAlert (some n) s) :=
  h.spokes (raiseAlert_spokes ..) (by rw [raiseAlert_some]; exact List.subset_append_left ..)

/-- The state with another log, its copies and its next number. -/
def withLog (log : List ErrRec) (copies : List (Nat × Nat)) (seq : Nat) (s : State) : State :=
  { s with errs.seq := seq, errs.log := log, errs.copies := copies }

theorem withLog_alertSeq (log : List ErrRec) (copies : List (Nat × Nat)) (seq : Nat) (s : State) :
    (withLog log copies seq s).errs.alertSeq = s.errs.alertSeq := rfl

theorem enterLog_alertSeq (r : ErrRec) (s : State) : (enterLog r s).errs.alertSeq = s.errs.alertSeq := by
  rw [enterLog, ← withLog, withLog_alertSeq]

theorem enterLog_lines {r : ErrRec} (h : LinesKept a s) : LinesKept a (enterLog r s) :=
  h.spokes (enterLog_spokes ..) (by rw [enterLog_alertSeq]; exact List.Subset.refl _)

theorem logOnly_lines {r : ErrRec} (h : LinesKept a s) : LinesKept a (logOnly r s) :=
  ite_lines (raiseAlert_lines (enterLog_lines h)) (enterLog_lines h)

theorem func0Err_lines {p b : Nat} {m : MsgKind} (h : LinesKept a s) : LinesKept a (func0Err p b m s) := by
  unfold func0Err func0Msg
  refine ite_lines ?_ h
  split
  · exact sendMsg_lines h
  · exact h

theorem sendNonFatal_lines {p : Nat} (h : LinesKept a s) : LinesKept a (sendNonFatal p s) :=
  ite_lines (func0Err_lines (modPart_lines h)) (modPart_lines h)

theorem signalRecord_lines {p : Nat} {r : ErrRec} (h : LinesKept a s) : LinesKept a (signalRecord p r s) := by
  unfold signalRecord
  split
  · exact ite_lines (modPart_lines h) (func0Err_lines (modPart_lines h))
  · exact ite_lines h (sendNonFatal_lines (modPart_lines h))
  · exact ite_lines (sendNonFatal_lines (modPart_lines h)) h
  · exact h

theorem extendEpisode_lines {cause part dev port : Nat} (h : LinesKept a s) : LinesKept a (extendEpisode cause part dev port s) :=
  h.same rfl

theorem countDeny_lines {port : Option Nat} {entry : Nat} (h : LinesKept a s) : LinesKept a (countDeny port entry s) := by
  unfold countDeny
  split
  · exact ite_lines (count1_lines h) (count1_lines h)
  · exact h

/-! Records and the interrupts that they raise. -/

section
variable {raise denied : Nat → Nat → State → State} (hraise : ∀ p i s, LinesKept a s → LinesKept a (raise p i s))
  (hdenied : ∀ p i s, LinesKept a s → LinesKept a (denied p i s))

include hraise in
theorem ringCopyBy_lines {p : Nat} {r : ErrRec} (h : LinesKept a s) : LinesKept a (ringCopyBy raise p r s) := by
  have hring : LinesKept a (ringWriteBy raise p r s) :=
    ite_lines (hraise _ _ _ (modPart_lines h)) (hraise _ _ _ (modPart_lines h))
  exact ite_lines h (ite_lines (signalRecord_lines hring) (post_lines h))

include hraise in
theorem recordBy_lines {ps : List Nat} {r : ErrRec} (h : LinesKept a s) : LinesKept a (recordBy raise ps r s) :=
  forAll_lines (fun _ _ => ringCopyBy_lines hraise) ((logOnly_lines h).same rfl)

include hraise in
theorem writeFailureBy_lines {cause part : Nat} {r : ErrRec} (h : LinesKept a s) :
    LinesKept a (writeFailureBy raise cause r part s) := by
  unfold writeFailureBy
  extract_lets s r s1 _ s2
  have hs : LinesKept a s := count1_lines h
  have h1 : LinesKept a s1 := recordBy_lines hraise hs
  have h2 : LinesKept a s2 := ite_lines h1 (h1.same rfl)
  split
  · exact extendEpisode_lines hs
  · exact ite_lines (h2.same rfl) (recordBy_lines hraise h2)

include hdenied in
theorem raiseBy_lines {p i : Nat} {b : Bool} (h : LinesKept a s) :
    LinesKept a (updateLevel p (onlyIf b (sendMsixBy denied p i) (setCause p i s))) := by
  refine updateLevel_lines (onlyIf_lines (fun s h => ?_) (modPart_lines h))
  unfold sendMsixBy sendVectorBy
  extract_lets addr
  split
  · exact modPart_lines h
  · split
    · exact emit_lines h
    · exact hdenied _ _ _ (countDeny_lines h)

end

theorem raiseCause_lines {p i : Nat} (h : LinesKept a s) : LinesKept a (raiseCause p i s) :=
  raiseBy_lines (fun _ _ _ => writeFailureBy_lines fun _ _ _ => raiseBy_lines fun _ _ _ => id) h

theorem record_lines {ps : List Nat} {r : ErrRec} (h : LinesKept a s) : LinesKept a (record ps r s) :=
  recordBy_lines (fun _ _ _ => raiseCause_lines) h

theorem writeFailure_lines {cause part : Nat} {r : ErrRec} (h : LinesKept a s) : LinesKept a (writeFailure cause r part s) :=
  writeFailureBy_lines (fun _ _ _ => raiseCause_lines) h

theorem episodeRecord_lines {toRing : Bool} {part : Nat} {r : ErrRec} (h : LinesKept a s) :
    LinesKept a (episodeRecord toRing part r s) := by
  unfold episodeRecord
  extract_lets ps
  split
  · exact extendEpisode_lines h
  · exact ite_lines ((record_lines h).same rfl) (record_lines h)

end
end Sys2Proof.Machine

namespace Sys2Proof.Machine

/-! Frames and cells that are lost with a spoke (R194). -/

section
variable {a s t : State}

theorem clearXoff_lines {key : Nat} (h : LinesKept a s) : LinesKept a (clearXoff key s) := by
  unfold clearXoff
  split
  · exact h
  · exact h.same rfl

theorem settleXoff_lines {st : Nat} (h : LinesKept a s) : LinesKept a (settleXoff st s) := by
  have hfreed : LinesKept a { s with
      hub.bankXoff := s.hub.bankXoff.filter (· != st), hub.bankXoffAt := tput s.hub.bankXoffAt st s.now } := h.same rfl
  exact forAll_lines (fun _ _ h => ite_lines (clearXoff_lines h) h)
    (ite_lines (forAll_lines (fun _ _ h => ite_lines h (emit_lines h)) hfreed) h)

theorem noteEmpty_lines {port q : Nat} (h : LinesKept a s) : LinesKept a (noteEmpty port q s) := by
  unfold noteEmpty
  split
  · exact h
  · split
    · exact h.same rfl
    · exact h

theorem takeOut_lines {f : Frame} (h : LinesKept a s) : LinesKept a (takeOut f s) :=
  ite_lines (settleXoff_lines (noteEmpty_lines (h.same rfl))) (h.same rfl)

theorem removeFrame_lines {f : Frame} (h : LinesKept a s) : LinesKept a (removeFrame f s) := takeOut_lines (ite_lines (h.same rfl) h)

theorem sendNotices_lines {dev sub : Nat} {ns : List Notice} (h : LinesKept a s) : LinesKept a (sendNotices dev sub ns s) :=
  post_lines h

theorem dropNotice_lines {f : Frame} {cause : Nat} (h : LinesKept a s) : LinesKept a (dropNotice f cause s) := by
  unfold dropNotice
  split
  · exact h
  · have hq := count1_lines (i := cQueue f.outPort (qOf f) 3) h
    exact sendNotices_lines (ite_lines (count1_lines hq) (ite_lines (count1_lines hq) hq))

theorem answerEntry_lines {e : TagEntry} {st : CplStatus} (h : LinesKept a s) : LinesKept a (answerEntry e st s) := by
  unfold answerEntry
  split
  · exact emit_lines h
  · exact emit_lines h

theorem timeoutTag_lines {i detailB : Nat} (h : LinesKept a s) : LinesKept a (timeoutTag i detailB s) := by
  unfold timeoutTag
  split
  · exact h
  · exact ite_lines ((episodeRecord_lines (answerEntry_lines (count1_lines h))).same rfl) h

theorem failTracker_lines {i cause : Nat} {quar : Bool} (h : LinesKept a s) : LinesKept a (failTracker i cause quar s) := by
  unfold failTracker
  split
  · exact h
  · exact ite_lines (writeFailure_lines (ite_lines (h.same rfl) (h.same rfl))) h

theorem loseFrame_lines {k : Nat} {f : Frame} (h : LinesKept a s) : LinesKept a (loseFrame k f s) := by
  unfold loseFrame
  split
  · exact dropNotice_lines (count1_lines h)
  · split
    · exact failTracker_lines h
    · exact ite_lines (timeoutTag_lines h) h
    · exact h

theorem loseCell_lines {k : Nat} {c : Cell} (h : LinesKept a s) : LinesKept a (loseCell k c s) := by
  unfold loseCell
  split
  · split
    · split
      · exact sendNotices_lines (count1_lines h)
      · exact h
    · split
      · exact h
      · split
        · split
          · exact failTracker_lines h
          · exact h
        · split
          · split
            · exact timeoutTag_lines h
            · exact h
          · exact h
  · exact h

/-! Buckets move, and the spoke starts its bring-up again. -/

theorem putBucket_lines {d b : Nat} {x : Bucket} (h : LinesKept a s) : LinesKept a (putBucket d b x s) := h.same rfl

theorem reassign_lines {d : Nat} {hold : Bool} {bs : List Nat} {i : Nat} (h : LinesKept a s) :
    LinesKept a (reassign d hold s bs i) := by
  induction bs generalizing s i with
  | nil => exact h
  | cons b r ih => exact ih (putBucket_lines h)

theorem releaseCtl_lines {d b : Nat} (h : LinesKept a s) : LinesKept a (releaseCtl d b s) := by
  unfold releaseCtl
  extract_lets mine _ s1 out
  have h1 : LinesKept a s1 := h.same rfl
  clear_value out
  cases out with
  | some k => exact modSpoke_lines (fun _ => rfl) h1
  | none => exact forAll_lines (fun _ _ => countLost_lines) h1

theorem moveBuckets_lines {k : Nat} (h : LinesKept a s) : LinesKept a (moveBuckets k s) :=
  forAll_lines (fun _ _ h => countBy_lines (reassign_lines (forAll_lines (fun _ _ h => releaseCtl_lines (putBucket_lines h)) h))) h

theorem setUpstream_lines (h : LinesKept a s) : LinesKept a (setUpstream s) := by
  unfold setUpstream
  split
  · exact h.same rfl
  · split
    · exact h.same rfl
    · exact h.same rfl

theorem noteTandem_lines {was : Bool} (h : LinesKept a s) : LinesKept a (noteTandem was s) := ite_lines h (h.same rfl)

theorem clearEyes_lines {ls : List Nat} (h : LinesKept a s) : LinesKept a (clearEyes ls s) := forAll_lines (fun _ _ h => h.same rfl) h

/-- What is sent on a line leaves what the receivers hold and the cells to replay. -/
theorem OnLine.lines (h : OnLine mute s t) : LinesKept s t where
  spoke k := (congrArg lineState (h.spoke k) :)
  time := h.time
  alerts := by rw [h.errs]; exact fun _ => id

theorem LinesKept.trans {u : State} (h : LinesKept s t) (h' : LinesKept t u) : LinesKept s u :=
  ⟨fun k => (h'.spoke k).trans (h.spoke k), h'.time.trans h.time, fun _ hx => h'.alerts (h.alerts hx)⟩

theorem sendTrain_lines {k : Nat} (h : LinesKept a s) : LinesKept a (sendTrain k s) := h.trans (sendTrain_spoken (.refl s)).lines

end

/-! A spoke goes down. -/

section
variable {k next : Nat} {s : State}

/-- The spoke whose link is cleared, its slots of frames not its own any more. -/
def linkCleared (k next : Nat) (s : State) : State :=
  modSpoke k (clearLink next) { s with
    hub.frames := s.hub.frames.map fun f => if f.rxSpoke == some k then { f with slots := false } else f }

/-- A cleared link's clock: not in plumb, not locked, no exchange under way. -/
def clockDropped (k : Nat) (s : State) : State :=
  modStime k (fun x => { x with inPlumb := false, locked := false, t1 := none, mismatches := 0 }) s

/-- After the link is cleared and its frames and cells are lost the clock of the spoke is dropped; the line state of every spoke stays. -/
theorem dropLink_lines : ∃ u, LinesKept (linkCleared k next s) u ∧ LinesKept (clockDropped k u) (dropLink k next s) := by
  unfold dropLink
  extract_lets tx lostCells p lost wasTandem gone _ s1 s2 s3 s4 s6
  have h1 : LinesKept (linkCleared k next s) s1 := .refl _
  have h2 : LinesKept (linkCleared k next s) s2 := moveBuckets_lines (forAll_lines (fun _ _ => removeFrame_lines) h1)
  have h3 : LinesKept (linkCleared k next s) s3 := forAll_lines (fun _ _ => loseFrame_lines) (forAll_lines (fun _ _ => loseCell_lines) h2)
  have h6 : LinesKept (clockDropped k s3) s6 := (noteTandem_lines (setUpstream_lines (.refl s4))).same rfl
  exact ⟨s3, h3, sendTrain_lines (count1_lines ((clearEyes_lines h6).same rfl))⟩

theorem dropLink_spoke : lineState ((dropLink k next s).spoke k) = (next, {}, []) := by
  obtain ⟨u, hlost, hdropped⟩ := dropLink_lines (k := k) (next := next) (s := s)
  refine (hdropped.spoke k).trans ((hlost.spoke k).trans ?_)
  rw [linkCleared, modSpoke_spoke_same]
  rfl

theorem dropLink_inPlumb : ((dropLink k next s).stime k).inPlumb = false := by
  obtain ⟨u, -, hdropped⟩ := dropLink_lines (k := k) (next := next) (s := s)
  rw [hdropped.stime, clockDropped, modStime_stime_same]

theorem dropLink_alerts : s.errs.alertSeq ⊆ (dropLink k next s).errs.alertSeq := by
  obtain ⟨u, hlost, hdropped⟩ := dropLink_lines (k := k) (next := next) (s := s)
  exact fun _ hx => hdropped.alerts (hlost.alerts hx)

theorem spokeUp_of_state (h : (s.spoke k).state ≠ 6) : spokeUp s k = false := by
  cases hup : spokeUp s k with
  | false => rfl
  | true => exact absurd (spokeUp_state hup) h

/-- The record of a spoke's loss raises its alert. -/
theorem record_raises {r : ErrRec} (h : alertsFor r = true) : s.errs.seq ∈ (record [] r s).errs.alertSeq := by
  have hlog : logOnly r s = raiseAlert (some s.errs.seq) (enterLog r s) := if_pos h
  change s.errs.seq ∈ (logOnly r s).errs.alertSeq
  rw [hlog, raiseAlert_some]
  exact List.mem_append_right _ List.mem_cons_self

/-- The state with the record of a spoke's loss (R193). -/
def lossRecorded (k n : Nat) (s : State) : State := record [] { devRec s 0x0202 2 n 0 with srcPort := spokePort s k } s

section
variable {n : Nat} (h : (s.spoke k).state = 6)
include h

theorem spokeDown_up : spokeDown k n s = dropLink k 1 (lossRecorded k n s) := if_pos h

theorem spokeDown_line : lineState ((spokeDown k n s).spoke k) = (1, {}, []) := by rw [spokeDown_up h, dropLink_spoke]
theorem spokeDown_inPlumb : ((spokeDown k n s).stime k).inPlumb = false := by rw [spokeDown_up h, dropLink_inPlumb]

theorem spokeDown_alerts : s.errs.seq ∈ (spokeDown k n s).errs.alertSeq := by
  rw [spokeDown_up h]
  exact dropLink_alerts (record_raises rfl)

end
end
end Sys2Proof.Machine

namespace Sys2Proof.Machine

/-! A control beat (R167 to R171). -/

section
variable {k lowest kind octet : Nat} {v : Beat} {f : Nat → State → State} {s : State}

theorem onBeat_noLink (h : ((settleSwitch k s).spoke k).state < 2) : onBeat k lowest kind v f s = settleSwitch k s := if_pos h

section
variable (hlink : 2 ≤ ((settleSwitch k s).spoke k).state)
include hlink

theorem onBeat_bad (h : (ctlBeat (settleSwitch k s) k v).good = false) :
    onBeat k lowest kind v f s = count1 (cSpoke k ckBadBeat) (tookCtl k v (settleSwitch k s)) :=
  (if_neg hlink.not_gt).trans (if_pos (by rw [h]; rfl))

variable (hgood : (ctlBeat (settleSwitch k s) k v).good = true)
include hgood

theorem onBeat_good : onBeat k lowest kind v f s =
    if ((settleSwitch k s).spoke k).state < lowest ∨ (ctlBeat (settleSwitch k s) k v).octet ≠ kindOctets.getD kind 0
    then tookCtl k v (settleSwitch k s) else f (ctlBeat (settleSwitch k s) k v).d (tookCtl k v (settleSwitch k s)) :=
  (if_neg hlink.not_gt).trans (if_neg (by rw [hgood]; decide))

variable (hkind : kindOctets.getD kind 0 = octet)
include hkind

theorem onBeat_other (h : ((settleSwitch k s).spoke k).state < lowest ∨ (ctlBeat (settleSwitch k s) k v).octet ≠ octet) :
    onBeat k lowest kind v f s = tookCtl k v (settleSwitch k s) := (onBeat_good hlink hgood).trans (if_pos (hkind ▸ h))

theorem onBeat_takes (hlow : lowest ≤ ((settleSwitch k s).spoke k).state) (h : (ctlBeat (settleSwitch k s) k v).octet = octet) :
    onBeat k lowest kind v f s = f (ctlBeat (settleSwitch k s) k v).d (tookCtl k v (settleSwitch k s)) :=
  (onBeat_good hlink hgood).trans (if_neg (not_or.mpr ⟨hlow.not_gt, fun hne => hne (h.trans hkind.symm)⟩))

end

/-! IDLE beats (R169). -/

/-- The faults of an IDLE beat: of its symbols, and of its scrambled content. -/
def idleFaults (k : Nat) (v : Beat) (s : State) : Nat :=
  (seenBeats s k [v]).code ||| (seenBeats s k [v]).disp |||
    idleWrong (activeLanes (s.spoke k)) (s.spoke k).rx.idle (seenBeats s k [v]).syms

/-- The state in which an IDLE beat has been read. -/
def idleRead (k : Nat) (v : Beat) (s : State) : State :=
  modSpoke k (fun x => { x with rx := { x.rx with idle := x.rx.idle + 1 } })
    (tookBeats k (idleWrong (activeLanes (s.spoke k)) (s.spoke k).rx.idle (seenBeats s k [v]).syms) (seenBeats s k [v]) s)

theorem takeIdle_noLink (h : ((settleSwitch k s).spoke k).state < 2) : takeIdle k v s = settleSwitch k s := if_pos h

theorem takeIdle_link (hlink : 2 ≤ ((settleSwitch k s).spoke k).state) : takeIdle k v s =
    onlyIf (idleFaults k v (settleSwitch k s) != 0) (count1 (cSpoke k ckBadBeat)) (idleRead k v (settleSwitch k s)) :=
  if_neg hlink.not_gt

theorem takeIdle_good (hlink : 2 ≤ ((settleSwitch k s).spoke k).state) (h : idleFaults k v (settleSwitch k s) = 0) :
    takeIdle k v s = idleRead k v (settleSwitch k s) := by
  rw [takeIdle_link hlink, h]
  rfl

theorem takeIdle_bad (hlink : 2 ≤ ((settleSwitch k s).spoke k).state) (h : idleFaults k v (settleSwitch k s) ≠ 0) :
    takeIdle k v s = count1 (cSpoke k ckBadBeat) (idleRead k v (settleSwitch k s)) :=
  (takeIdle_link hlink).trans (if_pos (bne_iff_ne.mpr h))

end

/-! RETIRE: the copies of a request, and the change of lanes (R191). -/

section
variable {k : Nat} {v : Beat} {c : CtlBeat} {s : State}

/-- The state in which a copy of a RETIRE request has been read. -/
def retireRead (k : Nat) (v : Beat) (s : State) : State :=
  if (ctlBeat s k v).good then tookCtl k v s else count1 (cSpoke k ckBadBeat) (tookCtl k v s)

theorem retireRead_heard : OnLine deaf s (retireRead k v s) := by
  unfold retireRead
  split
  · exact tookCtl_heard (.refl s)
  · exact (tookCtl_heard (.refl s)).count1

theorem takeRetire_down (h : (s.spoke k).state ≠ 6) : takeRetire k v s = s := if_pos h

theorem takeRetire_up (h : (s.spoke k).state = 6) : takeRetire k v s = retireCopy k (ctlBeat s k v) (retireRead k v s) := by
  have hread : onlyIf (!(ctlBeat s k v).good) (count1 (cSpoke k ckBadBeat)) (tookCtl k v s) = retireRead k v s := by
    unfold retireRead
    cases (ctlBeat s k v).good
    · rfl
    · rfl
  exact (if_neg (not_not.mpr h)).trans (congrArg (retireCopy k (ctlBeat s k v)) hread)

section
variable {l n : Nat} (h : (s.spoke k).rx.switch = some (l, n))
include h

theorem retireCopy_last (hn : n ≤ 1) : retireCopy k c s = changeLanes k l s := by
  rw [retireCopy, h]
  exact if_pos hn

theorem retireCopy_counts (hn : 1 < n) :
    retireCopy k c s = modSpoke k (fun x => { x with rx := { x.rx with switch := some (l, n - 1) } }) s := by
  rw [retireCopy, h]
  exact if_neg hn.not_ge

end

/-- A copy asks for the retirement of a lane in use. -/
def asksRetire (k : Nat) (c : CtlBeat) (s : State) : Prop :=
  c.good = true ∧ c.octet = 0xFB ∧ bit c.d 36 = false ∧ bit (s.spoke k).active (bits c.d 39 37) = true

theorem asksRetire_iff :
    (!c.good || c.octet != kindOctets.getD 7 0 || bit c.d 36 || !bit (s.spoke k).active (bits c.d 39 37)) = false ↔ asksRetire k c s := by
  have hkind : kindOctets.getD 7 0 = 0xFB := by decide
  simp only [hkind, asksRetire, Bool.or_eq_false_iff, Bool.not_eq_false', bne_eq_false_iff_eq, and_assoc]

section
variable (h : (s.spoke k).rx.switch = none)
include h

theorem retireCopy_first : retireCopy k c s =
    if !c.good || c.octet != kindOctets.getD 7 0 || bit c.d 36 || !bit (s.spoke k).active (bits c.d 39 37) then s
    else if laneCount (s.spoke k) ≠ 8 then spokeDown k 1 s
    else if bits c.d 35 34 = 3 then changeLanes k (bits c.d 39 37) s
    else modSpoke k (fun x => { x with rx := { x.rx with switch := some (bits c.d 39 37, 3 - bits c.d 35 34) } }) s := by
  rw [retireCopy, h]

theorem retireCopy_ignored (hasks : ¬ asksRetire k c s) : retireCopy k c s = s :=
  (retireCopy_first h).trans (if_pos (Bool.not_eq_false _ ▸ mt asksRetire_iff.mp hasks))

variable (hasks : asksRetire k c s)
include hasks

theorem retireCopy_asked : retireCopy k c s = if laneCount (s.spoke k) ≠ 8 then spokeDown k 1 s
    else if bits c.d 35 34 = 3 then changeLanes k (bits c.d 39 37) s
    else modSpoke k (fun x => { x with rx := { x.rx with switch := some (bits c.d 39 37, 3 - bits c.d 35 34) } }) s :=
  (retireCopy_first h).trans (if_neg (Bool.eq_false_iff.mp (asksRetire_iff.mpr hasks)))

theorem retireCopy_narrow (hcount : laneCount (s.spoke k) ≠ 8) : retireCopy k c s = spokeDown k 1 s :=
  (retireCopy_asked h hasks).trans (if_pos hcount)

variable (hcount : laneCount (s.spoke k) = 8)
include hcount

theorem retireCopy_fourth (hcopy : bits c.d 35 34 = 3) : retireCopy k c s = changeLanes k (bits c.d 39 37) s :=
  (retireCopy_asked h hasks).trans ((if_neg (not_not.mpr hcount)).trans (if_pos hcopy))

theorem retireCopy_earlier (hcopy : bits c.d 35 34 ≠ 3) : retireCopy k c s =
    modSpoke k (fun x => { x with rx := { x.rx with switch := some (bits c.d 39 37, 3 - bits c.d 35 34) } }) s :=
  (retireCopy_asked h hasks).trans ((if_neg (not_not.mpr hcount)).trans (if_neg hcopy))

end
end

/-! The timers of a spoke (R182, R186 to R188). -/

section
variable {k : Nat} {s : State}

theorem forAll_eq_of_keeps {α : Type} {P : State → Prop} {f g : α → State → State} (hkeep : ∀ x t, P t → P (g x t))
    (heq : ∀ x t, P t → f x t = g x t) (l : List α) (h : P s) : forAll l f s = forAll l g s := by
  induction l generalizing s with
  | nil => rfl
  | cons x r ih =>
    rw [forAll_cons, forAll_cons, heq x s h]
    exact ih (hkeep x s h)

/-- The CREDIT beats of a refresh leave the room that they tell of. -/
theorem refreshCredit_eq : refreshCredit k s = forAll (List.range 32) (fun key => sendBeat k 1 key
    ((tget 0 (s.spoke k).rx.size key + tget 0 (s.spoke k).rx.freed key) % 65536)) s :=
  forAll_eq_of_keeps (P := fun t => (t.spoke k).rx = (s.spoke k).rx)
    (fun _ t ht => ((sendBeat_spoken (.refl t)).spoken_rx k).trans ht) (fun _ t ht => by rw [ht]) _ rfl

/-- The effect of the time of a credit refresh. -/
def creditsDue (k : Nat) (s : State) : State := if 5 ≤ (s.spoke k).state then refreshCredit k s else s

/-- The effect of the time to ask for replay again. -/
def retryDue (k : Nat) (s : State) : State := match (s.spoke k).rx.lastRetry with
  | some t => if (s.spoke k).state = 6 ∧ s.since t us then sendRetry k s else s
  | none => s

theorem retryDue_asks {t : Time} (h : (s.spoke k).rx.lastRetry = some t) (hup : (s.spoke k).state = 6) (hdue : t + us ≤ s.now) :
    retryDue k s = sendRetry k s := by
  rw [retryDue, h]
  exact if_pos ⟨hup, since_iff.mpr hdue⟩

theorem retryDue_waits (h : ∀ t, (s.spoke k).rx.lastRetry = some t → (s.spoke k).state ≠ 6 ∨ s.now < t + us) : retryDue k s = s := by
  rw [retryDue]
  split
  next t ht => exact if_neg fun hgo => (h t ht).elim (· hgo.1) (since_iff.mp hgo.2).not_gt
  next => rfl

/-- The effect of the time of an owed acknowledgement. -/
def ackDue (k : Nat) (s : State) : State := match (s.spoke k).rx.owedAck with
  | some t =>
    if s.since t (128 * ns) then
      sendBeat k 5 (((s.spoke k).rx.expSeq + 2047) % 2048) 0 (modSpoke k (fun x => { x with rx := { x.rx with owedAck := none } }) s)
    else s
  | none => s

theorem ackDue_sends {t : Time} (h : (s.spoke k).rx.owedAck = some t) (hdue : t + 128 * ns ≤ s.now) : ackDue k s =
    sendBeat k 5 (((s.spoke k).rx.expSeq + 2047) % 2048) 0 (modSpoke k (fun x => { x with rx := { x.rx with owedAck := none } }) s) := by
  rw [ackDue, h]
  exact if_pos (since_iff.mpr hdue)

theorem ackDue_waits (h : ∀ t, (s.spoke k).rx.owedAck = some t → s.now < t + 128 * ns) : ackDue k s = s := by
  rw [ackDue]
  split
  next t ht => exact if_neg fun hgo => (since_iff.mp hgo).not_gt (h t ht)
  next => rfl

/-- The time without progress that a replay buffer allows. -/
def replayTime (s : State) (k : Nat) : Time := 2 ^ rf (spokeRec s k) 43 40 * 256 * ns

theorem replayExpired_waits (h : (s.spoke k).state ≠ 6 ∨ (s.spoke k).tx.replay = [] ∨ s.now < (s.spoke k).tx.progress + replayTime s k) :
    replayExpired k s = s := by
  refine if_neg ?_
  simp only [Bool.and_eq_true, decide_eq_true_iff, Bool.not_eq_true', List.isEmpty_eq_false_iff, since_iff]
  rintro ⟨⟨hup, hsome⟩, hlate⟩
  exact h.elim (· hup) (·.elim hsome hlate.not_gt)

section
variable {c : Cell} {rest : List Cell} (hup : (s.spoke k).state = 6) (hreplay : (s.spoke k).tx.replay = c :: rest)
  (hlate : (s.spoke k).tx.progress + replayTime s k ≤ s.now)
include hup hreplay hlate

theorem replayExpired_late : replayExpired k s = if 8 ≤ (s.spoke k).tx.fires + 1 then spokeDown k 2 s
    else beginReplay k c.lseq (modSpoke k (fun x => { x with tx := { x.tx with fires := x.tx.fires + 1, progress := s.now } }) s) := by
  have hgo : ((s.spoke k).state = 6 && !(s.spoke k).tx.replay.isEmpty && s.since (s.spoke k).tx.progress (replayTime s k)) = true := by
    rw [hreplay, since_iff.mpr hlate, decide_eq_true hup]
    rfl
  refine (if_pos hgo).trans ?_
  rw [hreplay]

end

/-- The codes of MGMT cells that the device knows (R177). -/
def codeKnown (code : Nat) : Bool :=
  within 0x0001 0x0040 code || within 0x0101 0x0107 code || within 0x0201 0x0204 code || code == 0x0301 ||
    within 0x0310 0x0313 code || code == 0x0401 || code == 0x0501 || code == 0x0502

theorem codeKnown_of_le {code : Nat} (h : 0x600 ≤ code) : codeKnown code = false := by
  rw [codeKnown]
  simp only [within, Bool.or_eq_false_iff, Bool.and_eq_false_iff, decide_eq_false_iff_not, beq_eq_false_iff_ne]
  omega

/-- The effect of a MGMT cell's code. -/
def codeRead (k code : Nat) (s : State) : State := if codeKnown code then s else count1 (cSpoke k ckUnknownMgmt) s

end
end Sys2Proof.Machine

namespace Sys2Proof.Machine

/-! The partner's clock goes away (R193, R195). -/

section
variable {k : Nat} {s : State}

/-- The state in which the loss of the partner's clock is noted. -/
def clockGone (k : Nat) (s : State) : State :=
  modLoop 5 k (fun l => { l with state := 2 }) (modSpoke k (fun x => { x with cadence := false }) s)

theorem clockGone_spoke : (clockGone k s).spoke k = { s.spoke k with cadence := false } := modSpoke_spoke_same ..

theorem clockGone_state : ((clockGone k s).spoke k).state = (s.spoke k).state := by rw [clockGone_spoke]

theorem cadenceLost_up (h : (s.spoke k).state = 6) : cadenceLost k s = spokeDown k 3 (clockGone k s) := if_pos (clockGone_state.trans h)

theorem cadenceLost_idle (h : (s.spoke k).state = 0) : cadenceLost k s = clockGone k s :=
  have hstate := clockGone_state.trans h
  (if_neg fun hup => absurd (hstate.symm.trans hup) (by decide)).trans (if_pos hstate)

theorem cadenceLost_trying (hup : (s.spoke k).state ≠ 6) (hidle : (s.spoke k).state ≠ 0) : cadenceLost k s = failAttempt k (clockGone k s) :=
  (if_neg fun h => hup (clockGone_state.symm.trans h)).trans (if_neg fun h => hidle (clockGone_state.symm.trans h))

end

/-! A bucket's move is over (R207, R208, R248). -/

section
variable {n b : Nat} {s : State}

/-- The state in which a bucket's move has ended. -/
def moveEnded (n b : Nat) (s : State) : State :=
  putBucket n b { s.bucket n b with movingSince := none, movedIn := some (coreTick s) } s

/-- What follows the end of a bucket's move, the bucket now on the spoke `o`. -/
def moveSettled (n b : Nat) (o : Option Nat) (s : State) : State :=
  if routeDead s n then
    releaseDevice n (forAll (s.spokes.ctl.filter fun e => e.1 == n * 16 + b) (fun _ => countLost (168 + n))
      (endSeqsWhere (fun q => q.dev == s.dev && q.targetDev == n)
        { s with spokes.ctl := s.spokes.ctl.filter fun e => e.1 != n * 16 + b }))
  else match homeSpoke s n b with
    | some h => if spokeUp s h && o != some h then startBack n b s else releaseCtl n b s
    | none => releaseCtl n b s

/-- The effect of the time at which a bucket's move ends. -/
def moveTimer (n b : Nat) (s : State) : State := match (s.bucket n b).movingSince with
  | some t => if s.since t ms then moveSettled n b (s.bucket n b).spoke (moveEnded n b s) else s
  | none => s

theorem moveTimer_ends {t : Time} (h : (s.bucket n b).movingSince = some t) (hdue : t + ms ≤ s.now) :
    moveTimer n b s = moveSettled n b (s.bucket n b).spoke (moveEnded n b s) := by
  rw [moveTimer, h]
  exact if_pos (since_iff.mpr hdue)

theorem moveTimer_waits (h : ∀ t, (s.bucket n b).movingSince = some t → s.now < t + ms) : moveTimer n b s = s := by
  rw [moveTimer]
  split
  next t ht => exact if_neg fun hgo => (since_iff.mp hgo).not_gt (h t ht)
  next => rfl

section
variable {o : Option Nat}

theorem moveSettled_dead (h : routeDead s n = true) : moveSettled n b o s =
    releaseDevice n (forAll (s.spokes.ctl.filter fun e => e.1 == n * 16 + b) (fun _ => countLost (168 + n))
      (endSeqsWhere (fun q => q.dev == s.dev && q.targetDev == n)
        { s with spokes.ctl := s.spokes.ctl.filter fun e => e.1 != n * 16 + b })) := if_pos h

variable (hroute : routeDead s n = false)
include hroute

theorem moveSettled_alive : moveSettled n b o s = match homeSpoke s n b with
    | some h => if spokeUp s h && o != some h then startBack n b s else releaseCtl n b s
    | none => releaseCtl n b s := if_neg (Bool.eq_false_iff.mp hroute)

theorem moveSettled_back {h : Nat} (hhome : homeSpoke s n b = some h) (hup : spokeUp s h = true) (hne : o ≠ some h) :
    moveSettled n b o s = startBack n b s := by
  rw [moveSettled_alive hroute, hhome]
  exact if_pos (by rw [hup, Bool.true_and, bne_iff_ne]; exact hne)

theorem moveSettled_stays (h : ∀ h, homeSpoke s n b = some h → spokeUp s h = false ∨ o = some h) :
    moveSettled n b o s = releaseCtl n b s := by
  rw [moveSettled_alive hroute]
  split
  next j hj =>
    refine if_neg ?_
    rw [Bool.and_eq_true, bne_iff_ne]
    rintro ⟨hup, hne⟩
    exact (h j hj).elim (fun hdown => Bool.noConfusion (hdown.symm.trans hup)) hne
  next => rfl

end

/-! A bucket moves back (R208). -/

/-- The bucket on its home spoke `h` again; the move is counted at the spoke that it leaves. -/
def movedHome (n b h : Nat) (s : State) : State :=
  releaseCtl n b (putBucket n b { spoke := some h, movedIn := some (coreTick s) } (match (s.bucket n b).spoke with
    | some o => count1 (cSpoke o ckBucketMoves) s
    | none => s))

theorem movedHome_from {h o : Nat} (ho : (s.bucket n b).spoke = some o) : movedHome n b h s =
    releaseCtl n b (putBucket n b { spoke := some h, movedIn := some (coreTick s) } (count1 (cSpoke o ckBucketMoves) s)) := by
  rw [movedHome, ho]

/-- The effect of the time at which a bucket moves back. -/
def backTimer (n b : Nat) (s : State) : State := match (s.bucket n b).backSince, (s.bucket n b).readyAt, homeSpoke s n b with
  | some _, some t, some h =>
    if !bucketClear s n b then putBucket n b { s.bucket n b with readyAt := none } s
    else if s.since t (2 * us) && spokeUp s h then movedHome n b h s
    else s
  | _, _, _ => s

theorem backTimer_none (h : (s.bucket n b).backSince = none ∨ (s.bucket n b).readyAt = none ∨ homeSpoke s n b = none) :
    backTimer n b s = s := by
  rw [backTimer]
  split
  next hback hready hhome =>
    rw [hback, hready, hhome] at h
    simp at h
  next => rfl

section
variable {t0 t : Time} {h : Nat} (hback : (s.bucket n b).backSince = some t0) (hready : (s.bucket n b).readyAt = some t)
  (hhome : homeSpoke s n b = some h)
include hback hready hhome

theorem backTimer_ready : backTimer n b s =
    if !bucketClear s n b then putBucket n b { s.bucket n b with readyAt := none } s
    else if s.since t (2 * us) && spokeUp s h then movedHome n b h s
    else s := by
  rw [backTimer, hback, hready, hhome]

theorem backTimer_busy (hclear : bucketClear s n b = false) : backTimer n b s = putBucket n b { s.bucket n b with readyAt := none } s :=
  (backTimer_ready hback hready hhome).trans (if_pos (by rw [hclear]; rfl))

variable (hclear : bucketClear s n b = true)
include hclear

theorem backTimer_clear : backTimer n b s = if s.since t (2 * us) && spokeUp s h then movedHome n b h s else s :=
  (backTimer_ready hback hready hhome).trans (if_neg (by rw [hclear]; decide))

theorem backTimer_moves (hdue : t + 2 * us ≤ s.now) (hup : spokeUp s h = true) : backTimer n b s = movedHome n b h s :=
  (backTimer_clear hback hready hhome hclear).trans (if_pos (by rw [since_iff.mpr hdue, hup]; rfl))

theorem backTimer_waits (hwait : s.now < t + 2 * us ∨ spokeUp s h = false) : backTimer n b s = s := by
  refine (backTimer_clear hback hready hhome hclear).trans (if_neg ?_)
  rw [Bool.and_eq_true, since_iff]
  rintro ⟨hdue, hup⟩
  exact hwait.elim hdue.not_gt (fun hdown => Bool.noConfusion (hdown.symm.trans hup))

end
end
end Sys2Proof.Machine

namespace Sys2Proof

open Machine

section
variable {s t : State} {dt : Time} {k n b : Nat}

/-- A control beat of a kind: on a link not in use, bad, of another kind, or taken. -/
theorem controlBeat_gives {cmd : Instr} {lowest kind octet : Nat} {f : Nat → State → State} {v : Beat}
    (hcmd : Machine.exec cmd s = run dt (okSpoke k) (onBeat k lowest kind v f) s) (hkind : kindOctets.getD kind 0 = octet) (hk : k < 40) :
    let e := settleSwitch k (advance dt s); let c := ctlBeat e k v
    ((e.spoke k).state < 2 → Gives cmd s e) ∧
    (2 ≤ (e.spoke k).state → c.good = false → Gives cmd s (count1 (cSpoke k ckBadBeat) (tookCtl k v e))) ∧
    (2 ≤ (e.spoke k).state → c.good = true → ((e.spoke k).state < lowest ∨ c.octet ≠ octet) → Gives cmd s (tookCtl k v e)) ∧
    (2 ≤ (e.spoke k).state → lowest ≤ (e.spoke k).state → c.good = true → c.octet = octet → Gives cmd s (f c.d (tookCtl k v e))) := by
  intro e c
  have gives {t : State} (h : onBeat k lowest kind v f (advance dt s) = t) : Gives cmd s t := Gives.of_run hcmd (decide_eq_true hk) h
  exact ⟨fun h => gives (onBeat_noLink h), fun hlink hbad => gives (onBeat_bad hlink hbad),
    fun hlink hgood hother => gives (onBeat_other hlink hgood hkind hother),
    fun hlink hlow hgood hoctet => gives (onBeat_takes hlink hgood hkind hlow hoctet)⟩

theorem preemptReceived_gives {part : List Beat} {v : Beat} (hk : k < 40) (h : takePreempt k part v (advance dt s) = t) :
    Gives (.preemptReceived dt k part v) s t := run_gives (decide_eq_true hk) h

theorem idleBeatReceived_gives {v : Beat} (hk : k < 40) (h : takeIdle k v (advance dt s) = t) :
    Gives (.idleBeatReceived dt k v) s t := run_gives (decide_eq_true hk) h

theorem retireRequestReceived_gives {v : Beat} (hk : k < 40) (h : takeRetire k v (advance dt s) = t) :
    Gives (.retireRequestReceived dt k v) s t := run_gives (decide_eq_true hk) h

theorem creditRefresh_gives (hk : k < 40) (h : creditsDue k (advance dt s) = t) : Gives (.creditRefresh dt k) s t :=
  Gives.of_run (f := creditsDue k) rfl (decide_eq_true hk) h

theorem retryReqRepeat_gives (hk : k < 40) (h : retryDue k (advance dt s) = t) : Gives (.retryReqRepeat dt k) s t :=
  Gives.of_run (f := retryDue k) rfl (decide_eq_true hk) h

theorem ackBeatTimer_gives (hk : k < 40) (h : ackDue k (advance dt s) = t) : Gives (.ackBeatTimer dt k) s t :=
  Gives.of_run (f := ackDue k) rfl (decide_eq_true hk) h

theorem replayTimeout_gives (hk : k < 40) (h : replayExpired k (advance dt s) = t) : Gives (.replayTimeout dt k) s t :=
  run_gives (decide_eq_true hk) h

theorem mgmtUnknownCode_gives {v : Nat} (hk : k < 40) (h : codeRead k v (advance dt s) = t) : Gives (.mgmtUnknownCode dt k v) s t :=
  Gives.of_run (f := codeRead k v) rfl (decide_eq_true hk) h

/-- The effect of the loss of the partner's clock. -/
def clockLoss (k : Nat) (s : State) : State := settleLoops (cadenceLost k s)

theorem cadenceLoss_gives (hk : k < 40) (h : cadenceLost k (advance dt s) = t) : Gives (.cadenceLoss dt k) s (settleLoops t) :=
  Gives.of_run (f := clockLoss k) rfl (decide_eq_true hk) (congrArg settleLoops h)

theorem bucket_ok (hn : n < 64) (hb : b < 16) : (okDev n && okBucket b) = true := by
  rw [okDev, okBucket, decide_eq_true hn, decide_eq_true hb]
  rfl

theorem bucketMoveComplete_gives (hn : n < 64) (hb : b < 16) (h : moveTimer n b (advance dt s) = t) :
    Gives (.bucketMoveComplete dt n b) s t := Gives.of_run (f := moveTimer n b) rfl (bucket_ok hn hb) h

theorem bucketMoveBack_gives (hn : n < 64) (hb : b < 16) (h : backTimer n b (advance dt s) = t) :
    Gives (.bucketMoveBack dt n b) s t := Gives.of_run (f := backTimer n b) rfl (bucket_ok hn hb) h

end

/-- Settles O52: each control beat by its four outcomes, each timer by what it finds due; of a spoke that goes down, what the loss of its frames and
cells leaves of the line state. -/
theorem controlBeatsAndSpokeLoss : Obligations.ControlBeatsAndSpokeLoss := by
  unfold Obligations.ControlBeatsAndSpokeLoss
  refine ⟨?beats, ?retire, ?timers, ?loss⟩
  case beats =>
    intro s dt k a e st takes hk
    refine ⟨fun v => controlBeat_gives (f := takeCredit k) rfl rfl hk, fun v => controlBeat_gives (f := takeResume k) rfl rfl hk,
      fun v => controlBeat_gives (f := takeRetry k) rfl rfl hk,
      fun v => controlBeat_gives (f := fun d => ackCells k (bits d 39 29)) rfl rfl hk,
      fun v => controlBeat_gives (f := fun d => onlyIf (bit d 36) (modSpoke k fun x => { x with exchangeSpoiled := true })) rfl rfl hk,
      ?preempt, ?idle⟩
    case preempt =>
      intro part v u st c b
      exact ⟨fun h => preemptReceived_gives hk (onBeat_noLink h),
        fun hlink hbad => preemptReceived_gives hk (onBeat_bad hlink hbad),
        fun hlink hgood hother => preemptReceived_gives hk (onBeat_other hlink hgood rfl hother),
        fun hup hgood hoctet => preemptReceived_gives hk (onBeat_takes (le_trans (by decide) hup) hgood rfl hup hoctet)⟩
    case idle =>
      intro v y x wrong b
      exact ⟨fun h => idleBeatReceived_gives hk (takeIdle_noLink h),
        fun hlink hgood => idleBeatReceived_gives hk (takeIdle_good hlink hgood),
        fun hlink hbad => idleBeatReceived_gives hk (takeIdle_bad hlink hbad)⟩
  case retire =>
    intro s dt k v a x c b lane change hk
    have hheard : OnLine deaf a b := retireRead_heard
    have hactive : (b.spoke k).active = x.active := hheard.heard_active k
    have hswitch : (b.spoke k).rx.switch = x.rx.switch := hheard.heard_switch k
    have hlanes : laneCount (b.spoke k) = laneCount x := congrArg (popcount · 8) hactive
    have hchange (l : Nat) : changeLanes k l b = change l := by rw [changeLanes, hheard.heard_tx k]
    have gives {t : State} (hup : x.state = 6) (h : retireCopy k c b = t) : Gives (.retireRequestReceived dt k v) s t :=
      retireRequestReceived_gives hk ((takeRetire_up hup).trans h)
    refine ⟨fun h => retireRequestReceived_gives hk (takeRetire_down h), fun hup l n h => ?_, fun hup h => ?_⟩
    · exact ⟨fun hn => gives hup ((retireCopy_last (hswitch.trans h) hn).trans (hchange l)),
        fun hn => gives hup (retireCopy_counts (hswitch.trans h) hn)⟩
    · intro good
      have hasks : asksRetire k c b ↔ good := by rw [asksRetire, hactive]
      have hnone := hswitch.trans h
      exact ⟨fun hnot => gives hup (retireCopy_ignored hnone (mt hasks.mp hnot)),
        fun hgood hnarrow => gives hup (retireCopy_narrow hnone (hasks.mpr hgood) (hlanes ▸ hnarrow)),
        fun hgood h8 h3 => gives hup ((retireCopy_fourth hnone (hasks.mpr hgood) (hlanes.trans h8) h3).trans (hchange lane)),
        fun hgood h8 h3 => gives hup (retireCopy_earlier hnone (hasks.mpr hgood) (hlanes.trans h8) h3)⟩
  case timers =>
    intro s dt k v a x hk
    refine ⟨fun h => creditRefresh_gives hk ((if_pos h).trans refreshCredit_eq), fun h => creditRefresh_gives hk (if_neg h.not_ge),
      fun t ht hup hdue => retryReqRepeat_gives hk (retryDue_asks ht hup hdue), fun h => retryReqRepeat_gives hk (retryDue_waits h),
      fun t ht hdue => ackBeatTimer_gives hk (ackDue_sends ht hdue), fun h => ackBeatTimer_gives hk (ackDue_waits h),
      fun c rest hup hreplay hlate => ?_, fun h => replayTimeout_gives hk (replayExpired_waits h),
      fun h => mgmtUnknownCode_gives hk (if_neg (Bool.eq_false_iff.mp (codeKnown_of_le h))),
      fun h => mgmtUnknownCode_gives hk (if_pos ?_)⟩
    · have hexpired := replayExpired_late hup hreplay hlate
      exact ⟨fun hfew => replayTimeout_gives hk (hexpired.trans (if_neg (Nat.succ_le_succ_iff.not.mpr hfew.not_ge))),
        fun hmany => replayTimeout_gives hk (hexpired.trans (if_pos (Nat.succ_le_succ hmany)))⟩
    · revert v
      decide
  case loss =>
    intro s dt k n b a
    refine ⟨fun h => ?down, fun hk => ?clock, fun hn hb => ?buckets⟩
    case down =>
      intro t
      have hline := spokeDown_line (n := n) h
      have hstate : (t.spoke k).state = 1 := congrArg (·.1) hline
      exact ⟨hstate, congrArg (·.2.1) hline, congrArg (·.2.2) hline, spokeDown_inPlumb h,
        spokeUp_of_state (by rw [hstate]; decide), spokeDown_alerts h⟩
    case clock =>
      intro c
      exact ⟨fun h => cadenceLoss_gives hk (cadenceLost_up h), fun h => cadenceLoss_gives hk (cadenceLost_idle h),
        fun hup hidle => cadenceLoss_gives hk (cadenceLost_trying hup hidle)⟩
    case buckets =>
      intro x
      refine ⟨fun t ht hdue => ?_, fun h => bucketMoveComplete_gives hn hb (moveTimer_waits h), fun t0 t h hback hready hhome => ?_,
        fun h => bucketMoveBack_gives hn hb (backTimer_none h)⟩
      · intro u
        have hends : moveTimer n b a = moveSettled n b x.spoke u := moveTimer_ends ht hdue
        exact ⟨fun hdead => bucketMoveComplete_gives hn hb (hends.trans (moveSettled_dead hdead)),
          fun halive => ⟨fun h hhome hup hne => bucketMoveComplete_gives hn hb (hends.trans (moveSettled_back halive hhome hup hne)),
            fun hstays => bucketMoveComplete_gives hn hb (hends.trans (moveSettled_stays halive hstays))⟩⟩
      · exact ⟨fun hbusy => bucketMoveBack_gives hn hb (backTimer_busy hback hready hhome hbusy),
          fun hclear hdue hup o ho => bucketMoveBack_gives hn hb
            ((backTimer_moves hback hready hhome hclear hdue hup).trans (movedHome_from ho)),
          fun hclear hwait => bucketMoveBack_gives hn hb (backTimer_waits hback hready hhome hclear hwait)⟩

end Sys2Proof

namespace Sys2Proof.Machine

/-! What waits for a time: an entry of a table, or an episode, that is found and due (R228, R233, R238). -/

section
variable {α : Type} {o : Option α} {x : α} {due : α → Bool} {f : α → State → State} {s : State}

/-- The effect of a time on what waits for it: none when nothing is found, or when it is not due. -/
def whenDue (o : Option α) (due : α → Bool) (f : α → State → State) (s : State) : State := match o with
  | some x => if due x then f x s else s
  | none => s

theorem whenDue_due (hx : o = some x) (h : due x = true) : whenDue o due f s = f x s := by
  rw [hx]
  exact if_pos h

theorem whenDue_waits (hx : o = some x) (h : due x = false) : whenDue o due f s = s := by
  rw [hx]
  exact if_neg (Bool.eq_false_iff.mp h)

theorem whenDue_none (h : o = none) : whenDue o due f s = s := by rw [h]; rfl

end

theorem run_congr {dt : Time} {ok : Bool} {f g : State → State} {s : State} (h : ∀ s, f s = g s) : run dt ok f s = run dt ok g s :=
  congrArg (run dt ok · s) (funext h)

theorem since_eq_false {s : State} {u d : Time} (h : s.now < u + d) : s.since u d = false := decide_eq_false h.not_ge

/-- A quarantine, of a read's tag or of a write's tracker, is over. -/
def quarantineOver (live : Bool) (freeAt now : Time) : Bool := !live && decide (freeAt ≤ now)

theorem quarantineOver_of_due {live : Bool} {t now : Time} (hlive : live = false) (h : t ≤ now) : quarantineOver live t now = true := by
  rw [quarantineOver, hlive, decide_eq_true h]
  rfl

theorem quarantineOver_eq_false {live : Bool} {t now : Time} (h : live = true ∨ now < t) : quarantineOver live t now = false := by
  rw [quarantineOver]
  rcases h with hlive | hearly
  · rw [hlive]; rfl
  · rw [decide_eq_false hearly.not_ge, Bool.and_false]

/-! The tag table at its times (R228). -/

section
variable {i n : Nat} {e : TagEntry} {s : State}

theorem timeoutTag_live (he : tfind s.bridge.tags i = some e) (hlive : e.live = true) : timeoutTag i n s =
    quarTag i (episodeRecord true e.srcPart (tagRec s e 0x0411 (e.timeout / 1024) n)
      (answerEntry e .ca (count1 (cPart e.srcPart 2) s))) := by
  rw [timeoutTag, he]
  exact if_pos hlive

theorem timeoutTag_quarantined (he : tfind s.bridge.tags i = some e) (hlive : e.live = false) : timeoutTag i n s = s := by
  rw [timeoutTag, he]
  exact if_neg (Bool.eq_false_iff.mp hlive)

/-- The entry of a read times out; a read of the mover ends with it (R296). -/
def readExpired (i : Nat) (e : TagEntry) (s : State) : State := match e.func with
  | some f => if e.live then readTimedOut f e.origTag (timeoutTag i 0 s) else timeoutTag i 0 s
  | none => timeoutTag i 0 s

theorem readExpired_port (hfunc : e.func = none) : readExpired i e s = timeoutTag i 0 s := by rw [readExpired, hfunc]

theorem readExpired_quarantined (he : tfind s.bridge.tags i = some e) (hlive : e.live = false) : readExpired i e s = s := by
  have htag : timeoutTag i 0 s = s := timeoutTag_quarantined he hlive
  rw [readExpired]
  split
  · exact (if_neg (Bool.eq_false_iff.mp hlive)).trans htag
  · exact htag

/-- The effect of the time at which an entry's read times out. -/
def readTimer (i : Nat) (s : State) : State :=
  whenDue (tfind s.bridge.tags i) (fun e => s.since e.issued e.timeout) (readExpired i) s

theorem readTimer_expires (he : tfind s.bridge.tags i = some e) (hlive : e.live = true) (hdue : e.issued + e.timeout ≤ s.now)
    (hfunc : e.func = none) : readTimer i s =
      quarTag i (episodeRecord true e.srcPart (tagRec s e 0x0411 (e.timeout / 1024) 0)
        (answerEntry e .ca (count1 (cPart e.srcPart 2) s))) :=
  (whenDue_due he (since_iff.mpr hdue)).trans ((readExpired_port hfunc).trans (timeoutTag_live he hlive))

theorem readTimer_waits (he : tfind s.bridge.tags i = some e) (h : e.live = false ∨ s.now < e.issued + e.timeout) :
    readTimer i s = s := by
  by_cases hdue : e.issued + e.timeout ≤ s.now
  · have hlive : e.live = false := h.resolve_right hdue.not_gt
    exact (whenDue_due he (since_iff.mpr hdue)).trans (readExpired_quarantined he hlive)
  · exact whenDue_waits he (since_eq_false (not_le.mp hdue))

theorem execReadTimeout_eq {dt : Time} : execReadTimeout dt i s = run dt (okTag i) (readTimer i) s := run_congr fun s => by
  rw [readTimer]
  cases tfind s.bridge.tags i <;> rfl

/-- The effect of the time at which an entry's quarantine ends. -/
def tagTimer (i : Nat) (s : State) : State :=
  whenDue (tfind s.bridge.tags i) (fun e => quarantineOver e.live e.freeAt s.now) (fun _ => freeTag i) s

theorem execTagQuarantineEnd_eq {dt : Time} : execTagQuarantineEnd dt i s = run dt (okTag i) (tagTimer i) s := run_congr fun s => by
  rw [tagTimer]
  cases tfind s.bridge.tags i <;> rfl

end

/-! The write trackers at their times, and their answers (R231, R233). -/

section
variable {i cause : Nat} {quar : Bool} {t : Tracker} {r : AckRec} {s : State}

theorem failTracker_quarantined (ht : tfind s.bridge.trackers i = some t) (hlive : t.live = false) :
    failTracker i cause quar s = s := by
  rw [failTracker, ht]
  exact if_neg (Bool.eq_false_iff.mp hlive)

/-- The state in which the tracker of a failed write is in quarantine, or free. -/
def trackerEnded (i : Nat) (t : Tracker) (quar : Bool) (s : State) : State :=
  if quar then { s with bridge.trackers := tput s.bridge.trackers i { t with live := false, freeAt := s.now + quarantine } }
  else { s with bridge.trackers := tdel s.bridge.trackers i }

theorem failTracker_live (ht : tfind s.bridge.trackers i = some t) (hlive : t.live = true) :
    failTracker i cause quar s = writeFailure cause (trackerRec t s) t.srcPart (trackerEnded i t quar s) := by
  rw [failTracker, ht]
  exact if_pos hlive

/-- The effect of the time at which a write has gone without an answer. -/
def answerTimer (i : Nat) (s : State) : State :=
  whenDue (tfind s.bridge.trackers i) (fun t => s.since t.issued (8 * ms)) (fun _ => failTracker i 8 true) s

theorem answerTimer_fails (ht : tfind s.bridge.trackers i = some t) (hlive : t.live = true) (hdue : t.issued + 8 * ms ≤ s.now) :
    answerTimer i s = writeFailure 8 (trackerRec t s) t.srcPart
      { s with bridge.trackers := tput s.bridge.trackers i { t with live := false, freeAt := s.now + quarantine } } :=
  (whenDue_due ht (since_iff.mpr hdue)).trans (failTracker_live ht hlive)

theorem answerTimer_waits (ht : tfind s.bridge.trackers i = some t) (h : t.live = false ∨ s.now < t.issued + 8 * ms) :
    answerTimer i s = s := by
  by_cases hdue : t.issued + 8 * ms ≤ s.now
  · have hlive : t.live = false := h.resolve_right hdue.not_gt
    exact (whenDue_due ht (since_iff.mpr hdue)).trans (failTracker_quarantined ht hlive)
  · exact whenDue_waits ht (since_eq_false (not_le.mp hdue))

theorem execTrackerNoAnswer_eq {dt : Time} : execTrackerNoAnswer dt i s = run dt (okTracker i) (answerTimer i) s := run_congr fun s => by
  rw [answerTimer]
  cases tfind s.bridge.trackers i <;> rfl

/-- The effect of the time at which a tracker's quarantine ends. -/
def trackerTimer (i : Nat) (s : State) : State :=
  whenDue (tfind s.bridge.trackers i) (fun t => quarantineOver t.live t.freeAt s.now)
    (fun _ s => { s with bridge.trackers := tdel s.bridge.trackers i }) s

theorem execTrackerQuarantineEnd_eq {dt : Time} : execTrackerQuarantineEnd dt i s = run dt (okTracker i) (trackerTimer i) s :=
  run_congr fun s => by
    rw [trackerTimer]
    cases tfind s.bridge.trackers i <;> rfl

section
variable (hfound : (s.bridge.trackers.find? fun x => x.2.live && answers r x.2) = some (i, t))
include hfound

theorem resolveAnswer_ack (hack : r.nak = false) : resolveAnswer r s = { s with bridge.trackers := tdel s.bridge.trackers i } := by
  rw [resolveAnswer, hfound]
  exact if_neg (Bool.eq_false_iff.mp hack)

/-- A refusal reaches the tracker that it answers; the table holds that tracker under its own key. -/
theorem resolveAnswer_nak (ht : tfind s.bridge.trackers i = some t) (hnak : r.nak = true) : resolveAnswer r s =
    writeFailure r.cause (trackerRec t s) t.srcPart { s with bridge.trackers := tdel s.bridge.trackers i } := by
  have hanswers : (t.live && answers r t) = true := List.find?_some (p := fun x : Nat × Tracker => x.2.live && answers r x.2) hfound
  have hlive : t.live = true := (Bool.and_eq_true_iff.mp hanswers).1
  rw [resolveAnswer, hfound]
  exact (if_pos hnak).trans (failTracker_live ht hlive)

end

theorem resolveAnswer_late (h : (s.bridge.trackers.find? fun x => x.2.live && answers r x.2) = none) :
    resolveAnswer r s = lateAnswer r ((s.bridge.trackers.find? fun x => answers r x.2).map (·.2)) s := by
  rw [resolveAnswer, h]

end

/-! A completion is matched with the entry of its read (R227). -/

section
variable {i sub : Nat} {e : TagEntry} {f : Frame} {c : Tlp} {s : State}

/-- An entry's read is the one that a completion with this subscriber, requester and tag answers. -/
def entryOf (sub rid tag : Nat) (x : Nat × TagEntry) : Bool := x.2.asPart == sub && x.2.asRid == rid && x.2.wireTag == tag

theorem cplSvc_of_entry (h : (s.bridge.tags.find? fun x => x.2.live && entryOf sub c.targetId c.tag x) = some (i, e)) :
    cplSvc s sub c = svcOf s e.origPort c.tc := by
  simp only [entryOf, ← Bool.and_assoc] at h
  simp only [cplSvc, h]

theorem matchCompletion_late (h : (s.bridge.tags.find? fun x => x.2.live && entryOf f.sub f.tlp.targetId f.tlp.tag x) = none) :
    matchCompletion f s = lateCompletion f.sub f.tlp.targetId f.tlp.tag
      ((s.bridge.tags.find? fun x => !x.2.live && entryOf f.sub f.tlp.targetId f.tlp.tag x).map fun x => x.2.issuedFt) s := by
  simp only [entryOf] at h
  simp only [matchCompletion, h, entryOf]

/-- A completion is longer than its requester's port carries (Table 7.8). -/
def tooLong (s : State) (e : TagEntry) (t : Tlp) : Bool := e.func.isNone && decide ((s.port e.origPort).mps < t.payload)

theorem tooLong_iff : tooLong s e c = true ↔ e.func = none ∧ (s.port e.origPort).mps < c.payload := by
  rw [tooLong, Bool.and_eq_true, Option.isNone_iff_eq_none, decide_eq_true_iff]

/-- A completion says that its request has succeeded. -/
def succeeds (t : Tlp) : Bool := match t.kind with
  | .completion .sc => true
  | _ => false

theorem succeeds_iff : succeeds c = true ↔ c.kind = .completion .sc := by
  rw [succeeds]
  split
  next hkind => exact iff_of_true rfl hkind
  next hkind => exact iff_of_false Bool.false_ne_true hkind

/-- A completion is the last of its entry: one with another status than success, or with the last byte. -/
def lastOf (e : TagEntry) (t : Tlp) : Bool := !succeeds t || decide (e.remaining ≤ t.payload)

theorem lastOf_iff : lastOf e c = true ↔ c.kind ≠ .completion .sc ∨ e.remaining ≤ c.payload := by
  rw [lastOf, Bool.or_eq_true, Bool.not_eq_true', ← Bool.not_eq_true, succeeds_iff, decide_eq_true_iff]

/-- The frame in which a completion goes on to its requester. -/
def onward (s : State) (i : Nat) (e : TagEntry) (f : Frame) : Frame :=
  { f with
    tlp := { f.tlp with targetId := e.origRid, tag := e.origTag }, dstDev := s.dev, dstPort := e.origPort, tagEntry := some i
    issuedRid := e.origRid, issuedTag := e.origTag, ends := e.func.map fun _ => .functions e.srcPart }

section
variable (h : (s.bridge.tags.find? fun x => x.2.live && entryOf f.sub f.tlp.targetId f.tlp.tag x) = some (i, e))
include h

theorem matchCompletion_entry : matchCompletion f s =
    if tooLong s e f.tlp then quarTag i (answerEntry e .ca (episodeRecord true e.srcPart
      { tagRec s e 0x0414 f.tlp.payload (s.port e.origPort).mps with srcPart := some e.srcPart } (count1 (cPort e.origPort 29) s)))
    else newFrame (onward s i e f) (if lastOf e f.tlp then freeTag i s
      else { s with bridge.tags := tput s.bridge.tags i { e with remaining := e.remaining - f.tlp.payload } }) := by
  simp only [entryOf] at h
  simp only [matchCompletion, h]
  rfl

theorem matchCompletion_tooLong (hlong : e.func = none ∧ (s.port e.origPort).mps < f.tlp.payload) : matchCompletion f s =
    quarTag i (answerEntry e .ca (episodeRecord true e.srcPart
      { tagRec s e 0x0414 f.tlp.payload (s.port e.origPort).mps with srcPart := some e.srcPart } (count1 (cPort e.origPort 29) s))) :=
  (matchCompletion_entry h).trans (if_pos (tooLong_iff.mpr hlong))

variable (hfits : ¬ (e.func = none ∧ (s.port e.origPort).mps < f.tlp.payload))
include hfits

theorem matchCompletion_fits : matchCompletion f s = newFrame (onward s i e f) (if lastOf e f.tlp then freeTag i s
    else { s with bridge.tags := tput s.bridge.tags i { e with remaining := e.remaining - f.tlp.payload } }) :=
  (matchCompletion_entry h).trans (if_neg (mt tooLong_iff.mp hfits))

theorem matchCompletion_last (hlast : f.tlp.kind ≠ .completion .sc ∨ e.remaining ≤ f.tlp.payload) :
    matchCompletion f s = newFrame (onward s i e f) (freeTag i s) :=
  (matchCompletion_fits h hfits).trans (congrArg _ (if_pos (lastOf_iff.mpr hlast)))

theorem matchCompletion_more (hmore : ¬ (f.tlp.kind ≠ .completion .sc ∨ e.remaining ≤ f.tlp.payload)) :
    matchCompletion f s = newFrame (onward s i e f)
      { s with bridge.tags := tput s.bridge.tags i { e with remaining := e.remaining - f.tlp.payload } } :=
  (matchCompletion_fits h hfits).trans (congrArg _ (if_neg (mt lastOf_iff.mp hmore)))

end
end

section
variable {spoke : Option Nat} {sub colour : Nat} {c : Tlp} {s : State}

/-- The frame as which a completion from a spoke is matched. -/
def bridgedFrame (s : State) (spoke : Option Nat) (sub svc colour : Nat) (c : Tlp) : Frame :=
  { cplFrame s spoke sub svc c with colour := min colour 2, slots := false }

/-- The effect of a completion from a spoke; another TLP has none. -/
def takeCompletion (spoke : Option Nat) (sub colour : Nat) (c : Tlp) (s : State) : State :=
  if streamOf c.kind = 2 then matchCompletion (bridgedFrame s spoke sub (cplSvc s sub c) colour c) s else s

theorem takeCompletion_other (h : streamOf c.kind ≠ 2) : takeCompletion spoke sub colour c s = s := if_neg h

section
variable (hkind : streamOf c.kind = 2)
include hkind

theorem takeCompletion_matches :
    takeCompletion spoke sub colour c s = matchCompletion (bridgedFrame s spoke sub (cplSvc s sub c) colour c) s := if_pos hkind

theorem takeCompletion_late (h : (s.bridge.tags.find? fun x => x.2.live && entryOf sub c.targetId c.tag x) = none) :
    takeCompletion spoke sub colour c s = lateCompletion sub c.targetId c.tag
      ((s.bridge.tags.find? fun x => !x.2.live && entryOf sub c.targetId c.tag x).map fun x => x.2.issuedFt) s :=
  (takeCompletion_matches hkind).trans (matchCompletion_late h)

end
end

/-! Failed writes and their episodes (R236 to R238). -/

section
variable {cause part d p q c : Nat} {r : ErrRec} {e : Episode} {s : State}

theorem writeFailure_joins (h : findEpisode s 0 part r.dstDev r.dstPort = some e) :
    writeFailure cause r part s = extendEpisode 0 part r.dstDev r.dstPort (count1 (cPart part (3 + (cause - 1))) s) := by
  have hopen : findEpisode (count1 (cPart part (3 + (cause - 1))) s) 0 part r.dstDev r.dstPort = some e := h
  simp only [writeFailure, writeFailureBy, hopen]

/-- The state in which a failed write that opens an episode has been counted and recorded. -/
def failureNoted (cause : Nat) (r : ErrRec) (part : Nat) (s : State) : State :=
  record [part] { r with cause := 0x0400 + cause, cls := 1, fl := 2, count := 1 } (count1 (cPart part (3 + (cause - 1))) s)

theorem writeFailure_opens (h : findEpisode s 0 part r.dstDev r.dstPort = none) (hcont : continues s part = false)
    (hfence : fenced s part r.dstDev r.dstPort = false) (hroom : (failureNoted cause r part s).bridge.episodes.length < 1024) :
    writeFailure cause r part s = { failureNoted cause r part s with
      bridge.fences := (failureNoted cause r part s).bridge.fences ++ [(part, r.dstDev, r.dstPort)]
      bridge.episodes := (failureNoted cause r part s).bridge.episodes ++
        [⟨0, part, r.dstDev, r.dstPort, 1, s.now, { r with cause := 0x0400 + cause, cls := 1 }, true⟩] } := by
  have hopen : findEpisode (count1 (cPart part (3 + (cause - 1))) s) 0 part r.dstDev r.dstPort = none := h
  have hfences : (continues (count1 (cPart part (3 + (cause - 1))) s) part ||
      fenced (count1 (cPart part (3 + (cause - 1))) s) part r.dstDev r.dstPort) = false := Bool.or_eq_false_iff.mpr ⟨hcont, hfence⟩
  simp only [writeFailure, writeFailureBy, hopen, hfences]
  exact if_pos hroom

/-- The effect of the time at which an episode may close. -/
def episodeTimer (c p d q : Nat) (s : State) : State :=
  whenDue (findEpisode s c p d q) (closable s) (fun e s => closeEpisode e
    { s with bridge.episodes := s.bridge.episodes.filter fun x => !(x.cause == c && x.part == p && x.dev == d && x.port == q) }) s

theorem execEpisodeClose_eq {dt : Time} :
    execEpisodeClose dt c p d q s = run dt (okEpisodePart p && okDev d && okPort q) (episodeTimer c p d q) s := run_congr fun s => by
  rw [episodeTimer]
  cases findEpisode s c p d q <;> rfl

end

/-! Messages between the bridges (R231, R232). -/

/-- The batches of acknowledgements for a device that were begun 1 µs ago or earlier leave. -/
def expiredAcks (d : Nat) (s : State) : State :=
  forAll (s.bridge.acks.filter fun e => e.1 / 64 == d && s.since e.2.first us)
    (fun e s => post (.ackCell d (e.1 % 64) e.2.recs) { s with bridge.acks := tdel s.bridge.acks e.1 }) s

/-! An error record from another device (R321, assumption 44). -/

section
variable {p : Nat} {r : ErrRec} {s : State}

/-- The effect of a partition's record from another device. -/
def takeRecord (p : Nat) (r : ErrRec) (s : State) : State :=
  if partHome s p ≠ s.dev then s
  else
    let s1 := signalRecord p r (ringWrite p r s)
    if r.cause = 0x0B04 && !(s.part p).contained then containHere p s1 else s1

theorem takeRecord_away (h : partHome s p ≠ s.dev) : takeRecord p r s = s := if_pos h

section
variable (hhome : partHome s p = s.dev)
include hhome

theorem takeRecord_home : takeRecord p r s = if r.cause = 0x0B04 && !(s.part p).contained
    then containHere p (signalRecord p r (ringWrite p r s)) else signalRecord p r (ringWrite p r s) := if_neg (not_not.mpr hhome)

theorem takeRecord_contains (hcause : r.cause = 0x0B04) (h : (s.part p).contained = false) :
    takeRecord p r s = containHere p (signalRecord p r (ringWrite p r s)) :=
  (takeRecord_home hhome).trans (if_pos (by rw [decide_eq_true hcause, h]; rfl))

theorem takeRecord_signals (h : r.cause ≠ 0x0B04 ∨ (s.part p).contained = true) :
    takeRecord p r s = signalRecord p r (ringWrite p r s) := by
  refine (takeRecord_home hhome).trans (if_neg ?_)
  rw [Bool.and_eq_true, decide_eq_true_eq, Bool.not_eq_true']
  rintro ⟨hcause, hfree⟩
  exact h.elim (· hcause) fun hheld => Bool.noConfusion (hheld.symm.trans hfree)

end
end
end Sys2Proof.Machine

namespace Sys2Proof

open Machine

section
variable {s t : State} {dt : Time} {i : Nat}

theorem readTimeout_gives (hi : i < 65536) (h : readTimer i (advance dt s) = t) : Gives (.readTimeout dt i) s t :=
  Gives.of_run execReadTimeout_eq (decide_eq_true hi) h

theorem tagQuarantineEnd_gives (hi : i < 65536) (h : tagTimer i (advance dt s) = t) : Gives (.tagQuarantineEnd dt i) s t :=
  Gives.of_run execTagQuarantineEnd_eq (decide_eq_true hi) h

theorem trackerNoAnswer_gives (hi : i < 32768) (h : answerTimer i (advance dt s) = t) : Gives (.trackerNoAnswer dt i) s t :=
  Gives.of_run execTrackerNoAnswer_eq (decide_eq_true hi) h

theorem trackerQuarantineEnd_gives (hi : i < 32768) (h : trackerTimer i (advance dt s) = t) : Gives (.trackerQuarantineEnd dt i) s t :=
  Gives.of_run execTrackerQuarantineEnd_eq (decide_eq_true hi) h

theorem episodeClose_gives {c p d q : Nat} (hp : p ≤ 64) (hd : d < 64) (hq : q < 128) (h : episodeTimer c p d q (advance dt s) = t) :
    Gives (.episodeClose dt c p d q) s t :=
  Gives.of_run execEpisodeClose_eq (by simp [okEpisodePart, okDev, okPort, hp, hd, hq]) h

theorem errRecord_gives {p : Nat} {r : ErrRec} (hp : p < 64) (h : takeRecord p r (advance dt s) = t) : Gives (.errRecord dt p r) s t :=
  Gives.of_run (f := takeRecord p r) rfl (decide_eq_true hp) h

theorem ackCellReceived_gives {rs : List AckRec} : Gives (.ackCellReceived dt rs) s (forAll rs resolveAnswer (advance dt s)) :=
  Gives.of_run (f := forAll rs resolveAnswer) rfl rfl rfl

theorem ackBatch_gives {d : Nat} (hd : d < 64) : Gives (.ackBatch dt d) s (expiredAcks d (advance dt s)) :=
  Gives.of_run (f := expiredAcks d) rfl (decide_eq_true hd) rfl

theorem rangeSync_gives {m : RangeMsg} (hp : m.part < 64) (hd : m.dev < 64) (hq : m.port < 128) :
    Gives (.rangeSync dt m) s (takeRange m (advance dt s)) :=
  Gives.of_run (f := takeRange m) rfl (by simp [okPart, okDev, okPort, hp, hd, hq]) rfl

theorem bridgedCompletion_gives {spoke : Option Nat} {sub colour : Nat} {c : Tlp} (hspoke : okSpokeOpt spoke = true) (hsub : sub < 72)
    (h : takeCompletion spoke sub colour c (advance dt s) = t) : Gives (.bridgedCompletion dt spoke sub colour c) s t :=
  Gives.of_run (f := takeCompletion spoke sub colour c) rfl (by rw [hspoke]; exact decide_eq_true hsub) h

end

/-- Settles O49: each time finds what waits for it, or nothing that is due; each completion, answer and failure has its equation, which
the entry, tracker or episode that is found chooses. -/
theorem bridgeTimersAndWriteFailures : Obligations.BridgeTimersAndWriteFailures := by
  unfold Obligations.BridgeTimersAndWriteFailures
  refine ⟨?timers, ?completions, fun _ _ _ => ackCellReceived_gives, ?answers, ?failures, ?messages⟩
  case timers =>
    intro s dt i a
    refine ⟨fun hi => ⟨fun e he => ?tag, fun hnone => ?noTag⟩, fun hi => ⟨fun t ht => ?tracker, fun hnone => ?noTracker⟩⟩
    case tag =>
      exact ⟨fun hlive hdue hfunc => readTimeout_gives hi (readTimer_expires he hlive hdue hfunc),
        fun h => readTimeout_gives hi (readTimer_waits he h),
        fun hlive hdue => tagQuarantineEnd_gives hi (whenDue_due he (quarantineOver_of_due hlive hdue)),
        fun h => tagQuarantineEnd_gives hi (whenDue_waits he (quarantineOver_eq_false h))⟩
    case noTag => exact ⟨readTimeout_gives hi (whenDue_none hnone), tagQuarantineEnd_gives hi (whenDue_none hnone)⟩
    case tracker =>
      exact ⟨fun hlive hdue => trackerNoAnswer_gives hi (answerTimer_fails ht hlive hdue),
        fun h => trackerNoAnswer_gives hi (answerTimer_waits ht h),
        fun hlive hdue => trackerQuarantineEnd_gives hi (whenDue_due ht (quarantineOver_of_due hlive hdue)),
        fun h => trackerQuarantineEnd_gives hi (whenDue_waits ht (quarantineOver_eq_false h))⟩
    case noTracker => exact ⟨trackerNoAnswer_gives hi (whenDue_none hnone), trackerQuarantineEnd_gives hi (whenDue_none hnone)⟩
  case completions =>
    intro s dt spoke sub colour c a gives keyed hspoke hsub
    have gives_of {t : State} (h : takeCompletion spoke sub colour c a = t) : gives t := bridgedCompletion_gives hspoke hsub h
    refine ⟨fun hkind => gives_of (takeCompletion_other hkind), fun hkind hnone => gives_of (takeCompletion_late hkind hnone),
      fun i e hkind hfound => ?_⟩
    have hsvc : cplSvc a sub c = svcOf a e.origPort c.tc := cplSvc_of_entry hfound
    have hmatches := takeCompletion_matches (spoke := spoke) (sub := sub) (colour := colour) (s := a) hkind
    rw [hsvc] at hmatches
    exact ⟨fun hlong => gives_of (hmatches.trans (matchCompletion_tooLong hfound hlong)), fun hfits =>
      ⟨fun hlast => gives_of (hmatches.trans (matchCompletion_last hfound hfits hlast)),
        fun hmore => gives_of (hmatches.trans (matchCompletion_more hfound hfits hmore))⟩⟩
  case answers =>
    exact fun a r => ⟨fun i t hfound ht => ⟨resolveAnswer_ack hfound, resolveAnswer_nak hfound ht⟩, resolveAnswer_late⟩
  case failures =>
    intro s dt cause part r b full
    refine ⟨fun e => writeFailure_joins, writeFailure_opens, fun c p d q hp hd hq => ?_⟩
    exact ⟨fun e he => ⟨fun hdue => episodeClose_gives hp hd hq (whenDue_due he hdue),
      fun hopen => episodeClose_gives hp hd hq (whenDue_waits he hopen)⟩,
      fun hnone => episodeClose_gives hp hd hq (whenDue_none hnone)⟩
  case messages =>
    intro s dt d p a
    refine ⟨ackBatch_gives, fun m => rangeSync_gives, fun r hp => ⟨fun hhome => ?home,
      fun haway => errRecord_gives hp (takeRecord_away haway)⟩⟩
    exact ⟨fun h => errRecord_gives hp (takeRecord_signals hhome h),
      fun hcause h => errRecord_gives hp (takeRecord_contains hhome hcause h)⟩

end Sys2Proof

namespace Sys2Proof.Machine

/-! A semaphore is asked for, granted, passed on and released (R245, R247, R248). -/

section
variable {p dev port : Nat} {r o w : LockReq} {rest : List LockReq} {s : State}

theorem requestSem_free (h : (s.sem p).owner = none) : requestSem p r s = grantSem p r s := by
  simp only [requestSem, requestWithin, joinSem, h]

section
variable (ho : (s.sem p).owner = some o)
include ho

/-- A request waits behind those that are older. -/
theorem joinSem_waits : joinSem p r s = putSem p { s.sem p with waiters := enqueueLock (s.sem p).waiters r } s := by
  simp only [joinSem, ho]

theorem requestSem_held : requestSem p r s =
    if older r o then
      if o.2.1 = s.dev then yieldWith (requestWithin 127) o.2.2 (joinSem p r s)
      else post (.mgmt o.2.1 0x0312 [o.2.1, o.2.2]) (count1 (cPart (portPart s p) 16) (joinSem p r s))
    else joinSem p r s := by
  rw [requestSem, requestWithin]
  simp only [ho]

theorem requestSem_younger (h : older r o = false) :
    requestSem p r s = putSem p { s.sem p with waiters := enqueueLock (s.sem p).waiters r } s :=
  (requestSem_held ho).trans ((if_neg (Bool.eq_false_iff.mp h)).trans (joinSem_waits ho))

theorem requestSem_olderHere (h : older r o = true) (hhere : o.2.1 = s.dev) : requestSem p r s =
    yieldWith (requestWithin 127) o.2.2 (putSem p { s.sem p with waiters := enqueueLock (s.sem p).waiters r } s) :=
  (requestSem_held ho).trans ((if_pos h).trans ((if_pos hhere).trans (congrArg _ (joinSem_waits ho))))

theorem requestSem_olderAway (h : older r o = true) (haway : o.2.1 ≠ s.dev) : requestSem p r s =
    post (.mgmt o.2.1 0x0312 [o.2.1, o.2.2]) (count1 (cPart (portPart s p) 16)
      (putSem p { s.sem p with waiters := enqueueLock (s.sem p).waiters r } s)) := by
  rw [requestSem_held ho, if_pos h, if_neg haway, joinSem_waits ho]

end

theorem passSem_last (h : (s.sem p).waiters = []) : passSem p s = putSem p {} s := by simp only [passSem, h]

theorem passSem_next (h : (s.sem p).waiters = w :: rest) :
    passSem p s = grantSem p w (putSem p { owner := none, waiters := rest, locked := false } s) := by simp only [passSem, h]

/-- A request is one of a port's sequences. -/
def ofPort (dev port : Nat) (o : LockReq) : Bool := o.2.1 == dev && o.2.2 == port

theorem owned_iff : (s.sem p).owner.any (ofPort dev port) = true ↔ ∃ stamp, (s.sem p).owner = some (stamp, dev, port) := by
  rw [Option.any_eq_true]
  constructor
  · rintro ⟨⟨stamp, d, q⟩, howner, hport⟩
    obtain ⟨hd, hq⟩ := Bool.and_eq_true_iff.mp hport
    obtain rfl : d = dev := eq_of_beq hd
    obtain rfl : q = port := eq_of_beq hq
    exact ⟨stamp, howner⟩
  · rintro ⟨stamp, howner⟩
    exact ⟨_, howner, by simp [ofPort]⟩

theorem releaseSem_owner (h : ∃ stamp, (s.sem p).owner = some (stamp, dev, port)) : releaseSem p dev port s = passSem p s :=
  if_pos (owned_iff.mpr h)

theorem releaseSem_waiter (h : ¬ ∃ stamp, (s.sem p).owner = some (stamp, dev, port)) : releaseSem p dev port s =
    putSem p { s.sem p with waiters := (s.sem p).waiters.filter fun w => !ofPort dev port w } s := if_neg (mt owned_iff.mp h)

/-- The effect of an arbiter's cycle at a semaphore (R375). -/
def grantNext (p : Nat) (s : State) : State := match (s.sem p).owner, (s.sem p).waiters with
  | none, w :: r => grantSem p w (putSem p { s.sem p with waiters := r } s)
  | _, _ => s

theorem grantNext_grants (hfree : (s.sem p).owner = none) (h : (s.sem p).waiters = w :: rest) :
    grantNext p s = grantSem p w (putSem p { s.sem p with waiters := rest } s) := by simp only [grantNext, hfree, h]

theorem grantNext_idle (h : (s.sem p).owner ≠ none ∨ (s.sem p).waiters = []) : grantNext p s = s := by
  rw [grantNext]
  split
  next w r hfree hwaits => simp [hfree, hwaits] at h
  next => rfl

/-- The arbiter's numbers 65 to 192 are the semaphores of the ports (Table 12.12). -/
theorem execArbiterGrant_sem {dt : Time} (hp : p < 128) :
    execArbiterGrant dt (65 + p) s = run dt (okArbiter (65 + p)) (grantNext p) s := run_congr fun s => by
  rw [if_neg (by omega), if_pos (by omega), Nat.add_sub_cancel_left]
  rfl

end

/-! A sequence at its ingress device: its grants, yields and releases (R245, R247, R248). -/

section
variable {port dev p : Nat} {q : LockSeq} {f : LockSeq → LockSeq} {ask : Nat → LockReq → State → State} {s : State}

theorem modSeq_only (h : s.bridge.seqs = [q]) : modSeq q f s = { s with bridge.seqs := [f q] } := by
  simp [modSeq, h]

theorem sem_putSem (m : Sem) : (putSem p m s).sem p = m := tget_tset ..

/-- A grant of a semaphore at the target of the only sequence, which it lacks. -/
theorem granted_target (hseq : s.bridge.seqs = [q]) (hdev : q.dev = s.dev) (htarget : q.targetDev ≠ s.dev ∨ q.targetPort ≠ q.port)
    (hlacks : q.heldTarget = false) : granted q.port q.targetDev q.targetPort s =
      lockIfHeld { q with heldTarget := true } { s with bridge.seqs := [{ q with heldTarget := true }] } := by
  have hingress : (q.targetDev == s.dev && q.targetPort == q.port) = false := by
    rcases htarget with h | h
    · simp [h]
    · simp [h]
  have hfound : s.bridge.seqs.find? (fun x => seqAt s q.port x &&
      (!x.heldTarget && x.targetDev == q.targetDev && x.targetPort == q.targetPort)) = some q := by
    rw [hseq]
    exact List.find?_cons_of_pos (by simp [seqAt, hdev, hlacks])
  simp only [granted, hingress, hfound, Bool.false_eq_true, if_false, modSeq_only hseq]

theorem lockIfHeld_waits (h : q.heldIngress = false) : lockIfHeld q s = s := if_neg (by rw [h]; exact Bool.false_ne_true)

/-- The semaphore of a LOCKED sequence's target port, if it is here, holds others back. -/
def lockTarget (q : LockSeq) (s : State) : State :=
  if q.targetDev = s.dev then putSem q.targetPort { s.sem q.targetPort with locked := true } s else s

theorem lockTarget_seqs : (lockTarget q s).bridge.seqs = s.bridge.seqs := by
  rw [lockTarget]
  split
  · rfl
  · rfl

theorem lockTarget_sem_away (h : q.targetDev ≠ s.dev) (x : Nat) : (lockTarget q s).sem x = s.sem x := congrArg (State.sem · x) (if_neg h)

theorem lockTarget_sem_here (h : q.targetDev = s.dev) : (lockTarget q s).sem q.targetPort = { s.sem q.targetPort with locked := true } := by
  rw [lockTarget, if_pos h, sem_putSem]

/-- The only sequence is LOCKED once it has both semaphores. -/
theorem lockIfHeld_locks (hi : q.heldIngress = true) (ht : q.heldTarget = true) (hseq : s.bridge.seqs = [q]) :
    lockIfHeld q s = lockTarget q { s with bridge.seqs := [{ q with locked := true }] } := by
  rw [lockIfHeld, if_pos (by rw [hi, ht]; rfl), modSeq_only hseq]
  rfl

theorem yieldWith_none (h : findSeq s port = none) : yieldWith ask port s = s := by rw [yieldWith, h]

section
variable (hq : findSeq s port = some q)
include hq

theorem yieldWith_locked (h : q.locked = true) : yieldWith ask port s = s := by
  rw [yieldWith, hq]
  exact if_pos h

/-- A sequence that yields has given back what it held. -/
def yielded (port : Nat) (q : LockSeq) (s : State) : State :=
  modSeq q (fun q => { q with heldIngress := false, heldTarget := false })
    (onlyIf q.heldTarget (releaseTarget q) (onlyIf q.heldIngress (dropReq port (q.stamp, q.dev, port))
      (count1 (cPort port 23) (count1 (cPart q.part 17) s))))

theorem yieldWith_yields (h : q.locked = false) : yieldWith ask port s =
    onlyIf q.heldTarget (askTarget q ask) (onlyIf q.heldIngress (ask port (q.stamp, q.dev, port)) (yielded port q s)) := by
  rw [yieldWith, hq]
  exact if_neg (Bool.eq_false_iff.mp h)

end

/-- The oldest sequence of a port whose target is a port of another device with this number. -/
def seqAway (s : State) (port p : Nat) : Option LockSeq :=
  s.bridge.seqs.find? fun q => seqAt s port q && q.targetPort == p && q.targetDev != s.dev

theorem releasedAfar_none (h : seqAway s port p = none) : releasedAfar port p s = releaseSem port s.dev port s := by
  rw [seqAway] at h
  rw [releasedAfar, h]

/-- A sequence is over: its ingress semaphore is released. -/
def seqOver (port : Nat) (q : LockSeq) (s : State) : State := dropReq port (q.stamp, q.dev, q.port)
  { s with bridge.seqs := s.bridge.seqs.filter fun x => !(x.dev == q.dev && x.port == q.port && x.stamp == q.stamp) }

section
variable (hq : seqAway s port p = some q)
include hq

theorem releasedAfar_unlocked (h : q.unlock.isSome = true) : releasedAfar port p s = seqOver port q s := by
  rw [seqAway] at hq
  rw [releasedAfar, hq]
  exact if_pos h

theorem releasedAfar_taken (h : q.unlock = none) : releasedAfar port p s =
    seqOver port q (abortWaiting q (endLockedReads q.port q.targetDev q.targetPort s)) := by
  rw [seqAway] at hq
  rw [releasedAfar, hq]
  exact if_neg (by rw [h]; decide)

end
end

/-! Messages between the devices of a sequence: only those for a sequence of this device reach it (Table 7.9). -/

/-- The effect of a grant for a sequence of a device. -/
def takeGrant (od ip td p : Nat) (s : State) : State := if od = s.dev then granted ip td p s else s

/-- The effect of a yield that is asked of a sequence of a device. -/
def takeYield (od ip : Nat) (s : State) : State := if od = s.dev then yieldSeq ip s else s

/-- The effect of a release, at the sequence's device or at its target's. -/
def takeRelease (od ip p : Nat) (s : State) : State := if od = s.dev then releasedAfar ip p s else releaseSem p od ip s

/-! A locked read arrives (R244, R245). -/

/-- A TLP as the locked read that it arrives as. -/
abbrev lockedRead (t : Tlp) : Tlp := { t with kind := .memReadLocked }

section
variable {p d q : Nat} {t t' : Tlp} {win : Option Nat} {f : Frame} {s : State}

/-- The frame that a TLP has become, if it goes to a port. -/
def enteredFrame (p : Nat) (t : Tlp) (s : State) : Option Frame :=
  (admitTlp p t s).hub.frames.find? fun f => decide (s.hub.nextFid ≤ f.fid) && f.srcPort == p && f.ends.isNone

/-- A locked read belongs to a sequence of its port whose Unlock has not come. -/
def joinsSeq (s : State) (p : Nat) : Prop := ∃ x, lastSeq s p = some x ∧ x.unlock = none

theorem lacksUnlock_iff : ((lastSeq s p).any fun q => q.unlock.isNone) = true ↔ joinsSeq s p := by
  simp only [Option.any_eq_true, Option.isNone_iff_eq_none, joinsSeq]

section
variable (hgo : lookup s (.pcie p) (lockedRead t) = .go d q t' win) (hf : enteredFrame p (lockedRead t) s = some f)
include hgo hf

theorem admitMrdlk_goes : admitMrdlk p t s =
    if (lastSeq s p).any fun q => q.unlock.isNone then admitTlp p (lockedRead t) s
    else beginSeq p d q f.fid (lockedRead t) (admitTlp p (lockedRead t) s) := by
  rw [enteredFrame] at hf
  simp only [admitMrdlk, hgo, hf]

theorem admitMrdlk_joins (h : joinsSeq s p) : admitMrdlk p t s = admitTlp p (lockedRead t) s :=
  (admitMrdlk_goes hgo hf).trans (if_pos (lacksUnlock_iff.mpr h))

theorem admitMrdlk_begins (h : ¬ joinsSeq s p) : admitMrdlk p t s =
    beginSeq p d q f.fid (lockedRead t) (admitTlp p (lockedRead t) s) :=
  (admitMrdlk_goes hgo hf).trans (if_neg (mt lacksUnlock_iff.mp h))

end

theorem admitMrdlk_alone (h : enteredFrame p (lockedRead t) s = none ∨
    ∀ d q t' win, lookup s (.pcie p) (lockedRead t) ≠ .go d q t' win) :
    admitMrdlk p t s = admitTlp p (lockedRead t) s := by
  rw [enteredFrame] at h
  rw [admitMrdlk]
  split
  next d q t' win f hgo hf => exact absurd hgo (h.resolve_left (by rw [hf]; exact Option.some_ne_none f) d q t' win)
  next => rfl

/-- The effect of a locked read that has passed the checks of its port's bridge. -/
def takeMrdlk (p : Nat) (t : Tlp) (s : State) : State :=
  if s.errs.c4 then c4Answer p t s else if portEn s p then mrdlk p t s else s

theorem takeMrdlk_off (hen : portEn s p = false) (hc4 : s.errs.c4 = false) : takeMrdlk p t s = s :=
  (if_neg (Bool.eq_false_iff.mp hc4)).trans (if_neg (Bool.eq_false_iff.mp hen))

theorem takeMrdlk_takes (hen : portEn s p = true) (hc4 : s.errs.c4 = false) : takeMrdlk p t s = mrdlk p t s :=
  (if_neg (Bool.eq_false_iff.mp hc4)).trans (if_pos hen)

/-- The effect of the arrival of a locked read. -/
def mrdlkArrives (p : Nat) (t : Tlp) (s : State) : State := checkTlp p (lockedRead t) (takeMrdlk p t) s

theorem mrdlkArrives_off (hen : portEn s p = false) (hc4 : s.errs.c4 = false) : mrdlkArrives p t s = s :=
  (checkTlp_notPcie (by rw [pciePort, hen]; rfl)).trans (takeMrdlk_off hen hc4)

theorem ecrcChecked_passes (h : (s.port p).ecrcCheck = false ∨ t.ecrc ≠ 2) : ecrcChecked p t s = s := by
  refine if_neg ?_
  rcases h with h | h
  · simp [h]
  · simp [h]

theorem mrdlkArrives_takes (hp : pciePort s p = true) (hc4 : s.errs.c4 = false) (hecrc : (s.port p).ecrcCheck = false ∨ t.ecrc ≠ 2)
    (hacs : acsViolates s p (lockedRead t) = false) : mrdlkArrives p t s = mrdlk p t s := by
  have hchecked : ecrcChecked p (lockedRead t) s = s := ecrcChecked_passes hecrc
  have hen : portEn s p = true := (Bool.and_eq_true_iff.mp hp).1
  have hpasses := checkTlp_passes (t := lockedRead t) (f := takeMrdlk p t) hp hc4 (by rwa [hchecked])
    (by rw [hchecked]; exact (Bool.eq_false_or_eq_true _).symm)
  rw [mrdlkArrives, hpasses, hchecked, takeMrdlk_takes hen hc4]

end
end Sys2Proof.Machine

namespace Sys2Proof

open Machine

section
variable {s t : State} {dt : Time} {stamp od ip p : Nat}

theorem arbiterGrant_gives (hp : p < 128) (h : grantNext p (advance dt s) = t) : Gives (.arbiterGrant dt (65 + p)) s t :=
  Gives.of_run (execArbiterGrant_sem hp) (decide_eq_true (by omega)) h

theorem mrdlkArrival_gives {x : Tlp} (hip : ip < 128) (h : mrdlkArrives ip x (advance dt s) = t) : Gives (.mrdlkArrival dt ip x) s t :=
  Gives.of_run (f := mrdlkArrives ip x) rfl (decide_eq_true hip) h

section
variable (hod : od < 64) (hip : ip < 128)
include hod hip

theorem lockYield_gives (h : takeYield od ip (advance dt s) = t) : Gives (.lockYield dt od ip) s t :=
  Gives.of_run (f := takeYield od ip) rfl (by simp [okDev, okPort, hod, hip]) h

variable (hp : p < 128)
include hp

theorem lockGrant_gives {td : Nat} (htd : td < 64) (h : takeGrant od ip td p (advance dt s) = t) : Gives (.lockGrant dt od ip td p) s t :=
  Gives.of_run (f := takeGrant od ip td p) rfl (by simp [okDev, okPort, hod, hip, htd, hp]) h

theorem lockReq_gives (h : requestSem p (stamp, od, ip) (advance dt s) = t) : Gives (.lockReq dt stamp od ip p) s t :=
  Gives.of_run (f := requestSem p (stamp, od, ip)) rfl (by simp [okDev, okPort, hod, hip, hp]) h

theorem lockReleaseMessage_gives (h : takeRelease od ip p (advance dt s) = t) : Gives (.lockReleaseMessage dt od ip p) s t :=
  Gives.of_run (f := takeRelease od ip p) rfl (by simp [okDev, okPort, hod, hip, hp]) h

end
end

/-- Settles O50: a request, a grant, a yield and a release each have their equation, which the semaphore's owner and queue and the
sequence that is found choose; a locked read passes the checks, and its sequence decides what it asks for. -/
theorem portSemaphores : Obligations.PortSemaphores := by
  unfold Obligations.PortSemaphores
  refine ⟨?messages, ?arrival⟩
  case messages =>
    intro s dt stamp od ip p a m hod hip hp
    refine ⟨fun hfree => ?free, fun o ho => ?held, fun td haway htd => ?away, ?granted, fun hhere hnone => ?idle, ?yields, ?target,
      ?owner, fun hfree w rest hwaits => arbiterGrant_gives hp (grantNext_grants hfree hwaits),
      fun h => arbiterGrant_gives hp (grantNext_idle h)⟩
    case free => exact lockReq_gives hod hip hp (requestSem_free hfree)
    case held =>
      intro b
      exact ⟨fun h => lockReq_gives hod hip hp (requestSem_younger ho h),
        fun h haway => lockReq_gives hod hip hp (requestSem_olderAway ho h haway),
        fun h hhere => lockReq_gives hod hip hp (requestSem_olderHere ho h hhere)⟩
    case away => exact ⟨lockGrant_gives hod hip hp htd (if_neg haway), lockYield_gives hod hip (if_neg haway)⟩
    case granted =>
      intro q hhere hseq hdev hport htd htp htarget hlacks
      subst hport
      have hgranted := granted_target hseq hdev htarget hlacks
      have gives {t : State} (h : granted q.port q.targetDev q.targetPort a = t) :
          Gives (.lockGrant dt od q.port q.targetDev q.targetPort) s t := lockGrant_gives hod hip htp htd ((if_pos hhere).trans h)
      exact ⟨fun hi => ⟨_, gives (hgranted.trans (lockIfHeld_locks hi rfl rfl)), lockTarget_seqs,
        fun haway => lockTarget_sem_away haway, fun hsame => lockTarget_sem_here hsame⟩,
        fun hi => gives (hgranted.trans (lockIfHeld_waits hi))⟩
    case idle => exact lockYield_gives hod hip ((if_pos hhere).trans (yieldWith_none hnone))
    case yields =>
      intro q hhere hq
      exact ⟨fun h => lockYield_gives hod hip ((if_pos hhere).trans (yieldWith_locked hq h)),
        fun h => lockYield_gives hod hip ((if_pos hhere).trans (yieldWith_yields hq h))⟩
    case target =>
      intro left mine haway
      have gives {t : State} (h : releaseSem p od ip a = t) : Gives (.lockReleaseMessage dt od ip p) s t :=
        lockReleaseMessage_gives hod hip hp ((if_neg haway).trans h)
      exact ⟨fun w rest hmine hwaits => gives ((releaseSem_owner hmine).trans (passSem_next hwaits)),
        fun hmine hnone => gives ((releaseSem_owner hmine).trans (passSem_last hnone)),
        fun hmine => gives (releaseSem_waiter hmine)⟩
    case owner =>
      intro hhere found
      have gives {t : State} (h : releasedAfar ip p a = t) : Gives (.lockReleaseMessage dt od ip p) s t :=
        lockReleaseMessage_gives hod hip hp ((if_pos hhere).trans h)
      exact ⟨fun hnone => gives (releasedAfar_none hnone), fun q hq =>
        ⟨fun h => gives (releasedAfar_unlocked hq h), fun h => gives (releasedAfar_taken hq h)⟩⟩
  case arrival =>
    intro s dt ip t a lk begun hip
    refine ⟨fun hen hc4 => mrdlkArrival_gives hip (mrdlkArrives_off hen hc4), fun hp hc4 hecrc hacs => ?_⟩
    intro b entered joins acts
    have hacts {x : State} (h : admitMrdlk ip t a = x) : acts x := by
      subst h
      have htakes : mrdlkArrives ip t a = mrdlk ip t a := mrdlkArrives_takes hp hc4 hecrc hacs
      exact ⟨fun hwaits => mrdlkArrival_gives hip (htakes.trans (inTurn_waits hwaits)),
        fun hstall hturn => mrdlkArrival_gives hip (htakes.trans (inTurn_acts hstall hturn))⟩
    exact ⟨fun d q t' win f hgo hf => ⟨fun h => hacts (admitMrdlk_joins hgo hf h), fun h => hacts (admitMrdlk_begins hgo hf h)⟩,
      fun h => hacts (admitMrdlk_alone h)⟩

end Sys2Proof

namespace Sys2Proof.Machine

/-! ENGINE_TEST (R304), and the jobs that its drain binds again (R96). -/

/-- The engine of an ENGINE_TEST is drained for the requester, to the limit that the request gives. -/
def drainBegun (r : Req) (s : State) : State :=
  modEngine (pf r 0 63 62) (fun x => { x with drainMb := some r.mb, drainUntil := s.now + pf r 0 31 0 * us }) s

section
variable {s : State} {dt : Time} {r : Req}

theorem not_engineTestBusy {e : Nat} (h : ∀ i < 4, (s.engine i).drainMb = none ∧ (i ≠ e → (s.engine i).inService = true)) :
    ((List.range 4).any fun i => (s.engine i).drainMb.isSome || (i != e && !(s.engine i).inService)) = false := by
  rw [List.any_eq_false]
  intro i hi
  obtain ⟨hdrain, hserves⟩ := h i (List.mem_range.mp hi)
  by_cases he : i = e
  · subst he
    simp [hdrain]
  · simp [hdrain, hserves he]

/-- ENGINE_TEST, under the device lock and with the other engines in service, begins the drain, and then binds again what was bound to the
engine in this CLK_HALF cycle (R96). -/
theorem engineTest_waits (hsent : Sent operators 0x0702 r (advance dt s)) (hlock : holdsLock (taken r (advance dt s)) r.mb 0 = true)
    (hidle : ∀ i < 4, ((taken r (advance dt s)).engine i).drainMb = none ∧
      (i ≠ pf r 0 63 62 → ((taken r (advance dt s)).engine i).inService = true))
    (hpay : payloadBad r [2 ^ 64 - 2 ^ 62 + (2 ^ 32 - 1)] = none) (hleast : 1000 ≤ pf r 0 31 0) (hmost : pf r 0 31 0 ≤ 10000000) :
    Waits (.engineTest dt r) s r waitEngine (rebind (pf r 0 63 62) (drainBegun r (taken r (advance dt s)))) := by
  refine opcode_gives hsent (congrArg (conclude r) (?_ : _ = (Answer.waits waitEngine, _)))
  have hlimit : within 1000 10000000 (pf r 0 31 0) = true := by simp [within, hleast, hmost]
  simp only [hlock, not_engineTestBusy hidle, hpay, hlimit, Bool.not_true, Bool.false_eq_true, if_false, if_true]
  rfl

end

/-! A device on which a drain meets a binding of its own cycle. -/

/-- A COPY of 4,096 bytes, for function 1 of partition 3, that waits to be bound. -/
def copyJob : Job :=
  { func := 515, ctx := 0, ctxSeq := 0, order := 0, slot := 0, phase := .ready
    desc := [quad [(63, 56, 1)], quad [(58, 56, 1), (30, 0, 4096)], 0x100000, 0x200000] ++ List.replicate 12 0 }

/-- The MC serves, mailbox 64 holds the device lock, all engines are idle, and JOB_BIND has bound the job in the present cycle. -/
def justBound : State :=
  jobBind 515 0 { State.reset with mgmt.serving := true, mgmt.lock := [(0, { owner := some 64 })], mover.jobs := [copyJob] }

/-- ENGINE_TEST of engine 0 with a limit of 1 ms, at the out-of-band mailbox. -/
def testEngine0 : Req := { mb := 64, hdr0 := quad [(63, 48, 0x0702), (19, 0, 8)], pay := [1000] }

theorem testEngine0_sent : Sent operators 0x0702 testEngine0 (advance 0 justBound) := by
  unfold Sent Ready
  decide

theorem testEngine0_operands : payloadBad testEngine0 [2 ^ 64 - 2 ^ 62 + (2 ^ 32 - 1)] = none ∧ pf testEngine0 0 63 62 = 0 ∧
    pf testEngine0 0 31 0 = 1000 := by decide

theorem justBound_idle : let b := taken testEngine0 (advance 0 justBound)
    holdsLock b 64 0 = true ∧ ∀ i < 4, (b.engine i).drainMb = none ∧ (b.engine i).inService = true := by decide

/-- The job was on engine 0, and the drain of engine 0 moves it to engine 1. -/
theorem drain_moves_justBound : let b := taken testEngine0 (advance 0 justBound)
    b.mover.jobs.map (·.engine) = [some 0] ∧ (rebind 0 (drainBegun testEngine0 b)).mover.jobs.map (·.engine) = [some 1] := by decide

end Sys2Proof.Machine

namespace Sys2Proof

open Machine

/-- Refutes O25: by R96 a drain takes effect before the bindings of its CLK_HALF cycle, so that ENGINE_TEST also moves the jobs that were
bound to the engine in that cycle. In the state `justBound` it moves one from engine 0 to engine 1; the statement has it leave the jobs. -/
theorem not_deviceCommandsTakeEffect : ¬ Obligations.DeviceCommandsTakeEffect := by
  unfold Obligations.DeviceCommandsTakeEffect
  intro h
  obtain ⟨hlock, hidle⟩ := justBound_idle
  obtain ⟨hpay, hengine, hlimit⟩ := testEngine0_operands
  have hothers : ∀ i < 4, ((taken testEngine0 (advance 0 justBound)).engine i).drainMb = none ∧
      (i ≠ pf testEngine0 0 63 62 → ((taken testEngine0 (advance 0 justBound)).engine i).inService = true) :=
    fun i hi => ⟨(hidle i hi).1, fun _ => (hidle i hi).2⟩
  obtain ⟨-, h⟩ := h
  obtain ⟨-, -, -, hclaim⟩ := h justBound 0 testEngine0
  have stays := hclaim testEngine0_sent hlock hothers hpay hlimit.ge (by omega)
  have moves := engineTest_waits testEngine0_sent hlock hothers hpay hlimit.ge (by omega)
  rw [hengine] at moves
  have same := congrArg (fun t : State => t.mover.jobs.map (·.engine)) (Host.Outcome.next.inj (moves.symm.trans stays))
  obtain ⟨hon0, hon1⟩ := drain_moves_justBound
  exact absurd (hon1.symm.trans (same.trans hon0)) (by decide)

end Sys2Proof

namespace Sys2Proof.Machine

/-! Updates of one partition or function, by what they make of its present value. -/

section
variable {s : State} {p f : Nat}

theorem modPart_congr {g h : Part → Part} (e : g (s.part p) = h (s.part p)) : modPart p g s = modPart p h s :=
  congrArg (fun q => { s with pcie.part := tset {} s.pcie.part p q }) e

theorem modFunc_congr {g h : Func → Func} (e : g (s.func f) = h (s.func f)) : modFunc f g s = modFunc f h s :=
  congrArg (fun q => { s with mover.func := tset {} s.mover.func f q }) e

end

/-! Reads of the registers of the BARs (R362 to R366). -/

/-- The low n bytes of a number, put together again. -/
theorem sum_bytes (x n : Nat) : ((List.range n).map fun i => x / 2 ^ (8 * i) % 256 * 2 ^ (8 * i)).sum = x % 2 ^ (8 * n) := by
  induction n with
  | zero => simp [Nat.mod_one]
  | succ n ih =>
    rw [List.range_succ, List.map_append, List.sum_append, ih, Nat.mul_succ, Nat.pow_add, Nat.mod_mul]
    simp [Nat.mul_comm]

theorem windowAt_within {quads : Nat → Nat} {o n : Nat} (h : o % 8 + n ≤ 8) :
    windowAt quads o n = quads (o / 8) / 2 ^ (8 * (o % 8)) % 2 ^ (8 * n) := by
  rw [← sum_bytes]
  refine congrArg List.sum (List.map_congr_left fun i hi => ?_)
  have hi' := List.mem_range.mp hi
  have hquad : (o + i) / 8 = o / 8 := by omega
  have hbyte : (o + i) % 8 = o % 8 + i := by omega
  rw [hquad, hbyte, Nat.mul_add, Nat.pow_add, Nat.div_div_eq_div_mul]

section
variable {s : State} {p o x y : Nat}

theorem readReg0_quad (hr : reads0 o 64 = true) (ho : o % 8 = 0) (hx : bar0At s p (o / 8) = x) (hlt : x < 2 ^ 64) :
    readReg0 s p o 64 = x := by
  rw [readReg0, if_pos hr, windowAt_within (by omega), ho, hx]
  simpa using hlt

/-- The quadword of a register of 32 bits holds another at its upper half. -/
theorem readReg0_low (hr : reads0 o 32 = true) (ho : o % 8 = 0) (hx : bar0At s p (o / 8) = x + 2 ^ 32 * y) (hlt : x < 2 ^ 32) :
    readReg0 s p o 32 = x := by
  rw [readReg0, if_pos hr, windowAt_within (by omega), ho, hx]
  simpa using hlt

theorem readReg0_high (hr : reads0 o 32 = true) (ho : o % 8 = 4) (hx : bar0At s p (o / 8) = x + 2 ^ 32 * y) (hlt : x < 2 ^ 32)
    (hlt' : y < 2 ^ 32) : readReg0 s p o 32 = y := by
  rw [readReg0, if_pos hr, windowAt_within (by omega), ho, hx]
  omega

theorem bar0At_identity (s : State) (p : Nat) : bar0At s p (0x000 / 8) = ((identityQuads s p).getD 0 0).toNat := by
  simp [bar0At, identityAt]

theorem bar0At_doorbell (s : State) (p : Nat) : bar0At s p (0x1000 / 8) = 0 + 2 ^ 32 * 0 := by simp [bar0At, within]

theorem bar0At_status (s : State) (p : Nat) : bar0At s p (0x1008 / 8) = mbStatus (s.mb p) := by simp [bar0At]

theorem readRegF_quad {f : Nat} {w : Word64} (hr : regAccess o 64 = true) (hctl : (o != 0x110) = true) (ho : o % 8 = 0)
    (hx : funcBarAt s f (o / 8) = w.toNat) : readRegF s f o 64 = w.toNat := by
  rw [readRegF, if_pos (by rw [hr, hctl]; rfl), windowAt_within (by omega), ho, hx]
  simpa using w.isLt

theorem registerRead_away {func : Option Nat} {width : Nat} (h : partHome s p ≠ s.dev ∨ partEn s p = false) :
    registerRead p func o width s = s := if_pos (by simpa using h)

section
variable {width : Nat} (hhome : partHome s p = s.dev) (hen : partEn s p = true)
include hhome hen

theorem registerRead_func0 :
    registerRead p none o width s = clearRead p o width (emit (.regRead p none o (readReg0 s p o width)) s) :=
  if_neg (by simp [hhome, hen])

theorem registerRead_func {f : Nat} (hf : funcPart s f = p) (hvf : 512 ≤ f ∨ vfEn s f = true) :
    registerRead p (some f) o width s = emit (.regRead p (some f) o (readRegF s f o width)) s :=
  (if_neg (by simp [hhome, hen])).trans (if_pos ⟨hf, hvf⟩)

/-- A read of a register that no read clears. -/
theorem registerRead_plain (h : width = 32 → o ∉ [0x1010, 0x1014, 0x3008]) :
    registerRead p none o width s = emit (.regRead p none o (readReg0 s p o width)) s := by
  rw [registerRead_func0 hhome hen, clearRead]
  by_cases hw : width = 32
  · simp only [List.mem_cons, List.not_mem_nil, or_false, not_or] at h
    obtain ⟨hlost, hignored, herr⟩ := h hw
    simp [hw, hlost, hignored, herr]
  · exact if_pos hw

/-- The registers of 32 bits that a read clears. -/
theorem registerRead_clears (hlost : (s.mb p).lost < 2 ^ 32) (hignored : (s.mb p).ignored < 2 ^ 32) (herr : (s.part p).errLost < 2 ^ 32) :
    registerRead p none 0x3008 32 s = modPart p (fun q => { q with errLost := 0 }) (emit (.regRead p none 0x3008 (s.part p).errLost) s) ∧
    registerRead p none 0x1010 32 s = modMb p (fun m => { m with lost := 0 }) (emit (.regRead p none 0x1010 (s.mb p).lost) s) ∧
    registerRead p none 0x1014 32 s = modMb p (fun m => { m with ignored := 0 }) (emit (.regRead p none 0x1014 (s.mb p).ignored) s) := by
  simp only [registerRead_func0 hhome hen]
  rw [readReg0_low (o := 0x3008) (y := 0) rfl rfl rfl herr, readReg0_low (o := 0x1010) rfl rfl rfl hlost,
    readReg0_high (o := 0x1014) rfl rfl rfl hlost hignored]
  exact ⟨rfl, rfl, rfl⟩

end
end

/-! Writes of the registers of the BARs (R280, R362 to R366). -/

theorem within_eq_true {lo hi x : Nat} (hlo : lo ≤ x) (hhi : x ≤ hi) : within lo hi x = true := by simp [within, hlo, hhi]

theorem within_eq_false {lo hi x : Nat} (h : x < lo ∨ hi < x) : within lo hi x = false := by
  simp only [within, Bool.and_eq_false_iff, decide_eq_false_iff_not]
  omega

/-- The pages of an address: its low 12 bits cleared. -/
theorem ofNat_page (v : Word64) : BitVec.ofNat 64 (v.toNat / 4096 * 4096) = v &&& ~~~ 0xFFF := by
  have hshift : BitVec.ofNat 64 (v.toNat / 4096 * 4096) = (v >>> 12) <<< 12 := by
    apply BitVec.eq_of_toNat_eq
    simp [Nat.shiftRight_eq_div_pow, Nat.shiftLeft_eq]
  have hmask : ∀ i < 64, (~~~ 0xFFF : Word64).getLsbD i = !decide (i < 12) := by decide
  rw [hshift]
  refine BitVec.eq_of_getLsbD_eq fun i hi => ?_
  rw [BitVec.getLsbD_and, hmask i hi]
  by_cases h : i < 12
  · simp [h]
  · simp [h, hi, Nat.add_sub_cancel' (Nat.le_of_not_lt h)]

theorem ofNat_low32 (v : Word64) : BitVec.ofNat 32 (v.toNat % 2 ^ 32) = v.setWidth 32 := BitVec.eq_of_toNat_eq (by simp)

/-- A ring's base after a write of all its 64 bits. -/
theorem merge_page (old v : Word64) : BitVec.ofNat 64 (merge old.toNat 0 64 v / 4096 * 4096) = v &&& ~~~ 0xFFF := by
  have hmerge : merge old.toNat 0 64 v = v.toNat := by
    simp [merge, Nat.mod_one, Nat.div_eq_of_lt old.isLt, Nat.mod_eq_of_lt v.isLt]
  rw [hmerge, ofNat_page]

section
variable {s : State} {p f v o : Nat}

theorem writeErrHead_moves (hv : v < 256) (h : modDist 256 v (s.part p).errHead ≤ modDist 256 (s.part p).errTail (s.part p).errHead) :
    writeErrHead p v s = modPart p (fun q => { q with
      errHead := v, ring := tkeep q.ring fun i _ => decide (modDist 256 v q.errHead ≤ modDist 256 i q.errHead) }) s :=
  modPart_congr (by simp only [Nat.mod_eq_of_lt hv, if_pos h])

theorem writeErrHead_beyond (hv : v < 256)
    (h : modDist 256 (s.part p).errTail (s.part p).errHead < modDist 256 v (s.part p).errHead) :
    writeErrHead p v s = modPart p id s :=
  modPart_congr (by simp only [Nat.mod_eq_of_lt hv, if_neg (Nat.not_le.mpr h), id])

theorem writeReg0_intStatus (w : Word64) : writeReg0 p 0x2000 32 w s =
    updateLevel p (modPart p (fun q => { q with intStatus := q.intStatus &&& ~~~ (w.setWidth 32) }) s) := by
  rw [← ofNat_low32]
  rfl

theorem writeReg0_intMask (w : Word64) : writeReg0 p 0x2004 32 w s = writeMask p (w.setWidth 32) s := by
  rw [← ofNat_low32]
  rfl

/-- Each byte of INT_VEC that is written keeps its low 6 bits. -/
theorem writeReg0_vectors (w : Word64) {i : Nat} (hi : i % 4 = 0) (hlt : i < 32) : writeReg0 p (0x2040 + i) 32 w s =
    forAll [0, 1, 2, 3] (fun j => modPart p (fun q => { q with vectors := tput q.vectors (i + j) (qf w (8 * j + 5) (8 * j)) })) s := by
  have hwindow : within 0x1040 0x1FFF (0x2040 + i) = false := within_eq_false (by omega)
  have hvectors : within 0x2040 0x205F (0x2040 + i) = true := within_eq_true (by omega) (by omega)
  have hsize : regAccess (0x2040 + i) 32 = true := beq_iff_eq.mpr (by omega)
  have hother : ∀ x < 0x2040, 0x2040 + i ≠ x := by omega
  rw [writeReg0]
  simp only [hwindow, hvectors, hsize, hother 0x1000 (by decide), hother 0x1008 (by decide), hother 0x100C (by decide),
    hother 0x2000 (by decide), hother 0x2004 (by decide), Nat.add_sub_cancel_left, false_and, if_false, if_true, Bool.not_true,
    Bool.false_eq_true]
  rfl

theorem writeReg0_reserved (w : Word64) (h : ¬ within 0x1000 0x3007 o) (h' : ¬ within 0x10000 0x103FF o) : writeReg0 p o 32 w s = s := by
  simp only [within, Bool.and_eq_true, decide_eq_true_eq] at h h'
  have hwindow : within 0x1040 0x1FFF o = false := within_eq_false (by omega)
  have hvectors : within 0x2040 0x205F o = false := within_eq_false (by omega)
  have htable : within 0x10000 0x103FF o = false := within_eq_false (by omega)
  have hother : ∀ x, 0x1000 ≤ x → x ≤ 0x3007 → o ≠ x := by omega
  rw [writeReg0]
  simp [hwindow, hvectors, htable, hother]

section
variable (h : (s.func f).state = 0)
include h

theorem writeRegF_sqBase (w : Word64) : writeRegF f 0x100 64 w s = modFunc f (fun q => { q with sqBase := w &&& ~~~ 0xFFF }) s :=
  (if_pos h).trans (modFunc_congr (congrArg (fun x => { s.func f with sqBase := x }) (merge_page (s.func f).sqBase w)))

theorem writeRegF_cqBase (w : Word64) : writeRegF f 0x108 64 w s = modFunc f (fun q => { q with cqBase := w &&& ~~~ 0xFFF }) s :=
  (if_pos h).trans (modFunc_congr (congrArg (fun x => { s.func f with cqBase := x }) (merge_page (s.func f).cqBase w)))

end

theorem writeRegF_ringOn {w : Word64} (h : w.getLsbD 31 = true) :
    writeRegF f 0x110 32 w s = ringEnable f (qf w 3 0) (qf w 11 8) s := by
  have hon : w[31] = true := h
  rw [writeRegF]
  simp [regAccess, within, hon]

end
end Sys2Proof.Machine

namespace Sys2Proof

open Machine

section
variable {s t : State} {dt : Time} {p o width : Nat} {v : Word64}

theorem errHeadWrite_gives {n : Nat} (hp : p < 64) (h : writeErrHead p n (advance dt s) = t) : Gives (.errHeadWrite dt p n) s t :=
  Gives.of_run (f := writeErrHead p n) rfl (decide_eq_true hp) h

theorem rcRegisterRead_gives {func : Option Nat} (hp : p < 64) (hf : ∀ f, func = some f → f < 576)
    (h : registerRead p func o width (advance dt s) = t) : Gives (.rcRegisterRead dt p func o width) s t := by
  refine Gives.of_run (f := registerRead p func o width) rfl ?_ h
  cases func with
  | none => simp [okPart, okFuncOpt, hp]
  | some f => simp [okPart, okFuncOpt, okFunc, hp, hf f rfl]

section
variable (hp : p < 64) (hhome : partHome (advance dt s) p = (advance dt s).dev) (hen : partEn (advance dt s) p = true)
include hp hhome hen

theorem registerWrite_func0 (h : writeReg0 p o width v (advance dt s) = t) : Gives (.registerWrite dt p none o width v) s t := by
  show execRegisterWrite dt p none o width v s = _
  refine run_gives ?_ ?_
  · simp [okPart, okFuncOpt, hp]
  · exact (if_neg (by simp [hhome, hen])).trans h

theorem registerWrite_func {f : Nat} (hf : f < 576) (hpart : funcPart (advance dt s) f = p)
    (hvf : 512 ≤ f ∨ vfEn (advance dt s) f = true) (h : writeRegF f o width v (advance dt s) = t) :
    Gives (.registerWrite dt p (some f) o width v) s t := by
  show execRegisterWrite dt p (some f) o width v s = _
  refine run_gives ?_ ?_
  · simp [okPart, okFuncOpt, okFunc, hp, hf]
  · exact (if_neg (by simp [hhome, hen])).trans ((if_pos ⟨hpart, hvf⟩).trans h)

end
end

/-- Settles O34: each register of the BARs by the equation of its read or write. -/
theorem ringAndBarRegistersWork : Obligations.RingAndBarRegistersWork := by
  unfold Obligations.RingAndBarRegistersWork
  refine ⟨?reads, ?writes⟩
  case reads =>
    intro s dt p v a q hp hv
    refine ⟨fun h => errHeadWrite_gives hp (writeErrHead_moves hv h), fun h => errHeadWrite_gives hp (writeErrHead_beyond hv h),
      fun hhome hen hlost hignored htail hhead herr => ?_,
      fun haway func o width hf => rcRegisterRead_gives hp hf (registerRead_away haway)⟩
    intro reads
    have gives {o width : Nat} {t : State} (h : registerRead p none o width a = t) : Gives (.rcRegisterRead dt p none o width) s t :=
      rcRegisterRead_gives hp (by simp) h
    obtain ⟨hclearErr, hclearLost, hclearIgnored⟩ := registerRead_clears hhome hen hlost hignored herr
    refine ⟨gives hclearErr, gives hclearLost, gives hclearIgnored, fun x hx => ?values,
      fun o width h => gives (registerRead_plain hhome hen h), fun f hf hpart hvf => ?functions⟩
    case values =>
      have value (o width : Nat) {x : Nat} (hplain : o ∉ [0x1010, 0x1014, 0x3008]) (h : readReg0 a p o width = x) :
          Gives (.rcRegisterRead dt p none o width) s (reads o x) :=
        gives (h ▸ registerRead_plain hhome hen fun _ => hplain)
      simp only [List.mem_cons, List.not_mem_nil, or_false] at hx
      rcases hx with rfl | rfl | rfl | rfl | rfl | rfl | rfl | rfl
      · exact value 0x000 64 (by decide) (readReg0_quad rfl rfl (bar0At_identity a p) (BitVec.isLt _))
      · exact value 0x1000 32 (by decide) (readReg0_low rfl rfl (bar0At_doorbell a p) (by decide))
      · exact value 0x1008 64 (by decide) (readReg0_quad rfl rfl (bar0At_status a p) (BitVec.isLt _))
      · exact value 0x2000 32 (by decide) (readReg0_low rfl rfl rfl (BitVec.isLt _))
      · exact value 0x2004 32 (by decide) (readReg0_high rfl rfl rfl (BitVec.isLt q.intStatus) (BitVec.isLt _))
      · exact value 0x3000 32 (by decide) (readReg0_low rfl rfl rfl htail)
      · exact value 0x3004 32 (by decide) (readReg0_high rfl rfl rfl htail hhead)
      · exact value 0x1040 64 (by decide) (readReg0_quad rfl rfl rfl (BitVec.isLt _))
    case functions =>
      have reads_func {o width x : Nat} (h : readRegF a f o width = x) :
          Gives (.rcRegisterRead dt p (some f) o width) s (emit (.regRead p (some f) o x) a) :=
        rcRegisterRead_gives hp (by simpa using hf) (h ▸ registerRead_func hhome hen hpart hvf)
      exact ⟨reads_func (readRegF_quad rfl rfl rfl rfl), reads_func (readRegF_quad rfl rfl rfl rfl), fun o width => reads_func rfl⟩
  case writes =>
    intro s dt p v a hp hhome hen
    have gives {o width : Nat} {v : Word64} {t : State} (h : writeReg0 p o width v a = t) :
        Gives (.registerWrite dt p none o width v) s t := registerWrite_func0 hp hhome hen h
    refine ⟨gives (writeReg0_intStatus v), fun i hi hlt => gives (writeReg0_vectors v hi hlt), gives (writeReg0_intMask v), gives rfl,
      gives rfl, gives rfl, gives rfl, fun f hf hpart hvf => ?functions, fun o h h' => gives (writeReg0_reserved v h h')⟩
    have gives_func {o width : Nat} {v : Word64} {t : State} (h : writeRegF f o width v a = t) :
        Gives (.registerWrite dt p (some f) o width v) s t := registerWrite_func hp hhome hen hf hpart hvf h
    exact ⟨gives_func rfl, gives_func rfl, fun h => ⟨gives_func (writeRegF_sqBase h v), gives_func (writeRegF_cqBase h v)⟩,
      fun h => ⟨gives_func (if_neg h), gives_func (if_neg h)⟩, fun h => gives_func (writeRegF_ringOn h)⟩

end Sys2Proof

namespace Sys2Proof.Machine

/-! Doorbells (R281, R284). -/

section
variable {s : State} {f : Nat} {v : Word64}

theorem doorbellDead_iff : doorbellDead s f = true ↔ (s.func f).state ≠ 1 ∨ (s.part (funcPart s f)).f1D3 = true := by
  simp [doorbellDead]

theorem sqDoorbell_dead (h : doorbellDead s f = true) : sqDoorbell f v s = count1 (cFunc f cfDoorbells) s := if_pos h

section
variable (hlive : ¬ doorbellDead s f = true)
include hlive

theorem sqDoorbell_moves (h : qf v 11 0 < 2 ^ (s.func f).sqLog2) :
    sqDoorbell f v s = modFunc f (fun q => { q with sqTail := qf v 11 0 }) s :=
  (if_neg hlive).trans (if_neg (Nat.not_le.mpr h))

theorem sqDoorbell_beyond (h : 2 ^ (s.func f).sqLog2 ≤ qf v 11 0) : sqDoorbell f v s = ringError f 3 s :=
  (if_neg hlive).trans (if_pos h)

end

theorem cqDoorbell_dead (h : (s.func f).state = 0 ∨ (s.func f).state = 3) : cqDoorbell f v s = count1 (cFunc f cfDoorbells) s :=
  if_pos (by rcases h with h | h <;> simp [h])

section
variable (h0 : (s.func f).state ≠ 0) (h3 : (s.func f).state ≠ 3)
include h0 h3

theorem cqDoorbell_moves (h : qf v 11 0 < 2 ^ (s.func f).cqLog2) :
    cqDoorbell f v s = modFunc f (fun q => { q with cqHead := qf v 11 0 }) s :=
  (if_neg (by simp [h0, h3])).trans (if_neg (Nat.not_le.mpr h))

theorem cqDoorbell_beyond (h : 2 ^ (s.func f).cqLog2 ≤ qf v 11 0) : cqDoorbell f v s = ringError f 3 s :=
  (if_neg (by simp [h0, h3])).trans (if_pos h)

end
end

/-! Rings start and stop (R280). -/

/-- A ring is enabled with size codes. -/
def ringSized (f sq cq : Nat) (s : State) : State := modFunc f (fun q => { q with ringEn := true, sqLog2 := sq, cqLog2 := cq }) s

/-- A ring starts empty. -/
def ringStarted (f : Nat) (s : State) : State := modFunc f (fun q => { q with
  state := 1, sqHead := 0, sqTail := 0, cqTail := 0, cqHead := 0, cqPhase := true, ringErr := 0 }) s

section
variable {s : State} {f sq cq sq' cq' : Nat}

theorem ringEnable_ignored (h : (s.func f).ringEn = true ∨ (s.func f).state = 3) : ringEnable f sq cq s = s :=
  if_pos (by rcases h with h | h <;> simp [h])

theorem ringEnable_sizes (hen : (s.func f).ringEn = false) (hstate : (s.func f).state ≠ 3)
    (hsq : (if (s.func f).state = 0 then sq else (s.func f).sqLog2) = sq')
    (hcq : (if (s.func f).state = 0 then cq else (s.func f).cqLog2) = cq') :
    ringEnable f sq cq s = if within 4 12 sq' && within 4 12 cq' then ringStarted f (ringSized f sq' cq' s)
      else ringError f 1 (ringSized f sq' cq' s) := by
  have hsized : modFunc f (fun q => { q with
      ringEn := true, sqLog2 := if q.state = 0 then sq else q.sqLog2, cqLog2 := if q.state = 0 then cq else q.cqLog2 }) s =
      ringSized f sq' cq' s := modFunc_congr (by rw [hsq, hcq])
  have hcodes : ((ringSized f sq' cq' s).func f).sqLog2 = sq' ∧ ((ringSized f sq' cq' s).func f).cqLog2 = cq' := by
    simp [ringSized]
  rw [ringEnable, if_neg (by simp [hen, hstate])]
  simp only [hsized, hcodes]
  rfl

theorem settleRing_ends (hen : (s.func f).ringEn = false) (hstate : (s.func f).state = 1 ∨ (s.func f).state = 2)
    (hjobs : jobsOf s f = []) : settleRing f s = modFunc f (fun q => { q with state := 0 }) s :=
  if_pos (by rcases hstate with h | h <;> simp [hen, h, hjobs])

theorem settleRing_stays (h : ¬ (((s.func f).state = 1 ∨ (s.func f).state = 2) ∧ jobsOf s f = [])) : settleRing f s = s :=
  if_neg fun hends => h (by
    simp only [Bool.and_eq_true, Bool.or_eq_true, beq_iff_eq, List.isEmpty_iff] at hends
    exact ⟨hends.1.2, hends.2⟩)

theorem ringDisable_ends (hstate : (s.func f).state = 1 ∨ (s.func f).state = 2) (hjobs : jobsOf s f = []) :
    ringDisable f s = modFunc f (fun q => { q with state := 0 }) (modFunc f (fun q => { q with ringEn := false }) s) :=
  settleRing_ends (by simp) (by simpa using hstate) hjobs

theorem ringDisable_stays (h : ¬ (((s.func f).state = 1 ∨ (s.func f).state = 2) ∧ jobsOf s f = [])) :
    ringDisable f s = modFunc f (fun q => { q with ringEn := false }) s :=
  settleRing_stays (by rwa [modFunc_func_same])

end

/-! A descriptor is fetched into a free context (R281, R285). -/

/-- A ring that has a descriptor to fetch. -/
def FetchReady (s : State) (f : Nat) : Prop :=
  (s.func f).state = 1 ∧ (s.func f).ringEn = true ∧ (s.func f).sqHead ≠ (s.func f).sqTail ∧ busReady s f = true

section
variable {s : State} {f ctx tag : Nat}

theorem not_fetchReady_iff :
    ((s.func f).state != 1 || !(s.func f).ringEn || (s.func f).sqHead == (s.func f).sqTail || !busReady s f) = true ↔
      ¬ FetchReady s f := by
  simp only [FetchReady, Bool.or_eq_true, bne_iff_ne, beq_iff_eq, Bool.not_eq_true', ← Bool.not_eq_true]
  tauto

theorem descriptorFetch_notReady (h : ¬ FetchReady s f) : descriptorFetch f s = s := if_pos (not_fetchReady_iff.mpr h)

section
variable (hready : FetchReady s f)
include hready

theorem descriptorFetch_full (hfull : freeContext s f = none) :
    descriptorFetch f s = s := by
  rw [freeContext] at hfull
  rw [descriptorFetch, if_neg (mt not_fetchReady_iff.mp (not_not_intro hready)), hfull]

variable (hctx : freeContext s f = some ctx)
include hctx

theorem descriptorFetch_noTag (htag : freeReadTag s f = none) : descriptorFetch f s = count1 (cFunc f cfTagWaits) s := by
  rw [freeContext] at hctx
  rw [descriptorFetch, if_neg (mt not_fetchReady_iff.mp (not_not_intro hready)), hctx, htag]

theorem descriptorFetch_fetches (htag : freeReadTag s f = some tag) : descriptorFetch f s =
    let n := (tget 0 (s.func f).ctxSeq ctx + 1) % 64
    let job : Job := { func := f, ctx := ctx, ctxSeq := n, order := s.mover.nextOrder, slot := (s.func f).sqHead
                       tags := [tag], tagAt := s.now }
    issueRead f tag ((s.func f).sqBase.toNat / 4096 * 4096 + 128 * (s.func f).sqHead) 128 0
      (modFunc f (fun q => { q with sqHead := (q.sqHead + 1) % 2 ^ q.sqLog2, ctxSeq := tset 0 q.ctxSeq ctx n })
        (takeReadTag f tag { s with mover.jobs := s.mover.jobs ++ [job], mover.nextOrder := s.mover.nextOrder + 1 })) := by
  rw [freeContext] at hctx
  rw [descriptorFetch, if_neg (mt not_fetchReady_iff.mp (not_not_intro hready)), hctx, htag]

end
end
end Sys2Proof.Machine

namespace Sys2Proof.Machine

/-! A job is found by its function and context, and stays to be found when it changes. -/

section
variable {s : State} {f ctx : Nat} {j : Job}

theorem findJob_key (h : findJob s f ctx = some j) : j.func = f ∧ j.ctx = ctx := by simpa using List.find?_some h

theorem findJob_mem (h : findJob s f ctx = some j) : j ∈ s.mover.jobs := List.mem_of_find?_eq_some h

theorem findJob_modJob {g : Job → Job} (hg : ∀ j, (g j).func = j.func ∧ (g j).ctx = j.ctx) (h : findJob s f ctx = some j) :
    findJob (modJob f ctx g s) f ctx = some (g j) := by
  have hkey : (fun j => j.func == f && j.ctx == ctx) ∘ (fun j => if j.func == f && j.ctx == ctx then g j else j) =
      fun j => j.func == f && j.ctx == ctx := by
    funext x
    by_cases hx : (x.func == f && x.ctx == ctx) = true
    · rw [Function.comp_apply, if_pos hx, (hg x).1, (hg x).2]
    · rw [Function.comp_apply, if_neg hx]
  rw [findJob] at h
  rw [findJob, modJob, List.find?_map, hkey, h, Option.map_some, if_pos (List.find?_some h)]

theorem endJobRead_eq (h : findJob s f ctx = some j) :
    endJobRead j s = forAll j.tags (dropReadTag f) (modJob f ctx (fun j => { j with tags := [] }) s) := by
  obtain ⟨rfl, rfl⟩ := findJob_key h
  rfl

theorem findJob_endJobRead (h : findJob s f ctx = some j) :
    findJob (endJobRead j s) f ctx = some { j with tags := [] } := by
  rw [endJobRead_eq h, forAll_field (fun s => findJob s f ctx) (dropReadTag f) fun _ _ => rfl]
  exact findJob_modJob (fun _ => ⟨rfl, rfl⟩) h

end

/-! A fetched descriptor, and a shard table (R286 to R288). -/

section
variable {s : State} {f ctx : Nat} {j : Job}

/-- A job takes its descriptor. -/
def described (f ctx : Nat) (desc : List Word64) (s : State) : State := modJob f ctx (fun j => seeded { j with desc := desc.take 16 }) s

/-- A job takes its shard table. -/
def tabled (f ctx : Nat) (table : List Byte) (s : State) : State := modJob f ctx (fun j => { j with table := table.take 384 }) s

/-- A job that its descriptor, its shard table or a read of one of them ends. -/
def jobStops (f ctx status x : Nat) (s : State) : State :=
  modJob f ctx (fun j => { j with phase := .ending }) (jobFails f ctx status x s)

theorem seeded_key (j : Job) : (seeded j).func = j.func ∧ (seeded j).ctx = j.ctx := by unfold seeded; split <;> exact ⟨rfl, rfl⟩

section
variable {desc : List Word64} (h : findJob s f ctx = some j)
include h

theorem findJob_described : findJob (described f ctx desc s) f ctx = some (seeded { j with desc := desc.take 16 }) :=
  findJob_modJob (fun _ => seeded_key _) h

theorem descriptorArrived_bad (hbad : descOk (seeded { j with desc := desc.take 16 }) = false) :
    descriptorArrived f ctx desc s = jobStops f ctx 2 0 (described f ctx desc s) := by
  have hfind := findJob_described (desc := desc) h
  rw [described] at hfind
  simp only [descriptorArrived, hfind, hbad]
  rfl

section
variable (hok : descOk (seeded { j with desc := desc.take 16 }) = true)
include hok

theorem descriptorArrived_ready (hcoded : jCoded (seeded { j with desc := desc.take 16 }) = false) :
    descriptorArrived f ctx desc s = modJob f ctx (fun j => { j with phase := .ready, coefReady := true }) (described f ctx desc s) := by
  have hfind := findJob_described (desc := desc) h
  rw [described] at hfind
  simp only [descriptorArrived, hfind, hok, hcoded]
  rfl

theorem descriptorArrived_coded (hcoded : jCoded (seeded { j with desc := desc.take 16 }) = true) :
    descriptorArrived f ctx desc s =
      startTable f ctx (modJob f ctx (fun j => { j with phase := .tableWait }) (described f ctx desc s)) := by
  have hfind := findJob_described (desc := desc) h
  rw [described] at hfind
  simp only [descriptorArrived, hfind, hok, hcoded]
  rfl

end
end

theorem tableFailed_eq (h : j.func = f ∧ j.ctx = ctx) : tableFailed j s = jobStops f ctx 3 (jDst j 0) s := by
  obtain ⟨rfl, rfl⟩ := h
  rfl

section
variable {table : List Byte} (h : findJob s f ctx = some j)
include h

theorem tableArrived_eq : tableArrived f ctx table s = if tableOk { j with table := table.take 384 } then
      modJob f ctx (fun j => { j with phase := .ready, coefReady := jOp j != 4 || jCoefSw j }) (tabled f ctx table s)
    else jobStops f ctx 2 0 (tabled f ctx table s) := by
  have hfind : findJob (tabled f ctx table s) f ctx = some { j with table := table.take 384 } :=
    findJob_modJob (fun _ => ⟨rfl, rfl⟩) h
  rw [tabled] at hfind
  simp only [tableArrived, hfind]
  rfl

theorem startTable_starts (hphase : j.phase = .tableWait) (hdying : (s.func f).dying = false) (hbus : busReady s f = true)
    (htags : (tableCuts s j).length ≤ (((List.range (funcTags f)).filter (tagFree s f)).take (tableCuts s j).length).length) :
    let tags := ((List.range (funcTags f)).filter (tagFree s f)).take (tableCuts s j).length
    startTable f ctx s = forAll (tags.zip (tableCuts s j)) (fun r s => issueRead f r.1 r.2.1 r.2.2 (jClass j) (takeReadTag f r.1 s))
      (modJob f ctx (fun j => { j with phase := .tableRead, tags := tags, tagAt := s.now }) s) := by
  simp only [startTable, h]
  exact if_neg (by simp [hphase, hdying, hbus] at htags ⊢; omega)

theorem startTable_waits (hwaits : ¬ (j.phase = .tableWait ∧ (s.func f).dying = false ∧ busReady s f = true ∧
      (tableCuts s j).length ≤ (((List.range (funcTags f)).filter (tagFree s f)).take (tableCuts s j).length).length)) :
    startTable f ctx s = s := by
  simp only [startTable, h]
  refine if_pos ?_
  by_contra hstarts
  simp only [not_or, not_not, Bool.not_eq_true (Func.dying _), Nat.not_lt] at hstarts
  exact hwaits hstarts

end

theorem fetchFailed_running {slot : Nat} (h : (s.func f).state = 1) : fetchFailed f ctx slot s =
    removeJob f ctx (ringError f 2 (modFunc f (fun q => { q with sqHead := slot }) s)) :=
  congrArg (removeJob f ctx) (if_pos (beq_iff_eq.mpr h))

theorem fetchFailed_stopped {slot : Nat} (h : (s.func f).state ≠ 1) : fetchFailed f ctx slot s = removeJob f ctx s :=
  congrArg (removeJob f ctx) (if_neg (mt beq_iff_eq.mp h))

end

/-! A job becomes bound (R96, R300). -/

/-- A ready job that nothing holds back from an engine: an ordered one waits until it is its function's oldest. -/
def BindReady (s : State) (f : Nat) (j : Job) : Prop :=
  j.phase = .ready ∧ j.error = none ∧ (s.func f).dying = false ∧ (jOrder j = true → ∀ x ∈ jobsOf s f, j.order ≤ x.order)

section
variable {s : State} {f ctx e : Nat} {j : Job}

theorem not_bindReady_iff : (j.phase ≠ .ready ∨ j.error.isSome = true ∨
      (jOrder j && (jobsOf s f).any fun x => decide (x.order < j.order)) = true ∨ (s.func f).dying = true) ↔ ¬ BindReady s f j := by
  have horder : (jOrder j && (jobsOf s f).any fun x => decide (x.order < j.order)) = true ↔
      ¬ (jOrder j = true → ∀ x ∈ jobsOf s f, j.order ≤ x.order) := by simp
  rw [horder, BindReady, ← Option.not_isSome_iff_eq_none, ← Bool.not_eq_true]
  tauto

theorem jobBind_none (h : findJob s f ctx = none) : jobBind f ctx s = s := by simp only [jobBind, h]

section
variable (h : findJob s f ctx = some j)
include h

theorem jobBind_table (hphase : j.phase = .tableWait) : jobBind f ctx s = startTable f ctx s := by simp only [jobBind, h, hphase, if_true]

theorem jobBind_waits (hphase : j.phase ≠ .tableWait) (hwaits : ¬ BindReady s f j) : jobBind f ctx s = s := by
  simp only [jobBind, h, if_neg hphase]
  exact if_pos (not_bindReady_iff.mpr hwaits)

theorem jobBind_noEngine (hphase : j.phase ≠ .tableWait) (hnone : leastLoaded s = none) : jobBind f ctx s = s := by
  simp only [jobBind, h, if_neg hphase, hnone, ite_self]

theorem jobBind_binds (hready : BindReady s f j) (he : leastLoaded s = some e) : jobBind f ctx s =
    count1 (cEng e 0) (modJob f ctx (fun j => { j with phase := .bound, engine := some e, boundAt := halfTick s })
      (if leafEmpty s e f (jClass j) then
        { s with sched.backlogSince := tput s.sched.backlogSince (defLeaf e (jClass j) f) s.now } else s)) := by
  have hphase : j.phase ≠ .tableWait := by simp [hready.1]
  simp only [jobBind, h, if_neg hphase, he]
  exact if_neg (mt not_bindReady_iff.mp (not_not_intro hready))

end
end
end Sys2Proof.Machine

namespace Sys2Proof

open Machine

section
variable {s t : State} {dt : Time} {f ctx : Nat} (hf : f < 576)
include hf

theorem sqDoorbell_gives {v : Word64} (h : sqDoorbell f v (advance dt s) = t) : Gives (.sqDoorbell dt f v) s t :=
  Gives.of_run (f := sqDoorbell f v) rfl (decide_eq_true hf) h

theorem cqDoorbell_gives {v : Word64} (h : cqDoorbell f v (advance dt s) = t) : Gives (.cqDoorbell dt f v) s t :=
  Gives.of_run (f := cqDoorbell f v) rfl (decide_eq_true hf) h

theorem ringEnable_gives {sq cq : Nat} (h : ringEnable f (sq % 16) (cq % 16) (advance dt s) = t) : Gives (.ringEnable dt f sq cq) s t :=
  Gives.of_run (f := ringEnable f (sq % 16) (cq % 16)) rfl (decide_eq_true hf) h

theorem ringDisable_gives (h : ringDisable f (advance dt s) = t) : Gives (.ringDisable dt f) s t :=
  Gives.of_run (f := ringDisable f) rfl (decide_eq_true hf) h

theorem descriptorFetch_gives (h : descriptorFetch f (advance dt s) = t) : Gives (.descriptorFetch dt f) s t :=
  Gives.of_run (f := descriptorFetch f) rfl (decide_eq_true hf) h

theorem jobBind_gives (h : jobBind f ctx (advance dt s) = t) : Gives (.jobBind dt f ctx) s t :=
  Gives.of_run (f := jobBind f ctx) rfl (decide_eq_true hf) h

theorem coefficientsDerived_gives : Gives (.coefficientsDerived dt f ctx) s
    (modJob f ctx (fun j => if j.phase = .bound then { j with coefReady := true } else j) (advance dt s)) :=
  Gives.of_run (f := modJob f ctx fun j => if j.phase = .bound then { j with coefReady := true } else j) rfl (decide_eq_true hf) rfl

section
variable {st : CplStatus} {desc : List Word64} {table : List Byte}

section
variable (h : findJob (advance dt s) f ctx = none)
include h

theorem descriptorFetchComplete_none : Gives (.descriptorFetchComplete dt f ctx st desc) s (advance dt s) := by
  show execDescriptorFetchComplete dt f ctx st desc s = _
  exact run_gives (decide_eq_true hf) (by simp only [h])

theorem shardTableReadComplete_none : Gives (.shardTableReadComplete dt f ctx st table) s (advance dt s) := by
  show execShardTableReadComplete dt f ctx st table s = _
  exact run_gives (decide_eq_true hf) (by simp only [h])

end

section
variable {j : Job} (h : findJob (advance dt s) f ctx = some j)
include h

theorem descriptorFetchComplete_late (hphase : j.phase ≠ .fetching) :
    Gives (.descriptorFetchComplete dt f ctx st desc) s (advance dt s) := by
  show execDescriptorFetchComplete dt f ctx st desc s = _
  exact run_gives (decide_eq_true hf) (by simp only [h, if_pos hphase])

theorem descriptorFetchComplete_gives (hphase : j.phase = .fetching)
    (ht : (if ((advance dt s).func f).dying then removeJob f ctx (endJobRead j (advance dt s))
      else if st = .sc ∧ desc ≠ [] then descriptorArrived f ctx desc (endJobRead j (advance dt s))
      else fetchFailed f ctx j.slot (endJobRead j (advance dt s))) = t) :
    Gives (.descriptorFetchComplete dt f ctx st desc) s (startTables f t) := by
  subst ht
  show execDescriptorFetchComplete dt f ctx st desc s = _
  exact run_gives (decide_eq_true hf) (by simp only [h, if_neg (not_not_intro hphase)]; rfl)

theorem shardTableReadComplete_late (hphase : j.phase ≠ .tableRead) :
    Gives (.shardTableReadComplete dt f ctx st table) s (advance dt s) := by
  show execShardTableReadComplete dt f ctx st table s = _
  exact run_gives (decide_eq_true hf) (by simp only [h, if_pos hphase])

theorem shardTableReadComplete_gives (hphase : j.phase = .tableRead)
    (ht : (if ((advance dt s).func f).dying then removeJob f ctx (endJobRead j (advance dt s))
      else if st = .sc ∧ table ≠ [] then tableArrived f ctx table (endJobRead j (advance dt s))
      else tableFailed j (endJobRead j (advance dt s))) = t) :
    Gives (.shardTableReadComplete dt f ctx st table) s (startTables f t) := by
  subst ht
  show execShardTableReadComplete dt f ctx st table s = _
  exact run_gives (decide_eq_true hf) (by simp only [h, if_neg (not_not_intro hphase)]; rfl)

end
end
end

/-- Settles O55: each doorbell, each start and stop of a ring, each step of a job from its descriptor to its engine has its equation,
which the ring's state and the job's phase choose. -/
theorem moverRingsAndJobs : Obligations.MoverRingsAndJobs := by
  unfold Obligations.MoverRingsAndJobs
  refine ⟨?rings, ?jobs⟩
  case rings =>
    intro s dt f v a q i dead hf
    have hdead : doorbellDead a f = true ↔ dead := doorbellDead_iff
    refine ⟨fun h => sqDoorbell_gives hf (sqDoorbell_dead (hdead.mpr h)),
      fun hlive h => sqDoorbell_gives hf (sqDoorbell_moves (mt hdead.mp hlive) h),
      fun hlive h => sqDoorbell_gives hf (sqDoorbell_beyond (mt hdead.mp hlive) h),
      fun h => cqDoorbell_gives hf (cqDoorbell_dead h),
      fun h0 h3 h => cqDoorbell_gives hf (cqDoorbell_moves h0 h3 h),
      fun h0 h3 h => cqDoorbell_gives hf (cqDoorbell_beyond h0 h3 h),
      fun sq cq => ⟨fun h => ringEnable_gives hf (ringEnable_ignored h), fun hen hstate => ?enables⟩,
      fun ⟨hstate, hjobs⟩ => ⟨_, ringDisable_gives hf (ringDisable_ends hstate hjobs), by simp only [modFunc_func_same]; rfl⟩,
      fun h => ringDisable_gives hf (ringDisable_stays h)⟩
    intro sq' cq' legal
    have hsizes := ringEnable_sizes (sq' := sq') (cq' := cq') hen hstate rfl rfl
    have hlegal : (within 4 12 sq' && within 4 12 cq') = true ↔ legal := by simp [within, legal, and_assoc]
    exact ⟨fun h => ⟨_, ringEnable_gives hf (hsizes.trans (if_pos (hlegal.mpr h))),
      by simp only [ringStarted, ringSized, modFunc_func_same]; rfl⟩,
      fun h => ringEnable_gives hf (hsizes.trans (if_neg (mt hlegal.mp h)))⟩
  case jobs =>
    intro s dt f ctx a q hf
    refine ⟨?fetch, fun hnone st desc table => ⟨descriptorFetchComplete_none hf hnone, shardTableReadComplete_none hf hnone,
      jobBind_gives hf (jobBind_none hnone)⟩, coefficientsDerived_gives hf, fun j hj => ?found⟩
    case fetch =>
      intro ready free
      refine ⟨fun h => descriptorFetch_gives hf (descriptorFetch_notReady h),
        fun hready hnone => descriptorFetch_gives hf (descriptorFetch_full hready hnone), fun hready hfree htag => ?_,
        fun hready c tag hc htag => descriptorFetch_gives hf (descriptorFetch_fetches hready hc htag)⟩
      obtain ⟨c, hc⟩ := Option.ne_none_iff_exists'.mp hfree
      exact descriptorFetch_gives hf (descriptorFetch_noTag hready hc htag)
    case found =>
      intro b
      have hb : endJobRead j a = b := endJobRead_eq hj
      have hjob : findJob b f ctx = some { j with tags := [] } := hb ▸ findJob_endJobRead hj
      refine ⟨fun st desc => ?descriptor, fun st table => ?table, ?starts, fun h => fetchFailed_running h, fun h => fetchFailed_stopped h,
        ?binds⟩
      case descriptor =>
        intro k c gives
        have hends {t : State} (hphase : j.phase = .fetching) (ht : (if q.dying then removeJob f ctx b
            else if st = .sc ∧ desc ≠ [] then descriptorArrived f ctx desc b else fetchFailed f ctx j.slot b) = t) : gives t :=
          descriptorFetchComplete_gives hf hj hphase (hb ▸ ht)
        refine ⟨descriptorFetchComplete_late hf hj, fun hphase hdying => hends hphase (if_pos hdying), fun hphase hdying hbad => ?_,
          fun hphase hdying hst hdesc => ?_⟩
        · exact hends hphase ((if_neg (ne_true_of_eq_false hdying)).trans (if_neg (by tauto)))
        · have harrived {t : State} (ht : descriptorArrived f ctx desc b = t) : gives t :=
            hends hphase ((if_neg (ne_true_of_eq_false hdying)).trans ((if_pos ⟨hst, hdesc⟩).trans ht))
          exact ⟨fun hbad => harrived (descriptorArrived_bad hjob hbad),
            fun hok hplain => harrived (descriptorArrived_ready hjob hok hplain),
            fun hok hcoded => harrived (descriptorArrived_coded hjob hok hcoded)⟩
      case table =>
        intro k c gives
        have hends {t : State} (hphase : j.phase = .tableRead) (ht : (if q.dying then removeJob f ctx b
            else if st = .sc ∧ table ≠ [] then tableArrived f ctx table b else tableFailed j b) = t) : gives t :=
          shardTableReadComplete_gives hf hj hphase (hb ▸ ht)
        refine ⟨shardTableReadComplete_late hf hj, fun hphase hdying => hends hphase (if_pos hdying), fun hphase hdying hbad => ?_,
          fun hphase hdying hst htable => ?_⟩
        · exact hends hphase ((if_neg (ne_true_of_eq_false hdying)).trans ((if_neg (by tauto)).trans (tableFailed_eq (findJob_key hj))))
        · have harrived {t : State} (ht : tableArrived f ctx table b = t) : gives t :=
            hends hphase ((if_neg (ne_true_of_eq_false hdying)).trans ((if_pos ⟨hst, htable⟩).trans ht))
          exact ⟨fun hok => harrived ((tableArrived_eq hjob).trans (if_pos hok)),
            fun hbad => harrived ((tableArrived_eq hjob).trans (if_neg (ne_true_of_eq_false hbad)))⟩
      case starts =>
        exact ⟨startTable_waits hj, fun ⟨hphase, hdying, hbus, htags⟩ => startTable_starts hj hphase hdying hbus htags⟩
      case binds =>
        exact ⟨fun h => jobBind_gives hf (jobBind_table hj h), fun hphase h => jobBind_gives hf (jobBind_waits hj hphase h),
          fun hphase hnone => jobBind_gives hf (jobBind_noEngine hj hphase hnone),
          fun e h he => jobBind_gives hf (jobBind_binds hj h he)⟩

end Sys2Proof

namespace Sys2Proof.Machine

/-! A completion entry, and the job that it ends (R282, R283, R300). -/

section
variable {s : State} {f ctx : Nat} {j : Job}

/-- The entry of a job may be written: the job is its function's first that has ended, no function-level reset runs, and the ring has room
and the bus number is there. -/
def EntryReady (s : State) (f ctx : Nat) : Prop :=
  (s.mover.ended.find? fun x => x.1 == f) = some (f, ctx) ∧ (s.func f).dying = false ∧
    ((s.func f).cqTail + 1) % 2 ^ (s.func f).cqLog2 ≠ (s.func f).cqHead ∧ busReady s f = true

theorem not_entryReady_iff : ((s.mover.ended.find? fun x => x.1 == f) != some (f, ctx) || (s.func f).dying ||
      ((s.func f).cqTail + 1) % 2 ^ (s.func f).cqLog2 == (s.func f).cqHead || !busReady s f) = true ↔ ¬ EntryReady s f ctx := by
  simp only [EntryReady, Bool.or_eq_true, bne_iff_ne, beq_iff_eq, Bool.not_eq_true', ← Bool.not_eq_true]
  tauto

/-- An entry stands at the tail of its queue, which advances. -/
def entryPosted (f : Nat) (j : Job) (s : State) : State :=
  let q := s.func f
  modFunc f (fun p => { p with
      cqTail := (p.cqTail + 1) % 2 ^ q.cqLog2, cqPhase := if p.cqTail + 1 = 2 ^ q.cqLog2 then !p.cqPhase else p.cqPhase })
    (issueWrite f (q.cqBase.toNat / 4096 * 4096 + 32 * q.cqTail) ((completionEntry j q.cqPhase).flatMap fun w => leBytes 8 w.toNat)
      (jClass j) s)

/-- A job that has ended is signalled, when it asks for it, and counted. -/
def entrySignalled (f : Nat) (j : Job) (s : State) : State :=
  let c := if jIrq j then funcMsix f 0 (jClass j) s else s
  let d := if within 1 6 (jOp j) then count1 (cFunc f (jOp j - 1)) c else c
  if (jobStatus j).1 = 0 then d else count1 (cFunc f cfNotOk) d

theorem completionEntryWrite_none (h : findJob s f ctx = none) : completionEntryWrite f ctx s = s := by
  simp only [completionEntryWrite, h]

section
variable (h : findJob s f ctx = some j)
include h

theorem completionEntryWrite_waits (hwaits : ¬ EntryReady s f ctx) : completionEntryWrite f ctx s = s := by
  simp only [completionEntryWrite, h]
  exact if_pos (not_entryReady_iff.mpr hwaits)

theorem completionEntryWrite_writes (hready : EntryReady s f ctx) : completionEntryWrite f ctx s =
    removeJob f ctx (freeStaging f (heldStaging j) (entrySignalled f j (entryPosted f j s))) := by
  simp only [completionEntryWrite, h]
  exact if_neg (mt not_entryReady_iff.mp (not_not_intro hready))

/-- A job that a change ends joins those whose entries are to be written. -/
theorem modJob_ended {g : Job → Job} (hkey : (g j).func = f ∧ (g j).ctx = ctx) (hnew : (f, ctx) ∉ s.mover.ended)
    (hends : jobEnds (g j) = true) (hloop : (g j).loop = false) : (modJob f ctx g s).mover.ended = s.mover.ended ++ [(f, ctx)] := by
  have hmem : g j ∈ s.mover.jobs.map fun j => if j.func == f && j.ctx == ctx then g j else j :=
    List.mem_map.mpr ⟨j, findJob_mem h, if_pos (List.find?_some h)⟩
  refine if_pos ?_
  rw [Bool.and_eq_true, List.any_eq_true]
  exact ⟨by simp [hnew], g j, hmem, by simp [hkey, hends, hloop]⟩

end

theorem settleRing_cases (f : Nat) (s : State) : settleRing f s = modFunc f (fun q => { q with state := 0 }) s ∨ settleRing f s = s :=
  ite_eq_or_eq _ _ _

theorem settleRing_jobs (f : Nat) (s : State) : (settleRing f s).mover.jobs = s.mover.jobs := by
  rcases settleRing_cases f s with h | h <;> rw [h]
  rfl

theorem settleRing_ended (f : Nat) (s : State) : (settleRing f s).mover.ended = s.mover.ended := by
  rcases settleRing_cases f s with h | h <;> rw [h]
  rfl

theorem findJob_removeJob (f ctx : Nat) (s : State) : findJob (removeJob f ctx s) f ctx = none := by
  rw [findJob, removeJob, settleRing_jobs, List.find?_eq_none]
  intro j hj
  have hkey := (List.mem_filter.mp hj).2
  exact fun h => absurd hkey (by rw [h]; decide)

theorem removeJob_ended (f ctx : Nat) (s : State) : (f, ctx) ∉ (removeJob f ctx s).mover.ended := by
  rw [removeJob, settleRing_ended]
  simp

theorem jobStatus_error {st x : Nat} (h : j.error = some (st, x)) : jobStatus j = (st, x, 0) := by simp only [jobStatus, h]

/-- Only DIGEST and CHECK have a result besides their status. -/
theorem jobStatus_ok (h : j.error = none) (hop : jOp j < 5) : jobStatus j = (0, 0, 0) := by
  simp only [jobStatus, h]
  split
  · omega
  · omega
  · rfl

end

/-! ENGINE_TEST (R304). -/

/-- An engine that drains: its self-test has not begun. -/
def Drains (s : State) (e : Nat) : Prop := (s.engine e).drainMb ≠ none ∧ (s.engine e).testing = false

/-- The drain of an engine has jobs left at its limit. -/
def DrainsLate (s : State) (e : Nat) : Prop := Drains s e ∧ engineBusy s e = true ∧ (s.engine e).drainUntil ≤ s.now

section
variable {s : State} {e : Nat}

theorem drains_iff : ((s.engine e).drainMb.isSome && !(s.engine e).testing) = true ↔ Drains s e := by
  simp [Drains, Option.isSome_iff_ne_none]

theorem drainsLate_iff : ((s.engine e).drainMb.isSome && !(s.engine e).testing && engineBusy s e &&
    decide ((s.engine e).drainUntil ≤ s.now)) = true ↔ DrainsLate s e := by
  rw [DrainsLate, Bool.and_eq_true, Bool.and_eq_true, drains_iff, decide_eq_true_iff, and_assoc]

theorem endDrain_unawaited {inService : Bool} {status : Nat} {pay : List Word64}
    (h : (s.mb ((s.engine e).drainMb.getD nobody)).waiting ≠ waitEngine) :
    endDrain e inService status pay s = modEngine e (fun _ => { inService := inService }) s := if_neg h

end
end Sys2Proof.Machine

namespace Sys2Proof

open Machine

theorem completionEntryWrite_gives {s t : State} {dt : Time} {f ctx : Nat} (hf : f < 576)
    (h : completionEntryWrite f ctx (advance dt s) = t) : Gives (.completionEntryWrite dt f ctx) s t :=
  Gives.of_run (f := completionEntryWrite f ctx) rfl (decide_eq_true hf) h

section
variable {s : State} {dt : Time} {e : Nat} (he : e < 4)
include he

theorem engineDrainDone_tests (hdrains : Drains (advance dt s) e) (hidle : engineBusy (advance dt s) e = false) :
    Gives (.engineDrainDone dt e) s (modEngine e (fun x => { x with testing := true }) (advance dt s)) := by
  show execEngineDrainDone dt e s = _
  exact run_gives (decide_eq_true he) (if_pos (by rw [drains_iff.mpr hdrains, hidle]; rfl))

theorem engineDrainDone_waits (h : ¬ Drains (advance dt s) e ∨ engineBusy (advance dt s) e = true) :
    Gives (.engineDrainDone dt e) s (advance dt s) := by
  show execEngineDrainDone dt e s = _
  refine run_gives (decide_eq_true he) (if_neg ?_)
  rw [Bool.and_eq_true, drains_iff]
  rcases h with h | h <;> simp [h]

theorem engineSelfTestDone_untested {pass : Bool} (h : ((advance dt s).engine e).testing = false) :
    Gives (.engineSelfTestDone dt e pass) s (advance dt s) := by
  show execEngineSelfTestDone dt e pass s = _
  exact run_gives (decide_eq_true he) (if_neg (ne_true_of_eq_false h))

theorem engineSelfTestDone_ends (pass : Bool) (h : ((advance dt s).engine e).testing = true) :
    let c := count1 (cEng e 4) (advance dt s)
    Gives (.engineSelfTestDone dt e pass) s (endDrain e pass stOk [quad [(63, 63, b2n pass)]]
      (if pass then c else record [] { devRec c 0x0603 2 0 0 with dstFunc := some e } c)) := by
  show execEngineSelfTestDone dt e pass s = _
  exact run_gives (decide_eq_true he) (if_pos h)

theorem engineDrainTimeout_ends (h : DrainsLate (advance dt s) e) : Gives (.engineDrainTimeout dt e) s
    (endDrain e ((advance dt s).engine e).inService stTimeout [] (advance dt s)) := by
  show execEngineDrainTimeout dt e s = _
  exact run_gives (decide_eq_true he) (if_pos (drainsLate_iff.mpr h))

theorem engineDrainTimeout_waits (h : ¬ DrainsLate (advance dt s) e) : Gives (.engineDrainTimeout dt e) s (advance dt s) := by
  show execEngineDrainTimeout dt e s = _
  exact run_gives (decide_eq_true he) (if_neg (mt drainsLate_iff.mp h))

end

/-- Settles O57: an entry is written or waits, as its queue and its function stand; each end of a drain and of a self-test has its
equation. -/
theorem completionEntriesAndEngineTests : Obligations.CompletionEntriesAndEngineTests := by
  unfold Obligations.CompletionEntriesAndEngineTests
  refine ⟨?entries, ?engines⟩
  case entries =>
    intro s dt f ctx a q size hf
    refine ⟨fun hnone => completionEntryWrite_gives hf (completionEntryWrite_none hnone), fun j hj => ?_⟩
    refine ⟨fun h => completionEntryWrite_gives hf (completionEntryWrite_waits hj h), fun hready => ?_,
      fun g hfunc hctx => modJob_ended hj ⟨hfunc, hctx⟩, rfl, fun st x => jobStatus_error, jobStatus_ok⟩
    have hwrites := completionEntryWrite_gives hf (completionEntryWrite_writes hj hready)
    exact ⟨hwrites, _, hwrites, findJob_removeJob f ctx _, removeJob_ended f ctx _⟩
  case engines =>
    intro s dt e a x drains ends he
    refine ⟨fun hdrains hidle => ⟨_, engineDrainDone_tests he hdrains hidle, rfl, ?tested⟩, engineDrainDone_waits he,
      fun pass => engineSelfTestDone_untested he, engineSelfTestDone_ends he true, engineSelfTestDone_ends he false, ?limit⟩
    case tested => exact ⟨modEngine_engine_same _ _ _, fun k hk => modEngine_engine_ne _ _ hk, rfl⟩
    case limit =>
      refine ⟨engineDrainTimeout_ends he, engineDrainTimeout_waits he, fun inService status pay hnot => ?_⟩
      have hends : ends inService status pay a = modEngine e (fun _ => { inService := inService }) a := endDrain_unawaited hnot
      rw [hends]
      exact ⟨modEngine_engine_same _ _ _, rfl⟩

end Sys2Proof

namespace Sys2Proof.Machine

/-! A column whose frames all have their notices, while a function-level reset runs (R298, R306). -/

theorem settleColumn_dying {s : State} {f ctx i : Nat} {j : Job} {c : Column} (hj : findJob s f ctx = some j)
    (hc : j.cols.find? (fun x => x.idx == i) = some c) (hissued : c.issued = true) (hnotices : c.frames.length ≤ c.notices.length)
    (hdying : (s.func f).dying = true) : settleColumn f ctx i s = endColumn f ctx i s := by
  simp only [settleColumn, hj, hc]
  rw [if_neg (by simp [hissued, hnotices]), if_pos (by simp [hdying])]

/-- A column of one frame that was dropped for congestion in its first issue. -/
def droppedColumn : Column := { idx := 0, issued := true, issues := 1, frames := [(0, 0, 0)], notices := [(0, 0, 1)] }

/-- A COPY whose only column has been dropped. -/
def droppedJob : Job := { copyJob with phase := .bound, nextCol := 1, cols := [droppedColumn] }

/-- A function-level reset of the job's function has begun; it lets the job's issued column settle. -/
def resetBegun : State := startFlr1 515 { State.reset with mover.jobs := [droppedJob] }

theorem resetBegun_job : findJob resetBegun 515 0 = some droppedJob ∧ (resetBegun.func 515).dying = true := by decide

/-- The end of a column counts no re-issue, and a re-issue counts itself. -/
theorem resetBegun_counts :
    tget 0 (endColumn 515 0 0 resetBegun).count.live (cFunc 515 cfReissued) = 0 ∧
      tget 0 (reissue 515 0 0 resetBegun).count.live (cFunc 515 cfReissued) = 1 := by decide

end Sys2Proof.Machine

namespace Sys2Proof

open Machine

/-- Refutes O56: its last part has every dropped column issued again, but none is while a function-level reset runs (R306). In the state
`resetBegun` the dropped column ends; the statement has it issued again, which would be counted. -/
theorem not_columnsAreMoved : ¬ Obligations.ColumnsAreMoved := by
  unfold Obligations.ColumnsAreMoved
  intro h
  obtain ⟨hjob, hdying⟩ := resetBegun_job
  obtain ⟨-, -, hsettles⟩ := h
  obtain ⟨-, hagain, -⟩ := hsettles resetBegun 515 0 0 droppedJob droppedColumn hjob rfl rfl le_rfl rfl
  have again := hagain ⟨(0, 0, 1), List.mem_singleton_self _, by decide⟩ (by decide)
  have ends := settleColumn_dying (i := 0) (c := droppedColumn) hjob rfl rfl le_rfl hdying
  obtain ⟨hnone, hone⟩ := resetBegun_counts
  have same := congrArg (fun t : State => tget 0 t.count.live (cFunc 515 cfReissued)) (ends.symm.trans again)
  exact absurd (hnone.symm.trans (same.trans hone)) (by decide)

end Sys2Proof

namespace Sys2Proof.Machine

/-! A device-fatal error (R319). After its record, the end of the spokes, the messages and the alert leave the record, the mark of the
error, the frames and the marked rows. -/

/-- What a device-fatal error settles first, and the rows without a spare. -/
def faultView (s : State) : Bool × Time × Nat × List ErrRec × List (Nat × Nat) × List Frame :=
  (s.errs.c4, s.errs.c4At, s.errs.seq, s.errs.log, s.errs.badRows, s.hub.frames)

section
variable {s : State}

theorem raiseAlert_faultView (n : Option Nat) (s : State) : faultView (raiseAlert n s) = faultView s := by
  unfold raiseAlert
  extract_lets _ s1 _ _ s2
  have h1 : faultView s1 = faultView s := by
    unfold s1
    split
    · rfl
    · rfl
  have h2 : faultView s2 = faultView s1 := by
    unfold s2
    split
    · rfl
    · rfl
  split
  · exact h2.trans h1
  · exact h2.trans h1

theorem sendMsg_faultView (p : Nat) (m : MsgKind) (s : State) : faultView (sendMsg p m s) = faultView s := by
  unfold sendMsg
  split
  · rfl
  · split
    · rfl
    · rfl

theorem func0Msg_faultView (p : Nat) (m : MsgKind) (s : State) : faultView (func0Msg p m s) = faultView s := by
  unfold func0Msg
  split
  · exact sendMsg_faultView ..
  · rfl

theorem clearEyes_faultView (ls : List Nat) (s : State) : faultView (clearEyes ls s) = faultView s := by
  rw [clearEyes, forAll_field faultView]
  exact fun _ _ => rfl

theorem endSpoke_faultView (k : Nat) (s : State) : faultView (endSpoke k s) = faultView s := by
  unfold endSpoke
  extract_lets up s1
  split
  · exact clearEyes_faultView _ s1
  · rfl

theorem withLog_faultView (log : List ErrRec) (copies : List (Nat × Nat)) (seq : Nat) (s : State) :
    faultView (withLog log copies seq s) = (s.errs.c4, s.errs.c4At, seq, log, s.errs.badRows, s.hub.frames) := rfl

/-- A record as the log holds it. -/
def numbered (r : ErrRec) (s : State) : ErrRec := { r with seq := s.errs.seq, epoch := s.conf.epoch, time := s.ft.count }

theorem enterLog_faultView (r : ErrRec) (s : State) : faultView (enterLog r s) = (s.errs.c4, s.errs.c4At, (s.errs.seq + 1) % 2 ^ 32,
    newest 4096 (s.errs.log ++ [numbered r s]), s.errs.badRows, s.hub.frames) := by
  rw [enterLog, ← numbered, ← withLog, withLog_faultView]

/-- The newest element of a list is among its newest. -/
theorem mem_newest_concat {α : Type} {n : Nat} (hn : 0 < n) (l : List α) (x : α) : x ∈ newest n (l ++ [x]) := by
  rw [newest, List.drop_append_of_le_length (by rw [List.length_append, List.length_singleton]; omega)]
  exact List.mem_append_right _ (List.mem_singleton_self x)

/-- Frames end, and a first device-fatal error is marked with its moment. -/
def switchingEnds (s : State) : State := { s with errs.c4 := true, errs.c4At := s.now, hub.frames := [], spokes.ctl := [] }

theorem switchingEnds_faultView (s : State) : faultView (switchingEnds s) =
    (true, s.now, s.errs.seq, s.errs.log, s.errs.badRows, []) := rfl

theorem fatal_faultView {cause : Nat} (hreset : inDeviceReset s = false) (hpower : corePowered s = true) (hfirst : s.errs.c4 = false) :
    faultView (fatal cause s) = (true, s.now, (s.errs.seq + 1) % 2 ^ 32,
      newest 4096 (s.errs.log ++ [numbered (devRec s cause 4 0 0) s]), s.errs.badRows, []) := by
  have hlog := enterLog_faultView (devRec s cause 4 0 0) s
  have hnow : (enterLog (devRec s cause 4 0 0) s).now = s.now := (enterLog_reported (Reported.refl s)).now
  simp only [faultView, Prod.mk.injEq] at hlog
  obtain ⟨-, -, hseq, hrecords, hrows, -⟩ := hlog
  have hends := switchingEnds_faultView (enterLog (devRec s cause 4 0 0) s)
  rw [hnow, hseq, hrecords, hrows] at hends
  unfold fatal
  rw [if_neg (by rw [hreset, hpower]; decide)]
  dsimp only
  rw [if_neg (ne_true_of_eq_false hfirst), raiseAlert_faultView, forAll_field faultView _ fun p => func0Msg_faultView p _]
  exact (forAll_field faultView _ endSpoke_faultView _ _).trans hends

/-! The log and the marked rows (R312). -/

theorem raiseAlert_badRows (n : Option Nat) (s : State) : (raiseAlert n s).errs.badRows = s.errs.badRows :=
  congrArg (·.2.2.2.2.1) (raiseAlert_faultView n s)

theorem enterLog_badRows (r : ErrRec) (s : State) : (enterLog r s).errs.badRows = s.errs.badRows := by
  have h := enterLog_faultView r s
  simp only [faultView, Prod.mk.injEq] at h
  obtain ⟨-, -, -, -, hrows, -⟩ := h
  exact hrows

theorem logOnly_badRows (r : ErrRec) (s : State) : (logOnly r s).errs.badRows = s.errs.badRows := by
  unfold logOnly
  extract_lets s1
  split
  · exact (raiseAlert_badRows ..).trans (enterLog_badRows r s)
  · exact enterLog_badRows r s

/-- A record that goes to no ring marks no row. -/
theorem record_nil_badRows (r : ErrRec) (s : State) : (record [] r s).errs.badRows = s.errs.badRows := logOnly_badRows r s

theorem episodeRecord_badRows (p : Nat) (r : ErrRec) (s : State) : (episodeRecord false p r s).errs.badRows = s.errs.badRows := by
  unfold episodeRecord
  extract_lets ps
  split
  · rfl
  · split
    · exact record_nil_badRows ..
    · exact record_nil_badRows ..

theorem memRecord_badRows (cls offset part : Nat) (s : State) : (memRecord cls offset s part).errs.badRows = s.errs.badRows := by
  unfold memRecord
  extract_lets r
  split
  · exact episodeRecord_badRows ..
  · exact logOnly_badRows ..

/-! References (R457 to R460). -/

theorem refLost_both (ha : s.chip.refALost = true) (hb : s.chip.refBLost = true) (r : Bool) : refLost s r = true := by
  cases r
  · exact ha
  · exact hb

theorem setRefLost_now (r lost : Bool) (s : State) : (setRefLost r lost s).now = s.now := by
  cases r
  · rfl
  · rfl

/-- Both references are lost, 1 ms into holdover (R460). -/
def ClockLost (s : State) : Prop :=
  s.chip.holdover = true ∧ s.chip.refALost = true ∧ s.chip.refBLost = true ∧ s.chip.holdoverAt + ms ≤ s.now

theorem clockLost_iff :
    (s.chip.holdover && s.chip.refALost && s.chip.refBLost && s.since s.chip.holdoverAt ms) = true ↔ ClockLost s := by
  simp only [ClockLost, Bool.and_eq_true, since_iff, and_assoc]

/-! Lasting faults in a row (R312, R487). -/

section
variable {bank row : Nat}

theorem repairRow_spared (h : tget 0 s.aging.spares bank < spareRows bank) : repairRow bank row s =
    logOnly { devRec s 0x0702 0 0 0 with address := row * 512 } (count1 (cDev cdRepairs)
      { s with aging.spares := tmod 0 s.aging.spares bank (· + 1), errs.planerRows := s.errs.planerRows ++ [(bank, row)] }) := if_pos h

/-- The state in which a row without a spare is marked and recorded. -/
def rowMarked (bank row : Nat) (s : State) : State :=
  memRecord (bankClass bank) (row * 512) { s with errs.badRows := s.errs.badRows ++ [(bank, row)] }

theorem mem_rowMarked : (bank, row) ∈ (rowMarked bank row s).errs.badRows := by
  rw [rowMarked, memRecord_badRows]
  exact List.mem_append_right _ (List.mem_singleton_self _)

theorem repairRow_marks (h : spareRows bank ≤ tget 0 s.aging.spares bank) : repairRow bank row s =
    if bank = 0 then { rowMarked bank row s with hub.withdrawn := tmod 0 (rowMarked bank row s).hub.withdrawn (row / 6144) (· + 8) }
    else rowMarked bank row s := if_neg h.not_gt

end

/-! Uncorrectable words that depend on what the state holds (Table 10.3). -/

section
variable {st fid : Nat}

theorem memUncorrectable_frame {f : Frame} (h : findFrame s fid = some f) :
    memUncorrectable (.output st fid) s = discard f .memory s ∧ memUncorrectable (.ingressStaging fid) s = discard f .memory s := by
  simp only [memUncorrectable, h, and_self]

theorem memUncorrectable_noFrame (h : findFrame s fid = none) :
    memUncorrectable (.output st fid) s = s ∧ memUncorrectable (.ingressStaging fid) s = s := by
  simp only [memUncorrectable, h, and_self]

end

section
variable {id : Nat}

theorem memUncorrectable_counter_known (h : id ∈ s.count.invalid) : memUncorrectable (.counterBank id) s = s :=
  if_pos (List.contains_iff_mem.mpr h)

theorem memUncorrectable_counter_marks (h : id ∉ s.count.invalid) : memUncorrectable (.counterBank id) s = memRecord 0 (8 * id) { s with
    count.invalid := s.count.invalid ++ [id]
    count.snapInvalid := if s.count.copying then s.count.snapInvalid ++ [id] else s.count.snapInvalid } :=
  if_neg (mt List.contains_iff_mem.mp h)

end

theorem memUncorrectable_tables_unserved (h : s.mgmt.serving = false) : memUncorrectable .tables s = memRecord 0 0 (fatal 0x0B03 s) :=
  if_pos (by rw [h]; rfl)

theorem memUncorrectable_tables_swapped (hserves : s.mgmt.serving = true) (h : swappedNow s = true) :
    memUncorrectable .tables s = memRecord 0 0 s := (if_neg (by rw [hserves]; decide)).trans (if_pos h)

theorem memUncorrectable_tables_stalls (hserves : s.mgmt.serving = true) (h : swappedNow s = false) :
    memUncorrectable .tables s = memRecord 0 0 { s with hub.stalled := true, hub.stalledTick := coreTick s } :=
  (if_neg (by rw [hserves]; decide)).trans (if_neg (ne_true_of_eq_false h))

section
variable {p : Nat}

theorem memUncorrectable_retry_noLink (h : pciePort s p = false ∨ (s.port p).up = false) : memUncorrectable (.pcieRetry p) s = s :=
  if_pos (by rcases h with h | h <;> simp [h])

theorem memUncorrectable_retry_link (hp : pciePort s p = true) (hlink : (s.port p).up = true) : memUncorrectable (.pcieRetry p) s =
    if portUp s p then upstreamReset p (record [portPart s p] { devRec s 0x0103 2 0 0 with srcPort := p } s) else surpriseDown p s :=
  if_neg (by rw [hp, hlink]; decide)

end
end
end Sys2Proof.Machine

namespace Sys2Proof

open Machine

section
variable {s t : State} {dt : Time}

/-! References. -/

theorem referenceUsable_gives {r : Bool} : Gives (.referenceUsable dt r) s (setRefLost r false (advance dt s)) :=
  Gives.of_run (f := setRefLost r false) rfl rfl rfl

theorem referenceLost_other {r : Bool} (h : r ≠ (advance dt s).chip.refSel ∨ (advance dt s).chip.holdover = true) :
    Gives (.referenceLost dt r) s (setRefLost r true (advance dt s)) := by
  show execReferenceLost dt r s = _
  exact run_gives rfl (if_neg (by rcases h with h | h <;> simp [h]))

theorem referenceLost_selected {r : Bool} (hsel : r = (advance dt s).chip.refSel) (h : (advance dt s).chip.holdover = false) :
    Gives (.referenceLost dt r) s
      { setRefLost r true (advance dt s) with chip.holdover := true, chip.holdoverAt := (advance dt s).now } := by
  rw [← setRefLost_now r true]
  show execReferenceLost dt r s = _
  exact run_gives rfl (if_pos (by rw [h, hsel]; simp))

section
variable (hheld : (advance dt s).chip.holdover = true)
include hheld

theorem referenceRelock_other (h : refLost (advance dt s) (!(advance dt s).chip.refSel) = false) :
    Gives (.referenceRelock dt) s (count1 (cDev cdSwitches) { advance dt s with
      chip.holdover := false, chip.refSel := !(advance dt s).chip.refSel
      chip.switchCount := min 65535 ((advance dt s).chip.switchCount + 1) }) := by
  show execReferenceRelock dt s = _
  exact run_gives rfl ((if_neg (by rw [hheld]; decide)).trans (if_pos (by rw [h]; rfl)))

theorem referenceRelock_same (hother : refLost (advance dt s) (!(advance dt s).chip.refSel) = true)
    (h : refLost (advance dt s) (advance dt s).chip.refSel = false) :
    Gives (.referenceRelock dt) s { advance dt s with chip.holdover := false } := by
  show execReferenceRelock dt s = _
  exact run_gives rfl ((if_neg (by rw [hheld]; decide)).trans ((if_neg (by rw [hother]; decide)).trans (if_pos (by rw [h]; rfl))))

end

theorem referenceRelock_nothing (h : (advance dt s).chip.holdover = false ∨
    ((advance dt s).chip.refALost = true ∧ (advance dt s).chip.refBLost = true)) : Gives (.referenceRelock dt) s (advance dt s) := by
  show execReferenceRelock dt s = _
  refine run_gives rfl ?_
  rcases h with hnot | ⟨ha, hb⟩
  · exact if_pos (by rw [hnot]; rfl)
  · simp [refLost_both ha hb]

theorem holdoverTimeout_ends (h : ClockLost (advance dt s)) : Gives (.holdoverTimeout dt) s (fatal 0x0B03 (advance dt s)) := by
  show execHoldoverTimeout dt s = _
  exact run_gives rfl (if_pos (clockLost_iff.mpr h))

theorem holdoverTimeout_waits (h : ¬ ClockLost (advance dt s)) : Gives (.holdoverTimeout dt) s (advance dt s) := by
  show execHoldoverTimeout dt s = _
  exact run_gives rfl (if_neg (mt clockLost_iff.mp h))

/-! A word that reads with an error. -/

section
variable {bank word : Nat} (hbank : bank < 9)
include hbank

section
variable {clean : Bool} (hbad : (bank, word / 512) ∈ (advance dt s).errs.badRows)
include hbad

theorem memSingleBitRead_held {b : Bank} (h : heldAt bank word (advance dt s) = some b) :
    Gives (.memSingleBitRead dt bank word clean) s (memUncorrectable b (drew (advance dt s))) := by
  show execMemSingleBitRead dt bank word clean s = _
  refine run_gives (decide_eq_true hbank) ((if_pos (List.contains_iff_mem.mpr hbad)).trans ?_)
  rw [h]

theorem memSingleBitRead_empty (h : heldAt bank word (advance dt s) = none) :
    Gives (.memSingleBitRead dt bank word clean) s (memRecord (bankClass bank) word (drew (advance dt s))) := by
  show execMemSingleBitRead dt bank word clean s = _
  refine run_gives (decide_eq_true hbank) ((if_pos (List.contains_iff_mem.mpr hbad)).trans ?_)
  rw [h]

end

section
variable (hgood : (bank, word / 512) ∉ (advance dt s).errs.badRows)
include hgood

theorem memSingleBitRead_transient : Gives (.memSingleBitRead dt bank word true) s (memTransient bank word (advance dt s)) := by
  show execMemSingleBitRead dt bank word true s = _
  exact run_gives (decide_eq_true hbank) ((if_neg (mt List.contains_iff_mem.mp hgood)).trans (if_pos rfl))

theorem memSingleBitRead_lasting (h : repairRow bank (word / 512) (count1 (cDev bank) (advance dt s)) = t) :
    Gives (.memSingleBitRead dt bank word false) s t := by
  show execMemSingleBitRead dt bank word false s = _
  exact run_gives (decide_eq_true hbank) ((if_neg (mt List.contains_iff_mem.mp hgood)).trans h)

end
end

theorem memUncorrectableRead_gives {b : Bank} (hb : okBank b = true) (h : memUncorrectable b (advance dt s) = t) :
    Gives (.memUncorrectableRead dt b) s t := Gives.of_run (f := memUncorrectable b) rfl hb h

/-! The tables are written again (R313). -/

section
variable (hstalled : (advance dt s).hub.stalled = true)
include hstalled

theorem tableRewriteDone_resumes (h : (advance dt s).mgmt.serving = true) :
    Gives (.tableRewriteDone dt true) s { advance dt s with hub.stalled := false } := by
  show execTableRewriteDone dt true s = _
  exact run_gives rfl ((if_pos hstalled).trans (if_pos (by rw [h]; rfl)))

theorem tableRewriteDone_fails {ok : Bool} (h : (ok && (advance dt s).mgmt.serving) = false) :
    Gives (.tableRewriteDone dt ok) s (fatal 0x0B03 (advance dt s)) := by
  show execTableRewriteDone dt ok s = _
  exact run_gives rfl ((if_pos hstalled).trans (if_neg (ne_true_of_eq_false h)))

end

theorem tableRewriteDone_nothing {ok : Bool} (h : (advance dt s).hub.stalled = false) :
    Gives (.tableRewriteDone dt ok) s (advance dt s) := by
  show execTableRewriteDone dt ok s = _
  exact run_gives rfl (if_neg (ne_true_of_eq_false h))

end

/-- Settles O39: each event of the references has its equation; a device-fatal error is read off what its later parts leave; a word that
reads with an error acts by the marks of its row, and an uncorrectable one by what its memory holds. -/
theorem referencesFatalAndMemoryErrors : Obligations.ReferencesFatalAndMemoryErrors := by
  unfold Obligations.ReferencesFatalAndMemoryErrors
  refine ⟨?references, ?deviceFatal, ?rows, ?words⟩
  case references =>
    intro s dt r a
    refine ⟨referenceUsable_gives, referenceLost_other, referenceLost_selected, referenceRelock_other, referenceRelock_same,
      referenceRelock_nothing, fun hheld ha hb hlate => holdoverTimeout_ends ⟨hheld, ha, hb, hlate⟩,
      fun h => holdoverTimeout_waits ?early, .of_run (f := fatal 0x0B03) rfl rfl rfl, .of_run (f := fatal 0x0B03) rfl rfl rfl⟩
    rintro ⟨hheld, ha, hb, hlate⟩
    rcases h with h | h | h | h
    · exact Bool.noConfusion (hheld.symm.trans h)
    · exact Bool.noConfusion (ha.symm.trans h)
    · exact Bool.noConfusion (hb.symm.trans h)
    · exact hlate.not_gt h
  case deviceFatal =>
    intro s cause hreset hpower hfirst
    have hview := fatal_faultView (cause := cause) hreset hpower hfirst
    simp only [faultView, Prod.mk.injEq] at hview
    obtain ⟨hc4, hat, hseq, hlog, -, hframes⟩ := hview
    exact ⟨hc4, hat, hframes, hseq, numbered (devRec s cause 4 0 0) s, hlog ▸ mem_newest_concat (by decide) _ _, rfl, rfl, rfl⟩
  case rows =>
    intro s dt bank word a row lasting hbank
    refine ⟨fun hbad clean => ⟨fun b => memSingleBitRead_held hbank hbad, memSingleBitRead_empty hbank hbad⟩, fun hgood =>
      ⟨memSingleBitRead_transient hbank hgood, fun hspare => memSingleBitRead_lasting hbank hgood (repairRow_spared hspare),
        fun hfull => ⟨mem_rowMarked, memSingleBitRead_lasting hbank hgood (repairRow_marks hfull)⟩⟩⟩
  case words =>
    intro s dt a reads ownerOf
    have reads_of {b : Bank} {t : State} (hb : okBank b = true) (h : memUncorrectable b a = t) : reads b t :=
      memUncorrectableRead_gives hb h
    refine ⟨fun st fid hst => ⟨fun f hf => ?frame, fun hnone => ?noFrame⟩, fun st hst => reads_of (decide_eq_true hst) rfl,
      fun f ctx i hf => reads_of (decide_eq_true hf) rfl,
      fun id => ⟨fun h => reads_of rfl (memUncorrectable_counter_known h), fun h => reads_of rfl (memUncorrectable_counter_marks h)⟩,
      fun hserves hnot => reads_of rfl (memUncorrectable_tables_stalls hserves hnot),
      fun hserves hswap => reads_of rfl (memUncorrectable_tables_swapped hserves hswap),
      fun hnot => reads_of rfl (memUncorrectable_tables_unserved hnot),
      fun i hi => reads_of hi rfl, fun i hi => reads_of hi rfl, fun r p slot hp => reads_of (decide_eq_true hp) rfl,
      fun k hk => ⟨reads_of (decide_eq_true hk) rfl, reads_of (decide_eq_true hk) rfl⟩, fun p hp => ?retry, fun hstalled => ?rewrite,
      fun hnot ok => tableRewriteDone_nothing hnot⟩
    case frame =>
      obtain ⟨hout, hin⟩ := memUncorrectable_frame (st := st) hf
      exact ⟨reads_of (decide_eq_true hst) hout, reads_of rfl hin⟩
    case noFrame =>
      obtain ⟨hout, hin⟩ := memUncorrectable_noFrame (st := st) hnone
      exact ⟨reads_of (decide_eq_true hst) hout, reads_of rfl hin⟩
    case retry =>
      have hok : okBank (.pcieRetry p) = true := decide_eq_true hp
      exact ⟨fun hnot => reads_of hok (memUncorrectable_retry_noLink hnot),
        fun hport hlink hup => reads_of hok ((memUncorrectable_retry_link hport hlink).trans (if_pos hup)),
        fun hport hlink hdown => reads_of hok ((memUncorrectable_retry_link hport hlink).trans (if_neg (ne_true_of_eq_false hdown)))⟩
    case rewrite =>
      exact ⟨tableRewriteDone_resumes hstalled, fun hnot => tableRewriteDone_fails hstalled hnot,
        tableRewriteDone_fails hstalled (Bool.false_and _)⟩

end Sys2Proof

/-! # Configurations in canonical order (R410) -/

namespace Sys2Proof.Machine

theorem sameKey_iff {x y : CfgEntry} : sameKey x y = true ↔ x.dev = y.dev ∧ x.typ = y.typ ∧ x.a = y.a ∧ x.b = y.b := by
  simp [sameKey, and_assoc]

/-- The canonical order is the lexicographic order of the keys. -/
theorem entryBefore_iff {x y : CfgEntry} : entryBefore x y = true ↔
    x.dev < y.dev ∨ x.dev = y.dev ∧ (x.typ < y.typ ∨ x.typ = y.typ ∧ (x.a < y.a ∨ x.a = y.a ∧ x.b < y.b)) := by
  simp [entryBefore]

theorem entryBefore_trans {x y z : CfgEntry} (h : entryBefore x y = true) (k : entryBefore y z = true) : entryBefore x z = true := by
  rw [entryBefore_iff] at *
  omega

/-- Of two entries with different keys one is before the other. -/
theorem entryBefore_of_not {x e : CfgEntry} (h : ¬ entryBefore x e = true) (k : ¬ sameKey x e = true) : entryBefore e x = true := by
  rw [entryBefore_iff] at *
  rw [sameKey_iff] at k
  omega

theorem entryBefore_of_sameKey {x e f : CfgEntry} (k : sameKey x e = true) : entryBefore x f = entryBefore e f := by
  obtain ⟨h1, h2, h3, h4⟩ := sameKey_iff.1 k
  simp [entryBefore, h1, h2, h3, h4]

theorem cfgAscending_iff (es : List CfgEntry) : cfgAscending es = true ↔ es.Pairwise fun x y => entryBefore x y = true := by
  induction es with
  | nil => simp [cfgAscending]
  | cons e r ih =>
    cases r with
    | nil => simp [cfgAscending]
    | cons f r =>
      rw [cfgAscending, Bool.and_eq_true, ih, List.pairwise_cons (a := e)]
      refine and_congr_left fun h => ⟨fun hef y hy => ?_, fun hall => hall f List.mem_cons_self⟩
      rcases List.mem_cons.1 hy with rfl | hy
      · exact hef
      · exact entryBefore_trans hef ((List.pairwise_cons.1 h).1 y hy)

/-- Canonical form: strictly ascending, and no entry at its Reset value. -/
theorem cfgCanon_iff (es : List CfgEntry) : cfgCanon es = true ↔
    es.Pairwise (fun x y => entryBefore x y = true) ∧ ∀ e ∈ es, e.data ≠ recReset e.typ e.a := by
  simp [cfgCanon, cfgAscending_iff]

theorem mem_cfgInsert {es : List CfgEntry} {x y : CfgEntry} (h : y ∈ cfgInsert es x) : y = x ∨ y ∈ es := by
  induction es with
  | nil => simpa [cfgInsert] using h
  | cons e r ih =>
    unfold cfgInsert at h
    split at h
    · simpa using h
    · split at h <;> simp only [List.mem_cons] at h ⊢
      · exact h.imp_right .inr
      · rcases h with h | h
        · exact .inr (.inl h)
        · exact (ih h).imp_right .inr

theorem cfgInsert_ascending {es : List CfgEntry} (x : CfgEntry) (h : es.Pairwise fun x y => entryBefore x y = true) :
    (cfgInsert es x).Pairwise fun x y => entryBefore x y = true := by
  induction es with
  | nil => simp [cfgInsert]
  | cons e r ih =>
    obtain ⟨hall, hr⟩ := List.pairwise_cons.1 h
    unfold cfgInsert
    split
    · next hb => exact List.pairwise_cons.2 ⟨fun y hy => (List.mem_cons.1 hy).elim (· ▸ hb) fun hy => entryBefore_trans hb (hall y hy), h⟩
    · next hb =>
      split
      · next hk => exact List.pairwise_cons.2 ⟨fun y hy => entryBefore_of_sameKey hk ▸ hall y hy, hr⟩
      · next hk =>
        exact List.pairwise_cons.2 ⟨fun y hy => (mem_cfgInsert hy).elim (· ▸ entryBefore_of_not hb hk) (hall y), ih hr⟩

theorem cfgLookup_cons (e : CfgEntry) (r : List CfgEntry) (dev typ a b : Nat) :
    cfgLookup (e :: r) dev typ a b = if e.dev = dev ∧ e.typ = typ ∧ e.a = a ∧ e.b = b then e.data else cfgLookup r dev typ a b := rfl

theorem cfgLookup_cfgInsert (es : List CfgEntry) (x : CfgEntry) : cfgLookup (cfgInsert es x) x.dev x.typ x.a x.b = x.data := by
  induction es with
  | nil => simp [cfgInsert, cfgLookup]
  | cons e r ih =>
    unfold cfgInsert
    split
    · simp [cfgLookup]
    · split
      · simp [cfgLookup]
      · next hk =>
        rw [cfgLookup_cons, if_neg, ih]
        rintro ⟨h1, h2, h3, h4⟩
        exact hk (sameKey_iff.2 ⟨h1.symm, h2.symm, h3.symm, h4.symm⟩)

section
variable {dev typ a b : Nat} {x : CfgEntry}

/-- An entry of another key is read through. -/
theorem cfgLookup_cons_ne (r : List CfgEntry) (h : (dev, typ, a, b) ≠ (x.dev, x.typ, x.a, x.b)) :
    cfgLookup (x :: r) dev typ a b = cfgLookup r dev typ a b := by
  rw [cfgLookup_cons, if_neg]
  rintro ⟨h1, h2, h3, h4⟩
  exact h (by rw [h1, h2, h3, h4])

theorem cfgLookup_cfgInsert_ne (es : List CfgEntry) (h : (dev, typ, a, b) ≠ (x.dev, x.typ, x.a, x.b)) :
    cfgLookup (cfgInsert es x) dev typ a b = cfgLookup es dev typ a b := by
  induction es with
  | nil => exact cfgLookup_cons_ne _ h
  | cons e r ih =>
    unfold cfgInsert
    split
    · exact cfgLookup_cons_ne _ h
    · split
      · next hk =>
        obtain ⟨h1, h2, h3, h4⟩ := sameKey_iff.1 hk
        rw [cfgLookup_cons_ne _ h, cfgLookup_cons_ne (x := e) _ (by rwa [← h1, ← h2, ← h3, ← h4])]
      · rw [cfgLookup_cons, cfgLookup_cons, ih]

theorem cfgLookup_cfgErase_ne (es : List CfgEntry) (h : (dev, typ, a, b) ≠ (x.dev, x.typ, x.a, x.b)) :
    cfgLookup (cfgErase es x) dev typ a b = cfgLookup es dev typ a b := by
  induction es with
  | nil => rfl
  | cons e r ih =>
    rw [cfgErase] at ih ⊢
    rw [List.filter_cons]
    split
    · rw [cfgLookup_cons, cfgLookup_cons, ih]
    · next hk =>
      obtain ⟨h1, h2, h3, h4⟩ := sameKey_iff.1 (by simpa using hk)
      rw [ih, cfgLookup_cons_ne (x := e) _ (by rwa [h1, h2, h3, h4])]

end

/-- A record without an entry reads its Reset value. -/
theorem cfgLookup_of_absent {es : List CfgEntry} {x : CfgEntry} (h : ∀ e ∈ es, sameKey e x = false) :
    cfgLookup es x.dev x.typ x.a x.b = recReset x.typ x.a := by
  induction es with
  | nil => rfl
  | cons e r ih =>
    rw [cfgLookup_cons, if_neg, ih fun f hf => h f (List.mem_cons_of_mem _ hf)]
    intro hk
    exact Bool.false_ne_true ((h e List.mem_cons_self).symm.trans (sameKey_iff.2 hk))

theorem cfgLookup_cfgErase (es : List CfgEntry) (x : CfgEntry) : cfgLookup (cfgErase es x) x.dev x.typ x.a x.b = recReset x.typ x.a :=
  cfgLookup_of_absent fun _ he => by simpa using (List.mem_filter.1 he).2

theorem cfgPut_canon {es : List CfgEntry} (x : CfgEntry) (h : cfgCanon es = true) : cfgCanon (cfgPut es x) = true := by
  rw [cfgCanon_iff] at *
  obtain ⟨hasc, hdata⟩ := h
  unfold cfgPut
  split
  · exact ⟨hasc.filter _, fun e he => hdata e (List.mem_filter.1 he).1⟩
  · next hx => exact ⟨cfgInsert_ascending x hasc, fun e he => (mem_cfgInsert he).elim (· ▸ hx) (hdata e)⟩

theorem cfgLookup_cfgPut (es : List CfgEntry) (x : CfgEntry) : cfgLookup (cfgPut es x) x.dev x.typ x.a x.b = x.data := by
  unfold cfgPut
  split
  · next hx => rw [cfgLookup_cfgErase, hx]
  · exact cfgLookup_cfgInsert es x

theorem cfgLookup_cfgPut_ne (es : List CfgEntry) {x : CfgEntry} {dev typ a b : Nat}
    (h : (dev, typ, a, b) ≠ (x.dev, x.typ, x.a, x.b)) : cfgLookup (cfgPut es x) dev typ a b = cfgLookup es dev typ a b := by
  unfold cfgPut
  split
  · exact cfgLookup_cfgErase_ne es h
  · exact cfgLookup_cfgInsert_ne es h

end Sys2Proof.Machine

namespace Sys2Proof

open Machine

/-- Settles O8. -/
theorem configurationHoldsWhatIsPut : Obligations.ConfigurationHoldsWhatIsPut :=
  fun es x h => ⟨cfgPut_canon x h, cfgLookup_cfgPut es x, fun _ _ _ _ hne => cfgLookup_cfgPut_ne es hne⟩

end Sys2Proof

/-! # The lock arbiter's choice (R376) -/

namespace Sys2Proof.Machine

section
variable (s : State)

theorem lockBefore_iff {a b : Nat × Nat × Time} : lockBefore s a b = true ↔
    lockPrio s b.1 < lockPrio s a.1 ∨ lockPrio s a.1 = lockPrio s b.1 ∧ (a.2.1 < b.2.1 ∨ a.2.1 = b.2.1 ∧ a.1 < b.1) := by
  simp [lockBefore]

/-- One request is served no later than another. -/
def ServedFirst (w x : Nat × Nat × Time) : Prop :=
  lockPrio s x.1 ≤ lockPrio s w.1 ∧ (lockPrio s x.1 = lockPrio s w.1 → w.2.1 ≤ x.2.1 ∧ (x.2.1 = w.2.1 → w.1 ≤ x.1))

variable {s} {w x y : Nat × Nat × Time}

theorem ServedFirst.refl : ServedFirst s w w := ⟨le_rfl, fun _ => ⟨le_rfl, fun _ => le_rfl⟩⟩

theorem servedFirst_of_before (h : lockBefore s w x = true) : ServedFirst s w x := by
  rw [lockBefore_iff] at h
  unfold ServedFirst
  omega

theorem servedFirst_of_not_before (h : ¬ lockBefore s w x = true) : ServedFirst s x w := by
  rw [lockBefore_iff] at h
  unfold ServedFirst
  omega

theorem ServedFirst.trans (h : ServedFirst s w x) (k : ServedFirst s x y) : ServedFirst s w y := by
  unfold ServedFirst at *
  omega

theorem bestWaiter_cons_ne_none (r : List (Nat × Nat × Time)) : bestWaiter s (w :: r) ≠ none := by
  unfold bestWaiter
  split
  · split <;> nofun
  · nofun

theorem bestWaiter_eq_none {ws : List (Nat × Nat × Time)} (h : bestWaiter s ws = none) : ws = [] := by
  cases ws with
  | nil => rfl
  | cons w r => exact absurd h (bestWaiter_cons_ne_none r)

/-- The choice is one of the requests, and none is served before it. -/
theorem bestWaiter_first {ws : List (Nat × Nat × Time)} (h : bestWaiter s ws = some w) : w ∈ ws ∧ ∀ x ∈ ws, ServedFirst s w x := by
  induction ws generalizing w with
  | nil => nomatch h
  | cons v r ih =>
    unfold bestWaiter at h
    split at h
    · next b hb =>
      obtain ⟨hmem, hall⟩ := ih hb
      split at h <;> cases h
      · next hv =>
        have hvb := servedFirst_of_before hv
        refine ⟨List.mem_cons_self, fun x hx => ?_⟩
        rcases List.mem_cons.1 hx with rfl | hx
        · exact .refl
        · exact hvb.trans (hall x hx)
      · next hv =>
        refine ⟨List.mem_cons_of_mem _ hmem, fun x hx => ?_⟩
        rcases List.mem_cons.1 hx with rfl | hx
        · exact servedFirst_of_not_before hv
        · exact hall x hx
    · next hb =>
      cases h
      simp [bestWaiter_eq_none hb, ServedFirst.refl]

end

end Sys2Proof.Machine

namespace Sys2Proof

open Machine

/-- Settles O9. -/
theorem arbiterChoosesTheFirst : Obligations.ArbiterChoosesTheFirst :=
  fun _ _ => ⟨fun h => Option.ne_none_iff_exists'.1 fun e => h (bestWaiter_eq_none e), fun _ => bestWaiter_first⟩

end Sys2Proof

/-! # The queue: every command has the common shape -/

namespace Sys2Proof.Machine

/-- Every command lets its time pass and then, where its operands name objects of the part, takes its effect. -/
theorem exec_eq_run (c : Instr) (s : State) : ∃ f, exec c s = run c.dt c.wf f s := by
  cases c <;> (dsimp only [exec, Instr.dt, Instr.wf]; exact ⟨_, rfl⟩)

theorem exec_pending {c : Instr} {s t : State} (h : exec c s = .next t) : t.pending = s.pending := by
  obtain ⟨f, hf⟩ := exec_eq_run c s
  obtain ⟨-, rfl⟩ | ⟨-, rfl⟩ := run_next (hf.symm.trans h) <;> rfl

theorem step_nil {s : State} (h : s.pending = []) : step s = .next s := by rw [step, h]

theorem step_cons {s : State} {c : Instr} {rest : List Instr} (h : s.pending = c :: rest) :
    step s = exec c { s with pending := rest } := by rw [step, h]

theorem step_pending {s t : State} (h : step s = .next t) : t.pending = s.pending.tail := by
  cases hp : s.pending with
  | nil =>
    cases (step_nil hp).symm.trans h
    simp [hp]
  | cons c rest => exact exec_pending ((step_cons hp).symm.trans h)

/-- Inversion: a step is that of an empty queue or of the command in front. -/
theorem step_cases {s t : State} (h : step s = .next t) :
    t = s ∨ ∃ c rest, s.pending = c :: rest ∧ exec c { s with pending := rest } = .next t := by
  cases hp : s.pending with
  | nil => exact .inl (Host.Outcome.next.inj ((step_nil hp).symm.trans h)).symm
  | cons c rest => exact .inr ⟨c, rest, rfl, (step_cons hp).symm.trans h⟩

end Sys2Proof.Machine

namespace Sys2Proof

open Machine

/-- Settles O1. -/
theorem stepRunsFront : Obligations.StepRunsFront := fun _ _ _ h => step_cons h

/-- Settles O2. -/
theorem commandsRunInOrderAndAlwaysAnswer : Obligations.CommandsRunInOrderAndAlwaysAnswer := by
  refine ⟨fun s h => step_nil h, fun s t h => step_pending h, fun c s => ?_⟩
  obtain ⟨f, hf⟩ := exec_eq_run c s
  exact ⟨⟨_, hf⟩, fun hwf => hf.trans (run_nothing hwf)⟩

end Sys2Proof

/-! # Records of the device log alone, and commands that refuse or record -/

namespace Sys2Proof.Machine

/-! ## A record that goes to no ring (R321, R323) -/

/-- A record as the log numbers it. -/
def logged (r : ErrRec) (s : State) : ErrRec := { r with seq := s.errs.seq, epoch := s.conf.epoch, time := s.ft.count }

section
variable (r : ErrRec) (s : State)

theorem raiseAlert_log (n : Option Nat) (s : State) : (raiseAlert n s).errs.log = s.errs.log := by
  unfold raiseAlert
  extract_lets _ s1 _ _ s2
  have h1 : s1.errs.log = s.errs.log := by cases n <;> rfl
  have h2 : s2.errs.log = s1.errs.log := by
    unfold s2
    split <;> rfl
  split <;> exact h2.trans h1

theorem raiseAlert_count (n : Option Nat) (s : State) : (raiseAlert n s).count = s.count := by
  unfold raiseAlert
  extract_lets _ s1 _ _ s2
  have h1 : s1.count = s.count := by cases n <;> rfl
  have h2 : s2.count = s1.count := by
    unfold s2
    split <;> rfl
  split <;> exact h2.trans h1

theorem record_nil_log : (record [] r s).errs.log = newest 4096 (s.errs.log ++ [logged r s]) := by
  have h : (logOnly r s).errs.log = newest 4096 (s.errs.log ++ [logged r s]) := by
    rw [logOnly, apply_ite fun t : State => t.errs.log, raiseAlert_log, ite_self, enterLog, logged]
  exact h

theorem record_nil_count : (record [] r s).count = s.count := by
  have h : (logOnly r s).count = s.count := by
    rw [logOnly, apply_ite State.count, raiseAlert_count, ite_self, enterLog]
  exact h

theorem deviceRecord_log (cause cls a b : Nat) :
    (deviceRecord cause cls a b s).errs.log = newest 4096 (s.errs.log ++ [logged (devRec s cause cls a b) s]) := record_nil_log ..

theorem deviceRecord_aging (cause cls a b : Nat) : (deviceRecord cause cls a b s).aging = s.aging :=
  (congrArg State.aging (deviceRecord_reported (.refl s)).rest :)
theorem deviceRecord_power (cause cls a b : Nat) : (deviceRecord cause cls a b s).power = s.power :=
  (congrArg State.power (deviceRecord_reported (.refl s)).rest :)

theorem extendEpisode_count (cause part dev port : Nat) : (extendEpisode cause part dev port s).count = s.count := rfl

/-- A record that goes to no ring, coalesced or not, moves no counter. -/
theorem episodeRecord_false_count (part : Nat) : (episodeRecord false part r s).count = s.count := by
  unfold episodeRecord
  simp only [Bool.false_eq_true, if_false]
  split
  · rfl
  · split <;> exact record_nil_count ..

end

/-! ## Debug denials (R266) -/

theorem debugDenied_count (token port : Nat) (s : State) :
    (debugDenied token port s).count = (count1 (cDev cdDebug) s).count := episodeRecord_false_count ..

theorem denyDebug_last (port : Nat) (s : State) : (denyDebug port false s).out.getLast? = some (.debugResponse true [0]) := by
  rw [denyDebug, emit_out, List.getLast?_append]
  rfl

theorem denyDebug_count (port : Nat) (write : Bool) (s : State) :
    tget 0 (denyDebug port write s).count.live (cDev cdDebug) = (tget 0 s.count.live (cDev cdDebug) + 1) % 2 ^ 64 := by
  have h : (denyDebug port write s).count = (count1 (cDev cdDebug) s).count := debugDenied_count ..
  rw [h]
  exact tget_tset ..

/-- The side ports of R32 that strict isolation closes. -/
theorem sidePortOpen_strict {s : State} {k : Bank} (hs : anyStrict s = true) (hk : (∃ f c i, k = .moverStaging f c i) ∨
    (∃ i, k = .tagTable i) ∨ (∃ id, k = .counterBank id ∧
      (id / 2 ^ 24 = 1 ∨ id / 2 ^ 24 = 4 ∨ id / 2 ^ 24 = 5 ∨ id / 2 ^ 24 = 6 ∨ id / 2 ^ 24 = 7))) : sidePortOpen s k = false := by
  rcases hk with ⟨f, c, i, rfl⟩ | ⟨i, rfl⟩ | ⟨id, rfl, hid⟩
  · simp [sidePortOpen, hs]
  · simp [sidePortOpen, hs]
  · simp only [sidePortOpen, hs, Bool.true_and]
    rcases hid with h | h | h | h | h <;> rw [h] <;> rfl

theorem debugSidePort_closed {s : State} {k : Bank} (h : sidePortOpen s k = false) : debugSidePort k s = denyDebug 0 false s := by
  simp [debugSidePort, h]

/-! ## CFG_ABORT (R396) -/

section
variable {s : State} {r : Req} {l : Nat}

theorem cfgAbortBody_prepared (hl : setLock s r = some l) (hp : payloadBad r [2 ^ 64 - 2 ^ 32] = none)
    (hc : (stageSet s l).committed = false) (hx : (stageSet s l).prepared = true)
    (hn : s.conf.coord.map (·.epoch) = some (pf r 0 63 32)) : cfgAbortBody r s = good [] (dropSet l s) := by
  simp only [cfgAbortBody, hl, hp, hc, hx, hn, Bool.false_eq_true, if_false, if_true]

theorem cfgAbortBody_open (hl : setLock s r = some l) (hp : payloadBad r [2 ^ 64 - 2 ^ 32] = none)
    (hc : (stageSet s l).committed = false) (hx : (stageSet s l).prepared = false) (hn : pf r 0 63 32 = 0) :
    cfgAbortBody r s = good [] (dropSet l s) := by
  simp only [cfgAbortBody, hl, hp, hc, hx, hn, Bool.false_eq_true, if_false, if_true]

theorem cfgAbortBody_committed (hl : setLock s r = some l) (hp : payloadBad r [2 ^ 64 - 2 ^ 32] = none)
    (hc : (stageSet s l).committed = true) : cfgAbortBody r s = refuse stStale s := by
  simp only [cfgAbortBody, hl, hp, hc, if_true]

end

theorem attestBody_zero {s : State} {r : Req}
    (hp : payloadBad r [2 ^ 64 - 1, 2 ^ 64 - 1, 2 ^ 64 - 1, 2 ^ 64 - 1, 7] = none) (hz : ((rPay r).take 4).all (· == 0) = true) :
    attestBody r s = invalidAt 0 s := by
  simp only [attestBody, hp, hz, if_true]

/-! ## The wear thresholds (R478) -/

/-- A record stands in the log with fewer than n records behind it. -/
def LoggedWithin (n : Nat) (r : ErrRec) (s : State) : Prop := ∃ pre post, s.errs.log = pre ++ r :: post ∧ post.length < n

theorem LoggedWithin.mem {n : Nat} {r : ErrRec} {s : State} (h : LoggedWithin n r s) : r ∈ s.errs.log := by
  obtain ⟨pre, post, h, -⟩ := h
  simp [h]

theorem newest_append_cons {α : Type} {n : Nat} (pre post : List α) (x : α) (h : post.length < n) :
    ∃ pre', newest n (pre ++ x :: post) = pre' ++ x :: post := by
  have hle : (pre ++ x :: post).length - n ≤ pre.length := by
    rw [List.length_append, List.length_cons]
    omega
  exact ⟨_, List.drop_append_of_le_length hle⟩

theorem deviceRecord_loggedWithin (cause cls a b : Nat) (s : State) :
    LoggedWithin 1 (logged (devRec s cause cls a b) s) (deviceRecord cause cls a b s) := by
  obtain ⟨pre, h⟩ := newest_append_cons (n := 4096) s.errs.log [] (logged (devRec s cause cls a b) s) (by simp)
  exact ⟨pre, [], (deviceRecord_log ..).trans h, Nat.one_pos⟩

/-- One more record moves a record back by one place. -/
theorem LoggedWithin.deviceRecord {n : Nat} {r : ErrRec} {s : State} (h : LoggedWithin n r s) (hn : n < 4096)
    (cause cls a b : Nat) : LoggedWithin (n + 1) r (deviceRecord cause cls a b s) := by
  obtain ⟨pre, post, h, hlen⟩ := h
  obtain ⟨pre', h'⟩ := newest_append_cons (n := 4096) pre (post ++ [logged (devRec s cause cls a b) s]) r (by simp; omega)
  refine ⟨pre', post ++ [logged (devRec s cause cls a b) s], (deviceRecord_log ..).trans ?_, by simpa using hlen⟩
  rw [h, List.append_assoc, List.cons_append, h']

section
variable {n d : Nat} {old new : Wear} {s : State}

theorem wearThresholds_aging (d : Nat) (old new : Wear) (s : State) : (wearThresholds d old new s).aging = s.aging :=
  forAll_field State.aging _ (fun _ s => deviceRecord_aging s ..) _ _

/-- The thresholds that a charge passes. -/
def thresholdsPassed (old new : Wear) : List Nat := [80, 90, 100].filter fun k => decide (lifeUsed old < k) && decide (k ≤ lifeUsed new)

theorem thresholdsPassed_length (old new : Wear) : (thresholdsPassed old new).length ≤ 3 := List.length_filter_le ..

theorem forAll_loggedWithin {r : ErrRec} {cause cls a b : Nat} (l : List Nat) {s : State} (h : LoggedWithin n r s)
    (hn : n + l.length ≤ 4096) : LoggedWithin (n + l.length) r (forAll l (fun _ => deviceRecord cause cls a b) s) := by
  induction l generalizing n s with
  | nil => exact h
  | cons x l ih =>
    rw [List.length_cons] at hn
    have := ih (h.deviceRecord (by omega) cause cls a b) (by omega)
    rwa [List.length_cons, show n + (l.length + 1) = n + 1 + l.length by omega]

theorem LoggedWithin.mono {r : ErrRec} {m : Nat} (h : LoggedWithin n r s) (hm : n ≤ m) : LoggedWithin m r s := by
  obtain ⟨pre, post, h, hlen⟩ := h
  exact ⟨pre, post, h, hlen.trans_le hm⟩

theorem wearThresholds_loggedWithin {r : ErrRec} (h : LoggedWithin n r s) (hn : n + 3 ≤ 4096) :
    LoggedWithin (n + 3) r (wearThresholds d old new s) := by
  have h3 := thresholdsPassed_length old new
  exact (forAll_loggedWithin (thresholdsPassed old new) h (by omega)).mono (by omega)

/-- The record of a threshold that a die passes. -/
def WearRecord (d : Nat) (new : Wear) (r : ErrRec) : Prop := r.cause = 0x0B08 ∧ r.cls = 0 ∧ r.detailA = d ∧ r.detailB = lifeUsed new

theorem wearThresholds_records {k : Nat} (hk : k = 80 ∨ k = 90 ∨ k = 100) (ho : lifeUsed old < k) (hn : k ≤ lifeUsed new) :
    ∃ r, WearRecord d new r ∧ LoggedWithin 3 r (wearThresholds d old new s) := by
  have hmem : k ∈ thresholdsPassed old new := by
    rcases hk with rfl | rfl | rfl <;> simp [thresholdsPassed, ho, hn]
  have hlen := thresholdsPassed_length old new
  change ∃ r, WearRecord d new r ∧ LoggedWithin 3 r (forAll (thresholdsPassed old new) (fun _ => deviceRecord 0x0B08 0 d (lifeUsed new)) s)
  cases hl : thresholdsPassed old new with
  | nil => rw [hl] at hmem; nomatch hmem
  | cons x l =>
    rw [hl, List.length_cons] at hlen
    exact ⟨_, ⟨rfl, rfl, rfl, rfl⟩, (forAll_loggedWithin l (deviceRecord_loggedWithin ..) (by omega)).mono (by omega)⟩

theorem wearThresholds_none (h : ∀ k, k = 80 ∨ k = 90 ∨ k = 100 → lifeUsed new < k ∨ k ≤ lifeUsed old) :
    wearThresholds d old new s = s := by
  have h0 : thresholdsPassed old new = [] := List.filter_eq_nil_iff.2 fun k hk => by
    have := h k (by simpa using hk)
    simp only [Bool.and_eq_true, decide_eq_true_eq]
    omega
  exact congrArg (forAll · _ s) h0

/-- One die's part of a second of wear. -/
def chargeDie (x : Nat × Int) (s : State) : State :=
  wearThresholds x.1 (tget {} s.aging.wear x.1) (wearOne x.2 (tget {} s.aging.wear x.1))
    { s with aging.wear := tset {} s.aging.wear x.1 (wearOne x.2 (tget {} s.aging.wear x.1)) }

theorem wearCharge_eq (temps : List Int) (s : State) :
    wearCharge temps s = forAll (((List.range 6).zip temps).filter fun x => diePowered s x.1) chargeDie s := rfl

theorem chargeDie_wear_ne (x : Nat × Int) (s : State) (h : d ≠ x.1) :
    tget {} (chargeDie x s).aging.wear d = tget {} s.aging.wear d := by
  rw [chargeDie, wearThresholds_aging]
  exact tget_tset_ne _ _ _ h

/-- The other dies' charges leave a die's ledger, and move a record back by no more than three places each. -/
theorem forAll_chargeDie_loggedWithin {r : ErrRec} (l : List (Nat × Int)) {s : State} (h : LoggedWithin n r s)
    (hn : n + 3 * l.length ≤ 4096) : LoggedWithin (n + 3 * l.length) r (forAll l chargeDie s) := by
  induction l generalizing n s with
  | nil => exact h
  | cons x l ih =>
    rw [List.length_cons] at hn
    have hx : LoggedWithin (n + 3) r (chargeDie x s) := wearThresholds_loggedWithin h (by omega)
    have := ih hx (by omega)
    rwa [List.length_cons, show n + 3 * (l.length + 1) = n + 3 + 3 * l.length by omega]

theorem forAll_chargeDie_wear {l : List (Nat × Int)} {s : State} (h : ∀ x ∈ l, d ≠ x.1) :
    tget {} (forAll l chargeDie s).aging.wear d = tget {} s.aging.wear d := by
  induction l generalizing s with
  | nil => rfl
  | cons x l ih =>
    rw [forAll_cons, ih fun y hy => h y (List.mem_cons_of_mem _ hy)]
    exact chargeDie_wear_ne x s (h x List.mem_cons_self)

theorem forAll_append {α : Type} (l m : List α) (f : α → State → State) (s : State) :
    forAll (l ++ m) f s = forAll m f (forAll l f s) := List.foldl_append

/-- A die of a list of different dies that passes a threshold has its record in the log at the end. -/
theorem forAll_chargeDie_records {l : List (Nat × Int)} {x : Int} {k : Nat} {s : State} (hl : (l.map Prod.fst).Nodup)
    (hlen : l.length ≤ 6) (hd : (d, x) ∈ l) (hk : k = 80 ∨ k = 90 ∨ k = 100) (ho : lifeUsed (tget {} s.aging.wear d) < k)
    (hn : k ≤ lifeUsed (wearOne x (tget {} s.aging.wear d))) :
    ∃ r ∈ (forAll l chargeDie s).errs.log, WearRecord d (wearOne x (tget {} s.aging.wear d)) r := by
  obtain ⟨l1, l2, rfl⟩ := List.append_of_mem hd
  have hne : ∀ y ∈ l1, d ≠ y.1 := fun y hy e => by
    rw [List.map_append, List.nodup_append] at hl
    exact hl.2.2 y.1 (List.mem_map_of_mem hy) d (by simp) e.symm
  have hold : tget {} (forAll l1 chargeDie s).aging.wear d = tget {} s.aging.wear d := forAll_chargeDie_wear hne
  rw [List.length_append, List.length_cons] at hlen
  rw [forAll_append, forAll_cons]
  rw [← hold] at ho hn ⊢
  obtain ⟨r, hr, hin⟩ := wearThresholds_records (d := d) (s := { forAll l1 chargeDie s with
    aging.wear := tset {} (forAll l1 chargeDie s).aging.wear d (wearOne x (tget {} (forAll l1 chargeDie s).aging.wear d)) }) hk ho hn
  exact ⟨r, (forAll_chargeDie_loggedWithin l2 hin (by omega)).mem, hr⟩

/-- A die that passes no threshold writes no record. -/
theorem chargeDie_errs {x : Nat × Int} {s : State} (h : ∀ k, k = 80 ∨ k = 90 ∨ k = 100 →
    lifeUsed (wearOne x.2 (tget {} s.aging.wear x.1)) < k ∨ k ≤ lifeUsed (tget {} s.aging.wear x.1)) :
    (chargeDie x s).errs = s.errs := by
  rw [chargeDie, wearThresholds_none h]

theorem forAll_chargeDie_errs {l : List (Nat × Int)} {s : State} (hl : (l.map Prod.fst).Nodup)
    (h : ∀ x ∈ l, ∀ k, k = 80 ∨ k = 90 ∨ k = 100 →
      lifeUsed (wearOne x.2 (tget {} s.aging.wear x.1)) < k ∨ k ≤ lifeUsed (tget {} s.aging.wear x.1)) :
    (forAll l chargeDie s).errs = s.errs := by
  induction l generalizing s with
  | nil => rfl
  | cons x l ih =>
    rw [List.map_cons, List.nodup_cons] at hl
    obtain ⟨hx, hl⟩ := hl
    rw [forAll_cons, ih hl, chargeDie_errs (h x List.mem_cons_self)]
    intro y hy
    rw [chargeDie_wear_ne x s fun e => hx (List.mem_map.2 ⟨y, hy, e⟩)]
    exact h y (List.mem_cons_of_mem _ hy)

/-- The powered dies of a reading are different. -/
theorem powered_nodup {temps : List Int} (h : temps.length = 6) (p : Nat × Int → Bool) :
    ((((List.range 6).zip temps).filter p).map Prod.fst).Nodup := by
  refine (List.filter_sublist.map _).nodup ?_
  rw [List.map_fst_zip (by simp [h])]
  exact List.nodup_range

theorem powered_length (temps : List Int) (p : Nat × Int → Bool) : (((List.range 6).zip temps).filter p).length ≤ 6 := by
  refine (List.length_filter_le ..).trans ?_
  rw [List.length_zip, List.length_range]
  exact min_le_left ..

end

end Sys2Proof.Machine

namespace Sys2Proof

open Machine

/-- Settles O12. -/
theorem strictClosesDebugReads : Obligations.StrictClosesDebugReads := by
  intro s dt k a hs hk hb
  refine ⟨run_gives (f := debugSidePort k) hk ?_, denyDebug_last 0 a, denyDebug_count 0 false a⟩
  exact debugSidePort_closed (sidePortOpen_strict hs hb)

/-- Settles O13. -/
theorem abortDiscardsOrIsStale : Obligations.AbortDiscardsOrIsStale := by
  intro s dt r l a b x hl hsent hp
  refine ⟨fun hc hx hn => ?_, fun hc hx hn => ?_, fun hc => ?_⟩
  · exact opcode_gives hsent (congrArg (conclude r) (cfgAbortBody_open hl hp hc hx hn))
  · exact opcode_gives hsent (congrArg (conclude r) (cfgAbortBody_prepared hl hp hc hx hn))
  · exact opcode_gives hsent (congrArg (conclude r) (cfgAbortBody_committed hl hp hc))

/-- Settles O11. -/
theorem attestRefusesAZeroNonce : Obligations.AttestRefusesAZeroNonce := by
  intro s dt r a b full hsent hp hz
  exact opcode_gives hsent (congrArg (conclude r) (attestBody_zero hp hz))

/-- Settles O15. -/
theorem wearThresholdsAreRecorded : Obligations.WearThresholdsAreRecorded := by
  intro s dt temps a hlen old
  refine ⟨_, run_gives rfl (wearCharge_eq temps a), fun d x k hd hx hk ho hn => ?_, fun h => ?_⟩
  · have hmem : (d, x) ∈ ((List.range 6).zip temps).filter fun y => diePowered a y.1 := by
      obtain ⟨hlt, rfl⟩ := List.getElem?_eq_some_iff.1 hx
      refine List.mem_filter.2 ⟨List.mem_iff_getElem.2 ⟨d, by simpa using ⟨by omega, hlt⟩, by simp⟩, hd⟩
    exact forAll_chargeDie_records (powered_nodup hlen _) (powered_length ..) hmem hk ho hn
  · refine forAll_chargeDie_errs (powered_nodup hlen _) fun y hy k hk => ?_
    obtain ⟨i, hi, rfl⟩ := List.mem_iff_getElem.1 (List.mem_of_mem_filter hy)
    simp only [List.length_zip, List.length_range] at hi
    simp only [List.getElem_zip, List.getElem_range]
    exact h i _ k (List.getElem?_eq_getElem (by omega)) hk

end Sys2Proof

/-! # The reset state, and the voltage that a re-shim run orders (R481) -/

namespace Sys2Proof.Machine

/-- Nothing of the configuration, the mailboxes, the counters or the tables has an entry right after reset. -/
theorem reset_vectors (p i : Nat) : tget i (State.reset.part p).vectors i = i := rfl

/-! ## What a run's other orders leave -/

section
variable {s : State}

theorem sendIdle_aging (k : Nat) (s : State) : (sendIdle k s).aging = s.aging := rfl

theorem sendRows_aging (k : Nat) (rows : List (List Sym)) (s : State) : (sendRows k rows s).aging = s.aging := by
  change (onlyIf _ _ s).aging = s.aging
  rw [onlyIf, apply_ite State.aging, sendIdle_aging, ite_self]

theorem sendRetire_aging (k lane phase : Nat) (s : State) : (sendRetire k lane phase s).aging = s.aging := by
  rw [sendRetire, sendRows_aging, forAll_field State.aging]
  exact fun _ _ => rfl

theorem record_aging (ps : List Nat) (r : ErrRec) (s : State) : (record ps r s).aging = s.aging :=
  (congrArg State.aging (record_reported (.refl s)).rest :)

theorem clearEyes_aging (ls : List Nat) (s : State) : (clearEyes ls s).aging = s.aging := by
  rw [clearEyes, forAll_field State.aging]
  exact fun _ _ => rfl

theorem retireLane_aging (k l : Nat) (s : State) : (retireLane k l s).aging = s.aging := by
  rw [retireLane, record_aging, clearEyes_aging]
  rfl

theorem orderLimits_vddOfs (s : State) : (orderLimits s).aging.vddOfs = s.aging.vddOfs := by
  rw [orderLimits, forAll_field (fun t => t.aging.vddOfs)]
  exact fun _ _ => rfl

theorem orderRetire_vddOfs (moved : Tbl Nat) (k : Nat) (s : State) : (orderRetire moved k s).aging.vddOfs = s.aging.vddOfs := by
  unfold orderRetire
  split
  · rfl
  · split
    · rw [addAction, retireLane_aging, sendRetire_aging]
    · rfl

theorem orderPreset_vddOfs (maxed : List Nat) (l : Nat) (s : State) : (orderPreset maxed l s).aging.vddOfs = s.aging.vddOfs := by
  unfold orderPreset
  dsimp only
  split <;> rfl

theorem orderNotice_vddOfs (maxed : List Nat) (p : Nat) (s : State) : (orderNotice maxed p s).aging.vddOfs = s.aging.vddOfs := by
  unfold orderNotice
  split
  · rw [record_aging]
  · rfl

/-- Orders 2 to 5 leave the offset. -/
theorem orders_vddOfs (maxed : List Nat) (moved : Tbl Nat) (ks ls ps : List Nat) (s : State) :
    (forAll ps (orderNotice maxed) (forAll ls (orderPreset maxed) (forAll ks (orderRetire moved) (orderLimits s)))).aging.vddOfs =
      s.aging.vddOfs := by
  rw [forAll_field (fun t => t.aging.vddOfs) _ (orderNotice_vddOfs _), forAll_field (fun t => t.aging.vddOfs) _ (orderPreset_vddOfs _),
    forAll_field (fun t => t.aging.vddOfs) _ (orderRetire_vddOfs _), orderLimits_vddOfs]

theorem forAll_modLane_vddOfs (ls : List Nat) (f : Lane → Lane) (s : State) :
    (forAll ls (fun l => modLane l f) s).aging.vddOfs = s.aging.vddOfs := by
  rw [forAll_field fun t => t.aging.vddOfs]
  exact fun _ _ => rfl

/-- A run's offset is the one that order 1 chose. -/
theorem startReshim_vddOfs (slow : Nat) (s : State) : (startReshim slow s).aging.vddOfs = (orderVoltage slow { s with
    aging.running := true, aging.runAt := s.now, aging.actions := 0, aging.retrain := [], aging.notices := []
    aging.roSlow := min 255 slow }).aging.vddOfs := by
  unfold startReshim
  exact (forAll_modLane_vddOfs ..).trans (orders_vddOfs ..)

/-! ## Order 1 -/

/-- The state in which order 1 has raised the offset to its limit. -/
def atLimitOffset (s : State) : State :=
  if s.aging.vddOfs = 12 then s else addAction 0 { s with aging.vddOfs := 12, power.vddTarget := 12 }

theorem orderVoltage_beyond {slow : Nat} (h : 70 < slow) (hs : s.aging.vddOfs ≤ 12) :
    orderVoltage slow s = deviceRecord 0x0B07 0 slow 0 (atLimitOffset s) := by
  have hdiv : 12 ≤ ceilDiv (slow - 10) 5 := by
    unfold ceilDiv
    omega
  have hwant : max s.aging.vddOfs (min 12 (ceilDiv (slow - 10) 5)) = 12 := by omega
  unfold orderVoltage atLimitOffset
  simp only [hwant, h, if_true, eq_comm (a := 12)]

theorem atLimitOffset_vddOfs (s : State) : (atLimitOffset s).aging.vddOfs = 12 := by
  unfold atLimitOffset
  split
  · assumption
  · rfl

theorem atLimitOffset_vddTarget (s : State) :
    (atLimitOffset s).power.vddTarget = if s.aging.vddOfs = 12 then s.power.vddTarget else 12 := by
  unfold atLimitOffset
  split <;> rfl

theorem atLimitOffset_seq (s : State) : (atLimitOffset s).errs.seq = s.errs.seq := by
  unfold atLimitOffset
  split <;> rfl

theorem orderVoltage_vddOfs {slow : Nat} (h : 70 < slow) (hs : s.aging.vddOfs ≤ 12) : (orderVoltage slow s).aging.vddOfs = 12 := by
  rw [orderVoltage_beyond h hs, deviceRecord_aging, atLimitOffset_vddOfs]

end

end Sys2Proof.Machine

namespace Sys2Proof

open Machine

/-- Settles O7. -/
theorem resetState : Obligations.ResetState :=
  ⟨rfl, fun _ => ⟨rfl, rfl, rfl, rfl⟩, rfl, rfl, rfl, rfl, fun _ => ⟨rfl, rfl, rfl⟩,
    fun p => ⟨rfl, rfl, rfl, rfl, rfl, reset_vectors p⟩, fun _ => rfl, fun _ => rfl, fun _ => ⟨rfl, rfl⟩, fun _ => rfl⟩

/-- Settles O14. -/
theorem shimExhausts : Obligations.ShimExhausts := by
  intro s dt slow b a hslow hb
  refine ⟨orderVoltage_vddOfs hslow hb, ?target, ⟨logged (devRec (atLimitOffset b) 0x0B07 0 slow 0) (atLimitOffset b), ?record, rfl,
    atLimitOffset_seq b⟩, fun hruns hidle hstage hdays ha => ?run⟩
  case target => rw [orderVoltage_beyond hslow hb, deviceRecord_power, atLimitOffset_vddTarget]
  case record =>
    rw [orderVoltage_beyond hslow hb]
    exact (deviceRecord_loggedWithin ..).mem
  case run =>
    refine ⟨startReshim slow a, run_gives rfl ?_, ?_⟩
    · exact if_pos (by rw [hruns, hidle, decide_eq_true hstage, decide_eq_true hdays]; rfl)
    · rw [startReshim_vddOfs]
      exact orderVoltage_vddOfs hslow ha

end Sys2Proof

/-! # What lasts: the local clock and the fuses -/

namespace Sys2Proof.Machine

/-- What no command may take back: the local clock and the fuses. -/
structure Lasting where
  upTime : Time
  idSeed : BitVec 256
  ownerHash : BitVec 256
  svnFuses : BitVec 64
  ownerSet : Bool
  reqSigned : Bool
  debugOff : Bool
  malweodOff : Bool

def lasting (s : State) : Lasting :=
  ⟨s.chip.upTime, s.sec.idSeed, s.sec.ownerHash, s.sec.svnFuses, s.sec.ownerSet, s.sec.reqSigned, s.sec.debugOff, s.sec.malweodOff⟩

section
variable (s : State)

@[simp] theorem lasting_mk (s : State) : (⟨s.chip.upTime, s.sec.idSeed, s.sec.ownerHash, s.sec.svnFuses, s.sec.ownerSet,
    s.sec.reqSigned, s.sec.debugOff, s.sec.malweodOff⟩ : Lasting) = lasting s := rfl

theorem lasting_of_eq {s t : State} (hc : t.chip = s.chip) (hs : t.sec = s.sec) : lasting t = lasting s := by
  rw [lasting, hc, hs, lasting]

@[simp] theorem lasting_state (chip : Chip) (ft : FabTime) (conf : Conf) (fw : Firmware) (hub : Hub) (sched : Sched) (lanes : Lanes)
    (pcie : Pcie) (spokes : Spokes) (bridge : Bridge) (mover : Mover) (errs : Errs) (slot : SlotDie) (mgmt : Mgmt) (sec : Security)
    (tandem : Tandem) (aging : Aging) (power : Power) (count : Count) (out : List Out) (freeCtr : Nat) (pending : List Instr) :
    lasting ⟨chip, ft, conf, fw, hub, sched, lanes, pcie, spokes, bridge, mover, errs, slot, mgmt, sec, tandem, aging, power, count,
      out, freeCtr, pending⟩ = ⟨chip.upTime, sec.idSeed, sec.ownerHash, sec.svnFuses, sec.ownerSet, sec.reqSigned, sec.debugOff,
      sec.malweodOff⟩ := by rw [lasting]

@[simp] theorem forAll_lasting {α : Type} {f : α → State → State} (h : ∀ x t, lasting (f x t) = lasting t) (l : List α) (s : State) :
    lasting (forAll l f s) = lasting s := forAll_field lasting f h l s

@[simp] theorem ite_lasting (c : Prop) [Decidable c] (t : State) : lasting (if c then s else t) = if c then lasting s else lasting t :=
  apply_ite lasting c s t

@[simp] theorem foldl_lasting {α : Type} {f : State → α → State} (h : ∀ t x, lasting (f t x) = lasting t) (l : List α) (s : State) :
    lasting (l.foldl f s) = lasting s := forAll_lasting (f := fun x t => f t x) (fun x t => h t x) l s

@[simp] theorem onlyIf_lasting {f : State → State} (h : ∀ t, lasting (f t) = lasting t) (b : Bool) (s : State) :
    lasting (onlyIf b f s) = lasting s := by
  cases b
  · rfl
  · exact h s

end
/-! ## The model, function by function -/

/-! ### Base -/

@[simp] theorem emit_lasting (o s) : lasting (emit o s) = lasting s := by simp [emit]
@[simp] theorem drew_lasting (s) : lasting (drew s) = lasting s := by simp [drew]
@[simp] theorem countBy_lasting (id n s) : lasting (countBy id n s) = lasting s := by simp [countBy]
@[simp] theorem count1_lasting (id s) : lasting (count1 id s) = lasting s := by simp [count1]
@[simp] theorem countUnits_lasting (u id n s) : lasting (countUnits u id n s) = lasting s := by simp [countUnits]
@[simp] theorem countBytes_lasting (id n s) : lasting (countBytes id n s) = lasting s := by simp [countBytes]
@[simp] theorem countTime_lasting (id d s) : lasting (countTime id d s) = lasting s := by simp [countTime]
@[simp] theorem modPort_lasting (p f s) : lasting (modPort p f s) = lasting s := by simp [modPort]
@[simp] theorem modAux_lasting (p f s) : lasting (modAux p f s) = lasting s := by simp [modAux]
@[simp] theorem modPart_lasting (p f s) : lasting (modPart p f s) = lasting s := by simp [modPart]
@[simp] theorem modSpoke_lasting (k f s) : lasting (modSpoke k f s) = lasting s := by simp [modSpoke]
@[simp] theorem modStime_lasting (k f s) : lasting (modStime k f s) = lasting s := by simp [modStime]
@[simp] theorem modFunc_lasting (n f s) : lasting (modFunc n f s) = lasting s := by simp [modFunc]
@[simp] theorem modEngine_lasting (n f s) : lasting (modEngine n f s) = lasting s := by simp [modEngine]
@[simp] theorem modChan_lasting (n f s) : lasting (modChan n f s) = lasting s := by simp [modChan]
@[simp] theorem modChanAux_lasting (n f s) : lasting (modChanAux n f s) = lasting s := by simp [modChanAux]
@[simp] theorem modMb_lasting (n f s) : lasting (modMb n f s) = lasting s := by simp [modMb]
@[simp] theorem modLane_lasting (n f s) : lasting (modLane n f s) = lasting s := by simp [modLane]

/-! ### Ops -/

@[simp] theorem modLoop_lasting (depth target f s) : lasting (modLoop depth target f s) = lasting s := by simp [modLoop]
@[simp] theorem countLoop_lasting (depth target units errors s) : lasting (countLoop depth target units errors s) = lasting s := by
  simp [countLoop]

@[simp] theorem countLost_lasting (i s) : lasting (countLost i s) = lasting s := by simp [countLost]
@[simp] theorem routeCells_lasting (d srcDev srcPort dstPort svc cs s) :
    lasting (routeCells d srcDev srcPort dstPort svc cs s) = lasting s := by
  unfold routeCells
  dsimp only
  (repeat' split) <;> simp

@[simp] theorem post_lasting (o s) : lasting (post o s) = lasting s := by
  unfold post
  split <;> simp

@[simp] theorem sendMsg_lasting (p m s) : lasting (sendMsg p m s) = lasting s := by simp [sendMsg]
@[simp] theorem collapse_lasting (u s) : lasting (collapse u s) = lasting s := by simp [collapse]
@[simp] theorem updateLevel_lasting (p s) : lasting (updateLevel p s) = lasting s := by
  unfold updateLevel
  dsimp only
  (repeat' split) <;> simp

@[simp] theorem raiseAlert_lasting (seq s) : lasting (raiseAlert seq s) = lasting s := by
  unfold raiseAlert
  dsimp only
  (repeat' split) <;> simp

@[simp] theorem func0Msg_lasting (p m s) : lasting (func0Msg p m s) = lasting s := by
  unfold func0Msg
  split <;> simp

@[simp] theorem func0Err_lasting (p b m s) : lasting (func0Err p b m s) = lasting s := by simp [func0Err]
@[simp] theorem sendNonFatal_lasting (p s) : lasting (sendNonFatal p s) = lasting s := by simp [sendNonFatal]
@[simp] theorem signalRecord_lasting (p r s) : lasting (signalRecord p r s) = lasting s := by
  unfold signalRecord
  split <;> simp

@[simp] theorem enterLog_lasting (r s) : lasting (enterLog r s) = lasting s := by simp [enterLog]
@[simp] theorem logOnly_lasting (r s) : lasting (logOnly r s) = lasting s := by simp [logOnly]
@[simp] theorem ringWriteBy_lasting (raise p r s) (hraise : ∀ y0 y1 u, lasting (raise y0 y1 u) = lasting u) :
    lasting (ringWriteBy raise p r s) = lasting s := by
  simp [ringWriteBy, hraise]

@[simp] theorem ringCopyBy_lasting (raise p r s) (hraise : ∀ y0 y1 u, lasting (raise y0 y1 u) = lasting u) :
    lasting (ringCopyBy raise p r s) = lasting s := by
  simp [ringCopyBy, hraise]

@[simp] theorem recordBy_lasting (raise ps r s) (hraise : ∀ y0 y1 u, lasting (raise y0 y1 u) = lasting u) :
    lasting (recordBy raise ps r s) = lasting s := by
  simp [recordBy, hraise]

@[simp] theorem extendEpisode_lasting (cause part dev port s) : lasting (extendEpisode cause part dev port s) = lasting s := by
  simp [extendEpisode]

@[simp] theorem writeFailureBy_lasting (raise cause r part s) (hraise : ∀ y0 y1 u, lasting (raise y0 y1 u) = lasting u) :
    lasting (writeFailureBy raise cause r part s) = lasting s := by
  unfold writeFailureBy
  dsimp only
  split <;> simp [hraise]

@[simp] theorem setCause_lasting (p i s) : lasting (setCause p i s) = lasting s := by simp [setCause]
@[simp] theorem countDeny_lasting (port entry s) : lasting (countDeny port entry s) = lasting s := by
  unfold countDeny
  split <;> simp

@[simp] theorem sendVectorBy_lasting (denied p v s) (hdenied : ∀ y0 y1 u, lasting (denied y0 y1 u) = lasting u) :
    lasting (sendVectorBy denied p v s) = lasting s := by
  unfold sendVectorBy
  dsimp only
  (repeat' split) <;> simp [hdenied]

@[simp] theorem sendMsixBy_lasting (denied p i s) (hdenied : ∀ y0 y1 u, lasting (denied y0 y1 u) = lasting u) :
    lasting (sendMsixBy denied p i s) = lasting s := by
  simp [sendMsixBy, hdenied]

@[simp] theorem raiseQuiet_lasting (p i s) : lasting (raiseQuiet p i s) = lasting s := by simp [raiseQuiet]
@[simp] theorem msixDenied_lasting (p addr s) : lasting (msixDenied p addr s) = lasting s := by simp [msixDenied]
@[simp] theorem sendCauseMsix_lasting (p i s) : lasting (sendCauseMsix p i s) = lasting s := by simp [sendCauseMsix]
@[simp] theorem sendVector_lasting (p v s) : lasting (sendVector p v s) = lasting s := by simp [sendVector]
@[simp] theorem raiseCause_lasting (p i s) : lasting (raiseCause p i s) = lasting s := by simp [raiseCause]
@[simp] theorem raiseCauseAll_lasting (i s) : lasting (raiseCauseAll i s) = lasting s := by simp [raiseCauseAll]
@[simp] theorem ringWrite_lasting (p r s) : lasting (ringWrite p r s) = lasting s := by simp [ringWrite]
@[simp] theorem ringCopy_lasting (p r s) : lasting (ringCopy p r s) = lasting s := by simp [ringCopy]
@[simp] theorem record_lasting (ps r s) : lasting (record ps r s) = lasting s := by simp [record]
@[simp] theorem writeFailure_lasting (cause r part s) : lasting (writeFailure cause r part s) = lasting s := by simp [writeFailure]
@[simp] theorem deviceRecord_lasting (cause cls a b s) : lasting (deviceRecord cause cls a b s) = lasting s := by simp [deviceRecord]
@[simp] theorem memTransient_lasting (bank offset s) : lasting (memTransient bank offset s) = lasting s := by simp [memTransient]
@[simp] theorem closeEpisode_lasting (e s) : lasting (closeEpisode e s) = lasting s := by simp [closeEpisode]
@[simp] theorem episodeRecord_lasting (toRing part r s) : lasting (episodeRecord toRing part r s) = lasting s := by
  unfold episodeRecord
  dsimp only
  split <;> simp

@[simp] theorem fencedDiscard_lasting (part dev port s) : lasting (fencedDiscard part dev port s) = lasting s := by
  unfold fencedDiscard
  dsimp only
  split <;> simp

@[simp] theorem endFences_lasting (p s) : lasting (endFences p s) = lasting s := by
  unfold endFences
  refine (forAll_lasting (fun x t => ?_) _ _).trans ?_
  · split <;> simp
  · simp

@[simp] theorem sendCpl_lasting (port rid tag st s) : lasting (sendCpl port rid tag st s) = lasting s := by simp [sendCpl]

/-! ### Line -/

@[simp] theorem putBeats_lasting (k rows s) : lasting (putBeats k rows s) = lasting s := by simp [putBeats]
@[simp] theorem sendIdle_lasting (k s) : lasting (sendIdle k s) = lasting s := by simp [sendIdle]
@[simp] theorem sendRows_lasting (k rows s) : lasting (sendRows k rows s) = lasting s := by simp [sendRows]
@[simp] theorem sendBeat_lasting (k kind a b s) : lasting (sendBeat k kind a b s) = lasting s := by simp [sendBeat]
@[simp] theorem sendRetire_lasting (k lane phase s) : lasting (sendRetire k lane phase s) = lasting s := by simp [sendRetire]
@[simp] theorem sendParts_lasting (k kind sub vs s) : lasting (sendParts k kind sub vs s) = lasting s := by simp [sendParts]
@[simp] theorem countViolations_lasting (k code disp s) : lasting (countViolations k code disp s) = lasting s := by simp [countViolations]
@[simp] theorem tookBeats_lasting (k more x s) : lasting (tookBeats k more x s) = lasting s := by simp [tookBeats]
@[simp] theorem tookCtl_lasting (k b s) : lasting (tookCtl k b s) = lasting s := by simp [tookCtl]
@[simp] theorem tookCtls_lasting (k bs s) : lasting (tookCtls k bs s) = lasting s := by simp [tookCtls]

/-! ### Shapers -/

@[simp] theorem putSh_lasting (k v s) : lasting (putSh k v s) = lasting s := by simp [putSh]
@[simp] theorem openSh_lasting (k s) : lasting (openSh k s) = lasting s := by simp [openSh]
@[simp] theorem wheelInsert_lasting (inst k E s) : lasting (wheelInsert inst k E s) = lasting s := by simp [wheelInsert]
@[simp] theorem wheelRemove_lasting (k s) : lasting (wheelRemove k s) = lasting s := by simp [wheelRemove]
@[simp] theorem chargeSh_lasting (k L s) : lasting (chargeSh k L s) = lasting s := by simp [chargeSh]
@[simp] theorem refundSh_lasting (k L s) : lasting (refundSh k L s) = lasting s := by simp [refundSh]
@[simp] theorem resetSh_lasting (k s) : lasting (resetSh k s) = lasting s := by simp [resetSh]
@[simp] theorem newSh_lasting (k s) : lasting (newSh k s) = lasting s := by simp [newSh]
@[simp] theorem resetShapers_lasting (p s) : lasting (resetShapers p s) = lasting s := by simp [resetShapers]
@[simp] theorem rebaseSh_lasting (k old s) : lasting (rebaseSh k old s) = lasting s := by simp [rebaseSh]
@[simp] theorem releaseDue_lasting (inst s) : lasting (releaseDue inst s) = lasting s := by simp [releaseDue]
@[simp] theorem moveCoarse_lasting (inst s) : lasting (moveCoarse inst s) = lasting s := by simp [moveCoarse]
@[simp] theorem setCurRate_lasting (att sub v s) : lasting (setCurRate att sub v s) = lasting s := by simp [setCurRate]
@[simp] theorem recoveryStep_lasting (att sub s) : lasting (recoveryStep att sub s) = lasting s := by
  unfold recoveryStep
  split <;> simp

@[simp] theorem echoAt_lasting (att sub s) : lasting (echoAt att sub s) = lasting s := by simp [echoAt]

/-! ### Frames -/

@[simp] theorem modFrame_lasting (fid g s) : lasting (modFrame fid g s) = lasting s := by simp [modFrame]
@[simp] theorem dropFrame_lasting (fid s) : lasting (dropFrame fid s) = lasting s := by simp [dropFrame]
@[simp] theorem noteGone_lasting (f s) : lasting (noteGone f s) = lasting s := by simp [noteGone]
@[simp] theorem clearXoff_lasting (key s) : lasting (clearXoff key s) = lasting s := by
  unfold clearXoff
  split <;> simp

@[simp] theorem settleXoff_lasting (st s) : lasting (settleXoff st s) = lasting s := by simp [settleXoff]
@[simp] theorem noteEmpty_lasting (port q s) : lasting (noteEmpty port q s) = lasting s := by
  unfold noteEmpty
  (repeat' split) <;> simp

@[simp] theorem dropEmptyDeficits_lasting (port s) : lasting (dropEmptyDeficits port s) = lasting s := by simp [dropEmptyDeficits]
@[simp] theorem takeOut_lasting (f s) : lasting (takeOut f s) = lasting s := by simp [takeOut]
@[simp] theorem removeFrame_lasting (f s) : lasting (removeFrame f s) = lasting s := by simp [removeFrame]
@[simp] theorem freeSlots_lasting (k svc pool n s) : lasting (freeSlots k svc pool n s) = lasting s := by simp [freeSlots]
@[simp] theorem freeFrame_lasting (f s) : lasting (freeFrame f s) = lasting s := by
  unfold freeFrame
  (repeat' split) <;> simp

@[simp] theorem sendNotices_lasting (dev sub ns s) : lasting (sendNotices dev sub ns s) = lasting s := by simp [sendNotices]
@[simp] theorem dropNotice_lasting (f cause s) : lasting (dropNotice f cause s) = lasting s := by
  unfold dropNotice
  split <;> simp

@[simp] theorem freeTag_lasting (i s) : lasting (freeTag i s) = lasting s := by
  unfold freeTag
  split <;> simp

@[simp] theorem quarTag_lasting (i s) : lasting (quarTag i s) = lasting s := by simp [quarTag]
@[simp] theorem answerEntry_lasting (e st s) : lasting (answerEntry e st s) = lasting s := by
  unfold answerEntry
  split <;> simp

@[simp] theorem timeoutTag_lasting (i detailB s) : lasting (timeoutTag i detailB s) = lasting s := by
  unfold timeoutTag
  split <;> simp

@[simp] theorem endTag_lasting (i st s) : lasting (endTag i st s) = lasting s := by
  unfold endTag
  split <;> simp

@[simp] theorem failTracker_lasting (i cause quar s) : lasting (failTracker i cause quar s) = lasting s := by
  unfold failTracker
  split <;> simp

@[simp] theorem pushAck_lasting (f r s) : lasting (pushAck f r s) = lasting s := by simp [pushAck]
@[simp] theorem sendNak_lasting (f cause s) : lasting (sendNak f cause s) = lasting s := by simp [sendNak]
@[simp] theorem answerNp_lasting (f st s) : lasting (answerNp f st s) = lasting s := by
  unfold answerNp
  (repeat' split) <;> simp

@[simp] theorem failWrite_lasting (f cause s) : lasting (failWrite f cause s) = lasting s := by
  unfold failWrite
  split <;> simp

@[simp] theorem issueTest_lasting (port s) : lasting (issueTest port s) = lasting s := by simp [issueTest]
@[simp] theorem discardOutcome_lasting (f w s) : lasting (discardOutcome f w s) = lasting s := by
  unfold discardOutcome
  split
  · simp
  · split
    · simp
    · extract_lets aged u v x
      have hu : lasting u = lasting s := by simp [u]
      have hv : lasting v = lasting s := by simp [v, hu]
      have hx : lasting x = lasting s := by simp [x, hu]
      split
      · simp [hu]
      · split <;> simp [hv]
      · split <;> simp [hv]
      · split <;> simp [hx]

@[simp] theorem discard_lasting (f w s) : lasting (discard f w s) = lasting s := by simp [discard]
@[simp] theorem chargePath_lasting (f byGuarantee s) : lasting (chargePath f byGuarantee s) = lasting s := by simp [chargePath]
@[simp] theorem unselect_lasting (f s) : lasting (unselect f s) = lasting s := by
  unfold unselect
  split <;> simp

@[simp] theorem flushWhere_lasting (p w s) : lasting (flushWhere p w s) = lasting s := by simp [flushWhere]
@[simp] theorem clearAverages_lasting (p s) : lasting (clearAverages p s) = lasting s := by simp [clearAverages]

/-! ### Ingress -/

@[simp] theorem colourOf_lasting (att sub B pre s) : lasting (colourOf att sub B pre s).2 = lasting s := by
  unfold colourOf
  dsimp only
  split <;> simp

@[simp] theorem addWaiting_lasting (f s) : lasting (addWaiting f s) = lasting s := by simp [addWaiting]
@[simp] theorem newFrame_lasting (f s) : lasting (newFrame f s) = lasting s := by simp [newFrame]
@[simp] theorem refuseNp_lasting (e t st s) : lasting (refuseNp e t st s) = lasting s := by
  unfold refuseNp
  split <;> simp

@[simp] theorem countDenial_lasting (e entry s) : lasting (countDenial e entry s) = lasting s := by simp [countDenial]
@[simp] theorem reachDenied_lasting (e t entry dev port s) : lasting (reachDenied e t entry dev port s) = lasting s := by
  unfold reachDenied
  (repeat' split) <;> simp

@[simp] theorem formError_lasting (e t dev port s) : lasting (formError e t dev port s) = lasting s := by
  unfold formError
  (repeat' split) <;> simp

@[simp] theorem lostRead_lasting (e t dev port s) : lasting (lostRead e t dev port s) = lasting s := by simp [lostRead]
@[simp] theorem pathLost_lasting (e t dev port s) : lasting (pathLost e t dev port s) = lasting s := by
  unfold pathLost
  (repeat' split) <;> simp

@[simp] theorem lateCompletion_lasting (sub rid tag issued s) : lasting (lateCompletion sub rid tag issued s) = lasting s := by
  simp [lateCompletion]

@[simp] theorem matchCompletion_lasting (f s) : lasting (matchCompletion f s) = lasting s := by
  unfold matchCompletion
  dsimp only
  split <;> simp

@[simp] theorem c4Answer_lasting (p t s) : lasting (c4Answer p t s) = lasting s := by simp [c4Answer]
@[simp] theorem applyVerdict_lasting (e t mk v s) : lasting (applyVerdict e t mk v s) = lasting s := by
  unfold applyVerdict
  (repeat' split) <;> simp

@[simp] theorem admitTlp_lasting (p t s) : lasting (admitTlp p t s) = lasting s := by simp [admitTlp]
@[simp] theorem creditBack_lasting (p t n s) : lasting (creditBack p t n s) = lasting s := by simp [creditBack]
@[simp] theorem awaitTurn_lasting (p t s) : lasting (awaitTurn p t s) = lasting s := by simp [awaitTurn]
@[simp] theorem inTurn_lasting (p t act s) (hact : ∀ u, lasting (act u) = lasting u) : lasting (inTurn p t act s) = lasting s := by
  simp [inTurn, hact]

@[simp] theorem received_lasting (p t s) : lasting (received p t s) = lasting s := by simp [received]
@[simp] theorem issueMover_lasting (f t cls work s) : lasting (issueMover f t cls work s) = lasting s := by simp [issueMover]
@[simp] theorem issueMc_lasting (p t s) : lasting (issueMc p t s) = lasting s := by simp [issueMc]
@[simp] theorem tunnel_lasting (p dev port m s) : lasting (tunnel p dev port m s) = lasting s := by simp [tunnel]
@[simp] theorem wireMessage_lasting (p wire on s) : lasting (wireMessage p wire on s) = lasting s := by
  unfold wireMessage
  dsimp only
  (repeat' split) <;> simp

@[simp] theorem settleInt_lasting (p s) : lasting (settleInt p s) = lasting s := by simp [settleInt]
@[simp] theorem noteStatus_lasting (p f s) : lasting (noteStatus p f s) = lasting s := by simp [noteStatus]
@[simp] theorem bridgeSends_lasting (p m s) : lasting (bridgeSends p m s) = lasting s := by
  unfold bridgeSends
  (repeat' split) <;> simp

@[simp] theorem ptmAnswer_lasting (p s) : lasting (ptmAnswer p s) = lasting s := by
  unfold ptmAnswer
  (repeat' split) <;> simp

@[simp] theorem ptmLearn_lasting (u answer s) : lasting (ptmLearn u answer s) = lasting s := by
  unfold ptmLearn
  split <;> simp

@[simp] theorem remoteWire_lasting (f pin on s) : lasting (remoteWire f pin on s) = lasting s := by
  unfold remoteWire
  dsimp only
  split <;> simp

@[simp] theorem ackTurnOff_lasting (u key s) : lasting (ackTurnOff u key s) = lasting s := by simp [ackTurnOff]
@[simp] theorem pmeAck_lasting (p s) : lasting (pmeAck p s) = lasting s := by
  unfold pmeAck
  (repeat' split) <;> simp

@[simp] theorem pmeOff_lasting (u s) : lasting (pmeOff u s) = lasting s := by simp [pmeOff]
@[simp] theorem dropWires_lasting (p s) : lasting (dropWires p s) = lasting s := by simp [dropWires]

/-! ### Locks -/

@[simp] theorem putSem_lasting (p m s) : lasting (putSem p m s) = lasting s := by simp [putSem]
@[simp] theorem modSeq_lasting (q f s) : lasting (modSeq q f s) = lasting s := by simp [modSeq]
@[simp] theorem lockIfHeld_lasting (q s) : lasting (lockIfHeld q s) = lasting s := by simp [lockIfHeld]
@[simp] theorem granted_lasting (port targetDev targetPort s) : lasting (granted port targetDev targetPort s) = lasting s := by
  unfold granted
  dsimp only
  split <;> simp

@[simp] theorem grantSem_lasting (p r s) : lasting (grantSem p r s) = lasting s := by simp [grantSem]
@[simp] theorem passSem_lasting (p s) : lasting (passSem p s) = lasting s := by
  unfold passSem
  split <;> simp

@[simp] theorem releaseSem_lasting (p dev port s) : lasting (releaseSem p dev port s) = lasting s := by simp [releaseSem]
@[simp] theorem dropReq_lasting (p r s) : lasting (dropReq p r s) = lasting s := by simp [dropReq]
@[simp] theorem releaseDevice_lasting (dev s) : lasting (releaseDevice dev s) = lasting s := by simp [releaseDevice]
@[simp] theorem joinSem_lasting (p r s) : lasting (joinSem p r s) = lasting s := by
  unfold joinSem
  dsimp only
  split <;> simp

@[simp] theorem askTarget_lasting (q ask s) (hask : ∀ y0 y1 u, lasting (ask y0 y1 u) = lasting u) :
    lasting (askTarget q ask s) = lasting s := by
  simp [askTarget, hask]

@[simp] theorem releaseTarget_lasting (q s) : lasting (releaseTarget q s) = lasting s := by simp [releaseTarget]
@[simp] theorem yieldWith_lasting (ask port s) (hask : ∀ y0 y1 u, lasting (ask y0 y1 u) = lasting u) :
    lasting (yieldWith ask port s) = lasting s := by
  unfold yieldWith
  split <;> simp [hask]

@[simp] theorem requestWithin_lasting (x1 x2 x3 s) : lasting (requestWithin x1 x2 x3 s) = lasting s := by
  induction x1 generalizing x2 x3 s with
  | zero => simp [requestWithin]
  | succ n ih =>
    unfold requestWithin
    dsimp only
    (repeat' split) <;> simp [ih]

@[simp] theorem requestSem_lasting (p r s) : lasting (requestSem p r s) = lasting s := by simp [requestSem]
@[simp] theorem yieldSeq_lasting (port s) : lasting (yieldSeq port s) = lasting s := by simp [yieldSeq]
@[simp] theorem beginSeq_lasting (p targetDev targetPort fid t s) : lasting (beginSeq p targetDev targetPort fid t s) = lasting s := by
  simp [beginSeq]

@[simp] theorem freeSeq_lasting (q s) : lasting (freeSeq q s) = lasting s := by simp [freeSeq]
@[simp] theorem abortWaiting_lasting (q s) : lasting (abortWaiting q s) = lasting s := by simp [abortWaiting]
@[simp] theorem endSeq_lasting (q s) : lasting (endSeq q s) = lasting s := by simp [endSeq]
@[simp] theorem admitMrdlk_lasting (p t s) : lasting (admitMrdlk p t s) = lasting s := by
  unfold admitMrdlk
  dsimp only
  split <;> simp

@[simp] theorem mrdlk_lasting (p t s) : lasting (mrdlk p t s) = lasting s := by simp [mrdlk]
@[simp] theorem unlockArrives_lasting (p t s) : lasting (unlockArrives p t s) = lasting s := by
  unfold unlockArrives
  split <;> simp

@[simp] theorem unlockHandedOff_lasting (f s) : lasting (unlockHandedOff f s) = lasting s := by
  unfold unlockHandedOff
  (repeat' split) <;> simp

@[simp] theorem endSeqsWhere_lasting (p s) : lasting (endSeqsWhere p s) = lasting s := by simp [endSeqsWhere]
@[simp] theorem endLockedReads_lasting (port dstDev dstPort s) : lasting (endLockedReads port dstDev dstPort s) = lasting s := by
  simp [endLockedReads]

@[simp] theorem releasePortSem_lasting (p s) : lasting (releasePortSem p s) = lasting s := by simp [releasePortSem]
@[simp] theorem releasedAfar_lasting (ingressPort targetPort s) : lasting (releasedAfar ingressPort targetPort s) = lasting s := by
  unfold releasedAfar
  split <;> simp

/-! ### Hub -/

@[simp] theorem bwAdd_lasting (port egress bytes s) : lasting (bwAdd port egress bytes s) = lasting s := by simp [bwAdd]
@[simp] theorem castDown_lasting (u t s) : lasting (castDown u t s) = lasting s := by simp [castDown]
@[simp] theorem bridgeAct_lasting (p k s) : lasting (bridgeAct p k s) = lasting s := by
  unfold bridgeAct
  split <;> simp

@[simp] theorem remoteAct_lasting (f s) : lasting (remoteAct f s) = lasting s := by
  unfold remoteAct
  split <;> simp

@[simp] theorem actTlp_lasting (p t s) : lasting (actTlp p t s) = lasting s := by
  unfold actTlp
  split <;> simp

@[simp] theorem takeTlp_lasting (p t s) : lasting (takeTlp p t s) = lasting s := by simp [takeTlp]
@[simp] theorem tlpReceived_lasting (p t s) : lasting (tlpReceived p t s) = lasting s := by simp [tlpReceived]
@[simp] theorem countHold_lasting (f h s) : lasting (countHold f h s) = lasting s := by
  unfold countHold
  split <;> simp

@[simp] theorem takeTag_lasting (f s) : lasting (takeTag f s).2 = lasting s := by
  unfold takeTag
  split <;> simp

@[simp] theorem takeTracker_lasting (f s) : lasting (takeTracker f s).2 = lasting s := by
  unfold takeTracker
  split <;> simp

@[simp] theorem deliver_lasting (part f s) : lasting (deliver part f s) = lasting s := by
  unfold deliver
  split <;> simp

@[simp] theorem stage_lasting (f s) : lasting (stage f s) = lasting s := by
  unfold stage
  (repeat' split) <;> simp

@[simp] theorem bridgeTurn_lasting (f s) : lasting (bridgeTurn f s) = lasting s := by simp [bridgeTurn]
@[simp] theorem takeTurn_lasting (act f s) (hact : ∀ y0 u, lasting (act y0 u) = lasting u) : lasting (takeTurn act f s) = lasting s := by
  simp [takeTurn, hact]

@[simp] theorem refuseRcv_lasting (e f v s) : lasting (refuseRcv e f v s) = lasting s := by
  unfold refuseRcv
  split <;> simp

@[simp] theorem retargetSeq_lasting (f dev port s) : lasting (retargetSeq f dev port s) = lasting s := by
  unfold retargetSeq
  split <;> simp

@[simp] theorem relookup_lasting (f s) : lasting (relookup f s) = lasting s := by
  unfold relookup
  dsimp only
  (repeat' split) <;> simp

@[simp] theorem loseWaiting_lasting (f s) : lasting (loseWaiting f s) = lasting s := by
  unfold loseWaiting
  (repeat' split) <;> simp

@[simp] theorem denyRoute_lasting (f s) : lasting (denyRoute f s) = lasting s := by
  unfold denyRoute
  (repeat' split) <;> simp

@[simp] theorem frameStage_lasting (turn fid s) (hturn : ∀ y0 u, lasting (turn y0 u) = lasting u) :
    lasting (frameStage turn fid s) = lasting s := by
  unfold frameStage
  dsimp only
  (repeat' split) <;> simp [hturn]

@[simp] theorem charge_lasting (f r s) : lasting (charge f r s) = lasting s := by simp [charge]
@[simp] theorem assertXoff_lasting (port svc s) : lasting (assertXoff port svc s) = lasting s := by simp [assertXoff]
@[simp] theorem dropAt_lasting (f cause s) : lasting (dropAt f cause s) = lasting s := by simp [dropAt]
@[simp] theorem admitShared_lasting (f st q s) : lasting (admitShared f st q s) = lasting s := by
  unfold admitShared
  dsimp only
  (repeat' split) <;> simp

@[simp] theorem admission_lasting (f s) : lasting (admission f s) = lasting s := by simp [admission]
@[simp] theorem egressAdmission_lasting (fid s) : lasting (egressAdmission fid s) = lasting s := by
  unfold egressAdmission
  split <;> simp

@[simp] theorem guardDenied_lasting (f i s) : lasting (guardDenied f i s) = lasting s := by simp [guardDenied]
@[simp] theorem cplTooLong_lasting (f s) : lasting (cplTooLong f s) = lasting s := by simp [cplTooLong]
@[simp] theorem reassembled_lasting (signal f s) (hsignal : ∀ y0 y1 u, lasting (signal y0 y1 u) = lasting u) :
    lasting (reassembled signal f s) = lasting s := by
  unfold reassembled
  (repeat' split) <;> simp [hsignal]

@[simp] theorem countShort_lasting (f s) : lasting (countShort f s) = lasting s := by simp [countShort]
@[simp] theorem dropIdle_lasting (noCredit port s) : lasting (dropIdle noCredit port s) = lasting s := by simp [dropIdle]
@[simp] theorem transmit_lasting (f byGuarantee d p s) : lasting (transmit f byGuarantee d p s) = lasting s := by simp [transmit]
@[simp] theorem selectAt_lasting (noCredit p s) : lasting (selectAt noCredit p s) = lasting s := by
  unfold selectAt
  dsimp only
  (repeat' split) <;> simp

@[simp] theorem selectOne_lasting (st noCredit s) : lasting (selectOne st noCredit s) = lasting s := by
  unfold selectOne
  dsimp only
  split <;> simp

@[simp] theorem underOld_lasting (old f s) (hf : ∀ u, lasting (f u) = lasting u) : lasting (underOld old f s) = lasting s := by
  simp [underOld, hf]

@[simp] theorem egressSelect_lasting (st noCredit s) : lasting (egressSelect st noCredit s) = lasting s := by
  unfold egressSelect
  (repeat' split) <;> simp

@[simp] theorem batchDeparture_lasting (f w s) : lasting (batchDeparture f w s) = lasting s := by simp [batchDeparture]
@[simp] theorem frameDepart_lasting (fid s) : lasting (frameDepart fid s) = lasting s := by
  unfold frameDepart
  (repeat' split) <;> simp

/-! ### Bridge -/

@[simp] theorem lateAnswer_lasting (r t s) : lasting (lateAnswer r t s) = lasting s := by
  unfold lateAnswer
  split <;> simp

@[simp] theorem resolveAnswer_lasting (r s) : lasting (resolveAnswer r s) = lasting s := by
  unfold resolveAnswer
  split <;> simp

@[simp] theorem takeRange_lasting (m s) : lasting (takeRange m s) = lasting s := by simp [takeRange]

/-! ### Spokes -/

@[simp] theorem settlePlumb_lasting (s) : lasting (settlePlumb s) = lasting s := by simp [settlePlumb]
@[simp] theorem setPlumb_lasting (k on s) : lasting (setPlumb k on s) = lasting s := by simp [setPlumb]
@[simp] theorem sawEpoch_lasting (n s) : lasting (sawEpoch n s) = lasting s := by simp [sawEpoch]
@[simp] theorem putBucket_lasting (d b x s) : lasting (putBucket d b x s) = lasting s := by simp [putBucket]
@[simp] theorem reassign_lasting (d hold s x1 x2) : lasting (reassign d hold s x1 x2) = lasting s := by
  induction x1 generalizing s x2 with
  | nil => rfl
  | cons b r ih => simp [reassign, ih]

@[simp] theorem releaseCtl_lasting (d b s) : lasting (releaseCtl d b s) = lasting s := by
  unfold releaseCtl
  dsimp only
  split <;> simp

@[simp] theorem moveBuckets_lasting (k s) : lasting (moveBuckets k s) = lasting s := by simp [moveBuckets]
@[simp] theorem noteBuckets_lasting (s) : lasting (noteBuckets s) = lasting s := by
  unfold noteBuckets
  refine forAll_lasting (fun x t => ?_) _ _
  simp

@[simp] theorem startBack_lasting (d b s) : lasting (startBack d b s) = lasting s := by simp [startBack]
@[simp] theorem homeBuckets_lasting (k s) : lasting (homeBuckets k s) = lasting s := by
  unfold homeBuckets
  refine forAll_lasting (fun d t => forAll_lasting (fun b u => ?_) _ _) _ _
  dsimp only
  (repeat' split) <;> simp

@[simp] theorem remapRoute_lasting (d s) : lasting (remapRoute d s) = lasting s := by simp [remapRoute]
@[simp] theorem cellSent_lasting (k c again s) : lasting (cellSent k c again s) = lasting s := by simp [cellSent]
@[simp] theorem sendPiece_lasting (k n g s) : lasting (sendPiece k n g s).2.2 = lasting s := by
  unfold sendPiece
  dsimp only
  (repeat' split) <;> simp

@[simp] theorem sendCur_lasting (k n g s) : lasting (sendCur k n g s) = lasting s := by simp [sendCur]
@[simp] theorem sendPre_lasting (k n g s) : lasting (sendPre k n g s) = lasting s := by
  unfold sendPre
  dsimp only
  split <;> simp

@[simp] theorem nextTest_lasting (k s) : lasting (nextTest k s) = lasting s := by
  unfold nextTest
  split <;> simp

@[simp] theorem takeUnsent_lasting (k i s) : lasting (takeUnsent k i s) = lasting s := by simp [takeUnsent]
@[simp] theorem sendCellOn_lasting (k n s) : lasting (sendCellOn k n s) = lasting s := by
  unfold sendCellOn
  dsimp only
  (repeat' split) <;> simp

@[simp] theorem ackCells_lasting (k seq s) : lasting (ackCells k seq s) = lasting s := by simp [ackCells]
@[simp] theorem beginReplay_lasting (k seq s) : lasting (beginReplay k seq s) = lasting s := by simp [beginReplay]
@[simp] theorem loseFrame_lasting (k f s) : lasting (loseFrame k f s) = lasting s := by
  unfold loseFrame
  (repeat' split) <;> simp

@[simp] theorem loseCell_lasting (k c s) : lasting (loseCell k c s) = lasting s := by
  unfold loseCell
  (repeat' split) <;> simp

@[simp] theorem sendTrain_lasting (k s) : lasting (sendTrain k s) = lasting s := by simp [sendTrain]
@[simp] theorem sendAsk_lasting (k ask s) : lasting (sendAsk k ask s) = lasting s := by simp [sendAsk]
@[simp] theorem noteTandem_lasting (was s) : lasting (noteTandem was s) = lasting s := by simp [noteTandem]
@[simp] theorem clearEyes_lasting (ls s) : lasting (clearEyes ls s) = lasting s := by simp [clearEyes]
@[simp] theorem setUpstream_lasting (s) : lasting (setUpstream s) = lasting s := by
  unfold setUpstream
  (repeat' split) <;> simp

@[simp] theorem dropLink_lasting (k next s) : lasting (dropLink k next s) = lasting s := by simp [dropLink]
@[simp] theorem spokeDown_lasting (k case' s) : lasting (spokeDown k case' s) = lasting s := by simp [spokeDown]
@[simp] theorem retireLane_lasting (k lane s) : lasting (retireLane k lane s) = lasting s := by simp [retireLane]
@[simp] theorem sendRetry_lasting (k s) : lasting (sendRetry k s) = lasting s := by simp [sendRetry]
@[simp] theorem failedReception_lasting (k lanes s) : lasting (failedReception k lanes s) = lasting s := by
  unfold failedReception
  dsimp only
  (repeat' split) <;> simp

@[simp] theorem checkStream_lasting (f s) : lasting (checkStream f s) = lasting s := by
  unfold checkStream
  dsimp only
  split <;> simp

@[simp] theorem noteLocked_lasting (f s) : lasting (noteLocked f s) = lasting s := by
  unfold noteLocked
  split <;> simp

@[simp] theorem admitHere_lasting (f s) : lasting (admitHere f s) = lasting s := by
  unfold admitHere
  split <;> simp

@[simp] theorem admitSpoke_lasting (k f s) : lasting (admitSpoke k f s) = lasting s := by simp [admitSpoke]
@[simp] theorem passCtl_lasting (k cs s) : lasting (passCtl k cs s) = lasting s := by
  unfold passCtl
  split <;> simp

@[simp] theorem takeCell_lasting (k c s) : lasting (takeCell k c s) = lasting s := by
  unfold takeCell
  dsimp only
  (repeat' split) <;> simp

@[simp] theorem loopCell_lasting (k c crcOk bad s) : lasting (loopCell k c crcOk bad s) = lasting s := by
  unfold loopCell
  split <;> simp

@[simp] theorem receiveCell_lasting (k c crcOk bad s) : lasting (receiveCell k c crcOk bad s) = lasting s := by simp [receiveCell]
@[simp] theorem changeLanes_lasting (k lane s) : lasting (changeLanes k lane s) = lasting s := by simp [changeLanes]
@[simp] theorem settleSwitch_lasting (k s) : lasting (settleSwitch k s) = lasting s := by
  unfold settleSwitch
  split <;> simp

@[simp] theorem onBeat_lasting (k lowest kind b f s) (hf : ∀ y0 u, lasting (f y0 u) = lasting u) :
    lasting (onBeat k lowest kind b f s) = lasting s := by
  simp [onBeat, hf]

@[simp] theorem onParts_lasting (k lowest kind sub n bs f s) (hf : ∀ y0 u, lasting (f y0 u) = lasting u) :
    lasting (onParts k lowest kind sub n bs f s) = lasting s := by
  unfold onParts
  dsimp only
  (repeat' split) <;> simp [hf]

@[simp] theorem takeCredit_lasting (k d s) : lasting (takeCredit k d s) = lasting s := by simp [takeCredit]
@[simp] theorem refreshCredit_lasting (k s) : lasting (refreshCredit k s) = lasting s := by simp [refreshCredit]
@[simp] theorem takeResume_lasting (k _d s) : lasting (takeResume k _d s) = lasting s := by
  unfold takeResume
  split <;> simp

@[simp] theorem takeRetry_lasting (k d s) : lasting (takeRetry k d s) = lasting s := by simp [takeRetry]
@[simp] theorem replayExpired_lasting (k s) : lasting (replayExpired k s) = lasting s := by
  unfold replayExpired
  dsimp only
  (repeat' split) <;> simp

@[simp] theorem retireCopy_lasting (k c s) : lasting (retireCopy k c s) = lasting s := by
  unfold retireCopy
  dsimp only
  split <;> simp

@[simp] theorem takeRetire_lasting (k b s) : lasting (takeRetire k b s) = lasting s := by simp [takeRetire]
@[simp] theorem takeIdle_lasting (k b s) : lasting (takeIdle k b s) = lasting s := by simp [takeIdle]
@[simp] theorem takeData_lasting (k b s) : lasting (takeData k b s) = lasting s := by simp [takeData]
@[simp] theorem takeBetween_lasting (k b s) : lasting (takeBetween k b s) = lasting s := by
  unfold takeBetween
  split <;> simp

@[simp] theorem takeBeat_lasting (k s b) : lasting (takeBeat k s b) = lasting s := by simp [takeBeat]
@[simp] theorem receiveBeats_lasting (k bs body s) : lasting (receiveBeats k bs body s) = lasting s := by
  unfold receiveBeats
  dsimp only
  split <;> simp

@[simp] theorem takePreempt_lasting (k part b s) : lasting (takePreempt k part b s) = lasting s := by simp [takePreempt]
@[simp] theorem cadenceLost_lasting (k s) : lasting (cadenceLost k s) = lasting s := by simp [cadenceLost]

/-! ### Lanes -/

@[simp] theorem truingStep_lasting (l err dec s) : lasting (truingStep l err dec s) = lasting s := by simp [truingStep]
@[simp] theorem laneMargining_lasting (l m s) : lasting (laneMargining l m s) = lasting s := by simp [laneMargining]
@[simp] theorem coefCopy_lasting (k temp s) : lasting (coefCopy k temp s) = lasting s := by simp [coefCopy]
@[simp] theorem settleCad_lasting (s) : lasting (settleCad s) = lasting s := by simp [settleCad]

/-! ### BringUp -/

@[simp] theorem startBringUp_lasting (k s) : lasting (startBringUp k s) = lasting s := by simp [startBringUp]
@[simp] theorem failAttempt_lasting (k s) : lasting (failAttempt k s) = lasting s := by simp [failAttempt]
@[simp] theorem loadStore_lasting (k s) : lasting (loadStore k s) = lasting s := by simp [loadStore]
@[simp] theorem loadReceive_lasting (k s) : lasting (loadReceive k s) = lasting s := by simp [loadReceive]
@[simp] theorem loadPresets_lasting (k s) : lasting (loadPresets k s) = lasting s := by simp [loadPresets]
@[simp] theorem loadFound_lasting (k found s) : lasting (loadFound k found s) = lasting s := by
  unfold loadFound
  refine forAll_lasting (fun x t => ?_) _ _
  split <;> simp

@[simp] theorem alignLanes_lasting (k x1 s) : lasting (alignLanes k x1 s).2 = lasting s := by
  induction x1 generalizing s with
  | nil => rfl
  | cons l r ih =>
    unfold alignLanes
    split <;> simp [ih]

@[simp] theorem identityNext_lasting (k s) : lasting (identityNext k s) = lasting s := by simp [identityNext]
@[simp] theorem alignDone_lasting (k r s) : lasting (alignDone k r s) = lasting s := by simp [alignDone]
@[simp] theorem identityDone_lasting (k s) : lasting (identityDone k s) = lasting s := by simp [identityDone]
@[simp] theorem linkUp_lasting (k s) : lasting (linkUp k s) = lasting s := by simp [linkUp]
@[simp] theorem enterCredits_lasting (k s) : lasting (enterCredits k s) = lasting s := by simp [enterCredits]
@[simp] theorem goCold_lasting (k s) : lasting (goCold k s) = lasting s := by simp [goCold]
@[simp] theorem bringUpNext_lasting (k s) : lasting (bringUpNext k s) = lasting s := by simp [bringUpNext]
@[simp] theorem finishStep_lasting (k s) : lasting (finishStep k s) = lasting s := by simp [finishStep]
@[simp] theorem stepDone_lasting (k r s) : lasting (stepDone k r s) = lasting s := by
  unfold stepDone
  dsimp only
  split <;> simp

@[simp] theorem eqRequest_lasting (k t s) : lasting (eqRequest k t s) = lasting s := by simp [eqRequest]
@[simp] theorem trainArrives_lasting (k t s) : lasting (trainArrives k t s) = lasting s := by simp [trainArrives]
@[simp] theorem answerTime_lasting (k seq s) : lasting (answerTime k seq s) = lasting s := by simp [answerTime]
@[simp] theorem loseTimeLock_lasting (s) : lasting (loseTimeLock s) = lasting s := by simp [loseTimeLock]
@[simp] theorem yieldMastership_lasting (m s) : lasting (yieldMastership m s) = lasting s := by simp [yieldMastership]
@[simp] theorem disciplined_lasting (o s) : lasting (disciplined o s) = lasting s := by simp [disciplined]
@[simp] theorem timeResp_lasting (k t2 t3mt2 seq master hops locked s) :
    lasting (timeResp k t2 t3mt2 seq master hops locked s) = lasting s := by
  unfold timeResp
  dsimp only
  split <;> simp

@[simp] theorem plumbArrives_lasting (k epoch pfx s) : lasting (plumbArrives k epoch pfx s) = lasting s := by simp [plumbArrives]

/-! ### Mover -/

@[simp] theorem modJob_lasting (f ctx g s) : lasting (modJob f ctx g s) = lasting s := by simp [modJob]
@[simp] theorem modCol_lasting (f ctx i g s) : lasting (modCol f ctx i g s) = lasting s := by simp [modCol]
@[simp] theorem jobFails_lasting (f ctx status a s) : lasting (jobFails f ctx status a s) = lasting s := by simp [jobFails]
@[simp] theorem takeReadTag_lasting (f t s) : lasting (takeReadTag f t s) = lasting s := by simp [takeReadTag]
@[simp] theorem dropReadTag_lasting (f t s) : lasting (dropReadTag f t s) = lasting s := by simp [dropReadTag]
@[simp] theorem quarReadTag_lasting (f t s) : lasting (quarReadTag f t s) = lasting s := by simp [quarReadTag]
@[simp] theorem issueRead_lasting (f tag addr len cls s) : lasting (issueRead f tag addr len cls s) = lasting s := by simp [issueRead]
@[simp] theorem issueWrite_lasting (f addr data cls s) : lasting (issueWrite f addr data cls s) = lasting s := by simp [issueWrite]
@[simp] theorem funcMsix_lasting (f v cls s) : lasting (funcMsix f v cls s) = lasting s := by simp [funcMsix]
@[simp] theorem sendPended_lasting (f v s) : lasting (sendPended f v s) = lasting s := by simp [sendPended]
@[simp] theorem ringError_lasting (f code s) : lasting (ringError f code s) = lasting s := by simp [ringError]
@[simp] theorem settleRing_lasting (f s) : lasting (settleRing f s) = lasting s := by simp [settleRing]
@[simp] theorem freeStaging_lasting (f n s) : lasting (freeStaging f n s) = lasting s := by simp [freeStaging]
@[simp] theorem issueFrame_lasting (f ctx i shard frame addr data s) :
    lasting (issueFrame f ctx i shard frame addr data s) = lasting s := by
  unfold issueFrame
  dsimp only
  (repeat' split) <;> simp

@[simp] theorem countColumn_lasting (j s) : lasting (countColumn j s) = lasting s := by simp [countColumn]
@[simp] theorem endColumn_lasting (f ctx i s) : lasting (endColumn f ctx i s) = lasting s := by simp [endColumn]
@[simp] theorem loopColumn_lasting (j c s) : lasting (loopColumn j c s) = lasting s := by simp [loopColumn]
@[simp] theorem columnIssue_lasting (f ctx i s) : lasting (columnIssue f ctx i s) = lasting s := by
  unfold columnIssue
  (repeat' split) <;> simp

@[simp] theorem processColumns_lasting (f ctx x1 s) : lasting (processColumns f ctx x1 s) = lasting s := by
  induction x1 generalizing s with
  | zero => rfl
  | succ n ih =>
    unfold processColumns
    (repeat' split) <;> simp [ih]

@[simp] theorem issueColumns_lasting (f ctx x1 s) : lasting (issueColumns f ctx x1 s) = lasting s := by
  induction x1 generalizing s with
  | zero => rfl
  | succ n ih =>
    unfold issueColumns
    (repeat' split) <;> simp [ih]

@[simp] theorem columnLanded_lasting (f ctx s) : lasting (columnLanded f ctx s) = lasting s := by
  unfold columnLanded
  split <;> simp

@[simp] theorem rereadLanded_lasting (f ctx i s) : lasting (rereadLanded f ctx i s) = lasting s := by
  unfold rereadLanded
  (repeat' split) <;> simp

@[simp] theorem reserve_lasting (f ctx i s) : lasting (reserve f ctx i s) = lasting s := by
  unfold reserve
  (repeat' split) <;> simp

@[simp] theorem reissue_lasting (f ctx i s) : lasting (reissue f ctx i s) = lasting s := by
  unfold reissue
  split <;> simp

@[simp] theorem settleColumn_lasting (f ctx i s) : lasting (settleColumn f ctx i s) = lasting s := by
  unfold settleColumn
  (repeat' split) <;> simp

@[simp] theorem noticeEcho_lasting (lane n s) : lasting (noticeEcho lane n s) = lasting s := by simp [noticeEcho]
@[simp] theorem takeNotice_lasting (lane n s) : lasting (takeNotice lane n s) = lasting s := by
  unfold takeNotice
  dsimp only
  (repeat' split) <;> simp

@[simp] theorem sqDoorbell_lasting (f v s) : lasting (sqDoorbell f v s) = lasting s := by simp [sqDoorbell]
@[simp] theorem cqDoorbell_lasting (f v s) : lasting (cqDoorbell f v s) = lasting s := by simp [cqDoorbell]
@[simp] theorem ringEnable_lasting (f sqLog2 cqLog2 s) : lasting (ringEnable f sqLog2 cqLog2 s) = lasting s := by simp [ringEnable]
@[simp] theorem ringDisable_lasting (f s) : lasting (ringDisable f s) = lasting s := by simp [ringDisable]
@[simp] theorem descriptorFetch_lasting (f s) : lasting (descriptorFetch f s) = lasting s := by
  unfold descriptorFetch
  (repeat' split) <;> simp

@[simp] theorem removeJob_lasting (f ctx s) : lasting (removeJob f ctx s) = lasting s := by simp [removeJob]
@[simp] theorem fetchFailed_lasting (f ctx slot s) : lasting (fetchFailed f ctx slot s) = lasting s := by simp [fetchFailed]
@[simp] theorem startTable_lasting (f ctx s) : lasting (startTable f ctx s) = lasting s := by
  unfold startTable
  split <;> simp

@[simp] theorem startTables_lasting (f s) : lasting (startTables f s) = lasting s := by simp [startTables]
@[simp] theorem descriptorArrived_lasting (f ctx desc s) : lasting (descriptorArrived f ctx desc s) = lasting s := by
  unfold descriptorArrived
  dsimp only
  split <;> simp

@[simp] theorem endJobRead_lasting (j s) : lasting (endJobRead j s) = lasting s := by simp [endJobRead]
@[simp] theorem drained_lasting (f ctx s) : lasting (drained f ctx s) = lasting s := by simp [drained]
@[simp] theorem tableArrived_lasting (f ctx table s) : lasting (tableArrived f ctx table s) = lasting s := by
  unfold tableArrived
  dsimp only
  split <;> simp

@[simp] theorem tableFailed_lasting (j s) : lasting (tableFailed j s) = lasting s := by simp [tableFailed]
@[simp] theorem jobBind_lasting (f ctx s) : lasting (jobBind f ctx s) = lasting s := by
  unfold jobBind
  (repeat' split) <;> simp

@[simp] theorem rebind_lasting (e s) : lasting (rebind e s) = lasting s := by simp [rebind]
@[simp] theorem columnReserve_lasting (f ctx s) : lasting (columnReserve f ctx s) = lasting s := by
  unfold columnReserve
  (repeat' split) <;> simp

@[simp] theorem idleDeficits_lasting (e s) : lasting (idleDeficits e s) = lasting s := by simp [idleDeficits]
@[simp] theorem takeEngine_lasting (e L s) : lasting (takeEngine e L s) = lasting s := by simp [takeEngine]
@[simp] theorem giveGrant_lasting (e f c s) : lasting (giveGrant e f c s) = lasting s := by
  unfold giveGrant
  dsimp only
  (repeat' split) <;> simp

@[simp] theorem moverReadGrant_lasting (e s) : lasting (moverReadGrant e s) = lasting s := by
  unfold moverReadGrant
  dsimp only
  (repeat' split) <;> simp

@[simp] theorem endRead_lasting (j c r s) : lasting (endRead j c r s) = lasting s := by simp [endRead]
@[simp] theorem readTimedOut_lasting (f tag s) : lasting (readTimedOut f tag s) = lasting s := by
  unfold readTimedOut
  (repeat' split) <;> simp

@[simp] theorem completionEntryWrite_lasting (f ctx s) : lasting (completionEntryWrite f ctx s) = lasting s := by
  unfold completionEntryWrite
  split <;> simp

@[simp] theorem engineFault_lasting (e s) : lasting (engineFault e s) = lasting s := by simp [engineFault]
@[simp] theorem startFlr1_lasting (f s) : lasting (startFlr1 f s) = lasting s := by simp [startFlr1]
@[simp] theorem startFlr_lasting (f s) : lasting (startFlr f s) = lasting s := by simp [startFlr]
@[simp] theorem dropLeaves_lasting (f s) : lasting (dropLeaves f s) = lasting s := by simp [dropLeaves]
@[simp] theorem finishFlr_lasting (f s) : lasting (finishFlr f s) = lasting s := by simp [finishFlr]
@[simp] theorem wakeMover_lasting (p s) : lasting (wakeMover p s) = lasting s := by simp [wakeMover]

/-! ### Mailbox -/

@[simp] theorem good_lasting (pay s) : lasting (good pay s).2 = lasting s := by simp [good]
@[simp] theorem refuse_lasting (status s) : lasting (refuse status s).2 = lasting s := by simp [refuse]
@[simp] theorem invalidAt_lasting (q s) : lasting (invalidAt q s).2 = lasting s := by simp [invalidAt]
@[simp] theorem invalidHeader_lasting (s) : lasting (invalidHeader s).2 = lasting s := by simp [invalidHeader]
@[simp] theorem postTandem_lasting (o s) : lasting (postTandem o s) = lasting s := by
  unfold postTandem
  split <;> simp

@[simp] theorem tandemParts_lasting (code seq ws s) : lasting (tandemParts code seq ws s) = lasting s := by simp [tandemParts]
@[simp] theorem issueReads_lasting (p x1 s) : lasting (issueReads p x1 s) = lasting s := by
  induction x1 generalizing s with
  | nil => rfl
  | cons t r ih =>
    unfold issueReads
    split <;> simp [ih]

@[simp] theorem dmaOut_lasting (mb ptr n pay s) : lasting (dmaOut mb ptr n pay s) = lasting s := by simp [dmaOut]
@[simp] theorem respond_lasting (mb status executed pay s) : lasting (respond mb status executed pay s) = lasting s := by simp [respond]
@[simp] theorem finish_lasting (mb status executed pay s) : lasting (finish mb status executed pay s) = lasting s := by simp [finish]
@[simp] theorem cutOff_lasting (mb s) : lasting (cutOff mb s) = lasting s := by simp [cutOff]
@[simp] theorem answerRestart_lasting (mb s) : lasting (answerRestart mb s) = lasting s := by simp [answerRestart]
@[simp] theorem finishRestarting_lasting (mb s) : lasting (finishRestarting mb s) = lasting s := by simp [finishRestarting]
@[simp] theorem finishWait_lasting (mb why status executed pay s) : lasting (finishWait mb why status executed pay s) = lasting s := by
  simp [finishWait]

@[simp] theorem settleLoops_lasting (s) : lasting (settleLoops s) = lasting s := by simp [settleLoops]
@[simp] theorem ignoreSubmit_lasting (mb op seq s) : lasting (ignoreSubmit mb op seq s) = lasting s := by simp [ignoreSubmit]
@[simp] theorem submit_lasting (mb op seq msg s) : lasting (submit mb op seq msg s) = lasting s := by simp [submit]
@[simp] theorem acknowledge_lasting (mb s) : lasting (acknowledge mb s) = lasting s := by simp [acknowledge]
@[simp] theorem noteWrite_lasting (mb dma collides s) : lasting (noteWrite mb dma collides s) = lasting s := by simp [noteWrite]
@[simp] theorem lostWrite_lasting (mb s) : lasting (lostWrite mb s) = lasting s := by simp [lostWrite]
@[simp] theorem conclude_lasting (r : Req) (x : Answer × State) : lasting (conclude r x) = lasting x.2 := by
  unfold conclude
  split <;> simp

@[simp] theorem accept_lasting (body r s) (hbody : ∀ r u, lasting (body r u).2 = lasting u) : lasting (accept body r s) = lasting s := by
  unfold accept
  dsimp only
  split
  · simp
  · split
    · simp
    · simp
    · simp
    · exact (conclude_lasting r _).trans (by simp [hbody])

@[simp] theorem startFetch_lasting (r s) : lasting (startFetch r s) = lasting s := by simp [startFetch]
@[simp] theorem command_lasting (spells body r s) (hbody : ∀ r u, lasting (body r u).2 = lasting u) :
    lasting (command spells body r s) = lasting s := by
  simp [command, hbody]

@[simp] theorem checkedBy_lasting (c body r s) (hbody : ∀ r u, lasting (body r u).2 = lasting u) :
    lasting (checkedBy c body r s).2 = lasting s := by
  unfold checkedBy
  (repeat' split) <;> simp [hbody]

@[simp] theorem withPayload_lasting (masks body r s) (hbody : ∀ r u, lasting (body r u).2 = lasting u) :
    lasting (withPayload masks body r s).2 = lasting s := by
  unfold withPayload
  split <;> simp [hbody]

@[simp] theorem putLock_lasting (l k s) : lasting (putLock l k s) = lasting s := by simp [putLock]
@[simp] theorem abortPrepare_lasting (s) : lasting (abortPrepare s) = lasting s := by
  unfold abortPrepare
  split <;> simp

@[simp] theorem dropSet_lasting (l s) : lasting (dropSet l s) = lasting s := by
  unfold dropSet
  dsimp only
  (repeat' split) <;> simp

@[simp] theorem releaseLock_lasting (l s) : lasting (releaseLock l s) = lasting s := by simp [releaseLock]
@[simp] theorem removeRequester_lasting (mb s) : lasting (removeRequester mb s) = lasting s := by simp [removeRequester]
@[simp] theorem settlePrio_lasting (s) : lasting (settlePrio s) = lasting s := by
  unfold settlePrio
  refine (forAll_lasting (fun x t => ?_) _ _).trans ?_
  · simp
  · simp

@[simp] theorem grantLock_lasting (l s) : lasting (grantLock l s) = lasting s := by
  unfold grantLock
  dsimp only
  (repeat' split) <;> simp

@[simp] theorem lockExpiry_lasting (mb s) : lasting (lockExpiry mb s) = lasting s := by simp [lockExpiry]
@[simp] theorem writeErrHead_lasting (p v s) : lasting (writeErrHead p v s) = lasting s := by simp [writeErrHead]

/-! ### Slot -/

@[simp] theorem modPins_lasting (ch f s) : lasting (modPins ch f s) = lasting s := by simp [modPins]
@[simp] theorem powerFault_lasting (ch s) : lasting (powerFault ch s) = lasting s := by
  unfold powerFault
  split <;> simp

@[simp] theorem slotReport_lasting (r s) : lasting (slotReport r s) = lasting s := by simp [slotReport]
@[simp] theorem slotEvent_lasting (ch cls code trig s) : lasting (slotEvent ch cls code trig s) = lasting s := by simp [slotEvent]
@[simp] theorem noteFault_lasting (ch code trig s) : lasting (noteFault ch code trig s) = lasting s := by simp [noteFault]
@[simp] theorem gateOff_lasting (ch next t s) : lasting (gateOff ch next t s) = lasting s := by simp [gateOff]
@[simp] theorem unusable_lasting (ch code s) : lasting (unusable ch code s) = lasting s := by simp [unusable]
@[simp] theorem chanFault_lasting (ch trig t s) : lasting (chanFault ch trig t s) = lasting s := by simp [chanFault]
@[simp] theorem enqueue_lasting (ch s) : lasting (enqueue ch s) = lasting s := by simp [enqueue]
@[simp] theorem enterRamp_lasting (ch s) : lasting (enterRamp ch s) = lasting s := by simp [enterRamp]
@[simp] theorem grantInrush_lasting (x1 s) : lasting (grantInrush x1 s) = lasting s := by
  induction x1 generalizing s with
  | zero => rfl
  | succ n ih =>
    unfold grantInrush
    (repeat' split) <;> simp [ih]

@[simp] theorem enterOn_lasting (ch t s) : lasting (enterOn ch t s) = lasting s := by simp [enterOn]
@[simp] theorem tickRamp_lasting (ch t x s) : lasting (tickRamp ch t x s) = lasting s := by simp [tickRamp]
@[simp] theorem tickQualify_lasting (ch t x s) : lasting (tickQualify ch t x s) = lasting s := by simp [tickQualify]
@[simp] theorem slotTick_lasting (ch t x s) : lasting (slotTick ch t x s) = lasting s := by simp [slotTick]
@[simp] theorem slotTicks_lasting (ch x x1 x2 s) : lasting (slotTicks ch x x1 x2 s).1 = lasting s := by
  induction x1 generalizing x2 s with
  | zero => rfl
  | succ n ih => simp [slotTicks, ih]

theorem foldl_pair_lasting {α β : Type} {f : State × β → α → State × β} (h : ∀ a x, lasting (f a x).1 = lasting a.1) (l : List α)
    (a : State × β) : lasting (l.foldl f a).1 = lasting a.1 := by
  induction l generalizing a with
  | nil => rfl
  | cons x l ih => exact (ih _).trans (h a x)

theorem foldl_pair'_lasting {α β : Type} {f : β × State → α → β × State} (h : ∀ a x, lasting (f a x).2 = lasting a.2) (l : List α)
    (a : β × State) : lasting (l.foldl f a).2 = lasting a.2 := by
  induction l generalizing a with
  | nil => rfl
  | cons x l ih => exact (ih _).trans (h a x)

@[simp] theorem runTicks_lasting (ch xs s) : lasting (runTicks ch xs s) = lasting s := by
  unfold runTicks
  split
  · rfl
  · exact foldl_pair_lasting (fun a x => slotTicks_lasting ..) xs _

@[simp] theorem releasePerst_lasting (ch s) : lasting (releasePerst ch s) = lasting s := by simp [releasePerst]
@[simp] theorem requestOff_lasting (ch s) : lasting (requestOff ch s) = lasting s := by simp [requestOff]
@[simp] theorem requestOn_lasting (ch s) : lasting (requestOn ch s).2 = lasting s := by
  unfold requestOn
  dsimp only
  (repeat' split) <;> simp

@[simp] theorem unlatch_lasting (ch s) : lasting (unlatch ch s) = lasting s := by simp [unlatch]
@[simp] theorem unmark_lasting (ch s) : lasting (unmark ch s) = lasting s := by simp [unmark]
@[simp] theorem slotAction_lasting (act ch s) : lasting (slotAction act ch s).2 = lasting s := by
  unfold slotAction
  split <;> simp

@[simp] theorem presenceShown_lasting (ch s) : lasting (presenceShown ch s) = lasting s := by
  unfold presenceShown
  split <;> simp

@[simp] theorem presenceChange_lasting (ch on s) : lasting (presenceChange ch on s) = lasting s := by simp [presenceChange]
@[simp] theorem modFeed_lasting (b f s) : lasting (modFeed b f s) = lasting s := by simp [modFeed]
@[simp] theorem feedGateTo_lasting (b old new s) : lasting (feedGateTo b old new s) = lasting s := by simp [feedGateTo]
@[simp] theorem settleFeeds_lasting (s) : lasting (settleFeeds s) = lasting s := by simp [settleFeeds]
@[simp] theorem feedEvent_lasting (b cls ev s) : lasting (feedEvent b cls ev s) = lasting s := by simp [feedEvent]
@[simp] theorem slotDieReset_lasting (s) : lasting (slotDieReset s) = lasting s := by simp [slotDieReset]
@[simp] theorem vpwrLoss_lasting (s) : lasting (vpwrLoss s) = lasting s := by simp [vpwrLoss]
@[simp] theorem loadSlotRecords_lasting (s) : lasting (loadSlotRecords s) = lasting s := by simp [loadSlotRecords]
@[simp] theorem writeHeld_lasting (s) : lasting (writeHeld s) = lasting s := by simp [writeHeld]
@[simp] theorem restoreSlot_lasting (s) : lasting (restoreSlot s) = lasting s := by simp [restoreSlot]

/-! ### Resets -/

@[simp] theorem resetPortSched_lasting (p s) : lasting (resetPortSched p s) = lasting s := by simp [resetPortSched]
@[simp] theorem resetIngress_lasting (att sub s) : lasting (resetIngress att sub s) = lasting s := by simp [resetIngress]
@[simp] theorem linkDown_lasting (p s) : lasting (linkDown p s) = lasting s := by simp [linkDown]
@[simp] theorem flushPort_lasting (p w s) : lasting (flushPort p w s) = lasting s := by simp [flushPort]
@[simp] theorem emptyPort_lasting (p w s) : lasting (emptyPort p w s) = lasting s := by simp [emptyPort]
@[simp] theorem resetPortRegs_lasting (p above s) : lasting (resetPortRegs p above s) = lasting s := by simp [resetPortRegs]
@[simp] theorem clearSlotStatus_lasting (p s) : lasting (clearSlotStatus p s) = lasting s := by simp [clearSlotStatus]
@[simp] theorem spokeReset_lasting (k s) : lasting (spokeReset k s) = lasting s := by simp [spokeReset]
@[simp] theorem portReset_lasting (p above s) : lasting (portReset p above s) = lasting s := by
  unfold portReset
  split <;> simp

@[simp] theorem sendHotReset_lasting (p s) : lasting (sendHotReset p s) = lasting s := by simp [sendHotReset]
@[simp] theorem hotPortReset_lasting (p above s) : lasting (hotPortReset p above s) = lasting s := by simp [hotPortReset]
@[simp] theorem forgetMb_lasting (m s) : lasting (forgetMb m s) = lasting s := by simp [forgetMb]
@[simp] theorem idleMailbox_lasting (m s) : lasting (idleMailbox m s) = lasting s := by simp [idleMailbox]
@[simp] theorem resetPartPorts_lasting (p s) : lasting (resetPartPorts p s) = lasting s := by simp [resetPartPorts]
@[simp] theorem resetPartSched_lasting (p s) : lasting (resetPartSched p s) = lasting s := by simp [resetPartSched]
@[simp] theorem resetPartBridge_lasting (p s) : lasting (resetPartBridge p s) = lasting s := by simp [resetPartBridge]
@[simp] theorem closePartEpisodes_lasting (p s) : lasting (closePartEpisodes p s) = lasting s := by simp [closePartEpisodes]
@[simp] theorem dropHostPegs_lasting (p s) : lasting (dropHostPegs p s) = lasting s := by simp [dropHostPegs]
@[simp] theorem partResetHere_lasting (p s) : lasting (partResetHere p s) = lasting s := by simp [partResetHere]
@[simp] theorem dropMailbox_lasting (p s) : lasting (dropMailbox p s) = lasting s := by simp [dropMailbox]
@[simp] theorem resetPartHome_lasting (p s) : lasting (resetPartHome p s) = lasting s := by simp [resetPartHome]
@[simp] theorem tellReset_lasting (p s) : lasting (tellReset p s) = lasting s := by simp [tellReset]
@[simp] theorem partitionReset_lasting (p s) : lasting (partitionReset p s) = lasting s := by simp [partitionReset]
@[simp] theorem hotPartitionReset_lasting (p s) : lasting (hotPartitionReset p s) = lasting s := by simp [hotPartitionReset]
@[simp] theorem resetFarPorts_lasting (part vsw s) : lasting (resetFarPorts part vsw s) = lasting s := by simp [resetFarPorts]
@[simp] theorem upstreamReset_lasting (u s) : lasting (upstreamReset u s) = lasting s := by simp [upstreamReset]
@[simp] theorem partReleased_lasting (p s) : lasting (partReleased p s) = lasting s := by simp [partReleased]
@[simp] theorem holdPart_lasting (p s) : lasting (holdPart p s) = lasting s := by simp [holdPart]
@[simp] theorem perstAssert_lasting (i s) : lasting (perstAssert i s) = lasting s := by simp [perstAssert]
@[simp] theorem unholdPart_lasting (p s) : lasting (unholdPart p s) = lasting s := by simp [unholdPart]
@[simp] theorem perstRelease_lasting (i s) : lasting (perstRelease i s) = lasting s := by simp [perstRelease]
@[simp] theorem resetNotice_lasting (p held s) : lasting (resetNotice p held s) = lasting s := by simp [resetNotice]
@[simp] theorem settlePerst_lasting (s) : lasting (settlePerst s) = lasting s := by simp [settlePerst]
@[simp] theorem upstreamDown_lasting (u s) : lasting (upstreamDown u s) = lasting s := by simp [upstreamDown]
@[simp] theorem flrFunction0_lasting (p s) : lasting (flrFunction0 p s) = lasting s := by simp [flrFunction0]
@[simp] theorem releaseRemoteOwners_lasting (s) : lasting (releaseRemoteOwners s) = lasting s := by simp [releaseRemoteOwners]
@[simp] theorem clearCore_lasting (s) : lasting (clearCore s) = lasting s := by simp [clearCore]
@[simp] theorem deviceReset_lasting (s) : lasting (deviceReset s) = lasting s := by simp [deviceReset]
@[simp] theorem commandReset_lasting (s) : lasting (commandReset s) = lasting s := by simp [commandReset]
@[simp] theorem coldCore_lasting (s) : lasting (coldCore s) = lasting s := by simp [coldCore]
@[simp] theorem stopCad_lasting (s) : lasting (stopCad s) = lasting s := by simp [stopCad]
@[simp] theorem mcRestart_lasting (cause s) : lasting (mcRestart cause s) = lasting s := by simp [mcRestart]
@[simp] theorem endSpoke_lasting (k s) : lasting (endSpoke k s) = lasting s := by simp [endSpoke]
@[simp] theorem fatal_lasting (cause s) : lasting (fatal cause s) = lasting s := by simp [fatal]

/-! ### Pcie -/

@[simp] theorem dpcTrigger_lasting (p reason s) : lasting (dpcTrigger p reason s) = lasting s := by simp [dpcTrigger]
@[simp] theorem containPort_lasting (p s) : lasting (containPort p s) = lasting s := by simp [containPort]
@[simp] theorem equalise_lasting (first p rate eq s) : lasting (equalise first p rate eq s) = lasting s := by simp [equalise]
@[simp] theorem notePolarity_lasting (p inverted s) : lasting (notePolarity p inverted s) = lasting s := by simp [notePolarity]
@[simp] theorem dlUp_lasting (p width rate x s) : lasting (dlUp p width rate x s) = lasting s := by simp [dlUp]
@[simp] theorem recoveryExit_lasting (p rate eq s) : lasting (recoveryExit p rate eq s) = lasting s := by simp [recoveryExit]
@[simp] theorem portCorrectable_lasting (p bit' s) : lasting (portCorrectable p bit' s) = lasting s := by simp [portCorrectable]
@[simp] theorem aerSignal_lasting (p b s) : lasting (aerSignal p b s) = lasting s := by simp [aerSignal]
@[simp] theorem signalUncorrectable_lasting (p b s) : lasting (signalUncorrectable p b s) = lasting s := by simp [signalUncorrectable]
@[simp] theorem portUncorrectable_lasting (p bit' s) : lasting (portUncorrectable p bit' s) = lasting s := by simp [portUncorrectable]
@[simp] theorem surpriseDown_lasting (p s) : lasting (surpriseDown p s) = lasting s := by simp [surpriseDown]
@[simp] theorem checkTlp_lasting (p t f s) (hf : ∀ u, lasting (f u) = lasting u) : lasting (checkTlp p t f s) = lasting s := by
  simp [checkTlp, hf]

@[simp] theorem clearStatus_lasting (p v s) : lasting (clearStatus p v s) = lasting s := by simp [clearStatus]
@[simp] theorem writeMask_lasting (p w s) : lasting (writeMask p w s) = lasting s := by simp [writeMask]
@[simp] theorem sendRanges_lasting (p s) : lasting (sendRanges p s) = lasting s := by simp [sendRanges]
@[simp] theorem bridgeConfig_lasting (p w s) : lasting (bridgeConfig p w s) = lasting s := by simp [bridgeConfig]
@[simp] theorem cfgCpl_lasting (u rid tag x vs s) : lasting (cfgCpl u rid tag x vs s) = lasting s := by
  unfold cfgCpl
  split <;> simp

@[simp] theorem functionAnswers_lasting (u rid tag x rd wr s) (hwr : ∀ y0 u, lasting (wr y0 u) = lasting u) :
    lasting (functionAnswers u rid tag x rd wr s) = lasting s := by
  unfold functionAnswers
  (repeat' split) <;> simp [hwr]

@[simp] theorem bridgeAnswers_lasting (u rid tag q x s) : lasting (bridgeAnswers u rid tag q x s) = lasting s := by simp [bridgeAnswers]
@[simp] theorem functionAccess_lasting (u rid tag fn x s) : lasting (functionAccess u rid tag fn x s) = lasting s := by
  simp [functionAccess]

@[simp] theorem internalBus_lasting (u rid tag d fn t x s) : lasting (internalBus u rid tag d fn t x s) = lasting s := by
  unfold internalBus
  dsimp only
  (repeat' split) <;> simp

@[simp] theorem tunnelledConfig_lasting (p rid tag fn x s) : lasting (tunnelledConfig p rid tag fn x s) = lasting s := by
  unfold tunnelledConfig
  (repeat' split) <;> simp

@[simp] theorem configRequest_lasting (p rid tag bus dev fn x s) : lasting (configRequest p rid tag bus dev fn x s) = lasting s := by
  unfold configRequest
  dsimp only
  (repeat' split) <;> simp

@[simp] theorem takeConfig_lasting (a s) : lasting (takeConfig a s) = lasting s := by simp [takeConfig]
@[simp] theorem turnAct_lasting (f s) : lasting (turnAct f s) = lasting s := by
  unfold turnAct
  split <;> simp

@[simp] theorem windowBytes_lasting (mb off bs s) : lasting (windowBytes mb off bs s) = lasting s := by simp [windowBytes]
@[simp] theorem writeReg0_lasting (p offset width v s) : lasting (writeReg0 p offset width v s) = lasting s := by simp [writeReg0]
@[simp] theorem writeRegF_lasting (f offset width v s) : lasting (writeRegF f offset width v s) = lasting s := by simp [writeRegF]

/-! ### Faults -/

@[simp] theorem memRecord_lasting (cls offset s part) : lasting (memRecord cls offset s part) = lasting s := by simp [memRecord]
@[simp] theorem repairRow_lasting (bank row s) : lasting (repairRow bank row s) = lasting s := by simp [repairRow]
@[simp] theorem stagingError_lasting (f ctx i s) : lasting (stagingError f ctx i s) = lasting s := by
  unfold stagingError
  (repeat' split) <;> simp

@[simp] theorem memUncorrectable_lasting (b s) : lasting (memUncorrectable b s) = lasting s := by
  unfold memUncorrectable
  split
  case h_3 =>
    refine (memRecord_lasting ..).trans (forAll_lasting (fun p t => ?_) _ _)
    split <;> simp
  all_goals (repeat' split) <;> simp

@[simp] theorem setRefLost_lasting (r lost s) : lasting (setRefLost r lost s) = lasting s := by simp [setRefLost]
@[simp] theorem endDrain_lasting (n inService status pay s) : lasting (endDrain n inService status pay s) = lasting s := by simp [endDrain]

/-! ### Stage -/

@[simp] theorem putSet_lasting (l x s) : lasting (putSet l x s) = lasting s := by simp [putSet]
@[simp] theorem recordBody_lasting (op r s) : lasting (recordBody op r s).2 = lasting s := by
  unfold recordBody
  dsimp only
  (repeat' split) <;> simp

@[simp] theorem recordCommand_lasting (op r s) : lasting (recordCommand op r s).2 = lasting s := by simp [recordCommand]
@[simp] theorem cfgStageBody_lasting (r s) : lasting (cfgStageBody r s).2 = lasting s := by
  unfold cfgStageBody
  dsimp only
  (repeat' split) <;> simp

@[simp] theorem cfgStage_lasting (r s) : lasting (cfgStage r s).2 = lasting s := by simp [cfgStage]

/-! ### Joint -/

@[simp] theorem candidateAt_lasting (s dev es) : lasting (candidateAt s dev es) = lasting s := by simp [candidateAt]

/-! ### Commit -/

@[simp] theorem stopLoop_lasting (l s) : lasting (stopLoop l s) = lasting s := by simp [stopLoop]
@[simp] theorem endStationLoops_lasting (sts s) : lasting (endStationLoops sts s) = lasting s := by simp [endStationLoops]
@[simp] theorem portLeaves_lasting (p s) : lasting (portLeaves p s) = lasting s := by simp [portLeaves]
@[simp] theorem leaveOld_lasting (new s) : lasting (leaveOld new s) = lasting s := by simp [leaveOld]
@[simp] theorem enterNew_lasting (old s) : lasting (enterNew old s) = lasting s := by simp [enterNew]
@[simp] theorem newBases_lasting (old s) : lasting (newBases old s) = lasting s := by simp [newBases]
@[simp] theorem clearOverlay_lasting (old s) : lasting (clearOverlay old s) = lasting s := by simp [clearOverlay]
@[simp] theorem commitShaper_lasting (old k s) : lasting (commitShaper old k s) = lasting s := by simp [commitShaper]
@[simp] theorem commitIngress_lasting (old att sub s) : lasting (commitIngress old att sub s) = lasting s := by
  unfold commitIngress
  dsimp only
  split <;> simp

@[simp] theorem commitDeficits_lasting (old s) : lasting (commitDeficits old s) = lasting s := by simp [commitDeficits]
@[simp] theorem commitMarkers_lasting (old s) : lasting (commitMarkers old s) = lasting s := by simp [commitMarkers]
@[simp] theorem commitRoutes_lasting (old s) : lasting (commitRoutes old s) = lasting s := by simp [commitRoutes]
@[simp] theorem bootPegs_lasting (s) : lasting (bootPegs s) = lasting s := by simp [bootPegs]
@[simp] theorem enterSlot_lasting (old p s) : lasting (enterSlot old p s) = lasting s := by simp [enterSlot]
@[simp] theorem putInForce_lasting (es epoch digest isSigned sig s0) :
    lasting (putInForce es epoch digest isSigned sig s0) = lasting s0 := by
  unfold putInForce
  extract_lets was _ s _ _ s1 s2 s3 s4 s5 s6 s7
  have h1 : lasting s1 = lasting s0 := by simp [s1, s]
  have h2 : lasting s2 = lasting s1 := by simp [s2]
  have h3 : lasting s3 = lasting s2 := by simp [s3]
  have h4 : lasting s4 = lasting s3 := by simp [s4]
  have h5 : lasting s5 = lasting s4 := by simp [s5]
  have h6 : lasting s6 = lasting s5 := by simp [s6]
  have h7 : lasting s7 = lasting s6 := by simp [s7]
  simp [h7, h6, h5, h4, h3, h2, h1]

@[simp] theorem settleSwapped_lasting (s) : lasting (settleSwapped s) = lasting s := by
  unfold settleSwapped
  refine (forAll_lasting (fun x t => ?_) _ _).trans ?_
  · split <;> simp
  · simp

@[simp] theorem noteDone_lasting (epoch dev isSealed drain s) : lasting (noteDone epoch dev isSealed drain s) = lasting s := by
  simp [noteDone]

@[simp] theorem reportDone_lasting (d epoch isSealed slot s) : lasting (reportDone d epoch isSealed slot s) = lasting s := by
  simp [reportDone]

@[simp] theorem swapNow_lasting (late s) : lasting (swapNow late s) = lasting s := by
  unfold swapNow
  split
  · rfl
  · simp

@[simp] theorem commitSwap_lasting (s) : lasting (commitSwap s) = lasting s := by
  unfold commitSwap
  split <;> simp

@[simp] theorem drainDone_lasting (s) : lasting (drainDone s) = lasting s := by simp [drainDone]
@[simp] theorem reopen_lasting (l s) : lasting (reopen l s) = lasting s := by
  unfold reopen
  split <;> simp

@[simp] theorem failPrepare_lasting (status pay s) : lasting (failPrepare status pay s) = lasting s := by
  unfold failPrepare
  split <;> simp

@[simp] theorem refusedBy_lasting (c p d s) : lasting (refusedBy c p d s) = lasting s := by simp [refusedBy]
@[simp] theorem settleVotes_lasting (s) : lasting (settleVotes s) = lasting s := by
  unfold settleVotes
  (repeat' split) <;> simp

@[simp] theorem sendPrepare_lasting (c p d s) : lasting (sendPrepare c p d s) = lasting s := by
  unfold sendPrepare
  simp [foldl_pair'_lasting]

@[simp] theorem cfgPrepareBody_lasting (r s) : lasting (cfgPrepareBody r s).2 = lasting s := by
  unfold cfgPrepareBody
  dsimp only
  (repeat' split) <;> simp

@[simp] theorem cfgPrepare_lasting (r s) : lasting (cfgPrepare r s).2 = lasting s := by simp [cfgPrepare]
@[simp] theorem cfgCommitBody_lasting (r s) : lasting (cfgCommitBody r s).2 = lasting s := by
  unfold cfgCommitBody
  dsimp only
  (repeat' split) <;> simp

@[simp] theorem cfgCommit_lasting (r s) : lasting (cfgCommit r s).2 = lasting s := by simp [cfgCommit]
@[simp] theorem cfgAbortBody_lasting (r s) : lasting (cfgAbortBody r s).2 = lasting s := by
  unfold cfgAbortBody
  dsimp only
  (repeat' split) <;> simp

@[simp] theorem cfgAbort_lasting (r s) : lasting (cfgAbort r s).2 = lasting s := by simp [cfgAbort]
@[simp] theorem cmtImage_lasting (src epoch offset es s) : lasting (cmtImage src epoch offset es s) = lasting s := by simp [cmtImage]
@[simp] theorem cmtPrepare_lasting (src epoch base corrective length digest s) :
    lasting (cmtPrepare src epoch base corrective length digest s) = lasting s := by
  unfold cmtPrepare
  split <;> simp

@[simp] theorem cmtVote_lasting (epoch dev status s) : lasting (cmtVote epoch dev status s) = lasting s := by
  unfold cmtVote
  split <;> simp

@[simp] theorem sendArmed_lasting (src epoch status late swapped s) : lasting (sendArmed src epoch status late swapped s) = lasting s := by
  simp [sendArmed]

@[simp] theorem cmtCommit_lasting (src epoch pfx t s) : lasting (cmtCommit src epoch pfx t s) = lasting s := by
  unfold cmtCommit
  split <;> simp

@[simp] theorem holdExpiry_lasting (s) : lasting (holdExpiry s) = lasting s := by
  unfold holdExpiry
  (repeat' split) <;> simp

@[simp] theorem commitWaitTimeout_lasting (s) : lasting (commitWaitTimeout s) = lasting s := by
  unfold commitWaitTimeout
  refine (forAll_lasting (fun x t => ?_) _ _).trans ?_
  · split <;> simp
  · simp

@[simp] theorem putCfgSlot_lasting (b c s) : lasting (putCfgSlot b c s) = lasting s := by simp [putCfgSlot]
@[simp] theorem configImageWrite_lasting (s) : lasting (configImageWrite s) = lasting s := by simp [configImageWrite]
@[simp] theorem sealWrite_lasting (s) : lasting (sealWrite s) = lasting s := by
  unfold sealWrite
  (repeat' split) <;> simp

/-! ### Central -/

@[simp] theorem lockAcquireBody_lasting (r s) : lasting (lockAcquireBody r s).2 = lasting s := by
  unfold lockAcquireBody
  dsimp only
  (repeat' split) <;> simp

@[simp] theorem lockAcquire_lasting (r s) : lasting (lockAcquire r s).2 = lasting s := by simp [lockAcquire]
@[simp] theorem lockReleaseBody_lasting (r s) : lasting (lockReleaseBody r s).2 = lasting s := by
  unfold lockReleaseBody
  dsimp only
  (repeat' split) <;> simp

@[simp] theorem lockRelease_lasting (r s) : lasting (lockRelease r s).2 = lasting s := by simp [lockRelease]
@[simp] theorem lockPrioSet_lasting (r s) : lasting (lockPrioSet r s).2 = lasting s := by
  unfold lockPrioSet
  refine checkedBy_lasting _ _ _ _ fun r t => ?_
  dsimp only
  (repeat' split) <;> simp

@[simp] theorem lockStatus_lasting (r s) : lasting (lockStatus r s).2 = lasting s := by
  unfold lockStatus
  refine checkedBy_lasting _ _ _ _ fun r t => ?_
  dsimp only
  (repeat' split) <;> simp

@[simp] theorem actPegBody_lasting (r s) : lasting (actPegBody r s).2 = lasting s := by
  unfold actPegBody
  dsimp only
  (repeat' split) <;> simp

@[simp] theorem actPeg_lasting (r s) : lasting (actPeg r s).2 = lasting s := by simp [actPeg]
@[simp] theorem carriedPeg_lasting (d r s) : lasting (carriedPeg d r s) = lasting s := by
  have h := actPegBody_lasting r s
  unfold carriedPeg
  split
  · rfl
  · split
    · next e => simpa [e] using h
    · rfl

@[simp] theorem endPegWait_lasting (mb s) : lasting (endPegWait mb s) = lasting s := by simp [endPegWait]
@[simp] theorem actRead_lasting (r s) : lasting (actRead r s).2 = lasting s := by
  unfold actRead
  refine checkedBy_lasting _ _ _ _ fun r t => ?_
  dsimp only
  (repeat' split) <;> simp

@[simp] theorem fenceClear_lasting (r s) : lasting (fenceClear r s).2 = lasting s := by
  unfold fenceClear
  refine checkedBy_lasting _ _ _ _ fun r t => ?_
  dsimp only
  (repeat' split) <;> simp

@[simp] theorem slotPowerBody_lasting (r s) : lasting (slotPowerBody r s).2 = lasting s := by
  unfold slotPowerBody
  dsimp only
  (repeat' split) <;> simp

@[simp] theorem slotPower_lasting (r s) : lasting (slotPower r s).2 = lasting s := by simp [slotPower]
@[simp] theorem ackAlerts_lasting (n s) : lasting (ackAlerts n s) = lasting s := by simp [ackAlerts]
@[simp] theorem errReadBody_lasting (r s) : lasting (errReadBody r s).2 = lasting s := by
  unfold errReadBody
  dsimp only
  (repeat' split) <;> simp

@[simp] theorem errRead_lasting (r s) : lasting (errRead r s).2 = lasting s := by simp [errRead]
@[simp] theorem containHere_lasting (p s) : lasting (containHere p s) = lasting s := by simp [containHere]
@[simp] theorem containPartition_lasting (p s) : lasting (containPartition p s) = lasting s := by simp [containPartition]
@[simp] theorem partitionContain_lasting (r s) : lasting (partitionContain r s).2 = lasting s := by
  unfold partitionContain
  refine checkedBy_lasting _ _ _ _ fun r t => ?_
  (repeat' split) <;> simp

@[simp] theorem engineTest_lasting (r s) : lasting (engineTest r s).2 = lasting s := by
  unfold engineTest
  refine checkedBy_lasting _ _ _ _ fun r t => ?_
  dsimp only
  (repeat' split) <;> simp

/-! ### Measure -/

@[simp] theorem snapshotBody_lasting (r s) : lasting (snapshotBody r s).2 = lasting s := by
  unfold snapshotBody
  dsimp only
  (repeat' split) <;> simp

@[simp] theorem snapshot_lasting (r s) : lasting (snapshot r s).2 = lasting s := by simp [snapshot]
@[simp] theorem endSnapshot_lasting (status s) : lasting (endSnapshot status s) = lasting s := by
  unfold endSnapshot
  split <;> simp

@[simp] theorem snapAnswer_lasting (dev copied s) : lasting (snapAnswer dev copied s) = lasting s := by simp [snapAnswer]
@[simp] theorem ownSnapAnswer_lasting (copied s) : lasting (ownSnapAnswer copied s) = lasting s := by
  unfold ownSnapAnswer
  dsimp only
  split <;> simp

@[simp] theorem snapshotTime_lasting (s) : lasting (snapshotTime s) = lasting s := by
  unfold snapshotTime
  split <;> simp

@[simp] theorem snapshotCopied_lasting (s) : lasting (snapshotCopied s) = lasting s := by simp [snapshotCopied]
@[simp] theorem counterRead_lasting (r s) : lasting (counterRead r s).2 = lasting s := by
  unfold counterRead
  refine checkedBy_lasting _ _ _ _ fun r t => ?_
  dsimp only
  (repeat' split) <;> simp

@[simp] theorem bwWindowBody_lasting (r s) : lasting (bwWindowBody r s).2 = lasting s := by
  unfold bwWindowBody
  dsimp only
  (repeat' split) <;> simp

@[simp] theorem bwWindow_lasting (r s) : lasting (bwWindow r s).2 = lasting s := by simp [bwWindow]
@[simp] theorem bwEnd_lasting (unit s) : lasting (bwEnd unit s) = lasting s := by
  unfold bwEnd
  split <;> simp

@[simp] theorem startLoopJob_lasting (f s) : lasting (startLoopJob f s) = lasting s := by
  unfold startLoopJob
  split <;> simp

@[simp] theorem endLoopJob_lasting (f s) : lasting (endLoopJob f s) = lasting s := by
  unfold endLoopJob
  split <;> simp

@[simp] theorem resetLoopTarget_lasting (h s) : lasting (resetLoopTarget h s) = lasting s := by simp [resetLoopTarget]
@[simp] theorem startLoop_lasting (r s) : lasting (startLoop r s) = lasting s := by
  unfold startLoop
  dsimp only
  split <;> simp

@[simp] theorem endLoop_lasting (depth target units errors s) : lasting (endLoop depth target units errors s) = lasting s := by
  simp [endLoop]

@[simp] theorem loopCounts_lasting (l s) : lasting (loopCounts l s).2.2 = lasting s := by
  unfold loopCounts
  split <;> simp

@[simp] theorem loopAct_lasting (r s) : lasting (loopAct r s).2 = lasting s := by
  unfold loopAct
  dsimp only
  (repeat' split) <;> simp

@[simp] theorem loopbackBody_lasting (r s) : lasting (loopbackBody r s).2 = lasting s := by
  unfold loopbackBody
  dsimp only
  (repeat' split) <;> simp

@[simp] theorem loopback_lasting (r s) : lasting (loopback r s).2 = lasting s := by simp [loopback]

/-! ### Boot -/

@[simp] theorem putFwSlot_lasting (b f s) : lasting (putFwSlot b f s) = lasting s := by simp [putFwSlot]
@[simp] theorem startFw_lasting (b s) : lasting (startFw b s) = lasting s := by simp [startFw]
@[simp] theorem bootRom_lasting (s) : lasting (bootRom s) = lasting s := by simp [bootRom]
@[simp] theorem loadWearStore_lasting (s) : lasting (loadWearStore s) = lasting s := by simp [loadWearStore]
@[simp] theorem reportTrip_lasting (s) : lasting (reportTrip s) = lasting s := by simp [reportTrip]
@[simp] theorem bootConfig_lasting (s) : lasting (bootConfig s) = lasting s := by
  unfold bootConfig
  split
  · simp
  · dsimp only
    split <;> simp

@[simp] theorem bootPart_lasting (p s) : lasting (bootPart p s) = lasting s := by simp [bootPart]
@[simp] theorem bootMaster_lasting (s) : lasting (bootMaster s) = lasting s := by simp [bootMaster]
@[simp] theorem restoreAlert_lasting (s) : lasting (restoreAlert s) = lasting s := by simp [restoreAlert]
@[simp] theorem startDevice_lasting (b s) : lasting (startDevice b s) = lasting s := by simp [startDevice]
@[simp] theorem bootComplete_lasting (s) : lasting (bootComplete s) = lasting s := by
  unfold bootComplete
  dsimp only
  (repeat' split) <;> simp

@[simp] theorem journal_lasting (s) : lasting (journal s) = lasting s := by simp [journal]
@[simp] theorem mcRestartDone_lasting (s) : lasting (mcRestartDone s) = lasting s := by
  unfold mcRestartDone
  dsimp only
  (repeat' split) <;> simp

@[simp] theorem sealFirst_lasting (s) : lasting (sealFirst s) = lasting s := by simp [sealFirst]
@[simp] theorem unsealFw_lasting (s) : lasting (unsealFw s) = lasting s := by simp [unsealFw]
@[simp] theorem fwWrite_lasting (r s) : lasting (fwWrite r s) = lasting s := by simp [fwWrite]
@[simp] theorem sealFw_lasting (s) : lasting (sealFw s) = lasting s := by simp [sealFw]
@[simp] theorem fwActivate_lasting (r s) : lasting (fwActivate r s).2 = lasting s := by
  unfold fwActivate
  dsimp only
  (repeat' split) <;> simp

@[simp] theorem fwUpdateBody_lasting (r s) : lasting (fwUpdateBody r s).2 = lasting s := by
  unfold fwUpdateBody
  dsimp only
  (repeat' split) <;> simp

@[simp] theorem fwUpdate_lasting (r s) : lasting (fwUpdate r s).2 = lasting s := by simp [fwUpdate]
@[simp] theorem fwUpdateDone_lasting (s) : lasting (fwUpdateDone s) = lasting s := by
  unfold fwUpdateDone
  split <;> simp

@[simp] theorem attestBody_lasting (r s) : lasting (attestBody r s).2 = lasting s := by
  unfold attestBody
  dsimp only
  (repeat' split) <;> simp

@[simp] theorem attest_lasting (r s) : lasting (attest r s).2 = lasting s := by simp [attest]

/-! ### Tandem -/

@[simp] theorem becomeMaster_lasting (s) : lasting (becomeMaster s) = lasting s := by simp [becomeMaster]
@[simp] theorem leaveTandem_lasting (s) : lasting (leaveTandem s) = lasting s := by simp [leaveTandem]
@[simp] theorem toPartner_lasting (code pay s) : lasting (toPartner code pay s) = lasting s := by simp [toPartner]
@[simp] theorem sendBeats_lasting (s) : lasting (sendBeats s) = lasting s := by simp [sendBeats]
@[simp] theorem offerHandover_lasting (s) : lasting (offerHandover s) = lasting s := by simp [offerHandover]
@[simp] theorem partnerClaims_lasting (s) : lasting (partnerClaims s) = lasting s := by
  unfold partnerClaims
  split <;> simp

@[simp] theorem noteVersion_lasting (version s) : lasting (noteVersion version s) = lasting s := by simp [noteVersion]
@[simp] theorem heartbeat_lasting (dev role master version epoch s) : lasting (heartbeat dev role master version epoch s) = lasting s := by
  simp [heartbeat]

@[simp] theorem tdmMailbox_lasting (offset last part s) : lasting (tdmMailbox offset last part s) = lasting s := by simp [tdmMailbox]
@[simp] theorem takeRole_lasting (role partner spokes s) : lasting (takeRole role partner spokes s) = lasting s := by
  unfold takeRole
  split <;> simp

@[simp] theorem tandemSetBody_lasting (r s) : lasting (tandemSetBody r s).2 = lasting s := by
  unfold tandemSetBody
  dsimp only
  (repeat' split) <;> simp

@[simp] theorem tandemSet_lasting (r s) : lasting (tandemSet r s).2 = lasting s := by simp [tandemSet]
@[simp] theorem emptyRequest_lasting (answer r s) : lasting (emptyRequest answer r s).2 = lasting s := by
  unfold emptyRequest
  split <;> simp

@[simp] theorem tandemStatus_lasting (r s) : lasting (tandemStatus r s).2 = lasting s := by simp [tandemStatus]

/-! ### Security -/

@[simp] theorem debugDenied_lasting (token port s) : lasting (debugDenied token port s) = lasting s := by simp [debugDenied]
@[simp] theorem issueNonce_lasting (s) : lasting (issueNonce s).2 = lasting s := by simp [issueNonce]
@[simp] theorem submitToken_lasting (r s) : lasting (submitToken r s).2 = lasting s := by
  unfold submitToken
  dsimp only
  split <;> simp

@[simp] theorem debugToken_lasting (r s) : lasting (debugToken r s).2 = lasting s := by
  unfold debugToken
  (repeat' split) <;> simp

@[simp] theorem denyDebug_lasting (port write s) : lasting (denyDebug port write s) = lasting s := by simp [denyDebug]
@[simp] theorem debugMemory_lasting (port table lo len write s) : lasting (debugMemory port table lo len write s) = lasting s := by
  unfold debugMemory
  (repeat' split) <;> simp

@[simp] theorem debugSidePort_lasting (b s) : lasting (debugSidePort b s) = lasting s := by
  unfold debugSidePort
  (repeat' split) <;> simp

@[simp] theorem fuseRead_lasting (r s) : lasting (fuseRead r s).2 = lasting s := by simp [fuseRead]
@[simp] theorem scanEntry_lasting (s) : lasting (scanEntry s) = lasting s := by simp [scanEntry]
@[simp] theorem testStatus_lasting (r s) : lasting (testStatus r s).2 = lasting s := by simp [testStatus]
@[simp] theorem setSpdm_lasting (t n s) : lasting (setSpdm t n s) = lasting s := by simp [setSpdm]
@[simp] theorem spdmSend_lasting (t code body s) : lasting (spdmSend t code body s) = lasting s := by simp [spdmSend]
@[simp] theorem spdmError_lasting (t code s) : lasting (spdmError t code s) = lasting s := by simp [spdmError]
@[simp] theorem spdm_lasting (t need f s) (hf : ∀ u, lasting (f u) = lasting u) : lasting (spdm t need f s) = lasting s := by
  simp [spdm, hf]

@[simp] theorem spdmSigned_lasting (t code body nonce s) : lasting (spdmSigned t code body nonce s) = lasting s := by simp [spdmSigned]

/-! ### Endure -/

@[simp] theorem settleHolds_lasting (byGovernor s) : lasting (settleHolds byGovernor s) = lasting s := by simp [settleHolds]
@[simp] theorem setPower_lasting (f s) : lasting (setPower f s) = lasting s := by simp [setPower]
@[simp] theorem stageRecords_lasting (from' to' s) : lasting (stageRecords from' to' s) = lasting s := by simp [stageRecords]
@[simp] theorem governorTick_lasting (tj s) : lasting (governorTick tj s) = lasting s := by simp [governorTick]
@[simp] theorem capWindow_lasting (avgMw s) : lasting (capWindow avgMw s) = lasting s := by simp [capWindow]
@[simp] theorem setGuard_lasting (on s) : lasting (setGuard on s) = lasting s := by simp [setGuard]
@[simp] theorem powerCap_lasting (r s) : lasting (powerCap r s).2 = lasting s := by
  unfold powerCap
  refine checkedBy_lasting _ _ _ _ fun r t => ?_
  dsimp only
  (repeat' split) <;> simp

@[simp] theorem vddStepNext_lasting (ack fault statusWord s) : lasting (vddStepNext ack fault statusWord s) = lasting s := by
  simp [vddStepNext]

@[simp] theorem wearThresholds_lasting (d old new s) : lasting (wearThresholds d old new s) = lasting s := by simp [wearThresholds]
@[simp] theorem wearCharge_lasting (temps s) : lasting (wearCharge temps s) = lasting s := by simp [wearCharge]
@[simp] theorem saveWear_lasting (s) : lasting (saveWear s) = lasting s := by simp [saveWear]
@[simp] theorem wearRead_lasting (r s) : lasting (wearRead r s).2 = lasting s := by simp [wearRead]
@[simp] theorem addAction_lasting (i s) : lasting (addAction i s) = lasting s := by simp [addAction]
@[simp] theorem orderVoltage_lasting (slow s) : lasting (orderVoltage slow s) = lasting s := by simp [orderVoltage]
@[simp] theorem orderLimits_lasting (s) : lasting (orderLimits s) = lasting s := by simp [orderLimits]
@[simp] theorem orderRetire_lasting (moved k s) : lasting (orderRetire moved k s) = lasting s := by
  unfold orderRetire
  (repeat' split) <;> simp

@[simp] theorem orderPreset_lasting (maxed l s) : lasting (orderPreset maxed l s) = lasting s := by simp [orderPreset]
@[simp] theorem orderNotice_lasting (maxed p s) : lasting (orderNotice maxed p s) = lasting s := by simp [orderNotice]
@[simp] theorem startReshim_lasting (slow s) : lasting (startReshim slow s) = lasting s := by simp [startReshim]
@[simp] theorem reshimBody_lasting (r s) : lasting (reshimBody r s).2 = lasting s := by
  unfold reshimBody
  (repeat' split) <;> simp

@[simp] theorem reshim_lasting (r s) : lasting (reshim r s).2 = lasting s := by simp [reshim]
@[simp] theorem reshimStep_lasting (p s) : lasting (reshimStep p s) = lasting s := by
  unfold reshimStep
  split <;> simp

@[simp] theorem drainSpoke_lasting (k s) : lasting (drainSpoke k s) = lasting s := by
  unfold drainSpoke
  refine forAll_lasting (fun d t => (forAll_lasting (fun x u => ?_) _ _).trans ?_) _ _
  · split <;> simp
  · simp

@[simp] theorem setRetrain_lasting (old new s) : lasting (setRetrain old new s) = lasting s := by simp [setRetrain]
@[simp] theorem retrainOne_lasting (x s) : lasting (retrainOne x s) = lasting s := by simp [retrainOne]
@[simp] theorem reshimComplete_lasting (s) : lasting (reshimComplete s) = lasting s := by simp [reshimComplete]
@[simp] theorem planerStart_lasting (s) : lasting (planerStart s) = lasting s := by simp [planerStart]
@[simp] theorem planerDone_lasting (transient rows s) : lasting (planerDone transient rows s) = lasting s := by simp [planerDone]
@[simp] theorem planerSet_lasting (r s) : lasting (planerSet r s).2 = lasting s := by
  unfold planerSet
  refine checkedBy_lasting _ _ _ _ fun r t => ?_
  dsimp only
  (repeat' split) <;> simp

@[simp] theorem healthRead_lasting (r s) : lasting (healthRead r s).2 = lasting s := by
  unfold healthRead
  refine checkedBy_lasting _ _ _ _ fun r t => ?_
  (repeat' split) <;> simp

/-! ### Status -/

@[simp] theorem statusOf_lasting (p mask may exists' body r s) (hbody : ∀ r u, lasting (body r u).2 = lasting u) :
    lasting (statusOf p mask may exists' body r s).2 = lasting s := by
  unfold statusOf
  refine checkedBy_lasting _ _ _ _ fun r t => ?_
  (repeat' split) <;> simp [hbody]

@[simp] theorem identify_lasting (r s) : lasting (identify r s).2 = lasting s := by
  unfold identify
  refine checkedBy_lasting _ _ _ _ fun r t => ?_
  (repeat' split) <;> simp

@[simp] theorem caps_lasting (r s) : lasting (caps r s).2 = lasting s := by simp [caps]
@[simp] theorem timeStatus_lasting (r s) : lasting (timeStatus r s).2 = lasting s := by
  unfold timeStatus
  refine checkedBy_lasting _ _ _ _ fun r t => ?_
  dsimp only
  (repeat' split) <;> simp

@[simp] theorem cfgReadBody_lasting (r s) : lasting (cfgReadBody r s).2 = lasting s := by
  unfold cfgReadBody
  dsimp only
  (repeat' split) <;> simp

@[simp] theorem cfgRead_lasting (r s) : lasting (cfgRead r s).2 = lasting s := by simp [cfgRead]
@[simp] theorem cfgStatus_lasting (r s) : lasting (cfgStatus r s).2 = lasting s := by
  unfold cfgStatus
  refine checkedBy_lasting _ _ _ _ fun r t => ?_
  (repeat' split) <;> simp

@[simp] theorem cfgSlotRead_lasting (r s) : lasting (cfgSlotRead r s).2 = lasting s := by simp [cfgSlotRead]
@[simp] theorem laneStatus_lasting (r s) : lasting (laneStatus r s).2 = lasting s := by simp [laneStatus]
@[simp] theorem spokeStatus_lasting (r s) : lasting (spokeStatus r s).2 = lasting s := by simp [spokeStatus]
@[simp] theorem coefExport_lasting (r s) : lasting (coefExport r s).2 = lasting s := by simp [coefExport]
@[simp] theorem coefImport_lasting (r s) : lasting (coefImport r s).2 = lasting s := by
  unfold coefImport
  refine checkedBy_lasting _ _ _ _ fun r t => ?_
  dsimp only
  (repeat' split) <;> simp

@[simp] theorem laneReadmit_lasting (r s) : lasting (laneReadmit r s).2 = lasting s := by
  unfold laneReadmit
  refine checkedBy_lasting _ _ _ _ fun r t => ?_
  dsimp only
  (repeat' split) <;> simp

@[simp] theorem portStatus_lasting (r s) : lasting (portStatus r s).2 = lasting s := by simp [portStatus]
@[simp] theorem partStatus_lasting (r s) : lasting (partStatus r s).2 = lasting s := by simp [partStatus]
@[simp] theorem queueStatus_lasting (r s) : lasting (queueStatus r s).2 = lasting s := by
  unfold queueStatus
  refine statusOf_lasting _ _ _ _ _ _ _ fun r t => ?_
  dsimp only
  split <;> simp

@[simp] theorem shaperStatus_lasting (r s) : lasting (shaperStatus r s).2 = lasting s := by simp [shaperStatus]
@[simp] theorem moverStatus_lasting (r s) : lasting (moverStatus r s).2 = lasting s := by simp [moverStatus]
@[simp] theorem clearMeasures_lasting (ch s) : lasting (clearMeasures ch s) = lasting s := by simp [clearMeasures]
@[simp] theorem slotStatus_lasting (r s) : lasting (slotStatus r s).2 = lasting s := by
  unfold slotStatus
  refine statusOf_lasting _ _ _ _ _ _ _ fun r t => ?_
  split <;> simp

@[simp] theorem tapInstruction_lasting (n shown s) : lasting (tapInstruction n shown s) = lasting s := by simp [tapInstruction]

/-! ### Accept -/

/-- Every command that a mailbox can carry keeps what lasts. -/
theorem handlerOf_lasting {op : Nat} {body : Handler} (h : handlerOf op = some body) (r : Req) (s : State) :
    lasting (body r s).2 = lasting s := by
  unfold handlerOf at h
  split at h
  case h_49 =>
    split at h
    · cases h
      simp
    · nomatch h
  all_goals
    cases h
    simp

@[simp] theorem anyCommand_lasting (r s) : lasting (anyCommand r s).2 = lasting s := by
  unfold anyCommand
  split
  · next body h => exact handlerOf_lasting h r s
  · rfl

@[simp] theorem acceptFrom_lasting (mb s) : lasting (acceptFrom mb s) = lasting s := by simp [acceptFrom]
@[simp] theorem acceptNext_lasting (s) : lasting (acceptNext s) = lasting s := by
  unfold acceptNext
  (repeat' split) <;> simp

/-! ### Registers -/

@[simp] theorem clearRead_lasting (p o width s) : lasting (clearRead p o width s) = lasting s := by simp [clearRead]
@[simp] theorem registerRead_lasting (p func o width s) : lasting (registerRead p func o width s) = lasting s := by
  unfold registerRead
  (repeat' split) <;> simp

/-! ## The commands -/

/-- A command's outcome keeps what lasts of the state after its time has passed. -/
def Lasts (o : Host.Outcome State Fault Refusal) (a : State) : Prop := ∀ t, o = .next t → lasting t = lasting a

theorem run_lasts {dt : Time} {ok : Bool} {f : State → State} {s : State} (h : ∀ u, lasting (f u) = lasting u) :
    Lasts (run dt ok f s) (advance dt s) := by
  intro t ht
  obtain ⟨-, rfl⟩ | ⟨-, rfl⟩ := run_next ht
  · exact h _
  · rfl

@[simp] theorem execWheelSlotRelease_lasts (dt inst s) : Lasts (execWheelSlotRelease dt inst s) (advance dt s) := run_lasts fun u => by simp
@[simp] theorem execWheelRevolution_lasts (dt inst s) : Lasts (execWheelRevolution dt inst s) (advance dt s) := run_lasts fun u => by simp
@[simp] theorem execEchoReceived_lasts (dt att sub s) : Lasts (execEchoReceived dt att sub s) (advance dt s) := run_lasts fun u => by simp
@[simp] theorem execShaperRecoveryStep_lasts (dt att sub s) : Lasts (execShaperRecoveryStep dt att sub s) (advance dt s) :=
  run_lasts fun u => by simp
@[simp] theorem execLockReq_lasts (dt stamp ownerDev ingressPort targetPort s) :
    Lasts (execLockReq dt stamp ownerDev ingressPort targetPort s) (advance dt s) :=
  run_lasts fun u => by simp
@[simp] theorem execLockGrant_lasts (dt ownerDev ingressPort targetDev targetPort s) :
    Lasts (execLockGrant dt ownerDev ingressPort targetDev targetPort s) (advance dt s) :=
  run_lasts fun u => by simp
@[simp] theorem execLockYield_lasts (dt ownerDev ingressPort s) : Lasts (execLockYield dt ownerDev ingressPort s) (advance dt s) :=
  run_lasts fun u => by simp
@[simp] theorem execLockReleaseMessage_lasts (dt ownerDev ingressPort targetPort s) :
    Lasts (execLockReleaseMessage dt ownerDev ingressPort targetPort s) (advance dt s) :=
  run_lasts fun u => by simp
@[simp] theorem execStagingLifetimeExpiry_lasts (dt fid s) : Lasts (execStagingLifetimeExpiry dt fid s) (advance dt s) := by
  refine run_lasts fun u => ?_
  split <;> simp

@[simp] theorem execEgressAdmission_lasts (dt fid s) : Lasts (execEgressAdmission dt fid s) (advance dt s) := run_lasts fun u => by simp
@[simp] theorem execXoffReachIngress_lasts (dt att port svc s) : Lasts (execXoffReachIngress dt att port svc s) (advance dt s) :=
  run_lasts fun u => by simp
@[simp] theorem execEgressSelect_lasts (dt station noCredit s) : Lasts (execEgressSelect dt station noCredit s) (advance dt s) :=
  run_lasts fun u => by simp
@[simp] theorem execFrameDepart_lasts (dt fid s) : Lasts (execFrameDepart dt fid s) (advance dt s) := run_lasts fun u => by simp
@[simp] theorem execNoticeBatchTimer_lasts (dt lane port s) : Lasts (execNoticeBatchTimer dt lane port s) (advance dt s) :=
  run_lasts fun u => by simp
@[simp] theorem execLifetimeSweep_lasts (dt s) : Lasts (execLifetimeSweep dt s) (advance dt s) := run_lasts fun u => by simp
@[simp] theorem execBridgedCompletion_lasts (dt spoke sub colour t s) :
    Lasts (execBridgedCompletion dt spoke sub colour t s) (advance dt s) :=
  run_lasts fun u => by simp
@[simp] theorem execTagQuarantineEnd_lasts (dt entry s) : Lasts (execTagQuarantineEnd dt entry s) (advance dt s) := by
  refine run_lasts fun u => ?_
  split <;> simp

@[simp] theorem execTrackerNoAnswer_lasts (dt trk s) : Lasts (execTrackerNoAnswer dt trk s) (advance dt s) := by
  refine run_lasts fun u => ?_
  split <;> simp

@[simp] theorem execTrackerQuarantineEnd_lasts (dt trk s) : Lasts (execTrackerQuarantineEnd dt trk s) (advance dt s) := by
  refine run_lasts fun u => ?_
  split <;> simp

@[simp] theorem execAckBatch_lasts (dt dev s) : Lasts (execAckBatch dt dev s) (advance dt s) := run_lasts fun u => by simp
@[simp] theorem execAckCellReceived_lasts (dt recs s) : Lasts (execAckCellReceived dt recs s) (advance dt s) := run_lasts fun u => by simp
@[simp] theorem execEpisodeClose_lasts (dt cause srcPart dstDev dstPort s) :
    Lasts (execEpisodeClose dt cause srcPart dstDev dstPort s) (advance dt s) :=
  by
  refine run_lasts fun u => ?_
  split <;> simp

@[simp] theorem execRangeSync_lasts (dt m s) : Lasts (execRangeSync dt m s) (advance dt s) := run_lasts fun u => by simp
@[simp] theorem execSpokeCellSend_lasts (dt spoke beats s) : Lasts (execSpokeCellSend dt spoke beats s) (advance dt s) :=
  run_lasts fun u => by simp
@[simp] theorem execCreditBeatReceived_lasts (dt spoke b s) : Lasts (execCreditBeatReceived dt spoke b s) (advance dt s) :=
  run_lasts fun u => by simp
@[simp] theorem execCreditRefresh_lasts (dt spoke s) : Lasts (execCreditRefresh dt spoke s) (advance dt s) := run_lasts fun u => by simp
@[simp] theorem execResumeReceived_lasts (dt spoke b s) : Lasts (execResumeReceived dt spoke b s) (advance dt s) :=
  run_lasts fun u => by simp
@[simp] theorem execRetryReqReceived_lasts (dt spoke b s) : Lasts (execRetryReqReceived dt spoke b s) (advance dt s) :=
  run_lasts fun u => by simp
@[simp] theorem execRetryReqRepeat_lasts (dt spoke s) : Lasts (execRetryReqRepeat dt spoke s) (advance dt s) := by
  refine run_lasts fun u => ?_
  split <;> simp

@[simp] theorem execAckBeatReceived_lasts (dt spoke b s) : Lasts (execAckBeatReceived dt spoke b s) (advance dt s) :=
  run_lasts fun u => by simp
@[simp] theorem execAckBeatTimer_lasts (dt spoke s) : Lasts (execAckBeatTimer dt spoke s) (advance dt s) := by
  refine run_lasts fun u => ?_
  split <;> simp

@[simp] theorem execReplayTimeout_lasts (dt spoke s) : Lasts (execReplayTimeout dt spoke s) (advance dt s) := run_lasts fun u => by simp
@[simp] theorem execRetireRequestReceived_lasts (dt spoke b s) : Lasts (execRetireRequestReceived dt spoke b s) (advance dt s) :=
  run_lasts fun u => by simp
@[simp] theorem execRetireConfirmReceived_lasts (dt spoke b s) : Lasts (execRetireConfirmReceived dt spoke b s) (advance dt s) :=
  run_lasts fun u => by simp
@[simp] theorem execIdleBeatReceived_lasts (dt spoke b s) : Lasts (execIdleBeatReceived dt spoke b s) (advance dt s) :=
  run_lasts fun u => by simp
@[simp] theorem execSpokeCellReceive_lasts (dt spoke beats body s) : Lasts (execSpokeCellReceive dt spoke beats body s) (advance dt s) :=
  run_lasts fun u => by simp
@[simp] theorem execPreemptReceived_lasts (dt spoke part b s) : Lasts (execPreemptReceived dt spoke part b s) (advance dt s) :=
  run_lasts fun u => by simp
@[simp] theorem execBucketMoveComplete_lasts (dt dest bucket s) : Lasts (execBucketMoveComplete dt dest bucket s) (advance dt s) := by
  refine run_lasts fun u => ?_
  dsimp only
  (repeat' split) <;> simp

@[simp] theorem execBucketMoveBack_lasts (dt dest bucket s) : Lasts (execBucketMoveBack dt dest bucket s) (advance dt s) := by
  refine run_lasts fun u => ?_
  dsimp only
  (repeat' split) <;> simp

@[simp] theorem execMgmtUnknownCode_lasts (dt spoke code s) : Lasts (execMgmtUnknownCode dt spoke code s) (advance dt s) :=
  run_lasts fun u => by simp
@[simp] theorem execTruingUpdate_lasts (dt lane err dec s) : Lasts (execTruingUpdate dt lane err dec s) (advance dt s) :=
  run_lasts fun u => by simp
@[simp] theorem execLossOfSignal_lasts (dt lane s) : Lasts (execLossOfSignal dt lane s) (advance dt s) := by
  refine run_lasts fun u => ?_
  split <;> simp

@[simp] theorem execLossOfSignalEnd_lasts (dt lane s) : Lasts (execLossOfSignalEnd dt lane s) (advance dt s) := run_lasts fun u => by simp
@[simp] theorem execEyeMeasurement_lasts (dt lane eyes s) : Lasts (execEyeMeasurement dt lane eyes s) (advance dt s) := by
  refine run_lasts fun u => ?_
  (repeat' split) <;> simp

@[simp] theorem execLaneMargining_lasts (dt lane m s) : Lasts (execLaneMargining dt lane m s) (advance dt s) := run_lasts fun u => by simp
@[simp] theorem execCoefStoreCopy_lasts (dt spoke temp s) : Lasts (execCoefStoreCopy dt spoke temp s) (advance dt s) :=
  run_lasts fun u => by simp
@[simp] theorem execBringupStepDone_lasts (dt spoke r s) : Lasts (execBringupStepDone dt spoke r s) (advance dt s) :=
  run_lasts fun u => by simp
@[simp] theorem execBringupRetry_lasts (dt spoke s) : Lasts (execBringupRetry dt spoke s) (advance dt s) := by
  refine run_lasts fun u => ?_
  split <;> simp

@[simp] theorem execCadenceAppear_lasts (dt spoke s) : Lasts (execCadenceAppear dt spoke s) (advance dt s) := run_lasts fun u => by simp
@[simp] theorem execTimeReqTimer_lasts (dt s) : Lasts (execTimeReqTimer dt s) (advance dt s) := run_lasts fun u => by simp
@[simp] theorem execTimeReqReceived_lasts (dt spoke bs s) : Lasts (execTimeReqReceived dt spoke bs s) (advance dt s) :=
  run_lasts fun u => by simp
@[simp] theorem execTimeRespReceived_lasts (dt spoke bs s) : Lasts (execTimeRespReceived dt spoke bs s) (advance dt s) :=
  run_lasts fun u => by simp
@[simp] theorem execTimeLockLossTimeout_lasts (dt s) : Lasts (execTimeLockLossTimeout dt s) (advance dt s) := run_lasts fun u => by simp
@[simp] theorem execPlumbTimer_lasts (dt s) : Lasts (execPlumbTimer dt s) (advance dt s) := run_lasts fun u => by simp
@[simp] theorem execPlumbReceived_lasts (dt spoke bs s) : Lasts (execPlumbReceived dt spoke bs s) (advance dt s) :=
  run_lasts fun u => by simp
@[simp] theorem execPlumbTimeout_lasts (dt spoke s) : Lasts (execPlumbTimeout dt spoke s) (advance dt s) := run_lasts fun u => by simp
@[simp] theorem execNoticeReceived_lasts (dt lane ns s) : Lasts (execNoticeReceived dt lane ns s) (advance dt s) :=
  run_lasts fun u => by simp
@[simp] theorem execNoticeTimeout_lasts (dt func ctx column s) : Lasts (execNoticeTimeout dt func ctx column s) (advance dt s) := by
  refine run_lasts fun u => ?_
  (repeat' split) <;> simp

@[simp] theorem execSqDoorbell_lasts (dt func v s) : Lasts (execSqDoorbell dt func v s) (advance dt s) := run_lasts fun u => by simp
@[simp] theorem execCqDoorbell_lasts (dt func v s) : Lasts (execCqDoorbell dt func v s) (advance dt s) := run_lasts fun u => by simp
@[simp] theorem execRingEnable_lasts (dt func sqLog2 cqLog2 s) : Lasts (execRingEnable dt func sqLog2 cqLog2 s) (advance dt s) :=
  run_lasts fun u => by simp
@[simp] theorem execRingDisable_lasts (dt func s) : Lasts (execRingDisable dt func s) (advance dt s) := run_lasts fun u => by simp
@[simp] theorem execDescriptorFetch_lasts (dt func s) : Lasts (execDescriptorFetch dt func s) (advance dt s) := run_lasts fun u => by simp
@[simp] theorem execDescriptorFetchComplete_lasts (dt func ctx st desc s) :
    Lasts (execDescriptorFetchComplete dt func ctx st desc s) (advance dt s) :=
  by
  refine run_lasts fun u => ?_
  split <;> simp

@[simp] theorem execShardTableReadComplete_lasts (dt func ctx st table s) :
    Lasts (execShardTableReadComplete dt func ctx st table s) (advance dt s) :=
  by
  refine run_lasts fun u => ?_
  split <;> simp

@[simp] theorem execCoefficientsDerived_lasts (dt func ctx s) : Lasts (execCoefficientsDerived dt func ctx s) (advance dt s) :=
  run_lasts fun u => by simp
@[simp] theorem execJobBind_lasts (dt func ctx s) : Lasts (execJobBind dt func ctx s) (advance dt s) := run_lasts fun u => by simp
@[simp] theorem execColumnReserve_lasts (dt func ctx s) : Lasts (execColumnReserve dt func ctx s) (advance dt s) :=
  run_lasts fun u => by simp
@[simp] theorem execMoverReadGrant_lasts (dt engine s) : Lasts (execMoverReadGrant dt engine s) (advance dt s) := run_lasts fun u => by simp
@[simp] theorem execMoverReadCompletion_lasts (dt func tag st poisoned data s) :
    Lasts (execMoverReadCompletion dt func tag st poisoned data s) (advance dt s) :=
  by
  refine run_lasts fun u => ?_
  split <;> simp

@[simp] theorem execReadTimeout_lasts (dt entry s) : Lasts (execReadTimeout dt entry s) (advance dt s) := by
  refine run_lasts fun u => ?_
  (repeat' split) <;> simp

@[simp] theorem execMoverReadTimeout_lasts (dt func tag s) : Lasts (execMoverReadTimeout dt func tag s) (advance dt s) := by
  refine run_lasts fun u => ?_
  split <;> simp

@[simp] theorem execCompletionEntryWrite_lasts (dt func ctx s) : Lasts (execCompletionEntryWrite dt func ctx s) (advance dt s) :=
  run_lasts fun u => by simp
@[simp] theorem execEngineResidueFault_lasts (dt engine func ctx column s) :
    Lasts (execEngineResidueFault dt engine func ctx column s) (advance dt s) :=
  by
  refine run_lasts fun u => ?_
  (repeat' split) <;> simp

@[simp] theorem execVfEnableSet_lasts (dt p num s) : Lasts (execVfEnableSet dt p num s) (advance dt s) := run_lasts fun u => by simp
@[simp] theorem execTrainReceived_lasts (dt spoke bs s) : Lasts (execTrainReceived dt spoke bs s) (advance dt s) :=
  run_lasts fun u => by simp
@[simp] theorem execCadenceLoss_lasts (dt spoke s) : Lasts (execCadenceLoss dt spoke s) (advance dt s) := run_lasts fun u => by simp
@[simp] theorem execVfEnableClear_lasts (dt p s) : Lasts (execVfEnableClear dt p s) (advance dt s) := run_lasts fun u => by simp
@[simp] theorem execMbDoorbellSubmit_lasts (dt mb s) : Lasts (execMbDoorbellSubmit dt mb s) (advance dt s) := run_lasts fun u => by simp
@[simp] theorem execMbDoorbellAcknowledge_lasts (dt mb s) : Lasts (execMbDoorbellAcknowledge dt mb s) (advance dt s) :=
  run_lasts fun u => by simp
@[simp] theorem execMailboxWindowWrite_lasts (dt mb offset v collides dmaBuffer s) :
    Lasts (execMailboxWindowWrite dt mb offset v collides dmaBuffer s) (advance dt s) :=
  run_lasts fun u => by simp
@[simp] theorem execLockWaitExpiry_lasts (dt mb s) : Lasts (execLockWaitExpiry dt mb s) (advance dt s) := run_lasts fun u => by simp
@[simp] theorem execTandemLinkLossTimeout_lasts (dt s) : Lasts (execTandemLinkLossTimeout dt s) (advance dt s) := by
  refine run_lasts fun u => ?_
  split <;> simp

@[simp] theorem execOobMctpMessage_lasts (dt r s) : Lasts (execOobMctpMessage dt r s) (advance dt s) := run_lasts fun u => by simp
@[simp] theorem execDebugMailboxFrame_lasts (dt r s) : Lasts (execDebugMailboxFrame dt r s) (advance dt s) := run_lasts fun u => by simp
@[simp] theorem execMctpControlMessage_lasts (dt cmd arg s) : Lasts (execMctpControlMessage dt cmd arg s) (advance dt s) := by
  refine run_lasts fun u => ?_
  split <;> simp

@[simp] theorem execI3cDynamicAddress_lasts (dt addr s) : Lasts (execI3cDynamicAddress dt addr s) (advance dt s) :=
  run_lasts fun u => by simp
@[simp] theorem execAlertResponseAddress_lasts (dt s) : Lasts (execAlertResponseAddress dt s) (advance dt s) := run_lasts fun u => by simp
@[simp] theorem execIbiRepeat_lasts (dt s) : Lasts (execIbiRepeat dt s) (advance dt s) := run_lasts fun u => by simp
@[simp] theorem execErrHeadWrite_lasts (dt p v s) : Lasts (execErrHeadWrite dt p v s) (advance dt s) := run_lasts fun u => by simp
@[simp] theorem execInrushGrant_lasts (dt s) : Lasts (execInrushGrant dt s) (advance dt s) := run_lasts fun u => by simp
@[simp] theorem execSlotFastTrip_lasts (dt ch ticks s) : Lasts (execSlotFastTrip dt ch ticks s) (advance dt s) := run_lasts fun u => by simp
@[simp] theorem execSlotFaultTimerExpiry_lasts (dt ch ticks s) : Lasts (execSlotFaultTimerExpiry dt ch ticks s) (advance dt s) :=
  run_lasts fun u => by simp
@[simp] theorem execSlotEnergyExceeded_lasts (dt ch ticks s) : Lasts (execSlotEnergyExceeded dt ch ticks s) (advance dt s) :=
  run_lasts fun u => by simp
@[simp] theorem execSlotRampDone_lasts (dt ch ticks s) : Lasts (execSlotRampDone dt ch ticks s) (advance dt s) := run_lasts fun u => by simp
@[simp] theorem execSlotPowerGoodQualify_lasts (dt ch ticks s) : Lasts (execSlotPowerGoodQualify dt ch ticks s) (advance dt s) :=
  run_lasts fun u => by simp
@[simp] theorem execPgLost_lasts (dt ch s) : Lasts (execPgLost dt ch s) (advance dt s) := run_lasts fun u => by simp
@[simp] theorem execSlotPerstRelease_lasts (dt ch s) : Lasts (execSlotPerstRelease dt ch s) (advance dt s) := run_lasts fun u => by simp
@[simp] theorem execRetryWaitEnd_lasts (dt ch s) : Lasts (execRetryWaitEnd dt ch s) (advance dt s) := run_lasts fun u => by simp
@[simp] theorem execDischargeEnd_lasts (dt ch vout s) : Lasts (execDischargeEnd dt ch vout s) (advance dt s) := run_lasts fun u => by simp
@[simp] theorem execGateStuck_lasts (dt ch s) : Lasts (execGateStuck dt ch s) (advance dt s) := run_lasts fun u => by simp
@[simp] theorem execFetLeak_lasts (dt ch s) : Lasts (execFetLeak dt ch s) (advance dt s) := run_lasts fun u => by simp
@[simp] theorem execRetryCountClear_lasts (dt ch s) : Lasts (execRetryCountClear dt ch s) (advance dt s) := run_lasts fun u => by simp
@[simp] theorem execSlotCommandAccepted_lasts (dt ch s) : Lasts (execSlotCommandAccepted dt ch s) (advance dt s) := by
  refine run_lasts fun u => ?_
  dsimp only
  (repeat' split) <;> simp

@[simp] theorem execPresenceChange_lasts (dt ch present s) : Lasts (execPresenceChange dt ch present s) (advance dt s) :=
  run_lasts fun u => by simp
@[simp] theorem execSpinHoldExpiry_lasts (dt ch s) : Lasts (execSpinHoldExpiry dt ch s) (advance dt s) := by
  refine run_lasts fun u => ?_
  split <;> simp

@[simp] theorem execFeedReverseTurnoff_lasts (dt feed s) : Lasts (execFeedReverseTurnoff dt feed s) (advance dt s) :=
  run_lasts fun u => by simp
@[simp] theorem execFeedForwardResume_lasts (dt feed s) : Lasts (execFeedForwardResume dt feed s) (advance dt s) :=
  run_lasts fun u => by simp
@[simp] theorem execFeedLost_lasts (dt feed s) : Lasts (execFeedLost dt feed s) (advance dt s) := run_lasts fun u => by simp
@[simp] theorem execFeedRestored_lasts (dt feed s) : Lasts (execFeedRestored dt feed s) (advance dt s) := run_lasts fun u => by simp
@[simp] theorem execAdcSample_lasts (dt ch sense vout s) : Lasts (execAdcSample dt ch sense vout s) (advance dt s) :=
  run_lasts fun u => by simp
@[simp] theorem execSlotResetNAssert_lasts (dt s) : Lasts (execSlotResetNAssert dt s) (advance dt s) := run_lasts fun u => by simp
@[simp] theorem execSlotResetNRelease_lasts (dt s) : Lasts (execSlotResetNRelease dt s) (advance dt s) := run_lasts fun u => by simp
@[simp] theorem execVpwrLoss_lasts (dt s) : Lasts (execVpwrLoss dt s) (advance dt s) := run_lasts fun u => by simp
@[simp] theorem execVpwrRecovery_lasts (dt s) : Lasts (execVpwrRecovery dt s) (advance dt s) := run_lasts fun u => by simp
@[simp] theorem execStartupFetShortCheck_lasts (dt ch vout s) : Lasts (execStartupFetShortCheck dt ch vout s) (advance dt s) :=
  run_lasts fun u => by simp
@[simp] theorem execSlotInterfaceRestored_lasts (dt s) : Lasts (execSlotInterfaceRestored dt s) (advance dt s) := run_lasts fun u => by simp
@[simp] theorem execPerstinAssert_lasts (dt i s) : Lasts (execPerstinAssert dt i s) (advance dt s) := run_lasts fun u => by simp
@[simp] theorem execPerstinRelease_lasts (dt i s) : Lasts (execPerstinRelease dt i s) (advance dt s) := run_lasts fun u => by simp
@[simp] theorem execPartitionResetNotice_lasts (dt p held s) : Lasts (execPartitionResetNotice dt p held s) (advance dt s) :=
  run_lasts fun u => by simp
@[simp] theorem execPartitionReady_lasts (dt p s) : Lasts (execPartitionReady dt p s) (advance dt s) := run_lasts fun u => by simp
@[simp] theorem execHotResetReceived_lasts (dt port s) : Lasts (execHotResetReceived dt port s) (advance dt s) := run_lasts fun u => by simp
@[simp] theorem execUpstreamDlDown_lasts (dt port s) : Lasts (execUpstreamDlDown dt port s) (advance dt s) := run_lasts fun u => by simp
@[simp] theorem execSecondaryBusResetDownstream_lasts (dt port s) : Lasts (execSecondaryBusResetDownstream dt port s) (advance dt s) :=
  run_lasts fun u => by simp
@[simp] theorem execFlr_lasts (dt func s) : Lasts (execFlr dt func s) (advance dt s) := run_lasts fun u => by simp
@[simp] theorem execFlrComplete_lasts (dt func s) : Lasts (execFlrComplete dt func s) (advance dt s) := run_lasts fun u => by simp
@[simp] theorem execSecondaryBusResetUpstream_lasts (dt port s) : Lasts (execSecondaryBusResetUpstream dt port s) (advance dt s) :=
  run_lasts fun u => by simp
@[simp] theorem execResetNAssert_lasts (dt s) : Lasts (execResetNAssert dt s) (advance dt s) := run_lasts fun u => by simp
@[simp] theorem execI3cTargetReset_lasts (dt s) : Lasts (execI3cTargetReset dt s) (advance dt s) := run_lasts fun u => by simp
@[simp] theorem execFatalAutoReset_lasts (dt s) : Lasts (execFatalAutoReset dt s) (advance dt s) := run_lasts fun u => by simp
@[simp] theorem execResetNRelease_lasts (dt s) : Lasts (execResetNRelease dt s) (advance dt s) := run_lasts fun u => by simp
@[simp] theorem execPowerOn_lasts (dt s) : Lasts (execPowerOn dt s) (advance dt s) := run_lasts fun u => by simp
@[simp] theorem execCoreRailDip_lasts (dt s) : Lasts (execCoreRailDip dt s) (advance dt s) := run_lasts fun u => by simp
@[simp] theorem execCoreRailReturn_lasts (dt s) : Lasts (execCoreRailReturn dt s) (advance dt s) := run_lasts fun u => by simp
@[simp] theorem execWatchdogExpiry_lasts (dt s) : Lasts (execWatchdogExpiry dt s) (advance dt s) := run_lasts fun u => by simp
@[simp] theorem execFirmwareRestartRequest_lasts (dt s) : Lasts (execFirmwareRestartRequest dt s) (advance dt s) :=
  run_lasts fun u => by simp
@[simp] theorem execD2dUncorrectable_lasts (dt s) : Lasts (execD2dUncorrectable dt s) (advance dt s) := run_lasts fun u => by simp
@[simp] theorem execRootPllUnlock_lasts (dt s) : Lasts (execRootPllUnlock dt s) (advance dt s) := run_lasts fun u => by simp
@[simp] theorem execThermalTrip_lasts (dt s) : Lasts (execThermalTrip dt s) (advance dt s) := run_lasts fun u => by simp
@[simp] theorem execDlUp_lasts (dt port width rate r s) : Lasts (execDlUp dt port width rate r s) (advance dt s) :=
  run_lasts fun u => by simp
@[simp] theorem execLinkRecoveryEntry_lasts (dt port s) : Lasts (execLinkRecoveryEntry dt port s) (advance dt s) :=
  run_lasts fun u => by simp
@[simp] theorem execLinkRecoveryExit_lasts (dt port rate eq s) : Lasts (execLinkRecoveryExit dt port rate eq s) (advance dt s) :=
  run_lasts fun u => by simp
@[simp] theorem execPcieCorrectableError_lasts (dt port error s) : Lasts (execPcieCorrectableError dt port error s) (advance dt s) :=
  run_lasts fun u => by simp
@[simp] theorem execDownstreamDlDown_lasts (dt port s) : Lasts (execDownstreamDlDown dt port s) (advance dt s) := run_lasts fun u => by simp
@[simp] theorem execPcieUncorrectableError_lasts (dt port error s) : Lasts (execPcieUncorrectableError dt port error s) (advance dt s) :=
  run_lasts fun u => by simp
@[simp] theorem execPcieTlpReceived_lasts (dt port t s) : Lasts (execPcieTlpReceived dt port t s) (advance dt s) :=
  run_lasts fun u => by simp
@[simp] theorem execMrdlkArrival_lasts (dt port t s) : Lasts (execMrdlkArrival dt port t s) (advance dt s) := run_lasts fun u => by simp
@[simp] theorem execDpcStatusClear_lasts (dt port s) : Lasts (execDpcStatusClear dt port s) (advance dt s) := run_lasts fun u => by simp
@[simp] theorem execIntxMessageReceived_lasts (dt port pin assert s) : Lasts (execIntxMessageReceived dt port pin assert s) (advance dt s) :=
  run_lasts fun u => by simp
@[simp] theorem execIntStatusWrite_lasts (dt p v s) : Lasts (execIntStatusWrite dt p v s) (advance dt s) := run_lasts fun u => by simp
@[simp] theorem execIntMaskWrite_lasts (dt p v s) : Lasts (execIntMaskWrite dt p v s) (advance dt s) := run_lasts fun u => by simp
@[simp] theorem execMsixEnableWrite_lasts (dt p on s) : Lasts (execMsixEnableWrite dt p on s) (advance dt s) := run_lasts fun u => by simp
@[simp] theorem execInterruptDisableWrite_lasts (dt p on s) : Lasts (execInterruptDisableWrite dt p on s) (advance dt s) :=
  run_lasts fun u => by simp
@[simp] theorem execConfigRequest_lasts (dt port rid tag bus dev fn x s) :
    Lasts (execConfigRequest dt port rid tag bus dev fn x s) (advance dt s) :=
  run_lasts fun u => by simp
@[simp] theorem execFrameStage_lasts (dt fid s) : Lasts (execFrameStage dt fid s) (advance dt s) := run_lasts fun u => by simp
@[simp] theorem execFrameReassembled_lasts (dt fid s) : Lasts (execFrameReassembled dt fid s) (advance dt s) := by
  refine run_lasts fun u => ?_
  split <;> simp

@[simp] theorem execPowerControllerControlWrite_lasts (dt port off s) :
    Lasts (execPowerControllerControlWrite dt port off s) (advance dt s) :=
  run_lasts fun u => by simp
@[simp] theorem execD3hotEntry_lasts (dt p s) : Lasts (execD3hotEntry dt p s) (advance dt s) := run_lasts fun u => by simp
@[simp] theorem execD3hotExit_lasts (dt p s) : Lasts (execD3hotExit dt p s) (advance dt s) := run_lasts fun u => by simp
@[simp] theorem execPmeTurnOff_lasts (dt port s) : Lasts (execPmeTurnOff dt port s) (advance dt s) := run_lasts fun u => by simp
@[simp] theorem execPmeToAck_lasts (dt port s) : Lasts (execPmeToAck dt port s) (advance dt s) := run_lasts fun u => by simp
@[simp] theorem execRegisterWrite_lasts (dt p func offset width v s) : Lasts (execRegisterWrite dt p func offset width v s) (advance dt s) :=
  by
  refine run_lasts fun u => ?_
  (repeat' split) <;> simp

@[simp] theorem execMemSingleBitRead_lasts (dt bank word cleanReread s) :
    Lasts (execMemSingleBitRead dt bank word cleanReread s) (advance dt s) :=
  by
  refine run_lasts fun u => ?_
  (repeat' split) <;> simp

@[simp] theorem execMemUncorrectableRead_lasts (dt bank s) : Lasts (execMemUncorrectableRead dt bank s) (advance dt s) :=
  run_lasts fun u => by simp
@[simp] theorem execTableRewriteDone_lasts (dt verified s) : Lasts (execTableRewriteDone dt verified s) (advance dt s) :=
  run_lasts fun u => by simp
@[simp] theorem execNfGapExpiry_lasts (dt p s) : Lasts (execNfGapExpiry dt p s) (advance dt s) := by
  refine run_lasts fun u => ?_
  dsimp only
  split <;> simp

@[simp] theorem execReferenceLost_lasts (dt ref s) : Lasts (execReferenceLost dt ref s) (advance dt s) := run_lasts fun u => by simp
@[simp] theorem execReferenceRelock_lasts (dt s) : Lasts (execReferenceRelock dt s) (advance dt s) := run_lasts fun u => by simp
@[simp] theorem execReferenceUsable_lasts (dt ref s) : Lasts (execReferenceUsable dt ref s) (advance dt s) := run_lasts fun u => by simp
@[simp] theorem execHoldoverTimeout_lasts (dt s) : Lasts (execHoldoverTimeout dt s) (advance dt s) := run_lasts fun u => by simp
@[simp] theorem execEngineDrainDone_lasts (dt engine s) : Lasts (execEngineDrainDone dt engine s) (advance dt s) :=
  run_lasts fun u => by simp
@[simp] theorem execEngineSelfTestDone_lasts (dt engine pass s) : Lasts (execEngineSelfTestDone dt engine pass s) (advance dt s) :=
  run_lasts fun u => by simp
@[simp] theorem execEngineDrainTimeout_lasts (dt engine s) : Lasts (execEngineDrainTimeout dt engine s) (advance dt s) :=
  run_lasts fun u => by simp
@[simp] theorem execArbiterGrant_lasts (dt inst s) : Lasts (execArbiterGrant dt inst s) (advance dt s) := by
  refine run_lasts fun u => ?_
  dsimp only
  (repeat' split) <;> simp

@[simp] theorem execPortSet_lasts (dt r s) : Lasts (execPortSet dt r s) (advance dt s) := run_lasts fun u => by simp
@[simp] theorem execPartSet_lasts (dt r s) : Lasts (execPartSet dt r s) (advance dt s) := run_lasts fun u => by simp
@[simp] theorem execWindowSet_lasts (dt r s) : Lasts (execWindowSet dt r s) (advance dt s) := run_lasts fun u => by simp
@[simp] theorem execActWrite_lasts (dt r s) : Lasts (execActWrite dt r s) (advance dt s) := run_lasts fun u => by simp
@[simp] theorem execQueueSet_lasts (dt r s) : Lasts (execQueueSet dt r s) (advance dt s) := run_lasts fun u => by simp
@[simp] theorem execShaperSet_lasts (dt r s) : Lasts (execShaperSet dt r s) (advance dt s) := run_lasts fun u => by simp
@[simp] theorem execRedProfileSet_lasts (dt r s) : Lasts (execRedProfileSet dt r s) (advance dt s) := run_lasts fun u => by simp
@[simp] theorem execMarkerSet_lasts (dt r s) : Lasts (execMarkerSet dt r s) (advance dt s) := run_lasts fun u => by simp
@[simp] theorem execMoverVfSet_lasts (dt r s) : Lasts (execMoverVfSet dt r s) (advance dt s) := run_lasts fun u => by simp
@[simp] theorem execSlotLimits_lasts (dt r s) : Lasts (execSlotLimits dt r s) (advance dt s) := run_lasts fun u => by simp
@[simp] theorem execErrControl_lasts (dt r s) : Lasts (execErrControl dt r s) (advance dt s) := run_lasts fun u => by simp
@[simp] theorem execRouteSet_lasts (dt r s) : Lasts (execRouteSet dt r s) (advance dt s) := run_lasts fun u => by simp
@[simp] theorem execCfgStageOpen_lasts (dt r s) : Lasts (execCfgStageOpen dt r s) (advance dt s) := run_lasts fun u => by simp
@[simp] theorem execCfgStageImageChunk_lasts (dt r s) : Lasts (execCfgStageImageChunk dt r s) (advance dt s) := run_lasts fun u => by simp
@[simp] theorem execCfgStageImageEnd_lasts (dt r s) : Lasts (execCfgStageImageEnd dt r s) (advance dt s) := run_lasts fun u => by simp
@[simp] theorem execCfgStageFromSlot_lasts (dt r s) : Lasts (execCfgStageFromSlot dt r s) (advance dt s) := run_lasts fun u => by simp
@[simp] theorem execCommitSwap_lasts (dt s) : Lasts (execCommitSwap dt s) (advance dt s) := run_lasts fun u => by simp
@[simp] theorem execDrainDone_lasts (dt s) : Lasts (execDrainDone dt s) (advance dt s) := run_lasts fun u => by simp
@[simp] theorem execCfgPrepare_lasts (dt r s) : Lasts (execCfgPrepare dt r s) (advance dt s) := run_lasts fun u => by simp
@[simp] theorem execPrepareTimeout_lasts (dt s) : Lasts (execPrepareTimeout dt s) (advance dt s) := by
  refine run_lasts fun u => ?_
  (repeat' split) <;> simp

@[simp] theorem execCfgCommit_lasts (dt r s) : Lasts (execCfgCommit dt r s) (advance dt s) := run_lasts fun u => by simp
@[simp] theorem execCfgAbort_lasts (dt r s) : Lasts (execCfgAbort dt r s) (advance dt s) := run_lasts fun u => by simp
@[simp] theorem execCmtImage_lasts (dt src epoch offset entries s) : Lasts (execCmtImage dt src epoch offset entries s) (advance dt s) :=
  run_lasts fun u => by simp
@[simp] theorem execCmtPrepare_lasts (dt src epoch base corrective length digest s) :
    Lasts (execCmtPrepare dt src epoch base corrective length digest s) (advance dt s) :=
  run_lasts fun u => by simp
@[simp] theorem execCmtVote_lasts (dt epoch dev status s) : Lasts (execCmtVote dt epoch dev status s) (advance dt s) :=
  run_lasts fun u => by simp
@[simp] theorem execCmtCommit_lasts (dt src epoch pfx swapTime s) : Lasts (execCmtCommit dt src epoch pfx swapTime s) (advance dt s) :=
  run_lasts fun u => by simp
@[simp] theorem execCmtArmed_lasts (dt epoch dev _status _late _swapTime s) :
    Lasts (execCmtArmed dt epoch dev _status _late _swapTime s) (advance dt s) :=
  run_lasts fun u => by simp
@[simp] theorem execCmtAbort_lasts (dt src epoch s) : Lasts (execCmtAbort dt src epoch s) (advance dt s) := by
  refine run_lasts fun u => ?_
  split <;> simp

@[simp] theorem execCmtDone_lasts (dt epoch dev isSealed _slot drainTime s) :
    Lasts (execCmtDone dt epoch dev isSealed _slot drainTime s) (advance dt s) :=
  run_lasts fun u => by simp
@[simp] theorem execCmtCommitRepeat_lasts (dt s) : Lasts (execCmtCommitRepeat dt s) (advance dt s) := by
  refine run_lasts fun u => ?_
  split <;> simp

@[simp] theorem execPreparedHoldExpiry_lasts (dt s) : Lasts (execPreparedHoldExpiry dt s) (advance dt s) := run_lasts fun u => by simp
@[simp] theorem execCommitWaitTimeout_lasts (dt s) : Lasts (execCommitWaitTimeout dt s) (advance dt s) := run_lasts fun u => by simp
@[simp] theorem execConfigImageWrite_lasts (dt s) : Lasts (execConfigImageWrite dt s) (advance dt s) := run_lasts fun u => by simp
@[simp] theorem execSealWrite_lasts (dt s) : Lasts (execSealWrite dt s) (advance dt s) := run_lasts fun u => by simp
@[simp] theorem execLockAcquire_lasts (dt r s) : Lasts (execLockAcquire dt r s) (advance dt s) := run_lasts fun u => by simp
@[simp] theorem execLockRelease_lasts (dt r s) : Lasts (execLockRelease dt r s) (advance dt s) := run_lasts fun u => by simp
@[simp] theorem execLockRevoke_lasts (dt r s) : Lasts (execLockRevoke dt r s) (advance dt s) := run_lasts fun u => by simp
@[simp] theorem execLockPrioSet_lasts (dt r s) : Lasts (execLockPrioSet dt r s) (advance dt s) := run_lasts fun u => by simp
@[simp] theorem execLockStatus_lasts (dt r s) : Lasts (execLockStatus dt r s) (advance dt s) := run_lasts fun u => by simp
@[simp] theorem execActPegOutcome_lasts (dt mb status pegged owner s) :
    Lasts (execActPegOutcome dt mb status pegged owner s) (advance dt s) :=
  run_lasts fun u => by simp
@[simp] theorem execActPegRemoteTimeout_lasts (dt mb s) : Lasts (execActPegRemoteTimeout dt mb s) (advance dt s) :=
  run_lasts fun u => by simp
@[simp] theorem execActRead_lasts (dt r s) : Lasts (execActRead dt r s) (advance dt s) := run_lasts fun u => by simp
@[simp] theorem execFenceClear_lasts (dt r s) : Lasts (execFenceClear dt r s) (advance dt s) := run_lasts fun u => by simp
@[simp] theorem execSlotPowerOn_lasts (dt r s) : Lasts (execSlotPowerOn dt r s) (advance dt s) := run_lasts fun u => by simp
@[simp] theorem execSlotPowerOff_lasts (dt r s) : Lasts (execSlotPowerOff dt r s) (advance dt s) := run_lasts fun u => by simp
@[simp] theorem execClearLatch_lasts (dt r s) : Lasts (execClearLatch dt r s) (advance dt s) := run_lasts fun u => by simp
@[simp] theorem execClearUnusable_lasts (dt r s) : Lasts (execClearUnusable dt r s) (advance dt s) := run_lasts fun u => by simp
@[simp] theorem execErrRead_lasts (dt r s) : Lasts (execErrRead dt r s) (advance dt s) := run_lasts fun u => by simp
@[simp] theorem execErrReadAck_lasts (dt r s) : Lasts (execErrReadAck dt r s) (advance dt s) := run_lasts fun u => by simp
@[simp] theorem execErrRecord_lasts (dt p r s) : Lasts (execErrRecord dt p r s) (advance dt s) := run_lasts fun u => by simp
@[simp] theorem execPartitionContain_lasts (dt r s) : Lasts (execPartitionContain dt r s) (advance dt s) := run_lasts fun u => by simp
@[simp] theorem execEngineTest_lasts (dt r s) : Lasts (execEngineTest dt r s) (advance dt s) := run_lasts fun u => by simp
@[simp] theorem execSnapshot_lasts (dt r s) : Lasts (execSnapshot dt r s) (advance dt s) := run_lasts fun u => by simp
@[simp] theorem execSnapshotTime_lasts (dt s) : Lasts (execSnapshotTime dt s) (advance dt s) := run_lasts fun u => by simp
@[simp] theorem execSnapshotCopyDone_lasts (dt s) : Lasts (execSnapshotCopyDone dt s) (advance dt s) := run_lasts fun u => by simp
@[simp] theorem execSnapReq_lasts (dt dev t s) : Lasts (execSnapReq dt dev t s) (advance dt s) := run_lasts fun u => by simp
@[simp] theorem execSnapDone_lasts (dt dev copied s) : Lasts (execSnapDone dt dev copied s) (advance dt s) := run_lasts fun u => by simp
@[simp] theorem execSnapshotFabricTimeout_lasts (dt s) : Lasts (execSnapshotFabricTimeout dt s) (advance dt s) := run_lasts fun u => by simp
@[simp] theorem execCounterRead_lasts (dt r s) : Lasts (execCounterRead dt r s) (advance dt s) := run_lasts fun u => by simp
@[simp] theorem execBwWindow_lasts (dt r s) : Lasts (execBwWindow dt r s) (advance dt s) := run_lasts fun u => by simp
@[simp] theorem execBwWindowStart_lasts (dt unit s) : Lasts (execBwWindowStart dt unit s) (advance dt s) := run_lasts fun u => by simp
@[simp] theorem execBwWindowEnd_lasts (dt unit s) : Lasts (execBwWindowEnd dt unit s) (advance dt s) := run_lasts fun u => by simp
@[simp] theorem execLoopbackStart_lasts (dt r s) : Lasts (execLoopbackStart dt r s) (advance dt s) := run_lasts fun u => by simp
@[simp] theorem execLoopbackStop_lasts (dt r s) : Lasts (execLoopbackStop dt r s) (advance dt s) := run_lasts fun u => by simp
@[simp] theorem execLoopbackStatus_lasts (dt r s) : Lasts (execLoopbackStatus dt r s) (advance dt s) := run_lasts fun u => by simp
@[simp] theorem execLoopbackLockTimeout_lasts (dt target s) : Lasts (execLoopbackLockTimeout dt target s) (advance dt s) := by
  refine run_lasts fun u => ?_
  split <;> simp

@[simp] theorem execLoopbackDurationEnd_lasts (dt depth target units errors s) :
    Lasts (execLoopbackDurationEnd dt depth target units errors s) (advance dt s) :=
  by
  refine run_lasts fun u => ?_
  split <;> simp

@[simp] theorem execBootComplete_lasts (dt s) : Lasts (execBootComplete dt s) (advance dt s) := run_lasts fun u => by simp
@[simp] theorem execMcRestartDone_lasts (dt s) : Lasts (execMcRestartDone dt s) (advance dt s) := run_lasts fun u => by simp
@[simp] theorem execFwUpdateWrite_lasts (dt r s) : Lasts (execFwUpdateWrite dt r s) (advance dt s) := run_lasts fun u => by simp
@[simp] theorem execFwUpdateVerify_lasts (dt r s) : Lasts (execFwUpdateVerify dt r s) (advance dt s) := run_lasts fun u => by simp
@[simp] theorem execFwActivateAtReset_lasts (dt r s) : Lasts (execFwActivateAtReset dt r s) (advance dt s) := run_lasts fun u => by simp
@[simp] theorem execFwActivateRestart_lasts (dt r s) : Lasts (execFwActivateRestart dt r s) (advance dt s) := run_lasts fun u => by simp
@[simp] theorem execFwUpdateDiscard_lasts (dt r s) : Lasts (execFwUpdateDiscard dt r s) (advance dt s) := run_lasts fun u => by simp
@[simp] theorem execFwUpdateDone_lasts (dt s) : Lasts (execFwUpdateDone dt s) (advance dt s) := run_lasts fun u => by simp
@[simp] theorem execFwConfirmTimeout_lasts (dt s) : Lasts (execFwConfirmTimeout dt s) (advance dt s) := by
  refine run_lasts fun u => ?_
  split <;> simp

@[simp] theorem execAttest_lasts (dt r s) : Lasts (execAttest dt r s) (advance dt s) := run_lasts fun u => by simp
@[simp] theorem execHeartbeatSend_lasts (dt s) : Lasts (execHeartbeatSend dt s) (advance dt s) := run_lasts fun u => by simp
@[simp] theorem execTdmHeartbeat_lasts (dt dev role master version epoch pfx s) :
    Lasts (execTdmHeartbeat dt dev role master version epoch pfx s) (advance dt s) :=
  run_lasts fun u => by simp
@[simp] theorem execHeartbeatTimeout_lasts (dt s) : Lasts (execHeartbeatTimeout dt s) (advance dt s) := run_lasts fun u => by simp
@[simp] theorem execMasterClaimTimeout_lasts (dt s) : Lasts (execMasterClaimTimeout dt s) (advance dt s) := by
  refine run_lasts fun u => ?_
  split <;> simp

@[simp] theorem execTdmHandover_lasts (dt th s) : Lasts (execTdmHandover dt th s) (advance dt s) := run_lasts fun u => by simp
@[simp] theorem execHandoverTime_lasts (dt s) : Lasts (execHandoverTime dt s) (advance dt s) := by
  refine run_lasts fun u => ?_
  split <;> simp

@[simp] theorem execMasterYieldRelease_lasts (dt s) : Lasts (execMasterYieldRelease dt s) (advance dt s) := by
  refine run_lasts fun u => ?_
  dsimp only
  (repeat' split) <;> simp

@[simp] theorem execTdmMailbox_lasts (dt seq offset last part s) : Lasts (execTdmMailbox dt seq offset last part s) (advance dt s) :=
  run_lasts fun u => by simp
@[simp] theorem execTdmResponse_lasts (dt seq offset last part s) : Lasts (execTdmResponse dt seq offset last part s) (advance dt s) :=
  run_lasts fun u => by simp
@[simp] theorem execTandemSet_lasts (dt r s) : Lasts (execTandemSet dt r s) (advance dt s) := run_lasts fun u => by simp
@[simp] theorem execTandemStatus_lasts (dt r s) : Lasts (execTandemStatus dt r s) (advance dt s) := run_lasts fun u => by simp
@[simp] theorem execDebugTokenNonce_lasts (dt r s) : Lasts (execDebugTokenNonce dt r s) (advance dt s) := run_lasts fun u => by simp
@[simp] theorem execDebugTokenSubmit_lasts (dt r tok s) : Lasts (execDebugTokenSubmit dt r tok s) (advance dt s) :=
  run_lasts fun u => by simp
@[simp] theorem execDebugTokenRevoke_lasts (dt r s) : Lasts (execDebugTokenRevoke dt r s) (advance dt s) := run_lasts fun u => by simp
@[simp] theorem execDebugTokenExpiry_lasts (dt s) : Lasts (execDebugTokenExpiry dt s) (advance dt s) := by
  refine run_lasts fun u => ?_
  split <;> simp

@[simp] theorem execDebugAccess_lasts (dt tgt s) : Lasts (execDebugAccess dt tgt s) (advance dt s) := by
  refine run_lasts fun u => ?_
  split <;> simp

@[simp] theorem execFuseRead_lasts (dt r s) : Lasts (execFuseRead dt r s) (advance dt s) := run_lasts fun u => by simp
@[simp] theorem execScanEntry_lasts (dt s) : Lasts (execScanEntry dt s) (advance dt s) := run_lasts fun u => by simp
@[simp] theorem execMemoryBist_lasts (dt pass single s) : Lasts (execMemoryBist dt pass single s) (advance dt s) :=
  run_lasts fun u => by simp
@[simp] theorem execTestStatus_lasts (dt r s) : Lasts (execTestStatus dt r s) (advance dt s) := run_lasts fun u => by simp
@[simp] theorem execGetVersion_lasts (dt transport s) : Lasts (execGetVersion dt transport s) (advance dt s) := run_lasts fun u => by simp
@[simp] theorem execGetCapabilities_lasts (dt transport s) : Lasts (execGetCapabilities dt transport s) (advance dt s) :=
  run_lasts fun u => by simp
@[simp] theorem execNegotiateAlgorithms_lasts (dt transport offersSha3 offersMldsa s) :
    Lasts (execNegotiateAlgorithms dt transport offersSha3 offersMldsa s) (advance dt s) :=
  run_lasts fun u => by simp
@[simp] theorem execGetDigests_lasts (dt transport s) : Lasts (execGetDigests dt transport s) (advance dt s) := run_lasts fun u => by simp
@[simp] theorem execGetCertificate_lasts (dt transport slot offset length s) :
    Lasts (execGetCertificate dt transport slot offset length s) (advance dt s) :=
  run_lasts fun u => by simp
@[simp] theorem execChallenge_lasts (dt transport slot nonce s) : Lasts (execChallenge dt transport slot nonce s) (advance dt s) :=
  run_lasts fun u => by simp
@[simp] theorem execGetMeasurements_lasts (dt transport index signed nonce s) :
    Lasts (execGetMeasurements dt transport index signed nonce s) (advance dt s) :=
  by
  refine run_lasts fun u => ?_
  (repeat' split) <;> simp

@[simp] theorem execGovernorTick_lasts (dt tj s) : Lasts (execGovernorTick dt tj s) (advance dt s) := run_lasts fun u => by simp
@[simp] theorem execPowerCapWindow_lasts (dt avgMw s) : Lasts (execPowerCapWindow dt avgMw s) (advance dt s) := run_lasts fun u => by simp
@[simp] theorem execCurrentGuardEngage_lasts (dt s) : Lasts (execCurrentGuardEngage dt s) (advance dt s) := run_lasts fun u => by simp
@[simp] theorem execCurrentGuardRelease_lasts (dt s) : Lasts (execCurrentGuardRelease dt s) (advance dt s) := run_lasts fun u => by simp
@[simp] theorem execPowerCap_lasts (dt r s) : Lasts (execPowerCap dt r s) (advance dt s) := run_lasts fun u => by simp
@[simp] theorem execVddSetpointStep_lasts (dt ack fault statusWord s) :
    Lasts (execVddSetpointStep dt ack fault statusWord s) (advance dt s) :=
  run_lasts fun u => by simp
@[simp] theorem execVrAlert_lasts (dt statusWord s) : Lasts (execVrAlert dt statusWord s) (advance dt s) := run_lasts fun u => by simp
@[simp] theorem execWearCharge_lasts (dt temps s) : Lasts (execWearCharge dt temps s) (advance dt s) := run_lasts fun u => by simp
@[simp] theorem execWearStoreWrite_lasts (dt s) : Lasts (execWearStoreWrite dt s) (advance dt s) := run_lasts fun u => by simp
@[simp] theorem execWearRead_lasts (dt r s) : Lasts (execWearRead dt r s) (advance dt s) := run_lasts fun u => by simp
@[simp] theorem execReshimRun_lasts (dt r s) : Lasts (execReshimRun dt r s) (advance dt s) := run_lasts fun u => by simp
@[simp] theorem execReshimPolicy_lasts (dt r s) : Lasts (execReshimPolicy dt r s) (advance dt s) := run_lasts fun u => by simp
@[simp] theorem execReshimInterval_lasts (dt slow s) : Lasts (execReshimInterval dt slow s) (advance dt s) := run_lasts fun u => by simp
@[simp] theorem execReshimStep_lasts (dt port s) : Lasts (execReshimStep dt port s) (advance dt s) := run_lasts fun u => by simp
@[simp] theorem execReshimComplete_lasts (dt s) : Lasts (execReshimComplete dt s) (advance dt s) := run_lasts fun u => by simp
@[simp] theorem execPlanerRegionStart_lasts (dt s) : Lasts (execPlanerRegionStart dt s) (advance dt s) := run_lasts fun u => by simp
@[simp] theorem execPlanerRegionDone_lasts (dt transient lasting s) : Lasts (execPlanerRegionDone dt transient lasting s) (advance dt s) :=
  run_lasts fun u => by simp
@[simp] theorem execPlanerSet_lasts (dt r s) : Lasts (execPlanerSet dt r s) (advance dt s) := run_lasts fun u => by simp
@[simp] theorem execHealthRead_lasts (dt r s) : Lasts (execHealthRead dt r s) (advance dt s) := run_lasts fun u => by simp
@[simp] theorem execIdentify_lasts (dt r s) : Lasts (execIdentify dt r s) (advance dt s) := run_lasts fun u => by simp
@[simp] theorem execCaps_lasts (dt r s) : Lasts (execCaps dt r s) (advance dt s) := run_lasts fun u => by simp
@[simp] theorem execTimeStatus_lasts (dt r s) : Lasts (execTimeStatus dt r s) (advance dt s) := run_lasts fun u => by simp
@[simp] theorem execCfgRead_lasts (dt r s) : Lasts (execCfgRead dt r s) (advance dt s) := run_lasts fun u => by simp
@[simp] theorem execCfgStatus_lasts (dt r s) : Lasts (execCfgStatus dt r s) (advance dt s) := run_lasts fun u => by simp
@[simp] theorem execCfgSlotRead_lasts (dt r s) : Lasts (execCfgSlotRead dt r s) (advance dt s) := run_lasts fun u => by simp
@[simp] theorem execLaneStatus_lasts (dt r s) : Lasts (execLaneStatus dt r s) (advance dt s) := run_lasts fun u => by simp
@[simp] theorem execSpokeStatus_lasts (dt r s) : Lasts (execSpokeStatus dt r s) (advance dt s) := run_lasts fun u => by simp
@[simp] theorem execCoefExport_lasts (dt r s) : Lasts (execCoefExport dt r s) (advance dt s) := run_lasts fun u => by simp
@[simp] theorem execCoefImport_lasts (dt r s) : Lasts (execCoefImport dt r s) (advance dt s) := run_lasts fun u => by simp
@[simp] theorem execLaneReadmit_lasts (dt r s) : Lasts (execLaneReadmit dt r s) (advance dt s) := run_lasts fun u => by simp
@[simp] theorem execPortStatus_lasts (dt r s) : Lasts (execPortStatus dt r s) (advance dt s) := run_lasts fun u => by simp
@[simp] theorem execPartStatus_lasts (dt r s) : Lasts (execPartStatus dt r s) (advance dt s) := run_lasts fun u => by simp
@[simp] theorem execQueueStatus_lasts (dt r s) : Lasts (execQueueStatus dt r s) (advance dt s) := run_lasts fun u => by simp
@[simp] theorem execShaperStatus_lasts (dt r s) : Lasts (execShaperStatus dt r s) (advance dt s) := run_lasts fun u => by simp
@[simp] theorem execMoverStatus_lasts (dt r s) : Lasts (execMoverStatus dt r s) (advance dt s) := run_lasts fun u => by simp
@[simp] theorem execSlotStatus_lasts (dt r s) : Lasts (execSlotStatus dt r s) (advance dt s) := run_lasts fun u => by simp
@[simp] theorem execBypass_lasts (dt s) : Lasts (execBypass dt s) (advance dt s) := run_lasts fun u => by simp
@[simp] theorem execIdcode_lasts (dt s) : Lasts (execIdcode dt s) (advance dt s) := run_lasts fun u => by simp
@[simp] theorem execSamplePreload_lasts (dt preload s) : Lasts (execSamplePreload dt preload s) (advance dt s) := run_lasts fun u => by simp
@[simp] theorem execExtest_lasts (dt s) : Lasts (execExtest dt s) (advance dt s) := run_lasts fun u => by simp
@[simp] theorem execClamp_lasts (dt s) : Lasts (execClamp dt s) (advance dt s) := run_lasts fun u => by simp
@[simp] theorem execHighz_lasts (dt s) : Lasts (execHighz dt s) (advance dt s) := run_lasts fun u => by simp
@[simp] theorem execExtestPulse_lasts (dt s) : Lasts (execExtestPulse dt s) (advance dt s) := run_lasts fun u => by simp
@[simp] theorem execExtestTrain_lasts (dt s) : Lasts (execExtestTrain dt s) (advance dt s) := run_lasts fun u => by simp
@[simp] theorem execMailboxAccept_lasts (dt s) : Lasts (execMailboxAccept dt s) (advance dt s) := run_lasts fun u => by simp
@[simp] theorem execMailboxDmaTimeout_lasts (dt mb s) : Lasts (execMailboxDmaTimeout dt mb s) (advance dt s) := run_lasts fun u => by simp
@[simp] theorem execRcRegisterRead_lasts (dt p func offset width s) : Lasts (execRcRegisterRead dt p func offset width s) (advance dt s) :=
  run_lasts fun u => by simp

@[simp] theorem execActPeg_lasts (dt r s) : Lasts (execActPeg dt r s) (advance dt s) := by
  unfold execActPeg
  split
  · exact run_lasts fun u => by simp
  · exact run_lasts fun u => by simp

/-- Every command but the two that program fuses keeps what lasts. -/
theorem exec_lasting {c : Instr} {s : State} (hconf : ∀ dt, c ≠ .fwConfirmation dt)
    (hprov : ∀ dt h sg d m key sig, c ≠ .provisioning dt h sg d m key sig) : Lasts (exec c s) (advance c.dt s) := by
  cases c
  case fwConfirmation dt => exact (hconf dt rfl).elim
  case provisioning => exact (hprov _ _ _ _ _ _ _ rfl).elim
  all_goals (dsimp only [exec, Instr.dt]; simp)

/-! ## The two commands that program fuses (R437, R443) -/

/-- Burning a security version sets bits and clears none. -/
theorem burnSvn_getLsbD {svn : Nat} {f : BitVec 64} {i : Nat} (h : f.getLsbD i = true) : (burnSvn svn f).getLsbD i = true := by
  unfold burnSvn
  refine List.foldlRecOn (motive := fun g : BitVec 64 => g.getLsbD i = true) _ _ h fun g hg j _ => ?_
  split
  · rw [BitVec.getLsbD_or, hg, Bool.true_or]
  · exact hg

theorem lasting_inj {s t : State} (h : lasting t = lasting s) : t.chip.upTime = s.chip.upTime ∧ t.sec.idSeed = s.sec.idSeed ∧
    t.sec.ownerHash = s.sec.ownerHash ∧ t.sec.svnFuses = s.sec.svnFuses ∧ t.sec.ownerSet = s.sec.ownerSet ∧
    t.sec.reqSigned = s.sec.reqSigned ∧ t.sec.debugOff = s.sec.debugOff ∧ t.sec.malweodOff = s.sec.malweodOff := Lasting.mk.inj h

theorem putFwSlot_burns (b : Bool) (x : FwSlot) (fw : Firmware) (v : BitVec 64) (s : State) :
    lasting (putFwSlot b x { s with fw := fw, sec.svnFuses := v }) = { lasting s with svnFuses := v } := by
  cases b <;> rfl

/-- FW_CONFIRMATION burns the fuses of a security version, or nothing. -/
theorem fwConfirm_lasting (s : State) :
    lasting (fwConfirm s) = lasting s ∨ ∃ svn, lasting (fwConfirm s) = { lasting s with svnFuses := burnSvn svn s.sec.svnFuses } := by
  unfold fwConfirm
  split
  · right
    have h := sealFirst_lasting s
    obtain ⟨-, -, -, hsvn, -⟩ := lasting_inj h
    exact ⟨((sealFirst s).fwSlot (!inactiveSlot (sealFirst s))).svn, (putFwSlot_burns ..).trans (by rw [h, hsvn])⟩
  · exact .inl rfl

/-- PROVISIONING programs the owner fuses of a device without an owner, or nothing. -/
theorem provision_lasting (keyHash : BitVec 256) (q d m : Bool) (key sig : Nat) (s : State) :
    lasting (provision keyHash q d m key sig s) = lasting s ∨ (s.sec.ownerSet = false ∧
      lasting (provision keyHash q d m key sig s) =
        { lasting s with ownerSet := true, ownerHash := keyHash, reqSigned := q, debugOff := d, malweodOff := m }) := by
  unfold provision
  dsimp only
  split
  · exact .inl rfl
  · next hno =>
    split
    · exact .inl rfl
    · refine .inr ⟨?_, rfl⟩
      simp only [Bool.or_eq_true, not_or, Bool.not_eq_true] at hno
      exact hno.1.1

/-- What a command may do to the clock and the fuses. -/
inductive Changes (c : Instr) (s t : State) : Prop
  | none (h : lasting t = lasting (advance c.dt s))
  | svn (dt : Time) (n : Nat) (hc : c = .fwConfirmation dt)
      (h : lasting t = { lasting (advance c.dt s) with svnFuses := burnSvn n s.sec.svnFuses })
  | owner (dt : Time) (keyHash : BitVec 256) (q d m : Bool) (key sig : Nat) (hc : c = .provisioning dt keyHash q d m key sig)
      (hno : s.sec.ownerSet = false) (h : lasting t = { lasting (advance c.dt s) with
        ownerSet := true, ownerHash := keyHash, reqSigned := q, debugOff := d, malweodOff := m })

theorem exec_changes {c : Instr} {s t : State} (h : exec c s = .next t) : Changes c s t := by
  by_cases hc : ∃ dt, c = .fwConfirmation dt
  · obtain ⟨dt, rfl⟩ := hc
    obtain ⟨-, rfl⟩ | ⟨-, rfl⟩ := run_next h
    · obtain hl | ⟨n, hl⟩ := fwConfirm_lasting (advance dt s)
      · exact .none hl
      · exact .svn dt n rfl hl
    · exact .none rfl
  · by_cases hp : ∃ dt h sg d m key sig, c = .provisioning dt h sg d m key sig
    · obtain ⟨dt, hash, q, d, m, key, sig, rfl⟩ := hp
      obtain ⟨-, rfl⟩ | ⟨-, rfl⟩ := run_next h
      · obtain hl | ⟨hno, hl⟩ := provision_lasting hash q d m key sig (advance dt s)
        · exact .none hl
        · exact .owner dt hash q d m key sig rfl hno hl
      · exact .none rfl
    · exact .none (exec_lasting (fun dt e => hc ⟨dt, e⟩) (fun dt x q d m key sig e => hp ⟨dt, x, q, d, m, key, sig, e⟩) t h)

end Sys2Proof.Machine

namespace Sys2Proof

open Machine

theorem SameFuses.of_lasting {s t : State} (h : lasting t = lasting s) : SameFuses s t := by
  obtain ⟨-, -, hhash, hsvn, hset, hsig, hdbg, hmal⟩ := lasting_inj h
  exact ⟨hsvn, hset, hhash, hsig, hdbg, hmal⟩

/-- Settles O5. -/
theorem onlyTwoCommandsProgramFuses : Obligations.OnlyTwoCommandsProgramFuses := by
  intro c s t h
  rcases exec_changes h with hl | ⟨dt, n, rfl, hl⟩ | ⟨dt, hash, q, d, m, key, sig, rfl, hno, hl⟩
  · exact .inl (SameFuses.of_lasting (s := advance c.dt s) hl)
  · obtain ⟨-, -, hhash, -, hset, hsig, hdbg, hmal⟩ := Lasting.mk.inj hl
    exact .inr (.inl ⟨dt, rfl, hset, hhash, hsig, hdbg, hmal⟩)
  · obtain ⟨-, -, -, hsvn, -⟩ := Lasting.mk.inj hl
    exact .inr (.inr ⟨dt, hash, q, d, m, key, sig, rfl, hno, hsvn⟩)

/-- Settles O6. -/
theorem localClockNeverRunsBack : Obligations.LocalClockNeverRunsBack := by
  intro s t h
  obtain rfl | ⟨c, rest, -, hc⟩ := step_cases h
  · exact le_rfl
  · have htime : t.chip.upTime = s.chip.upTime + c.dt := by
      rcases exec_changes hc with hl | ⟨_, _, _, hl⟩ | ⟨_, _, _, _, _, _, _, _, _, hl⟩
      all_goals exact (Lasting.mk.inj hl).1
    exact (Nat.le_add_right ..).trans_eq htime.symm

/-- What O4 says of one command. -/
theorem exec_fusesGrow {c : Instr} {s t : State} (hown : OwnerFusesWhole s) (h : exec c s = .next t) :
    t.sec.idSeed = s.sec.idSeed ∧ (∀ i, s.sec.svnFuses.getLsbD i = true → t.sec.svnFuses.getLsbD i = true) ∧
    (∀ i, s.sec.ownerHash.getLsbD i = true → t.sec.ownerHash.getLsbD i = true) ∧
    (s.sec.ownerSet = true → t.sec.ownerSet = true) ∧ (s.sec.reqSigned = true → t.sec.reqSigned = true) ∧
    (s.sec.debugOff = true → t.sec.debugOff = true) ∧ (s.sec.malweodOff = true → t.sec.malweodOff = true) := by
  rcases exec_changes h with hl | ⟨-, n, -, hl⟩ | ⟨-, hash, q, d, m, -, -, -, hno, hl⟩
  all_goals obtain ⟨-, hseed, hhash, hsvn, hset, hsig, hdbg, hmal⟩ := Lasting.mk.inj hl
  · rw [hhash, hsvn, hset, hsig, hdbg, hmal]
    exact ⟨hseed, fun _ => id, fun _ => id, id, id, id, id⟩
  · rw [hhash, hsvn, hset, hsig, hdbg, hmal]
    exact ⟨hseed, fun _ => burnSvn_getLsbD, fun _ => id, id, id, id, id⟩
  · obtain ⟨h0, h1, h2, h3⟩ := hown hno
    rw [hsvn, h0, h1, h2, h3, hset]
    exact ⟨hseed, fun _ => id, by simp, fun _ => rfl, nofun, nofun, nofun⟩

/-- Settles O4. -/
theorem fusesAreNeverCleared : Obligations.FusesAreNeverCleared := by
  intro s t hown h
  obtain rfl | ⟨c, rest, -, hc⟩ := step_cases h
  · exact ⟨rfl, fun _ => id, fun _ => id, id, id, id, id⟩
  · exact exec_fusesGrow (s := { s with pending := rest }) hown hc

/-- Settles O3. -/
theorem stepsKeepOwnerFusesWhole : Obligations.StepsKeepOwnerFusesWhole := by
  intro s t hown h
  obtain rfl | ⟨c, rest, -, hc⟩ := step_cases h
  · exact hown
  · intro hno
    rcases exec_changes hc with hl | ⟨-, n, -, hl⟩ | ⟨-, hash, q, d, m, -, -, -, -, hl⟩
    all_goals obtain ⟨-, -, hhash, -, hset, hsig, hdbg, hmal⟩ := Lasting.mk.inj hl
    · rw [hhash, hsig, hdbg, hmal]
      exact hown (hset.symm.trans hno)
    · rw [hhash, hsig, hdbg, hmal]
      exact hown (hset.symm.trans hno)
    · exact absurd (hset.symm.trans hno) (by simp)

end Sys2Proof

/-! # A command's completion (R365, R367, R369) -/

namespace Sys2Proof.Machine

/-! ## A cause that is set stays set -/

/-- A cause's status bit is set. -/
def Caused (p i : Nat) (s : State) : Prop := (s.part p).intStatus.getLsbD i = true

section
variable {p i : Nat} {s t : State}

theorem Caused.of_part (h : Caused p i s) (e : t.pcie.part = s.pcie.part) : Caused p i t := by
  rwa [Caused, State.part, e]

theorem modPart_caused {q : Nat} {f : Part → Part} (hf : ∀ x, x.intStatus.getLsbD i = true → (f x).intStatus.getLsbD i = true)
    (h : Caused p i s) : Caused p i (modPart q f s) := by
  rw [Caused, modPart_part]
  split
  · exact hf _ h
  · exact h

/-- The same of an update of other registers. -/
theorem modPart_other_caused {q : Nat} {f : Part → Part} (hf : ∀ x, (f x).intStatus = x.intStatus) (h : Caused p i s) :
    Caused p i (modPart q f s) := modPart_caused (fun x hx => (hf x).symm ▸ hx) h

theorem forAll_caused {α : Type} {f : α → State → State} {l : List α} (hf : ∀ x s, Caused p i s → Caused p i (f x s))
    (h : Caused p i s) : Caused p i (forAll l f s) := forAll_keeps (Caused p i) f hf l s h

theorem ite_caused {c : Prop} [Decidable c] (hs : Caused p i s) (ht : Caused p i t) : Caused p i (if c then s else t) := by
  split
  · exact hs
  · exact ht

theorem updateLevel_caused {q : Nat} (h : Caused p i s) : Caused p i (updateLevel q s) := by
  unfold updateLevel
  dsimp only
  split
  · exact h
  · split
    · rw [Caused, collapse_part]
      exact modPart_other_caused (fun _ => rfl) h
    · exact modPart_other_caused (fun _ => rfl) h

theorem sendMsg_caused {u : Nat} {m : MsgKind} (h : Caused p i s) : Caused p i (sendMsg u m s) := h.of_part (sendMsg_pcie_part ..)

theorem func0Err_caused {q b : Nat} {m : MsgKind} (h : Caused p i s) : Caused p i (func0Err q b m s) := by
  unfold func0Err func0Msg
  refine ite_caused ?_ h
  split
  · exact sendMsg_caused h
  · exact h

theorem sendNonFatal_caused {q : Nat} (h : Caused p i s) : Caused p i (sendNonFatal q s) :=
  ite_caused (func0Err_caused (modPart_other_caused (fun _ => rfl) h)) (modPart_other_caused (fun _ => rfl) h)

theorem signalRecord_caused {q : Nat} {r : ErrRec} (h : Caused p i s) : Caused p i (signalRecord q r s) := by
  have haer (f : FnAer → FnAer) : Caused p i (modPart q (modAer 0 f) s) := modPart_other_caused (fun _ => rfl) h
  unfold signalRecord
  split
  · exact ite_caused (haer _) (func0Err_caused (haer _))
  · exact ite_caused h (sendNonFatal_caused (haer _))
  · exact ite_caused (sendNonFatal_caused (haer _)) h
  · exact h

theorem raiseAlert_pcie (n : Option Nat) (s : State) : (raiseAlert n s).pcie = s.pcie := by
  unfold raiseAlert
  extract_lets _ s1 _ _ s2
  have h1 : s1.pcie = s.pcie := by cases n <;> rfl
  have h2 : s2.pcie = s1.pcie := by
    unfold s2
    split <;> rfl
  split <;> exact h2.trans h1

theorem logOnly_pcie (r : ErrRec) (s : State) : (logOnly r s).pcie = s.pcie := by
  rw [logOnly, apply_ite State.pcie, raiseAlert_pcie, ite_self, enterLog]

theorem routeCells_pcie (d srcDev srcPort dstPort svc : Nat) (cs : List Cell) (s : State) :
    (routeCells d srcDev srcPort dstPort svc cs s).pcie = s.pcie := by
  unfold routeCells
  split
  · rfl
  · dsimp only
    split
    · rfl
    · split <;> rfl

theorem post_errRec_pcie (d q : Nat) (r : ErrRec) (s : State) : (post (.errRec d q r) s).pcie = s.pcie :=
  (apply_ite State.pcie ..).trans (by rw [routeCells_pcie]; exact ite_self _)

section
variable {raise : Nat → Nat → State → State} (hraise : ∀ q j s, Caused p i s → Caused p i (raise q j s))

include hraise in
theorem ringCopyBy_caused {q : Nat} {r : ErrRec} (h : Caused p i s) : Caused p i (ringCopyBy raise q r s) := by
  have hring : Caused p i (ringWriteBy raise q r s) :=
    ite_caused (hraise _ _ _ (modPart_other_caused (fun _ => rfl) h)) (hraise _ _ _ (modPart_other_caused (fun _ => rfl) h))
  exact ite_caused h (ite_caused (signalRecord_caused hring) (h.of_part (congrArg Pcie.part (post_errRec_pcie ..))))

include hraise in
theorem recordBy_caused {ps : List Nat} {r : ErrRec} (h : Caused p i s) : Caused p i (recordBy raise ps r s) :=
  forAll_caused (fun _ _ => ringCopyBy_caused hraise) (h.of_part (congrArg Pcie.part (logOnly_pcie r s)))

include hraise in
theorem writeFailureBy_caused {cause part : Nat} {r : ErrRec} (h : Caused p i s) : Caused p i (writeFailureBy raise cause r part s) := by
  unfold writeFailureBy
  extract_lets s r s1 _ s2
  have h1 : Caused p i s1 := recordBy_caused hraise h
  have h2 : Caused p i s2 := ite_caused h1 h1
  split
  · exact h
  · exact ite_caused h2 (recordBy_caused hraise h2)

end

theorem countDeny_caused {port : Option Nat} {entry : Nat} (h : Caused p i s) : Caused p i (countDeny port entry s) := by
  unfold countDeny
  split
  · exact ite_caused h h
  · exact h

theorem setCause_caused {q j : Nat} (h : Caused p i s) : Caused p i (setCause q j s) :=
  modPart_caused (fun x hx => by rw [BitVec.getLsbD_or, hx, Bool.true_or]) h

theorem sendMsixBy_caused {denied : Nat → Nat → State → State} (hdenied : ∀ q a s, Caused p i s → Caused p i (denied q a s))
    {q j : Nat} (h : Caused p i s) : Caused p i (sendMsixBy denied q j s) := by
  unfold sendMsixBy sendVectorBy
  dsimp only
  split
  · exact modPart_other_caused (fun _ => rfl) h
  · split
    · exact h
    · exact hdenied _ _ _ (countDeny_caused h)

theorem raiseQuiet_caused {q j : Nat} (h : Caused p i s) : Caused p i (raiseQuiet q j s) :=
  updateLevel_caused (ite_caused (sendMsixBy_caused (fun _ _ _ => id) (setCause_caused h)) (setCause_caused h))

theorem msixDenied_caused {q a : Nat} (h : Caused p i s) : Caused p i (msixDenied q a s) :=
  writeFailureBy_caused (fun _ _ _ => raiseQuiet_caused) h

theorem setCause_sets (p : Nat) {i : Nat} (hi : i < 32) (s : State) : Caused p i (setCause p i s) := by
  rw [Caused, setCause, modPart_part_same]
  simp [hi]

/-- A raised cause is set (R365). -/
theorem raiseCause_sets (p : Nat) {i : Nat} (hi : i < 32) (s : State) : Caused p i (raiseCause p i s) :=
  updateLevel_caused (ite_caused (sendMsixBy_caused (fun _ _ _ => msixDenied_caused) (setCause_sets p hi s)) (setCause_sets p hi s))

end

/-! ## The count of completed commands, and the snapshot -/

/-- The counter of commands. -/
def cmdCount (s : State) : Nat := tget 0 s.count.live (cDev cdCommands)

/-- What is known of a snapshot: its number and T, its mailbox, the devices it waits for and what they answered, and who asked for it. -/
def snapOf (s : State) : Nat × Nat × Option Nat × List Nat × Nat × Bool × Option Nat :=
  (s.count.snapId, s.count.snapAt, s.count.snapMb, s.count.snapWait, s.count.snapLatest, s.count.snapStale, s.count.snapReply)

/-- The counter of commands and the snapshot. -/
def tally (s : State) : Nat × Nat × Nat × Option Nat × List Nat × Nat × Bool × Option Nat := (cmdCount s, snapOf s)

section
variable {s : State}

theorem tally_of_count {t : State} (h : t.count = s.count) : tally t = tally s := by
  rw [tally, tally, cmdCount, cmdCount, snapOf, snapOf, h]

theorem countBy_tally {id : Nat} (h : cDev cdCommands ≠ id) (n : Nat) (s : State) : tally (countBy id n s) = tally s :=
  Prod.ext (tget_tset_ne 0 _ _ h) rfl

theorem forAll_tally {α : Type} {f : α → State → State} (h : ∀ x t, tally (f x t) = tally t) (l : List α) (s : State) :
    tally (forAll l f s) = tally s := forAll_field tally f h l s

theorem sendMsg_tally (u : Nat) (m : MsgKind) (s : State) : tally (sendMsg u m s) = tally s := by
  unfold sendMsg
  split
  · rfl
  · split <;> rfl

theorem collapse_tally (u : Nat) (s : State) : tally (collapse u s) = tally s := by
  refine (forAll_tally (fun x t => ?_) _ _).trans rfl
  split
  · exact sendMsg_tally ..
  · split
    · exact sendMsg_tally ..
    · rfl

theorem updateLevel_tally (p : Nat) (s : State) : tally (updateLevel p s) = tally s := by
  unfold updateLevel
  dsimp only
  split
  · rfl
  · split
    · exact collapse_tally ..
    · rfl

theorem func0Err_tally (p b : Nat) (m : MsgKind) (s : State) : tally (func0Err p b m s) = tally s := by
  unfold func0Err func0Msg
  split
  · split
    · exact sendMsg_tally ..
    · rfl
  · rfl

theorem sendNonFatal_tally (p : Nat) (s : State) : tally (sendNonFatal p s) = tally s :=
  (apply_ite tally ..).trans (by rw [func0Err_tally]; exact ite_self _)

theorem signalRecord_tally (p : Nat) (r : ErrRec) (s : State) : tally (signalRecord p r s) = tally s := by
  unfold signalRecord
  dsimp only
  split
  · split
    · rfl
    · exact func0Err_tally ..
  · split
    · rfl
    · exact sendNonFatal_tally ..
  · split
    · exact sendNonFatal_tally ..
    · rfl
  · rfl

theorem logOnly_tally (r : ErrRec) (s : State) : tally (logOnly r s) = tally s := by
  refine tally_of_count ?_
  rw [logOnly, apply_ite State.count, raiseAlert_count, ite_self, enterLog]

theorem post_errRec_tally (d p : Nat) (r : ErrRec) (s : State) : tally (post (.errRec d p r) s) = tally s := by
  have hroute (cs : List Cell) (t : State) : tally (routeCells d s.dev 0 0 7 cs t) = tally t := by
    unfold routeCells
    split
    · rfl
    · dsimp only
      split
      · rfl
      · split <;> rfl
  exact (apply_ite tally ..).trans (by rw [hroute]; exact ite_self _)

theorem countDeny_tally {i : Nat} (hi : i ≤ 64) (p : Nat) (s : State) : tally (countDeny (primaryUp s p) i s) = tally s := by
  unfold countDeny
  split
  · next u hu =>
    have hlt := primaryUp_lt hu
    split
    · exact countBy_tally (by simp only [cDev, cPort, cId, cdCommands]; omega) ..
    · exact countBy_tally (by simp only [cDev, cAct, cId, cdCommands]; omega) ..
  · rfl

section
variable {raise : Nat → Nat → State → State} (hraise : ∀ q j s, tally (raise q j s) = tally s)

include hraise in
theorem ringCopyBy_tally (p : Nat) (r : ErrRec) (s : State) : tally (ringCopyBy raise p r s) = tally s := by
  have hring : tally (ringWriteBy raise p r s) = tally s := by
    unfold ringWriteBy
    dsimp only
    split <;> exact hraise ..
  unfold ringCopyBy
  split
  · rfl
  · split
    · exact (signalRecord_tally ..).trans hring
    · exact post_errRec_tally ..

include hraise in
theorem recordBy_tally (ps : List Nat) (r : ErrRec) (s : State) : tally (recordBy raise ps r s) = tally s :=
  (forAll_tally (fun _ _ => ringCopyBy_tally hraise ..) _ _).trans (logOnly_tally ..)

include hraise in
theorem writeFailureBy_tally {cause : Nat} (hc : cause ≤ 10) (r : ErrRec) (part : Nat) (s : State) :
    tally (writeFailureBy raise cause r part s) = tally s := by
  unfold writeFailureBy
  extract_lets u r u1 _ u2
  have hu : tally u = tally s := countBy_tally (by simp only [cDev, cPart, cId, cdCommands]; omega) ..
  have h1 : tally u1 = tally s := (recordBy_tally hraise ..).trans hu
  have h2 : tally u2 = tally s := (apply_ite tally ..).trans ((ite_self _).trans h1)
  split
  · exact hu
  · split
    · exact h2
    · exact (recordBy_tally hraise ..).trans h2

end

theorem sendMsixBy_tally {denied : Nat → Nat → State → State} (hdenied : ∀ q a s, tally (denied q a s) = tally s)
    (p i : Nat) (s : State) : tally (sendMsixBy denied p i s) = tally s := by
  unfold sendMsixBy sendVectorBy
  dsimp only
  split
  · rfl
  · have hle := msixReach_entry_le s p (tget 0 (s.part p).msix (2 * tget i (s.part p).vectors i))
    split
    · rfl
    · next j hj =>
      rw [hj] at hle
      exact (hdenied ..).trans (countDeny_tally hle ..)

theorem raiseBy_tally {denied : Nat → Nat → State → State} (hdenied : ∀ q a s, tally (denied q a s) = tally s)
    (p i : Nat) (b : Bool) (s : State) :
    tally (updateLevel p (onlyIf b (sendMsixBy denied p i) (setCause p i s))) = tally s := by
  rw [updateLevel_tally, onlyIf]
  split
  · exact sendMsixBy_tally hdenied ..
  · rfl

theorem raiseQuiet_tally (p i : Nat) (s : State) : tally (raiseQuiet p i s) = tally s := raiseBy_tally (fun _ _ _ => rfl) ..

theorem msixDenied_tally (p a : Nat) (s : State) : tally (msixDenied p a s) = tally s :=
  writeFailureBy_tally raiseQuiet_tally le_rfl ..

theorem raiseCause_tally (p i : Nat) (s : State) : tally (raiseCause p i s) = tally s := raiseBy_tally msixDenied_tally ..

theorem writeFailure_tally {cause : Nat} (hc : cause ≤ 10) (r : ErrRec) (part : Nat) (s : State) :
    tally (writeFailure cause r part s) = tally s := writeFailureBy_tally raiseCause_tally hc ..

end

end Sys2Proof.Machine

namespace Sys2Proof.Machine

/-! ## What the management controller's writes to host memory reach -/

/-- From `s` to `t` nothing of the configuration, the fuses, the mover, the mailboxes, the locks, the chip the count of commands and the snapshot has changed. -/
structure Written (s t : State) : Prop where
  conf : t.conf = s.conf
  sec : t.sec = s.sec
  mover : t.mover = s.mover
  mailbox : t.mgmt.mailbox = s.mgmt.mailbox
  chip : t.chip = s.chip
  lock : t.mgmt.lock = s.mgmt.lock
  cmds : tally t = tally s

section
variable {a s t : State}

theorem Written.refl (s : State) : Written s s := ⟨rfl, rfl, rfl, rfl, rfl, rfl, rfl⟩

theorem Written.trans (h : Written a s) (k : Written s t) : Written a t :=
  ⟨k.conf.trans h.conf, k.sec.trans h.sec, k.mover.trans h.mover, k.mailbox.trans h.mailbox, k.chip.trans h.chip,
    k.lock.trans h.lock, k.cmds.trans h.cmds⟩

theorem Reported.written (h : Reported s t) (hc : tally t = tally s) : Written s t :=
  ⟨h.conf, h.sec, (congrArg State.mover h.rest :), h.mailbox, h.chip, (congrArg (·.mgmt.lock) h.rest :), hc⟩

theorem countBy_written {id : Nat} (h : cDev cdCommands ≠ id) (n : Nat) (s : State) : Written s (countBy id n s) :=
  ⟨rfl, rfl, rfl, rfl, rfl, rfl, countBy_tally h n s⟩

theorem ite_written {c : Prop} [Decidable c] (hs : Written a s) (ht : Written a t) : Written a (if c then s else t) := by
  split
  · exact hs
  · exact ht

theorem record_written (ps : List Nat) (r : ErrRec) (s : State) : Written s (record ps r s) :=
  (record_reported (.refl s)).written (recordBy_tally raiseCause_tally ..)

theorem writeFailure_written {cause : Nat} (hc : cause ≤ 10) (r : ErrRec) (part : Nat) (s : State) :
    Written s (writeFailure cause r part s) := by
  unfold writeFailure writeFailureBy
  extract_lets u r u1 _ u2
  have hu : Written s u := countBy_written (by simp only [cDev, cPart, cId, cdCommands]; omega) ..
  have h1 : Written s u1 := hu.trans (record_written ..)
  have h2 : Written s u2 := ite_written h1 (h1.trans ⟨rfl, rfl, rfl, rfl, rfl, rfl, rfl⟩)
  split
  · exact hu.trans ⟨rfl, rfl, rfl, rfl, rfl, rfl, rfl⟩
  · exact ite_written (h2.trans ⟨rfl, rfl, rfl, rfl, rfl, rfl, rfl⟩) (h2.trans (record_written ..))

theorem countDeny_written {i : Nat} (hi : i ≤ 64) (p : Nat) (s : State) : Written s (countDeny (primaryUp s p) i s) :=
  (countDeny_reported hi (.refl s)).written (countDeny_tally hi p s)

theorem fencedDiscard_written (p d q : Nat) (s : State) : Written s (fencedDiscard p d q s) := by
  have h13 : Written s (count1 (cPart p 13) s) := countBy_written (by simp only [cDev, cPart, cId, cdCommands]; omega) ..
  unfold fencedDiscard
  dsimp only
  split
  · exact h13.trans ⟨rfl, rfl, rfl, rfl, rfl, rfl, rfl⟩
  · exact h13.trans (countBy_written (by simp only [cDev, cPart, cId, cdCommands]; omega) ..)

theorem colourOf_written (att sub n : Nat) (pre : Option Nat) (s : State) : Written s (colourOf att sub n pre s).2 := by
  unfold colourOf
  dsimp only
  split
  · exact .refl s
  · exact ⟨rfl, rfl, rfl, rfl, rfl, rfl, rfl⟩

theorem countBytes_written {id : Nat} (h : cDev cdCommands ≠ id) (n : Nat) (s : State) : Written s (countBytes id n s) :=
  ⟨rfl, rfl, rfl, rfl, rfl, rfl, (countBy_tally h _ _).trans rfl⟩

theorem newFrame_written {f : Frame} (h : ∀ c ≤ 2, cDev cdCommands ≠ cSub f.att f.sub c) (s : State) : Written s (newFrame f s) := by
  unfold newFrame
  dsimp only
  exact (colourOf_written ..).trans ((countBytes_written (h _ (min_le_right _ _)) ..).trans ⟨rfl, rfl, rfl, rfl, rfl, rfl, rfl⟩)

/-! A write of the management controller: where its lookup leads, and what becomes of it. -/

theorem reachCheck_entry_le (e : Entry) (t : Tlp) (own : Bool) : (reachCheck s e t own).2 ≤ 64 := by
  unfold reachCheck
  split
  · exact le_rfl
  · exact decideAt_entry_le ..

theorem reachCheck_allows {e : Entry} {t : Tlp} {own : Bool} {i : Nat} (h : reachCheck s e t own = (true, i)) :
    reachPort s e ≠ none := by
  intro hnone
  unfold reachCheck at h
  rw [hnone] at h
  exact Bool.noConfusion (Prod.mk.inj h).1

/-- Where a memory request of the management controller for partition p goes. -/
inductive McVerdict (s : State) (p : Nat) (t : Tlp) : Verdict → Prop
  | denied {i : Nat} (d q : Nat) (h : i ≤ 64) : McVerdict s p t (.denied i d q)
  | noRoute (d : Nat) : McVerdict s p t (.noRoute d)
  | form (d q : Nat) : McVerdict s p t (.form d q)
  | go (d q : Nat) (h : primaryUp s p ≠ none) : McVerdict s p t (.go d q t none)

theorem lookupMem_mc {f : Nat} (hf : 1024 ≤ f) (t : Tlp) : McVerdict s (funcPart s f) t (lookupMem s (.mover f) t) := by
  have hmc : (Entry.mover f).byMc = true := decide_eq_true hf
  unfold lookupMem
  simp only [hmc, if_true, turnsBack, Bool.false_eq_true, if_false, acsTarget]
  split
  · exact .denied _ _ le_rfl
  · exact .form _ _
  · next d q _ =>
    have hle := reachCheck_entry_le (s := s) (.mover f) t
      (rf (portRecOf s d q) 61 56 == (Entry.mover f).part s && rb (portRecOf s d q) 63)
    split
    · next i hi =>
      rw [hi] at hle
      exact .denied _ _ hle
    · next i hi =>
      have hup := reachCheck_allows hi
      split
      · unfold toPort
        split
        · exact .noRoute _
        · exact .go _ _ hup
      · exact .form _ _

theorem portPart_lt (s : State) (q : Nat) : portPart s q < 64 := Nat.mod_lt _ (by decide)

theorem primaryUp_part_lt {p : Nat} (h : primaryUp s p ≠ none) : p < 64 := by
  obtain ⟨q, hq⟩ := Option.ne_none_iff_exists'.1 h
  have hmem := List.mem_of_find?_eq_some hq
  have hp : portPart s q = p := by
    have := (List.mem_filter.1 hmem).2
    simp only [Bool.and_eq_true, beq_iff_eq] at this
    exact this.2
  exact hp ▸ portPart_lt s q

/-- The subscriber of the management controller's writes moves no counter of the device. -/
theorem cSub_mc_ne {p c : Nat} (hp : funcPart s (mcFunc p) < 64) (hc : c ≤ 2) : cDev cdCommands ≠ cSub 20 p c := by
  have hmod : funcPart s (mcFunc p) = (512 + p) % 512 := by
    rw [funcPart, mcFunc, if_neg (by omega), show 1024 + p - 512 = 512 + p by omega]
  simp only [cDev, cSub, cId, cdCommands]
  omega

theorem newFrame_mc_written {f : Frame} {p : Nat} (hp : primaryUp s (funcPart s (mcFunc p)) ≠ none) (hatt : f.att = 20)
    (hsub : f.sub = p) : Written s (newFrame f s) := by
  refine newFrame_written (fun c hc => ?_) s
  rw [hatt, hsub]
  exact cSub_mc_ne (primaryUp_part_lt hp) hc

theorem writeCause_le (w : Why) : w.writeCause ≤ 10 := by cases w <;> decide

/-- A frame of the management controller's writes. -/
structure McFrame (f : Frame) (dev p : Nat) : Prop where
  test : f.test = false
  rcv : f.rcv = false
  tracker : f.tracker = none
  src : f.srcDev = dev
  att : f.att = 20
  sub : f.sub = p

theorem discardOutcome_written {f : Frame} {p : Nat} (h : McFrame f s.dev p) (hk : f.tlp.kind = .memWrite) (w : Why) :
    Written s (discardOutcome f w s) := by
  have haged (b : Bool) : Written s (if b then count1 (cPair f.outPort f.svc 15) s else s) :=
    ite_written (countBy_written (by simp only [cDev, cPair, cId, cdCommands]; omega) ..) (.refl s)
  have hdev (b : Bool) : (if b then count1 (cPair f.outPort f.svc 15) s else s).dev = s.dev := by cases b <;> rfl
  unfold discardOutcome
  simp only [h.test, h.rcv, hk, Bool.false_eq_true, if_false, failWrite, h.tracker, hdev, h.src, if_true]
  exact (haged _).trans (writeFailure_written (writeCause_le w) ..)

theorem issueMc_written {p : Nat} {t : Tlp} (hk : t.kind = .memWrite) (s : State) : Written s (issueMc p t s) := by
  have hv := lookupMem_mc (s := s) (f := mcFunc p) (Nat.le_add_right ..) { t with rid := funcRid s (mcFunc p) }
  have hlook : lookup s (.mover (mcFunc p)) { t with rid := funcRid s (mcFunc p) } =
      lookupMem s (.mover (mcFunc p)) { t with rid := funcRid s (mcFunc p) } := by
    unfold lookup
    simp only [hk]
  unfold issueMc
  dsimp only
  rw [hlook]
  have hdenied (i d q : Nat) (hi : i ≤ 64) :
      Written s (reachDenied (.mover (mcFunc p)) { t with rid := funcRid s (mcFunc p) } i d q s) := by
    unfold reachDenied
    simp only [hk, isNp, streamOf, Nat.reduceBEq, Bool.false_eq_true, if_false]
    exact (countDeny_written hi ..).trans (writeFailure_written le_rfl ..)
  generalize lookupMem s (.mover (mcFunc p)) { t with rid := funcRid s (mcFunc p) } = v at hv
  cases hv with
  | denied d q h => exact hdenied _ _ _ h
  | noRoute d => exact hdenied _ _ _ le_rfl
  | form d q =>
    simp only [applyVerdict, formError, hk, isNp, streamOf, Nat.reduceBEq, Bool.false_eq_true, if_false]
    exact writeFailure_written (by decide) ..
  | go d q h =>
    simp only [applyVerdict, hk, freshFrame, Bool.not_false, Bool.true_and, Bool.false_eq_true, if_false]
    split
    · exact fencedDiscard_written ..
    · split
      · simp only [pathLost, isNp, streamOf, Nat.reduceBEq, Bool.false_eq_true, if_false]
        exact writeFailure_written (by decide) ..
      · split
        · split
          · exact discardOutcome_written (p := p) ⟨rfl, rfl, rfl, rfl, rfl, rfl⟩ rfl _
          · exact newFrame_mc_written h rfl rfl
        · exact newFrame_mc_written h rfl rfl

end

end Sys2Proof.Machine

namespace Sys2Proof.Machine

/-! ## The response and the end of a command -/

/-- From `s` to `t` only mailbox mb and what its response travels through have changed. -/
structure Responded (mb : Nat) (s t : State) : Prop where
  conf : t.conf = s.conf
  sec : t.sec = s.sec
  mover : t.mover = s.mover
  chip : t.chip = s.chip
  lock : t.mgmt.lock = s.mgmt.lock
  cmds : tally t = tally s
  other : ∀ k, k ≠ mb → t.mb k = s.mb k
  seq : (t.mb mb).seq = (s.mb mb).seq

section
variable {mb : Nat} {a s t : State}

theorem Written.responded (h : Written s t) : Responded mb s t := by
  have hmb (k : Nat) : t.mb k = s.mb k := by rw [State.mb, h.mailbox, State.mb]
  exact ⟨h.conf, h.sec, h.mover, h.chip, h.lock, h.cmds, fun k _ => hmb k, congrArg Mailbox.seq (hmb mb)⟩

theorem Responded.trans (h : Responded mb a s) (k : Responded mb s t) : Responded mb a t :=
  ⟨k.conf.trans h.conf, k.sec.trans h.sec, k.mover.trans h.mover, k.chip.trans h.chip, k.lock.trans h.lock,
    k.cmds.trans h.cmds, fun j hj => (k.other j hj).trans (h.other j hj), k.seq.trans h.seq⟩

theorem modMb_responded {f : Mailbox → Mailbox} (hf : ∀ m, (f m).seq = m.seq) (s : State) : Responded mb s (modMb mb f s) :=
  ⟨rfl, rfl, rfl, rfl, rfl, rfl, fun _ hk => modMb_mb_ne _ _ hk, by rw [modMb_mb_same, hf]⟩

theorem postTandem_tally (o : Out) (s : State) : tally (postTandem o s) = tally s := by
  unfold postTandem
  split <;> rfl

theorem tandemParts_written (code seq : Nat) (ws : List Word64) (s : State) : Written s (tandemParts code seq ws s) :=
  (forAll_reported (fun _ _ => postTandem_reported) (Reported.refl s)).written (forAll_tally (fun _ _ => postTandem_tally ..) _ _)

theorem forAll_written {α : Type} {f : α → State → State} {l : List α} (h : ∀ x ∈ l, ∀ t, Written t (f x t)) (s : State) :
    Written s (forAll l f s) := by
  induction l generalizing s with
  | nil => exact .refl s
  | cons x l ih => exact (h x List.mem_cons_self s).trans (ih (fun y hy => h y (List.mem_cons_of_mem _ hy)) _)

theorem dmaOut_responded (ptr n : Nat) (pay : List Word64) (s : State) : Responded mb s (dmaOut mb ptr n pay s) := by
  refine Responded.trans (Written.responded (forAll_written (fun x hx t => issueMc_written ?_ t) s)) (modMb_responded ?_ _)
  · obtain ⟨y, -, rfl⟩ := List.mem_map.1 hx
    rfl
  · exact fun _ => rfl

theorem respond_responded (st : Nat) (ex : Bool) (pay : List Word64) (s : State) : Responded mb s (respond mb st ex pay s) := by
  unfold respond
  dsimp only
  split
  · exact Written.responded ⟨rfl, rfl, rfl, rfl, rfl, rfl, rfl⟩
  · split
    · exact (tandemParts_written ..).responded
    · split
      · refine (modMb_responded ?_ s).trans (dmaOut_responded ..)
        exact fun _ => rfl
      · refine modMb_responded ?_ s
        exact fun _ => rfl

theorem respond_hub {st : Nat} {ex : Bool} {pay : List Word64} (h : ((s.mb mb).current.map rDmaOut).getD false = false) :
    (respond mb st ex pay s).hub = s.hub := by
  unfold respond
  simp only [h, Bool.false_eq_true, if_false]
  split
  · rfl
  · split
    · exact (forAll_reported (fun _ _ => postTandem_reported) (Reported.refl s)).hub
    · rfl

theorem finish_idle {st : Nat} {ex : Bool} {pay : List Word64} (h : (s.mb mb).state ≠ 1) : finish mb st ex pay s = s := if_pos h

/-- A mailbox as its command's end leaves it. -/
def ended (st : Nat) (ex : Bool) (m : Mailbox) : Mailbox :=
  { m with state := 2, status := st, executed := ex, waiting := 0, submittedAt := none, current := none, dirty := false, dirtyLate := false }

/-- The state in which the mailbox is DONE, before its interrupt. -/
def doneState (mb st : Nat) (ex : Bool) (pay : List Word64) (s : State) : State :=
  modMb mb (ended st ex) (count1 (cDev cdCommands) (respond mb st ex pay s))

theorem finish_busy {st : Nat} {ex : Bool} {pay : List Word64} (h : (s.mb mb).state = 1) :
    finish mb st ex pay s =
      let u := doneState mb (if (s.mb mb).dirtyLate then stConflict else st) ex pay s
      if mb < 64 then raiseCause mb 0 u else u := by
  unfold finish
  simp only [h, ne_eq, not_true_eq_false, if_false]
  rfl

section
variable (st : Nat) (ex : Bool) (pay : List Word64) (s : State)

theorem doneState_mb : (doneState mb st ex pay s).mb mb = ended st ex ((respond mb st ex pay s).mb mb) := modMb_mb_same ..

theorem doneState_other {k : Nat} (hk : k ≠ mb) : (doneState mb st ex pay s).mb k = s.mb k :=
  (modMb_mb_ne _ _ hk).trans ((respond_responded st ex pay s).other k hk)

theorem doneState_cmdCount : cmdCount (doneState mb st ex pay s) = (cmdCount s + 1) % 2 ^ 64 := by
  have h : cmdCount (doneState mb st ex pay s) = (cmdCount (respond mb st ex pay s) + 1) % 2 ^ 64 := tget_tset ..
  have hresp : cmdCount (respond mb st ex pay s) = cmdCount s := congrArg Prod.fst (respond_responded st ex pay s).cmds
  rw [h, hresp]

/-- The interrupt of a completion, where there is one, reaches only what a report reaches. -/
theorem doneState_raise (u : State) : Reported u (if mb < 64 then raiseCause mb 0 u else u) :=
  ite_reported (raiseCause_reported (.refl u)) (.refl u)

theorem doneState_raise_tally (u : State) : tally (if mb < 64 then raiseCause mb 0 u else u) = tally u := by
  split
  · exact raiseCause_tally ..
  · rfl

end

/-- The end of a command leaves the locks and the chip. -/
theorem finish_lock (mb st : Nat) (ex : Bool) (pay : List Word64) (s : State) : (finish mb st ex pay s).mgmt.lock = s.mgmt.lock ∧
    (finish mb st ex pay s).chip = s.chip := by
  by_cases h : (s.mb mb).state = 1
  · have hresp := respond_responded (mb := mb) (if (s.mb mb).dirtyLate then stConflict else st) ex pay s
    have hraise := doneState_raise (mb := mb) (doneState mb (if (s.mb mb).dirtyLate then stConflict else st) ex pay s)
    rw [finish_busy h]
    exact ⟨(congrArg (·.mgmt.lock) hraise.rest :).trans hresp.lock, hraise.chip.trans hresp.chip⟩
  · rw [finish_idle h]
    exact ⟨rfl, rfl⟩

/-- The end of a command leaves the snapshot. -/
theorem finish_snapOf (mb st : Nat) (ex : Bool) (pay : List Word64) (s : State) : snapOf (finish mb st ex pay s) = snapOf s := by
  by_cases h : (s.mb mb).state = 1
  · rw [finish_busy h]
    exact (congrArg Prod.snd (doneState_raise_tally ..)).trans
      (congrArg Prod.snd (respond_responded (mb := mb) (if (s.mb mb).dirtyLate then stConflict else st) ex pay s).cmds)
  · rw [finish_idle h]

theorem finishWait_snapOf (mb why st : Nat) (ex : Bool) (pay : List Word64) (s : State) : snapOf (finishWait mb why st ex pay s) = snapOf s := by
  unfold finishWait
  split
  · exact finish_snapOf ..
  · rfl

theorem finishWait_lock (mb why st : Nat) (ex : Bool) (pay : List Word64) (s : State) : (finishWait mb why st ex pay s).mgmt.lock = s.mgmt.lock ∧
    (finishWait mb why st ex pay s).chip = s.chip := by
  unfold finishWait
  split
  · exact finish_lock ..
  · exact ⟨rfl, rfl⟩

end

end Sys2Proof.Machine

namespace Sys2Proof

open Machine

/-- Settles O10. -/
theorem completionEntersDone : Obligations.CompletionEntersDone := by
  intro s mb st ex pay t m
  by_cases hm : m.state = 1
  case neg =>
    have ht : t = s := finish_idle hm
    rw [ht]
    exact ⟨fun h => absurd h hm, fun _ => rfl, fun _ _ => rfl, rfl, rfl, rfl, fun _ => rfl⟩
  case pos =>
    have ht : t = _ := finish_busy hm
    have hr := doneState_raise (mb := mb) (doneState mb (if m.dirtyLate then stConflict else st) ex pay s)
    have hc := doneState_raise_tally (mb := mb) (doneState mb (if m.dirtyLate then stConflict else st) ex pay s)
    have hresp := respond_responded (mb := mb) (if m.dirtyLate then stConflict else st) ex pay s
    dsimp only at ht
    rw [ht]
    refine ⟨fun _ => ⟨?state, ?status, ?executed, ?seq, ?current, ?cause, ?cmds⟩, fun h => absurd hm h, fun k hk => ?other,
      hr.conf.trans hresp.conf, hr.sec.trans hresp.sec, (congrArg State.mover hr.rest).trans hresp.mover, fun h => ?hub⟩
    case state => rw [hr.mb, doneState_mb, ended]
    case status => rw [hr.mb, doneState_mb, ended]
    case executed => rw [hr.mb, doneState_mb, ended]
    case seq =>
      rw [hr.mb, doneState_mb]
      exact hresp.seq
    case current => rw [hr.mb, doneState_mb, ended]
    case cause =>
      intro hlt
      rw [if_pos hlt]
      exact raiseCause_sets mb (by decide) _
    case cmds => exact (congrArg Prod.fst hc).trans (doneState_cmdCount ..)
    case other => rw [hr.mb, doneState_other _ _ _ _ hk]
    case hub => exact hr.hub.trans (respond_hub h)

end Sys2Proof

/-! # The slot die's tick and its faults (R334 to R344) -/

namespace Sys2Proof.Machine

section
variable {ch : Nat} {s : State}

/-! ## What the operations of a channel make of it -/

/-- An event, a shown fault and the channel clocks reach no channel. -/
theorem SlotKept.all_chan {L : Prop} {t : State} (h : SlotKept L (fun _ => False) s t) : t.chan = s.chan := funext fun k => h.chan k id

@[simp] theorem slotEvent_chan (ch cls code trig : Nat) (s : State) : (slotEvent ch cls code trig s).chan = s.chan :=
  (slotEvent_kept (L := False) (.refl s)).all_chan
@[simp] theorem settleCad_chan (s : State) : (settleCad s).chan = s.chan := (settleCad_kept (L := False) (.refl s)).all_chan
@[simp] theorem powerFault_chan (ch : Nat) (s : State) : (powerFault ch s).chan = s.chan :=
  (powerFault_kept (L := False) False.elim (.refl s)).all_chan

@[simp] theorem modPins_chan_same (ch : Nat) (f : Chan → Chan) (s : State) : (modPins ch f s).chan ch = f (s.chan ch) := by
  have h (b : Bool) (o : Out) (t : State) : (onlyIf b (emit o) t).chan ch = t.chan ch := by cases b <;> rfl
  unfold modPins
  rw [h, h, modChan_chan_same]

theorem noteFault_chan (ch code trig : Nat) (s : State) : ∃ u, (noteFault ch code trig s).chan ch =
    { s.chan ch with lastFault := code, trigger := trig, unshown := u } := by
  unfold noteFault
  dsimp only
  split
  · rw [powerFault_chan, modChan_chan_same, count1_chan]
    exact ⟨_, rfl⟩
  · rw [modChan_chan_same, count1_chan]
    exact ⟨_, rfl⟩

/-- A channel whose gate has been turned off at time t for a state. -/
def turnedOff (next : Nat) (t : Time) (c : Chan) : Chan :=
  { c with
    state := next, fast := false, timer := none, under := 0, q := 0, perst := true
    tries := if next = 5 then c.tries else 0, offAt := if gateOn c then t else c.offAt, checkDue := c.checkDue || gateOn c
    checked := c.checked && !gateOn c, limits := if next = 0 then none else c.limits }

@[simp] theorem gateOff_chan_same (ch next : Nat) (t : Time) (s : State) :
    (gateOff ch next t s).chan ch = turnedOff next t (s.chan ch) := by
  unfold gateOff turnedOff
  cases gateOn (s.chan ch) <;> simp

/-! ## A fault (R337, R339, R342, R344) -/

/-- Faults with the output below 1 V, this one included. -/
def lowFaults (c : Chan) : Nat := if c.vmax < 1000 then c.lowFails + 1 else 0

/-- The time of a fault, which its wait follows. -/
def faultSpan (t : Time) (c : Chan) : Time := if c.pgSeen then (c.timer.elim 0 fun n => n * us) else t - c.gateAt

/-- The state in which a fault has been noted. -/
def faultNoted (ch trig : Nat) (s : State) : State :=
  modChan ch (fun c => { c with lowFails := lowFaults (s.chan ch) }) (noteFault ch (if (s.chan ch).pgSeen then 2 else 1) trig s)

theorem chanFault_eq (ch trig : Nat) (t : Time) (s : State) : chanFault ch trig t s =
    let c := s.chan ch
    let r := limitsOf s ch
    let s1 := faultNoted ch trig s
    if 2 ≤ lowFaults c then slotEvent ch 2 3 trig (noteFault ch 3 trig (gateOff ch 6 t s1))
    else if lRetry r ≠ 15 ∧ lRetry r ≤ c.retries then slotEvent ch 2 8 trig (noteFault ch 8 trig (gateOff ch 6 t s1))
    else modChan ch (fun x => { x with waitUntil := t + max (100 * ms) (32 * faultSpan t c) }) (gateOff ch 5 t s1) := by
  cases h : (s.chan ch).timer <;> simp only [chanFault, faultNoted, lowFaults, faultSpan, h, Option.elim_some, Option.elim_none]

/-- A channel that a fault latches, with the code that it shows. -/
structure LatchedBy (code : Nat) (c : Chan) : Prop where
  perst : c.perst = true
  state : c.state = 6
  code : c.lastFault = code

theorem latch_chan (code trig : Nat) (t : Time) (s : State) :
    LatchedBy code ((slotEvent ch 2 code trig (noteFault ch code trig (gateOff ch 6 t s))).chan ch) := by
  obtain ⟨u, hu⟩ := noteFault_chan ch code trig (gateOff ch 6 t s)
  rw [slotEvent_chan, hu, gateOff_chan_same]
  exact ⟨rfl, rfl, rfl⟩

theorem faultNoted_lastFault (ch trig : Nat) (s : State) :
    ((faultNoted ch trig s).chan ch).lastFault = if (s.chan ch).pgSeen then 2 else 1 := by
  obtain ⟨u, hu⟩ := noteFault_chan ch (if (s.chan ch).pgSeen then 2 else 1) trig s
  rw [faultNoted, modChan_chan_same, hu]

section
variable {trig : Nat} {t : Time}

theorem chanFault_twice_low (h : 2 ≤ lowFaults (s.chan ch)) : LatchedBy 3 ((chanFault ch trig t s).chan ch) := by
  rw [chanFault_eq]
  simp only [h, if_true]
  exact latch_chan ..

theorem chanFault_no_retries (h : lowFaults (s.chan ch) < 2) (hr : lRetry (limitsOf s ch) ≠ 15)
    (hc : lRetry (limitsOf s ch) ≤ (s.chan ch).retries) : LatchedBy 8 ((chanFault ch trig t s).chan ch) := by
  rw [chanFault_eq]
  simp only [Nat.not_le.2 h, if_false, ne_eq, hr, not_false_eq_true, hc, and_self, if_true]
  exact latch_chan ..

theorem chanFault_retry (h : lowFaults (s.chan ch) < 2)
    (hr : lRetry (limitsOf s ch) = 15 ∨ (s.chan ch).retries < lRetry (limitsOf s ch)) :
    (chanFault ch trig t s).chan ch = { turnedOff 5 t ((faultNoted ch trig s).chan ch) with
      waitUntil := t + max (100 * ms) (32 * faultSpan t (s.chan ch)) } := by
  have hno : ¬ (lRetry (limitsOf s ch) ≠ 15 ∧ lRetry (limitsOf s ch) ≤ (s.chan ch).retries) := by omega
  rw [chanFault_eq]
  simp only [Nat.not_le.2 h, if_false, hno]
  rw [modChan_chan_same, gateOff_chan_same]

/-- After a fault SLOT_PERST_N is asserted and the channel latched or waiting. -/
theorem chanFault_off : ((chanFault ch trig t s).chan ch).perst = true ∧
    (((chanFault ch trig t s).chan ch).state = 5 ∨ ((chanFault ch trig t s).chan ch).state = 6) := by
  by_cases hlow : 2 ≤ lowFaults (s.chan ch)
  · have h := chanFault_twice_low (trig := trig) (t := t) hlow
    exact ⟨h.perst, .inr h.state⟩
  · by_cases hr : lRetry (limitsOf s ch) ≠ 15 ∧ lRetry (limitsOf s ch) ≤ (s.chan ch).retries
    · have h := chanFault_no_retries (trig := trig) (t := t) (Nat.not_le.1 hlow) hr.1 hr.2
      exact ⟨h.perst, .inr h.state⟩
    · rw [chanFault_retry (Nat.not_le.1 hlow) (by omega)]
      exact ⟨rfl, .inl rfl⟩

theorem gateOn_eq_false_of_state {c : Chan} (h : c.state = 5 ∨ c.state = 6) : gateOn c = false := by
  rcases h with h | h <;> simp [gateOn, h]

theorem gateOn_of_state {c : Chan} (h : c.state = 2 ∨ c.state = 3 ∨ c.state = 4) : gateOn c = true := by
  rcases h with h | h | h <;> simp [gateOn, h]

end

/-! ## One tick -/

theorem modChan_modChan (f g : Chan → Chan) (s : State) : ((modChan ch g (modChan ch f s)).chan ch) = g (f (s.chan ch)) := by
  rw [modChan_chan_same, modChan_chan_same]

@[simp] theorem limitsOf_modChan {f : Chan → Chan} (h : (f (s.chan ch)).limits = (s.chan ch).limits) :
    limitsOf (modChan ch f s) ch = limitsOf s ch := by
  rw [limitsOf, modChan_chan_same, h]
  rfl

section
variable {t : Time} {x : SlotSample}

theorem slotTick_off (h : gateOn (s.chan ch) = false) : slotTick ch t x s = s := if_pos (by rw [h]; rfl)

theorem slotTick_fast (h : gateOn (s.chan ch) = true) (hf : (s.chan ch).fast = true) :
    slotTick ch t x s = chanFault ch 3 t (modChan ch (fun c => { c with vmax := max c.vmax x.vout }) s) := by
  unfold slotTick
  simp only [h, hf, Bool.not_true, Bool.false_eq_true, if_false, if_true]

/-- The sense limit in force. -/
def senseLimit (s : State) (ch : Nat) : Nat := if (s.chan ch).state = 2 then lInrush (limitsOf s ch) else lLim (limitsOf s ch)

/-- At or above the limit the timer runs, and a full one is a fault. -/
theorem slotTick_full (h : gateOn (s.chan ch) = true) (hf : (s.chan ch).fast = false) (ha : senseLimit s ch * 100 ≤ x.senseUv)
    (hn : lFault (limitsOf s ch) * 100 ≤ (s.chan ch).timer.getD 0 + 1) :
    ∃ y : State, (y.chan ch).timer = some ((s.chan ch).timer.getD 0 + 1) ∧ slotTick ch t x s = chanFault ch 1 t y := by
  unfold senseLimit at ha
  unfold slotTick
  simp only [h, hf, ha, hn, Bool.not_true, Bool.false_eq_true, if_false, if_true, decide_true, Bool.false_and, Option.map_some]
  exact ⟨_, congrArg Chan.timer (modChan_modChan ..), rfl⟩

/-- Below the limit with an idle timer the ramp and power-good parts follow. -/
theorem slotTick_below (h : gateOn (s.chan ch) = true) (hf : (s.chan ch).fast = false) (ha : x.senseUv < senseLimit s ch * 100)
    (hn : (s.chan ch).timer = none) : ∃ y : State, slotTick ch t x s = tickQualify ch t x (tickRamp ch t x y) ∧
      y.chan ch = { s.chan ch with vmax := max (s.chan ch).vmax x.vout } ∧ limitsOf y ch = limitsOf s ch ∧ dieRec y = dieRec s := by
  unfold senseLimit at ha
  refine ⟨modChan ch (fun c => { c with timer := none, under := (s.chan ch).under })
    (modChan ch (fun c => { c with vmax := max c.vmax x.vout }) s), ?_, ?_, ?_, rfl⟩
  · unfold slotTick
    simp only [h, hf, hn, Nat.not_le.2 ha, Bool.not_true, Bool.not_false, Bool.true_and, Bool.false_eq_true, if_false, decide_false,
      Option.isSome_none, ite_self, Option.map_none]
  · rw [modChan_modChan, ← hn]
  · rw [limitsOf_modChan rfl, limitsOf_modChan rfl]

/-! The ramp. -/

theorem tickRamp_other (h : (s.chan ch).state ≠ 2) : tickRamp ch t x s = s := if_neg h
theorem tickQualify_other (h : (s.chan ch).state ≠ 3) : tickQualify ch t x s = s := if_neg h

/-- The energy integral after a reading. -/
def energyNow (c : Chan) (x : SlotSample) : Nat := c.energy + (x.vin - x.vout) * x.senseUv

theorem tickRamp_goes (h : (s.chan ch).state = 2)
    (he : energyNow (s.chan ch) x ≤ lEnergy (limitsOf s ch) * lSense (limitsOf s ch) * 100000000) (hv : x.vout + 300 < x.vin) :
    tickRamp ch t x s = modChan ch (fun c => { c with energy := energyNow (s.chan ch) x }) s := by
  unfold energyNow at *
  unfold tickRamp
  simp only [h, if_true, Nat.not_lt.2 he, if_false, Nat.not_le.2 hv]

theorem tickRamp_exceeds (h : (s.chan ch).state = 2)
    (he : lEnergy (limitsOf s ch) * lSense (limitsOf s ch) * 100000000 < energyNow (s.chan ch) x) :
    tickRamp ch t x s = chanFault ch 2 t (modChan ch (fun c => { c with energy := energyNow (s.chan ch) x }) s) := by
  unfold energyNow at *
  unfold tickRamp
  simp only [h, if_true, he]

theorem tickRamp_ends (h : (s.chan ch).state = 2)
    (he : energyNow (s.chan ch) x ≤ lEnergy (limitsOf s ch) * lSense (limitsOf s ch) * 100000000) (hv : x.vin ≤ x.vout + 300) :
    tickRamp ch t x s = modChan ch (fun c => { c with state := 3, q := 0 })
      (modChan ch (fun c => { c with energy := energyNow (s.chan ch) x }) s) := by
  unfold energyNow at *
  unfold tickRamp
  simp only [h, if_true, Nat.not_lt.2 he, if_false, hv]

/-! Power-good. -/

/-- The time that power-good has held after a reading. -/
def goodFor (s : State) (ch : Nat) (x : SlotSample) : Nat :=
  if lPg (limitsOf s ch) * 100 ≤ x.vout && (s.chan ch).timer.isNone then (s.chan ch).q + 1 else 0

theorem tickQualify_waits (h : (s.chan ch).state = 3) (hq : goodFor s ch x < rf (dieRec s) 47 41 * 100) :
    tickQualify ch t x s = modChan ch (fun c => { c with q := goodFor s ch x }) s := by
  unfold goodFor at *
  unfold tickQualify
  simp only [h, if_true, Nat.not_le.2 hq, if_false]

/-- Below the power-good threshold the channel keeps waiting. -/
theorem tickQualify_low (h : (s.chan ch).state = 3) (hv : x.vout < lPg (limitsOf s ch) * 100) (hd : 0 < rf (dieRec s) 47 41) :
    ((tickQualify ch t x s).chan ch).state = 3 ∧ ((tickQualify ch t x s).chan ch).q = 0 := by
  have hq : goodFor s ch x = 0 := by
    unfold goodFor
    rw [decide_eq_false (Nat.not_le.2 hv)]
    rfl
  rw [tickQualify_waits h (by rw [hq]; omega), modChan_chan_same]
  exact ⟨h, hq⟩

theorem tickQualify_on (h : (s.chan ch).state = 3) (hq : rf (dieRec s) 47 41 * 100 ≤ goodFor s ch x) :
    tickQualify ch t x s = enterOn ch t (modChan ch (fun c => { c with q := goodFor s ch x }) s) := by
  unfold goodFor at *
  unfold tickQualify
  simp only [h, if_true, hq]

theorem enterOn_chan (ch : Nat) (t : Time) (s : State) : (enterOn ch t s).chan ch =
    { s.chan ch with state := 4, onAt := t, pgSeen := true, tries := 0, lowFails := 0 } := by
  unfold enterOn
  dsimp only
  rw [settleCad_chan]
  split
  · rw [slotEvent_chan, modChanAux_chan, modPins_chan_same]
  · rw [modChanAux_chan, modPins_chan_same]

end

/-! ## The ticks of a stretch of readings -/

/-- The tick of a reading, counted from a time on. -/
def tickFrom (ch : Nat) (t : Time) (e : SlotSample × Nat) : State → State := slotTick ch (t + e.2 * us) e.1

theorem slotTicks_eq (x : SlotSample) (n k : Nat) (t : Time) (s : State) :
    slotTicks ch x n (t + k * us) s = (forAll ((List.replicate n x).zipIdx k) (tickFrom ch t) s, t + (k + n) * us) := by
  induction n generalizing k s with
  | zero => rfl
  | succ n ih =>
    have hnext : t + k * us + us = t + (k + 1) * us := by rw [Nat.add_mul, one_mul, Nat.add_assoc]
    rw [slotTicks, hnext, ih, List.replicate_succ, List.zipIdx_cons, forAll_cons, tickFrom, Nat.add_right_comm k 1 n, Nat.add_assoc k n 1]

/-- The readings of a stretch, one per tick. -/
def readings (xs : List SlotSample) : List SlotSample := xs.flatMap fun x => List.replicate x.ticks x

theorem foldl_slotTicks_eq (xs : List SlotSample) (k : Nat) (t : Time) (s : State) :
    xs.foldl (fun (a : State × Time) x => slotTicks ch x x.ticks a.2 a.1) (s, t + k * us) =
      (forAll ((readings xs).zipIdx k) (tickFrom ch t) s, t + (k + (readings xs).length) * us) := by
  induction xs generalizing k s with
  | nil => rfl
  | cons x xs ih =>
    have hcons : readings (x :: xs) = List.replicate x.ticks x ++ readings xs := List.flatMap_cons ..
    rw [List.foldl_cons, slotTicks_eq, ih, hcons, List.zipIdx_append, forAll_append, List.length_append, List.length_replicate,
      Nat.add_assoc k]

theorem readings_length (xs : List SlotSample) : (readings xs).length = (xs.map (·.ticks)).sum := by
  simp [readings, List.length_flatMap]

theorem runTicks_eq (ch : Nat) (xs : List SlotSample) (s : State) : runTicks ch xs s =
    if s.slot.inReset then s
    else forAll (readings xs).zipIdx (tickFrom ch (s.now - (readings xs).length * us + us)) s := by
  unfold runTicks
  rw [readings_length]
  split
  · rfl
  · have h := foldl_slotTicks_eq (ch := ch) xs 0 (s.now - (xs.map (·.ticks)).sum * us + us) s
    rw [Nat.zero_mul, Nat.add_zero] at h
    exact congrArg Prod.fst h

end

end Sys2Proof.Machine

namespace Sys2Proof

open Machine

/-- The events that end a stretch run its ticks. -/
theorem slotStretch_gives (s : State) (dt : Time) (ch : Nat) (xs : List SlotSample) (hch : ch < 64) :
    ∀ c ∈ [Instr.slotFaultTimerExpiry dt ch xs, .slotEnergyExceeded dt ch xs, .slotRampDone dt ch xs, .slotPowerGoodQualify dt ch xs],
      Gives c s (runTicks ch xs (advance dt s)) := by
  have hok : okChan ch = true := decide_eq_true hch
  have hrun : run dt (okChan ch) (runTicks ch xs) s = .next { runTicks ch xs (advance dt s) with pending := s.pending } :=
    run_gives hok rfl
  simp only [List.forall_mem_cons, List.not_mem_nil, false_imp_iff, implies_true, and_true]
  exact ⟨hrun, hrun, hrun, hrun⟩

/-- Settles O40. -/
theorem slotTicksAndFaults : Obligations.SlotTicksAndFaults := by
  refine ⟨?events, ?tick, ?fault⟩
  case events =>
    intro s dt ch xs a rs ticks hch
    refine ⟨fun c hc => ?_, fun h => run_gives (decide_eq_true hch) (if_neg (by rw [h]; nofun)), ?_⟩
    · have h := slotStretch_gives s dt ch xs hch c hc
      rw [runTicks_eq] at h
      refine ⟨fun hr => ?_, fun hr => ?_⟩
      · rwa [hr] at h
      · rwa [hr] at h
    · intro h b
      exact run_gives (decide_eq_true hch) ((if_pos h).trans (runTicks_eq ..))
  case tick =>
    intro s ch t x c r after
    have below2 (hs : c.state = 2) (hf : c.fast = false) (ha : x.senseUv < lInrush r * 100) (hn : c.timer = none) :=
      slotTick_below (t := t) (gateOn_of_state (.inl hs)) hf (by rwa [senseLimit, if_pos hs]) hn
    have below3 (hs : c.state = 3) (hf : c.fast = false) (ha : x.senseUv < lLim r * 100) (hn : c.timer = none) :=
      slotTick_below (t := t) (gateOn_of_state (.inr (.inl hs))) hf (by rwa [senseLimit, if_neg (hs.symm ▸ by decide)]) hn
    refine ⟨slotTick_off, slotTick_fast, slotTick_full, ?ramp, ?energy, ?rampEnd, ?good, ?notGood⟩
    case ramp =>
      intro hs hf ha hn hv he
      obtain ⟨y, hy, hc, hr, -⟩ := below2 hs hf ha hn
      have hstate : (y.chan ch).state = 2 := by rw [hc]; exact hs
      have henergy : energyNow (y.chan ch) x = energyNow c x := by rw [hc]; rfl
      have hramp := tickRamp_goes (t := t) hstate (by rw [henergy, hr]; exact he) hv
      have hafter : after = modChan ch (fun k => { k with energy := energyNow (y.chan ch) x }) y := by
        rw [show after = _ from hy, hramp, tickQualify_other (by rw [modChan_chan_same]; exact hstate ▸ by decide)]
      rw [hafter, modChan_chan_same]
      exact ⟨hstate, henergy⟩
    case energy =>
      intro hs hf ha hn he
      obtain ⟨y, hy, hc, hr, -⟩ := below2 hs hf ha hn
      have hstate : (y.chan ch).state = 2 := by rw [hc]; exact hs
      have henergy : energyNow (y.chan ch) x = energyNow c x := by rw [hc]; rfl
      have hramp := tickRamp_exceeds (t := t) hstate (by rw [henergy, hr]; exact he)
      refine ⟨modChan ch (fun k => { k with energy := energyNow (y.chan ch) x }) y, ?_, ?_⟩
      · rw [modChan_chan_same]
        exact henergy
      · have hoff := (chanFault_off (ch := ch) (trig := 2) (t := t)
          (s := modChan ch (fun k => { k with energy := energyNow (y.chan ch) x }) y)).2
        rw [show after = _ from hy, hramp, tickQualify_other (by omega)]
    case rampEnd =>
      intro hs hf ha hn he hv hpg hdie
      obtain ⟨y, hy, hc, hr, hd⟩ := below2 hs hf ha hn
      have hstate : (y.chan ch).state = 2 := by rw [hc]; exact hs
      have henergy : energyNow (y.chan ch) x = energyNow c x := by rw [hc]; rfl
      have hramp := tickRamp_ends (t := t) hstate (by rw [henergy, hr]; exact he) hv
      rw [show after = _ from hy, hramp]
      exact tickQualify_low (by rw [modChan_chan_same]) (by rw [limitsOf_modChan rfl, limitsOf_modChan rfl, hr]; exact hpg)
        (hd ▸ hdie)
    case good =>
      intro hs hf ha hn hpg
      obtain ⟨y, hy, hc, hr, hd⟩ := below3 hs hf ha hn
      have hstate : (y.chan ch).state = 3 := by rw [hc]; exact hs
      have hgood : goodFor y ch x = c.q + 1 := by
        have htimer : (y.chan ch).timer = none := by rw [hc]; exact hn
        have hq : (y.chan ch).q = c.q := by rw [hc]
        rw [goodFor, hr, htimer, hq, decide_eq_true hpg]
        rfl
      rw [show after = _ from hy, tickRamp_other (by rw [hstate]; decide)]
      refine ⟨fun hq => ?_, fun hq => ?_⟩
      · rw [tickQualify_waits hstate (by rw [hgood, hd]; exact hq), modChan_chan_same]
        exact ⟨hstate, hgood⟩
      · rw [tickQualify_on hstate (by rw [hgood, hd]; exact hq), enterOn_chan]
        exact ⟨rfl, rfl, rfl⟩
    case notGood =>
      intro hs hf ha hn hpg hdie
      obtain ⟨y, hy, hc, hr, hd⟩ := below3 hs hf ha hn
      have hstate : (y.chan ch).state = 3 := by rw [hc]; exact hs
      rw [show after = _ from hy, tickRamp_other (by rw [hstate]; decide)]
      exact tickQualify_low hstate (hr ▸ hpg) (hd ▸ hdie)
  case fault =>
    intro s ch trig t c r after low span hon
    obtain ⟨hperst, hstate⟩ := chanFault_off (ch := ch) (s := s) (trig := trig) (t := t)
    refine ⟨hperst, gateOn_eq_false_of_state hstate, fun h => ?low, fun h hr hc => ?noRetry, fun h hr => ?retry⟩
    case low => exact ⟨(chanFault_twice_low h).state, (chanFault_twice_low h).code⟩
    case noRetry => exact ⟨(chanFault_no_retries h hr hc).state, (chanFault_no_retries h hr hc).code⟩
    case retry =>
      have hafter : after = _ := chanFault_retry h hr
      rw [hafter]
      exact ⟨rfl, rfl, faultNoted_lastFault ..⟩

end Sys2Proof

/-! # Channel events, requests, samples and the inrush budget (R341 to R353) -/

namespace Sys2Proof.Machine

section
variable {s : State} {ch : Nat}

theorem since_eq_true {u d : Time} (h : u + d ≤ s.now) : s.since u d = true := decide_eq_true h

/-- A condition of a truth value and of a moment that has not come. -/
theorem not_and_since {b : Bool} {u d : Time} (h : b = false ∨ s.now < u + d) : ¬ (b && s.since u d) = true := by
  rcases h with rfl | h
  · nofun
  · rw [since_eq_false h, Bool.and_false]
    nofun

theorem gateWasOn_iff : gateWasOn s ch = true ↔
    gateOn (s.chan ch) = true ∨ ((s.chan ch).state = 5 ∨ (s.chan ch).state = 6) ∧ (s.chan ch).offAt / us = s.now / us := by
  simp [gateWasOn, slotUs]

/-! ## Timed events -/

theorem releasePerst_due (hon : (s.chan ch).state = 4) (hms : (s.chan ch).onAt + 100 * ms ≤ s.now) (hfwd : perstForwarded s ch = false) :
    releasePerst ch s = modPins ch (fun c => { c with perst := false }) s :=
  if_pos (by simp only [hon, since_eq_true hms, hfwd, decide_true]; rfl)

theorem releasePerst_not (h : (s.chan ch).state ≠ 4 ∨ s.now < (s.chan ch).onAt + 100 * ms ∨ perstForwarded s ch = true) :
    releasePerst ch s = s := by
  refine if_neg ?_
  simp only [Bool.and_eq_true, decide_eq_true_eq, Bool.not_eq_true', since_iff]
  rintro ⟨⟨hon, hms⟩, hfwd⟩
  rcases h with h | h | h
  · exact h hon
  · exact absurd hms (Nat.not_le.2 h)
  · exact Bool.false_ne_true (hfwd.symm.trans h)

/-- The FET_SHORT check of an output voltage (R343). -/
def fetShortChecked (ch vout : Nat) (s : State) : State :=
  if 500 < vout then unusable ch 4 s else modChan ch (fun c => { c with checked := true }) s

/-- DISCHARGE_END's check. -/
def dischargeChecked (ch vout : Nat) (s : State) : State :=
  if (s.chan ch).checkDue && s.since (s.chan ch).offAt (10 * ms) then
    fetShortChecked ch vout (modChan ch (fun c => { c with checkDue := false }) s)
  else s

theorem dischargeChecked_due {vout : Nat} (hdue : (s.chan ch).checkDue = true) (hms : (s.chan ch).offAt + 10 * ms ≤ s.now) :
    dischargeChecked ch vout s = fetShortChecked ch vout (modChan ch (fun c => { c with checkDue := false }) s) :=
  if_pos (Bool.and_eq_true_iff.2 ⟨hdue, since_eq_true hms⟩)

theorem dischargeChecked_not {vout : Nat} (h : (s.chan ch).checkDue = false ∨ s.now < (s.chan ch).offAt + 10 * ms) :
    dischargeChecked ch vout s = s := if_neg (not_and_since h)

/-- STARTUP_FET_SHORT_CHECK's check. -/
def startChecked (ch vout : Nat) (s : State) : State :=
  if (s.chanAux ch).startCheck && !s.slot.inReset && s.since s.slot.startedAt (10 * ms) then
    fetShortChecked ch vout (modChanAux ch (fun a => { a with startCheck := false }) s)
  else s

theorem startChecked_due {vout : Nat} (hdue : (s.chanAux ch).startCheck = true) (hrun : s.slot.inReset = false)
    (hms : s.slot.startedAt + 10 * ms ≤ s.now) :
    startChecked ch vout s = fetShortChecked ch vout (modChanAux ch (fun a => { a with startCheck := false }) s) :=
  if_pos (by rw [hdue, hrun, since_eq_true hms]; rfl)

theorem startChecked_not {vout : Nat} (h : (s.chanAux ch).startCheck = false ∨ s.slot.inReset = true ∨ s.now < s.slot.startedAt + 10 * ms) :
    startChecked ch vout s = s := by
  refine if_neg (not_and_since ?_)
  rcases h with h | h | h
  · exact .inl (by rw [h]; rfl)
  · exact .inl (by rw [h, Bool.not_true, Bool.and_false])
  · exact .inr h

/-- SPIN_HOLD_EXPIRY's release. -/
def spinHeld (ch : Nat) (s : State) : State := match (s.chanAux ch).onSince with
  | some t =>
    if s.since t (rf (slotRec s 0x4A ch) 15 8 * 100 * ms) then modChanAux ch (fun a => { a with granted := false }) s else s
  | none => s

theorem spinHeld_none (h : (s.chanAux ch).onSince = none) : spinHeld ch s = s := by
  rw [spinHeld, h]

theorem spinHeld_expired {t : Time} (h : (s.chanAux ch).onSince = some t) (ht : t + rf (slotRec s 0x4A ch) 15 8 * 100 * ms ≤ s.now) :
    spinHeld ch s = modChanAux ch (fun a => { a with granted := false }) s := by
  rw [spinHeld, h]
  exact if_pos (since_eq_true ht)

theorem spinHeld_early {t : Time} (h : (s.chanAux ch).onSince = some t) (ht : s.now < t + rf (slotRec s 0x4A ch) 15 8 * 100 * ms) :
    spinHeld ch s = s := by
  rw [spinHeld, h]
  exact if_neg (by rw [since_eq_false ht]; nofun)

/-- RETRY_COUNT_CLEAR's effect. -/
def retriesCleared (ch : Nat) (s : State) : State :=
  if (s.chan ch).state = 4 && s.since (s.chan ch).onAt oneSec then modChan ch (fun c => { c with retries := 0 }) s else s

theorem retriesCleared_due (hon : (s.chan ch).state = 4) (hsec : (s.chan ch).onAt + oneSec ≤ s.now) :
    retriesCleared ch s = modChan ch (fun c => { c with retries := 0 }) s :=
  if_pos (Bool.and_eq_true_iff.2 ⟨decide_eq_true hon, since_eq_true hsec⟩)

theorem retriesCleared_not (h : (s.chan ch).state ≠ 4 ∨ s.now < (s.chan ch).onAt + oneSec) : retriesCleared ch s = s :=
  if_neg (not_and_since (h.imp_left decide_eq_false))

/-! ## Requests -/

/-- A request of an unnamed requester has acted: Command Completed sets if it was accepted. -/
def hostAnswered (ch : Nat) (x : Bool × State) : State := match slotPort x.2 ch with
  | some p => onlyIf x.1 (noteStatus p (fun a => { a with cmdDone := true })) x.2
  | none => x.2

/-- Power Controller Control after an action. -/
def powerControlShown (ch act : Nat) (x : Bool × State) : State := match slotPort x.2 ch with
  | some p => if x.1 && decide (act < 2) then modAux p (fun a => { a with powerOff := act == 1 }) x.2 else x.2
  | none => x.2

/-- SLOT_POWER of a mailbox completes. -/
def slotPowerEnded (ch mb : Nat) (ok : Bool) (s : State) : State :=
  finishWait mb waitSlot (if ok then stOk else stDenied) ok [chStatus s ch] s

/-- SLOT_COMMAND_ACCEPTED takes the oldest request of a channel. -/
def requestAccepted (ch : Nat) (s : State) : State :=
  if !slotUp s then s
  else match (s.chanAux ch).requests with
    | [] => s
    | (act, who) :: rest =>
      let x := slotAction act ch (modChanAux ch (fun a => { a with requests := rest }) s)
      match who with
      | none => hostAnswered ch x
      | some mb => slotPowerEnded ch mb x.1 (powerControlShown ch act x)

theorem requestAccepted_none (h : slotUp s = false ∨ (s.chanAux ch).requests = []) : requestAccepted ch s = s := by
  rcases h with h | h
  · exact if_pos (by rw [h]; rfl)
  · rw [requestAccepted, h]
    exact ite_self _

theorem requestAccepted_host {act : Nat} {rest : List (Nat × Option Nat)} (hup : slotUp s = true)
    (h : (s.chanAux ch).requests = (act, none) :: rest) :
    requestAccepted ch s = hostAnswered ch (slotAction act ch (modChanAux ch (fun a => { a with requests := rest }) s)) := by
  rw [requestAccepted, h, hup]
  rfl

theorem requestAccepted_mailbox {act mb : Nat} {rest : List (Nat × Option Nat)} (hup : slotUp s = true)
    (h : (s.chanAux ch).requests = (act, some mb) :: rest) :
    requestAccepted ch s = (let x := slotAction act ch (modChanAux ch (fun a => { a with requests := rest }) s)
      slotPowerEnded ch mb x.1 (powerControlShown ch act x)) := by
  rw [requestAccepted, h, hup]
  rfl

section
variable {x : Bool × State}

theorem hostAnswered_port {p : Nat} (hp : slotPort x.2 ch = some p) (hok : x.1 = true) :
    hostAnswered ch x = noteStatus p (fun a => { a with cmdDone := true }) x.2 := by
  rw [hostAnswered, hp, hok]
  rfl

theorem hostAnswered_not (h : slotPort x.2 ch = none ∨ x.1 = false) : hostAnswered ch x = x.2 := by
  rcases hp : slotPort x.2 ch with _ | p
  · rw [hostAnswered, hp]
  · have hok : x.1 = false := h.resolve_left fun hno => Option.some_ne_none p (hp.symm.trans hno)
    rw [hostAnswered, hp, hok]
    rfl

theorem powerControlShown_port {act p : Nat} (hp : slotPort x.2 ch = some p) (hok : x.1 = true) (hact : act < 2) :
    powerControlShown ch act x = modAux p (fun a => { a with powerOff := act == 1 }) x.2 := by
  rw [powerControlShown, hp]
  exact if_pos (by rw [hok, decide_eq_true hact]; rfl)

theorem powerControlShown_not {act : Nat} (h : slotPort x.2 ch = none ∨ x.1 = false ∨ 2 ≤ act) :
    powerControlShown ch act x = x.2 := by
  rcases hp : slotPort x.2 ch with _ | p
  · rw [powerControlShown, hp]
  · rw [powerControlShown, hp]
    refine if_neg fun hboth => ?_
    obtain ⟨hok, hact⟩ := Bool.and_eq_true_iff.1 hboth
    rcases h with h | h | h
    · exact Option.some_ne_none p (hp.symm.trans h)
    · exact Bool.false_ne_true (h.symm.trans hok)
    · exact Nat.not_lt.2 h (of_decide_eq_true hact)

end

/-! ## Presence -/

/-- What the host sees of a change of presence. -/
def presenceSeen (ch : Nat) (s : State) : State := if slotUp s then presenceShown ch s else s

/-- The card is back. -/
def backIn (ch : Nat) (s : State) : State := modChan ch (fun c => { c with present := true, absentSince := none }) s
/-- The card is gone. -/
def takenOut (ch : Nat) (s : State) : State := modChan ch (fun c => { c with present := false, absentSince := some s.now }) s

theorem presenceChange_same {on : Bool} (h : (s.chan ch).present = on) : presenceChange ch on s = s :=
  if_pos (beq_iff_eq.2 h)

/-- A card has been absent for 1 ms. -/
def longAway (ch : Nat) (s : State) : Bool := match (s.chan ch).absentSince with
  | some t => s.since t ms
  | none => false

theorem presenceChange_back (h : (s.chan ch).present = false) :
    presenceChange ch true s = presenceSeen ch (if longAway ch s then unlatch ch (backIn ch s) else backIn ch s) :=
  if_neg (by rw [h]; decide)

theorem longAway_of_some {t : Time} (ht : (s.chan ch).absentSince = some t) (hms : t + ms ≤ s.now) : longAway ch s = true := by
  rw [longAway, ht]
  exact since_eq_true hms

theorem not_longAway (ht : (s.chan ch).absentSince = none ∨ ∃ t, (s.chan ch).absentSince = some t ∧ s.now < t + ms) :
    longAway ch s = false := by
  rcases ht with ht | ⟨t, ht, hms⟩ <;> rw [longAway, ht]
  exact since_eq_false hms

theorem presenceChange_back_late {t : Time} (h : (s.chan ch).present = false) (ht : (s.chan ch).absentSince = some t)
    (hms : t + ms ≤ s.now) : presenceChange ch true s = presenceSeen ch (unlatch ch (backIn ch s)) :=
  (presenceChange_back h).trans (congrArg (presenceSeen ch) (if_pos (longAway_of_some ht hms)))

theorem presenceChange_back_early (h : (s.chan ch).present = false)
    (ht : (s.chan ch).absentSince = none ∨ ∃ t, (s.chan ch).absentSince = some t ∧ s.now < t + ms) :
    presenceChange ch true s = presenceSeen ch (backIn ch s) :=
  (presenceChange_back h).trans (congrArg (presenceSeen ch) (if_neg (ne_true_of_eq_false (not_longAway ht))))

theorem presenceChange_out (h : (s.chan ch).present = true) : presenceChange ch false s =
    presenceSeen ch (if lPresOff (limitsOf s ch) then requestOff ch (takenOut ch s) else takenOut ch s) := by
  have hlim : limitsOf (takenOut ch s) ch = limitsOf s ch := limitsOf_modChan rfl
  rw [← hlim]
  exact if_neg (by rw [h]; decide)

/-! ## Samples -/

/-- A sample of a channel is taken. -/
def channelSampled (ch i v : Nat) (s : State) : State :=
  let on := (s.chan ch).state == 4
  modChanAux ch (fun x => { x with
    iNow := i, voutNow := v, iPeak := max x.iPeak i
    voutMin := if on then lowest x.minRead x.voutMin v else x.voutMin, minRead := x.minRead && !on }) s

/-- A sample of a feed is taken. -/
def feedSampled (b : Bool) (i v : Nat) (s : State) : State :=
  settleFeeds (modFeed b (fun f => { f with
    iNow := i, vNow := v, iPeak := max f.iPeak i, vMin := lowest f.minRead f.vMin v, minRead := false }) s)

theorem channelSampled_eq {i v : Nat} : channelSampled ch i v s = modChanAux ch (fun x => { x with
    iNow := i, voutNow := v, iPeak := max x.iPeak i
    voutMin := if (s.chan ch).state = 4 then (if x.minRead then v else min x.voutMin v) else x.voutMin
    minRead := x.minRead && (s.chan ch).state != 4 }) s := by
  refine congrArg (fun f => modChanAux ch f s) (funext fun x => ?_)
  have hmin : (if ((s.chan ch).state == 4) = true then lowest x.minRead x.voutMin v else x.voutMin) =
      if (s.chan ch).state = 4 then (if x.minRead then v else min x.voutMin v) else x.voutMin := if_congr beq_iff_eq rfl rfl
  rw [hmin]
  rfl

/-! ## The inrush budget -/

/-- The inrush queue is served. -/
def inrushGranted (s : State) : State := if s.slot.inReset then s else grantInrush 64 s

theorem grantInrush_fits {n : Nat} (h : inrushHead s (inrushQueue s) = some ch)
    (hfit : 10 * (chargesHeld s + inrushCharge (slotRec s 0x48 ch)) ≤ rf (dieRec s) 63 48 * senseScale) :
    grantInrush (n + 1) s = grantInrush n (enterRamp ch s) := by
  rw [grantInrush, h]
  exact if_pos hfit

theorem grantInrush_full {n : Nat} (h : inrushHead s (inrushQueue s) = some ch)
    (hfull : rf (dieRec s) 63 48 * senseScale < 10 * (chargesHeld s + inrushCharge (slotRec s 0x48 ch))) :
    grantInrush (n + 1) s = s := by
  rw [grantInrush, h]
  exact if_neg (Nat.not_le.2 hfull)

end

end Sys2Proof.Machine

namespace Sys2Proof

open Machine

section
variable {s : State} {dt : Time} {ch : Nat}

section
variable (h : ch < 64)
include h

/-! The commands of one channel, after their time. -/

theorem dischargeEnd_gives {vout : Nat} : Gives (.dischargeEnd dt ch vout) s (dischargeChecked ch vout (advance dt s)) :=
  Gives.of_run (f := dischargeChecked ch vout) rfl (decide_eq_true h) rfl

theorem startupFetShortCheck_gives {vout : Nat} : Gives (.startupFetShortCheck dt ch vout) s (startChecked ch vout (advance dt s)) :=
  Gives.of_run (f := startChecked ch vout) rfl (decide_eq_true h) rfl

theorem spinHoldExpiry_gives : Gives (.spinHoldExpiry dt ch) s (spinHeld ch (advance dt s)) :=
  Gives.of_run (f := spinHeld ch) rfl (decide_eq_true h) rfl

theorem retryCountClear_gives : Gives (.retryCountClear dt ch) s (retriesCleared ch (advance dt s)) :=
  Gives.of_run (f := retriesCleared ch) rfl (decide_eq_true h) rfl

theorem slotPerstRelease_gives : Gives (.slotPerstRelease dt ch) s (releasePerst ch (advance dt s)) :=
  Gives.of_run (f := releasePerst ch) rfl (decide_eq_true h) rfl

theorem presenceChange_gives {on : Bool} : Gives (.presenceChange dt ch on) s (presenceChange ch on (advance dt s)) :=
  Gives.of_run (f := presenceChange ch on) rfl (decide_eq_true h) rfl

theorem slotCommandAccepted_gives : Gives (.slotCommandAccepted dt ch) s (requestAccepted ch (advance dt s)) :=
  Gives.of_run (f := requestAccepted ch) rfl (decide_eq_true h) rfl

theorem adcSample_gives {sense vout : Nat} :
    Gives (.adcSample dt ch sense vout) s (channelSampled ch (min 4095 sense) (min 4095 vout) (advance dt s)) :=
  Gives.of_run (f := fun s => if ch < 64 then channelSampled ch (min 4095 sense) (min 4095 vout) s
    else feedSampled (ch == 65) (min 4095 sense) (min 4095 vout) s) rfl (decide_eq_true (Nat.lt_of_lt_of_le h (by decide))) (if_pos h)

end

theorem adcSample_feed {b : Bool} {sense vout : Nat} : Gives (.adcSample dt (if b then 65 else 64) sense vout) s
    (feedSampled b (min 4095 sense) (min 4095 vout) (advance dt s)) := by
  cases b
  · exact Gives.of_run (f := feedSampled false (min 4095 sense) (min 4095 vout)) rfl rfl rfl
  · exact Gives.of_run (f := feedSampled true (min 4095 sense) (min 4095 vout)) rfl rfl rfl

/-- The inrush queue is served outside the slot die's reset. -/
theorem inrushGrant_gives : Gives (.inrushGrant dt) s (inrushGranted (advance dt s)) ∧
    Gives (.arbiterGrant dt 193) s (inrushGranted (advance dt s)) :=
  ⟨Gives.of_run (f := inrushGranted) rfl rfl rfl, Gives.of_run (f := inrushGranted) rfl rfl rfl⟩

end

section
variable {dt : Time} {s : State} {ch : Nat}

/-- An effect that a command gives, under another name. -/
theorem Gives.of_eq {c : Instr} {t u : State} (h : Gives c s t) (e : t = u) : Gives c s u := e ▸ h

end

/-- Settles O41: each event is its effect when its guard holds and nothing otherwise. -/
theorem slotChannelsAndInrush : Obligations.SlotChannelsAndInrush := by
  refine ⟨?timed, ?asked, fun s n ch h => ⟨grantInrush_fits h, grantInrush_full h⟩⟩
  case timed =>
    intro s dt ch vout a c hch
    have hok : okChan ch = true := decide_eq_true hch
    refine ⟨fun h1 h2 => run_gives hok (if_pos ⟨h1, h2⟩), fun h => run_gives hok (if_neg fun k => h.elim (· k.1) (· k.2)),
      fun h1 h2 h3 => (slotPerstRelease_gives hch).of_eq (releasePerst_due h1 h2 h3),
      fun h => (slotPerstRelease_gives hch).of_eq (releasePerst_not h),
      fun h1 h2 => run_gives hok (if_pos ⟨h1, h2⟩),
      fun h => run_gives hok (if_neg fun k => h.elim (· k.1) (fun h => absurd k.2 (Nat.not_le.2 h))), ?discharge,
      fun h => (dischargeEnd_gives hch).of_eq (dischargeChecked_not h), fun h => run_gives hok (if_pos (gateWasOn_iff.2 h)), ?stuckNot,
      ?leak, ?leakNot, fun h1 h2 => (retryCountClear_gives hch).of_eq (retriesCleared_due h1 h2),
      fun h => (retryCountClear_gives hch).of_eq (retriesCleared_not h),
      ?spin,
      fun h => (spinHoldExpiry_gives hch).of_eq (spinHeld_none h), ?startup,
      fun h => (startupFetShortCheck_gives hch).of_eq (startChecked_not h)⟩
    case discharge =>
      intro h1 h2 b
      exact ⟨fun hv => (dischargeEnd_gives hch).of_eq ((dischargeChecked_due h1 h2).trans (if_pos hv)),
        fun hv => (dischargeEnd_gives hch).of_eq ((dischargeChecked_due h1 h2).trans (if_neg (Nat.not_lt.2 hv)))⟩
    case stuckNot =>
      intro h1 h2
      refine run_gives hok (if_neg fun k => ?_)
      rcases gateWasOn_iff.1 k with k | ⟨k, hat⟩
      · exact Bool.false_ne_true (h1.symm.trans k)
      · exact h2.elim (fun h2 => k.elim h2.1 h2.2) (· hat)
    case leak =>
      intro h1 h2 h3
      refine run_gives hok (if_pos ?_)
      rw [h1, h2, bne_iff_ne.2 h3]
      rfl
    case leakNot =>
      intro h
      refine run_gives hok (if_neg ?_)
      simp only [Bool.and_eq_true, Bool.not_eq_true', bne_iff_ne]
      rintro ⟨⟨h1, h2⟩, h3⟩
      rcases h with h | h | h
      · exact Bool.false_ne_true (h1.symm.trans h)
      · exact Bool.false_ne_true (h.symm.trans h2)
      · exact h3 h
    case spin =>
      intro t ht expiry
      exact ⟨fun h => (spinHoldExpiry_gives hch).of_eq (spinHeld_expired ht h),
        fun h => (spinHoldExpiry_gives hch).of_eq (spinHeld_early ht h)⟩
    case startup =>
      intro h1 h2 h3 b
      exact ⟨fun hv => (startupFetShortCheck_gives hch).of_eq ((startChecked_due h1 h2 h3).trans (if_pos hv)),
        fun hv => (startupFetShortCheck_gives hch).of_eq ((startChecked_due h1 h2 h3).trans (if_neg (Nat.not_lt.2 hv)))⟩
  case asked =>
    intro s dt ch a c hch
    refine ⟨?request, fun h => (slotCommandAccepted_gives hch).of_eq (requestAccepted_none h), ?presence,
      fun h => ?served, fun h => ?held, ?sample⟩
    case request =>
      intro act who rest hup hreq x answered
      refine ⟨?mailbox, ?host⟩
      case mailbox =>
        rintro mb rfl
        have hgives := (slotCommandAccepted_gives (dt := dt) hch).of_eq (requestAccepted_mailbox hup hreq)
        exact ⟨fun p hp hx hact => hgives.of_eq (congrArg (slotPowerEnded ch mb x.1) (powerControlShown_port hp hx hact)),
          fun hno => hgives.of_eq (congrArg (slotPowerEnded ch mb x.1) (powerControlShown_not hno))⟩
      case host =>
        rintro rfl
        have hgives := (slotCommandAccepted_gives (dt := dt) hch).of_eq (requestAccepted_host hup hreq)
        exact ⟨fun p hp hx => hgives.of_eq (hostAnswered_port hp hx), fun hno => hgives.of_eq (hostAnswered_not hno)⟩
    case presence =>
      intro shown on off
      have hchange : ∀ {b : Bool} {t : State}, presenceChange ch b a = t → Gives (.presenceChange dt ch b) s t :=
        fun e => (presenceChange_gives hch).of_eq e
      exact ⟨fun h => hchange (presenceChange_same h), fun h => hchange (presenceChange_same h),
        fun h t ht hms => hchange (presenceChange_back_late h ht hms), fun h ht => hchange (presenceChange_back_early h ht),
        fun h hoff => hchange ((presenceChange_out h).trans (congrArg (presenceSeen ch) (if_pos hoff))),
        fun h hoff => hchange ((presenceChange_out h).trans
          (congrArg (presenceSeen ch) (if_neg (ne_true_of_eq_false hoff))))⟩
    case served =>
      have hserve : inrushGranted a = grantInrush 64 a := if_neg (ne_true_of_eq_false h)
      exact ⟨inrushGrant_gives.1.of_eq hserve, inrushGrant_gives.2.of_eq hserve⟩
    case held =>
      have hserve : inrushGranted a = a := if_pos h
      exact ⟨inrushGrant_gives.1.of_eq hserve, inrushGrant_gives.2.of_eq hserve⟩
    case sample =>
      intro sense vout i v
      exact ⟨(adcSample_gives hch).of_eq channelSampled_eq, fun b => adcSample_feed⟩

end Sys2Proof

/-! # Feeds and the slot die's resets (R350, R351, R354, R528) -/

namespace Sys2Proof.Machine

section
variable {s : State}

/-! ## The feeds follow their inputs -/

/-- The state of a feed's transistor beside the other feed (Table 11.8). -/
def feedStateOf (f g : Feed) : Nat := if f.lost then 0 else if !conducts f g then 1 else if conducts g f then 3 else 2

theorem onlyIf_emit_slot (b : Bool) (o : Out) (s : State) : (onlyIf b (emit o) s).slot = s.slot := by cases b <;> rfl
theorem onlyIf_emit_now (b : Bool) (o : Out) (s : State) : (onlyIf b (emit o) s).now = s.now := by cases b <;> rfl

theorem feedGateTo_slot (b : Bool) (old new : Nat) (s : State) : (feedGateTo b old new s).slot = s.slot := onlyIf_emit_slot ..
theorem feedGateTo_now (b : Bool) (old new : Nat) (s : State) : (feedGateTo b old new s).now = s.now := onlyIf_emit_now ..

theorem settleFeeds_slot (s : State) : (settleFeeds s).slot = { s.slot with
    feedA := { s.slot.feedA with fstate := feedStateOf s.slot.feedA s.slot.feedB }
    feedB := { s.slot.feedB with fstate := feedStateOf s.slot.feedB s.slot.feedA } } := by
  rw [settleFeeds, feedGateTo_slot, feedGateTo_slot]
  rfl

theorem settleFeeds_now (s : State) : (settleFeeds s).now = s.now := by
  rw [settleFeeds, feedGateTo_now, feedGateTo_now]
  rfl

theorem settleFeeds_feed (s : State) (b : Bool) : (settleFeeds s).feed b =
    { s.feed b with fstate := feedStateOf (s.feed b) (s.feed (!b)) } := by
  rw [State.feed, settleFeeds_slot]
  cases b <;> rfl

theorem modFeed_feed_same (s : State) (b : Bool) (f : Feed → Feed) : (modFeed b f s).feed b = f (s.feed b) := by cases b <;> rfl
theorem modFeed_now (s : State) (b : Bool) (f : Feed → Feed) : (modFeed b f s).now = s.now := by cases b <;> rfl

section
variable {f g : Feed}

theorem feedReady_lost (h : feedReady f = true) : f.lost = false := by
  rw [feedReady, Bool.and_eq_true, Bool.not_eq_true'] at h
  exact h.1

theorem feedStateOf_lost (h : f.lost = true) : feedStateOf f g = 0 := if_pos h

theorem feedStateOf_reversed (hl : f.lost = false) (hr : f.reversed = true) : feedStateOf f g = 1 := by
  simp [feedStateOf, conducts, feedReady, hl, hr]

theorem feedStateOf_alone (hf : feedReady f = true) (hg : feedReady g = false) : feedStateOf f g = 2 := by
  simp [feedStateOf, conducts, feedReady_lost hf, hf, hg]

/-- Of two ready feeds both conduct within 50 mV of each other, and otherwise the higher one. -/
theorem feedStateOf_both (hf : feedReady f = true) (hg : feedReady g = true) : feedStateOf f g =
    if 50 < 4 * (g.vNow - f.vNow) then 1 else if 50 < 4 * (f.vNow - g.vNow) then 2 else 3 := by
  by_cases hlow : 50 < 4 * (g.vNow - f.vNow)
  · simp [feedStateOf, conducts, feedReady_lost hf, hf, hg, hlow]
  · by_cases hhigh : 50 < 4 * (f.vNow - g.vNow) <;> simp [feedStateOf, conducts, feedReady_lost hf, hf, hg, hlow, hhigh]

end

/-! ## A reverse turn-off -/

/-- A feed whose drop has reversed is turned off and counted. -/
def feedReversed (b : Bool) (s : State) : State :=
  count1 (cChan (64 + b2n b) 11) (settleFeeds (modFeed b (fun f => { f with reversed := true }) s))

/-- A feed's last record of a reverse turn-off is a second old. -/
def reverseDue (b : Bool) (s : State) : Bool := match (s.feed b).lastRev with
  | some t => s.since t oneSec
  | none => true

/-- FEED_REVERSE_TURNOFF's effect. -/
def reverseTurnoff (b : Bool) (s : State) : State :=
  let s2 := feedReversed b s
  if reverseDue b s2 then feedEvent b 0 2 (modFeed b (fun f => { f with lastRev := some s2.now }) s2) else s2

theorem feedReversed_now (b : Bool) (s : State) : (feedReversed b s).now = s.now := (settleFeeds_now _).trans (modFeed_now ..)

theorem feedReversed_lastRev (b : Bool) (s : State) : ((feedReversed b s).feed b).lastRev = (s.feed b).lastRev := by
  have hfeed : (feedReversed b s).feed b = (settleFeeds (modFeed b (fun f => { f with reversed := true }) s)).feed b := by cases b <;> rfl
  rw [hfeed, settleFeeds_feed, modFeed_feed_same]

theorem reverseDue_feedReversed (b : Bool) (s : State) : reverseDue b (feedReversed b s) = reverseDue b s := by
  rw [reverseDue, feedReversed_lastRev, reverseDue]
  simp only [State.since, feedReversed_now]

theorem reverseDue_of (h : ∀ t, (s.feed b).lastRev = some t → t + oneSec ≤ s.now) : reverseDue b s = true := by
  rcases ht : (s.feed b).lastRev with _ | t
  · rw [reverseDue, ht]
  · rw [reverseDue, ht]
    exact since_eq_true (h t ht)

theorem reverseDue_not {b : Bool} {t : Time} (ht : (s.feed b).lastRev = some t) (h : s.now < t + oneSec) : reverseDue b s = false := by
  rw [reverseDue, ht]
  exact since_eq_false h

theorem reverseTurnoff_due {b : Bool} (h : reverseDue b s = true) : reverseTurnoff b s =
    feedEvent b 0 2 (modFeed b (fun f => { f with lastRev := some s.now }) (feedReversed b s)) := by
  rw [← feedReversed_now b s]
  exact if_pos ((reverseDue_feedReversed b s).trans h)

theorem reverseTurnoff_soon {b : Bool} (h : reverseDue b s = false) : reverseTurnoff b s = feedReversed b s :=
  if_neg (ne_true_of_eq_false ((reverseDue_feedReversed b s).trans h))

/-! ## The slot die's reset -/

/-- A channel in the reset tick, after its gate is off. -/
def forgottenChannel (c : Chan) : Chan :=
  { c with lastFault := 0, trigger := 0, retries := 0, lowFails := 0, tries := 0, pgSeen := false, vmax := 0 }

/-- A channel in the reset tick, before its event. -/
def resetQuiet (ch : Nat) (s : State) : State :=
  modChan ch forgottenChannel (if (s.chan ch).state = 0 ∨ (s.chan ch).state = 7 then s else gateOff ch 0 s.now s)

/-- What the slot die's reset does to a channel. -/
def resetChannel (ch : Nat) (s : State) : State :=
  if (s.chan ch).state = 0 then resetQuiet ch s else slotEvent ch 0 9 0 (noteFault ch 9 0 (resetQuiet ch s))

/-- The slot die at the start of its reset. -/
def resetSlotDie (s : State) : State :=
  { s with slot.inReset := true, slot.pinLow := true, slot.recordsLoaded := false, slot.reissue := true, slot.recs := [] }

theorem slotDieReset_eq (s : State) : slotDieReset s = settleFeeds (forAll [false, true]
    (fun b => modFeed b fun f => { f with lost := true, reversed := false }) (forAll (List.range 64) resetChannel (resetSlotDie s))) := rfl

theorem resetChannel_kept {C : Nat → Prop} {a : State} {ch : Nat} (hc : C ch) (h : SlotKept False C a s) :
    SlotKept False C a (resetChannel ch s) := by
  have hquiet : SlotKept False C a (resetQuiet ch s) := modChan_kept hc (ite_kept h (gateOff_kept hc h))
  exact ite_kept hquiet (slotEvent_kept (noteFault_kept hc False.elim hquiet))

theorem forAll_resetChannel_kept {C : Nat → Prop} {a : State} {l : List Nat} (hl : ∀ k ∈ l, C k) (h : SlotKept False C a s) :
    SlotKept False C a (forAll l resetChannel s) := by
  induction l generalizing s with
  | nil => exact h
  | cons k l ih =>
    obtain ⟨hk, hl⟩ := List.forall_mem_cons.1 hl
    exact ih hl (resetChannel_kept hk h)

/-- What the reset leaves a channel in that was in a state. -/
structure ResetFrom (old : Nat) (c : Chan) : Prop where
  state : c.state = if old = 7 then 7 else 0
  retries : c.retries = 0
  lastFault : c.lastFault = if old = 0 then 0 else 9

theorem ResetFrom.gateOff {old : Nat} {c : Chan} (h : ResetFrom old c) : gateOn c = false := by
  rw [gateOn, h.state]
  split <;> rfl

theorem resetQuiet_state (ch : Nat) (s : State) : ((resetQuiet ch s).chan ch).state = if (s.chan ch).state = 7 then 7 else 0 := by
  rw [resetQuiet, modChan_chan_same]
  by_cases h : (s.chan ch).state = 0 ∨ (s.chan ch).state = 7
  · rw [if_pos h]
    rcases h with h | h <;> simp [forgottenChannel, h]
  · rw [if_neg h, gateOff_chan_same, if_neg (fun h7 => h (.inr h7))]
    rfl

theorem resetQuiet_retries (ch : Nat) (s : State) : ((resetQuiet ch s).chan ch).retries = 0 := by
  rw [resetQuiet, modChan_chan_same]
  rfl

theorem resetQuiet_lastFault (ch : Nat) (s : State) : ((resetQuiet ch s).chan ch).lastFault = 0 := by
  rw [resetQuiet, modChan_chan_same]
  rfl

theorem resetChannel_chan (ch : Nat) (s : State) : ResetFrom (s.chan ch).state ((resetChannel ch s).chan ch) := by
  by_cases h : (s.chan ch).state = 0
  · rw [resetChannel, if_pos h]
    exact ⟨resetQuiet_state ch s, resetQuiet_retries ch s, (resetQuiet_lastFault ch s).trans (if_pos h).symm⟩
  · obtain ⟨u, hu⟩ := noteFault_chan ch 9 0 (resetQuiet ch s)
    rw [resetChannel, if_neg h, slotEvent_chan, hu]
    exact ⟨resetQuiet_state ch s, resetQuiet_retries ch s, (if_neg h).symm⟩

/-- Over channels named once each, every channel of the list is reset from the state it was in. -/
theorem forAll_resetChannel {ch : Nat} {l : List Nat} (hnd : l.Nodup) (hmem : ch ∈ l) :
    ResetFrom (s.chan ch).state ((forAll l resetChannel s).chan ch) := by
  induction l generalizing s with
  | nil => exact absurd hmem List.not_mem_nil
  | cons k l ih =>
    obtain ⟨hk, hl⟩ := List.nodup_cons.1 hnd
    rw [forAll_cons]
    rcases List.mem_cons.1 hmem with rfl | hmem
    · have hrest : SlotKept False (· ∈ l) (resetChannel ch s) (forAll l resetChannel (resetChannel ch s)) :=
        forAll_resetChannel_kept (fun _ hj => hj) (.refl _)
      rw [hrest.chan ch hk]
      exact resetChannel_chan ch s
    · have hother : (resetChannel k s).chan ch = s.chan ch :=
        (resetChannel_kept (C := (· = k)) rfl (.refl s)).chan ch (fun he => hk (he ▸ hmem))
      rw [← hother]
      exact ih hl hmem

theorem slotDieReset_chan (s : State) (ch : Nat) (h : ch < 64) : ResetFrom (s.chan ch).state ((slotDieReset s).chan ch) := by
  have hfeeds (t : State) : (settleFeeds (forAll [false, true] (fun b => modFeed b fun f => { f with lost := true, reversed := false }) t)).chan ch
      = t.chan ch := by
    rw [State.chan, settleFeeds_slot]
    rfl
  rw [slotDieReset_eq, hfeeds]
  exact forAll_resetChannel (s := resetSlotDie s) List.nodup_range (List.mem_range.2 h)

theorem slotCore_flags {t : State} (h : slotCore t = slotCore s) :
    t.slot.inReset = s.slot.inReset ∧ t.slot.recordsLoaded = s.slot.recordsLoaded ∧ t.slot.recs = s.slot.recs :=
  ⟨(congrArg (·.slot.inReset) h :), (congrArg (·.slot.recordsLoaded) h :), (congrArg (·.slot.recs) h :)⟩

theorem slotDieReset_core (s : State) : slotCore (slotDieReset s) = slotCore (resetSlotDie s) := by
  rw [slotDieReset_eq]
  generalize List.range 64 = l
  have hchans : SlotKept False (fun _ => True) (resetSlotDie s) (forAll l resetChannel (resetSlotDie s)) :=
    forAll_resetChannel_kept (fun _ _ => trivial) (.refl _)
  exact (settleFeeds_kept (forAll_kept (fun _ _ h => modFeed_kept h) hchans)).core

/-! ## Loss of VPWR -/

theorem settleCad_slot (s : State) : (settleCad s).slot = s.slot := by
  refine forAll_field State.slot _ (fun i t => ?_) _ _
  exact (apply_ite State.slot _ _ _).trans (ite_self _)

theorem vpwrLoss_slot (s : State) : (vpwrLoss s).slot = {
    chan := (s.slot.chan.filter fun e => e.2.present).map fun e => (e.1, { present := true })
    aux := s.slot.aux.map fun e => (e.1, { commandedOn := e.2.commandedOn, requests := e.2.requests })
    inReset := true, vpwrLost := true, pinLow := s.slot.pinLow, reissue := true } := settleCad_slot _

end

end Sys2Proof.Machine

namespace Sys2Proof

open Machine

section
variable {s : State} {dt : Time} {b : Bool}

/-! A command without operands that does one of two things. -/

section
variable {c : Instr} {P : State → Prop} {inst : ∀ s, Decidable (P s)} {f g : State → State}

theorem Gives.of_pos (hc : exec c s = run dt true (fun s => @ite _ (P s) (inst s) (f s) (g s)) s) (h : P (advance dt s)) :
    Gives c s (f (advance dt s)) := Gives.of_run hc rfl (if_pos h)

theorem Gives.of_neg (hc : exec c s = run dt true (fun s => @ite _ (P s) (inst s) (f s) (g s)) s) (h : ¬ P (advance dt s)) :
    Gives c s (g (advance dt s)) := Gives.of_run hc rfl (if_neg h)

theorem Gives.idle (hc : exec c s = run dt true (fun s => @ite _ (P s) (inst s) (f s) s) s) (h : ¬ P (advance dt s)) :
    Gives c s (advance dt s) := Gives.of_run hc rfl (if_neg h)

theorem Gives.idle_of (hc : exec c s = run dt true (fun s => @ite _ (P s) (inst s) s (f s)) s) (h : P (advance dt s)) :
    Gives c s (advance dt s) := Gives.of_run hc rfl (if_pos h)

end

theorem feedLost_eq : exec (.feedLost dt b) s = run dt true (fun s => if (s.feed b).lost then s
    else feedEvent b 2 0 (settleFeeds (modFeed b (fun f => { f with lost := true }) s))) s := rfl

theorem feedRestored_eq : exec (.feedRestored dt b) s = run dt true (fun s => if !(s.feed b).lost then s
    else feedEvent b 0 1 (settleFeeds (modFeed b (fun f => { f with lost := false, reversed := false }) s))) s := rfl

theorem slotResetNRelease_eq : exec (.slotResetNRelease dt) s = run dt true (fun s => if s.slot.inReset && !s.slot.vpwrLost then
    { s with slot.inReset := false, slot.pinLow := false, slot.startedAt := s.now } else { s with slot.pinLow := false }) s := rfl

theorem vpwrRecovery_eq : exec (.vpwrRecovery dt) s = run dt true (fun s => if s.slot.vpwrLost then
    { s with slot.vpwrLost := false, slot.inReset := s.slot.pinLow, slot.startedAt := s.now } else s) s := rfl

theorem slotInterfaceRestored_eq : exec (.slotInterfaceRestored dt) s =
    run dt true (fun s => if coreRuns s && !s.slot.inReset && !s.slot.recordsLoaded then restoreSlot s else s) s := rfl

theorem feedReverseTurnoff_gives : Gives (.feedReverseTurnoff dt b) s (reverseTurnoff b (advance dt s)) :=
  Gives.of_run (f := reverseTurnoff b) rfl rfl rfl

end

/-- Settles O42: the feeds by the cases of their states, the reset channel by channel. -/
theorem feedsAndSlotDieResets : Obligations.FeedsAndSlotDieResets := by
  intro s dt b a
  have hno {x : Bool} (h : x = true) : ¬ (!x) = true := by rw [h]; nofun
  have hyes {x : Bool} (h : x = false) : (!x) = true := by rw [h]; rfl
  refine ⟨fun h => .of_neg feedLost_eq (ne_true_of_eq_false h), fun h => .idle_of feedLost_eq h, fun h => .of_neg feedRestored_eq (hno h),
    fun h => .idle_of feedRestored_eq (hyes h),
    Gives.of_run (f := fun s => settleFeeds (modFeed b (fun f => { f with reversed := false }) s)) rfl rfl rfl, ?settled, ?reverse,
    ⟨slotDieReset a, Gives.of_run (f := slotDieReset) rfl rfl rfl, ?inReset, ?unloaded, ?recs, ?chans⟩,
    fun h1 h2 => .of_pos slotResetNRelease_eq (Bool.and_eq_true_iff.2 ⟨h1, hyes h2⟩), ?held,
    ⟨vpwrLoss a, Gives.of_run (f := vpwrLoss) rfl rfl rfl, ?powerless⟩,
    fun h => .of_pos vpwrRecovery_eq h, fun h => .idle vpwrRecovery_eq (ne_true_of_eq_false h),
    fun h1 h2 h3 => .of_pos slotInterfaceRestored_eq (Bool.and_eq_true_iff.2 ⟨Bool.and_eq_true_iff.2 ⟨h1, hyes h2⟩, hyes h3⟩), ?loaded⟩
  case settled =>
    intro settled
    rw [show settled.feed b = _ from settleFeeds_feed a b]
    exact ⟨rfl, feedStateOf_lost, feedStateOf_reversed, feedStateOf_alone, feedStateOf_both⟩
  case reverse =>
    intro off
    refine ⟨fun ⟨t, ht, h⟩ => feedReverseTurnoff_gives.of_eq (reverseTurnoff_soon (reverseDue_not ht h)),
      fun h => feedReverseTurnoff_gives.of_eq (reverseTurnoff_due (reverseDue_of fun t ht => ?_))⟩
    rcases h with h | ⟨u, hu, h⟩
    · exact absurd (ht.symm.trans h) (Option.some_ne_none t)
    · exact Option.some.inj (hu.symm.trans ht) ▸ h
  case held =>
    intro h
    have hcond : ¬ (a.slot.inReset && !a.slot.vpwrLost) = true := by rcases h with h | h <;> simp [h]
    exact .of_neg slotResetNRelease_eq hcond
  case loaded =>
    intro h
    have hcond : ¬ (coreRuns a && !a.slot.inReset && !a.slot.recordsLoaded) = true := by rcases h with h | h | h <;> simp [h]
    exact .idle slotInterfaceRestored_eq hcond
  case inReset => exact (slotCore_flags (slotDieReset_core a)).1
  case unloaded => exact (slotCore_flags (slotDieReset_core a)).2.1
  case recs => exact (slotCore_flags (slotDieReset_core a)).2.2
  case chans =>
    intro ch hch
    have h := slotDieReset_chan a ch hch
    exact ⟨h.gateOff, h.state, h.retries, h.lastFault⟩
  case powerless =>
    rw [vpwrLoss_slot]
    refine ⟨rfl, rfl, rfl, rfl, fun c hc => ?_⟩
    obtain ⟨e, -, rfl⟩ := List.mem_map.1 hc
    rfl

end Sys2Proof

/-! # What a command answers, from what its body answers -/

namespace Sys2Proof.Machine

section
variable {c : Rule} {op st why q : Nat} {body : Handler} {r : Req} {s t : State} {dt : Time} {sp : Req → Bool} {pay : List Word64}

/-- The out-of-band mailbox has no payload in host memory (R384). -/
theorem rDmaIn_of_headerOk (h : headerOk r = true) (hmb : r.mb = 64) : rDmaIn r = false := by
  by_contra hin
  rw [Bool.not_eq_false] at hin
  simp [headerOk, hmb, hin] at h

/-- In ROM recovery a command of the boot ROM runs its body in the state in which it has been taken. -/
theorem command_rom {a : State} (h : SentRom op r a) (hs : sp r = true) : command sp body r a = conclude r (body r (taken r a)) := by
  obtain ⟨hmb, hop, hmem, hserving, hrom, hbusy, hidle, hcarried, hdirty, hdma, hhdr⟩ := h
  have hfetch : mustFetch r (a.mb r.mb) = false := by simp [mustFetch, rDmaIn_of_headerOk hhdr hmb]
  have hallow : romAllows a r = true := by
    rw [romAllows, hmb, hop, List.contains_iff_mem.2 hmem]
    simp
  have haccept : accept body r a = conclude r (body r (taken r a)) := by
    unfold accept
    simp only [hmb ▸ hdirty, hdma, Bool.false_eq_true, if_false]
    rfl
  rw [← haccept]
  unfold command
  simp only [hs, hcarried, hserving, hallow, hfetch, hmb ▸ hbusy, hmb ▸ hidle, decide_false, Bool.false_and, Bool.and_false, Bool.not_true,
    Bool.or_self, Option.isSome_none, Bool.false_eq_true, if_false]

theorem rom_gives (h : SentRom op r (advance dt s)) (ho : c.o = true) (hs : sp r = true)
    (e : conclude r (body r (taken r (advance dt s))) = t) :
    run dt (okReq r) (command sp (checkedBy c body) r) s = .next { t with pending := s.pending } := by
  have hmb : r.mb = 64 := h.1
  have hhdr : headerOk r = true := h.2.2.2.2.2.2.2.2.2.2
  have hallowed : allowed c r (taken r (advance dt s)) = true := by simp [allowed, hmb, ho]
  refine run_gives (by simp [okReq, okMb, hmb]) ?_
  rw [← e]
  simp [command_rom h hs, checkedBy, hhdr, hallowed]

/-! A body that completes at once. -/

theorem sent_completes (h : Sent c op r (advance dt s)) (hb : body r (taken r (advance dt s)) = good pay t) :
    run dt (okReq r) (command (isOp op) (checkedBy c body) r) s = .next { finish r.mb stOk true pay t with pending := s.pending } :=
  opcode_gives h (congrArg (conclude r) hb)

theorem sent_refuses (h : Sent c op r (advance dt s)) (hb : body r (taken r (advance dt s)) = refuse st t) :
    run dt (okReq r) (command (isOp op) (checkedBy c body) r) s = .next { finish r.mb st false [] t with pending := s.pending } :=
  opcode_gives h (congrArg (conclude r) hb)

theorem rom_completes (h : SentRom op r (advance dt s)) (ho : c.o = true) (hb : body r (taken r (advance dt s)) = good pay t) :
    run dt (okReq r) (command (isOp op) (checkedBy c body) r) s = .next { finish r.mb stOk true pay t with pending := s.pending } :=
  rom_gives h ho (beq_iff_eq.2 h.2.1) (congrArg (conclude r) hb)

/-- A command without a request answers a record. -/
theorem emptyRequest_good {f : State → List Word64} (h : rLen r = 0) (s : State) : emptyRequest f r s = good (f s) s := if_pos h

/-! ## Status commands of one object -/

section
variable {p : Bool} {mask : Nat} {may ex : Req → State → Bool}

/-- What a status command does behind its header checks. -/
def statusBody (mask : Nat) (may ex : Req → State → Bool) (body : Handler) : Handler := fun r s =>
  if decide (r.mb < 64) && !may r s then refuse stDenied s
  else match payloadBad r [mask] with
    | some q => invalidAt q s
    | none => if ex r s then body r s else invalidAt 0 s

theorem statusOf_eq : statusOf p mask may ex body = checkedBy ⟨p, true, true, true, false⟩ (statusBody mask may ex body) := rfl

theorem statusBody_may (hmay : 64 ≤ r.mb ∨ may r s = true) (hp : payloadBad r [mask] = none) (hex : ex r s = true) :
    statusBody mask may ex body r s = body r s := by
  refine (if_neg ?_).trans (by rw [hp]; exact if_pos hex)
  rcases hmay with h | h <;> simp [h]

theorem statusBody_denied (hmb : r.mb < 64) (hmay : may r s = false) : statusBody mask may ex body r s = refuse stDenied s :=
  if_pos (by simp [hmb, hmay])

end

end

end Sys2Proof.Machine

namespace Sys2Proof

open Machine

/-- Settles O18: each body answers its record where the request is empty. -/
theorem emptyRequestsAnswer : Obligations.EmptyRequestsAnswer := by
  intro s dt r a b hlen
  refine ⟨fun h => h.elim (fun h => sent_completes h (if_pos hlen)) (fun h => rom_completes h rfl (if_pos hlen)), fun h => sent_completes h (if_pos hlen),
    fun h => sent_completes h (if_pos hlen), fun h => sent_completes h (if_pos hlen), fun h => sent_completes h (if_pos hlen),
    fun h => sent_completes h (if_pos hlen), fun h => h.elim (fun h => sent_completes h (if_pos hlen)) (fun h => rom_completes h rfl (if_pos hlen)),
    fun h => sent_completes h (if_pos hlen), fun h => ⟨_, ?len, ?first, sent_completes h (if_pos hlen)⟩⟩
  case len => simp
  case first => rfl

end Sys2Proof

/-! # Status commands that name one object (R407) -/

namespace Sys2Proof.Machine

section
variable {r : Req} {s : State} {dt : Time} {op mask : Nat} {p : Bool} {may ex : Req → State → Bool} {body : Handler} {t : State}
  {pay : List Word64}

/-- A device mailbox reads any object that exists. -/
theorem status_completes (h : Sent ⟨p, true, true, true, false⟩ op r (advance dt s)) (hp : payloadBad r [mask] = none)
    (hmay : 64 ≤ r.mb ∨ may r (taken r (advance dt s)) = true) (hex : ex r (taken r (advance dt s)) = true)
    (hb : body r (taken r (advance dt s)) = good pay t) :
    run dt (okReq r) (command (isOp op) (statusOf p mask may ex body) r) s = .next { finish r.mb stOk true pay t with pending := s.pending } :=
  sent_completes h ((statusBody_may hmay hp hex).trans hb)

theorem status_refuses {st : Nat} (h : Sent ⟨p, true, true, true, false⟩ op r (advance dt s)) (hp : payloadBad r [mask] = none)
    (hmay : 64 ≤ r.mb ∨ may r (taken r (advance dt s)) = true) (hex : ex r (taken r (advance dt s)) = true)
    (hb : body r (taken r (advance dt s)) = refuse st t) :
    run dt (okReq r) (command (isOp op) (statusOf p mask may ex body) r) s = .next { finish r.mb st false [] t with pending := s.pending } :=
  sent_refuses h ((statusBody_may hmay hp hex).trans hb)

/-- A partition mailbox is denied every object but its own. -/
theorem status_denied (h : Sent ⟨p, true, true, true, false⟩ op r (advance dt s)) (hmb : r.mb < 64)
    (hmay : may r (taken r (advance dt s)) = false) :
    run dt (okReq r) (command (isOp op) (statusOf p mask may ex body) r) s =
      .next { finish r.mb stDenied false [] (taken r (advance dt s)) with pending := s.pending } :=
  sent_refuses h (statusBody_denied hmb hmay)

end

end Sys2Proof.Machine

namespace Sys2Proof

open Machine

/-- Settles O19: each body answers its record for an object that exists and that the mailbox may read. -/
theorem statusCommandsAnswer : Obligations.StatusCommandsAnswer := by
  refine ⟨?device, ?partition⟩
  case device =>
    intro s dt r a b hmb
    refine ⟨fun h hp => status_completes h hp (.inl hmb) rfl rfl, fun h hp he => status_completes h hp (.inl hmb) (decide_eq_true he) rfl,
      fun h hp he => status_completes h hp (.inl hmb) (decide_eq_true he) rfl,
      fun h hp he => status_completes h hp (.inl hmb) (decide_eq_true he) rfl,
      fun h hp => status_completes h hp (.inl hmb) rfl rfl, fun h hp => status_completes h hp (.inl hmb) rfl rfl,
      fun h hp he => status_completes h hp (.inl hmb) (decide_eq_true he) (if_neg (Nat.not_lt.2 hmb)),
      fun h hp he => status_completes h hp (.inl hmb) (decide_eq_true he) rfl,
      fun h hp he => status_completes h hp (.inl hmb) (decide_eq_true he) rfl,
      fun h hp hup => status_completes h hp (.inl hmb) rfl (if_pos hup),
      fun h hp hup => status_refuses h hp (.inl hmb) rfl (if_neg (ne_true_of_eq_false hup))⟩
  case partition =>
    intro s dt r a b hmb
    refine ⟨fun h hp => ?port, fun h hp => ?part, fun h hp => ?queue, fun h hp he => ?mover, fun h hp he => ?shaper, fun h hp hup => ?slot⟩
    case port =>
      split
      next hown => exact status_completes h hp (.inr hown) rfl rfl
      next hown => exact status_denied h hmb (Bool.eq_false_of_not_eq_true hown)
    case part =>
      split
      next hown => exact status_completes h hp (.inr (beq_iff_eq.2 hown)) rfl rfl
      next hown => exact status_denied h hmb (beq_eq_false_iff_ne.2 hown)
    case queue =>
      split
      next hown =>
        have hsub : okSub (pf r 0 56 50) = true := decide_eq_true (by omega)
        exact status_completes h hp (.inr (beq_iff_eq.2 hown)) hsub (if_pos hmb)
      next hown => exact status_denied h hmb (beq_eq_false_iff_ne.2 hown)
    case mover =>
      split
      next hown => exact status_completes h hp (.inr hown) (decide_eq_true he) rfl
      next hown => exact status_denied h hmb (Bool.eq_false_of_not_eq_true hown)
    case shaper =>
      split
      next hown => exact status_completes h hp (.inr hown) (decide_eq_true he) rfl
      next hown => exact status_denied h hmb (Bool.eq_false_of_not_eq_true hown)
    case slot =>
      split
      next hown => exact status_completes h hp (.inr hown) rfl (if_pos hup)
      next hown => exact status_denied h hmb (Bool.eq_false_of_not_eq_true hown)

end Sys2Proof

/-! # The planer's report of a row without a spare (R324, R486) -/

namespace Sys2Proof

open Machine

/-- The core runs, the planer is in region 0, of the shared memories of the ports, and no spare row of memory 0 is left. -/
def sparesSpent : State := { State.reset with
  chip.booting := false, chip.tripped := false, chip.railsOut := false
  aging.inRegion := true, aging.region := 0, aging.spares := [(0, spareRows 0)] }

/-- The report of row 0 opens an episode. -/
theorem sparesSpent_planerDone : (planerDone 0 [0] (advance 0 sparesSpent)).bridge.episodes.length = 1 := rfl

/-- Refutes O17: where no spare row is left, the region's report writes a record of class C1, which opens an episode of the bridge. -/
theorem not_powerEventsLeaveTheDatapath : ¬ Obligations.PowerEventsLeaveTheDatapath := by
  intro h
  have hframe := h sparesSpent _ 0 0 0 false false 0 [] [0] (.planerRegionDone 0 0 [0]) (by simp) rfl
  obtain ⟨-, -, -, -, -, hbridge, -⟩ := hframe
  have hopen : (planerDone 0 [0] (advance 0 sparesSpent)).bridge.episodes = [] := congrArg (·.episodes) hbridge
  exact absurd sparesSpent_planerDone (by rw [hopen]; decide)

end Sys2Proof

/-! # Record commands (R389 to R392) -/

namespace Sys2Proof.Machine

/-- The record commands with their opcodes (Table 13.4). -/
def recordCommands (dt : Time) (r : Req) : List (Nat × Instr) :=
  [(0x0301, .portSet dt r), (0x0401, .partSet dt r), (0x0402, .windowSet dt r), (0x0501, .actWrite dt r),
    (0x0601, .queueSet dt r), (0x0602, .shaperSet dt r), (0x0603, .redProfileSet dt r), (0x0604, .markerSet dt r),
    (0x0701, .moverVfSet dt r), (0x0802, .slotLimits dt r), (0x0A03, .errControl dt r), (0x0E02, .routeSet dt r)]

section
variable {s b : State} {dt : Time} {r : Req} {op l : Nat}

theorem exec_recordCommand {c : Instr} (h : (op, c) ∈ recordCommands dt r) :
    exec c s = run dt (okReq r) (command (isOp op) (recordCommand op) r) s := by
  simp only [recordCommands, List.mem_cons, Prod.mk.injEq, List.not_mem_nil, or_false] at h
  rcases h with ⟨rfl, rfl⟩ | ⟨rfl, rfl⟩ | ⟨rfl, rfl⟩ | ⟨rfl, rfl⟩ | ⟨rfl, rfl⟩ | ⟨rfl, rfl⟩ | ⟨rfl, rfl⟩ | ⟨rfl, rfl⟩ | ⟨rfl, rfl⟩ |
    ⟨rfl, rfl⟩ | ⟨rfl, rfl⟩ | ⟨rfl, rfl⟩ <;> rfl

/-! ## One lock covers every entry -/

/-- The locks of the entries, all of which one lock covers. -/
theorem eq_of_mem_locks {es : List RecEntry} (hl : ∀ e ∈ es, entryLock b r.mb e = l) :
    ∀ k ∈ (es.map (entryLock b r.mb)).eraseDups, k = l := by
  intro k hk
  obtain ⟨e, he, rfl⟩ := List.mem_map.1 (List.mem_eraseDups.1 hk)
  exact hl e he

/-- The entries keep the rules of R385 that come before their own: none is denied, the lock that covers them is held and its set open. -/
structure EntriesLocked (b : State) (r : Req) (l : Nat) : Prop where
  some : entriesOf r ≠ []
  allowed : r.mb < 64 → ∀ e ∈ entriesOf r, entryDenied b r.mb e = false
  covered : ∀ e ∈ entriesOf r, entryLock b r.mb e = l
  held : holdsLock b r.mb l = true
  unprepared : (stageSet b l).prepared = false
  uncommitted : (stageSet b l).committed = false

/-- The entries with their numbers. -/
def numberedEntries (es : List RecEntry) : List (Nat × RecEntry) := (List.range es.length).zip es

/-- What a record command does behind the rules that come before its entries' own. -/
def entriesStaged (op : Nat) (r : Req) (s : State) : Answer × State :=
  match (numberedEntries (entriesOf r)).find? fun e => !entryOk s op e.2 with
  | some e => (.done stInvalid false (refusedRec s r.mb e.2.typ e.2.a e.2.b e.1), s)
  | none => match (numberedEntries (entriesOf r)).find? fun e => entryPegged s e.2 with
    | some e => (.done stPegged false (refusedRec s r.mb e.2.typ e.2.a e.2.b e.1), s)
    | none =>
      good [quad [(63, 32, (entriesOf r).length)]] (forAll (entriesOf r) (fun e s =>
        putSet (entryLock s r.mb e) (stageEntries s (cfgEntryOf s e) (stageSet s (entryLock s r.mb e))) s) s)

theorem recordBody_locked (h : EntriesLocked b r l) : recordBody op r b = entriesStaged op r b := by
  have hdenied : (decide (r.mb < 64) && (entriesOf r).any (entryDenied b r.mb)) = false := by
    by_cases hmb : r.mb < 64
    · simpa [hmb] using h.allowed hmb
    · simp [hmb]
  have hlocked : ((entriesOf r).map (entryLock b r.mb)).eraseDups.all (holdsLock b r.mb) = true :=
    List.all_eq_true.2 fun k hk => (eq_of_mem_locks h.covered k hk) ▸ h.held
  have hopen : (((entriesOf r).map (entryLock b r.mb)).eraseDups.any fun l => (stageSet b l).prepared || (stageSet b l).committed) = false :=
    List.any_eq_false.2 fun k hk => by rw [eq_of_mem_locks h.covered k hk, h.unprepared, h.uncommitted]; simp
  have hsome : (entriesOf r).isEmpty = false := by simpa using h.some
  unfold recordBody
  simp only [hdenied, hlocked, hopen, hsome, Bool.false_eq_true, if_false, Bool.not_true]
  rfl

/-! ## Staging -/

/-- Staging keeps everything by which later entries are staged. -/
theorem putSet_entry (x : StagingSet) (e : RecEntry) : entryLock (putSet l x b) r.mb e = entryLock b r.mb e ∧
    cfgEntryOf (putSet l x b) e = cfgEntryOf b e ∧ stageEntries (putSet l x b) = stageEntries b := ⟨rfl, rfl, rfl⟩

@[simp] theorem stageSet_putSet_same (x : StagingSet) : stageSet (putSet l x b) l = x := by
  rw [stageSet, putSet, tfind_tput, Option.getD_some]

@[simp] theorem putSet_putSet_same (x y : StagingSet) : putSet l y (putSet l x b) = putSet l y b := by
  simp only [putSet, tput_tput]

/-- From a set that stands in its place on, entries under one lock go into that set one after the other. -/
theorem forAll_staged {es : List RecEntry} (hl : ∀ e ∈ es, entryLock b r.mb e = l) (x : StagingSet) :
    forAll es (fun e s => putSet (entryLock s r.mb e) (stageEntries s (cfgEntryOf s e) (stageSet s (entryLock s r.mb e))) s) (putSet l x b) =
      putSet l (es.foldl (fun x e => stageEntries b (cfgEntryOf b e) x) x) b := by
  induction es generalizing x with
  | nil => rfl
  | cons e es ih =>
    obtain ⟨he, hes⟩ := List.forall_mem_cons.1 hl
    obtain ⟨hlock, hentry, hstage⟩ := putSet_entry (l := l) (b := b) (r := r) x e
    rw [forAll_cons, hlock, he, hentry, hstage, stageSet_putSet_same, putSet_putSet_same]
    exact ih hes _

theorem forAll_staged_first {es : List RecEntry} (hes : es ≠ []) (hl : ∀ e ∈ es, entryLock b r.mb e = l) :
    forAll es (fun e s => putSet (entryLock s r.mb e) (stageEntries s (cfgEntryOf s e) (stageSet s (entryLock s r.mb e))) s) b =
      putSet l (es.foldl (fun x e => stageEntries b (cfgEntryOf b e) x) (stageSet b l)) b := by
  rcases es with _ | ⟨e, es⟩
  · exact absurd rfl hes
  · obtain ⟨he, hes⟩ := List.forall_mem_cons.1 hl
    rw [forAll_cons, he]
    exact forAll_staged hes _

theorem entriesStaged_good (h : EntriesLocked b r l) (hok : ∀ e ∈ entriesOf r, entryOk b op e = true ∧ entryPegged b e = false) :
    entriesStaged op r b = good [quad [(63, 32, (entriesOf r).length)]]
      (putSet l ((entriesOf r).foldl (fun x e => stageEntries b (cfgEntryOf b e) x) (stageSet b l)) b) := by
  have hmem {e : Nat × RecEntry} (he : e ∈ numberedEntries (entriesOf r)) : e.2 ∈ entriesOf r := (List.of_mem_zip he).2
  have hvalid : ((numberedEntries (entriesOf r)).find? fun e => !entryOk b op e.2) = none :=
    List.find?_eq_none.2 fun e he => by simp [(hok e.2 (hmem he)).1]
  have hunpegged : ((numberedEntries (entriesOf r)).find? fun e => entryPegged b e.2) = none :=
    List.find?_eq_none.2 fun e he => by simp [(hok e.2 (hmem he)).2]
  rw [entriesStaged, hvalid, hunpegged, ← forAll_staged_first h.some h.covered]

/-! ## Refusal -/

/-- The first numberedEntries entry that fails. -/
theorem find?_numberedEntries {es : List RecEntry} {i : Nat} {e : RecEntry} {p : RecEntry → Bool} (hi : es[i]? = some e) (he : p e = true)
    (hbefore : ∀ x ∈ es.take i, p x = false) : ((numberedEntries es).find? fun x => p x.2) = some (i, e) := by
  obtain ⟨hlt, hget⟩ := List.getElem?_eq_some_iff.1 hi
  have hlen : i < (numberedEntries es).length := by simpa [numberedEntries] using hlt
  refine List.find?_eq_some_iff_getElem.2 ⟨he, i, hlen, by simp [numberedEntries, hget], fun j hj => ?_⟩
  have hx : p es[j] = false := hbefore _ (List.mem_take_iff_getElem.2 ⟨j, by omega, rfl⟩)
  simp [numberedEntries, hx]

theorem entriesStaged_invalid {i : Nat} {e : RecEntry} (hmb : 64 ≤ r.mb) (hi : (entriesOf r)[i]? = some e) (he : entryOk b op e = false)
    (hbefore : ∀ x ∈ (entriesOf r).take i, entryOk b op x = true) :
    entriesStaged op r b = (.done stInvalid false [refusalQuad e.typ e.a e.b i], b) := by
  have hfirst := find?_numberedEntries (p := fun x => !entryOk b op x) hi (by simp [he]) (fun x hx => by simp [hbefore x hx])
  have hread : mayRead b r.mb e.typ e.a = true := by simp [mayRead, hmb]
  rw [entriesStaged, hfirst]
  simp only [refusedRec, hread, if_true]

end

end Sys2Proof.Machine

namespace Sys2Proof

open Machine

/-- Settles O20: under one held lock a record command comes to its entries, which it stages in order or refuses at the first failing one. -/
theorem recordCommandsStageOrRefuse : Obligations.RecordCommandsStageOrRefuse := by
  refine ⟨?stage, ?refuse⟩
  case stage =>
    intro s dt r l op c a b es hc hsent hes hrules hheld hprepared hcommitted
    have hlocked : EntriesLocked b r l :=
      ⟨hes, fun hmb e he => (hrules e he).2.2.2 hmb, fun e he => (hrules e he).1, hheld, hprepared, hcommitted⟩
    have hbody : recordBody op r b = good _ _ := (recordBody_locked hlocked).trans
      (entriesStaged_good hlocked fun e he => ⟨(hrules e he).2.1, (hrules e he).2.2.1⟩)
    exact (exec_recordCommand hc).trans (sent_completes hsent hbody)
  case refuse =>
    intro s dt r l op i c e a b es hc hsent hmb hcovered hheld hprepared hcommitted hi he hbefore
    have hlocked : EntriesLocked b r l :=
      ⟨List.ne_nil_of_mem (List.mem_of_getElem? hi), fun h => absurd h (Nat.not_lt.2 hmb), hcovered, hheld, hprepared, hcommitted⟩
    have hbody := (recordBody_locked (op := op) hlocked).trans (entriesStaged_invalid hmb hi he hbefore)
    exact (exec_recordCommand hc).trans (opcode_gives hsent (congrArg (conclude r) hbody))

end Sys2Proof

/-! # CFG_STAGE and CFG_PREPARE (R393, R394, R416 to R421) -/

namespace Sys2Proof.Machine

section
variable {b : State} {r : Req} {l : Nat}

/-! ## CFG_STAGE -/

/-- What CFG_STAGE does to an open set that the mailbox holds. -/
def staged (r : Req) (l : Nat) (s : State) : Answer × State :=
  let x := stageSet s l
  match pf r 0 63 60 with
  | 0 => good (stageResponse (openSet s) 0) (putSet l (openSet s) s)
  | 1 =>
    if pf r 0 31 0 + (rLen r - 8) ≤ 8388608 then
      good (stageResponse x 0) (putSet l { x with image := putBytes x.image (pf r 0 31 0) (chunkBytes r) } s)
    else invalidAt 0 s
  | 2 => match checkImage s x.image with
    | some (es, isSigned, sig, seq) => good (stageResponse x seq) (putSet l (imageSet s es isSigned sig seq x) s)
    | none => invalidAt 0 s
  | 3 =>
    let c := s.cfgSlot (pf r 0 59 59 == 1)
    if cfgSlotValid s c then good (stageResponse x c.seq) (putSet l (imageSet s c.body c.signed c.sig c.seq x) s) else invalidAt 0 s
  | _ => invalidAt 0 s

theorem cfgStageBody_staged (hl : setLock b r = some l) (hp : (stageSet b l).prepared = false) (hc : (stageSet b l).committed = false)
    (hlen : 8 ≤ rLen r) (hzero : pf r 0 58 32 = 0) (hlock : pf r 0 63 60 = 0 ∨ l = 0) : cfgStageBody r b = staged r l b := by
  have hheld : ¬ (within 1 3 (pf r 0 63 60) && l != 0) = true := by rcases hlock with h | h <;> simp [within, h]
  have hopen : ¬ ((stageSet b l).prepared || (stageSet b l).committed) = true := by simp [hp, hc]
  have hshort : ¬ (decide (rLen r < 8) || pf r 0 58 32 != 0) = true := by simp [hlen, hzero]
  rw [cfgStageBody, hl]
  exact (if_neg hheld).trans ((if_neg hopen).trans (if_neg hshort))

theorem staged_open (h : pf r 0 63 60 = 0) : staged r l b = good (stageResponse (openSet b) 0) (putSet l (openSet b) b) := by
  simp only [staged, h]

theorem staged_chunk (h : pf r 0 63 60 = 1) (hfits : pf r 0 31 0 + (rLen r - 8) ≤ 8388608) : staged r l b =
    good (stageResponse (stageSet b l) 0)
      (putSet l { stageSet b l with image := putBytes (stageSet b l).image (pf r 0 31 0) (chunkBytes r) } b) := by
  simp only [staged, h, hfits, if_true]

theorem staged_end {es : List CfgEntry} {isSigned : Bool} {sig seq : Nat} (h : pf r 0 63 60 = 2)
    (himage : checkImage b (stageSet b l).image = some (es, isSigned, sig, seq)) : staged r l b =
    good (stageResponse (stageSet b l) seq) (putSet l (imageSet b es isSigned sig seq (stageSet b l)) b) := by
  simp only [staged, h, himage]

theorem staged_slot (h : pf r 0 63 60 = 3) {c : CfgSlot} (hc : c = b.cfgSlot (pf r 0 59 59 == 1))
    (hvalid : cfgSlotValid b c = true) : staged r l b =
      good (stageResponse (stageSet b l) c.seq) (putSet l (imageSet b c.body c.signed c.sig c.seq (stageSet b l)) b) := by
  subst hc
  simp only [staged, h, hvalid, if_true]

/-! ## CFG_PREPARE -/

/-- The prepared configuration of a set. -/
def preparedOf (x : StagingSet) (s : State) : Prepared :=
  { coord := s.dev, epoch := (s.conf.epoch + 1) % 2 ^ 32, base := s.conf.epoch, entries := x.entries
    digest := sha3 (cfgBytes x.entries), voted := true, heldUntil := s.now + 60 * oneSec, armed := none
    late := false, sig := x.sig, signed := x.signed }

/-- The commit that a prepare begins. -/
def coordOf (r : Req) (l : Nat) (corrective : Bool) (x : StagingSet) (s : State) : Coord :=
  { epoch := (preparedOf x s).epoch, corrective := corrective, lock := l, mb := r.mb, members := membersOf s x.entries
    votes := [(s.dev, 0)], deadline := s.now + 100 * ms, committing := false, wait := 0, swapAt := 0
    pfx := digestPfx (preparedOf x s).digest, armed := [], done := [], sealedBy := [], tSwap := 0, commitMb := none }

/-- The state in which a set has been prepared. -/
def setPrepared (r : Req) (l : Nat) (corrective : Bool) (x : StagingSet) (s : State) : State :=
  { putSet l { x with prepared := true } { s with conf.prepared := some (preparedOf x s) } with
    conf.coord := some (coordOf r l corrective x s) }

theorem stageSet_setPrepared (r : Req) (l : Nat) (corrective : Bool) (x : StagingSet) (s : State) :
    stageSet (setPrepared r l corrective x s) l = { x with prepared := true } := by
  rw [stageSet, setPrepared, putSet, tfind_tput, Option.getD_some]

/-- A prepare changes nothing, and is asked to be corrective. -/
def isCorrective (r : Req) (x : StagingSet) (s : State) : Bool := pf r 0 0 0 == 1 && x.changed.isEmpty && x.entries == s.conf.entries

/-- A set passes every check of CFG_PREPARE. -/
structure PreparePasses (r : Req) (l : Nat) (s : State) : Prop where
  lock : setLock s r = some l
  unprepared : (stageSet s l).prepared = false
  uncommitted : (stageSet s l).committed = false
  sound : (stageSet s l).conflicted = false
  noPrepared : s.conf.prepared = none
  noCoord : s.conf.coord = none
  signed : signedRequired s = true → (stageSet s l).signed = true
  payload : payloadBad r [2 ^ 64 - 2 ^ 32 + 1] = none
  base : pf r 0 63 32 = s.conf.epoch
  status : candidateStatus (isCorrective r (stageSet s l) s) false s.conf.epoch (stageSet s l).entries s = (stOk, noRec)

theorem cfgPrepareBody_passes (h : PreparePasses r l b) : cfgPrepareBody r b =
    (let x := stageSet b l
      let c := coordOf r l (isCorrective r x b) x b
      let others := (membersOf b x.entries).filter (· != b.dev)
      if others.isEmpty then
        good (prepareResponse (preparedOf x b)) { setPrepared r l (isCorrective r x b) x b with conf.coord := some { c with decided := true } }
      else (.waits waitPrepare, forAll others (sendPrepare c (preparedOf x b)) (setPrepared r l (isCorrective r x b) x b))) := by
  obtain ⟨hlock, hun, hcom, hsound, hnop, hnoc, hsigned, hpay, hbase, hstatus⟩ := h
  have hsig : ¬ (signedRequired b && !(stageSet b l).signed) = true := by
    intro hboth
    obtain ⟨hreq, hno⟩ := Bool.and_eq_true_iff.1 hboth
    rw [hsigned hreq] at hno
    exact Bool.false_ne_true hno
  have hcorr : (pf r 0 0 0 == 1 && ((stageSet b l).changed.isEmpty && !(stageSet b l).conflicted && (stageSet b l).entries == b.conf.entries)) =
      isCorrective r (stageSet b l) b := by simp [isCorrective, hsound, Bool.and_assoc]
  have hheld : ((stageSet b l).prepared || (stageSet b l).committed || b.conf.prepared.isSome || b.conf.coord.isSome) = false := by
    simp [hun, hcom, hnop, hnoc]
  have hfresh : ¬ ((stageSet b l).conflicted || pf r 0 63 32 != b.conf.epoch) = true := by simp [hsound, hbase]
  rw [cfgPrepareBody, hlock]
  refine (if_neg hsig).trans ?_
  dsimp only
  rw [hcorr, hheld, hstatus, hpay]
  refine (if_neg (by decide)).trans ((if_neg (fun h => h rfl)).trans ((if_neg hfresh).trans ?_))
  rfl

end

end Sys2Proof.Machine

namespace Sys2Proof

open Machine

/-- Settles O21: CFG_STAGE by its actions, CFG_PREPARE by whether other members vote. -/
theorem stagingAndPreparing : Obligations.StagingAndPreparing := by
  refine ⟨?stage, ?prepare⟩
  case stage =>
    intro s dt r l a b x hsent hl hp hc hlen hzero
    have hact {act : Nat} (h : pf r 0 63 60 = act) : isStage act r = true := by simp [isStage, isOp, hsent.2.1, h]
    refine ⟨fun h => ?_, fun h h0 hfits => ?_, fun es isSigned sig seq h h0 himage => ?_, fun h h0 hvalid => ?_⟩
    · exact command_gives hsent (hact h) (congrArg (conclude r)
        ((cfgStageBody_staged hl hp hc hlen hzero (.inl h)).trans (staged_open h)))
    · subst h0
      exact command_gives hsent (hact h) (congrArg (conclude r)
        ((cfgStageBody_staged hl hp hc hlen hzero (.inr rfl)).trans (staged_chunk h hfits)))
    · subst h0
      exact command_gives hsent (hact h) (congrArg (conclude r)
        ((cfgStageBody_staged hl hp hc hlen hzero (.inr rfl)).trans (staged_end h himage)))
    · subst h0
      exact command_gives hsent (hact h) (congrArg (conclude r)
        ((cfgStageBody_staged hl hp hc hlen hzero (.inr rfl)).trans (staged_slot h rfl hvalid)))
  case prepare =>
    intro s dt r l a b x others hsent hl hp hc hsound hnop hnoc hsigned hpay corrective hbase hstatus
    have hpass : PreparePasses r l b := ⟨hl, hp, hc, hsound, hnop, hnoc, hsigned, hpay, hbase, hstatus⟩
    have hbody := cfgPrepareBody_passes hpass
    refine ⟨coordOf r l corrective x b, preparedOf x b, setPrepared r l corrective x b, rfl, rfl, rfl, rfl, rfl, ?_, ?_, rfl, rfl, rfl, rfl, rfl,
      rfl, rfl, fun hothers => ?_, fun hothers => ?_⟩
    · exact congrArg StagingSet.prepared (stageSet_setPrepared r l corrective x b)
    · rw [stageSet_setPrepared]
    · exact opcode_gives hsent (congrArg (conclude r) (hbody.trans (if_pos (List.isEmpty_iff.2 hothers))))
    · exact opcode_gives hsent (congrArg (conclude r) (hbody.trans (if_neg fun h => hothers (List.isEmpty_iff.1 h))))

end Sys2Proof

/-! # What leaves the configuration in force (R395, R419) -/

namespace Sys2Proof.Machine

/-- The configuration and the device's number, by which its records are read. -/
def ownConf (s : State) : Conf × Nat := (s.conf, s.chip.devnum)

/-- The configuration in force, its entries, its epoch and its digest, and the device's number. -/
def inForce (c : Conf × Nat) : List CfgEntry × Nat × BitVec 256 × Nat := (c.1.entries, c.1.epoch, c.1.digest, c.2)

section
variable (s : State)

@[simp] theorem ownConf_mk (s : State) : (s.conf, s.chip.devnum) = ownConf s := rfl

@[simp] theorem inForce_mk (s : State) : (s.conf.entries, s.conf.epoch, s.conf.digest, s.chip.devnum) = inForce (ownConf s) := rfl

@[simp] theorem ownConf_state (chip : Chip) (ft : FabTime) (conf : Conf) (fw : Firmware) (hub : Hub) (sched : Sched) (lanes : Lanes)
    (pcie : Pcie) (spokes : Spokes) (bridge : Bridge) (mover : Mover) (errs : Errs) (slot : SlotDie) (mgmt : Mgmt) (sec : Security)
    (tandem : Tandem) (aging : Aging) (power : Power) (count : Count) (out : List Out) (freeCtr : Nat) (pending : List Instr) :
    ownConf ⟨chip, ft, conf, fw, hub, sched, lanes, pcie, spokes, bridge, mover, errs, slot, mgmt, sec, tandem, aging, power, count,
      out, freeCtr, pending⟩ = (conf, chip.devnum) := rfl

@[simp] theorem inForce_pair (c : Conf) (n : Nat) : inForce (c, n) = (c.entries, c.epoch, c.digest, n) := rfl

@[simp] theorem forAll_ownConf {α : Type} {f : α → State → State} (h : ∀ x t, ownConf (f x t) = ownConf t) (l : List α) (s : State) :
    ownConf (forAll l f s) = ownConf s := forAll_field ownConf f h l s

@[simp] theorem ite_ownConf (c : Prop) [Decidable c] (t : State) : ownConf (if c then s else t) = if c then ownConf s else ownConf t :=
  apply_ite ownConf c s t

@[simp] theorem foldl_ownConf {α : Type} {f : State → α → State} (h : ∀ t x, ownConf (f t x) = ownConf t) (l : List α) (s : State) :
    ownConf (l.foldl f s) = ownConf s := forAll_ownConf (f := fun x t => f t x) (fun x t => h t x) l s

@[simp] theorem onlyIf_ownConf {f : State → State} (h : ∀ t, ownConf (f t) = ownConf t) (b : Bool) (s : State) :
    ownConf (onlyIf b f s) = ownConf s := by
  cases b
  · rfl
  · exact h s

@[simp] theorem forAll_inForce {α : Type} {f : α → State → State} (h : ∀ x t, inForce (ownConf (f x t)) = inForce (ownConf t)) (l : List α)
    (s : State) : inForce (ownConf (forAll l f s)) = inForce (ownConf s) := forAll_field (fun s => inForce (ownConf s)) f h l s

@[simp] theorem ite_inForce (p : Prop) [Decidable p] (c d : Conf × Nat) :
    inForce (if p then c else d) = if p then inForce c else inForce d := apply_ite inForce p c d

end

/-! ## The model's functions that leave it -/

@[simp] theorem emit_ownConf (o s) : ownConf (emit o s) = ownConf s := by simp [emit]
@[simp] theorem drew_ownConf (s) : ownConf (drew s) = ownConf s := by simp [drew]
@[simp] theorem countBy_ownConf (id n s) : ownConf (countBy id n s) = ownConf s := by simp [countBy]
@[simp] theorem count1_ownConf (id s) : ownConf (count1 id s) = ownConf s := by simp [count1]
@[simp] theorem countUnits_ownConf (u id n s) : ownConf (countUnits u id n s) = ownConf s := by simp [countUnits]
@[simp] theorem countBytes_ownConf (id n s) : ownConf (countBytes id n s) = ownConf s := by simp [countBytes]
@[simp] theorem countTime_ownConf (id d s) : ownConf (countTime id d s) = ownConf s := by simp [countTime]
@[simp] theorem modPort_ownConf (p f s) : ownConf (modPort p f s) = ownConf s := by simp [modPort]
@[simp] theorem modAux_ownConf (p f s) : ownConf (modAux p f s) = ownConf s := by simp [modAux]
@[simp] theorem modPart_ownConf (p f s) : ownConf (modPart p f s) = ownConf s := by simp [modPart]
@[simp] theorem modSpoke_ownConf (k f s) : ownConf (modSpoke k f s) = ownConf s := by simp [modSpoke]
@[simp] theorem modStime_ownConf (k f s) : ownConf (modStime k f s) = ownConf s := by simp [modStime]
@[simp] theorem modFunc_ownConf (n f s) : ownConf (modFunc n f s) = ownConf s := by simp [modFunc]
@[simp] theorem modChan_ownConf (n f s) : ownConf (modChan n f s) = ownConf s := by simp [modChan]
@[simp] theorem modChanAux_ownConf (n f s) : ownConf (modChanAux n f s) = ownConf s := by simp [modChanAux]
@[simp] theorem modMb_ownConf (n f s) : ownConf (modMb n f s) = ownConf s := by simp [modMb]
@[simp] theorem modLane_ownConf (n f s) : ownConf (modLane n f s) = ownConf s := by simp [modLane]
@[simp] theorem modLoop_ownConf (depth target f s) : ownConf (modLoop depth target f s) = ownConf s := by simp [modLoop]
@[simp] theorem countLoop_ownConf (depth target units errors s) : ownConf (countLoop depth target units errors s) = ownConf s := by
  simp [countLoop]

@[simp] theorem countLost_ownConf (i s) : ownConf (countLost i s) = ownConf s := by simp [countLost]
@[simp] theorem routeCells_ownConf (d srcDev srcPort dstPort svc cs s) :
    ownConf (routeCells d srcDev srcPort dstPort svc cs s) = ownConf s := by
  unfold routeCells
  dsimp only
  (repeat' split) <;> simp

@[simp] theorem post_ownConf (o s) : ownConf (post o s) = ownConf s := by
  unfold post
  split <;> simp

@[simp] theorem sendMsg_ownConf (p m s) : ownConf (sendMsg p m s) = ownConf s := by simp [sendMsg]
@[simp] theorem collapse_ownConf (u s) : ownConf (collapse u s) = ownConf s := by simp [collapse]
@[simp] theorem updateLevel_ownConf (p s) : ownConf (updateLevel p s) = ownConf s := by
  unfold updateLevel
  dsimp only
  (repeat' split) <;> simp

@[simp] theorem raiseAlert_ownConf (seq s) : ownConf (raiseAlert seq s) = ownConf s := by
  unfold raiseAlert
  dsimp only
  (repeat' split) <;> simp

@[simp] theorem func0Msg_ownConf (p m s) : ownConf (func0Msg p m s) = ownConf s := by
  unfold func0Msg
  split <;> simp

@[simp] theorem func0Err_ownConf (p b m s) : ownConf (func0Err p b m s) = ownConf s := by simp [func0Err]
@[simp] theorem sendNonFatal_ownConf (p s) : ownConf (sendNonFatal p s) = ownConf s := by simp [sendNonFatal]
@[simp] theorem signalRecord_ownConf (p r s) : ownConf (signalRecord p r s) = ownConf s := by
  unfold signalRecord
  split <;> simp

@[simp] theorem enterLog_ownConf (r s) : ownConf (enterLog r s) = ownConf s := by
  rw [ownConf, ownConf, (enterLog_reported (Reported.refl s)).conf, (enterLog_reported (Reported.refl s)).chip]

@[simp] theorem logOnly_ownConf (r s) : ownConf (logOnly r s) = ownConf s := by simp [logOnly]
@[simp] theorem ringWriteBy_ownConf (raise p r s) (hraise : ∀ y0 y1 u, ownConf (raise y0 y1 u) = ownConf u) :
    ownConf (ringWriteBy raise p r s) = ownConf s := by simp [ringWriteBy, hraise]
@[simp] theorem ringCopyBy_ownConf (raise p r s) (hraise : ∀ y0 y1 u, ownConf (raise y0 y1 u) = ownConf u) :
    ownConf (ringCopyBy raise p r s) = ownConf s := by simp [ringCopyBy, hraise]
@[simp] theorem recordBy_ownConf (raise ps r s) (hraise : ∀ y0 y1 u, ownConf (raise y0 y1 u) = ownConf u) :
    ownConf (recordBy raise ps r s) = ownConf s := by simp [recordBy, hraise]
@[simp] theorem extendEpisode_ownConf (cause part dev port s) : ownConf (extendEpisode cause part dev port s) = ownConf s := by
  simp [extendEpisode]

@[simp] theorem writeFailureBy_ownConf (raise cause r part s) (hraise : ∀ y0 y1 u, ownConf (raise y0 y1 u) = ownConf u) :
    ownConf (writeFailureBy raise cause r part s) = ownConf s := by
  unfold writeFailureBy
  dsimp only
  split <;> simp [hraise]

@[simp] theorem setCause_ownConf (p i s) : ownConf (setCause p i s) = ownConf s := by simp [setCause]
@[simp] theorem countDeny_ownConf (port entry s) : ownConf (countDeny port entry s) = ownConf s := by
  unfold countDeny
  split <;> simp

@[simp] theorem sendVectorBy_ownConf (denied p v s) (hdenied : ∀ y0 y1 u, ownConf (denied y0 y1 u) = ownConf u) :
    ownConf (sendVectorBy denied p v s) = ownConf s := by
  unfold sendVectorBy
  dsimp only
  (repeat' split) <;> simp [hdenied]

@[simp] theorem sendMsixBy_ownConf (denied p i s) (hdenied : ∀ y0 y1 u, ownConf (denied y0 y1 u) = ownConf u) :
    ownConf (sendMsixBy denied p i s) = ownConf s := by simp [sendMsixBy, hdenied]
@[simp] theorem raiseQuiet_ownConf (p i s) : ownConf (raiseQuiet p i s) = ownConf s := by simp [raiseQuiet]
@[simp] theorem msixDenied_ownConf (p addr s) : ownConf (msixDenied p addr s) = ownConf s := by simp [msixDenied]
@[simp] theorem sendCauseMsix_ownConf (p i s) : ownConf (sendCauseMsix p i s) = ownConf s := by simp [sendCauseMsix]
@[simp] theorem raiseCause_ownConf (p i s) : ownConf (raiseCause p i s) = ownConf s := by simp [raiseCause]
@[simp] theorem raiseCauseAll_ownConf (i s) : ownConf (raiseCauseAll i s) = ownConf s := by simp [raiseCauseAll]
@[simp] theorem record_ownConf (ps r s) : ownConf (record ps r s) = ownConf s := by simp [record]
@[simp] theorem writeFailure_ownConf (cause r part s) : ownConf (writeFailure cause r part s) = ownConf s := by simp [writeFailure]
@[simp] theorem closeEpisode_ownConf (e s) : ownConf (closeEpisode e s) = ownConf s := by simp [closeEpisode]
@[simp] theorem episodeRecord_ownConf (toRing part r s) : ownConf (episodeRecord toRing part r s) = ownConf s := by
  unfold episodeRecord
  dsimp only
  split <;> simp

@[simp] theorem fencedDiscard_ownConf (part dev port s) : ownConf (fencedDiscard part dev port s) = ownConf s := by
  unfold fencedDiscard
  dsimp only
  split <;> simp

@[simp] theorem endFences_ownConf (p s) : ownConf (endFences p s) = ownConf s := by
  unfold endFences
  refine (forAll_ownConf (fun x t => ?_) _ _).trans ?_
  · split <;> simp
  · simp

@[simp] theorem sendCpl_ownConf (port rid tag st s) : ownConf (sendCpl port rid tag st s) = ownConf s := by simp [sendCpl]
@[simp] theorem putBeats_ownConf (k rows s) : ownConf (putBeats k rows s) = ownConf s := by simp [putBeats]
@[simp] theorem sendIdle_ownConf (k s) : ownConf (sendIdle k s) = ownConf s := by simp [sendIdle]
@[simp] theorem sendRows_ownConf (k rows s) : ownConf (sendRows k rows s) = ownConf s := by simp [sendRows]
@[simp] theorem sendBeat_ownConf (k kind a b s) : ownConf (sendBeat k kind a b s) = ownConf s := by simp [sendBeat]
@[simp] theorem sendParts_ownConf (k kind sub vs s) : ownConf (sendParts k kind sub vs s) = ownConf s := by simp [sendParts]
@[simp] theorem putSh_ownConf (k v s) : ownConf (putSh k v s) = ownConf s := by simp [putSh]
@[simp] theorem openSh_ownConf (k s) : ownConf (openSh k s) = ownConf s := by simp [openSh]
@[simp] theorem wheelInsert_ownConf (inst k E s) : ownConf (wheelInsert inst k E s) = ownConf s := by simp [wheelInsert]
@[simp] theorem wheelRemove_ownConf (k s) : ownConf (wheelRemove k s) = ownConf s := by simp [wheelRemove]
@[simp] theorem refundSh_ownConf (k L s) : ownConf (refundSh k L s) = ownConf s := by simp [refundSh]
@[simp] theorem resetSh_ownConf (k s) : ownConf (resetSh k s) = ownConf s := by simp [resetSh]
@[simp] theorem newSh_ownConf (k s) : ownConf (newSh k s) = ownConf s := by simp [newSh]
@[simp] theorem resetShapers_ownConf (p s) : ownConf (resetShapers p s) = ownConf s := by simp [resetShapers]
@[simp] theorem rebaseSh_ownConf (k old s) : ownConf (rebaseSh k old s) = ownConf s := by simp [rebaseSh]
@[simp] theorem dropFrame_ownConf (fid s) : ownConf (dropFrame fid s) = ownConf s := by simp [dropFrame]
@[simp] theorem noteGone_ownConf (f s) : ownConf (noteGone f s) = ownConf s := by simp [noteGone]
@[simp] theorem clearXoff_ownConf (key s) : ownConf (clearXoff key s) = ownConf s := by
  unfold clearXoff
  split <;> simp

@[simp] theorem settleXoff_ownConf (st s) : ownConf (settleXoff st s) = ownConf s := by simp [settleXoff]
@[simp] theorem noteEmpty_ownConf (port q s) : ownConf (noteEmpty port q s) = ownConf s := by
  unfold noteEmpty
  (repeat' split) <;> simp

@[simp] theorem dropEmptyDeficits_ownConf (port s) : ownConf (dropEmptyDeficits port s) = ownConf s := by simp [dropEmptyDeficits]
@[simp] theorem takeOut_ownConf (f s) : ownConf (takeOut f s) = ownConf s := by simp [takeOut]
@[simp] theorem removeFrame_ownConf (f s) : ownConf (removeFrame f s) = ownConf s := by simp [removeFrame]
@[simp] theorem freeSlots_ownConf (k svc pool n s) : ownConf (freeSlots k svc pool n s) = ownConf s := by simp [freeSlots]
@[simp] theorem freeFrame_ownConf (f s) : ownConf (freeFrame f s) = ownConf s := by
  unfold freeFrame
  (repeat' split) <;> simp

@[simp] theorem sendNotices_ownConf (dev sub ns s) : ownConf (sendNotices dev sub ns s) = ownConf s := by simp [sendNotices]
@[simp] theorem dropNotice_ownConf (f cause s) : ownConf (dropNotice f cause s) = ownConf s := by
  unfold dropNotice
  split <;> simp

@[simp] theorem freeTag_ownConf (i s) : ownConf (freeTag i s) = ownConf s := by
  unfold freeTag
  split <;> simp

@[simp] theorem quarTag_ownConf (i s) : ownConf (quarTag i s) = ownConf s := by simp [quarTag]
@[simp] theorem answerEntry_ownConf (e st s) : ownConf (answerEntry e st s) = ownConf s := by
  unfold answerEntry
  split <;> simp

@[simp] theorem timeoutTag_ownConf (i detailB s) : ownConf (timeoutTag i detailB s) = ownConf s := by
  unfold timeoutTag
  split <;> simp

@[simp] theorem endTag_ownConf (i st s) : ownConf (endTag i st s) = ownConf s := by
  unfold endTag
  split <;> simp

@[simp] theorem failTracker_ownConf (i cause quar s) : ownConf (failTracker i cause quar s) = ownConf s := by
  unfold failTracker
  split <;> simp

@[simp] theorem sendNak_ownConf (f cause s) : ownConf (sendNak f cause s) = ownConf s := by simp [sendNak]
@[simp] theorem answerNp_ownConf (f st s) : ownConf (answerNp f st s) = ownConf s := by
  unfold answerNp
  (repeat' split) <;> simp

@[simp] theorem failWrite_ownConf (f cause s) : ownConf (failWrite f cause s) = ownConf s := by
  unfold failWrite
  split <;> simp

@[simp] theorem issueTest_ownConf (port s) : ownConf (issueTest port s) = ownConf s := by simp [issueTest]
@[simp] theorem discardOutcome_ownConf (f w s) : ownConf (discardOutcome f w s) = ownConf s := by
  unfold discardOutcome
  split
  · simp
  · split
    · simp
    · extract_lets aged u v x
      have hu : ownConf u = ownConf s := by simp [u]
      have hv : ownConf v = ownConf s := by simp [v, hu]
      have hx : ownConf x = ownConf s := by simp [x, hu]
      split
      · simp [hu]
      · split <;> simp [hv]
      · split <;> simp [hv]
      · split <;> simp [hx]

@[simp] theorem discard_ownConf (f w s) : ownConf (discard f w s) = ownConf s := by simp [discard]
@[simp] theorem unselect_ownConf (f s) : ownConf (unselect f s) = ownConf s := by
  unfold unselect
  split <;> simp

@[simp] theorem flushWhere_ownConf (p w s) : ownConf (flushWhere p w s) = ownConf s := by simp [flushWhere]
@[simp] theorem clearAverages_ownConf (p s) : ownConf (clearAverages p s) = ownConf s := by simp [clearAverages]
@[simp] theorem colourOf_ownConf (att sub B pre s) : ownConf (colourOf att sub B pre s).2 = ownConf s := by
  unfold colourOf
  dsimp only
  split <;> simp

@[simp] theorem addWaiting_ownConf (f s) : ownConf (addWaiting f s) = ownConf s := by simp [addWaiting]
@[simp] theorem newFrame_ownConf (f s) : ownConf (newFrame f s) = ownConf s := by simp [newFrame]
@[simp] theorem refuseNp_ownConf (e t st s) : ownConf (refuseNp e t st s) = ownConf s := by
  unfold refuseNp
  split <;> simp

@[simp] theorem countDenial_ownConf (e entry s) : ownConf (countDenial e entry s) = ownConf s := by simp [countDenial]
@[simp] theorem reachDenied_ownConf (e t entry dev port s) : ownConf (reachDenied e t entry dev port s) = ownConf s := by
  unfold reachDenied
  (repeat' split) <;> simp

@[simp] theorem formError_ownConf (e t dev port s) : ownConf (formError e t dev port s) = ownConf s := by
  unfold formError
  (repeat' split) <;> simp

@[simp] theorem lostRead_ownConf (e t dev port s) : ownConf (lostRead e t dev port s) = ownConf s := by simp [lostRead]
@[simp] theorem pathLost_ownConf (e t dev port s) : ownConf (pathLost e t dev port s) = ownConf s := by
  unfold pathLost
  (repeat' split) <;> simp

@[simp] theorem lateCompletion_ownConf (sub rid tag issued s) : ownConf (lateCompletion sub rid tag issued s) = ownConf s := by
  simp [lateCompletion]

@[simp] theorem matchCompletion_ownConf (f s) : ownConf (matchCompletion f s) = ownConf s := by
  unfold matchCompletion
  dsimp only
  split <;> simp

@[simp] theorem applyVerdict_ownConf (e t mk v s) : ownConf (applyVerdict e t mk v s) = ownConf s := by
  unfold applyVerdict
  (repeat' split) <;> simp

@[simp] theorem issueMc_ownConf (p t s) : ownConf (issueMc p t s) = ownConf s := by simp [issueMc]
@[simp] theorem tunnel_ownConf (p dev port m s) : ownConf (tunnel p dev port m s) = ownConf s := by simp [tunnel]
@[simp] theorem wireMessage_ownConf (p wire on s) : ownConf (wireMessage p wire on s) = ownConf s := by
  unfold wireMessage
  dsimp only
  (repeat' split) <;> simp

@[simp] theorem settleInt_ownConf (p s) : ownConf (settleInt p s) = ownConf s := by simp [settleInt]
@[simp] theorem noteStatus_ownConf (p f s) : ownConf (noteStatus p f s) = ownConf s := by simp [noteStatus]
@[simp] theorem dropWires_ownConf (p s) : ownConf (dropWires p s) = ownConf s := by simp [dropWires]
@[simp] theorem putSem_ownConf (p m s) : ownConf (putSem p m s) = ownConf s := by simp [putSem]
@[simp] theorem modSeq_ownConf (q f s) : ownConf (modSeq q f s) = ownConf s := by simp [modSeq]
@[simp] theorem lockIfHeld_ownConf (q s) : ownConf (lockIfHeld q s) = ownConf s := by simp [lockIfHeld]
@[simp] theorem granted_ownConf (port targetDev targetPort s) : ownConf (granted port targetDev targetPort s) = ownConf s := by
  unfold granted
  dsimp only
  split <;> simp

@[simp] theorem grantSem_ownConf (p r s) : ownConf (grantSem p r s) = ownConf s := by simp [grantSem]
@[simp] theorem passSem_ownConf (p s) : ownConf (passSem p s) = ownConf s := by
  unfold passSem
  split <;> simp

@[simp] theorem dropReq_ownConf (p r s) : ownConf (dropReq p r s) = ownConf s := by simp [dropReq]
@[simp] theorem releaseTarget_ownConf (q s) : ownConf (releaseTarget q s) = ownConf s := by simp [releaseTarget]
@[simp] theorem freeSeq_ownConf (q s) : ownConf (freeSeq q s) = ownConf s := by simp [freeSeq]
@[simp] theorem abortWaiting_ownConf (q s) : ownConf (abortWaiting q s) = ownConf s := by simp [abortWaiting]
@[simp] theorem endSeq_ownConf (q s) : ownConf (endSeq q s) = ownConf s := by simp [endSeq]
@[simp] theorem endSeqsWhere_ownConf (p s) : ownConf (endSeqsWhere p s) = ownConf s := by simp [endSeqsWhere]
@[simp] theorem endLockedReads_ownConf (port dstDev dstPort s) : ownConf (endLockedReads port dstDev dstPort s) = ownConf s := by
  simp [endLockedReads]

@[simp] theorem releasePortSem_ownConf (p s) : ownConf (releasePortSem p s) = ownConf s := by simp [releasePortSem]
@[simp] theorem settlePlumb_ownConf (s) : ownConf (settlePlumb s) = ownConf s := by simp [settlePlumb]
@[simp] theorem putBucket_ownConf (d b x s) : ownConf (putBucket d b x s) = ownConf s := by simp [putBucket]
@[simp] theorem reassign_ownConf (d hold s x1 x2) : ownConf (reassign d hold s x1 x2) = ownConf s := by
  induction x1 generalizing s x2 with
  | nil => rfl
  | cons b r ih => simp [reassign, ih]

@[simp] theorem releaseCtl_ownConf (d b s) : ownConf (releaseCtl d b s) = ownConf s := by
  unfold releaseCtl
  dsimp only
  split <;> simp

@[simp] theorem moveBuckets_ownConf (k s) : ownConf (moveBuckets k s) = ownConf s := by simp [moveBuckets]
@[simp] theorem remapRoute_ownConf (d s) : ownConf (remapRoute d s) = ownConf s := by simp [remapRoute]
@[simp] theorem loseFrame_ownConf (k f s) : ownConf (loseFrame k f s) = ownConf s := by
  unfold loseFrame
  (repeat' split) <;> simp

@[simp] theorem loseCell_ownConf (k c s) : ownConf (loseCell k c s) = ownConf s := by
  unfold loseCell
  (repeat' split) <;> simp

@[simp] theorem sendTrain_ownConf (k s) : ownConf (sendTrain k s) = ownConf s := by simp [sendTrain]
@[simp] theorem noteTandem_ownConf (was s) : ownConf (noteTandem was s) = ownConf s := by simp [noteTandem]
@[simp] theorem clearEyes_ownConf (ls s) : ownConf (clearEyes ls s) = ownConf s := by simp [clearEyes]
@[simp] theorem setUpstream_ownConf (s) : ownConf (setUpstream s) = ownConf s := by
  unfold setUpstream
  (repeat' split) <;> simp

@[simp] theorem dropLink_ownConf (k next s) : ownConf (dropLink k next s) = ownConf s := by simp [dropLink]
@[simp] theorem spokeDown_ownConf (k case' s) : ownConf (spokeDown k case' s) = ownConf s := by simp [spokeDown]
@[simp] theorem settleCad_ownConf (s) : ownConf (settleCad s) = ownConf s := by simp [settleCad]
@[simp] theorem startBringUp_ownConf (k s) : ownConf (startBringUp k s) = ownConf s := by simp [startBringUp]
@[simp] theorem startFlr1_ownConf (f s) : ownConf (startFlr1 f s) = ownConf s := by simp [startFlr1]
@[simp] theorem startFlr_ownConf (f s) : ownConf (startFlr f s) = ownConf s := by simp [startFlr]
@[simp] theorem postTandem_ownConf (o s) : ownConf (postTandem o s) = ownConf s := by
  unfold postTandem
  split <;> simp

@[simp] theorem tandemParts_ownConf (code seq ws s) : ownConf (tandemParts code seq ws s) = ownConf s := by simp [tandemParts]
@[simp] theorem dmaOut_ownConf (mb ptr n pay s) : ownConf (dmaOut mb ptr n pay s) = ownConf s := by simp [dmaOut]
@[simp] theorem respond_ownConf (mb status executed pay s) : ownConf (respond mb status executed pay s) = ownConf s := by simp [respond]
@[simp] theorem finish_ownConf (mb status executed pay s) : ownConf (finish mb status executed pay s) = ownConf s := by simp [finish]
@[simp] theorem finishWait_ownConf (mb why status executed pay s) : ownConf (finishWait mb why status executed pay s) = ownConf s := by
  simp [finishWait]

@[simp] theorem settleLoops_ownConf (s) : ownConf (settleLoops s) = ownConf s := by simp [settleLoops]
@[simp] theorem putLock_ownConf (l k s) : ownConf (putLock l k s) = ownConf s := by simp [putLock]
@[simp] theorem abortPrepare_inForce (s) : inForce (ownConf (abortPrepare s)) = inForce (ownConf s) := by
  unfold abortPrepare
  split <;> simp

@[simp] theorem dropSet_inForce (l s) : inForce (ownConf (dropSet l s)) = inForce (ownConf s) := by
  unfold dropSet
  dsimp only
  (repeat' split) <;> simp

@[simp] theorem releaseLock_inForce (l s) : inForce (ownConf (releaseLock l s)) = inForce (ownConf s) := by simp [releaseLock]
@[simp] theorem removeRequester_inForce (mb s) : inForce (ownConf (removeRequester mb s)) = inForce (ownConf s) := by
  simp [removeRequester]

@[simp] theorem modPins_ownConf (ch f s) : ownConf (modPins ch f s) = ownConf s := by simp [modPins]
@[simp] theorem powerFault_ownConf (ch s) : ownConf (powerFault ch s) = ownConf s := by
  unfold powerFault
  split <;> simp

@[simp] theorem gateOff_ownConf (ch next t s) : ownConf (gateOff ch next t s) = ownConf s := by simp [gateOff]
@[simp] theorem releasePerst_ownConf (ch s) : ownConf (releasePerst ch s) = ownConf s := by simp [releasePerst]
@[simp] theorem requestOff_ownConf (ch s) : ownConf (requestOff ch s) = ownConf s := by simp [requestOff]
@[simp] theorem loadSlotRecords_ownConf (s) : ownConf (loadSlotRecords s) = ownConf s := by simp [loadSlotRecords]
@[simp] theorem resetPortSched_ownConf (p s) : ownConf (resetPortSched p s) = ownConf s := by simp [resetPortSched]
@[simp] theorem resetIngress_ownConf (att sub s) : ownConf (resetIngress att sub s) = ownConf s := by simp [resetIngress]
@[simp] theorem linkDown_ownConf (p s) : ownConf (linkDown p s) = ownConf s := by simp [linkDown]
@[simp] theorem flushPort_ownConf (p w s) : ownConf (flushPort p w s) = ownConf s := by simp [flushPort]
@[simp] theorem emptyPort_ownConf (p w s) : ownConf (emptyPort p w s) = ownConf s := by simp [emptyPort]
@[simp] theorem resetPortRegs_ownConf (p above s) : ownConf (resetPortRegs p above s) = ownConf s := by simp [resetPortRegs]
@[simp] theorem clearSlotStatus_ownConf (p s) : ownConf (clearSlotStatus p s) = ownConf s := by simp [clearSlotStatus]
@[simp] theorem spokeReset_ownConf (k s) : ownConf (spokeReset k s) = ownConf s := by simp [spokeReset]
@[simp] theorem portReset_ownConf (p above s) : ownConf (portReset p above s) = ownConf s := by
  unfold portReset
  split <;> simp

@[simp] theorem forgetMb_inForce (m s) : inForce (ownConf (forgetMb m s)) = inForce (ownConf s) := by simp [forgetMb]
@[simp] theorem idleMailbox_inForce (m s) : inForce (ownConf (idleMailbox m s)) = inForce (ownConf s) := by simp [idleMailbox]
@[simp] theorem resetPartPorts_ownConf (p s) : ownConf (resetPartPorts p s) = ownConf s := by simp [resetPartPorts]
@[simp] theorem resetPartSched_ownConf (p s) : ownConf (resetPartSched p s) = ownConf s := by simp [resetPartSched]
@[simp] theorem resetPartBridge_ownConf (p s) : ownConf (resetPartBridge p s) = ownConf s := by simp [resetPartBridge]
@[simp] theorem closePartEpisodes_ownConf (p s) : ownConf (closePartEpisodes p s) = ownConf s := by simp [closePartEpisodes]
@[simp] theorem dropHostPegs_ownConf (p s) : ownConf (dropHostPegs p s) = ownConf s := by simp [dropHostPegs]
@[simp] theorem partResetHere_ownConf (p s) : ownConf (partResetHere p s) = ownConf s := by simp [partResetHere]
@[simp] theorem dropMailbox_inForce (p s) : inForce (ownConf (dropMailbox p s)) = inForce (ownConf s) := by simp [dropMailbox]
@[simp] theorem resetPartHome_inForce (p s) : inForce (ownConf (resetPartHome p s)) = inForce (ownConf s) := by simp [resetPartHome]
@[simp] theorem tellReset_ownConf (p s) : ownConf (tellReset p s) = ownConf s := by simp [tellReset]
@[simp] theorem partitionReset_inForce (p s) : inForce (ownConf (partitionReset p s)) = inForce (ownConf s) := by simp [partitionReset]
@[simp] theorem partReleased_ownConf (p s) : ownConf (partReleased p s) = ownConf s := by simp [partReleased]
@[simp] theorem holdPart_ownConf (p s) : ownConf (holdPart p s) = ownConf s := by simp [holdPart]
@[simp] theorem unholdPart_ownConf (p s) : ownConf (unholdPart p s) = ownConf s := by simp [unholdPart]
@[simp] theorem settlePerst_inForce (s) : inForce (ownConf (settlePerst s)) = inForce (ownConf s) := by simp [settlePerst]
@[simp] theorem stopLoop_ownConf (l s) : ownConf (stopLoop l s) = ownConf s := by simp [stopLoop]
@[simp] theorem endStationLoops_ownConf (sts s) : ownConf (endStationLoops sts s) = ownConf s := by simp [endStationLoops]
@[simp] theorem portLeaves_ownConf (p s) : ownConf (portLeaves p s) = ownConf s := by simp [portLeaves]
@[simp] theorem leaveOld_ownConf (new s) : ownConf (leaveOld new s) = ownConf s := by simp [leaveOld]
@[simp] theorem enterNew_ownConf (old s) : ownConf (enterNew old s) = ownConf s := by simp [enterNew]
@[simp] theorem newBases_ownConf (old s) : ownConf (newBases old s) = ownConf s := by simp [newBases]
@[simp] theorem clearOverlay_ownConf (old s) : ownConf (clearOverlay old s) = ownConf s := by simp [clearOverlay]
@[simp] theorem commitShaper_ownConf (old k s) : ownConf (commitShaper old k s) = ownConf s := by simp [commitShaper]
@[simp] theorem commitIngress_ownConf (old att sub s) : ownConf (commitIngress old att sub s) = ownConf s := by
  unfold commitIngress
  dsimp only
  split <;> simp

@[simp] theorem commitDeficits_ownConf (old s) : ownConf (commitDeficits old s) = ownConf s := by simp [commitDeficits]
@[simp] theorem commitMarkers_ownConf (old s) : ownConf (commitMarkers old s) = ownConf s := by simp [commitMarkers]
@[simp] theorem commitRoutes_ownConf (old s) : ownConf (commitRoutes old s) = ownConf s := by simp [commitRoutes]
@[simp] theorem bootPegs_ownConf (s) : ownConf (bootPegs s) = ownConf s := by simp [bootPegs]
@[simp] theorem enterSlot_ownConf (old p s) : ownConf (enterSlot old p s) = ownConf s := by simp [enterSlot]

end Sys2Proof.Machine

/-! # The commit of a prepared configuration (R395, R414, R422) -/

namespace Sys2Proof.Machine

/-! ## The swap (R422) -/

/-- What a swap puts in force is then in force. -/
theorem putInForce_inForce (es : List CfgEntry) (epoch : Nat) (digest : BitVec 256) (isSigned : Bool) (sig : Nat) (s : State) :
    inForce (ownConf (putInForce es epoch digest isSigned sig s)) = (es, epoch, digest, s.dev) := by
  unfold putInForce
  extract_lets was _ u _ _ u1 u2 u3 u4 u5 u6 u7
  have hu : ownConf u = ownConf s := leaveOld_ownConf ..
  clear_value u
  have h1 : inForce (ownConf u1) = (es, epoch, digest, s.dev) := congrArg (fun k => (es, epoch, digest, k.2)) hu
  have h2 : ownConf u2 = ownConf u1 := by simp [u2]
  have h3 : ownConf u3 = ownConf u2 := by simp [u3]
  have h4 : ownConf u4 = ownConf u3 := by simp [u4]
  have h5 : inForce (ownConf u5) = inForce (ownConf u4) := by simp [u5]
  have h6 : ownConf u6 = ownConf u5 := by simp [u6]
  have h7 : ownConf u7 = ownConf u6 := by simp [u7]
  simp only [settleLoops_ownConf, settleCad_ownConf, noteTandem_ownConf, collapse_ownConf, forAll_ownConf, implies_true, h7, h6, h5, h4, h3,
    h2, h1]

theorem settleSwapped_ownConf (s : State) :
    ownConf (settleSwapped s) = ({ s.conf with swapped := s.conf.swapped.filter fun c => !commitDone c }, s.chip.devnum) := by
  unfold settleSwapped
  refine (forAll_ownConf (fun c t => ?_) _ _).trans rfl
  split <;> simp

theorem settleSwapped_inForce (s : State) : inForce (ownConf (settleSwapped s)) = inForce (ownConf s) ∧
    (settleSwapped s).conf.prepared = s.conf.prepared :=
  ⟨by rw [settleSwapped_ownConf]; rfl, congrArg (fun k => k.1.prepared) (settleSwapped_ownConf s)⟩

/-- After the swap, the prepared configuration is in force and no longer prepared. -/
theorem swapNow_inForce {p : Prepared} (h : s.conf.prepared = some p) :
    inForce (ownConf (swapNow late s)) = (p.entries, p.epoch, p.digest, s.dev) ∧ (swapNow late s).conf.prepared = none := by
  unfold swapNow
  split
  · next hnone => exact absurd (h.symm.trans hnone) (by simp)
  next q hq =>
  obtain rfl : p = q := Option.some.inj (h.symm.trans hq)
  extract_lets old s1 mine sets _ _ s2 s3
  have h1 : inForce (ownConf s1) = (p.entries, p.epoch, p.digest, s.dev) := putInForce_inForce ..
  clear_value s1
  have h2 : inForce (ownConf s2) = inForce (ownConf s1) := rfl
  have h3 : ownConf (raiseCauseAll 5 s3) = ownConf s2 := by simp [s3]
  obtain ⟨hforce, hprep⟩ := settleSwapped_inForce (raiseCauseAll 5 s3)
  refine ⟨?_, hprep.trans (congrArg (fun k => k.1.prepared) h3)⟩
  rw [hforce, h3, h2, h1]

/-- An armed configuration whose time has come is swapped in; before that time, and with none armed, nothing is. -/
theorem commitSwap_eq {p : Prepared} {T : Nat} (hp : s.conf.prepared = some p) (hT : p.armed = some T) :
    commitSwap s = if T ≤ s.ft.count then swapNow false s else s := by
  rw [commitSwap, hp, Option.bind_some, hT]

theorem commitSwap_unarmed (h : s.conf.prepared = none ∨ ∃ p, s.conf.prepared = some p ∧ p.armed = none) : commitSwap s = s := by
  rcases h with hp | ⟨p, hp, hT⟩
  · rw [commitSwap, hp, Option.bind_none]
  · rw [commitSwap, hp, Option.bind_some, hT]

/-! ## The drain, the image and its seal (R223, R414, R415) -/

theorem putCfgSlot_dev (b : Bool) (x : CfgSlot) (s : State) : (putCfgSlot b x s).dev = s.dev := by
  cases b <;> rfl

theorem putCfgSlot_drainedAt (b : Bool) (x : CfgSlot) (s : State) : (putCfgSlot b x s).conf.drainedAt = s.conf.drainedAt := by
  cases b <;> rfl

theorem b2n_beq_one (b : Bool) : (b2n b == 1) = b := by cases b <;> rfl

theorem reportDone_own {d n at' : Nat} {s : State} (epoch : Nat) (isSealed slot : Bool) (hn : s.dev = n) (hat : s.conf.drainedAt = at') (h : d = n) :
    reportDone d epoch isSealed slot s = noteDone epoch n isSealed at' s := by
  rw [reportDone, hn, hat, if_pos h]

theorem reportDone_other {d n at' : Nat} {s : State} (epoch : Nat) (isSealed slot : Bool) (hn : s.dev = n) (hat : s.conf.drainedAt = at')
    (h : d ≠ n) : reportDone d epoch isSealed slot s = post (.mgmt d 0x0107 [epoch, n, b2n isSealed, b2n slot, at']) s := by
  rw [reportDone, hn, hat, if_neg h]

/-- Frames that were in the hub at the swap, and are there still, hold its drain. -/
theorem drains_eq_true_iff (d : Drain) (s : State) : drains s d = true ↔ ∃ f ∈ s.hub.frames, inHub f = true ∧ f.fid ∈ d.frames := by
  simp [drains]

theorem drainDone_waits (h : ∀ d ∈ s.conf.drain, ∃ f ∈ s.hub.frames, inHub f = true ∧ f.fid ∈ d.frames) : drainDone s = s :=
  if_pos (List.all_eq_true.2 fun d hd => (drains_eq_true_iff d s).2 (h d hd))

theorem drainDone_one {d : Drain} (hd : s.conf.drain = [d]) (hgone : ∀ f ∈ s.hub.frames, inHub f = true → f.fid ∉ d.frames) :
    drainDone s = reportDone d.coord d.epoch false (nextCfgSlot s) { s with conf.drain := [], conf.drainedAt := s.ft.count } := by
  have hno : drains s d = false := Bool.eq_false_of_not_eq_true fun h => by
    obtain ⟨f, hf, hin, hmem⟩ := (drains_eq_true_iff d s).1 h
    exact hgone f hf hin hmem
  unfold drainDone
  rw [hd]
  simp [hno, forAll]

/-- The image goes to the slot that does not hold the newest one, numbered after it. -/
theorem configImageWrite_eq {w : Nat × Nat} (hw : s.conf.write = some w) (hseal : s.conf.sealing = false) (hruns : mcRuns s = true) :
    configImageWrite s =
      (let b := (newestCfg s).elim false (fun n => !n)
       let seq := (newestCfg s).elim 1 (fun n => ((s.cfgSlot n).seq + 1) % 2 ^ 32)
       emit (.flash 1 (b2n b)) (emit (.flash 0 (b2n b)) (putCfgSlot b
         { magic := true, header := true, seq := seq, epoch := s.conf.epoch, signed := s.conf.signed
           sig := if s.conf.signed then s.conf.sig else 0
           digest := s.conf.digest, body := s.conf.entries, sealWord := none }
         { s with conf.write := some (b2n b, seq), conf.sealing := true }))) := by
  refine (if_pos (by rw [hw, hseal, hruns]; rfl)).trans ?_
  unfold nextCfgSlot
  cases newestCfg s <;> rfl

theorem sealWrite_eq {d seq : Nat} {slot : Bool} (hw : s.conf.write = some (b2n slot, seq)) (hseal : s.conf.sealing = true)
    (hruns : mcRuns s = true) (hd : s.conf.doneTo = some d) :
    sealWrite s = reportDone d s.conf.epoch true slot (emit (.flash 2 (b2n slot))
      (putCfgSlot slot { s.cfgSlot slot with sealWord := some seq } { s with conf.write := none, conf.sealing := false })) := by
  unfold sealWrite
  rw [hw]
  refine (if_pos (by rw [hseal, hruns]; rfl)).trans ?_
  rw [hd, b2n_beq_one]

end Sys2Proof.Machine

namespace Sys2Proof.Machine

/-! ## CFG_COMMIT (R395) -/

section
variable {b : State} {r : Req} {l T : Nat} {c : Coord} {p : Prepared}

/-- CFG_COMMIT may arm the prepared configuration p of the commit c for T. -/
structure CommitPasses (r : Req) (l T : Nat) (c : Coord) (p : Prepared) (s : State) : Prop where
  lock : setLock s r = some l
  time : timeLocked s = true
  payload : payloadBad r [2 ^ 64 - 2 ^ 32 + 3, 2 ^ 64 - 1, 2 ^ 64 - 1] = none
  wait : pf r 0 1 0 ≠ 3
  swapAt : T = if (rPay r).getD 2 0 = 0 then s.ft.count + ms else ((rPay r).getD 2 0).toNat
  soonest : s.ft.count + 100 * us ≤ T
  latest : T ≤ s.ft.count + 10 * oneSec
  coord : s.conf.coord = some c
  prepared : s.conf.prepared = some p
  sameLock : c.lock = l
  first : c.committing = false
  decided : c.decided = true
  epoch : c.epoch = pf r 0 63 32
  prefix_eq : c.pfx = ((rPay r).getD 1 0).toNat
  held : s.now < p.heldUntil

theorem cfgCommitBody_passes (h : CommitPasses r l T c p b) : cfgCommitBody r b =
    (.waits waitCommit, forAll (c.members.filter (· != b.dev)) (fun d => post (.mgmt d 0x0104 [c.epoch, c.pfx, T]))
      (putSet l { stageSet b l with committed := true } { b with
        conf.coord := some { c with committing := true, wait := pf r 0 1 0, swapAt := T, commitMb := some r.mb, armed := [b.dev] }
        conf.prepared := some { p with armed := some T } })) := by
  obtain ⟨hlock, htime, hpay, hwait, rfl, hsoon, hlate, hcoord, hprep, hsame, hfirst, hdec, hepoch, hpfx, hheld⟩ := h
  have hstale : ¬ (decide (c.lock ≠ l) || c.committing || !c.decided || decide (p.heldUntil ≤ b.now)) = true := by
    simp [hsame, hfirst, hdec, hheld]
  have hrange : ¬ (decide ((if (rPay r).getD 2 0 = 0 then b.ft.count + ms else ((rPay r).getD 2 0).toNat) < b.ft.count + 100 * us) ||
      decide (b.ft.count + 10 * oneSec < if (rPay r).getD 2 0 = 0 then b.ft.count + ms else ((rPay r).getD 2 0).toNat)) = true := by
    simp only [Bool.or_eq_true, decide_eq_true_eq, not_or, Nat.not_lt]
    exact ⟨hsoon, hlate⟩
  rw [cfgCommitBody, hlock]
  refine (if_neg (by simp [htime])).trans ?_
  rw [hpay]
  refine (if_neg hwait).trans ((if_neg hrange).trans ?_)
  rw [hcoord, hprep]
  exact (if_neg hstale).trans ((if_neg fun h => h hpfx.symm).trans (if_neg fun h => h hepoch.symm))

end

end Sys2Proof.Machine

namespace Sys2Proof

open Machine

/-- Settles O22: the command arms, the swap at T puts the prepared set in force, and the drain's and the seal's ends are reported. -/
theorem commitArmsSwapsAndSeals : Obligations.CommitArmsSwapsAndSeals := by
  refine ⟨?command, fun s dt => ?_⟩
  case command =>
    intro s dt r l a b x hl _ c p T hsent hpay hwait htime hT hsoon hlate hcoord hprep hlock hfirst hdec hepoch hpfx hheld
    exact opcode_gives hsent (congrArg (conclude r) (cfgCommitBody_passes
      ⟨hl, htime, hpay, hwait, hT, hsoon, hlate, hcoord, hprep, hlock, hfirst, hdec, hepoch, hpfx, hheld⟩))
  intro a
  refine ⟨?swap, ?early, ?unarmed, ?drained, ?draining, ?image, ?sealed⟩
  case swap =>
    intro p T hp hT htime
    obtain ⟨hforce, hnone⟩ := swapNow_inForce (late := false) hp
    exact ⟨_, run_gives (f := commitSwap) rfl ((commitSwap_eq hp hT).trans (if_pos htime)), rfl, congrArg (·.1) hforce, congrArg (·.2.1) hforce,
      congrArg (·.2.2.1) hforce, hnone⟩
  case early =>
    intro p T hp hT htime
    exact run_gives (f := commitSwap) rfl ((commitSwap_eq hp hT).trans (if_neg (Nat.not_le.2 htime)))
  case unarmed => exact fun h => run_gives (f := commitSwap) rfl (commitSwap_unarmed h)
  case drained =>
    intro d hd hgone b
    have hdone := drainDone_one hd hgone
    exact ⟨fun h => run_gives (f := drainDone) rfl (hdone.trans (reportDone_other _ _ _ rfl rfl h)),
      fun h => run_gives (f := drainDone) rfl (hdone.trans (reportDone_own _ _ _ rfl rfl h))⟩
  case draining => exact fun h => run_gives (f := drainDone) rfl (drainDone_waits h)
  case image =>
    intro w hw hseal hruns
    exact run_gives (f := configImageWrite) rfl (configImageWrite_eq hw hseal hruns)
  case sealed =>
    intro d slot seq hw hseal hruns hd b
    have hb : b.dev = a.dev := putCfgSlot_dev ..
    have hat : b.conf.drainedAt = a.conf.drainedAt := putCfgSlot_drainedAt ..
    have hdone := sealWrite_eq hw hseal hruns hd
    exact ⟨fun h => run_gives (f := sealWrite) rfl (hdone.trans (reportDone_other _ _ _ hb hat h)),
      fun h => run_gives (f := sealWrite) rfl (hdone.trans (reportDone_own _ _ _ hb hat h))⟩

end Sys2Proof

/-! # The members of a commit and its coordinator (R419 to R422) -/

namespace Sys2Proof.Machine

section
variable {a : State} {src epoch base T : Nat} {corrective : Bool} {p : Prepared} {c : Coord}

/-! ## The member -/

theorem onlyIf_mcRuns {f : State → State} (h : mcRuns a = true) : onlyIf (mcRuns a) f a = f a := by rw [h]; rfl

theorem cmtImage_next {es : List CfgEntry} (hof : a.conf.incomingOf = (src, epoch)) (h0 : 0 < cfgLength a.conf.incoming) :
    cmtImage src epoch (cfgLength a.conf.incoming) es a = { a with conf.incoming := a.conf.incoming ++ es } :=
  (if_neg (Nat.pos_iff_ne_zero.1 h0)).trans (if_pos ⟨hof, rfl⟩)

/-- A member votes for a whole image that passes its checks, and holds it prepared. -/
theorem cmtPrepare_votes (hnone : a.conf.prepared = none) (hof : a.conf.incomingOf = (src, epoch)) (hcanon : cfgCanon a.conf.incoming = true)
    (hstatus : candidateStatus corrective false base a.conf.incoming a = (stOk, noRec)) :
    cmtPrepare src epoch base corrective (cfgLength a.conf.incoming) (sha3 (cfgBytes a.conf.incoming)) a =
      post (.mgmt src 0x0103 [epoch, a.dev, stOk]) { a with conf.prepared := some {
        coord := src, epoch := epoch, base := base, entries := a.conf.incoming, digest := sha3 (cfgBytes a.conf.incoming)
        voted := true, heldUntil := a.now + 60 * oneSec, armed := none, late := false, sig := 0, signed := false } } := by
  have hwhole : (a.conf.incomingOf == (src, epoch) && cfgLength a.conf.incoming == cfgLength a.conf.incoming &&
      sha3 (cfgBytes a.conf.incoming) == sha3 (cfgBytes a.conf.incoming) && cfgCanon a.conf.incoming) = true := by
    rw [hof, hcanon, beq_self_eq_true, beq_self_eq_true, beq_self_eq_true]
    rfl
  unfold cmtPrepare
  simp only [hnone, Option.isSome_none, hstatus, hwhole]
  exact congrArg (post _) (if_pos rfl)

theorem cmtCommit_prepared (hp : a.conf.prepared = some p) (hsrc : p.coord = src) (hepoch : p.epoch = epoch) (hun : p.armed = none) :
    cmtCommit src epoch (digestPfx p.digest) T a =
      if T ≤ a.ft.count then sendArmed src epoch stOk true (swapNow true a).conf.lastSwap (swapNow true a)
      else sendArmed src epoch stOk false 0 { a with conf.prepared := some { p with armed := some T } } := by
  have hmatch : a.conf.prepared.filter (fun q => q.coord == src && q.epoch == epoch && digestPfx q.digest == digestPfx p.digest) = some p := by
    rw [hp]
    exact if_pos (by simp [hsrc, hepoch])
  unfold cmtCommit
  rw [hmatch]
  exact if_neg (by simp [hun])

theorem swapNow_dev (hp : a.conf.prepared = some p) (late : Bool) : (swapNow late a).dev = a.dev :=
  congrArg (·.2.2.2) (swapNow_inForce hp).1

theorem holdExpiry_member (hp : a.conf.prepared = some p) (hun : p.armed = none) (hheld : p.heldUntil ≤ a.now) (hc : a.conf.coord = none) :
    holdExpiry a = { a with conf.prepared := none } := by
  unfold holdExpiry
  rw [hp]
  refine (if_pos (by simp [hun, hheld])).trans ?_
  rw [hc]

/-! ## The coordinator -/

/-- A first vote of a member is counted, then the votes are settled. -/
theorem cmtVote_counted {dev : Nat} (hc : a.conf.coord = some c) (hun : c.decided = false) (hdev : dev ∈ c.members)
    (hfirst : tfind c.votes dev = none) :
    cmtVote c.epoch dev 0 a = settleVotes { a with conf.coord := some { c with votes := tput c.votes dev 0 } } := by
  unfold cmtVote
  rw [hc]
  exact if_pos (by simp [hun, hdev, hfirst])

theorem settleVotes_waits (hc : a.conf.coord = some c) (h : ∃ e ∈ c.members, tfind c.votes e = none) : settleVotes a = a := by
  obtain ⟨e, he, hnone⟩ := h
  have hmiss : (c.decided || c.members.any fun d => (tfind c.votes d).isNone) = true :=
    Bool.or_eq_true_iff.2 (.inr (List.any_eq_true.2 ⟨e, he, by rw [hnone]; rfl⟩))
  unfold settleVotes
  rw [hc]
  cases a.conf.prepared with
  | none => rfl
  | some p => exact if_pos hmiss

theorem settleVotes_agreed (hc : a.conf.coord = some c) (hp : a.conf.prepared = some p) (hun : c.decided = false)
    (h : ∀ e ∈ c.members, tfind c.votes e = some 0) :
    settleVotes a = finishWait c.mb waitPrepare stOk true (prepareResponse p) { a with conf.coord := some { c with decided := true } } := by
  have hall : ¬ (c.decided || c.members.any fun d => (tfind c.votes d).isNone) = true := by
    simp only [hun, Bool.false_or, List.any_eq_true, not_exists, not_and]
    exact fun e he => by rw [h e he]; decide
  have hagree : firstRefusal c = none := List.find?_eq_none.2 fun e he => by rw [tget, h e he]; decide
  unfold settleVotes
  rw [hc, hp]
  refine (if_neg hall).trans ?_
  rw [hagree]

theorem cmtVote_last {dev : Nat} (hc : a.conf.coord = some c) (hp : a.conf.prepared = some p) (hun : c.decided = false)
    (hdev : dev ∈ c.members) (hfirst : tfind c.votes dev = none) (h : ∀ e ∈ c.members, tfind (tput c.votes dev 0) e = some 0) :
    cmtVote c.epoch dev 0 a = finishWait c.mb waitPrepare stOk true (quad [(63, 32, p.epoch)] :: quads256 p.digest)
      { a with conf.coord := some { c with votes := tput c.votes dev 0, decided := true } } :=
  (cmtVote_counted hc hun hdev hfirst).trans
    (settleVotes_agreed (c := { c with votes := tput c.votes dev 0 }) (a := { a with conf.coord := some { c with votes := tput c.votes dev 0 } })
      rfl hp hun h)

/-- What CMT_ARMED, CMT_ABORT, CMT_COMMIT_REPEAT and PREPARE_TIMEOUT do. -/
def cmtArmed (epoch dev : Nat) (s : State) : State :=
  { s with conf.coord := s.conf.coord.map fun c =>
      if c.epoch = epoch && c.committing && !c.armed.contains dev then { c with armed := c.armed ++ [dev] } else c }

def cmtAbort (src epoch : Nat) (s : State) : State := match s.conf.prepared with
  | some p => if p.coord = src ∧ p.epoch = epoch ∧ p.armed.isNone then { s with conf.prepared := none } else s
  | none => s

def cmtCommitRepeat (s : State) : State := match s.conf.coord with
  | some c =>
    if c.committing && decide (s.ft.count < c.swapAt) then
      forAll (c.members.filter fun d => !c.armed.contains d) (fun d => post (.mgmt d 0x0104 [c.epoch, c.pfx, c.swapAt])) s
    else s
  | none => s

def prepareTimeout (s : State) : State := match s.conf.coord with
  | some c =>
    if !c.decided && decide (c.deadline ≤ s.now) then match firstRefusal c, s.conf.prepared with
      | some d, some p => refusedBy c p d s
      | _, _ => failPrepare stTimeout [] s
    else s
  | none => s

theorem cmtArmed_eq {dt : Time} {dev status at' : Nat} {late : Bool} {s : State} :
    exec (.cmtArmed dt epoch dev status late at') s = run dt (okDev dev) (cmtArmed epoch dev) s := rfl

theorem cmtAbort_eq {dt : Time} {s : State} : exec (.cmtAbort dt src epoch) s = run dt (okDev src) (cmtAbort src epoch) s := rfl

theorem cmtCommitRepeat_eq {dt : Time} {s : State} : exec (.cmtCommitRepeat dt) s = run dt true cmtCommitRepeat s := rfl

theorem prepareTimeout_eq {dt : Time} {s : State} : exec (.prepareTimeout dt) s = run dt true prepareTimeout s := rfl

theorem cmtAbort_unarmed (hp : a.conf.prepared = some p) (hsrc : p.coord = src) (hepoch : p.epoch = epoch) (hun : p.armed = none) :
    cmtAbort src epoch a = { a with conf.prepared := none } := by
  unfold cmtAbort
  rw [hp]
  exact if_pos ⟨hsrc, hepoch, by rw [hun]; rfl⟩

theorem cmtArmed_first {dev : Nat} (hc : a.conf.coord = some c) (hcom : c.committing = true) (hfirst : dev ∉ c.armed) :
    cmtArmed c.epoch dev a = { a with conf.coord := some { c with armed := c.armed ++ [dev] } } := by
  have hnew : (if c.epoch = c.epoch && c.committing && !c.armed.contains dev then { c with armed := c.armed ++ [dev] } else c) =
      { c with armed := c.armed ++ [dev] } := if_pos (by simp [hcom, hfirst])
  unfold cmtArmed
  rw [hc, Option.map_some, hnew]

theorem cmtCommitRepeat_early (hc : a.conf.coord = some c) (hcom : c.committing = true) (hearly : a.ft.count < c.swapAt) :
    cmtCommitRepeat a = forAll (c.members.filter fun d => !c.armed.contains d)
      (fun d => post (.mgmt d 0x0104 [c.epoch, c.pfx, c.swapAt])) a := by
  unfold cmtCommitRepeat
  rw [hc]
  exact if_pos (by simp [hcom, hearly])

/-- A prepare whose members have not all voted in time, and none against it, ends TIMEOUT. -/
theorem prepareTimeout_late (hc : a.conf.coord = some c) (hun : c.decided = false) (hlate : c.deadline ≤ a.now)
    (hno : ∀ e ∈ c.members, tget 0 c.votes e = 0) :
    prepareTimeout a = finishWait c.mb waitPrepare stTimeout false [] (reopen c.lock (abortPrepare a)) := by
  have hagree : firstRefusal c = none := List.find?_eq_none.2 fun e he => by rw [hno e he]; decide
  unfold prepareTimeout failPrepare
  simp only [hc, hagree]
  exact if_pos (by simp [hun, hlate])

/-! ## Members' reports after the swap -/

/-- A commit with a member's report noted. -/
def noted (epoch dev : Nat) (isSealed : Bool) (drain : Nat) (c : Coord) : Coord :=
  if c.epoch ≠ epoch then c
  else { c with
    done := if isSealed then c.done else tput c.done dev drain
    sealedBy := if isSealed && !c.sealedBy.contains dev then c.sealedBy ++ [dev] else c.sealedBy }

theorem noteDone_eq (epoch dev : Nat) (isSealed : Bool) (drain : Nat) (s : State) : noteDone epoch dev isSealed drain s =
    settleSwapped { s with
      conf.coord := s.conf.coord.map (noted epoch dev isSealed drain)
      conf.swapped := s.conf.swapped.map (noted epoch dev isSealed drain) } := rfl

theorem noted_drained (c : Coord) (dev drain : Nat) : noted c.epoch dev false drain c = { c with done := tput c.done dev drain } :=
  if_neg (fun h => h rfl)

theorem noted_sealed {dev : Nat} (hfirst : dev ∉ c.sealedBy) (drain : Nat) :
    noted c.epoch dev true drain c = { c with sealedBy := c.sealedBy ++ [dev] } := by
  refine (if_neg (fun h => h rfl)).trans ?_
  rw [show (true && !c.sealedBy.contains dev) = true by simp [hfirst]]
  rfl

/-- Commits of which none is done stay. -/
theorem settleSwapped_waits {s : State} (h : ∀ c ∈ s.conf.swapped, commitDone c = false) : settleSwapped s = s := by
  have hnone : s.conf.swapped.filter commitDone = [] := List.filter_eq_nil_iff.2 fun c hc => by rw [h c hc]; decide
  have hall : (s.conf.swapped.filter fun c => !commitDone c) = s.conf.swapped := List.filter_eq_self.2 fun c hc => by rw [h c hc]; rfl
  unfold settleSwapped
  simp only [hnone, hall]
  rfl

theorem settleSwapped_done {m : Nat} {s : State} (hdone : commitDone c = true) (hm : c.commitMb = some m) :
    settleSwapped { s with conf.swapped := [c] } =
      finishWait m waitCommit stOk true (commitResponse { s with conf.swapped := [] } c) { s with conf.swapped := [] } := by
  unfold settleSwapped
  simp [hdone, hm, forAll]

theorem noteDone_coordinator {dev drain : Nat} (hc : a.conf.coord = some c) (hs : a.conf.swapped = []) :
    noteDone c.epoch dev false drain a = { a with conf.coord := some { c with done := tput c.done dev drain } } := by
  rw [noteDone_eq, hc, hs, Option.map_some, noted_drained, List.map_nil, ← hs]
  exact settleSwapped_waits fun c h => absurd (hs ▸ h) List.not_mem_nil

theorem noteDone_swapped {dev drain : Nat} {isSealed : Bool} (hc : a.conf.coord = none) (hs : a.conf.swapped = [c]) :
    noteDone c.epoch dev isSealed drain a = settleSwapped { a with conf.swapped := [noted c.epoch dev isSealed drain c] } := by
  rw [noteDone_eq, hc, hs, Option.map_none, ← hc]
  rfl

theorem commitWaitTimeout_late {m : Nat} (hs : a.conf.swapped = [c]) (hm : c.commitMb = some m) (hlate : c.swapAt + 3 * oneSec ≤ a.ft.count) :
    commitWaitTimeout a = finishWait m waitCommit stTimeout true [] { a with conf.swapped := [] } := by
  unfold commitWaitTimeout
  simp [hs, hlate, hm, forAll]

end

end Sys2Proof.Machine

namespace Sys2Proof

open Machine

/-- Settles O23: each message has its effect in the state its clause describes. -/
theorem membersAndCoordinator : Obligations.MembersAndCoordinator := by
  refine ⟨?member, ?coordinator⟩
  case member =>
    intro s dt src epoch a hsrc hruns
    have hok : okDev src = true := decide_eq_true hsrc
    have onMc {f : State → State} : onlyIf (mcRuns a) f a = f a := onlyIf_mcRuns hruns
    refine ⟨fun es => ?_, fun es hof h0 => ?_, fun base corrective hnone hof hcanon hstatus => ?_,
      fun p T hp hc he hun => ⟨fun hT => ?_, fun hT => ?_⟩, fun p hp hc he hun => ?_, fun p hp hun hheld hc => ?_⟩
    · exact run_gives hok (onMc.trans (if_pos rfl))
    · exact run_gives hok (onMc.trans (cmtImage_next hof h0))
    · exact run_gives hok (onMc.trans (cmtPrepare_votes hnone hof hcanon hstatus))
    · exact run_gives hok (onMc.trans ((cmtCommit_prepared hp hc he hun).trans ((if_neg (Nat.not_le.2 hT)).trans rfl)))
    · refine run_gives hok (onMc.trans ((cmtCommit_prepared hp hc he hun).trans ((if_pos hT).trans ?_)))
      rw [sendArmed, swapNow_dev hp]
      rfl
    · exact cmtAbort_eq.trans (run_gives hok (cmtAbort_unarmed hp hc he hun))
    · exact run_gives (f := holdExpiry) rfl (holdExpiry_member hp hun hheld hc)
  case coordinator =>
    intro s dt c a
    refine ⟨fun hc => ⟨?vote, ?last, ?timeout, ?armed, ?again, ?drained⟩, fun hc hs m hm => ⟨?allDrained, ?oneSealed, ?late⟩⟩
    case vote =>
      intro dev hdev hruns hun hmem hfirst hmiss
      refine run_gives (decide_eq_true hdev) ((onlyIf_mcRuns hruns).trans ?_)
      rw [cmtVote_counted hc hun hmem hfirst]
      exact settleVotes_waits rfl hmiss
    case last =>
      intro dev p hdev hruns hun hmem hfirst hall hp
      exact run_gives (decide_eq_true hdev) ((onlyIf_mcRuns hruns).trans (cmtVote_last hc hp hun hmem hfirst hall))
    case timeout => exact fun hun hlate hno => prepareTimeout_eq.trans (run_gives rfl (prepareTimeout_late hc hun hlate hno))
    case armed =>
      exact fun dev st late sw hdev hcom hfirst => cmtArmed_eq.trans (run_gives (decide_eq_true hdev) (cmtArmed_first hc hcom hfirst))
    case again => exact fun hcom hearly => cmtCommitRepeat_eq.trans (run_gives rfl (cmtCommitRepeat_early hc hcom hearly))
    case drained => exact fun dev slot drain hdev hs => run_gives (decide_eq_true hdev) (noteDone_coordinator hc hs)
    case allDrained =>
      intro dev drain slot hdev hwait hall
      have hdone : commitDone (noted c.epoch dev false drain c) = true := by
        rw [noted_drained, commitDone, hwait]
        exact List.all_eq_true.2 hall
      have hm' : (noted c.epoch dev false drain c).commitMb = some m := by rw [noted_drained]; exact hm
      have htime : (noted c.epoch dev false drain c).tSwap = c.tSwap := by rw [noted_drained]
      refine ⟨_, ?first, run_gives (decide_eq_true hdev) ((noteDone_swapped hc hs).trans (settleSwapped_done hdone hm'))⟩
      rw [commitResponse, htime, List.take_succ_cons, List.take_zero]
    case oneSealed =>
      intro dev drain slot hdev hwait hfirst hmiss
      obtain ⟨d, hd, hne, hnot⟩ := hmiss
      refine run_gives (decide_eq_true hdev) ((noteDone_swapped hc hs).trans ?_)
      rw [noted_sealed hfirst]
      have hwaits : commitDone { c with sealedBy := c.sealedBy ++ [dev] } = false := by
        simp only [commitDone, hwait]
        exact List.all_eq_false.2 ⟨d, hd, by simp [hne, hnot]⟩
      refine settleSwapped_waits fun c' hc' => ?_
      rw [List.mem_singleton.1 hc']
      exact hwaits
    case late => exact fun hlate => run_gives (f := commitWaitTimeout) rfl (commitWaitTimeout_late hs hm hlate)

end Sys2Proof

/-! # Locks (R376 to R379, R397) -/

namespace Sys2Proof.Machine

section
variable {s a : State} {r : Req} {l mb : Nat} {k : Lock}

/-! ## Reading a lock -/

theorem holdsLock_iff : holdsLock s mb l = true ↔ (findLock s l).owner = some mb := beq_iff_eq

/-- A lock that is put reads back; one that no one holds and no one waits for reads as free. -/
theorem findLock_putLock (l : Nat) (k : Lock) (s : State) :
    (findLock (putLock l k s) l).owner = k.owner ∧ (findLock (putLock l k s) l).waiters = k.waiters := by
  by_cases h : (k.owner.isNone && k.waiters.isEmpty) = true
  · have hfree : findLock (putLock l k s) l = {} := by
      rw [findLock, putLock, if_pos h, tfind_tdel, Option.getD_none]
    obtain ⟨howner, hwaiters⟩ := Bool.and_eq_true_iff.1 h
    rw [hfree, Option.isNone_iff_eq_none.1 howner, List.isEmpty_iff.1 hwaiters]
    exact ⟨rfl, rfl⟩
  · have hput : findLock (putLock l k s) l = k := by
      rw [findLock, putLock, if_neg h, tfind_tput, Option.getD_some]
    rw [hput]
    exact ⟨rfl, rfl⟩

theorem findLock_putLock_ne {j : Nat} (h : j ≠ l) (k : Lock) (s : State) : findLock (putLock l k s) j = findLock s j := by
  rw [findLock, findLock, putLock]
  split
  · rw [tfind_tdel_ne _ h]
  · rw [tfind_tput_ne _ _ h]

theorem findLock_congr {s t : State} (h : t.mgmt.lock = s.mgmt.lock) (l : Nat) : findLock t l = findLock s l := by
  rw [findLock, findLock, h]

theorem settlePrio_lock (s : State) : (settlePrio s).mgmt.lock = s.mgmt.lock := by
  unfold settlePrio
  refine (forAll_field (fun t => t.mgmt.lock) _ ?_ _ _).trans ?_
  · exact fun _ _ => rfl
  · rfl

theorem settlePrio_chip (s : State) : (settlePrio s).chip = s.chip := by
  unfold settlePrio
  refine (forAll_field (fun t => t.chip) _ ?_ _ _).trans ?_
  · exact fun _ _ => rfl
  · rfl

/-! ## A cycle of the arbiter -/

/-- A free lock once granted to a waiter. -/
def grantTo (l : Nat) (w : Nat × Nat × Time) (s : State) : State :=
  putLock l { owner := some w.1, waiters := (findLock s l).waiters.filter fun x => x.1 != w.1, granted := s.ft.count } s

/-- The waiter's command completes, if it is this lock that its mailbox asks for. -/
def grantEnds (l : Nat) (w : Nat × Nat × Time) (s : State) : State :=
  if acquires s w.1 = some l then
    finishWait w.1 waitLock stOk true [BitVec.ofNat 64 s.ft.count] (modMb w.1 (fun m => { m with took := true }) s)
  else s

theorem grantLock_best {w : Nat × Nat × Time} (hfree : (findLock (settlePrio s) l).owner = none)
    (hbest : bestWaiter (settlePrio s) (findLock (settlePrio s) l).waiters = some w) :
    grantLock l s = grantEnds l w (grantTo l w (settlePrio s)) := by
  unfold grantLock
  refine (if_neg (by rw [hfree]; decide)).trans ?_
  rw [hbest]
  rfl

theorem grantLock_held (h : (findLock (settlePrio s) l).owner ≠ none) : grantLock l s = settlePrio s :=
  if_pos (Option.isSome_iff_ne_none.2 h)

theorem grantLock_none (h : (findLock (settlePrio s) l).waiters = []) : grantLock l s = settlePrio s := by
  unfold grantLock
  dsimp only
  split
  · rfl
  · rw [h]
    rfl

theorem grantEnds_lock (l : Nat) (w : Nat × Nat × Time) (s : State) : (grantEnds l w s).mgmt.lock = s.mgmt.lock ∧ (grantEnds l w s).chip = s.chip := by
  unfold grantEnds
  split
  · exact finishWait_lock ..
  · exact ⟨rfl, rfl⟩

/-- A cycle of a lock's arbiter leaves the other locks, the local time, and no free lock that is waited for. -/
theorem grantLock_spec (l : Nat) (s : State) : (∀ j, j ≠ l → findLock (grantLock l s) j = findLock s j) ∧ (grantLock l s).chip = s.chip ∧
    ((findLock s l).waiters ≠ [] → (findLock (grantLock l s) l).owner ≠ none) := by
  have hlock (j : Nat) : findLock (settlePrio s) j = findLock s j := findLock_congr (settlePrio_lock s) j
  by_cases hfree : (findLock (settlePrio s) l).owner = none
  · cases hbest : bestWaiter (settlePrio s) (findLock (settlePrio s) l).waiters with
    | none =>
      have hnone := bestWaiter_eq_none hbest
      rw [grantLock_none hnone]
      exact ⟨fun j _ => hlock j, settlePrio_chip s, fun h => absurd (hlock l ▸ hnone) h⟩
    | some w =>
      obtain ⟨hends, hchip⟩ := grantEnds_lock l w (grantTo l w (settlePrio s))
      rw [grantLock_best hfree hbest]
      refine ⟨fun j hj => ?_, hchip.trans (settlePrio_chip s), fun _ => ?_⟩
      · rw [findLock_congr hends, grantTo, findLock_putLock_ne hj, hlock]
      · rw [findLock_congr hends, grantTo, (findLock_putLock ..).1]
        exact Option.some_ne_none _
  · rw [grantLock_held hfree]
    exact ⟨fun j _ => hlock j, settlePrio_chip s, fun _ => hfree⟩

/-! ## A request's time runs out -/

/-- What the expiry of a mailbox's requests does at one lock. -/
def expireAt (mb l : Nat) (s : State) : State :=
  let s := if (findLock s l).owner.isNone && (findLock s l).waiters.any fun w => w.1 == mb then grantLock l s else s
  let k := findLock s l
  if k.waiters.any fun w => w.1 == mb && decide (w.2.2 ≤ s.now) then
    let s1 := putLock l { k with waiters := k.waiters.filter fun w => w.1 != mb } s
    if acquires s1 mb = some l then finishWait mb waitLock stNoLock false [] s1 else s1
  else s

theorem lockExpiry_eq (mb : Nat) (s : State) : lockExpiry mb s = forAll (tkeys s.mgmt.lock) (expireAt mb) s := rfl

theorem expireAt_stays (hfree : (findLock s l).owner = none → ∀ w ∈ (findLock s l).waiters, w.1 ≠ mb)
    (hdue : ∀ w ∈ (findLock s l).waiters, w.1 = mb → s.now < w.2.2) : expireAt mb l s = s := by
  have hno : ¬ ((findLock s l).owner.isNone && (findLock s l).waiters.any fun w => w.1 == mb) = true := by
    simp only [Bool.and_eq_true, Option.isNone_iff_eq_none, List.any_eq_true, beq_iff_eq, not_and, not_exists]
    exact hfree
  have hlater : ¬ ((findLock s l).waiters.any fun w => w.1 == mb && decide (w.2.2 ≤ s.now)) = true := by
    simp only [List.any_eq_true, Bool.and_eq_true, beq_iff_eq, decide_eq_true_eq, not_exists, not_and, Nat.not_le]
    exact hdue
  unfold expireAt
  rw [if_neg hno]
  exact if_neg hlater

/-- At a lock that the mailbox does not wait for, nothing happens. -/
theorem expireAt_other (h : ∀ w ∈ (findLock s l).waiters, w.1 ≠ mb) : expireAt mb l s = s :=
  expireAt_stays (fun _ => h) fun w hw hmb => absurd hmb (h w hw)

/-- The state after a free lock that the mailbox waits for has been granted. -/
def grantedFirst (l : Nat) (s : State) : State := if (findLock s l).owner = none then grantLock l s else s

theorem grantedFirst_spec (l : Nat) (s : State) : (∀ j, j ≠ l → findLock (grantedFirst l s) j = findLock s j) ∧
    (grantedFirst l s).chip = s.chip ∧ ((findLock s l).waiters ≠ [] → (findLock (grantedFirst l s) l).owner ≠ none) := by
  unfold grantedFirst
  split
  · exact grantLock_spec l s
  · next h => exact ⟨fun _ _ => rfl, rfl, fun _ => h⟩

/-- The request of a mailbox is withdrawn from a lock. -/
def withdraw (mb l : Nat) (s : State) : State :=
  putLock l { findLock s l with waiters := (findLock s l).waiters.filter fun w => w.1 != mb } s

theorem expireAt_waited (hmb : ∃ w ∈ (findLock s l).waiters, w.1 = mb) : expireAt mb l s =
    if ∃ w ∈ (findLock (grantedFirst l s) l).waiters, w.1 = mb ∧ w.2.2 ≤ s.now then
      if acquires (grantedFirst l s) mb = some l then finishWait mb waitLock stNoLock false [] (withdraw mb l (grantedFirst l s))
      else withdraw mb l (grantedFirst l s)
    else grantedFirst l s := by
  have hnow : (grantedFirst l s).now = s.now := congrArg Chip.upTime (grantedFirst_spec l s).2.1
  have hany : ((findLock s l).waiters.any fun w => w.1 == mb) = true := by simpa using hmb
  have hfirst : (if (findLock s l).owner.isNone && (findLock s l).waiters.any fun w => w.1 == mb then grantLock l s else s) = grantedFirst l s := by
    simp only [hany, Bool.and_true, Option.isNone_iff_eq_none, grantedFirst]
  have hdue : ((findLock (grantedFirst l s) l).waiters.any fun w => w.1 == mb && decide (w.2.2 ≤ (grantedFirst l s).now)) = true ↔
      ∃ w ∈ (findLock (grantedFirst l s) l).waiters, w.1 = mb ∧ w.2.2 ≤ s.now := by simp [hnow]
  unfold expireAt
  rw [hfirst]
  simp only [hdue]
  rfl

/-- A withdrawn request leaves the other locks, and no request of its mailbox. -/
theorem withdraw_spec (mb l : Nat) (s : State) : (∀ j, j ≠ l → findLock (withdraw mb l s) j = findLock s j) ∧
    ∀ w ∈ (findLock (withdraw mb l s) l).waiters, w.1 ≠ mb := by
  refine ⟨fun j hj => findLock_putLock_ne hj _ _, fun w hw => ?_⟩
  rw [withdraw, (findLock_putLock ..).2] at hw
  exact bne_iff_ne.1 (List.mem_filter.1 hw).2

/-- A pass over a list acts once, if it acts at one member only and once. -/
theorem forAll_once {f : Nat → State → State} {L : List Nat} (hl : l ∈ L) (hidle : ∀ j, j ≠ l → f j s = s) (hdone : ∀ j, f j (f l s) = f l s) :
    forAll L f s = f l s := by
  have hrest (M : List Nat) : forAll M f (f l s) = f l s := by
    induction M with
    | nil => rfl
    | cons j M ih => rw [forAll_cons, hdone, ih]
  induction L with
  | nil => cases hl
  | cons j L ih =>
    rw [forAll_cons]
    by_cases hj : j = l
    · rw [hj, hrest]
    · rw [hidle j hj]
      exact ih ((List.mem_cons.1 hl).resolve_left fun h => hj h.symm)

/-- An expiry at a lock that the mailbox waits for leaves the other locks, and there nothing to expire. -/
theorem expireAt_waited_spec (hmb : ∃ w ∈ (findLock s l).waiters, w.1 = mb) :
    (∀ j, j ≠ l → findLock (expireAt mb l s) j = findLock s j) ∧ expireAt mb l (expireAt mb l s) = expireAt mb l s := by
  obtain ⟨hother, hchip, howner⟩ := grantedFirst_spec l s
  obtain ⟨hwithdrawn, hgone⟩ := withdraw_spec mb l (grantedFirst l s)
  have hends : findLock (finishWait mb waitLock stNoLock false [] (withdraw mb l (grantedFirst l s))) = findLock (withdraw mb l (grantedFirst l s)) :=
    funext fun j => findLock_congr (finishWait_lock ..).1 j
  rw [expireAt_waited hmb]
  split
  · split
    · exact ⟨fun j hj => by rw [hends, hwithdrawn j hj, hother j hj], expireAt_other (by rw [hends]; exact hgone)⟩
    · exact ⟨fun j hj => by rw [hwithdrawn j hj, hother j hj], expireAt_other hgone⟩
  · next hdue =>
    have hwaits : (findLock s l).waiters ≠ [] := by
      obtain ⟨w, hw, -⟩ := hmb
      exact List.ne_nil_of_mem hw
    refine ⟨hother, expireAt_stays (fun h => absurd h (howner hwaits)) fun w hw hwmb => Nat.lt_of_not_le fun hle => hdue ⟨w, hw, hwmb, ?_⟩⟩
    rwa [show (grantedFirst l s).now = s.now from congrArg Chip.upTime hchip] at hle

/-- A lock that no request of the mailbox is found at in the table. -/
theorem findLock_waiters {P : Nat × Nat × Time → Prop} (h : ∀ e ∈ s.mgmt.lock, e.1 = l → ∀ x ∈ e.2.waiters, P x) :
    ∀ w ∈ (findLock s l).waiters, P w := by
  intro w hw
  rw [findLock] at hw
  cases hk : tfind s.mgmt.lock l with
  | none => rw [hk] at hw; cases hw
  | some k =>
    rw [hk] at hw
    exact h _ (mem_of_tfind hk) rfl w hw

/-- A mailbox that waits for one lock only is served at that lock. -/
theorem lockExpiry_at (hk : tfind s.mgmt.lock l = some k) (hmb : ∃ w ∈ k.waiters, w.1 = mb)
    (hone : ∀ e ∈ s.mgmt.lock, e.1 ≠ l → ∀ x ∈ e.2.waiters, x.1 ≠ mb) : lockExpiry mb s = expireAt mb l s := by
  have hfind : findLock s l = k := by rw [findLock, hk, Option.getD_some]
  have hno (j : Nat) (hj : j ≠ l) : ∀ w ∈ (findLock s j).waiters, w.1 ≠ mb :=
    findLock_waiters (P := fun w => w.1 ≠ mb) fun e he hej => hone e he (hej ▸ hj)
  obtain ⟨hother, hagain⟩ := expireAt_waited_spec (s := s) (l := l) (mb := mb) (by rw [hfind]; exact hmb)
  rw [lockExpiry_eq]
  refine forAll_once (f := expireAt mb) (List.mem_map.2 ⟨_, mem_of_tfind hk, rfl⟩) (fun j hj => expireAt_other (hno j hj)) fun j => ?_
  by_cases hj : j = l
  · rw [hj, hagain]
  · exact expireAt_other (by rw [hother j hj]; exact hno j hj)

theorem lockExpiry_none (h : ∀ e ∈ s.mgmt.lock, ∀ x ∈ e.2.waiters, x.1 ≠ mb) : lockExpiry mb s = s := by
  have hidle (j : Nat) : expireAt mb j s = s :=
    expireAt_other (findLock_waiters (P := fun w => w.1 ≠ mb) fun e he _ => h e he)
  have hall (L : List Nat) : forAll L (expireAt mb) s = s := by
    induction L with
    | nil => rfl
    | cons j L ih => rw [forAll_cons, hidle, ih]
  exact hall _

/-! ## The commands -/

/-- The bodies of LOCK_PRIO_SET and LOCK_STATUS. -/
def lockPrioSetBody : Handler := fun r s =>
  match payloadBad r [2 ^ 64 - 2 ^ 56 + 15] with
  | some q => invalidAt q s
  | none =>
    if 65 < pf r 0 63 56 then invalidAt 0 s
    else good [] { s with mgmt.prioNext := s.mgmt.prioNext ++ [(pf r 0 63 56, pf r 0 3 0, halfTick s)] }

def lockStatusBody : Handler := fun r s =>
  let l := pf r 0 63 56
  if decide (r.mb < 64) && l != 1 + r.mb then refuse stDenied s
  else match payloadBad r [2 ^ 64 - 2 ^ 56] with
    | some q => invalidAt q s
    | none =>
      if 64 < l then invalidAt 0 s
      else
        let k := findLock s l
        good ([quad [(63, 63, b2n k.owner.isSome), (62, 56, k.owner.getD 0), (31, 0, k.waiters.length)],
          BitVec.ofNat 64 (if k.owner.isSome then k.granted else 0)] ++
          k.waiters.flatMap fun w => [quad [(62, 56, w.1)], BitVec.ofNat 64 w.2.1]) s

theorem lockAcquireBody_may (hmay : mayLock r.mb (pf r 0 63 56) = true) (hpay : payloadBad r [2 ^ 64 - 2 ^ 56 + (2 ^ 32 - 1)] = none)
    (hl : pf r 0 63 56 ≤ 64) (hwait : pf r 0 31 0 ≤ 10000000) : lockAcquireBody r s =
      if holdsLock s r.mb (pf r 0 63 56) then good [BitVec.ofNat 64 (findLock s (pf r 0 63 56)).granted] s
      else (.waits waitLock, putLock (pf r 0 63 56) { findLock s (pf r 0 63 56) with
        waiters := (findLock s (pf r 0 63 56)).waiters.filter (fun x => x.1 != r.mb) ++
          [(r.mb, s.ft.count, s.now + max (pf r 0 31 0 * us) halfCycle)] } s) := by
  unfold lockAcquireBody
  refine (if_neg (by simp [hmay])).trans ?_
  rw [hpay]
  exact if_neg (by omega)

theorem lockReleaseBody_own (hforce : pf r 0 55 55 = 0) (hmay : mayLock r.mb (pf r 0 63 56) = true)
    (hholds : (findLock s (pf r 0 63 56)).owner = some r.mb) (hpay : payloadBad r [2 ^ 64 - 2 ^ 55] = none) (hl : pf r 0 63 56 ≤ 64) :
    lockReleaseBody r s = good [] (releaseLock (pf r 0 63 56) s) := by
  unfold lockReleaseBody
  simp only [hforce]
  refine (if_neg (by simp [hmay])).trans ((if_neg (by simp [holdsLock_iff.2 hholds])).trans ?_)
  rw [hpay]
  exact if_neg (by omega)

theorem lockReleaseBody_force (hforce : pf r 0 55 55 = 1) (hmb : r.mb = 64) (hpay : payloadBad r [2 ^ 64 - 2 ^ 55] = none)
    (hl : pf r 0 63 56 ≤ 64) : lockReleaseBody r s = good [] (releaseLock (pf r 0 63 56)
      (onlyIf (decide (1 ≤ pf r 0 63 56)) (endSeqsWhere fun q => q.part + 1 == pf r 0 63 56) s)) := by
  unfold lockReleaseBody
  simp only [hforce]
  refine (if_neg (by simp [hmb, mayLock])).trans ((if_neg (by simp)).trans ?_)
  rw [hpay]
  exact if_neg (by omega)

/-- The state in which LOCK_STATUS's record is answered. -/
theorem lockStatus_may {b : State} (hpay : payloadBad r [2 ^ 64 - 2 ^ 56] = none) (hl : pf r 0 63 56 ≤ 64)
    (hown : r.mb < 64 → pf r 0 63 56 = 1 + r.mb) : lockStatusBody r b =
      good ([quad [(63, 63, b2n (findLock b (pf r 0 63 56)).owner.isSome), (62, 56, (findLock b (pf r 0 63 56)).owner.getD 0),
          (31, 0, (findLock b (pf r 0 63 56)).waiters.length)],
        BitVec.ofNat 64 (if (findLock b (pf r 0 63 56)).owner.isSome then (findLock b (pf r 0 63 56)).granted else 0)] ++
        (findLock b (pf r 0 63 56)).waiters.flatMap fun w => [quad [(62, 56, w.1)], BitVec.ofNat 64 w.2.1]) b := by
  unfold lockStatusBody
  refine (if_neg (by simpa using hown)).trans ?_
  rw [hpay]
  exact if_neg (by omega)

theorem lockPrioSet_ok {b : State} (hpay : payloadBad r [2 ^ 64 - 2 ^ 56 + 15] = none) (hl : pf r 0 63 56 ≤ 65) : lockPrioSetBody r b =
    good [] { b with mgmt.prioNext := b.mgmt.prioNext ++ [(pf r 0 63 56, pf r 0 3 0, halfTick b)] } := by
  unfold lockPrioSetBody
  rw [hpay]
  exact if_neg (by omega)

theorem execArbiterGrant_lock {dt : Time} (hl : l < 65) : execArbiterGrant dt l s = run dt (okArbiter l) (grantLock l) s :=
  run_congr fun _ => if_pos hl

theorem arbiterGrant_lock {dt : Time} {t : State} (hl : l < 65) (h : grantLock l (advance dt s) = t) : Gives (.arbiterGrant dt l) s t :=
  (execArbiterGrant_lock hl).trans (run_gives (decide_eq_true (Nat.lt_trans hl (by decide))) h)

end

end Sys2Proof.Machine

namespace Sys2Proof

open Machine

/-- Settles O24: the commands by their bodies, the arbiter's cycle by whether someone waits, the expiry at the one lock waited for. -/
theorem locksAreAskedGrantedAndEnded : Obligations.LocksAreAskedGrantedAndEnded := by
  refine ⟨?commands, ?prio, ?cycle, ?expiry, ?none⟩
  case commands =>
    intro s dt r l a b k hl hle
    subst hl
    refine ⟨fun hsent hmay hpay hwait => ?_, fun hsent hpay => ⟨fun hforce hmay howner => ?_, fun hforce hmb => ⟨fun h0 => ?_, fun p hp => ?_⟩⟩,
      fun hsent hpay hown => ?_⟩
    · have hbody := lockAcquireBody_may (s := b) hmay hpay hle hwait
      exact ⟨fun h => sent_completes hsent (hbody.trans (if_pos (holdsLock_iff.2 h))),
        fun h => opcode_gives hsent (congrArg (conclude r) (hbody.trans (if_neg fun hh => h (holdsLock_iff.1 hh))))⟩
    · exact command_gives hsent (by simp [isOp, hsent.2.1, hforce])
        (congrArg (conclude r) (lockReleaseBody_own hforce hmay howner hpay hle))
    · have hbody := lockReleaseBody_force (s := b) hforce hmb hpay hle
      rw [h0] at hbody ⊢
      exact command_gives hsent (by simp [isOp, hsent.2.1, hforce]) (congrArg (conclude r) hbody)
    · have hbody := lockReleaseBody_force (s := b) hforce hmb hpay hle
      have hpart : (fun q : LockSeq => q.part + 1 == 1 + p) = fun q => q.part == p :=
        funext fun q => Bool.eq_iff_iff.2 (by simp only [beq_iff_eq]; omega)
      rw [hp, hpart] at hbody
      rw [hp]
      refine command_gives hsent (by simp [isOp, hsent.2.1, hforce]) ((congrArg (conclude r) hbody).trans ?_)
      rw [decide_eq_true (Nat.le_add_right 1 p)]
      rfl
    · exact sent_completes hsent (lockStatus_may hpay hle hown)
  case prio => exact fun s dt r hsent hpay hle => sent_completes hsent (lockPrioSet_ok hpay hle)
  case cycle =>
    intro s dt l a k hl
    refine ⟨fun w hfree hbest => ?_, fun hidle => ?_⟩
    · have hgrant := grantLock_best (s := advance dt s) hfree hbest
      exact ⟨fun hacq => arbiterGrant_lock hl (hgrant.trans (if_pos hacq)), fun hacq => arbiterGrant_lock hl (hgrant.trans (if_neg hacq))⟩
    · exact arbiterGrant_lock hl (hidle.elim grantLock_held grantLock_none)
  case expiry =>
    intro s dt l mb k a hmb hk hwaits hone
    have hfind : findLock a l = k := by rw [findLock, hk, Option.getD_some]
    subst hfind
    intro a' k'
    have hat := (lockExpiry_at hk hwaits hone).trans (expireAt_waited hwaits)
    exact ⟨fun hdue hacq => run_gives (f := lockExpiry mb) (decide_eq_true hmb) (hat.trans ((if_pos hdue).trans (if_pos hacq))),
      fun hlater => run_gives (f := lockExpiry mb) (decide_eq_true hmb)
        (hat.trans (if_neg fun ⟨w, hw, hwmb, hle⟩ => absurd (hlater w hw hwmb) (Nat.not_lt.2 hle)))⟩
  case none =>
    intro s dt mb h
    have hnone : lockExpiry mb (advance dt s) = advance dt s := lockExpiry_none h
    cases hok : okMb mb with
    | true => exact run_gives (f := lockExpiry mb) hok hnone
    | false => exact run_nothing (f := lockExpiry mb) hok

end Sys2Proof

/-! # Records are read and imported (R192, R389, R403) -/

namespace Sys2Proof.Machine

section
variable {b : State} {r : Req}

/-- The device log from a record on. -/
def logFrom (n : Nat) (s : State) : List ErrRec := s.errs.log.filter fun e => e.seq == n || serialNewer e.seq n

/-- The records that ERR_READ returns. -/
def recordsRead (r : Req) (s : State) : List ErrRec :=
  ((logFrom (pf r 0 63 32) s).filter fun e => decide (64 ≤ r.mb) || s.errs.copies.contains (e.seq, r.mb)).take (pf r 0 31 24)

/-- ERR_READ's answer: the number of the first record, how many they are, whether records before them are lost, the number to go on from,
and the records. -/
def errReadAnswer (r : Req) (s : State) : List Word64 :=
  let got := recordsRead r s
  let first := (got.head?.map (·.seq)).getD (pf r 0 63 32)
  let gap := (s.errs.log.head?.map fun e => serialNewer e.seq (pf r 0 63 32)).getD false
  let next := if logFrom (pf r 0 63 32) s = [] then pf r 0 63 32 else if got.length = pf r 0 31 24 then
    (got.getLast?.map fun e => (e.seq + 1) % 2 ^ 32).getD (pf r 0 63 32) else s.errs.seq
  quad [(63, 32, first), (31, 24, got.length), (23, 23, b2n gap)] :: quad [(63, 32, next)] :: got.flatMap recordQuads

theorem errReadBody_reads (hack : pf r 0 0 0 = 1 → r.mb = 64) (hpay : payloadBad r [2 ^ 64 - 2 ^ 24 + 1] = none) (hmost : pf r 0 31 24 ≠ 0)
    (hfits : pf r 0 31 24 ≤ 62 ∨ rDmaOut r = true) : errReadBody r b =
      good (errReadAnswer r b)
        (((recordsRead r b).getLast?.map fun e => if pf r 0 0 0 == 1 then ackAlerts e.seq b else b).getD b) := by
  have hmay : ¬ (pf r 0 0 0 == 1 && r.mb != 64) = true := by simpa using hack
  have hlen : ¬ (pf r 0 31 24 = 0 ∨ ((!rDmaOut r) = true ∧ 62 < pf r 0 31 24)) := by
    simp only [hmost, false_or, not_and, Bool.not_eq_true']
    intro hout
    rw [hout] at hfits
    simpa using hfits
  unfold errReadBody
  refine (if_neg hmay).trans ?_
  rw [hpay]
  refine (if_neg hlen).trans ?_
  unfold errReadAnswer recordsRead logFrom
  dsimp only
  generalize List.take _ _ = got
  generalize b.errs.log.head? = oldest
  generalize List.filter _ b.errs.log = held
  have hnext (n m : Nat) : (if held.isEmpty then n else m) = if held = [] then n else m := by
    simp only [List.isEmpty_iff]
  rw [hnext]
  rcases oldest with _ | e
  · cases got.head? <;> cases got.getLast? <;> rfl
  · rw [Option.map_some, Option.getD_some]
    cases got.head? <;> cases got.getLast? <;> rfl

theorem errReadBody_plain (hack : pf r 0 0 0 = 0) (hpay : payloadBad r [2 ^ 64 - 2 ^ 24 + 1] = none) (hmost : pf r 0 31 24 ≠ 0)
    (hfits : pf r 0 31 24 ≤ 62 ∨ rDmaOut r = true) : errReadBody r b = good (errReadAnswer r b) b := by
  rw [errReadBody_reads (fun h => absurd (hack.symm.trans h) (by decide)) hpay hmost hfits, hack]
  cases (recordsRead r b).getLast? <;> rfl

theorem errReadBody_acks (hack : pf r 0 0 0 = 1) (hmb : r.mb = 64) (hpay : payloadBad r [2 ^ 64 - 2 ^ 24 + 1] = none) (hmost : pf r 0 31 24 ≠ 0)
    (hfits : pf r 0 31 24 ≤ 62 ∨ rDmaOut r = true) : errReadBody r b =
      good (errReadAnswer r b) (((recordsRead r b).getLast?.map fun e => ackAlerts e.seq b).getD b) := by
  rw [errReadBody_reads (fun _ => hmb) hpay hmost hfits, hack]
  rfl

/-! ## CFG_READ -/

/-- The keys of the records that CFG_READ reads. -/
def readKey (r : Req) (sp : RecSpec) (i : Nat) : Nat × Nat :=
  ((pf r 0 55 40 * sp.maxB + pf r 0 39 24 + i) / sp.maxB, (pf r 0 55 40 * sp.maxB + pf r 0 39 24 + i) % sp.maxB)

/-- A CFG_READ whose fields keep their rules, from a mailbox that may read its records. -/
structure CfgReadOk (r : Req) (sp : RecSpec) (b : State) : Prop where
  payload : payloadBad r [2 ^ 64 - 2 ^ 7] = none
  spec : recSpec (pf r 0 63 56) = some sp
  some_ : 1 ≤ pf r 0 23 16
  few : pf r 0 23 16 ≤ 100
  source : pf r 0 15 14 < 3
  lock : pf r 0 13 7 ≤ 64
  inRow : pf r 0 39 24 < sp.maxB
  inTable : ∀ i < pf r 0 23 16, (readKey r sp i).1 < sp.maxA
  may : r.mb < 64 → (∀ i < pf r 0 23 16, mayRead b r.mb (pf r 0 63 56) (readKey r sp i).1 = true) ∧ (pf r 0 15 14 = 1 → pf r 0 13 7 = 1 + r.mb)

theorem cfgReadBody_reads {sp : RecSpec} (h : CfgReadOk r sp b) : cfgReadBody r b =
    if pf r 0 15 14 == 2 && b.conf.prepared.isNone then good [] b
    else good ((List.range (pf r 0 23 16)).flatMap fun i => entryQuads (pf r 0 63 56) (readKey r sp i).1 (readKey r sp i).2 sp.words
        ((cfgLookup (readSource b (pf r 0 15 14) (pf r 0 13 7)) (if pf r 0 63 56 = 0x20 then (readKey r sp i).1 / 128 else b.dev) (pf r 0 63 56)
          (readKey r sp i).1 (readKey r sp i).2).toNat ||| roFields b i (pf r 0 63 56) (readKey r sp i).1 (readKey r sp i).2))
      (if pf r 0 63 56 = 0x20 then { b with freeCtr := b.freeCtr + pf r 0 23 16 } else b) := by
  obtain ⟨hpay, hspec, hsome, hfew, hsource, hlock, hrow, htable, hmay⟩ := h
  have hread : ¬ (decide (r.mb < 64) && (!((List.range (pf r 0 23 16)).map (readKey r sp)).all (fun k => mayRead b r.mb (pf r 0 63 56) k.1) ||
      (pf r 0 15 14 == 1 && pf r 0 13 7 != 1 + r.mb))) = true := by
    simp only [List.all_map, Bool.and_eq_true, decide_eq_true_eq, Bool.or_eq_true, Bool.not_eq_true', List.all_eq_false, List.mem_range,
      Function.comp_apply, beq_iff_eq, bne_iff_ne, not_and, not_or, not_exists, not_not]
    exact fun hmb => hmay hmb
  have hform : ¬ (!within 1 100 (pf r 0 23 16) || decide (sp.maxB ≤ pf r 0 39 24) ||
      !(((List.range (pf r 0 23 16)).map (readKey r sp)).all fun k => decide (k.1 < sp.maxA)) || pf r 0 15 14 == 3 || decide (64 < pf r 0 13 7)) = true := by
    simp only [List.all_map, Bool.or_eq_true, Bool.not_eq_true', List.all_eq_false, List.mem_range, Function.comp_apply, decide_eq_true_eq,
      beq_iff_eq, within, not_or, not_exists, not_and, Bool.and_eq_false_iff, decide_eq_false_iff_not, Nat.not_le, Nat.not_lt]
    refine ⟨⟨⟨⟨⟨hsome, hfew⟩, hrow⟩, htable⟩, by omega⟩, hlock⟩
  unfold cfgReadBody
  dsimp only
  rw [hspec]
  refine (if_neg hread).trans ?_
  rw [hpay]
  refine (if_neg hform).trans ?_
  rw [← List.map_prod_left_eq_zip, List.flatMap_map]
  rfl

/-! ## COEF_IMPORT and LANE_READMIT -/

/-- The bodies of COEF_IMPORT and LANE_READMIT. -/
def coefImportBody : Handler := fun r s =>
  if !holdsLock s r.mb 0 then refuse stNoLock s
  else match payloadBad r importMasks with
    | some q => invalidAt q s
    | none =>
      let k := pf r 0 63 58
      if !okSpoke k then invalidAt 0 s
      else
        let skip := decide (2 ≤ (s.spoke k).state)
        good [quad [(63, 63, b2n skip)]] (if skip then s else { s with lanes.store := tset {} s.lanes.store k (importedEntry r) })

def laneReadmitBody : Handler := fun r s =>
  let l := pf r 0 63 55
  if !holdsLock s r.mb 0 then refuse stNoLock s
  else match payloadBad r [2 ^ 64 - 2 ^ 55] with
    | some q => invalidAt q s
    | none =>
      if !okLane l || stationMode s (l / 16) != 2 then invalidAt 0 s
      else good [] (if bit (s.spoke (l / 8)).laneMask (l % 8) then s
        else modSpoke (l / 8) (fun x => { x with readmit := setBit x.readmit (l % 8) }) s)

theorem coefImportBody_imports (hlock : holdsLock b r.mb 0 = true) (hpay : payloadBad r importMasks = none) (hk : pf r 0 63 58 < 40) :
    coefImportBody r b =
      (let skip := decide (2 ≤ (b.spoke (pf r 0 63 58)).state)
       good [quad [(63, 63, b2n skip)]] (if skip then b else { b with lanes.store := tset {} b.lanes.store (pf r 0 63 58) (importedEntry r) })) := by
  unfold coefImportBody
  refine (if_neg (by simp [hlock])).trans ?_
  rw [hpay]
  exact if_neg (by simp [okSpoke, hk])

theorem laneReadmitBody_readmits (hlock : holdsLock b r.mb 0 = true) (hpay : payloadBad r [2 ^ 64 - 2 ^ 55] = none) (hl : pf r 0 63 55 < 320)
    (hmode : stationMode b (pf r 0 63 55 / 16) = 2) : laneReadmitBody r b =
      good [] (if bit (b.spoke (pf r 0 63 55 / 8)).laneMask (pf r 0 63 55 % 8) then b
        else modSpoke (pf r 0 63 55 / 8) (fun x => { x with readmit := setBit x.readmit (pf r 0 63 55 % 8) }) b) := by
  unfold laneReadmitBody
  refine (if_neg (by simp [hlock])).trans ?_
  rw [hpay]
  exact if_neg (by simp [okLane, hl, hmode])

end

end Sys2Proof.Machine

namespace Sys2Proof

open Machine

/-- Settles O26: each command by its body. -/
theorem recordsAreReadAndImported : Obligations.RecordsAreReadAndImported := by
  refine ⟨?log, ?conf⟩
  case log =>
    intro s dt r a b held got first gap next pay hsent hpay hmost hfits
    exact ⟨fun hack => command_gives hsent (by simp [isOp, hsent.2.1, hack]) (congrArg (conclude r) (errReadBody_plain hack hpay hmost hfits)),
      fun hack hmb => command_gives hsent (by simp [isOp, hsent.2.1, hack]) (congrArg (conclude r) (errReadBody_acks hack hmb hpay hmost hfits))⟩
  case conf =>
    intro s dt r a b
    refine ⟨fun sp => ?_, fun hsent hlock hpay hk => ?_, fun hsent hlock hpay hl hmode => ?_⟩
    · intro typ n source l key hsent hpay hspec hsome hfew hsource hlock hrow htable hmay
      have hbody := cfgReadBody_reads (b := b) ⟨hpay, hspec, hsome, hfew, hsource, hlock, hrow, htable, hmay⟩
      exact ⟨fun h2 hnone => sent_completes hsent (hbody.trans (if_pos (by simp [source, h2, hnone]))),
        fun h => sent_completes hsent (hbody.trans (if_neg fun hboth => by
          obtain ⟨h2, hnone⟩ := Bool.and_eq_true_iff.1 hboth
          rw [Option.isNone_iff_eq_none.1 hnone] at h
          exact Bool.false_ne_true (h (beq_iff_eq.1 h2))))⟩
    · have hbody := coefImportBody_imports (b := b) hlock hpay hk
      refine ⟨fun h => sent_completes hsent (hbody.trans ?_), fun h => sent_completes hsent (hbody.trans ?_)⟩
      · rw [decide_eq_false (Nat.not_le.2 h)]
        rfl
      · rw [decide_eq_true h]
        rfl
    · have hbody := laneReadmitBody_readmits (b := b) hlock hpay hl hmode
      exact ⟨fun h => sent_completes hsent (hbody.trans (congrArg (good []) (if_neg (ne_true_of_eq_false h)))),
        fun h => sent_completes hsent (hbody.trans (congrArg (good []) (if_pos h)))⟩

end Sys2Proof

/-! # Snapshots, counters, bandwidth windows and loop-backs (R401, R402, R404) -/

namespace Sys2Proof.Machine

section
variable {b : State} {r : Req}

/-! ## SNAPSHOT -/

/-- A snapshot of T is pending, whose command waits for this device and others. -/
def snapPends (r : Req) (fabric : Bool) (far : List Nat) (T : Nat) (b : State) : State :=
  { b with
    count.pending := some T, count.snapMb := some r.mb, count.snapFabric := fabric, count.snapWait := b.dev :: far
    count.snapLatest := 0, count.snapStale := false, count.snapAt := T, count.snapReply := none }

/-- A SNAPSHOT that nothing holds back. -/
structure SnapshotOk (r : Req) (T : Nat) (b : State) : Prop where
  free : snapBusy b = false
  notSoon : snapTooSoon b r.mb = false
  payload : payloadBad r [2 ^ 64 - 1, 1] = none
  time : T = if pf r 0 63 0 = 0 then b.ft.count + 100 * us else pf r 0 63 0
  soonest : b.ft.count ≤ T
  latest : T ≤ b.ft.count + 10 * oneSec
  fabric : pf r 1 0 0 = 1 → (r.mb = 64 ∨ r.mb = 65) ∧ timeLocked b = true

theorem snapshotBody_waits {T : Nat} {far : List Nat} (h : SnapshotOk r T b) (hfar : (if pf r 1 0 0 == 1 then domainDevs b else []) = far) :
    snapshotBody r b = (.waits waitSnapshot, forAll far (fun d => post (.mgmt d 0x0501 [T]))
      (if r.mb < 64 then modPart r.mb (fun q => { q with lastSnap := some b.now }) (snapPends r (pf r 1 0 0 == 1) far T b)
       else snapPends r (pf r 1 0 0 == 1) far T b)) := by
  subst hfar
  obtain ⟨hfree, hsoon, hpay, rfl, hmin, hmax, hfabric⟩ := h
  have hmay : ¬ (pf r 1 0 0 == 1 && r.mb != 64 && r.mb != 65) = true := by
    simp only [Bool.and_eq_true, beq_iff_eq, bne_iff_ne, not_and, not_not]
    rintro ⟨h1, h64⟩
    exact (hfabric h1).1.resolve_left h64
  have hready : ¬ (snapBusy b || snapTooSoon b r.mb || (pf r 1 0 0 == 1 && !timeLocked b)) = true := by
    simp only [hfree, hsoon, Bool.false_or, Bool.and_eq_true, beq_iff_eq, Bool.not_eq_true', not_and, Bool.not_eq_false]
    exact fun h1 => (hfabric h1).2
  unfold snapshotBody
  refine (if_neg hmay).trans ((if_neg hready).trans ?_)
  rw [hpay]
  exact if_neg (not_or.2 ⟨Nat.not_lt.2 hmin, Nat.not_lt.2 hmax⟩)

/-! ## COUNTER_READ -/

/-- The body of COUNTER_READ. -/
def counterReadBody : Handler := fun r s =>
  let id := pf r 0 63 32
  let n := pf r 0 15 0
  let ids := List.range' id (min n 500)
  if decide (r.mb < 64) && ids.any fun i => isCounter i && !inView s r.mb i then refuse stDenied s
  else match payloadBad r [2 ^ 64 - 2 ^ 32 + 65535] with
    | some q => invalidAt q s
    | none =>
      if within 1 500 n && ids.all isCounter then good (ids.map fun i => BitVec.ofNat 64 (counterFor s r.mb i)) s
      else invalidAt 0 s

theorem counterReadBody_reads (hpay : payloadBad r [2 ^ 64 - 2 ^ 32 + 65535] = none) (h1 : 1 ≤ pf r 0 15 0) (h500 : pf r 0 15 0 ≤ 500)
    (hall : ∀ i < pf r 0 15 0, isCounter (pf r 0 63 32 + i) = true)
    (hmay : r.mb < 64 → ∀ i < pf r 0 15 0, inView b r.mb (pf r 0 63 32 + i) = true) :
    counterReadBody r b =
      good ((List.range (pf r 0 15 0)).map fun i => BitVec.ofNat 64 (counterFor b r.mb (pf r 0 63 32 + i))) b := by
  have hids : List.range' (pf r 0 63 32) (min (pf r 0 15 0) 500) = (List.range (pf r 0 15 0)).map (pf r 0 63 32 + ·) := by
    rw [Nat.min_eq_left h500, List.range'_eq_map_range]
  have hview : ¬ (decide (r.mb < 64) && ((List.range (pf r 0 15 0)).map (pf r 0 63 32 + ·)).any fun i => isCounter i && !inView b r.mb i) = true := by
    simp only [List.any_map, Bool.and_eq_true, decide_eq_true_eq, List.any_eq_true, List.mem_range, Function.comp_apply, Bool.not_eq_true',
      not_and, not_exists, Bool.not_eq_false]
    exact fun hmb i hi _ => hmay hmb i hi
  have hcounters : (within 1 500 (pf r 0 15 0) && ((List.range (pf r 0 15 0)).map (pf r 0 63 32 + ·)).all isCounter) = true := by
    simp only [within, List.all_map, Bool.and_eq_true, decide_eq_true_eq, List.all_eq_true, List.mem_range, Function.comp_apply]
    exact ⟨⟨h1, h500⟩, hall⟩
  unfold counterReadBody
  dsimp only
  rw [hids]
  refine (if_neg hview).trans ?_
  rw [hpay]
  refine (if_pos hcounters).trans ?_
  rw [List.map_map]
  rfl

/-! ## BW_WINDOW -/

/-- A BW_WINDOW that finds a free unit and no window at its port. -/
structure WindowOk (r : Req) (unit T : Nat) (b : State) : Prop where
  unit : tfree b.count.bw 0 8 = some unit
  may : r.mb < 64 → portEn b (pf r 0 63 57) = true ∧ portPart b (pf r 0 63 57) = r.mb
  free : ∀ e ∈ b.count.bw, e.2.port ≠ pf r 0 63 57
  payload : payloadBad r [2 ^ 64 - 2 ^ 51 + (2 ^ 24 - 1), 2 ^ 64 - 1] = none
  dir : pf r 0 56 55 ≠ 3
  sub : pf r 0 54 51 ≤ 10
  shortest : 1 ≤ pf r 0 23 0
  longest : pf r 0 23 0 ≤ 10000000
  whole : pf r 0 23 0 % 2 ^ pf r 0 54 51 = 0
  start : T = if pf r 1 63 0 = 0 then (b.ft.count / us + 1) * us else pf r 1 63 0
  later : b.ft.count ≤ T

theorem bwWindowBody_waits {unit T : Nat} (h : WindowOk r unit T b) : bwWindowBody r b =
    (.waits waitWindow, { b with count.bw := tput b.count.bw unit {
      mb := r.mb, port := pf r 0 63 57, dir := pf r 0 56 55, subLog2 := pf r 0 54 51, winUs := pf r 0 23 0
      start := T, started := false, outBytes := [], inBytes := [] } }) := by
  obtain ⟨hunit, hmay, hfree, hpay, hdir, hsub, hshort, hlong, hwhole, rfl, hlater⟩ := h
  have hown : ¬ (decide (r.mb < 64) && !(portEn b (pf r 0 63 57) && portPart b (pf r 0 63 57) == r.mb)) = true := by
    simp only [Bool.and_eq_true, decide_eq_true_eq, Bool.not_eq_true', not_and, Bool.not_eq_false, beq_iff_eq]
    exact hmay
  have hport : ¬ (b.count.bw.any fun e => e.2.port == pf r 0 63 57) = true := by
    simp only [List.any_eq_true, beq_iff_eq, not_exists, not_and]
    exact hfree
  have hform : ¬ (pf r 0 56 55 = 3 ∨ 10 < pf r 0 54 51 ∨ (!within 1 10000000 (pf r 0 23 0)) = true ∨ pf r 0 23 0 % 2 ^ pf r 0 54 51 ≠ 0) := by
    simp only [within, hshort, hlong, decide_true, Bool.and_self, Bool.not_true, Bool.false_eq_true, hwhole, ne_eq, not_true_eq_false, or_false,
      not_or, Nat.not_lt]
    exact ⟨hdir, hsub⟩
  unfold bwWindowBody
  refine (if_neg hown).trans ?_
  rw [hunit]
  refine (if_neg hport).trans ?_
  rw [hpay]
  exact (if_neg hform).trans (if_neg (Nat.not_lt.2 hlater))

/-! ## LOOPBACK -/

/-- A LOOPBACK whose mailbox may name its target. -/
structure LoopOk (r : Req) (b : State) : Prop where
  may : r.mb < 64 → pf r 0 63 61 = 6
  lock : pf r 0 63 61 ≤ 5 → holdsLock b r.mb 0 = true
  scope : pf r 0 63 61 = 6 → rScope r = 2
  payload : payloadBad r [2 ^ 64 - 2 ^ 46 + (2 ^ 32 - 1)] = none
  target : loopTargetOk b r = true

theorem loopbackBody_acts (h : LoopOk r b) (hmode : pf r 0 47 46 ≠ 3) (hbusy : pf r 0 47 46 = 0 → loopBusy b r = false) :
    loopbackBody r b = loopAct r b := by
  obtain ⟨hmay, hlock, hscope, hpay, htarget⟩ := h
  have hown : ¬ (decide (r.mb < 64) && pf r 0 63 61 != 6) = true := by simpa using hmay
  have hheld : ¬ (within 1 5 (pf r 0 63 61) && !holdsLock b r.mb 0) = true := by
    simp only [within, Bool.and_eq_true, decide_eq_true_eq, Bool.not_eq_true', not_and, Bool.not_eq_false]
    exact fun hd => hlock hd.2
  have hfree : ¬ (pf r 0 47 46 == 0 && loopTargetOk b r && loopBusy b r) = true := by
    simp only [Bool.and_eq_true, beq_iff_eq, not_and, Bool.not_eq_true]
    exact fun h0 => hbusy h0.1
  have hform : ¬ (pf r 0 63 61 == 6 && rScope r != 2) = true := by simpa using hscope
  have hgood : ¬ (pf r 0 47 46 == 3 || !loopTargetOk b r) = true := by simpa [htarget] using hmode
  unfold loopbackBody
  refine (if_neg hown).trans ((if_neg hheld).trans ((if_neg hfree).trans ?_))
  rw [hpay]
  exact (if_neg hform).trans (if_neg hgood)

theorem loopAct_start (h : pf r 0 47 46 = 0) : loopAct r b =
    if pf r 0 31 0 = 0 then good (loopAnswer 0 0 1) (startLoop r b) else (.waits waitLoop, startLoop r b) := if_pos h

theorem loopAct_unknown (h : pf r 0 47 46 ≠ 0) (hl : findLoop b (loopTarget r) = none) : loopAct r b = good (loopAnswer 0 0 0) b := by
  refine (if_neg h).trans ?_
  rw [hl]

theorem loopAct_known {l : LoopRun} {u e : Nat} {c : State} (h : pf r 0 47 46 ≠ 0) (hl : findLoop b (loopTarget r) = some l)
    (hc : loopCounts l b = (u, e, c)) : loopAct r b =
      if pf r 0 47 46 = 1 ∧ l.state = 1 then good (loopAnswer u e 2) (endLoop (loopTarget r).1 (loopTarget r).2 u e c)
      else good (loopAnswer u e l.state) c := by
  refine (if_neg h).trans ?_
  rw [hl]
  dsimp only
  rw [hc]

theorem findLoop_depth {l : LoopRun} {t : Nat × Nat} (h : findLoop b t = some l) : l.depth = t.1 := by
  have hmatch := List.find?_some h
  exact beq_iff_eq.1 (Bool.and_eq_true_iff.1 hmatch).1

end

end Sys2Proof.Machine

namespace Sys2Proof

open Machine

/-- Settles O27: each command by its body. -/
theorem measurementCommandsRun : Obligations.MeasurementCommandsRun := by
  refine ⟨fun s dt r => ⟨?snapshot, ?counters, ?window⟩, ?loop⟩
  case snapshot =>
    intro T hsent hfree hsoon hpay hT hmin hmax pends
    have hwaits {far : List Nat} {u : State} (hfabric : pf r 1 0 0 = 1 → (r.mb = 64 ∨ r.mb = 65) ∧ timeLocked _ = true)
        (hfar : (if pf r 1 0 0 == 1 then domainDevs _ else []) = far)
        (hu : (if r.mb < 64 then modPart r.mb (fun q => { q with lastSnap := some (taken r (advance dt s)).now }) (pends far) else pends far) = u) :
        Waits (.snapshot dt r) s r waitSnapshot (forAll far (fun d => post (.mgmt d 0x0501 [T])) u) :=
      hu ▸ opcode_gives hsent (congrArg (conclude r) (snapshotBody_waits ⟨hfree, hsoon, hpay, hT, hmin, hmax, hfabric⟩ hfar))
    refine ⟨fun h0 hmb => ?_, fun h0 hmb => ?_, fun h1 hmb hlock => ?_⟩
    · exact hwaits (far := []) (fun h1 => absurd (h0.symm.trans h1) (by decide)) (by rw [h0]; rfl) (if_pos hmb)
    · exact hwaits (far := []) (fun h1 => absurd (h0.symm.trans h1) (by decide)) (by rw [h0]; rfl) (if_neg (Nat.not_lt.2 hmb))
    · exact hwaits (fun _ => ⟨hmb, hlock⟩) (by rw [h1]; rfl) (if_neg (by omega))
  case counters =>
    exact fun hsent hpay h1 h500 hall hmay => sent_completes hsent (counterReadBody_reads hpay h1 h500 hall hmay)
  case window =>
    exact fun unit T hsent hunit hmay hfree hpay hdir hsub hshort hlong hwhole hT hlater =>
      opcode_gives hsent (congrArg (conclude r) (bwWindowBody_waits ⟨hunit, hmay, hfree, hpay, hdir, hsub, hshort, hlong, hwhole, hT, hlater⟩))
  case loop =>
    intro s dt r a b d target hsent hmay hlock hscope hpay htarget
    have hok : LoopOk r b := ⟨hmay, hlock, hscope, hpay, htarget⟩
    have hmode {n : Nat} (h : pf r 0 47 46 = n) : isLoop n r = true := by simp [isLoop, isOp, hsent.2.1, h]
    have hacts {n : Nat} (hn : 1 ≤ n) (hn' : n ≤ 2) (h : pf r 0 47 46 = n) : loopbackBody r b = loopAct r b :=
      loopbackBody_acts hok (by omega) fun h0 => by omega
    refine ⟨fun h0 hbusy => ?start, fun l hl => ⟨fun hcounts => ?counted, fun hd hrun => ?running⟩, fun hl => ?unknown⟩
    case start =>
      have hbody := (loopbackBody_acts hok (by omega) fun _ => hbusy).trans (loopAct_start (b := b) h0)
      exact ⟨fun hdur => command_gives hsent (hmode h0) (congrArg (conclude r) (hbody.trans (if_pos hdur))),
        fun hdur => command_gives hsent (hmode h0) (congrArg (conclude r) (hbody.trans (if_neg hdur)))⟩
    case counted =>
      have hdepth : l.depth = d := findLoop_depth hl
      have hkept : loopCounts l b = (l.units, l.errors, b) := if_neg (by omega)
      refine ⟨fun h1 hrun => ?_, fun h1 hrun => ?_, fun h2 => ?_⟩
      · exact command_gives hsent (hmode h1) (congrArg (conclude r)
          ((hacts (by decide) (by decide) h1).trans ((loopAct_known (by omega) hl hkept).trans (if_pos ⟨h1, hrun⟩))))
      · exact command_gives hsent (hmode h1) (congrArg (conclude r)
          ((hacts (by decide) (by decide) h1).trans ((loopAct_known (by omega) hl hkept).trans (if_neg fun h => hrun h.2))))
      · exact command_gives hsent (hmode h2) (congrArg (conclude r)
          ((hacts (by decide) (by decide) h2).trans ((loopAct_known (by omega) hl hkept).trans (if_neg (by omega)))))
    case running =>
      intro c
      have hdepth : l.depth = d := findLoop_depth hl
      have hdrawn : loopCounts l b = (drawn b, drawn (drew b), c) := if_pos ⟨hrun, by omega⟩
      refine ⟨drawn b, drawn (drew b), fun h1 => ?_, fun h2 => ?_⟩
      · exact command_gives hsent (hmode h1) (congrArg (conclude r)
          ((hacts (by decide) (by decide) h1).trans ((loopAct_known (by omega) hl hdrawn).trans (if_pos ⟨h1, hrun⟩))))
      · have hstatus := (hacts (by decide) (by decide) h2).trans ((loopAct_known (by omega) hl hdrawn).trans (if_neg (by omega)))
        rw [hrun] at hstatus
        exact command_gives hsent (hmode h2) (congrArg (conclude r) hstatus)
    case unknown =>
      exact ⟨fun h1 => command_gives hsent (hmode h1) (congrArg (conclude r)
          ((hacts (by decide) (by decide) h1).trans (loopAct_unknown (by omega) hl))),
        fun h2 => command_gives hsent (hmode h2) (congrArg (conclude r)
          ((hacts (by decide) (by decide) h2).trans (loopAct_unknown (by omega) hl)))⟩

end Sys2Proof

/-! # FW_UPDATE and the firmware events (R405, R431 to R433, R443) -/

namespace Sys2Proof.Machine

section
variable {s a b t : State} {r : Req} {dt : Time}

/-! ## FW_UPDATE -/

/-- An FW_UPDATE under the device lock, or in ROM recovery. -/
def FwSent (r : Req) (a : State) : Prop := (Sent operators 0x0D01 r a ∧ holdsLock (taken r a) r.mb 0 = true) ∨ SentRom 0x0D01 r a

theorem FwSent.gives {sp : Req → Bool} {x : Answer × State} (h : FwSent r (advance dt s)) (hs : sp r = true)
    (hb : fwUpdateBody r (taken r (advance dt s)) = x) :
    run dt (okReq r) (command sp fwUpdate r) s = .next { conclude r x with pending := s.pending } :=
  h.elim (fun h => command_gives h.1 hs (congrArg (conclude r) hb)) (fun h => rom_gives h rfl hs (congrArg (conclude r) hb))

theorem FwSent.opcode (h : FwSent r a) : rOp r = 0x0D01 := h.elim (fun h => h.1.2.1) (fun h => h.2.1)

theorem FwSent.isFw {n : Nat} (h : FwSent r a) (hn : pf r 0 63 60 = n) : isFw n r = true := by
  simp [Machine.isFw, isOp, h.opcode, hn]

/-- The phases of FW_UPDATE. -/
def fwPhase (r : Req) (s : State) : Answer × State := match pf r 0 63 60 with
  | 0 =>
    if pf r 0 31 0 % 4096 = 0 ∧ pf r 0 31 0 + (rLen r - 8) ≤ 16777216 then (.waits waitFirmware, fwWrite r s) else invalidAt 0 s
  | 1 => (.waits waitFirmware, { s with fw.busy := some r.mb, fw.phase := 1 })
  | 2 => fwActivate r s
  | 3 => good (fwResponse (unsealFw s)) (unsealFw s)
  | _ => invalidAt 0 s

theorem FwSent.body (h : FwSent r a) (hfree : (taken r a).fw.busy = none) (hpay : payloadBad r [2 ^ 64 - 2 ^ 58 + (2 ^ 32 - 1)] = none)
    (hcommit : pf r 0 63 60 = 2 → commitUnderWay (taken r a) = false) : fwUpdateBody r (taken r a) = fwPhase r (taken r a) := by
  have hlock : ¬ (!(taken r a).chip.romRecovery && !holdsLock (taken r a) r.mb 0) = true := by
    rcases h with ⟨-, hlock⟩ | ⟨-, -, -, -, hrom, -⟩
    · rw [hlock, Bool.not_true, Bool.and_false]
      exact Bool.false_ne_true
    · rw [show (taken r a).chip.romRecovery = true from hrom]
      exact Bool.false_ne_true
  have hnotBusy : ¬ ((taken r a).fw.busy.isSome || (pf r 0 63 60 == 2 && commitUnderWay (taken r a))) = true := by
    simp only [hfree, Option.isSome_none, Bool.false_or, Bool.and_eq_true, beq_iff_eq, not_and, Bool.not_eq_true]
    exact hcommit
  unfold fwUpdateBody
  refine (if_neg hlock).trans ((if_neg hnotBusy).trans ?_)
  rw [hpay]
  rfl

theorem fwPhase_write (h : pf r 0 63 60 = 0) (hal : pf r 0 31 0 % 4096 = 0) (hfits : pf r 0 31 0 + (rLen r - 8) ≤ 16777216) :
    fwPhase r b = (.waits waitFirmware, fwWrite r b) := by
  rw [fwPhase, h]
  exact if_pos ⟨hal, hfits⟩

theorem fwPhase_verify (h : pf r 0 63 60 = 1) : fwPhase r b = (.waits waitFirmware, { b with fw.busy := some r.mb, fw.phase := 1 }) := by
  rw [fwPhase, h]
  rfl

theorem fwPhase_discard (h : pf r 0 63 60 = 3) : fwPhase r b = good (fwResponse (unsealFw b)) (unsealFw b) := by
  rw [fwPhase, h]
  rfl

theorem fwPhase_atReset (h : pf r 0 63 60 = 2) (hver : b.fw.verified = true) (hmode : pf r 0 59 58 = 0) (hrom : b.chip.romRecovery = false) :
    fwPhase r b = good (fwResponse { sealFw b with fw.pending := true }) { sealFw b with fw.pending := true } := by
  rw [fwPhase, h]
  refine (if_neg ?_).trans (if_pos hmode)
  simp [hver, hmode, hrom]

theorem fwPhase_restart (h : pf r 0 63 60 = 2) (hver : b.fw.verified = true) (hmode : pf r 0 59 58 = 1) :
    fwPhase r b = (.waits waitFirmware, mcRestart 3 (modMb r.mb (fun m => { m with took := true }) (sealFw b))) := by
  rw [fwPhase, h]
  refine (if_neg ?_).trans (if_neg (by omega))
  simp [hver, hmode]

/-! ## What flash has done -/

theorem fwUpdateDone_write {m : Nat} (hm : a.fw.busy = some m) (hphase : a.fw.phase = 0) : fwUpdateDone a =
    (let t := putFwSlot (inactiveSlot a) (readFw (a.fwSlot (inactiveSlot a)).body) { a with fw.busy := none }
     finishWait m waitFirmware stOk true (fwResponse t) t) := by
  unfold fwUpdateDone
  rw [hm]
  exact if_pos hphase

theorem fwUpdateDone_verify {m st : Nat} (hm : a.fw.busy = some m) (hphase : a.fw.phase = 1)
    (hst : verifyStatus a (a.fwSlot (inactiveSlot a)) = st) : fwUpdateDone a =
    (let t : State := { a with fw.busy := none, fw.verified := st == stOk }
     finishWait m waitFirmware st (st == stOk) (if st = stOk then fwResponse t else if st = stInvalid then [refusalQuad 0 0 0 0] else []) t) := by
  unfold fwUpdateDone
  rw [hm]
  dsimp only
  rw [hst]
  exact if_neg (by omega)

theorem fwUpdateDone_idle (h : a.fw.busy = none) : fwUpdateDone a = a := by
  unfold fwUpdateDone
  rw [h]

/-- A pending seal is written, and is then no longer pending. -/
theorem sealFirst_sealing (hseal : a.conf.sealing = true) (hruns : mcRuns a = true) (hw : a.conf.write.isSome = true) :
    (sealFirst a).conf.sealing = false := by
  obtain ⟨⟨slot, seq⟩, hwrite⟩ := Option.isSome_iff_exists.1 hw
  have hput (b : Bool) (x : CfgSlot) (t : State) : (putCfgSlot b x t).conf.sealing = t.conf.sealing := by cases b <;> rfl
  have hreport (d epoch : Nat) (sealed' slot' : Bool) (t : State) : (reportDone d epoch sealed' slot' t).conf.sealing = t.conf.sealing := by
    unfold reportDone
    split
    · rw [noteDone_eq]
      exact congrArg (fun k => k.1.sealing) (settleSwapped_ownConf _)
    · exact congrArg (fun k => k.1.sealing) (post_ownConf ..)
  unfold sealFirst sealWrite
  rw [if_pos hseal, hwrite]
  dsimp only
  rw [if_pos (by rw [hseal, hruns]; rfl)]
  have hsealed : (emit (.flash 2 slot) (putCfgSlot (slot == 1) { a.cfgSlot (slot == 1) with sealWord := some seq }
      { a with conf.write := none, conf.sealing := false })).conf.sealing = false := hput ..
  split
  · exact (hreport ..).trans hsealed
  · exact hsealed

/-- The effect of FW_CONFIRM_TIMEOUT. -/
def confirmTimeout (s : State) : State := match s.fw.firstStart with
  | some t => if s.since t (10 * oneSec) then { s with fw.fallback := true, fw.firstStart := none } else s
  | none => s

theorem fwConfirmTimeout_eq : exec (.fwConfirmTimeout dt) s = run dt true confirmTimeout s := rfl

theorem confirmTimeout_due {u : Time} (h : a.fw.firstStart = some u) (hdue : u + 10 * oneSec ≤ a.now) :
    confirmTimeout a = { a with fw.fallback := true, fw.firstStart := none } := by
  rw [confirmTimeout, h]
  exact if_pos (decide_eq_true hdue)

theorem confirmTimeout_early {u : Time} (h : a.fw.firstStart = some u) (hearly : a.now < u + 10 * oneSec) : confirmTimeout a = a := by
  rw [confirmTimeout, h]
  exact if_neg (ne_true_of_eq_false (since_eq_false hearly))

theorem confirmTimeout_none (h : a.fw.firstStart = none) : confirmTimeout a = a := by
  rw [confirmTimeout, h]

end

end Sys2Proof.Machine

namespace Sys2Proof

open Machine

/-- Settles O28: the phases of the command, then each event by the state it finds. -/
theorem firmwareIsWrittenVerifiedAndStarted : Obligations.FirmwareIsWrittenVerifiedAndStarted := by
  refine ⟨?command, ?events⟩
  case command =>
    intro s dt r a b (hsent : FwSent r a) hfree hpay
    have hbody (h : pf r 0 63 60 = 2 → commitUnderWay b = false) : fwUpdateBody r b = fwPhase r b := hsent.body hfree hpay h
    refine ⟨fun h hal hfits => ?write, fun h => ?verify, fun h hver hcommit => ⟨fun hmode hrom => ?atReset, fun hmode => ?restart⟩, fun h => ?discard⟩
    case write => exact hsent.gives (hsent.isFw h) ((hbody (by omega)).trans (fwPhase_write h hal hfits))
    case verify => exact hsent.gives (hsent.isFw h) ((hbody (by omega)).trans (fwPhase_verify h))
    case atReset =>
      exact hsent.gives (by rw [hsent.isFw h, hmode]; rfl) ((hbody fun _ => hcommit).trans (fwPhase_atReset h hver hmode hrom))
    case restart => exact hsent.gives (by rw [hsent.isFw h, hmode]; rfl) ((hbody fun _ => hcommit).trans (fwPhase_restart h hver hmode))
    case discard => exact hsent.gives (hsent.isFw h) ((hbody (by omega)).trans (fwPhase_discard h))
  case events =>
    intro s dt a
    refine ⟨fun m hm hphase => ?written, fun m hm hphase => ⟨fun hst => ?passed, fun hst => ?denied, fun hst => ?invalid⟩, fun h => ?idle,
      fun hruns => ?confirmed, fun h => ?unsealed, sealFirst_sealing, fun t h hdue => ?due, fun t h hearly => ?early, fun h => ?none⟩
    case written => exact run_gives (f := fwUpdateDone) rfl (fwUpdateDone_write hm hphase)
    case passed => exact run_gives (f := fwUpdateDone) rfl (fwUpdateDone_verify hm hphase hst)
    case denied => exact run_gives (f := fwUpdateDone) rfl (fwUpdateDone_verify hm hphase hst)
    case invalid => exact run_gives (f := fwUpdateDone) rfl (fwUpdateDone_verify hm hphase hst)
    case idle => exact run_gives (f := fwUpdateDone) rfl (fwUpdateDone_idle h)
    case confirmed => exact run_gives (f := fwConfirm) rfl (if_pos hruns)
    case unsealed => exact if_neg (ne_true_of_eq_false h)
    case due => exact fwConfirmTimeout_eq.trans (run_gives rfl (confirmTimeout_due h hdue))
    case early => exact fwConfirmTimeout_eq.trans (run_gives rfl (confirmTimeout_early h hearly))
    case none => exact fwConfirmTimeout_eq.trans (run_gives rfl (confirmTimeout_none h))

end Sys2Proof

/-! # ATTEST and SPDM (R406, R441, R444 to R447) -/

namespace Sys2Proof.Machine

section
variable {s a : State} {r : Req} {dt : Time} {t need : Nat} {c : Instr} {f : State → State}

theorem attestBody_signs (hpay : payloadBad r [2 ^ 64 - 1, 2 ^ 64 - 1, 2 ^ 64 - 1, 2 ^ 64 - 1, 7] = none)
    (hnonce : ((rPay r).take 4).all (· == 0) = false) : attestBody r a =
      (let rep := reportQuads a ((rPay r).take 4) (pf r 4 2 0)
       good (rep ++ bytesToQuads (leBytes 2420 (identitySig a (rep.flatMap fun q => leBytes 8 q.toNat)))) a) := by
  unfold attestBody
  dsimp only
  rw [hpay]
  exact if_neg (ne_true_of_eq_false hnonce)

/-! ## SPDM requests, by what the transport and the MC are ready for -/

theorem spdm_busy (hcore : coreRuns a = true) (ht : spdmTransport a t = true) (h : a.mgmt.serving = false ∨ a.chip.romRecovery = true) :
    spdm t need f a = spdmError t 3 a :=
  (if_neg (by simp [hcore, ht])).trans (if_pos (by rcases h with h | h <;> simp [h]))

/-- The MC serves a request at an SPDM transport that exists. -/
structure SpdmServes (t : Nat) (a : State) : Prop where
  core : coreRuns a = true
  transport : spdmTransport a t = true
  serving : a.mgmt.serving = true
  booted : a.chip.romRecovery = false

theorem SpdmServes.eq (h : SpdmServes t a) : spdm t need f a = if spdmState a t < need then spdmError t 4 a else f a :=
  (if_neg (by simp [h.core, h.transport])).trans (if_neg (by simp [h.serving, h.booted]))

theorem SpdmServes.gives (h : SpdmServes t (advance dt s)) (hc : exec c s = run dt true (spdm t need f) s) (hs : need ≤ spdmState (advance dt s) t)
    {u : State} (hu : f (advance dt s) = u) : Gives c s u :=
  hc.trans (run_gives rfl (h.eq.trans ((if_neg (Nat.not_lt.2 hs)).trans hu)))

/-! ## The requests -/

/-- The effects of GET_CERTIFICATE, CHALLENGE and GET_MEASUREMENTS. -/
def certificatePart (t slot offset n : Nat) (s : State) : State :=
  if slot ≠ 0 ∨ Config.certChain.length < offset then spdmError t 1 s
  else spdmSend t 0x02 ([slot, ((Config.certChain.drop offset).take n).length,
    Config.certChain.length - offset - ((Config.certChain.drop offset).take n).length] ++ ((Config.certChain.drop offset).take n).map (·.toNat)) s

def challenged (t slot : Nat) (nonce : BitVec 256) (s : State) : State :=
  if slot ≠ 0 then spdmError t 1 s else spdmSigned t 0x03 [certDigest.toNat] nonce s

def measured (i : Nat) (s : State) : Option (List Nat) := match i with
  | 0 => some [3]
  | 255 => some ([1, 2, 3].flatMap (measBlock s))
  | _ => if within 1 3 i then some (measBlock s i) else none

def measurementsSent (t i : Nat) (sg : Bool) (nonce : BitVec 256) (s : State) : State := match measured i s with
  | none => spdmError t 1 s
  | some b => if sg then spdmSigned t 0x60 b nonce s else spdmSend t 0x60 b s

theorem getCertificate_eq {slot offset n : Nat} :
    exec (.getCertificate dt t slot offset n) s = run dt true (spdm t 3 (certificatePart t slot offset n)) s := rfl

theorem challenge_eq {slot : Nat} {nonce : BitVec 256} :
    exec (.challenge dt t slot nonce) s = run dt true (spdm t 3 (challenged t slot nonce)) s := rfl

theorem getMeasurements_eq {i : Nat} {sg : Bool} {nonce : BitVec 256} :
    exec (.getMeasurements dt t i sg nonce) s = run dt true (spdm t 3 (measurementsSent t i sg nonce)) s := rfl

theorem measured_none {i : Nat} (h : 3 < i) (h255 : i ≠ 255) : measured i a = none := by
  unfold measured
  split
  · omega
  · omega
  · exact if_neg (by simp only [within, Bool.and_eq_true, decide_eq_true_eq]; omega)

theorem measured_some {i : Nat} {blocks : List Nat} (h : (i, blocks) ∈ [(0, [3]), (1, measBlock a 1), (2, measBlock a 2), (3, measBlock a 3),
    (255, measBlock a 1 ++ measBlock a 2 ++ measBlock a 3)]) : measured i a = some blocks := by
  simp only [List.mem_cons, Prod.mk.injEq, List.not_mem_nil, or_false] at h
  rcases h with ⟨rfl, rfl⟩ | ⟨rfl, rfl⟩ | ⟨rfl, rfl⟩ | ⟨rfl, rfl⟩ | ⟨rfl, rfl⟩ <;> rfl

/-- A signed response has a nonce of its own, and the identity key's signature over the transcript. -/
theorem spdmSigned_signs (t code : Nat) (body : List Nat) (nonce : BitVec 256) (a : State) : ∃ own : Nat, own < 2 ^ 256 ∧
    spdmSigned t code body nonce a = emit (.spdm t code (own :: body) (Config.mldsaSign a.sec.idSeed
      (sha3 (leBytes 32 nonce.toNat ++ leBytes 32 own ++ body.flatMap (leBytes 32))))) { a with freeCtr := a.freeCtr + 1 } :=
  ⟨drawn a % 2 ^ 256, Nat.mod_lt _ (Nat.two_pow_pos 256), rfl⟩

end

end Sys2Proof.Machine

namespace Sys2Proof

open Machine

/-- Settles O29: ATTEST by its body, each SPDM request by what the transport has come to. -/
theorem attestationAndSpdmAnswer : Obligations.AttestationAndSpdmAnswer := by
  refine ⟨?attest, ?spdm⟩
  case attest =>
    intro s dt r a b rep full hsent hpay hnonce
    exact sent_completes hsent (attestBody_signs hpay hnonce)
  intro s dt t nonce o1 o2 slot offset n i sg a requests wrong fresh signs hcore ht
  have hrequest : ∀ q ∈ requests, ∃ f, exec q.2 s = run dt true (spdm t q.1 f) s := by
    simp only [requests, List.mem_cons, List.not_mem_nil, or_false, forall_eq_or_imp, forall_eq]
    exact ⟨⟨_, rfl⟩, ⟨_, rfl⟩, ⟨_, rfl⟩, ⟨_, rfl⟩, ⟨_, rfl⟩, ⟨_, rfl⟩, ⟨_, rfl⟩⟩
  refine ⟨fun hbusy q hq => ?busy, fun hserving hrom => ?serves⟩
  case busy =>
    obtain ⟨f, hf⟩ := hrequest q hq
    exact hf.trans (run_gives rfl (spdm_busy hcore ht hbusy))
  case serves =>
    have hserves : SpdmServes t a := ⟨hcore, ht, hserving, hrom⟩
    refine ⟨fun q hq hearly => ?early, ?version, fun h1 => ?capabilities, fun h2 => ?algorithms, fun h3 => ⟨?digests, fun h0 hoff => ?certificate,
      fun hbad => ?noCertificate, fun h0 => ?challenge, fun h0 => ?noChallenge, fun blocks hb => ⟨fun hsg => ?plain, fun hsg => ?signed⟩,
      fun hi h255 => ?noMeasurement⟩⟩
    case early =>
      obtain ⟨f, hf⟩ := hrequest q hq
      exact hf.trans (run_gives rfl (hserves.eq.trans (if_pos hearly)))
    case version => exact hserves.gives (need := 0) (f := fun s => spdmSend t 0x04 [0x12] (setSpdm t 1 s)) rfl (Nat.zero_le _) rfl
    case capabilities => exact hserves.gives (f := fun s => spdmSend t 0x61 [0x16] (setSpdm t 2 s)) rfl h1 rfl
    case algorithms =>
      exact hserves.gives (f := fun s => if o1 && o2 then spdmSend t 0x63 [256, 61207, 1] (setSpdm t 3 s) else spdmError t 1 s) rfl h2 rfl
    case digests => exact hserves.gives (f := spdmSend t 0x01 [1, certDigest.toNat]) rfl h3 rfl
    case certificate =>
      subst h0
      exact hserves.gives getCertificate_eq h3 (if_neg (by simpa using hoff))
    case noCertificate => exact hserves.gives getCertificate_eq h3 (if_pos hbad)
    case challenge =>
      obtain ⟨own, hown, hsigned⟩ := spdmSigned_signs t 0x03 [certDigest.toNat] nonce a
      exact ⟨own, hown, hserves.gives challenge_eq h3 ((if_neg (fun h => h h0)).trans hsigned)⟩
    case noChallenge => exact hserves.gives challenge_eq h3 (if_pos h0)
    case plain =>
      refine hserves.gives getMeasurements_eq h3 ?_
      rw [measurementsSent, measured_some hb, hsg]
      rfl
    case signed =>
      obtain ⟨own, hown, hsigned⟩ := spdmSigned_signs t 0x60 blocks nonce a
      refine ⟨own, hown, hserves.gives getMeasurements_eq h3 ?_⟩
      rw [measurementsSent, measured_some hb, hsg]
      exact hsigned
    case noMeasurement =>
      refine hserves.gives getMeasurements_eq h3 ?_
      rw [measurementsSent, measured_none hi h255]
      rfl

end Sys2Proof

/-! # Debug tokens and debug accesses (R448 to R450, R262, R266) -/

namespace Sys2Proof.Machine

section
variable {s a b : State} {r : Req} {dt : Time}

/-! ## DEBUG_TOKEN -/

/-- The actions of DEBUG_TOKEN. -/
def tokenAction (r : Req) (s : State) : Answer × State := match pf r 0 63 60 with
  | 0 => issueNonce s
  | 1 => if rLen r = 2556 then submitToken r s else invalidHeader s
  | 2 => good [] { s with sec.token := none }
  | _ => invalidAt 0 s

/-- A DEBUG_TOKEN at the debug mailbox. -/
structure TokenSent (r : Req) (a : State) : Prop where
  ready : Ready r a
  opcode : rOp r = 0x0D03
  mb : r.mb = 66
  payload : payloadBad r [2 ^ 64 - 2 ^ 60] = none

theorem TokenSent.body (h : TokenSent r a) : debugToken r b = tokenAction r b := by
  obtain ⟨⟨-, -, -, -, -, -, -, hheader⟩, -, hmb, hpay⟩ := h
  unfold debugToken
  refine (if_neg (by simp [hheader])).trans ((if_neg fun h => h hmb).trans ?_)
  rw [hpay]
  rfl

theorem TokenSent.gives {sp : Req → Bool} {x : Answer × State} (h : TokenSent r (advance dt s)) (hs : sp r = true)
    (hx : tokenAction r (taken r (advance dt s)) = x) :
    run dt (okReq r) (command sp debugToken r) s = .next { conclude r x with pending := s.pending } := by
  refine run_gives (decide_eq_true h.ready.1) ?_
  rw [command_taken _ _ _ _ h.ready hs, h.body, hx]

theorem TokenSent.isToken {n : Nat} (h : TokenSent r a) (hn : pf r 0 63 60 = n) : isToken n r = true := by
  simp [Machine.isToken, isOp, h.opcode, hn]

theorem tokenAction_nonce (h : pf r 0 63 60 = 0) : tokenAction r b = issueNonce b := by
  rw [tokenAction, h]
  rfl

theorem tokenAction_submit (h : pf r 0 63 60 = 1) (hlen : rLen r = 2556) : tokenAction r b = submitToken r b := by
  rw [tokenAction, h]
  exact if_pos hlen

theorem tokenAction_revoke (h : pf r 0 63 60 = 2) : tokenAction r b = good [] { b with sec.token := none } := by
  rw [tokenAction, h]
  rfl

/-! ## A token's time -/

/-- The effect of DEBUG_TOKEN_EXPIRY. -/
def tokenExpiry (s : State) : State := match s.sec.token with
  | some (_, _, _, ends) => if ends ≤ s.now then { s with sec.token := none } else s
  | none => s

theorem debugTokenExpiry_eq : exec (.debugTokenExpiry dt) s = run dt true tokenExpiry s := rfl

theorem tokenExpiry_held {i g k : Nat} {ends : Time} (h : a.sec.token = some (i, g, k, ends)) :
    tokenExpiry a = if ends ≤ a.now then { a with sec.token := none } else a := by
  rw [tokenExpiry, h]

theorem tokenExpiry_none (h : a.sec.token = none) : tokenExpiry a = a := by
  rw [tokenExpiry, h]

/-! ## Debug accesses -/

theorem debugSidePort_open {k : Bank} (hg : bit (tokenGrants a) 3 = true) (hopen : sidePortOpen a k = true) :
    debugSidePort k a = match k with
      | .counterBank id => emit (.debugResponse false [if a.count.invalid.contains id then 2 ^ 64 - 1 else tget 0 a.count.live id]) a
      | _ => emit (.debugResponse false [drawn a]) (drew a) := by
  unfold debugSidePort
  exact (if_neg (by simp [hg, hopen])).trans (by cases k <;> rfl)

theorem debugSidePort_denied {k : Bank} (h : bit (tokenGrants a) 3 = false ∨ sidePortOpen a k = false) : debugSidePort k a = denyDebug 0 false a :=
  if_pos (by rcases h with h | h <;> simp [h])

theorem debugAccess_sidePort {k : Bank} : exec (.debugAccess dt (.sidePort k)) s = run dt (okBank k) (debugSidePort k) s := rfl

section
variable {port table lo len : Nat} {write : Bool}

theorem debugMemory_ungranted (h : bit (tokenGrants a) (if write then 2 else 1) = false) :
    debugMemory port table lo len write a = denyDebug port write a := if_pos (by rw [h]; rfl)

theorem debugMemory_granted (h : bit (tokenGrants a) (if write then 2 else 1) = true) : debugMemory port table lo len write a =
    match debugStop a port table lo len write with
    | some i => denyDebug port write (count1 (cAct port table i) a)
    | none =>
      let t : Tlp := { kind := if write then .memWrite else .memRead, addr := lo, len := len }
      let s1 := if (a.port port).up then emit (.tlp port t) a else a
      if write then emit (.debugResponse false []) s1 else emit (.debugResponse false [drawn s1]) (drew s1) := by
  refine (if_neg (by rw [h]; exact Bool.false_ne_true)).trans ?_
  cases debugStop a port table lo len write <;> rfl

theorem debugAccess_memory : exec (.debugAccess dt (.memory port table lo len write)) s =
    run dt (okDebug (.memory port table lo len write)) (debugMemory port table lo len write) s := rfl

end

end

end Sys2Proof.Machine

namespace Sys2Proof

open Machine

/-- Settles O30: the command by its action, the accesses by their grants. -/
theorem debugTokensAndAccesses : Obligations.DebugTokensAndAccesses := by
  refine ⟨?command, ?events⟩
  case command =>
    intro s dt r a b hready hop hmb hpay
    have hsent : TokenSent r a := ⟨hready, hop, hmb, hpay⟩
    refine ⟨fun h => ?nonce, fun h hlen => ?submit, fun h => ?revoke⟩
    case nonce => exact ⟨drawn b % 2 ^ 256, Nat.mod_lt _ (Nat.two_pow_pos 256), hsent.gives (hsent.isToken h) (tokenAction_nonce h)⟩
    case submit =>
      intro k
      have hsp : (isToken 1 r && tokenOf r == k) = true := by rw [hsent.isToken h, beq_self_eq_true]; rfl
      have haction : tokenAction r b = submitToken r b := tokenAction_submit h hlen
      split
      · next hacc => exact hsent.gives (sp := fun r => isToken 1 r && tokenOf r == k) hsp (haction.trans (if_pos hacc))
      · next hacc =>
        rw [← hmb]
        exact hsent.gives (sp := fun r => isToken 1 r && tokenOf r == k) hsp (haction.trans (if_neg hacc))
    case revoke => exact hsent.gives (hsent.isToken h) (tokenAction_revoke h)
  case events =>
    intro s dt a
    refine ⟨fun i g k ends h hdue => ?due, fun i g k ends h hearly => ?early, fun h => ?none, fun id hg hopen => ?counter,
      fun k hk hg hopen hne => ?bank, fun k hk h => ?closed, ?memory⟩
    case due => exact debugTokenExpiry_eq.trans (run_gives rfl ((tokenExpiry_held h).trans (if_pos hdue)))
    case early => exact debugTokenExpiry_eq.trans (run_gives rfl ((tokenExpiry_held h).trans (if_neg (Nat.not_le.2 hearly))))
    case none => exact debugTokenExpiry_eq.trans (run_gives rfl (tokenExpiry_none h))
    case counter => exact debugAccess_sidePort.trans (run_gives rfl (debugSidePort_open hg hopen))
    case bank =>
      refine ⟨drawn a, debugAccess_sidePort.trans (run_gives hk ((debugSidePort_open hg hopen).trans ?_))⟩
      cases k
      case counterBank id => exact absurd rfl (hne id)
      all_goals rfl
    case closed => exact debugAccess_sidePort.trans (run_gives hk (debugSidePort_denied h))
    case memory =>
      intro port table lo len write hport htable granted sent
      have hok : okDebug (.memory port table lo len write) = true := by simp [okDebug, okPort, hport, htable]
      refine ⟨fun h => ?ungranted, fun i h hstop => ?stopped, fun h hstop => ⟨fun hw => ?write, fun hw => ?read⟩⟩
      case ungranted => exact debugAccess_memory.trans (run_gives hok (debugMemory_ungranted h))
      case stopped =>
        refine debugAccess_memory.trans (run_gives hok ((debugMemory_granted h).trans ?_))
        rw [hstop]
      case write =>
        refine debugAccess_memory.trans (run_gives hok ((debugMemory_granted h).trans ?_))
        rw [hstop]
        exact if_pos hw
      case read =>
        have hctr : sent.freeCtr = a.freeCtr := by
          dsimp only [sent]
          split <;> rfl
        refine ⟨drawn sent, debugAccess_memory.trans (run_gives hok ((debugMemory_granted h).trans ?_))⟩
        rw [hstop]
        refine (if_neg (ne_true_of_eq_false hw)).trans ?_
        rw [← hctr]
        rfl

end Sys2Proof

/-! # RESHIM, POWER_CAP, PLANER_SET and TANDEM_SET (R427, R480, R486, R490) -/

namespace Sys2Proof.Machine

section
variable {b : State} {r : Req}

/-- RESHIM under the device lock, with no run in progress and governor stage 2 away. -/
theorem reshimBody_may (hlock : holdsLock b r.mb 0 = true) (hrun : b.aging.running = false) (hstage : effStage b < 2) : reshimBody r b =
    if pf r 0 0 0 = 0 then
      match payloadBad r [1] with
        | some q => invalidAt q b
        | none => good [] (startReshim (drawn b % 256) (drew b))
    else match payloadBad r [1, 2 ^ 60 - 2 ^ 32] with
      | some q => invalidAt q b
      | none =>
        if pf r 1 58 48 = 0 then invalidAt 1 b
        else good [] (saveWear { b with
          aging.allowStep := pf r 1 59 59 == 1, aging.intervalD := pf r 1 58 48, aging.noticeS := pf r 1 47 32 }) := by
  unfold reshimBody
  refine (if_neg (by simp [hlock])).trans ((if_neg (by simp [hrun, hstage])).trans ?_)
  cases payloadBad r [1] <;> cases payloadBad r [1, 2 ^ 60 - 2 ^ 32] <;> rfl

theorem tandemSetBody_takes (hlock : holdsLock b r.mb 0 = true) (hpay : payloadBad r [2 ^ 64 - 2 ^ 56, 2 ^ 40 - 1] = none)
    (hrole : pf r 0 63 62 ≠ 3) (hpartner : pf r 0 63 62 ≠ 2 → pf r 0 61 56 ≠ b.dev) (hspokes : popcount (pf r 1 39 0) 40 ≤ 8) :
    tandemSetBody r b = good [] (takeRole (pf r 0 63 62) (pf r 0 61 56) (onesBelow (pf r 1 39 0) 40) b) := by
  unfold tandemSetBody
  refine (if_neg (by simp [hlock])).trans ?_
  rw [hpay]
  exact (if_neg (not_or.2 ⟨hrole, fun h => hpartner h.1 h.2⟩)).trans (if_neg (Nat.not_lt.2 hspokes))

theorem within_iff {lo hi n : Nat} : within lo hi n = true ↔ lo ≤ n ∧ n ≤ hi := by
  simp only [within, Bool.and_eq_true, decide_eq_true_eq]

end

end Sys2Proof.Machine

namespace Sys2Proof

open Machine

/-- Settles O31: each command by its body. -/
theorem enduranceCommandsRun : Obligations.EnduranceCommandsRun := by
  intro s dt r a b
  refine ⟨fun hsent hlock hrun hstage => ⟨fun h0 hpay => ?run, fun h1 hpay hdays => ?policy⟩, fun hsent hpay hmin hmax hcap => ?cap,
    fun hsent hlock hpay hmin hmax => ?planer, fun hsent hlock hpay hrole hpartner hspokes => ?tandem⟩
  case run =>
    have hbody := (reshimBody_may hlock hrun hstage).trans (if_pos h0)
    rw [hpay] at hbody
    exact ⟨_, Nat.mod_lt _ (by decide), command_gives hsent (by simp [isOp, hsent.2.1, h0]) (congrArg (conclude r) hbody)⟩
  case policy =>
    have hbody := (reshimBody_may hlock hrun hstage).trans (if_neg (by omega))
    rw [hpay] at hbody
    exact command_gives hsent (by simp [isOp, hsent.2.1, h1]) (congrArg (conclude r) (hbody.trans (if_neg hdays)))
  case cap =>
    refine sent_completes hsent ?_
    rw [hpay]
    exact if_pos ⟨hcap.imp_right within_iff.2, within_iff.2 ⟨hmin, hmax⟩⟩
  case planer =>
    refine sent_completes hsent ((if_neg (by rw [show holdsLock (taken r (advance dt s)) r.mb 0 = true from hlock]; decide)).trans ?_)
    rw [hpay]
    exact if_pos (within_iff.2 ⟨hmin, hmax⟩)
  case tandem => exact sent_completes hsent (tandemSetBody_takes hlock hpay hrole hpartner hspokes)

end Sys2Proof

/-! # MCTP, the debug mailbox and the management bus endpoint (R372 to R374, R378, R384) -/

namespace Sys2Proof.Machine

section
variable {a s : State} {r : Req} {dt : Time} {mb op seq : Nat} {msg : Option Req}

/-- A mailbox that is not BUSY takes a submitted command. -/
theorem submit_taken (h : (a.mb mb).state ≠ 1) : submit mb op seq (some r) a =
    (let t := modMb mb (fun m => { lodge r m with
        state := 1, seq := seq, executed := false, status := 0, respLen := 0, submittedAt := some a.ft.count
        current := some r, waiting := 0, took := false, owed := false, dirty := false, dirtyLate := false }) a
     if a.mgmt.serving then t else finishRestarting mb t) := if_neg h

theorem submit_ignored (h : (a.mb mb).state = 1) : submit mb op seq msg a = ignoreSubmit mb op seq a := if_pos h

theorem ignoreSubmit_oob : ignoreSubmit 64 op seq a = emit (.mctpResponse seq stBusy false (answerHeader a op seq stBusy false 0)) a := by
  unfold ignoreSubmit
  exact if_pos rfl

theorem ignoreSubmit_debug : ignoreSubmit 66 op seq a =
    count1 (cDev cdIgnored) (modMb 66 (fun m => { m with ignored := sat32 (m.ignored + 1) }) a) := by
  unfold ignoreSubmit
  exact (if_neg (by decide)).trans (if_neg (by decide))

/-! ## The effects of the endpoint's events -/

def mctpMessage (r : Req) (s : State) : State := onlyIf (oobTakes s r.mctp) (submit 64 (rOp r) (rSeq r) (some { r with mb := 64 })) s

theorem mctpMessage_takes (h : oobTakes a r.mctp = true) :
    mctpMessage r a = submit 64 (rOp r) (rSeq r) (some { r with mb := 64 }) a := by
  rw [mctpMessage, h]
  rfl

def debugFrame (r : Req) (s : State) : State := submit 66 (rOp r) (rSeq r) (some { r with mb := 66 }) s

def linkLoss (s : State) : State := match s.tandem.linkDownAt with
  | some t => if s.since t ms && !tandemLinkUp s then
      finishWait 65 waitLock stNoLock false [] (removeRequester 65 { s with tandem.linkDownAt := none })
    else s
  | none => s

def mctpControl (cmd arg : Nat) (s : State) : State :=
  let s1 : State := match cmd with
    | 1 => { s with mgmt.oob.eid := arg % 256 }
    | 5 => { s with mgmt.oob.mtu := if s.mgmt.oob.dynAddr.isSome then max 64 (min 256 arg) else 64 }
    | _ => s
  emit (.mctpControl cmd (if cmd = 5 then s1.mgmt.oob.mtu else s1.mgmt.oob.eid)) s1

def dynamicAddress (addr : Nat) (s : State) : State :=
  let s1 : State := { s with mgmt.oob.dynAddr := some (addr % 128) }
  if alertsPending s1 then emit (.ibi 1) { s1 with mgmt.oob.lastIbi := s1.now } else s1

def alertResponse (s : State) : State :=
  if s.mgmt.oob.dynAddr.isNone && s.mgmt.oob.alertLow then emit (.smbusAddress (oobAddr s)) s else s

def ibiRepeat (s : State) : State :=
  if s.mgmt.oob.dynAddr.isSome && alertsPending s && s.since s.mgmt.oob.lastIbi (100 * ms) then
    emit (.ibi 1) { s with mgmt.oob.lastIbi := s.now }
  else s

theorem tandemLinkLoss_eq : exec (.tandemLinkLossTimeout dt) s = run dt true linkLoss s := rfl

theorem mctpControl_eq {cmd arg : Nat} : exec (.mctpControlMessage dt cmd arg) s = run dt true (mctpControl cmd arg) s := rfl

theorem dynamicAddress_eq {addr : Nat} : exec (.i3cDynamicAddress dt addr) s = run dt true (dynamicAddress addr) s := rfl

theorem alertResponse_eq : exec (.alertResponseAddress dt) s = run dt true alertResponse s := rfl

theorem ibiRepeat_eq : exec (.ibiRepeat dt) s = run dt true ibiRepeat s := rfl

/-! ## When they act -/

theorem linkLoss_late {t : Time} (h : a.tandem.linkDownAt = some t) (hdue : t + ms ≤ a.now) (hdown : tandemLinkUp a = false) :
    linkLoss a = finishWait 65 waitLock stNoLock false [] (removeRequester 65 { a with tandem.linkDownAt := none }) := by
  rw [linkLoss, h]
  exact if_pos (by rw [since_eq_true hdue, hdown]; rfl)

theorem linkLoss_early {t : Time} (h : a.tandem.linkDownAt = some t) (hearly : a.now < t + ms ∨ tandemLinkUp a = true) : linkLoss a = a := by
  rw [linkLoss, h]
  refine if_neg ?_
  rcases hearly with hearly | hup
  · rw [since_eq_false hearly]
    exact Bool.false_ne_true
  · simp [hup]

theorem linkLoss_none (h : a.tandem.linkDownAt = none) : linkLoss a = a := by
  rw [linkLoss, h]

theorem mctpControl_other {cmd n : Nat} (h1 : cmd ≠ 1) (h5 : cmd ≠ 5) : mctpControl cmd n a = emit (.mctpControl cmd a.mgmt.oob.eid) a := by
  unfold mctpControl
  split
  · exact absurd rfl h1
  · exact absurd rfl h5
  · dsimp only
    rw [if_neg h5]

theorem dynamicAddress_lt {x : Nat} (h : x < 128) : dynamicAddress x a =
    if alertsPending a then emit (.ibi 1) { a with mgmt.oob.dynAddr := some x, mgmt.oob.lastIbi := a.now }
    else { a with mgmt.oob.dynAddr := some x } := by
  unfold dynamicAddress
  rw [Nat.mod_eq_of_lt h]
  rfl

theorem alertResponse_none (h : a.mgmt.oob.dynAddr ≠ none ∨ a.mgmt.oob.alertLow = false) : alertResponse a = a :=
  if_neg (by rcases h with h | h <;> simp [h])

theorem ibiRepeat_due {x : Nat} (hx : a.mgmt.oob.dynAddr = some x) (halert : alertsPending a = true)
    (hdue : a.mgmt.oob.lastIbi + 100 * ms ≤ a.now) : ibiRepeat a = emit (.ibi 1) { a with mgmt.oob.lastIbi := a.now } :=
  if_pos (by rw [hx, halert, since_eq_true hdue]; rfl)

theorem ibiRepeat_quiet (h : a.mgmt.oob.dynAddr = none ∨ alertsPending a = false ∨ a.now < a.mgmt.oob.lastIbi + 100 * ms) : ibiRepeat a = a := by
  refine if_neg ?_
  rcases h with h | h | h
  · simp [h]
  · simp [h]
  · rw [since_eq_false h, Bool.and_false]
    exact Bool.false_ne_true

end

end Sys2Proof.Machine

namespace Sys2Proof

open Machine

/-- Settles O33: each event by the state it finds. -/
theorem otherEndpointsOfTheMailboxes : Obligations.OtherEndpointsOfTheMailboxes := by
  refine ⟨?mailboxes, ?endpoint⟩
  case mailboxes =>
    intro s dt r a busy taking hmb
    have hok : okReq r = true := decide_eq_true hmb
    refine ⟨fun h => ?notTaken, fun h hfree => ?taken, fun h hbusy => ?busy, fun hfree => ?frame, fun hbusy => ?frameIgnored, fun h => ?timeout,
      fun h => ?answered, fun t h hdue hdown => ?linkLost, fun t h hearly => ?linkBack, fun h => ?linkUp⟩
    case notTaken => exact run_gives (f := mctpMessage r) hok (by rw [mctpMessage, h]; rfl)
    case taken => exact run_gives (f := mctpMessage r) hok ((mctpMessage_takes h).trans (submit_taken hfree))
    case busy => exact run_gives (f := mctpMessage r) hok ((mctpMessage_takes h).trans ((submit_ignored hbusy).trans ignoreSubmit_oob))
    case frame => exact run_gives (f := debugFrame r) hok (submit_taken hfree)
    case frameIgnored => exact run_gives (f := debugFrame r) hok ((submit_ignored hbusy).trans ignoreSubmit_debug)
    case timeout => exact run_gives (f := finishWait r.mb waitDma stTimeout false []) hok (if_pos h)
    case answered => exact run_gives (f := finishWait r.mb waitDma stTimeout false []) hok (if_neg h)
    case linkLost => exact tandemLinkLoss_eq.trans (run_gives rfl (linkLoss_late h hdue hdown))
    case linkBack => exact tandemLinkLoss_eq.trans (run_gives rfl (linkLoss_early h hearly))
    case linkUp => exact tandemLinkLoss_eq.trans (run_gives rfl (linkLoss_none h))
  case endpoint =>
    intro s dt a
    refine ⟨fun eid heid => ?eid, fun n => ?mtu, fun c n h1 h5 => ?other, fun x hx halert => ?address, fun x hx halert => ?addressAlert,
      fun hnone hlow => ?response, fun h => ?noResponse, fun h => ?quiet, fun x hx halert hdue => ?again⟩
    case eid =>
      refine mctpControl_eq.trans (run_gives rfl ?_)
      unfold mctpControl
      rw [Nat.mod_eq_of_lt heid]
      rfl
    case mtu => exact mctpControl_eq.trans (run_gives rfl rfl)
    case other => exact mctpControl_eq.trans (run_gives rfl (mctpControl_other h1 h5))
    case address => exact dynamicAddress_eq.trans (run_gives rfl ((dynamicAddress_lt hx).trans (if_neg (ne_true_of_eq_false halert))))
    case addressAlert => exact dynamicAddress_eq.trans (run_gives rfl ((dynamicAddress_lt hx).trans (if_pos halert)))
    case response =>
      refine alertResponse_eq.trans (run_gives rfl ((if_pos (by rw [hnone, hlow]; rfl)).trans ?_))
      rw [oobAddr, hnone]
      rfl
    case noResponse => exact alertResponse_eq.trans (run_gives rfl (alertResponse_none h))
    case quiet => exact ibiRepeat_eq.trans (run_gives rfl (ibiRepeat_quiet h))
    case again => exact ibiRepeat_eq.trans (run_gives rfl (ibiRepeat_due hx halert hdue))

end Sys2Proof

/-! # Tandem heads: heartbeats, mastership and the partner's messages (R371, R372, R427 to R430, R543) -/

namespace Sys2Proof.Machine

section
variable {a s t : State} {dt : Time}

/-- A report leaves fabric time and the tandem. -/
theorem Reported.ft (h : Reported s t) : t.ft = s.ft := (congrArg State.ft h.rest :)
theorem Reported.tandem (h : Reported s t) : t.tandem = s.tandem := (congrArg State.tandem h.rest :)

/-! ## The effects of the events -/

def heartbeatSend (s : State) : State :=
  if coreRuns s && !inDeviceReset s && decide (s.tandem.configuredRole < 2) then offerHandover (sendBeats s) else s

def heartbeatTimeout (s : State) : State :=
  if coreRuns s && s.tandem.role == 1 && !s.ft.master && s.ft.yielded.isNone && s.since s.tandem.lastBeat (800 * us) then
    { becomeMaster s with tandem.handoverAt := s.tandem.handoverAt, tandem.tHandover := s.ft.count }
  else s

def masterClaim (s : State) : State := match s.tandem.firstSpokeUp with
  | some t =>
    if coreRuns s && s.tandem.role == 0 && !s.ft.master && !s.tandem.returning && s.ft.yielded.isNone && s.since t (800 * us)
    then becomeMaster s else s
  | none => s

def handoverHeard (th : Nat) (s : State) : State :=
  if coreRuns s && s.tandem.role == 1 then { s with tandem.handoverAt := some th } else s

def handoverTime (s : State) : State := match s.tandem.handoverAt with
  | some t =>
    if coreRuns s && s.tandem.role == 0 && s.ft.locked && !s.ft.master && s.ft.yielded.isNone && decide (t ≤ s.ft.count) then
      { becomeMaster s with tandem.tHandover := s.ft.count }
    else s
  | none => s

/-- R428 applies again once the lower master has gone. -/
def roleResumes (s : State) : State := match s.tandem.role with
  | 0 => { s with tandem.firstSpokeUp := some s.now, tandem.returning := false }
  | 1 => s
  | _ => becomeMaster s

def yieldRelease (s : State) : State := match s.ft.yielded with
  | some m => if s.since (masterSeen s m) ms then roleResumes { s with ft.yielded := none } else s
  | none => s

def heartbeatHeard (dev role : Nat) (master : Bool) (version epoch pfx : Nat) (s : State) : State :=
  if coreRuns s && decide (pfx < 2 ^ 64) then heartbeat dev role master version epoch s else s

def mailboxHeard (seq offset : Nat) (last : Bool) (part : List Word64) (s : State) : State :=
  if coreRuns s && decide (seq < 65536) then tdmMailbox offset last part s else s

def responseHeard (seq offset : Nat) (last : Bool) (part : List Word64) (s : State) : State :=
  if coreRuns s && decide (seq < 65536) && (last || decide (part.length ≤ 512)) then
    { s with mgmt.tdmResp := joinPart s.mgmt.tdmResp offset part }
  else s

theorem heartbeatSend_eq : exec (.heartbeatSend dt) s = run dt true heartbeatSend s := rfl

theorem heartbeatTimeout_eq : exec (.heartbeatTimeout dt) s = run dt true heartbeatTimeout s := rfl

theorem masterClaim_eq : exec (.masterClaimTimeout dt) s = run dt true masterClaim s := rfl

theorem handoverHeard_eq {th : Nat} : exec (.tdmHandover dt th) s = run dt true (handoverHeard th) s := rfl

theorem handoverTime_eq : exec (.handoverTime dt) s = run dt true handoverTime s := rfl

theorem yieldRelease_eq : exec (.masterYieldRelease dt) s = run dt true yieldRelease s := rfl

theorem heartbeatHeard_eq {dev role ver epoch pfx : Nat} {m : Bool} : exec (.tdmHeartbeat dt dev role m ver epoch pfx) s =
    run dt (okDev dev) (heartbeatHeard dev role m ver epoch pfx) s := rfl

theorem mailboxHeard_eq {seq off : Nat} {last : Bool} {part : List Word64} :
    exec (.tdmMailbox dt seq off last part) s = run dt true (mailboxHeard seq off last part) s := rfl

theorem responseHeard_eq {seq off : Nat} {last : Bool} {part : List Word64} :
    exec (.tdmResponse dt seq off last part) s = run dt true (responseHeard seq off last part) s := rfl

/-! ## Heartbeats -/

/-- Fabric time and the tandem. -/
def heads (s : State) : FabTime × Tandem := (s.ft, s.tandem)

theorem Reported.heads (h : Reported s t) : heads t = heads s := Prod.ext h.ft h.tandem

theorem post_heads (o : Out) (s : State) : heads (post o s) = heads s := by
  have hroute (d p q r c : Nat) (cs : List Cell) (u : State) : heads (routeCells d p q r c cs u) = heads u :=
    (routeCells_reported (Reported.refl u)).heads
  unfold post
  dsimp only
  split
  · split
    · rfl
    · rw [hroute, apply_ite heads]
      exact ite_self _
  · rfl

theorem sendBeats_heads (s : State) : heads (sendBeats s) = heads s :=
  (post_heads ..).trans (postTandem_reported (Reported.refl s)).heads

/-- A head that beats. -/
def Beats (s : State) : Prop := coreRuns s = true ∧ inDeviceReset s = false ∧ s.tandem.configuredRole < 2

/-- A head that offers the handover. -/
def Offers (s : State) : Prop :=
  s.tandem.role = 0 ∧ s.tandem.returning = true ∧ s.ft.master = false ∧ s.ft.locked = true ∧ s.tandem.handoverAt = none

theorem heartbeatSend_silent (h : ¬ Beats a) : heartbeatSend a = a :=
  if_neg fun hb => h (by simpa [Beats, and_assoc] using hb)

theorem heartbeatSend_beats (h : Beats a) : heartbeatSend a = offerHandover (sendBeats a) :=
  if_pos (by simpa [Beats, and_assoc] using h)

theorem Offers.iff_cond (s : State) : (s.tandem.role = 0 ∧ s.tandem.returning ∧ !s.ft.master ∧ s.ft.locked ∧ s.tandem.handoverAt.isNone) ↔
    Offers s := by simp [Offers]

theorem offers_congr (h : heads t = heads s) : Offers t ↔ Offers s := by
  obtain ⟨hft, htandem⟩ := Prod.mk.inj h
  rw [Offers, Offers, hft, htandem]

theorem offerHandover_not (h : ¬ Offers s) : offerHandover s = s := if_neg fun hc => h ((Offers.iff_cond s).1 hc)

/-- An offered handover lies 10 ms ahead. -/
theorem offerHandover_offers (h : Offers s) : (offerHandover s).tandem.handoverAt = some (s.ft.count + 10 * ms) := by
  unfold offerHandover
  rw [if_pos ((Offers.iff_cond s).2 h)]
  have hsent (u : State) (pay : List Nat) : heads (toPartner 0x0202 pay u) = heads u := by
    unfold toPartner
    split
    · exact (postTandem_reported (Reported.refl u)).heads
    · exact post_heads ..
  exact congrArg (fun h => h.2.handoverAt) (hsent ..)

/-! ## Mastership -/

theorem heartbeatTimeout_iff (s : State) : (coreRuns s && s.tandem.role == 1 && !s.ft.master && s.ft.yielded.isNone &&
    s.since s.tandem.lastBeat (800 * us)) = true ↔
    coreRuns s = true ∧ s.tandem.role = 1 ∧ s.ft.master = false ∧ s.ft.yielded = none ∧ s.tandem.lastBeat + 800 * us ≤ s.now := by
  simp [State.since, and_assoc]

theorem masterClaim_iff (u : Time) (s : State) : (coreRuns s && s.tandem.role == 0 && !s.ft.master && !s.tandem.returning &&
    s.ft.yielded.isNone && s.since u (800 * us)) = true ↔
    coreRuns s = true ∧ s.tandem.role = 0 ∧ s.ft.master = false ∧ s.tandem.returning = false ∧ s.ft.yielded = none ∧
      u + 800 * us ≤ s.now := by
  simp [State.since, and_assoc]

theorem handoverTime_iff (th : Nat) (s : State) : (coreRuns s && s.tandem.role == 0 && s.ft.locked && !s.ft.master && s.ft.yielded.isNone &&
    decide (th ≤ s.ft.count)) = true ↔
    coreRuns s = true ∧ s.tandem.role = 0 ∧ s.ft.locked = true ∧ s.ft.master = false ∧ s.ft.yielded = none ∧ th ≤ s.ft.count := by
  simp [and_assoc]

theorem masterClaim_eq_ite {u : Time} (h : a.tandem.firstSpokeUp = some u) : masterClaim a =
    if coreRuns a && a.tandem.role == 0 && !a.ft.master && !a.tandem.returning && a.ft.yielded.isNone && a.since u (800 * us)
    then becomeMaster a else a := by
  rw [masterClaim, h]

theorem handoverTime_eq_ite {th : Nat} (h : a.tandem.handoverAt = some th) : handoverTime a =
    if coreRuns a && a.tandem.role == 0 && a.ft.locked && !a.ft.master && a.ft.yielded.isNone && decide (th ≤ a.ft.count) then
      { becomeMaster a with tandem.tHandover := a.ft.count }
    else a := by
  rw [handoverTime, h]

theorem masterClaim_not (h : ∀ u, a.tandem.firstSpokeUp = some u → ¬ (coreRuns a = true ∧ a.tandem.role = 0 ∧ a.ft.master = false ∧
    a.tandem.returning = false ∧ a.ft.yielded = none ∧ u + 800 * us ≤ a.now)) : masterClaim a = a := by
  cases hu : a.tandem.firstSpokeUp with
  | none => rw [masterClaim, hu]
  | some u => exact (masterClaim_eq_ite hu).trans (if_neg fun hc => h u hu ((masterClaim_iff u a).1 hc))

theorem handoverTime_not (h : ∀ th, a.tandem.handoverAt = some th → ¬ (coreRuns a = true ∧ a.tandem.role = 0 ∧ a.ft.locked = true ∧
    a.ft.master = false ∧ a.ft.yielded = none ∧ th ≤ a.ft.count)) : handoverTime a = a := by
  cases hth : a.tandem.handoverAt with
  | none => rw [handoverTime, hth]
  | some th => exact (handoverTime_eq_ite hth).trans (if_neg fun hc => h th hth ((handoverTime_iff th a).1 hc))

theorem handoverHeard_takes {th : Nat} (hcore : coreRuns a = true) (hrole : a.tandem.role = 1) :
    handoverHeard th a = { a with tandem.handoverAt := some th } := if_pos (by simp [hcore, hrole])

theorem handoverHeard_ignored {th : Nat} (h : coreRuns a = false ∨ a.tandem.role ≠ 1) : handoverHeard th a = a :=
  if_neg (by rcases h with h | h <;> simp [h])

theorem yieldRelease_due {m : Nat} (h : a.ft.yielded = some m) (hdue : masterSeen a m + ms ≤ a.now) :
    yieldRelease a = roleResumes { a with ft.yielded := none } := by
  rw [yieldRelease, h]
  exact if_pos (decide_eq_true hdue)

theorem yieldRelease_early (h : ∀ m, a.ft.yielded = some m → a.now < masterSeen a m + ms) : yieldRelease a = a := by
  cases hm : a.ft.yielded with
  | none => rw [yieldRelease, hm]
  | some m =>
    rw [yieldRelease, hm]
    exact if_neg (ne_true_of_eq_false (since_eq_false (h m hm)))

theorem roleResumes_first (h : s.tandem.role = 0) : roleResumes s = { s with tandem.firstSpokeUp := some s.now, tandem.returning := false } := by
  rw [roleResumes, h]
  rfl

theorem roleResumes_second (h : s.tandem.role = 1) : roleResumes s = s := by
  rw [roleResumes, h]
  rfl

theorem roleResumes_none (h : 2 ≤ s.tandem.role) : roleResumes s = becomeMaster s := by
  unfold roleResumes
  split
  · omega
  · omega
  · rfl

/-! ## A partner's heartbeat -/

section
variable {dev role ver epoch pfx : Nat} {m : Bool}

/-- The partner's beat has been noted. -/
def beatNoted (m : Bool) (ver epoch : Nat) (s : State) : State :=
  sawEpoch epoch (noteVersion ver { s with
    tandem.role := s.tandem.configuredRole, tandem.partnerNamesUs := true, tandem.heard := true, tandem.lastBeat := s.now
    tandem.partnerMaster := m, tandem.partnerEpoch := epoch })

theorem sawEpoch_reported (n : Nat) (s : State) : Reported s (sawEpoch n s) := by
  unfold sawEpoch
  exact ite_reported (deviceRecord_reported ((Reported.refl s).same rfl rfl)) (Reported.refl s)

/-- A partner's version is noted, and nothing else of fabric time and the tandem changes. -/
theorem noteVersion_spec (ver : Nat) (s : State) : (noteVersion ver s).ft = s.ft ∧
    ∃ bad, (noteVersion ver s).tandem = { s.tandem with versionBad := bad, partnerVersion := ver } := by
  unfold noteVersion
  dsimp only
  split
  · have hrecord (u : State) (x : Nat) : Reported u (deviceRecord 0x0204 0 x 0 u) := deviceRecord_reported (Reported.refl u)
    exact ⟨(hrecord ..).ft, _, (hrecord ..).tandem⟩
  · exact ⟨rfl, _, rfl⟩

theorem beatNoted_spec (m : Bool) (ver epoch : Nat) (s : State) : (beatNoted m ver epoch s).ft = s.ft ∧
    ∃ bad, (beatNoted m ver epoch s).tandem = { s.tandem with
      role := s.tandem.configuredRole, partnerNamesUs := true, heard := true, lastBeat := s.now
      partnerMaster := m, partnerEpoch := epoch, versionBad := bad, partnerVersion := ver } := by
  have hsaw (u : State) := sawEpoch_reported epoch u
  obtain ⟨hft, bad, htandem⟩ := noteVersion_spec ver { s with
    tandem.role := s.tandem.configuredRole, tandem.partnerNamesUs := true, tandem.heard := true, tandem.lastBeat := s.now
    tandem.partnerMaster := m, tandem.partnerEpoch := epoch }
  exact ⟨(hsaw _).ft.trans hft, bad, (hsaw _).tandem.trans htandem⟩

/-- What a head knows of its partner after a beat. -/
structure Heard (m : Bool) (ver epoch : Nat) (a t : State) : Prop where
  role : t.tandem.role = a.tandem.configuredRole
  lastBeat : t.tandem.lastBeat = a.now
  heard : t.tandem.heard = true
  partnerMaster : t.tandem.partnerMaster = m
  partnerVersion : t.tandem.partnerVersion = ver
  partnerEpoch : t.tandem.partnerEpoch = epoch

theorem beatNoted_heard (m : Bool) (ver epoch : Nat) (a : State) : Heard m ver epoch a (beatNoted m ver epoch a) := by
  obtain ⟨-, bad, h⟩ := beatNoted_spec m ver epoch a
  exact ⟨by rw [h], by rw [h], by rw [h], by rw [h], by rw [h], by rw [h]⟩

theorem partnerClaims_heard (h : Heard m ver epoch a s) : Heard m ver epoch a (partnerClaims s) := by
  obtain ⟨h1, h2, h3, h4, h5, h6⟩ := h
  unfold partnerClaims
  split
  · split
    · exact ⟨h1, h2, h3, h4, h5, h6⟩
    · exact ⟨h1, h2, h3, h4, h5, h6⟩
  · exact ⟨h1, h2, h3, h4, h5, h6⟩

theorem partnerClaims_unoffered (h : s.tandem.handoverAt = none) : (partnerClaims s).ft.master = false ∧ (partnerClaims s).ft.locked = false ∧
    (partnerClaims s).tandem.tHandover = s.ft.count := by
  unfold partnerClaims
  rw [h]
  exact ⟨rfl, rfl, rfl⟩

theorem partnerClaims_due {th : Nat} (h : s.tandem.handoverAt = some th) (hdue : th ≤ s.ft.count) : (partnerClaims s).ft.master = false ∧
    (partnerClaims s).ft.locked = true ∧ (partnerClaims s).ft.masterDev = s.tandem.partner ∧ (partnerClaims s).tandem.handoverAt = none := by
  unfold partnerClaims
  rw [h]
  dsimp only
  rw [if_neg (Nat.not_lt.2 hdue)]
  exact ⟨rfl, rfl, rfl, rfl⟩

theorem partnerClaims_early {th : Nat} (h : s.tandem.handoverAt = some th) (hearly : s.ft.count < th) : partnerClaims s = s := by
  rw [partnerClaims, h]
  exact if_pos hearly

/-- What the partner's master flag changes at a head that has noted the beat. -/
def afterBeat (m : Bool) (s : State) : State :=
  if !m then s
  else if s.tandem.role = 1 then (if s.ft.master then partnerClaims s else s)
  else if s.ft.master then s else { s with tandem.returning := true }

theorem afterBeat_heard (h : Heard m ver epoch a s) (n : Bool) : Heard m ver epoch a (afterBeat n s) := by
  unfold afterBeat
  split
  · exact h
  · split
    · split
      · exact partnerClaims_heard h
      · exact h
    · split
      · exact h
      · obtain ⟨h1, h2, h3, h4, h5, h6⟩ := h
        exact ⟨h1, h2, h3, h4, h5, h6⟩

theorem afterBeat_silent (s : State) : afterBeat false s = s := if_pos rfl

theorem afterBeat_first (hrole : s.tandem.role = 0) : (afterBeat true s).ft = s.ft ∧ (s.ft.master = false → (afterBeat true s).tandem.returning = true) := by
  have heq : afterBeat true s = if s.ft.master then s else { s with tandem.returning := true } :=
    (if_neg Bool.false_ne_true).trans (if_neg (by omega))
  rw [heq]
  cases s.ft.master
  · exact ⟨rfl, fun _ => rfl⟩
  · exact ⟨rfl, fun h => absurd h.symm Bool.false_ne_true⟩

theorem afterBeat_second (hrole : s.tandem.role = 1) (hmaster : s.ft.master = true) : afterBeat true s = partnerClaims s :=
  (if_neg Bool.false_ne_true).trans ((if_pos hrole).trans (if_pos hmaster))

/-- A beat from the device that is configured as the partner, for a head that runs. -/
theorem heartbeatHeard_unknown (h : ¬ (coreRuns a = true ∧ pfx < 2 ^ 64 ∧ a.tandem.configuredRole ≠ 2 ∧ dev = a.tandem.partner)) :
    heartbeatHeard dev role m ver epoch pfx a = a := by
  unfold heartbeatHeard
  split
  · next hc =>
    obtain ⟨hcore, hpfx⟩ := Bool.and_eq_true_iff.1 hc
    refine if_pos (Classical.not_not.1 fun hno => h ⟨hcore, of_decide_eq_true hpfx, fun h2 => hno (.inl h2), ?_⟩)
    exact Classical.not_not.1 fun hne => hno (.inr hne)
  · rfl

theorem heartbeatHeard_known (hcore : coreRuns a = true) (hpfx : pfx < 2 ^ 64) :
    heartbeatHeard dev role m ver epoch pfx a = heartbeat dev role m ver epoch a := if_pos (by rw [hcore, decide_eq_true hpfx]; rfl)

/-- The partner's beat is noted. -/
theorem heartbeat_noted (hset : a.tandem.configuredRole ≠ 2) (hdev : dev = a.tandem.partner) (hroles : role + a.tandem.configuredRole = 1) :
    heartbeat dev role m ver epoch a = afterBeat m (beatNoted m ver epoch a) :=
  (if_neg (not_or.2 ⟨hset, fun h => h hdev⟩)).trans (if_neg fun h => h hroles)

end

/-! ## The partner's mailbox messages -/

theorem partHeard {seq : Nat} (hcore : coreRuns a = true) (hseq : seq < 65536) : (coreRuns a && decide (seq < 65536)) = true := by
  rw [hcore, decide_eq_true hseq]
  rfl

theorem partHeard_not {seq : Nat} (h : coreRuns a = false ∨ 65536 ≤ seq) : ¬ (coreRuns a && decide (seq < 65536)) = true := by
  rcases h with h | h
  · simp [h]
  · simp [Nat.not_lt.2 h]

end

end Sys2Proof.Machine

namespace Sys2Proof

open Machine

/-- Settles O58: each event by the head's role and what it has heard. -/
theorem tandemHeads : Obligations.TandemHeads := by
  refine ⟨?own, ?partner, ?parts⟩
  case own =>
    intro s dt a td sends m offers
    refine ⟨fun h => ?quiet, fun h hno => ?beats, fun h hoff => ?offers, ?timeout, ?claim, ?handover, fun th => ⟨fun hcore hrole => ?heard,
      fun h => ?ignored⟩, fun m hm hdue => ⟨fun hrole => ?first, fun hrole => ?second, fun hrole => ?none⟩, fun h => ?early⟩
    case quiet => exact heartbeatSend_eq.trans (run_gives rfl (heartbeatSend_silent h))
    case beats =>
      refine heartbeatSend_eq.trans (run_gives rfl ((heartbeatSend_beats h).trans ?_))
      exact offerHandover_not fun hoff => hno ((offers_congr (sendBeats_heads a)).1 hoff)
    case offers =>
      refine ⟨_, heartbeatSend_eq.trans (run_gives rfl (heartbeatSend_beats h)), ?_⟩
      have hcount : (sendBeats a).ft.count = a.ft.count := congrArg (fun h => h.1.count) (sendBeats_heads a)
      rw [offerHandover_offers ((offers_congr (sendBeats_heads a)).2 hoff), hcount]
    case timeout =>
      intro silent
      refine ⟨fun h => heartbeatTimeout_eq.trans (run_gives rfl (if_neg fun hc => h ((heartbeatTimeout_iff a).1 hc))), fun h =>
        ⟨_, heartbeatTimeout_eq.trans (run_gives rfl (if_pos ((heartbeatTimeout_iff a).2 h))), rfl, rfl, rfl⟩⟩
    case claim =>
      intro claims
      exact ⟨fun u hu h => ⟨_, masterClaim_eq.trans (run_gives rfl ((masterClaim_eq_ite hu).trans (if_pos ((masterClaim_iff u a).2 h)))), rfl, rfl,
        rfl⟩, fun h => masterClaim_eq.trans (run_gives rfl (masterClaim_not h))⟩
    case handover =>
      intro takes
      exact ⟨fun th hth h => ⟨_, handoverTime_eq.trans (run_gives rfl ((handoverTime_eq_ite hth).trans (if_pos ((handoverTime_iff th a).2 h)))),
        rfl, rfl, rfl, rfl⟩, fun h => handoverTime_eq.trans (run_gives rfl (handoverTime_not h))⟩
    case heard => exact handoverHeard_eq.trans (run_gives rfl (handoverHeard_takes hcore hrole))
    case ignored => exact handoverHeard_eq.trans (run_gives rfl (handoverHeard_ignored h))
    case first => exact yieldRelease_eq.trans (run_gives rfl ((yieldRelease_due hm hdue).trans (roleResumes_first hrole)))
    case second => exact yieldRelease_eq.trans (run_gives rfl ((yieldRelease_due hm hdue).trans (roleResumes_second hrole)))
    case none => exact yieldRelease_eq.trans (run_gives rfl ((yieldRelease_due hm hdue).trans (roleResumes_none hrole)))
    case early => exact yieldRelease_eq.trans (run_gives rfl (yieldRelease_early h))
  case partner =>
    intro s dt dev role ver epoch pfx m a td hdev known
    have hok : okDev dev = true := decide_eq_true hdev
    refine ⟨fun h => ?unknown, fun ⟨hcore, hpfx, hset, hpartner⟩ hroles => ?mismatch, fun ⟨hcore, hpfx, hset, hpartner⟩ hroles => ?heard⟩
    case unknown => exact heartbeatHeard_eq.trans (run_gives hok (heartbeatHeard_unknown h))
    case mismatch =>
      exact heartbeatHeard_eq.trans (run_gives hok ((heartbeatHeard_known hcore hpfx).trans
        ((if_neg (not_or.2 ⟨hset, fun h => h hpartner⟩)).trans (if_pos hroles))))
    case heard =>
      obtain ⟨hft, bad, htandem⟩ := beatNoted_spec m ver epoch a
      have hheard := beatNoted_heard m ver epoch a
      refine ⟨_, heartbeatHeard_eq.trans (run_gives hok ((heartbeatHeard_known hcore hpfx).trans (heartbeat_noted hset hpartner hroles))), ?_⟩
      have hoffer : (beatNoted m ver epoch a).tandem.handoverAt = td.handoverAt := by rw [htandem]
      have hreturning : (beatNoted m ver epoch a).tandem.returning = td.returning := by rw [htandem]
      have hnamed : (beatNoted m ver epoch a).tandem.partner = td.partner := by rw [htandem]
      clear htandem
      generalize beatNoted m ver epoch a = s2 at hft hheard hoffer hreturning hnamed ⊢
      obtain ⟨hrole, hbeat, htrue, hflag, hver, hepoch⟩ := afterBeat_heard hheard m
      refine ⟨hrole, hbeat, htrue, hflag, hver, hepoch, fun hm => ?silent, fun hm hfirst => ?first, fun hm hsecond hmaster => ?second⟩
      case silent =>
        subst hm
        rw [afterBeat_silent]
        exact ⟨hft, hreturning⟩
      case first =>
        subst hm
        obtain ⟨hsame, hreturns⟩ := afterBeat_first (hheard.role.trans hfirst)
        exact ⟨hsame.trans hft, fun h => hreturns (hft ▸ h)⟩
      case second =>
        subst hm
        rw [afterBeat_second (hheard.role.trans hsecond) (hft ▸ hmaster)]
        refine ⟨fun hnone => ?_, fun th hth hdue => ?_, fun th hth hearly => ?_⟩
        · rw [← hft]
          exact partnerClaims_unoffered (hoffer.trans hnone)
        · rw [← hnamed]
          exact partnerClaims_due (hoffer.trans hth) (hft ▸ hdue)
        · rw [partnerClaims_early (hoffer.trans hth) (hft ▸ hearly), hft]
  case parts =>
    intro s dt seq off last part a joined
    refine ⟨fun h => ⟨?deaf, ?deafResponse⟩, fun hcore hseq => ⟨fun hlast => ?more, fun hlast => ?last, fun h => ?response, fun hlast hlong => ?long⟩⟩
    case deaf => exact mailboxHeard_eq.trans (run_gives rfl (if_neg (partHeard_not h)))
    case deafResponse =>
      refine responseHeard_eq.trans (run_gives rfl (if_neg fun hc => partHeard_not h (Bool.and_eq_true_iff.1 hc).1))
    case more => exact mailboxHeard_eq.trans (run_gives rfl ((if_pos (partHeard hcore hseq)).trans (if_neg (ne_true_of_eq_false hlast))))
    case last => exact mailboxHeard_eq.trans (run_gives rfl ((if_pos (partHeard hcore hseq)).trans (if_pos hlast)))
    case response =>
      refine responseHeard_eq.trans (run_gives rfl (if_pos ?_))
      rw [partHeard hcore hseq, Bool.true_and, Bool.or_eq_true, decide_eq_true_eq]
      exact h
    case long =>
      refine responseHeard_eq.trans (run_gives rfl (if_neg ?_))
      rw [hlast, Bool.false_or, decide_eq_false (Nat.not_le.2 hlong), Bool.and_false]
      exact Bool.false_ne_true

end Sys2Proof

/-! # Snapshots, bandwidth windows and loop-back runs end (R500 to R503, R508, R509, R513, R514) -/

namespace Sys2Proof.Machine

section
variable {a s : State} {dt : Time} {dev m : Nat} {copied : Option Nat}

/-! ## Snapshots -/

theorem snapshotTime_early (h : ∀ T, a.count.pending = some T → a.ft.count < T) : snapshotTime a = a := by
  cases hT : a.count.pending with
  | none => rw [snapshotTime, hT]
  | some T =>
    rw [snapshotTime, hT]
    exact if_pos (h T hT)

theorem snapshotTime_due {T : Nat} (hT : a.count.pending = some T) (hdue : T ≤ a.ft.count) : snapshotTime a =
    if a.count.snapFabric && !timeLocked a then ownSnapAnswer none { a with count.pending := none }
    else { a with
      count.pending := none, count.snap := a.count.live, count.snapInvalid := a.count.invalid, count.tSnap := T
      count.tCopied := 0, count.viewState := 1, count.copying := true } := by
  rw [snapshotTime, hT]
  exact if_neg (Nat.not_lt.2 hdue)

theorem endSnapshot_mb {st : Nat} (h : a.count.snapMb = some m) : endSnapshot st a =
    finishWait m waitSnapshot st true [BitVec.ofNat 64 a.count.snapAt, BitVec.ofNat 64 a.count.snapLatest, quad [(31, 0, a.count.snapId)]]
      { a with count.snapMb := none, count.snapWait := [] } := by
  rw [endSnapshot, h]

/-- A device's answer, noted. -/
def answerNoted (dev : Nat) (copied : Option Nat) (a : State) : State :=
  { a with
    count.snapWait := a.count.snapWait.filter (· != dev), count.snapLatest := max a.count.snapLatest (copied.getD 0)
    count.snapStale := a.count.snapStale || copied.isNone }

theorem snapAnswer_unasked (h : dev ∉ a.count.snapWait) : snapAnswer dev copied a = a := if_pos (by simpa using h)

theorem snapAnswer_more (h : dev ∈ a.count.snapWait) (hleft : a.count.snapWait.filter (· != dev) ≠ []) :
    snapAnswer dev copied a = answerNoted dev copied a :=
  (if_neg (by simpa using h)).trans (if_neg fun he => hleft (List.isEmpty_iff.1 he))

theorem snapAnswer_last (h : dev ∈ a.count.snapWait) (hleft : a.count.snapWait.filter (· != dev) = []) (hm : a.count.snapMb = some m) :
    snapAnswer dev copied a = finishWait m waitSnapshot (if a.count.snapStale || copied.isNone then stStale else stOk) true
      [BitVec.ofNat 64 a.count.snapAt, BitVec.ofNat 64 (max a.count.snapLatest (copied.getD 0)), quad [(31, 0, a.count.snapId)]]
      { answerNoted dev copied a with count.snapMb := none, count.snapWait := [] } :=
  (if_neg (by simpa using h)).trans ((if_pos (List.isEmpty_iff.2 hleft)).trans (endSnapshot_mb (a := answerNoted dev copied a) hm))

theorem ownSnapAnswer_unasked (h : (snapAnswer a.dev copied a).count.snapReply = none) : ownSnapAnswer copied a = snapAnswer a.dev copied a := by
  unfold ownSnapAnswer
  dsimp only
  rw [h]

theorem raiseCauseAll_reported (i : Nat) (s : State) : Reported s (raiseCauseAll i s) :=
  forAll_reported (fun _ _ => raiseCause_reported) (Reported.refl s)

theorem raiseCauseAll_snapOf (i : Nat) (s : State) : snapOf (raiseCauseAll i s) = snapOf s :=
  congrArg Prod.snd (forAll_tally (fun _ _ => raiseCause_tally ..) _ s)

/-- The copy's end. -/
def copyEnded (a : State) : State :=
  raiseCauseAll 4 { a with
    count.copying := false, count.tCopied := a.ft.count, count.snapId := (a.count.snapId + 1) % 2 ^ 32, count.viewState := 2 }

theorem snapshotCopied_copying (h : a.count.copying = true) : snapshotCopied a = ownSnapAnswer (some a.ft.count) (copyEnded a) := if_pos h

/-- The answer of this device, the only one asked, ends its command. -/
theorem ownSnapAnswer_alone {T : Nat} (hwait : a.count.snapWait = [a.dev]) (hm : a.count.snapMb = some m)
    (hreply : a.count.snapReply = none) (hstale : a.count.snapStale = false) : ownSnapAnswer (some T) a =
      finishWait m waitSnapshot stOk true
        [BitVec.ofNat 64 a.count.snapAt, BitVec.ofNat 64 (max a.count.snapLatest T), quad [(31, 0, a.count.snapId)]]
        { a with count.snapWait := [], count.snapLatest := max a.count.snapLatest T, count.snapStale := false, count.snapMb := none } := by
  have hleft : a.count.snapWait.filter (· != a.dev) = [] := by simp [hwait]
  have hlast := snapAnswer_last (copied := some T) (by simp [hwait]) hleft hm
  have hend (x : State) (w : Nat) (ws : List Word64) : (finishWait m w stOk true ws x).count.snapReply = x.count.snapReply :=
    congrArg (fun x => x.2.2.2.2.2.2) (finishWait_snapOf ..)
  rw [show (if a.count.snapStale || (some T).isNone then stStale else stOk) = stOk by simp [hstale]] at hlast
  have hnone : (snapAnswer a.dev (some T) a).count.snapReply = none := by
    rw [hlast, hend]
    exact hreply
  rw [ownSnapAnswer_unasked hnone, hlast, answerNoted, hstale, Option.getD_some]
  rfl

/-- A snapshot of this device alone ends its command. -/
theorem copyEnded_own (hwait : a.count.snapWait = [a.dev]) (hm : a.count.snapMb = some m) (hreply : a.count.snapReply = none)
    (hstale : a.count.snapStale = false) : ownSnapAnswer (some a.ft.count) (copyEnded a) =
      finishWait m waitSnapshot stOk true
        [BitVec.ofNat 64 a.count.snapAt, BitVec.ofNat 64 (max a.count.snapLatest a.ft.count), quad [(31, 0, (a.count.snapId + 1) % 2 ^ 32)]]
        { copyEnded a with
          count.snapWait := [], count.snapLatest := max a.count.snapLatest a.ft.count, count.snapStale := false, count.snapMb := none } := by
  have hdev : (copyEnded a).dev = a.dev := congrArg Chip.devnum (raiseCauseAll_reported 4 _).chip
  have hsnap : snapOf (copyEnded a) = _ := raiseCauseAll_snapOf 4 _
  simp only [snapOf, Prod.mk.injEq] at hsnap
  generalize copyEnded a = b at hdev hsnap ⊢
  obtain ⟨hid, hat, hmb, hw, hlatest, hst, hre⟩ := hsnap
  rw [ownSnapAnswer_alone (hw.trans (hwait.trans (congrArg (fun d => [d]) hdev.symm))) (hmb.trans hm) (hre.trans hreply) (hst.trans hstale),
    hat, hlatest, hid]

/-- The effects of SNAP_REQ and SNAPSHOT_FABRIC_TIMEOUT. -/
def snapReq (dev T : Nat) (s : State) : State :=
  if snapBusy s then s
  else { s with count.pending := some T, count.snapFabric := true, count.snapReply := some dev, count.snapWait := [], count.snapAt := T }

def fabricTimeout (s : State) : State :=
  if s.count.snapFabric && s.count.snapMb.isSome && s.count.pending.isNone && decide (s.count.snapAt + 10 * ms ≤ s.ft.count) then
    endSnapshot stTimeout s
  else s

theorem snapReq_eq {T : Nat} : exec (.snapReq dt dev T) s = run dt (okDev dev) (snapReq dev T) s := rfl

theorem fabricTimeout_eq : exec (.snapshotFabricTimeout dt) s = run dt true fabricTimeout s := rfl

theorem snapBusy_iff (s : State) : snapBusy s = true ↔ s.count.pending ≠ none ∨ s.count.copying = true ∨ s.count.snapMb ≠ none := by
  simp [snapBusy, Option.isSome_iff_ne_none, or_assoc]

theorem fabricTimeout_iff (s : State) : (s.count.snapFabric && s.count.snapMb.isSome && s.count.pending.isNone &&
    decide (s.count.snapAt + 10 * ms ≤ s.ft.count)) = true ↔
    (s.count.snapFabric = true ∧ s.count.pending = none ∧ s.count.snapAt + 10 * ms ≤ s.ft.count) ∧ s.count.snapMb ≠ none := by
  simp only [Bool.and_eq_true, Option.isSome_iff_ne_none, Option.isNone_iff_eq_none, decide_eq_true_eq]
  tauto

/-! ## Bandwidth windows -/

/-- What a pass over sub-windows has found so far. -/
theorem foldl_busiest (l : List (Nat × Nat)) (best : Nat × Nat) :
    (let most := (l.foldl (fun best e => if best.1 < e.2 then (e.2, e.1) else best) best).1
     best.1 ≤ most ∧ (∀ x ∈ l, x.2 ≤ most) ∧ (most = best.1 ∨ ∃ x ∈ l, x.2 = most)) := by
  induction l generalizing best with
  | nil => exact ⟨le_rfl, fun _ h => absurd h List.not_mem_nil, .inl rfl⟩
  | cons e l ih =>
    obtain ⟨hbest, hall, hmost⟩ := ih (if best.1 < e.2 then (e.2, e.1) else best)
    have hstep : best.1 ≤ (if best.1 < e.2 then (e.2, e.1) else best).1 ∧ e.2 ≤ (if best.1 < e.2 then (e.2, e.1) else best).1 ∧
        ((if best.1 < e.2 then (e.2, e.1) else best).1 = best.1 ∨ (if best.1 < e.2 then (e.2, e.1) else best).1 = e.2) := by
      split
      · next h => exact ⟨h.le, le_rfl, .inr rfl⟩
      · next h => exact ⟨le_rfl, Nat.not_lt.1 h, .inl rfl⟩
    obtain ⟨hfrom, he, hcase⟩ := hstep
    refine ⟨hfrom.trans hbest, List.forall_mem_cons.2 ⟨he.trans hbest, hall⟩, ?_⟩
    rcases hmost with hmost | ⟨x, hx, hmost⟩
    · rcases hcase with hcase | hcase
      · exact .inl (hmost.trans hcase)
      · exact .inr ⟨e, List.mem_cons_self, (hmost.trans hcase).symm⟩
    · exact .inr ⟨x, List.mem_cons_of_mem _ hx, hmost⟩

/-- The busiest sub-window holds the most bytes. -/
theorem busiest_most (l : List (Nat × Nat)) : (∀ x ∈ l, x.2 ≤ (busiest l).1) ∧ (l ≠ [] → ∃ x ∈ l, x.2 = (busiest l).1) := by
  obtain ⟨-, hall, hmost⟩ := foldl_busiest l (0, 0)
  refine ⟨hall, fun hne => hmost.elim (fun hzero => ?_) id⟩
  obtain ⟨x, hx⟩ := List.exists_mem_of_ne_nil l hne
  have hle := hall x hx
  refine ⟨x, hx, ?_⟩
  have hz : (busiest l).1 = 0 := hzero
  change x.2 ≤ (busiest l).1 at hle
  omega

/-- The effect of BW_WINDOW_START. -/
def bwStart (i : Nat) (s : State) : State :=
  { s with count.bw := tupd s.count.bw i fun b => if b.start ≤ s.ft.count then { b with started := true } else b }

theorem bwStart_eq {i : Nat} : exec (.bwWindowStart dt i) s = run dt (okUnit i) (bwStart i) s := rfl

theorem bwEnd_unknown {i : Nat} (h : tfind a.count.bw i = none) : bwEnd i a = a := by
  rw [bwEnd, h]

theorem bwEnd_known {i : Nat} {u : BwUnit} (h : tfind a.count.bw i = some u) : bwEnd i a =
    if u.started && decide (u.start + u.winUs * us ≤ a.ft.count) then
      finishWait u.mb waitWindow stOk true
        [BitVec.ofNat 64 u.start, BitVec.ofNat 64 (u.outBytes.map (·.2)).sum, BitVec.ofNat 64 (u.inBytes.map (·.2)).sum,
          BitVec.ofNat 64 (busiest u.outBytes).1, BitVec.ofNat 64 (busiest u.inBytes).1,
          quad [(31, 16, (busiest u.outBytes).2), (15, 0, (busiest u.inBytes).2)]]
        { a with count.bw := tdel a.count.bw i }
    else a := by
  rw [bwEnd, h]

/-! ## Loop-back runs -/

/-- The effects of LOOPBACK_LOCK_TIMEOUT and LOOPBACK_DURATION_END. -/
def laneLockTimeout (target : Nat) (s : State) : State :=
  match s.count.loops.find? fun l => l.target == target && decide (l.depth ≤ 3) && l.state == 1 with
  | some l => if s.since l.started ms then endLoop l.depth target 0 (2 ^ 64 - 1) s else s
  | none => s

def durationEnd (depth target units errors : Nat) (s : State) : State := match findLoop s (depth, target) with
  | some l =>
    if l.state = 1 ∧ l.duration ≠ 0 ∧ s.since l.started (l.duration * us) then
      if depth ≤ 3 then endLoop depth target units errors s else endLoop depth target l.units l.errors s
    else s
  | none => s

theorem laneLockTimeout_eq {i : Nat} : exec (.loopbackLockTimeout dt i) s = run dt true (laneLockTimeout i) s := rfl

theorem durationEnd_eq {depth i d e : Nat} : exec (.loopbackDurationEnd dt depth i d e) s = run dt true (durationEnd depth i d e) s := rfl

theorem laneLockTimeout_found {i : Nat} {l : LoopRun}
    (h : a.count.loops.find? (fun l => l.target == i && decide (l.depth ≤ 3) && l.state == 1) = some l) :
    laneLockTimeout i a = if a.since l.started ms then endLoop l.depth i 0 (2 ^ 64 - 1) a else a := by
  rw [laneLockTimeout, h]

theorem laneLockTimeout_none {i : Nat} (h : a.count.loops.find? (fun l => l.target == i && decide (l.depth ≤ 3) && l.state == 1) = none) :
    laneLockTimeout i a = a := by
  rw [laneLockTimeout, h]

theorem durationEnd_found {depth i d e : Nat} {l : LoopRun} (h : findLoop a (depth, i) = some l) : durationEnd depth i d e a =
    if l.state = 1 ∧ l.duration ≠ 0 ∧ a.since l.started (l.duration * us) then
      if depth ≤ 3 then endLoop depth i d e a else endLoop depth i l.units l.errors a
    else a := by
  rw [durationEnd, h]

theorem durationEnd_none {depth i d e : Nat} (h : findLoop a (depth, i) = none) : durationEnd depth i d e a = a := by
  rw [durationEnd, h]

theorem duration_iff (l : LoopRun) (a : State) : (l.state = 1 ∧ l.duration ≠ 0 ∧ a.since l.started (l.duration * us) = true) ↔
    l.state = 1 ∧ l.duration ≠ 0 ∧ l.started + l.duration * us ≤ a.now := by
  rw [State.since, decide_eq_true_eq]

end

end Sys2Proof.Machine

namespace Sys2Proof

open Machine

/-- Settles O59: each moment of a snapshot, a window or a run is its effect when due, and nothing otherwise. -/
theorem snapshotsWindowsAndRuns : Obligations.SnapshotsWindowsAndRuns := by
  unfold Obligations.SnapshotsWindowsAndRuns
  refine ⟨?snapshots, ?windows⟩
  case snapshots =>
    intro s dt a c
    refine ⟨fun h => ?early, fun T hT hdue => ⟨fun h => ?taken, fun hfabric hlock => ?unlocked⟩, fun h => ?idle, fun h => ?copied,
      fun dev T hdev => ?request, fun dev T hdev => ?answer, ?fabric⟩
    case early => exact run_gives (f := snapshotTime) rfl (snapshotTime_early h)
    case taken =>
      refine run_gives (f := snapshotTime) rfl ((snapshotTime_due hT hdue).trans (if_neg ?_))
      rw [Bool.and_eq_true, Bool.not_eq_true']
      exact fun ⟨hfabric, hlock⟩ => h.elim (fun h => Bool.false_ne_true (h.symm.trans hfabric))
        (fun h => Bool.false_ne_true (hlock.symm.trans h))
    case unlocked =>
      refine run_gives (f := snapshotTime) rfl ((snapshotTime_due hT hdue).trans (if_pos ?_))
      rw [Bool.and_eq_true, Bool.not_eq_true']
      exact ⟨hfabric, hlock⟩
    case idle => exact run_gives (f := snapshotCopied) rfl (if_neg (ne_true_of_eq_false h))
    case copied =>
      have hgives : Gives (.snapshotCopyDone dt) s (ownSnapAnswer (some a.ft.count) (copyEnded a)) :=
        run_gives (f := snapshotCopied) rfl (snapshotCopied_copying h)
      exact ⟨hgives, fun m hwait hm hreply hstale => hgives.of_eq (copyEnded_own hwait hm hreply hstale)⟩
    case request =>
      refine ⟨fun h => ?_, fun h => ?_⟩
      · exact snapReq_eq.trans (run_gives (decide_eq_true hdev) (if_neg fun hb => h ((snapBusy_iff a).1 hb)))
      · exact snapReq_eq.trans (run_gives (decide_eq_true hdev) (if_pos ((snapBusy_iff a).2 h)))
    case answer =>
      have hok : okDev dev = true := decide_eq_true hdev
      refine ⟨fun h => ?_, fun h hleft => ?_, fun h hleft m hm => ?_⟩
      · exact run_gives (f := snapAnswer dev T) hok (snapAnswer_unasked h)
      · exact run_gives (f := snapAnswer dev T) hok (snapAnswer_more h hleft)
      · exact run_gives (f := snapAnswer dev T) hok (snapAnswer_last h hleft hm)
    case fabric =>
      refine ⟨fun m hlate hm => ?_, fun h => ?_⟩
      · refine fabricTimeout_eq.trans (run_gives rfl ((if_pos ((fabricTimeout_iff a).2 ⟨hlate, ?_⟩)).trans (endSnapshot_mb hm)))
        exact fun hnone => Option.some_ne_none m (hm.symm.trans hnone)
      · refine fabricTimeout_eq.trans (run_gives rfl (if_neg fun hl => ?_))
        obtain ⟨hlate, hmb⟩ := (fabricTimeout_iff a).1 hl
        exact h.elim (fun h => h hlate) hmb
  case windows =>
    intro s dt i d e a
    refine ⟨fun hi => ?bandwidth, ?lock, fun depth => ?duration⟩
    case bandwidth =>
      have hok : okUnit i = true := decide_eq_true hi
      refine ⟨bwStart_eq.trans (run_gives hok rfl), fun h => run_gives (f := bwEnd i) hok (bwEnd_unknown h), fun u hu => ?_⟩
      intro ended
      have hend : (u.started && decide (u.start + u.winUs * us ≤ a.ft.count)) = true ↔ ended := by
        rw [Bool.and_eq_true, decide_eq_true_eq]
      obtain ⟨hall, hmost⟩ := busiest_most u.outBytes
      exact ⟨fun h => run_gives (f := bwEnd i) hok ((bwEnd_known hu).trans (if_neg fun he => h (hend.1 he))),
        fun h => ⟨_, rfl, ⟨_, rfl, hall, hmost⟩, run_gives (f := bwEnd i) hok ((bwEnd_known hu).trans (if_pos (hend.2 h)))⟩⟩
    case lock =>
      intro found
      refine ⟨fun l hl hdue => ?_, fun l hl hearly => ?_, fun h => ?_⟩
      · exact laneLockTimeout_eq.trans (run_gives rfl ((laneLockTimeout_found hl).trans (if_pos (since_eq_true hdue))))
      · exact laneLockTimeout_eq.trans (run_gives rfl ((laneLockTimeout_found hl).trans (if_neg (ne_true_of_eq_false (since_eq_false hearly)))))
      · exact laneLockTimeout_eq.trans (run_gives rfl (laneLockTimeout_none h))
    case duration =>
      refine ⟨fun h => durationEnd_eq.trans (run_gives rfl (durationEnd_none h)), fun l hl => ?_⟩
      intro ended
      refine ⟨fun h => ?_, fun h hdepth => ?_, fun h hdepth => ?_⟩
      · exact durationEnd_eq.trans (run_gives rfl ((durationEnd_found hl).trans (if_neg fun hc => h ((duration_iff l a).1 hc))))
      · exact durationEnd_eq.trans (run_gives rfl
          ((durationEnd_found hl).trans ((if_pos ((duration_iff l a).2 h)).trans (if_pos hdepth))))
      · exact durationEnd_eq.trans (run_gives rfl
          ((durationEnd_found hl).trans ((if_pos ((duration_iff l a).2 h)).trans (if_neg (Nat.not_le.2 hdepth)))))

end Sys2Proof


/-! # Device reset, power-on, rail dips and thermal trip (R467, R468, R470, R473, R493, R527, R538) -/

namespace Sys2Proof.Machine

section
variable {a s t : State} {dt : Time}

/-- All that changes is what leaves the part. -/
def Emits (a t : State) : Prop := ∃ l, t = { a with out := l }

theorem Emits.refl (a : State) : Emits a a := ⟨a.out, rfl⟩

theorem Emits.emit {o : Out} (h : Emits a t) : Emits a (emit o t) := by
  obtain ⟨l, rfl⟩ := h
  exact ⟨_, rfl⟩

theorem Emits.emit_if {c : Prop} [Decidable c] {o : Out} (h : Emits a t) : Emits a (if c then Machine.emit o t else t) := by
  split
  · exact h.emit
  · exact h

theorem forAll_emits {α : Type} {f : α → State → State} (hf : ∀ x t, Emits a t → Emits a (f x t)) (l : List α) (h : Emits a t) :
    Emits a (forAll l f t) := by
  induction l generalizing t with
  | nil => exact h
  | cons x l ih => exact ih (hf x t h)

theorem releaseRemoteOwners_emits (a : State) : Emits a (releaseRemoteOwners a) :=
  forAll_emits (fun _ _ h => h.emit) _ (Emits.refl a)

theorem stopCad_emits (a : State) : Emits a (stopCad a) := forAll_emits (fun _ _ h => h.emit) _ (Emits.refl a)

/-- A device reset clears the core and the trip. -/
theorem deviceReset_clears (a : State) : ∃ l, deviceReset a = clearCore { a with out := l, chip.tripped := false } := by
  rw [deviceReset]
  obtain ⟨l, hl⟩ := (releaseRemoteOwners_emits a).emit_if (c := (releaseRemoteOwners a).mgmt.oob.alertLow = true) (o := .alertPin false)
    |>.emit_if (c := (if (releaseRemoteOwners a).mgmt.oob.alertLow = true then emit (.alertPin false) (releaseRemoteOwners a)
      else releaseRemoteOwners a).chip.tripped = true) (o := .thermTrip false)
  rw [hl]
  exact ⟨l, rfl⟩

/-! ## The effects of the events -/

def resetAsserted (s : State) : State :=
  let s1 := if resetBegins s then deviceReset s else s
  { s1 with chip.resetPin := true }

def fatalReset (s : State) : State :=
  if s.errs.c4 && rb (s.cfg 0x58 0 0) 31 && s.since s.errs.c4At (10 * ms) then commandReset s else s

/-- The command forms' time once it is over. -/
def resetLeft (a : State) : Option Time := match a.chip.resetUntil with
  | some t => if t ≤ a.now then none else some t
  | none => none

def resetReleased (s : State) : State :=
  let s1 : State := { s with chip.resetPin := false, chip.resetUntil := resetLeft s }
  if inDeviceReset s && !inDeviceReset s1 then { s1 with chip.booting := true, chip.bootAt := s1.now } else s1

def poweredOn (s : State) : State :=
  let s1 := coldCore (stopCad s)
  { s1 with
    chip.resetPin := false
    chip.railsOut := false
    slot := { chan := (s.slot.chan.filter fun e => e.2.present).map fun e => (e.1, { present := true })
              startedAt := s.now } }

def railsDipped (s : State) : State := if s.chip.railsOut then s else
  let s1 := coldCore (stopCad s)
  { s1 with chip.railsOut := true, chip.railAt := s.now }

def railsReturned (s : State) : State :=
  if s.chip.railsOut then { s with chip.railsOut := false, chip.booting := true, chip.bootAt := s.now, ft := {} } else s

def trippedOff (s : State) : State :=
  if s.chip.tripped || s.chip.railsOut then s
  else
    let s1 := emit (.thermTrip true) (if s.mgmt.oob.alertLow then emit (.alertPin false) s else s)
    { clearCore s1 with chip.tripped := true, chip.trippedAt := s.now, slot.tripFlag := true }

theorem resetAsserted_eq : exec (.resetNAssert dt) s = run dt true resetAsserted s := rfl
theorem commandReset_eq : exec (.i3cTargetReset dt) s = run dt true commandReset s := rfl
theorem fatalReset_eq : exec (.fatalAutoReset dt) s = run dt true fatalReset s := rfl
theorem resetReleased_eq : exec (.resetNRelease dt) s = run dt true resetReleased s := rfl
theorem poweredOn_eq : exec (.powerOn dt) s = run dt true poweredOn s := rfl
theorem railsDipped_eq : exec (.coreRailDip dt) s = run dt true railsDipped s := rfl
theorem railsReturned_eq : exec (.coreRailReturn dt) s = run dt true railsReturned s := rfl
theorem trippedOff_eq : exec (.thermalTrip dt) s = run dt true trippedOff s := rfl

theorem resetAsserted_begins (h : resetBegins a = true) : resetAsserted a = { deviceReset a with chip.resetPin := true } := by
  rw [resetAsserted, if_pos h]

theorem resetAsserted_held (h : resetBegins a = false) : resetAsserted a = { a with chip.resetPin := true } := by
  rw [resetAsserted, if_neg (ne_true_of_eq_false h)]

theorem commandReset_begins (h : resetBegins a = true) :
    commandReset a = { deviceReset a with chip.resetUntil := some (a.now + 10 * us) } := if_pos h

theorem commandReset_held (h : resetBegins a = false) :
    commandReset a = if inDeviceReset a then { a with chip.resetUntil := some (a.now + 10 * us) } else a :=
  if_neg (ne_true_of_eq_false h)

/-- FATAL_RESET is set and 10 ms have passed since the device-fatal error. -/
theorem fatal_iff (a : State) : (a.errs.c4 && rb (a.cfg 0x58 0 0) 31 && a.since a.errs.c4At (10 * ms)) = true ↔
    a.errs.c4 = true ∧ rb (a.cfg 0x58 0 0) 31 = true ∧ a.errs.c4At + 10 * ms ≤ a.now := by
  rw [Bool.and_eq_true, Bool.and_eq_true, State.since, decide_eq_true_eq, and_assoc]

theorem inDeviceReset_not_iff (a : State) : inDeviceReset a = false ↔ a.chip.resetPin = false ∧ a.chip.resetUntil = none := by
  rw [inDeviceReset, Bool.or_eq_false_iff, Option.isSome_eq_false_iff, Option.isNone_iff_eq_none]

theorem with_reset_pin (h : a.chip.resetPin = false) : { a with chip.resetPin := false } = a := by
  rw [← h]

theorem with_reset_until {o : Option Time} (h : a.chip.resetUntil = o) : { a with chip.resetUntil := o } = a := by
  rw [← h]

theorem resetReleased_idle (h : inDeviceReset a = false) : resetReleased a = a := by
  obtain ⟨hpin, huntil⟩ := (inDeviceReset_not_iff a).1 h
  rw [resetReleased, h, resetLeft, huntil]
  exact (congrArg (fun a : State => { a with chip.resetUntil := none }) (with_reset_pin hpin)).trans (with_reset_until huntil)

theorem resetReleased_early {T : Time} (h : a.chip.resetUntil = some T) (hearly : a.now < T) :
    resetReleased a = { a with chip.resetPin := false } := by
  have hleft : resetLeft a = some T := by
    rw [resetLeft, h]
    exact if_neg (Nat.not_le.2 hearly)
  rw [resetReleased, hleft]
  refine (if_neg ?_).trans (congrArg (fun a : State => { a with chip.resetPin := false }) (with_reset_until h))
  rw [Bool.and_eq_true]
  exact fun ⟨_, hout⟩ => Bool.false_ne_true hout

theorem resetReleased_due (hin : inDeviceReset a = true) (h : ∀ T, a.chip.resetUntil = some T → T ≤ a.now) : resetReleased a =
    { a with chip.resetPin := false, chip.resetUntil := none, chip.booting := true, chip.bootAt := a.now } := by
  have hleft : resetLeft a = none := by
    rw [resetLeft]
    split
    · next T hT => exact if_pos (h T hT)
    · rfl
  rw [resetReleased, hleft]
  refine if_pos ?_
  rw [hin]
  rfl

/-- Power-on clears the core and its dies. -/
theorem poweredOn_clears (a : State) : ∃ l, poweredOn a = { coldCore { a with out := l } with
    chip.resetPin := false, chip.railsOut := false
    slot := { chan := (a.slot.chan.filter fun e => e.2.present).map fun e => (e.1, { present := true }), startedAt := a.now } } := by
  obtain ⟨l, hl⟩ := stopCad_emits a
  exact ⟨l, by rw [poweredOn, hl]⟩

theorem railsDipped_in (h : a.chip.railsOut = false) : ∃ l, railsDipped a =
    { coldCore { a with out := l } with chip.railsOut := true, chip.railAt := a.now } := by
  obtain ⟨l, hl⟩ := stopCad_emits a
  exact ⟨l, (if_neg (ne_true_of_eq_false h)).trans (by rw [hl])⟩

theorem trippedOff_running (htrip : a.chip.tripped = false) (hrails : a.chip.railsOut = false) : ∃ l, trippedOff a =
    { clearCore (emit (.thermTrip true) { a with out := l }) with
      chip.tripped := true, chip.trippedAt := a.now, slot.tripFlag := true } := by
  obtain ⟨l, hl⟩ := (Emits.refl a).emit_if (c := a.mgmt.oob.alertLow = true) (o := .alertPin false)
  refine ⟨l, (if_neg ?_).trans (by rw [hl])⟩
  rw [htrip, hrails]
  exact Bool.false_ne_true

end

end Sys2Proof.Machine

namespace Sys2Proof

open Machine

/-- Settles O37: a reset, a power-on, a dip and a trip are `clearCore` on a state that differs in what leaves the part. -/
theorem resetsAndPowerClearTheCore : Obligations.ResetsAndPowerClearTheCore := by
  unfold Obligations.ResetsAndPowerClearTheCore
  refine ⟨?resets, ?power⟩
  case resets =>
    intro s dt a
    refine ⟨fun h => ?begins, fun h => ⟨resetAsserted_eq.trans (run_gives rfl (resetAsserted_held h)),
      commandReset_eq.trans (run_gives rfl (commandReset_held h))⟩, fun h => ?quiet,
      fun h => resetReleased_eq.trans (run_gives rfl (resetReleased_idle h)),
      fun T h hearly => resetReleased_eq.trans (run_gives rfl (resetReleased_early h hearly)),
      fun hin h => resetReleased_eq.trans (run_gives rfl (resetReleased_due hin h))⟩
    case begins =>
      obtain ⟨l, hl⟩ := deviceReset_clears a
      have hpin := (resetAsserted_begins h).trans (by rw [hl])
      have hcommand := (commandReset_begins h).trans (by rw [hl])
      refine ⟨_, resetAsserted_eq.trans (run_gives rfl hpin), commandReset_eq.trans (run_gives rfl hcommand),
        fun hc hf hd => fatalReset_eq.trans (run_gives rfl ((if_pos ((fatal_iff a).2 ⟨hc, hf, hd⟩)).trans hcommand)), ?_⟩
      and_intros <;> rfl
    case quiet =>
      refine fatalReset_eq.trans (run_gives rfl (if_neg fun hc => ?_))
      obtain ⟨hc4, hset, hdue⟩ := (fatal_iff a).1 hc
      rcases h with h | h | h
      · exact Bool.false_ne_true (h.symm.trans hc4)
      · exact Bool.false_ne_true (h.symm.trans hset)
      · exact Nat.not_le.2 h hdue
  case power =>
    intro s dt a
    refine ⟨?on, fun h => ?dip, fun h => railsReturned_eq.trans (run_gives rfl (if_pos h)),
      fun h => railsDipped_eq.trans (run_gives rfl (if_pos h)),
      fun h => railsReturned_eq.trans (run_gives rfl (if_neg (ne_true_of_eq_false h))),
      fun h => trippedOff_eq.trans (run_gives rfl (if_pos (Bool.or_eq_true_iff.2 h))), fun htrip hrails => ?trip⟩
    case on =>
      obtain ⟨l, hl⟩ := poweredOn_clears a
      refine ⟨_, poweredOn_eq.trans (run_gives rfl hl), rfl, rfl, rfl, rfl, rfl, rfl, rfl, rfl, rfl, rfl, rfl, fun c hc => ?_⟩
      obtain ⟨e, -, rfl⟩ := List.mem_map.1 hc
      rfl
    case dip =>
      obtain ⟨l, hl⟩ := railsDipped_in h
      exact ⟨_, railsDipped_eq.trans (run_gives rfl hl), rfl, rfl, rfl, rfl⟩
    case trip =>
      obtain ⟨l, hl⟩ := trippedOff_running htrip hrails
      exact ⟨_, trippedOff_eq.trans (run_gives rfl hl), rfl, rfl, rfl, rfl, List.mem_append_right _ (List.mem_singleton.2 rfl)⟩

end Sys2Proof

/-! # Governor, cap, guard, setpoint, wear, re-shim and planer (R476 to R491, R529) -/

namespace Sys2Proof.Machine

section
variable {a s : State} {dt : Time} {tj : Int}

/-! ## The chip's own state, the power state and the ageing state -/

def load (s : State) : Chip × Power × Aging := (s.chip, s.power, s.aging)

theorem forAll_load {α : Type} {f : α → State → State} (h : ∀ x t, load (f x t) = load t) (l : List α) (s : State) :
    load (forAll l f s) = load s := forAll_field load f h l s

theorem Reported.load {t : State} (h : Reported s t) : load t = load s := (congrArg Machine.load h.rest :)

theorem deviceRecord_load (cause cls x y : Nat) (s : State) : load (deviceRecord cause cls x y s) = load s :=
  (deviceRecord_reported (.refl s)).load

theorem openSh_load (k : Nat) (s : State) : load (openSh k s) = load s := by
  unfold openSh
  extract_lets
  split <;> rfl

theorem wheelInsert_load (inst k E : Nat) (s : State) : load (wheelInsert inst k E s) = load s := by
  unfold wheelInsert
  extract_lets
  split
  · exact openSh_load ..
  · split <;> rfl

theorem rebaseSh_load (k : Nat) (old : Int) (s : State) : load (rebaseSh k old s) = load s := by
  unfold rebaseSh
  extract_lets
  split
  · rfl
  · split
    · exact wheelInsert_load ..
    · exact openSh_load ..

theorem settleHolds_load (byGovernor : Bool) (s : State) : load (settleHolds byGovernor s) = load s := by
  refine forAll_load (fun p t => ?_) _ s
  extract_lets holds t1
  split
  · rfl
  · split
    · exact deviceRecord_load ..
    · rfl

theorem stageRecords_load (m n : Nat) (s : State) : load (stageRecords m n s) = load s :=
  forAll_load (fun _ _ => deviceRecord_load ..) _ s

theorem setPower_load (f : Power → Power) (s : State) : load (setPower f s) =
    ({ s.chip with coreSlow := (f s.power).guard || decide (3 ≤ max (f s.power).stage (f s.power).capStage) }, f s.power, s.aging) := by
  unfold setPower
  dsimp only
  split
  · rfl
  · exact (settleHolds_load ..).trans (forAll_load (fun _ _ => rebaseSh_load ..) _ _)

/-! ## The governor (R491) -/

/-- The stage that a tick goes to. -/
def nextStage (tj : Int) (a : State) : Nat :=
  if a.power.stage < stageFor a.chip.orderingXt tj then stageFor a.chip.orderingXt tj
  else if a.power.stageAt + oneSec ≤ a.now then stageLeft a.chip.orderingXt tj a.power.stage else a.power.stage

theorem governorTick_idle (h : coreRuns a = false ∨ inDeviceReset a = true) : governorTick tj a = a := by
  refine if_pos ?_
  rcases h with h | h <;> simp [h]

theorem nextStage_eq (tj : Int) (a : State) : (if a.power.stage < stageFor a.chip.orderingXt tj then stageFor a.chip.orderingXt tj
    else if a.since a.power.stageAt oneSec then stageLeft a.chip.orderingXt tj a.power.stage else a.power.stage) = nextStage tj a := by
  simp only [State.since, decide_eq_true_eq, nextStage]

theorem governorTick_on (hcore : coreRuns a = true) (hreset : inDeviceReset a = false) : governorTick tj a =
    settleHolds false (stageRecords a.power.stage (nextStage tj a) (setPower
      (fun w => { w with tj := tj, stage := nextStage tj a, stageAt := if a.power.stage < nextStage tj a then a.now else w.stageAt })
      (if a.power.stage = 0 then a else countTime (cDev (cdStage + a.power.stage - 1)) ms a))) := by
  rw [← nextStage_eq]
  exact if_neg (by rw [hcore, hreset]; exact Bool.false_ne_true)

theorem stageTime_load (n i : Nat) (d : Time) (a : State) : load (if n = 0 then a else countTime i d a) = load a := by
  split <;> rfl

/-- The power state after a tick that goes to stage n. -/
def ticked (tj : Int) (n : Nat) (now : Time) (w : Power) : Power :=
  { w with tj := tj, stage := n, stageAt := if w.stage < n then now else w.stageAt }

theorem governorTick_load (hcore : coreRuns a = true) (hreset : inDeviceReset a = false) : load (governorTick tj a) =
    ({ a.chip with coreSlow := a.power.guard || decide (3 ≤ max (nextStage tj a) a.power.capStage) },
      ticked tj (nextStage tj a) a.now a.power, a.aging) := by
  have hcount := stageTime_load a.power.stage (cDev (cdStage + a.power.stage - 1)) ms a
  simp only [load, Prod.mk.injEq] at hcount
  obtain ⟨hchip, hpower, haging⟩ := hcount
  rw [governorTick_on hcore hreset, settleHolds_load, stageRecords_load, setPower_load, hchip, hpower, haging, ticked]

theorem stageFor_cool (xt : Bool) (h : tj < 100) : stageFor xt tj = 0 := by
  have hnone : ((List.range 5).filter fun k => k != 0 && decide (enterAt xt k ≤ tj)) = [] := by
    refine List.filter_eq_nil_iff.2 fun k _ => ?_
    have hk : 100 ≤ enterAt xt k := by
      unfold enterAt
      split <;> [decide; decide; decide; (cases xt <;> decide)]
    rw [Bool.and_eq_true, decide_eq_true_eq]
    omega
  rw [stageFor, hnone]
  rfl

theorem stageLeft_cool (xt : Bool) (h : tj < 97) (k : Nat) : stageLeft xt tj k = 0 := by
  induction k with
  | zero => rfl
  | succ k ih =>
    have hk : 97 ≤ leaveBelow xt (k + 1) := by
      unfold leaveBelow
      split <;> [decide; decide; decide; (cases xt <;> decide)]
    rw [stageLeft, if_pos (by omega), ih]

theorem stageFor_three (hlow : 103 ≤ tj) (hhigh : tj < 105) : stageFor false tj = 3 := by
  have h1 : (100 : Int) ≤ tj := by omega
  have h2 : (101 : Int) ≤ tj := by omega
  have h4 : ¬ (105 : Int) ≤ tj := by omega
  simp [stageFor, enterAt, List.range_succ, h1, h2, hlow, h4]

theorem stageFor_four (xt : Bool) (h : enterAt xt 4 ≤ tj) : stageFor xt tj = 4 := by
  have hk : 105 ≤ enterAt xt 4 := by cases xt <;> decide
  have h1 : (100 : Int) ≤ tj := by omega
  have h2 : (101 : Int) ≤ tj := by omega
  have h3 : (103 : Int) ≤ tj := by omega
  have hlist : ((List.range 5).filter fun k => k != 0 && decide (enterAt xt k ≤ tj)) = [1, 2, 3, 4] := by
    simp only [List.range_succ, List.range_zero, List.nil_append, List.cons_append, List.filter_cons, List.filter_nil]
    simp [h, show enterAt xt 1 ≤ tj from h1, show enterAt xt 2 ≤ tj from h2, show enterAt xt 3 ≤ tj from h3]
  rw [stageFor, hlist]
  rfl

theorem nextStage_entered {n : Nat} (hn : stageFor a.chip.orderingXt tj = n) (h : a.power.stage < n) : nextStage tj a = n := by
  rw [nextStage, hn, if_pos h]

theorem nextStage_cool (h : tj < 97) : nextStage tj a = if a.power.stageAt + oneSec ≤ a.now then 0 else a.power.stage := by
  rw [nextStage, stageFor_cool _ (by omega), if_neg (Nat.not_lt_zero _), stageLeft_cool _ h]

/-! ## The power cap and the current guard (R489, R490) -/

theorem capWindow_off {mw : Nat} (h : coreRuns a = false ∨ a.power.capW = 0) : capWindow mw a = a := by
  refine if_pos ?_
  rcases h with h | h <;> simp [h]

theorem capWindow_on {mw : Nat} (hcore : coreRuns a = true) (hcap : a.power.capW ≠ 0) : capWindow mw a =
    if a.power.capW * 1000 < mw then
      if a.power.capStage < 3 then setPower (fun w => { w with capStage := w.capStage + 1 }) a
      else { a with power.capMissed := a.power.capMissed + 1 }
    else if mw * 100 < a.power.capW * 95000 then setPower (fun w => { w with capStage := w.capStage - 1 }) a
    else a := if_neg (by simp [hcore, hcap])

theorem setGuard_off {on : Bool} (h : coreRuns a = false) : setGuard on a = a := if_neg (ne_true_of_eq_false h)

theorem setGuard_load {on : Bool} (h : coreRuns a = true) : load (setGuard on a) =
    ({ a.chip with coreSlow := on || decide (3 ≤ max a.power.stage a.power.capStage) }, { a.power with guard := on }, a.aging) := by
  rw [setGuard, if_pos h, setPower_load]

/-! ## The VDD_CORE setpoint (R529) -/

/-- The setpoint may move. -/
def VddMoves (a : State) : Prop := coreRuns a = true ∧ a.power.vddStopped = false ∧ a.power.vddStep ≠ a.power.vddTarget

theorem vddMoves_iff (a : State) : (!coreRuns a || a.power.vddStopped || decide (a.power.vddStep = a.power.vddTarget)) = true ↔ ¬ VddMoves a := by
  rw [VddMoves, Bool.or_eq_true, Bool.or_eq_true, Bool.not_eq_true', decide_eq_true_eq, ne_eq]
  rw [← Bool.not_eq_true, ← Bool.not_eq_true]
  tauto

theorem vddStep_still {ack fault : Bool} {word : BitVec 16} (h : ¬ VddMoves a) : vddStepNext ack fault word a = a := if_pos ((vddMoves_iff a).2 h)

/-- The next setpoint. -/
def vddNext (w : Power) : Nat := if w.vddStep < w.vddTarget then w.vddStep + 1 else w.vddStep - 1

theorem vddStep_moves {ack fault : Bool} {word : BitVec 16} (h : VddMoves a) : vddStepNext ack fault word a =
    emit (.pmbus 0x79 0) (emit (.pmbus 0x21 (vddNext a.power)) { a with
      power.vddStep := if ack then vddNext a.power else a.power.vddStep
      power.statusWord := if ack then word else a.power.statusWord
      power.vddStopped := !ack || fault }) := if_neg fun hc => (vddMoves_iff a).1 hc h

/-! ## The wear ledger (R476, R477) -/

theorem zip_fst_sublist {α β : Type} (l : List α) (m : List β) : ((l.zip m).map Prod.fst).Sublist l := by
  induction l generalizing m with
  | nil => exact List.Sublist.slnil
  | cons x l ih =>
    cases m with
    | nil => exact List.nil_sublist _
    | cons y m => exact (ih m).cons_cons x

theorem mem_charged {temps : List Int} {x : Nat × Int} : x ∈ ((List.range 6).zip temps).filter (fun x => diePowered a x.1) ↔
    (x.1 < 6 ∧ temps[x.1]? = some x.2) ∧ diePowered a x.1 = true := by
  rw [List.mem_filter, List.mem_iff_getElem?]
  refine and_congr_left fun _ => ⟨fun ⟨i, hi⟩ => ?_, fun ⟨hx, ht⟩ => ⟨x.1, List.getElem?_zip_eq_some.2 ⟨?_, ht⟩⟩⟩
  · obtain ⟨hfst, hsnd⟩ := List.getElem?_zip_eq_some.1 hi
    obtain ⟨hlt, he⟩ := List.getElem?_eq_some_iff.1 hfst
    rw [List.length_range] at hlt
    rw [List.getElem_range] at he
    exact he ▸ ⟨hlt, hsnd⟩
  · rw [List.getElem?_range hx]

theorem chargeDie_wear (x : Nat × Int) (s : State) : tget {} (chargeDie x s).aging.wear x.1 = wearOne x.2 (tget {} s.aging.wear x.1) := by
  rw [chargeDie, wearThresholds_aging]
  exact tget_tset ..

/-- A die in a list of different dies is charged once. -/
theorem forAll_chargeDie_charged {l : List (Nat × Int)} {x : Nat × Int} (hl : (l.map Prod.fst).Nodup) (hx : x ∈ l) (s : State) :
    tget {} (forAll l chargeDie s).aging.wear x.1 = wearOne x.2 (tget {} s.aging.wear x.1) := by
  induction l generalizing s with
  | nil => nomatch hx
  | cons y l ih =>
    rw [List.map_cons, List.nodup_cons] at hl
    obtain ⟨hy, hl⟩ := hl
    rw [forAll_cons]
    rcases List.mem_cons.1 hx with rfl | hx
    · rw [forAll_chargeDie_wear fun z hz e => hy (List.mem_map.2 ⟨z, hz, e.symm⟩), chargeDie_wear]
    · rw [ih hl hx, chargeDie_wear_ne y s fun e => hy (List.mem_map.2 ⟨x, hx, e⟩)]

theorem wearOne_eq (x : Int) (w : Wear) : wearOne x w = { w with
    charge := w.charge + (if x < 65 then 5 else if x < 75 then 10 else if x < 85 then 20 else if x < 95 then 36
      else if x ≤ 100 then 50 else 64)
    powered := w.powered + 1, hot := w.hot + (if 100 < x then 1 else 0), tMax := max w.tMax x } := by
  simp only [wearOne, wearFactor, b2n, decide_eq_true_eq]

theorem wearCharge_charged {temps : List Int} {d : Nat} {x : Int} (hx : temps[d]? = some x) (hd : d < 6) (hp : diePowered a d = true) :
    tget {} (wearCharge temps a).aging.wear d = wearOne x (tget {} a.aging.wear d) := by
  rw [wearCharge_eq]
  exact forAll_chargeDie_charged (x := (d, x))
    (((List.filter_sublist.map _).trans (zip_fst_sublist _ _)).nodup List.nodup_range) (mem_charged.2 ⟨⟨hd, hx⟩, hp⟩) a

theorem wearCharge_spared {temps : List Int} {d : Nat} (h : temps[d]? = none ∨ 6 ≤ d ∨ diePowered a d = false) :
    tget {} (wearCharge temps a).aging.wear d = tget {} a.aging.wear d := by
  rw [wearCharge_eq]
  refine forAll_chargeDie_wear fun x hx e => ?_
  obtain ⟨⟨hlt, ht⟩, hp⟩ := mem_charged.1 hx
  subst e
  rcases h with h | h | h
  · exact Option.some_ne_none _ (ht.symm.trans h)
  · exact Nat.not_le.2 hlt h
  · exact Bool.false_ne_true (h.symm.trans hp)

/-! ## Re-shimming (R480, R483 to R485) -/

/-- A run is due. -/
def ShimDue (a : State) : Prop := mcRuns a = true ∧ a.aging.running = false ∧ effStage a < 2 ∧
  a.aging.lastRun + a.aging.intervalD * 86400 ≤ coreSeconds a

/-- The effect of RESHIM_INTERVAL. -/
def shimInterval (slow : Nat) (s : State) : State :=
  if mcRuns s && !s.aging.running && decide (effStage s < 2) &&
      decide (s.aging.lastRun + s.aging.intervalD * 86400 ≤ coreSeconds s) then startReshim slow s
  else s

theorem shimInterval_eq {slow : Nat} : exec (.reshimInterval dt slow) s = run dt true (shimInterval slow) s := rfl

theorem shimDue_iff (a : State) : (mcRuns a && !a.aging.running && decide (effStage a < 2) &&
    decide (a.aging.lastRun + a.aging.intervalD * 86400 ≤ coreSeconds a)) = true ↔ ShimDue a := by
  simp only [Bool.and_eq_true, Bool.not_eq_true', decide_eq_true_eq, and_assoc, ShimDue]

theorem reshimStep_none {p : Nat} (h : tfind a.aging.notices p = none) : reshimStep p a = a := by
  rw [reshimStep, h]

/-- The step down of a port. -/
def steppedDown (p : Nat) (a : State) : State :=
  let s2 := addAction 4 { a with aging.notices := tdel a.aging.notices p, aging.overlay.rates := tput a.aging.overlay.rates p (targetRate a p - 1) }
  if (s2.port p).up then
    let s3 := modPort p (fun q => { q with recovery := true, rate := min q.rate (targetRate a p - 1) }) s2
    if (s2.port p).recovery then s3 else count1 (cPort p 16) s3
  else s2

theorem reshimStep_some {p : Nat} {u : Time} (h : tfind a.aging.notices p = some u) : reshimStep p a =
    if !a.aging.allowStep || !a.since u (a.aging.noticeS * oneSec) then a
    else if !maySteps a p then { a with aging.notices := tdel a.aging.notices p }
    else steppedDown p a := by
  rw [reshimStep, h]
  rfl

theorem ripe_iff (u : Time) (a : State) : (!a.aging.allowStep || !a.since u (a.aging.noticeS * oneSec)) = true ↔
    ¬ (a.aging.allowStep = true ∧ u + a.aging.noticeS * oneSec ≤ a.now) := by
  rw [← Bool.not_and, Bool.not_eq_true', ← Bool.not_eq_true, Bool.and_eq_true, State.since, decide_eq_true_eq]

theorem steppedDown_aging (p : Nat) (a : State) : (steppedDown p a).aging.notices = tdel a.aging.notices p ∧
    (steppedDown p a).aging.overlay.rates = tput a.aging.overlay.rates p (targetRate a p - 1) := by
  unfold steppedDown
  dsimp only
  split
  · split <;> exact ⟨rfl, rfl⟩
  · exact ⟨rfl, rfl⟩

theorem steppedDown_up {p : Nat} (h : (a.port p).up = true) :
    (steppedDown p a).port p = { a.port p with recovery := true, rate := min (a.port p).rate (targetRate a p - 1) } := by
  refine (congrArg (State.port · p) (if_pos h)).trans ?_
  dsimp only
  split
  · exact modPort_port_same ..
  · exact (count1_port ..).trans (modPort_port_same ..)

theorem steppedDown_down {p : Nat} (h : (a.port p).up = false) : (steppedDown p a).port p = a.port p :=
  (congrArg (State.port · p) (if_neg (ne_true_of_eq_false h))).trans rfl

theorem reshimComplete_off (h : mcRuns a = false ∨ a.aging.running = false) : reshimComplete a = a := by
  refine if_pos ?_
  rcases h with h | h <;> simp [h]

theorem reshimComplete_on (hmc : mcRuns a = true) (hrun : a.aging.running = true) : reshimComplete a =
    (fun s1 : State => if s1.aging.retrain.isEmpty && (!s1.aging.allowStep || s1.aging.notices.isEmpty) then
      deviceRecord 0x0B05 0 s1.aging.actions s1.aging.vddOfs (saveWear { s1 with aging.running := false, aging.lastRun := coreSeconds s1 })
    else s1) (forAll a.aging.retrain retrainOne a) := if_neg (by rw [hmc, hrun]; exact Bool.false_ne_true)

theorem shimDone_iff (u : State) : (u.aging.retrain.isEmpty && (!u.aging.allowStep || u.aging.notices.isEmpty)) = true ↔
    u.aging.retrain = [] ∧ (u.aging.notices = [] ∨ u.aging.allowStep = false) := by
  rw [Bool.and_eq_true, Bool.or_eq_true, Bool.not_eq_true', List.isEmpty_iff, List.isEmpty_iff, or_comm]

/-! ## The planer (R486, R487) -/

/-- A region is due. -/
def RegionDue (a : State) : Prop := coreRuns a = true ∧ a.aging.planerEn = true ∧ a.aging.inRegion = false ∧ effStage a < 2 ∧
  ∀ u, a.aging.lastStart = some u → u + a.aging.paceMs * ms ≤ a.now

/-- PACE_MS have passed since the last start. -/
def paced (a : State) : Bool := match a.aging.lastStart with
  | some t => a.since t (a.aging.paceMs * ms)
  | none => true

theorem paced_iff (a : State) : paced a = true ↔ ∀ u, a.aging.lastStart = some u → u + a.aging.paceMs * ms ≤ a.now := by
  unfold paced
  cases a.aging.lastStart with
  | none => simp
  | some t => simp [State.since]

theorem planerStart_eq (a : State) : planerStart a =
    if coreRuns a && a.aging.planerEn && !a.aging.inRegion && decide (effStage a < 2) && paced a then
      { a with aging.inRegion := true, aging.lastStart := some a.now }
    else a := rfl

theorem regionDue_iff (a : State) :
    (coreRuns a && a.aging.planerEn && !a.aging.inRegion && decide (effStage a < 2) && paced a) = true ↔ RegionDue a := by
  rw [Bool.and_eq_true, paced_iff]
  simp only [Bool.and_eq_true, Bool.not_eq_true', decide_eq_true_eq, and_assoc, RegionDue]

theorem logOnly_load (r : ErrRec) (s : State) : load (logOnly r s) = load s := (logOnly_reported (.refl s)).load

theorem record_load (ps : List Nat) (r : ErrRec) (s : State) : load (record ps r s) = load s := (record_reported (.refl s)).load

theorem memRecord_load (cls offset part : Nat) (s : State) : load (memRecord cls offset s part) = load s := by
  unfold memRecord
  extract_lets r
  split
  · unfold episodeRecord
    extract_lets
    split
    · rfl
    · split
      · exact record_load ..
      · exact record_load ..
  · exact logOnly_load ..

/-- The planer's place. -/
def place (s : State) : Nat × Nat := (s.aging.region, s.aging.passes)

theorem place_of_load {t : State} (h : load t = load s) : place t = place s := congrArg (fun l => (l.2.2.region, l.2.2.passes)) h

theorem repairRow_place (bank row : Nat) (s : State) : place (repairRow bank row s) = place s := by
  unfold repairRow
  split
  · exact place_of_load (s := { s with aging.spares := tmod 0 s.aging.spares bank (· + 1), errs.planerRows := s.errs.planerRows ++ [(bank, row)] })
      (logOnly_load ..)
  · dsimp only
    split <;> exact place_of_load (memRecord_load ..)

/-- The lasting faults of the planer's region, with a spare or a mark for each. -/
def regionRepaired (n : Nat) (rows : List Nat) (a : State) : State :=
  let b := regionPlace bankRegions 0 a.aging.region
  let s1 := count1 (cDev cdRegions) (countBy (cDev b.1) n a)
  forAll (rows.eraseDups.filter fun r => decide (r < 32) && !s1.errs.badRows.contains (b.1, 32 * b.2 + r))
    (fun r => repairRow b.1 (32 * b.2 + r)) s1

theorem regionRepaired_place (n : Nat) (rows : List Nat) (a : State) : place (regionRepaired n rows a) = place a :=
  forAll_field place _ (fun _ _ => repairRow_place ..) _ _

theorem regionRepaired_errs (n : Nat) (a : State) : (regionRepaired n [] a).errs = a.errs := rfl

theorem planerDone_off {n : Nat} {rows : List Nat} (h : coreRuns a = false ∨ a.aging.inRegion = false) : planerDone n rows a = a := by
  refine if_neg ?_
  rcases h with h | h <;> simp [h]

theorem planerDone_on {n : Nat} {rows : List Nat} (hcore : coreRuns a = true) (hin : a.aging.inRegion = true) : planerDone n rows a =
    { regionRepaired n rows a with
      aging.inRegion := false
      aging.region := ((regionRepaired n rows a).aging.region + 1) % 8304
      aging.passes := if ((regionRepaired n rows a).aging.region + 1) % 8304 = 0 then ((regionRepaired n rows a).aging.passes + 1) % 4096
        else (regionRepaired n rows a).aging.passes } := if_pos (by rw [hcore, hin]; rfl)

/-- The next region, the first one after the last. -/
theorem region_next {n : Nat} (h : n < 8304) : (n + 1) % 8304 = if n = 8303 then 0 else n + 1 := by
  split <;> omega

/-- The pass ends at the last region. -/
theorem region_wraps {n : Nat} (h : n < 8304) : (n + 1) % 8304 = 0 ↔ n = 8303 := by omega

end

end Sys2Proof.Machine

namespace Sys2Proof

open Machine

/-- Settles O60: each event is its effect when its guard holds and nothing otherwise; the records that go with it leave the chip, the power
state and the ageing state. -/
theorem powerGovernorAndAgeing : Obligations.PowerGovernorAndAgeing := by
  unfold Obligations.PowerGovernorAndAgeing
  refine ⟨?governor, ?setpoint, ?wear, ?shim, ?planer⟩
  case governor =>
    intro s dt tj mw a w xt
    refine ⟨fun h => run_gives (f := governorTick tj) rfl (governorTick_idle h), fun hcore hreset => ?tick,
      fun h => run_gives (f := capWindow mw) rfl (capWindow_off h), fun hcore hcap => ?cap,
      fun h => ⟨run_gives (f := setGuard true) rfl (setGuard_off h), run_gives (f := setGuard false) rfl (setGuard_off h)⟩, fun hcore => ?guard⟩
    case tick =>
      have hgives : Gives (.governorTick dt tj) s (governorTick tj a) := run_gives (f := governorTick tj) rfl rfl
      have hload := governorTick_load (tj := tj) hcore hreset
      simp only [load, Prod.mk.injEq] at hload
      obtain ⟨hchip, hpower, -⟩ := hload
      have hstage : (governorTick tj a).power.stage = nextStage tj a := by rw [hpower, ticked]
      refine ⟨⟨_, hgives, hpower, congrArg Chip.coreSlow hchip⟩, fun hxt hlow hhigh h => ⟨_, hgives, hstage.trans (nextStage_entered ?_ h)⟩,
        fun hxt hhot h => ⟨_, hgives, hstage.trans (nextStage_entered ?_ h)⟩,
        fun hxt hhot h => ⟨_, hgives, hstage.trans (nextStage_entered ?_ h)⟩,
        fun hcool hdue _ => ⟨_, hgives, hstage.trans ((nextStage_cool hcool).trans (if_pos hdue))⟩,
        fun hcool hearly => ⟨_, hgives, hstage.trans ((nextStage_cool hcool).trans (if_neg (Nat.not_le.2 hearly)))⟩⟩
      · exact (congrArg (stageFor · tj) hxt).trans (stageFor_three hlow hhigh)
      · exact (congrArg (stageFor · tj) hxt).trans (stageFor_four false hhot)
      · exact (congrArg (stageFor · tj) hxt).trans (stageFor_four true hhot)
    case cap =>
      have hgives {t : State} (h : capWindow mw a = t) : Gives (.powerCapWindow dt mw) s t := run_gives (f := capWindow mw) rfl h
      refine ⟨fun hover h => ?_, fun hover h => ?_, fun hunder => ?_, fun hover hunder => ?_⟩
      · exact hgives ((capWindow_on hcore hcap).trans ((if_pos hover).trans (if_pos h)))
      · exact hgives ((capWindow_on hcore hcap).trans ((if_pos hover).trans (if_neg (Nat.not_lt.2 h))))
      · have hover : ¬ w.capW * 1000 < mw := by omega
        exact hgives ((capWindow_on hcore hcap).trans ((if_neg hover).trans (if_pos hunder)))
      · exact hgives ((capWindow_on hcore hcap).trans ((if_neg (Nat.not_lt.2 hover)).trans (if_neg (Nat.not_lt.2 hunder))))
    case guard =>
      have hload (on : Bool) := setGuard_load (on := on) hcore
      simp only [load, Prod.mk.injEq] at hload
      obtain ⟨honchip, honpower, -⟩ := hload true
      obtain ⟨hoffchip, hoffpower, -⟩ := hload false
      refine ⟨setGuard true a, setGuard false a, run_gives (f := setGuard true) rfl rfl, honpower, ?_, run_gives (f := setGuard false) rfl rfl,
        hoffpower, ?_⟩
      · rw [honchip, Bool.true_or]
      · rw [hoffchip, Bool.false_or]
  case setpoint =>
    intro s dt fault word a w moves n
    refine ⟨fun ack h => run_gives (f := vddStepNext ack fault word) rfl (vddStep_still h), fun h => ⟨?acked, ?refused⟩,
      fun h => run_gives rfl (if_neg (ne_true_of_eq_false h)), fun h => ?alert⟩
    case acked =>
      exact ⟨_, run_gives (f := vddStepNext true fault word) rfl (vddStep_moves h), rfl, List.append_assoc ..⟩
    case refused =>
      exact ⟨_, run_gives (f := vddStepNext false fault word) rfl (vddStep_moves h), rfl⟩
    case alert =>
      exact ⟨_, run_gives rfl (if_pos h), rfl, rfl, rfl⟩
  case wear =>
    intro s dt temps a
    exact ⟨⟨_, run_gives (f := wearCharge temps) rfl rfl, fun d =>
        ⟨fun x hx hd hp => (wearCharge_charged hx hd hp).trans (wearOne_eq ..), wearCharge_spared⟩⟩,
      fun h => run_gives rfl (if_neg (ne_true_of_eq_false h)), fun h => ⟨_, run_gives rfl (if_pos h), rfl, rfl⟩⟩
  case shim =>
    intro s dt slow p a g due
    refine ⟨fun h => shimInterval_eq.trans (run_gives rfl (if_pos ((shimDue_iff a).2 h))),
      fun h => shimInterval_eq.trans (run_gives rfl (if_neg fun hc => h ((shimDue_iff a).1 hc))), fun hp => ?step,
      fun h => run_gives (f := reshimComplete) rfl (reshimComplete_off h), fun hmc hrun => ?complete⟩
    case step =>
      have hgives {t : State} (h : reshimStep p a = t) : Gives (.reshimStep dt p) s t :=
        run_gives (f := reshimStep p) (decide_eq_true hp) h
      refine ⟨fun h => hgives (reshimStep_none h), fun u hu => ?_⟩
      intro ripe
      have hnot : ripe → ¬ (!a.aging.allowStep || !a.since u (a.aging.noticeS * oneSec)) = true := fun hr hc => (ripe_iff u a).1 hc hr
      refine ⟨fun hr => hgives ((reshimStep_some hu).trans (if_pos ((ripe_iff u a).2 hr))), fun hr hm => ?_, fun hr hm => ?_⟩
      · exact hgives ((reshimStep_some hu).trans ((if_neg (hnot hr)).trans (if_pos (by rw [hm]; rfl))))
      · obtain ⟨hnotices, hrates⟩ := steppedDown_aging p a
        refine ⟨_, hgives ((reshimStep_some hu).trans ((if_neg (hnot hr)).trans (if_neg (by rw [hm]; exact Bool.false_ne_true)))), ?_, ?_,
          fun hup => ?_, steppedDown_down⟩
        · rw [hnotices]
          exact tfind_tdel ..
        · rw [hrates, tget, tfind_tput]
          rfl
        · rw [steppedDown_up hup]
          exact ⟨rfl, rfl⟩
    case complete =>
      intro u
      have hgives {t : State} (h : reshimComplete a = t) : Gives (.reshimComplete dt) s t := run_gives (f := reshimComplete) rfl h
      refine ⟨fun h => hgives ((reshimComplete_on hmc hrun).trans (if_neg fun hc => ?_)), fun hretrain hnotices => ?_⟩
      · obtain ⟨hretrain, hnotices⟩ := (shimDone_iff u).1 hc
        rcases h with h | ⟨hallow, hleft⟩
        · exact h hretrain
        · exact hnotices.elim hleft fun h => Bool.false_ne_true (h.symm.trans hallow)
      · refine ⟨_, hgives ((reshimComplete_on hmc hrun).trans (if_pos ((shimDone_iff u).2 ⟨hretrain, hnotices⟩))), ?_⟩
        rw [deviceRecord_aging]
        exact ⟨rfl, rfl, rfl, rfl⟩
  case planer =>
    intro s dt n rows a g due
    refine ⟨fun h => run_gives (f := planerStart) rfl ((planerStart_eq a).trans (if_pos ((regionDue_iff a).2 h))),
      fun h => run_gives (f := planerStart) rfl ((planerStart_eq a).trans (if_neg fun hc => h ((regionDue_iff a).1 hc))),
      fun h => run_gives (f := planerDone n rows) rfl (planerDone_off h), fun hcore hin hregion => ?done⟩
    have hplace := regionRepaired_place n rows a
    simp only [place, Prod.mk.injEq] at hplace
    obtain ⟨hat, hpasses⟩ := hplace
    refine ⟨_, run_gives (f := planerDone n rows) rfl (planerDone_on hcore hin), rfl, ?_, ?_, fun h => ?_⟩
    · rw [hat]
      exact region_next hregion
    · rw [hat, hpasses]
      exact if_congr (region_wraps hregion) rfl rfl
    · exact (congrArg (fun rows => (regionRepaired n rows a).errs) h).trans (regionRepaired_errs n a)

end Sys2Proof
